-- ==== Sys2Proof/Word.lean ====
section
/-! DEFINITION. The word types: a register word is 32 bits (R10), memory is bytes, cord time is 64 bits (R17). -/

namespace Sys2Proof

/-- A control-register or core word (R10, R176). -/
abbrev Word := BitVec 32

/-- One byte of memory. -/
abbrev Byte := BitVec 8

/-- A 64-bit count, such as cord time (R17). -/
abbrev DWord := BitVec 64

end Sys2Proof
end

