-- ==== Sys2Proof/Machine/RegMap.lean ====
section
/-! DEFINITION. The register map of the control window: every register the chapters list, with its block, offset, repetition,
pair half, fields, access codes (R11) and reset values, as the register tables of spec/00 to spec/13 give them; and the base of
each block's slot (R24).  A field whose Reset column names OTP or wires stands here at the value it has when OTP is blank; the
reset commands set it (R38, R370). -/

namespace Sys2Proof.Machine

/-- The blocks of the control window (R7, R24). -/
inductive Block where
  | CORD
  | GATH
  | TCE
  | LCE
  | FCL
  | JRN
  | OTP
  | LCS
  | THM
  | PSQ
  | OBS
  | PMX
  | ING
  | DMA
  | SHW
  | QST
  | CMP
  | DCP
  | STR
  | SYN
  | CKU
  | HYW
  | MOT
  | STP
  | HV
  | FUS
  deriving DecidableEq, Repr

/-- The access codes of R11. -/
inductive Acc where
  | RW | RO | W1C | W1S | WO | RWS
  deriving DecidableEq, Repr

/-- Which half of an R14 register pair a register is. -/
inductive Half where
  | none | lo | hi
  deriving DecidableEq, Repr

/-- One defined field of a register: bits [hi:lo], access code, reset value.  Bits in no field are reserved (R12). -/
structure FieldRow where
  hi : Nat
  lo : Nat
  acc : Acc
  reset : Nat
  deriving DecidableEq, Repr

/-- One row of a register map: the register stands at off + stride * k of its block's slot, k < count. -/
structure RegRow where
  block : Block
  off : Nat
  stride : Nat
  count : Nat
  half : Half
  fields : List FieldRow
  deriving DecidableEq, Repr

/-- Base address of instance 0 of a block; instance n stands 0x40000 * n above it (R24). -/
def Block.base : Block → Nat
  | .CORD => 0x0000000
  | .GATH => 0x0040000
  | .TCE => 0x0080000
  | .LCE => 0x00C0000
  | .FCL => 0x0100000
  | .JRN => 0x0140000
  | .OTP => 0x0180000
  | .LCS => 0x01C0000
  | .THM => 0x0200000
  | .PSQ => 0x0240000
  | .OBS => 0x0280000
  | .PMX => 0x02C0000
  | .ING => 0x0300000
  | .DMA => 0x0340000
  | .SHW => 0x0380000
  | .QST => 0x03C0000
  | .CMP => 0x0400000
  | .DCP => 0x0500000
  | .STR => 0x0600000
  | .SYN => 0x0800000
  | .CKU => 0x0A00000
  | .HYW => 0x0C00000
  | .MOT => 0x1000000
  | .STP => 0x1400000
  | .HV => 0x1800000
  | .FUS => 0x1C00000

/-- Number of instances of a block on the CGB-4880 (R2, R24). -/
def Block.count : Block → Nat
  | .CORD => 1
  | .GATH => 1
  | .TCE => 1
  | .LCE => 1
  | .FCL => 1
  | .JRN => 1
  | .OTP => 1
  | .LCS => 1
  | .THM => 1
  | .PSQ => 1
  | .OBS => 1
  | .PMX => 1
  | .ING => 1
  | .DMA => 1
  | .SHW => 1
  | .QST => 1
  | .CMP => 2
  | .DCP => 4
  | .STR => 4
  | .SYN => 6
  | .CKU => 8
  | .HYW => 8
  | .MOT => 8
  | .STP => 12
  | .HV => 12
  | .FUS => 2

/-- Every block. -/
def Block.all : List Block :=
  [.CORD, .GATH, .TCE, .LCE, .FCL, .JRN, .OTP, .LCS, .THM, .PSQ, .OBS, .PMX, .ING, .DMA, .SHW, .QST, .CMP, .DCP, .STR, .SYN, .CKU, .HYW, .MOT, .STP, .HV, .FUS]

/-- The registers, named BLOCK_REGISTER; repeated registers are one name with an index. -/
inductive Reg where
  | CORD_NOW_LO
  | CORD_NOW_HI
  | CORD_STAT
  | TCE_QCFG
  | TCE_QBASE
  | TCE_QHEAD
  | TCE_QTAIL
  | PMX_CLAIMREQ
  | PMX_CLAIMRES
  | LCS_BOOTSTAT
  | GATH_CTRL
  | GATH_TIMING
  | GATH_FEED
  | GATH_FUS_RATE
  | GATH_FUS_DEPTH
  | GATH_FUS_LEVEL
  | GATH_SITE_W
  | GATH_BASE_W
  | GATH_SITE_DEPTH
  | GATH_SITE_LEVEL
  | GATH_DIEGAP
  | GATH_GAPMIN
  | GATH_GEOM0
  | GATH_GEOM1
  | GATH_GEOM2
  | GATH_GEOM3
  | GATH_GEOM4
  | GATH_GCOMMIT
  | GATH_WEB
  | GATH_SCMD
  | GATH_SCMDFSN
  | GATH_SCMDRES
  | GATH_SCFG
  | GATH_SSTAT
  | GATH_SNEXT
  | GATH_SDEL
  | GATH_MEDIA_A
  | GATH_MEDIA_B
  | STR_CTRL
  | STR_STAT
  | STR_SCAN
  | STR_AMP
  | STR_DRIVE
  | STR_PERIOD
  | STR_BD
  | STR_BDSTAT
  | STR_APC
  | STR_POLY
  | STR_POLYF
  | STR_PHASE
  | STR_WINDOW
  | STR_PROF
  | STR_PULSE
  | STR_REGSCAN
  | STR_DIROFS
  | STR_BEAMOFS
  | STR_LDCMD
  | STR_CALBUF
  | STR_CALN
  | STR_GLOBAL
  | STR_SPEED
  | STR_CALT_LO
  | STR_CALT_HI
  | STR_PCOMMIT
  | STR_COMMIT
  | STR_GCOMMIT
  | DMA_APER_BASE_LO
  | DMA_APER_BASE_HI
  | DMA_CHCFG
  | DMA_CHCTRL
  | DMA_CHSTAT
  | DMA_CHBYTES
  | SHW_PAGE
  | ING_CTRL
  | ING_CTX_CFG
  | ING_CTX_JOB
  | ING_CTX_NB
  | ING_CTX_STAT
  | ING_CTX_LOC_LO
  | ING_CTX_LOC_HI
  | ING_CTX_CRC
  | ING_CTX_TAIL
  | CMP_CTRL
  | CMP_STAT
  | QST_QRING
  | QST_QSTAT
  | DCP_CTRL
  | DCP_JOB_LO
  | DCP_JOB_HI
  | DCP_STAT
  | TCE_CORERST
  | TCE_SPARE
  | TCE_CSTAT
  | TCE_WDOG
  | TCE_EDGESEL
  | MOT_CTRL
  | MOT_CFG
  | MOT_PWM
  | MOT_PHOFS
  | MOT_RATED
  | MOT_ALIGN
  | MOT_RAMP
  | MOT_SREG
  | MOT_MODEL
  | MOT_MODEL2
  | MOT_GEAR
  | MOT_LIM
  | MOT_STAT
  | MOT_MEAS_I
  | MOT_MEAS_W
  | MOT_MEAS_P
  | MOT_VCMD
  | MOT_SREF
  | MOT_CATCH
  | MOT_DIAG
  | MOT_ADV
  | MOT_ADVCOMMIT
  | MOT_COMMIT
  | STP_CTRL
  | STP_CHOP
  | STP_CURR
  | STP_VSTART
  | STP_VSTOP
  | STP_V1
  | STP_VMAX
  | STP_A1
  | STP_A2
  | STP_TARGET
  | STP_PCOMMIT
  | STP_POS
  | STP_SPEED
  | STP_LATCH
  | STP_LPOS
  | STP_LTIME_LO
  | STP_LTIME_HI
  | STP_STAT
  | STP_BUS0
  | STP_BUS1
  | STP_BUS2
  | STP_BUSSTAT
  | FUS_CTRL
  | FUS_CFG
  | FUS_LIM
  | FUS_SCALE
  | FUS_THCFG
  | FUS_BAND
  | FUS_TEMP
  | FUS_TH01
  | FUS_ICUR
  | FUS_POWER
  | FUS_STAT
  | FUS_FLT
  | HV_CTRL
  | HV_CFG
  | HV_SCALE
  | HV_SETA
  | HV_SETB
  | HV_LIMIT
  | HV_ARC
  | HV_MEAS
  | HV_MEAS2
  | HV_REF
  | HV_STAT
  | HV_APPLIED
  | LCE_CTRL
  | LCE_APCRES
  | LCE_APCSTAMP_LO
  | LCE_APCSTAMP_HI
  | SYN_CTRL
  | SYN_STAT
  | SYN_DIV
  | SYN_CKO
  | SYN_DCOMMIT
  | SYN_CKOEN
  | SYN_ALIGN
  | SYN_RAMP
  | SYN_KVAL
  | SYN_FNOW
  | SYN_RANGE
  | THM_LEVELS
  | THM_STAT
  | THM_BROKEN
  | THM_TS
  | THM_TXCFG
  | THM_TXLIM
  | THM_TX
  | THM_TXSTAT
  | THM_PAIRCFG
  | PSQ_CTRL
  | PSQ_CMD
  | PSQ_STAT
  | PSQ_ENTRY
  | PSQ_PGCFG
  | PSQ_VIN
  | PSQ_COOP
  | PSQ_WAKE
  | PSQ_CAUSE
  | PSQ_RAILCFG
  | PSQ_ENSTAT
  | PSQ_PGSTAT
  | PSQ_SLAVE
  | PSQ_PROG
  | PSQ_MRG
  | CKU_CTRL
  | CKU_CFG
  | CKU_POLY_LO
  | CKU_POLY_HI
  | CKU_INIT_LO
  | CKU_INIT_HI
  | CKU_RUN_LO
  | CKU_RUN_HI
  | CKU_OUT_LO
  | CKU_OUT_HI
  | CKU_DIN32
  | CKU_DIN8
  | CKU_BIND
  | CKU_STAT
  | FCL_CTRL
  | FCL_CLASSB
  | FCL_STAT
  | FCL_KCMD
  | FCL_ACK
  | FCL_HEAD
  | FCL_RINGCFG
  | FCL_FORCE
  | FCL_SRCCFG
  | FCL_KPAD
  | FCL_HIST_STAMP_LO
  | FCL_HIST_STAMP_HI
  | FCL_HIST_INFO
  | FCL_HIST_FSN
  | FCL_HIST_EPOCH
  | FCL_HIST_STATE
  | JRN_CMD
  | JRN_EPOCH
  | JRN_STAT
  | JRN_SEQ
  | JRN_TAILSEQ
  | JRN_SEALEPOCH
  | JRN_UNITEP
  | JRN_RIDX
  | JRN_RDATA
  | OTP_DEVID
  | OTP_STAT
  | OTP_RADDR
  | OTP_RDATA
  | OTP_PADDR
  | OTP_PDATA
  | OTP_PCMD
  | OTP_PSTAT
  | OTP_SCRUB
  | OTP_MLIST
  | LCS_BOOTCMD
  | LCS_WARMRST
  | LCS_CHIPID_LO
  | LCS_CHIPID_HI
  | LCS_NONCE
  | LCS_TOKEN
  | LCS_STATE
  | LCS_LCCMD
  | LCS_RESULT
  | LCS_ROSC
  | HYW_CTRL
  | HYW_CFG
  | HYW_CFG2
  | HYW_STAT
  | HYW_ID_LO
  | HYW_ID_HI
  | HYW_RATED
  | HYW_LIFE
  | HYW_METER
  | OBS_CTRL
  | OBS_STAT
  | OBS_HOSTEN
  | OBS_UACC
  | OBS_TRCCFG
  | OBS_EVTMASK
  | OBS_BUFBASE_LO
  | OBS_BUFBASE_HI
  | OBS_BUFSIZE
  | OBS_BUFWP
  | OBS_MARK
  | OBS_BWCFG
  | OBS_BWLAST
  | OBS_BWPEAK
  | OBS_EVSEL
  | OBS_CNT_LO
  | OBS_CNT_HI
  | OBS_FIX_LO
  | OBS_FIX_HI
  | OBS_SAMP_PC
  | OBS_SAMP_INFO
  | PMX_PADCFG
  | PMX_SNSWIRE
  | PMX_SNSSTAT
  deriving DecidableEq, Repr

/-- The map rows of CORD (01_architecture of spec/). -/
def rowsCORD : List (Reg × RegRow) := [
  (.CORD_NOW_LO, ⟨.CORD, 0x0, 0x4, 1, .lo, [⟨31, 0, .RO, 0⟩]⟩),
  (.CORD_NOW_HI, ⟨.CORD, 0x4, 0x4, 1, .hi, [⟨31, 0, .RO, 0⟩]⟩),
  (.CORD_STAT, ⟨.CORD, 0x8, 0x4, 1, .none, [⟨31, 31, .W1C, 0⟩, ⟨5, 2, .RO, 0⟩, ⟨1, 1, .RO, 0⟩, ⟨0, 0, .RO, 0⟩]⟩)]

/-- The map rows of GATH (02_folio of spec/). -/
def rowsGATH : List (Reg × RegRow) := [
  (.GATH_CTRL, ⟨.GATH, 0x0, 0x4, 1, .none, [⟨31, 31, .WO, 0⟩, ⟨6, 4, .RW, 1⟩, ⟨1, 1, .RW, 0⟩, ⟨0, 0, .RW, 0⟩]⟩),
  (.GATH_TIMING, ⟨.GATH, 0x38, 0x4, 1, .none, [⟨31, 24, .RW, 5⟩, ⟨23, 16, .RW, 0x32⟩, ⟨15, 8, .RW, 0x14⟩, ⟨7, 0, .RW, 0x14⟩]⟩),
  (.GATH_FEED, ⟨.GATH, 0x3c, 0x4, 1, .none, [⟨15, 8, .RW, 0xa⟩, ⟨7, 0, .RW, 0x28⟩]⟩),
  (.GATH_FUS_RATE, ⟨.GATH, 0x10, 0x4, 1, .none, [⟨31, 0, .RW, 0⟩]⟩),
  (.GATH_FUS_DEPTH, ⟨.GATH, 0x14, 0x4, 1, .none, [⟨31, 0, .RW, 0⟩]⟩),
  (.GATH_FUS_LEVEL, ⟨.GATH, 0x18, 0x4, 1, .none, [⟨31, 0, .RO, 0⟩]⟩),
  (.GATH_SITE_W, ⟨.GATH, 0x20, 0x4, 1, .none, [⟨31, 0, .RW, 0⟩]⟩),
  (.GATH_BASE_W, ⟨.GATH, 0x24, 0x4, 1, .none, [⟨31, 0, .RW, 0⟩]⟩),
  (.GATH_SITE_DEPTH, ⟨.GATH, 0x28, 0x4, 1, .none, [⟨31, 0, .RW, 0⟩]⟩),
  (.GATH_SITE_LEVEL, ⟨.GATH, 0x2c, 0x4, 1, .none, [⟨31, 0, .RO, 0⟩]⟩),
  (.GATH_DIEGAP, ⟨.GATH, 0x30, 0x4, 1, .none, [⟨31, 16, .RW, 0x1f4⟩, ⟨15, 0, .RO, 0⟩]⟩),
  (.GATH_GAPMIN, ⟨.GATH, 0x34, 0x4, 1, .none, [⟨15, 0, .RW, 0x168⟩]⟩),
  (.GATH_GEOM0, ⟨.GATH, 0x40, 0x4, 1, .none, [⟨31, 16, .RW, 0⟩, ⟨15, 0, .RW, 0⟩]⟩),
  (.GATH_GEOM1, ⟨.GATH, 0x44, 0x4, 1, .none, [⟨31, 16, .RW, 0⟩, ⟨15, 0, .RW, 0⟩]⟩),
  (.GATH_GEOM2, ⟨.GATH, 0x48, 0x4, 1, .none, [⟨31, 16, .RW, 0⟩, ⟨15, 0, .RW, 0⟩]⟩),
  (.GATH_GEOM3, ⟨.GATH, 0x4c, 0x4, 1, .none, [⟨31, 16, .RW, 0⟩, ⟨15, 0, .RW, 0⟩]⟩),
  (.GATH_GEOM4, ⟨.GATH, 0x50, 0x4, 1, .none, [⟨31, 16, .RW, 0⟩, ⟨15, 0, .RW, 0⟩]⟩),
  (.GATH_GCOMMIT, ⟨.GATH, 0x5c, 0x4, 1, .none, [⟨31, 31, .RO, 0⟩, ⟨30, 30, .W1C, 0⟩, ⟨23, 8, .RO, 0⟩, ⟨0, 0, .WO, 0⟩]⟩),
  (.GATH_WEB, ⟨.GATH, 0x60, 0x4, 1, .none, [⟨31, 31, .RW, 0⟩, ⟨27, 16, .RW, 0x64⟩, ⟨15, 0, .RW, 0xbb8⟩]⟩),
  (.GATH_SCMD, ⟨.GATH, 0x80, 0x4, 1, .none, [⟨31, 28, .WO, 0⟩, ⟨2, 0, .WO, 0⟩]⟩),
  (.GATH_SCMDFSN, ⟨.GATH, 0x84, 0x4, 1, .none, [⟨31, 0, .RW, 0⟩]⟩),
  (.GATH_SCMDRES, ⟨.GATH, 0x88, 0x4, 1, .none, [⟨31, 31, .RO, 0⟩, ⟨30, 30, .RO, 0⟩, ⟨15, 0, .RO, 0⟩]⟩),
  (.GATH_SCFG, ⟨.GATH, 0x100, 0x10, 8, .none, [⟨31, 31, .RW, 0⟩, ⟨30, 28, .RW, 0⟩, ⟨23, 20, .RW, 3⟩, ⟨19, 16, .RW, 4⟩]⟩),
  (.GATH_SSTAT, ⟨.GATH, 0x104, 0x10, 8, .none, [⟨31, 28, .RO, 0⟩, ⟨27, 24, .RO, 0⟩, ⟨23, 23, .RO, 0⟩, ⟨22, 16, .RO, 0⟩, ⟨15, 15, .RO, 0⟩, ⟨14, 0, .RO, 0⟩]⟩),
  (.GATH_SNEXT, ⟨.GATH, 0x108, 0x10, 8, .none, [⟨31, 0, .RO, 0⟩]⟩),
  (.GATH_SDEL, ⟨.GATH, 0x10c, 0x10, 8, .none, [⟨31, 0, .RO, 0⟩]⟩),
  (.GATH_MEDIA_A, ⟨.GATH, 0x400, 0x8, 64, .none, [⟨31, 16, .RW, 0⟩, ⟨15, 0, .RW, 0⟩]⟩),
  (.GATH_MEDIA_B, ⟨.GATH, 0x404, 0x8, 64, .none, [⟨31, 24, .RW, 0⟩, ⟨23, 16, .RW, 0⟩, ⟨0, 0, .RW, 0⟩]⟩)]

/-- The map rows of TCE (01_architecture of spec/). -/
def rowsTCE : List (Reg × RegRow) := [
  (.TCE_QCFG, ⟨.TCE, 0x1000, 0x10, 128, .none, [⟨31, 28, .RW, 0⟩, ⟨27, 24, .RW, 0⟩, ⟨23, 19, .RW, 0⟩, ⟨18, 14, .RW, 0⟩, ⟨13, 12, .RW, 0⟩, ⟨11, 8, .RW, 4⟩, ⟨0, 0, .RW, 0⟩]⟩),
  (.TCE_QBASE, ⟨.TCE, 0x1004, 0x10, 128, .none, [⟨19, 6, .RW, 0⟩]⟩),
  (.TCE_QHEAD, ⟨.TCE, 0x1008, 0x10, 128, .none, [⟨11, 0, .RW, 0⟩]⟩),
  (.TCE_QTAIL, ⟨.TCE, 0x100c, 0x10, 128, .none, [⟨11, 0, .RW, 0⟩]⟩),
  (.TCE_CORERST, ⟨.TCE, 0x4, 0x4, 1, .none, [⟨31, 24, .WO, 0⟩, ⟨4, 0, .WO, 0⟩]⟩),
  (.TCE_SPARE, ⟨.TCE, 0x8, 0x4, 1, .none, [⟨31, 31, .RW, 0⟩, ⟨30, 30, .RO, 0⟩, ⟨28, 24, .RO, 0⟩, ⟨4, 0, .RW, 0x17⟩]⟩),
  (.TCE_CSTAT, ⟨.TCE, 0x100, 0x4, 24, .none, [⟨31, 28, .RO, 0⟩, ⟨23, 16, .RO, 0⟩, ⟨15, 8, .RO, 0⟩]⟩),
  (.TCE_WDOG, ⟨.TCE, 0x200, 0x4, 24, .none, [⟨15, 0, .RW, 0⟩]⟩),
  (.TCE_EDGESEL, ⟨.TCE, 0x300, 0x4, 32, .none, [⟨31, 31, .RW, 0⟩, ⟨15, 0, .RW, 0⟩]⟩)]

/-- The map rows of LCE (07_loops of spec/). -/
def rowsLCE : List (Reg × RegRow) := [
  (.LCE_CTRL, ⟨.LCE, 0x0, 0x4, 1, .none, [⟨31, 31, .WO, 0⟩]⟩),
  (.LCE_APCRES, ⟨.LCE, 0x100, 0x4, 32, .none, [⟨31, 16, .RO, 0⟩, ⟨15, 12, .RO, 0⟩, ⟨11, 0, .RO, 0⟩]⟩),
  (.LCE_APCSTAMP_LO, ⟨.LCE, 0x180, 0x8, 4, .lo, [⟨31, 0, .RO, 0⟩]⟩),
  (.LCE_APCSTAMP_HI, ⟨.LCE, 0x184, 0x8, 4, .hi, [⟨31, 0, .RO, 0⟩]⟩)]

/-- The map rows of FCL (10_integrity of spec/). -/
def rowsFCL : List (Reg × RegRow) := [
  (.FCL_CTRL, ⟨.FCL, 0x0, 0x4, 1, .none, [⟨15, 8, .RW, 1⟩, ⟨1, 0, .RW, 0⟩]⟩),
  (.FCL_CLASSB, ⟨.FCL, 0x4, 0x4, 1, .none, [⟨19, 0, .RW, 0x7d0⟩]⟩),
  (.FCL_STAT, ⟨.FCL, 0x8, 0x4, 1, .none, [⟨31, 31, .RO, 0⟩, ⟨30, 30, .RO, 1⟩, ⟨29, 29, .RO, 0⟩, ⟨28, 24, .RO, 0⟩, ⟨23, 16, .RO, 0⟩, ⟨15, 8, .RO, 0⟩, ⟨7, 0, .W1C, 0⟩]⟩),
  (.FCL_KCMD, ⟨.FCL, 0xc, 0x4, 1, .none, [⟨31, 24, .WO, 0⟩, ⟨0, 0, .WO, 0⟩]⟩),
  (.FCL_ACK, ⟨.FCL, 0x10, 0x4, 1, .none, [⟨15, 8, .WO, 0⟩, ⟨3, 0, .WO, 0⟩]⟩),
  (.FCL_HEAD, ⟨.FCL, 0x14, 0x4, 1, .none, [⟨15, 8, .RO, 0⟩, ⟨3, 0, .RO, 0xf⟩]⟩),
  (.FCL_RINGCFG, ⟨.FCL, 0x18, 0x4, 1, .none, [⟨31, 31, .RW, 0⟩, ⟨22, 16, .RW, 0x60⟩, ⟨15, 0, .RO, 0⟩]⟩),
  (.FCL_FORCE, ⟨.FCL, 0x20, 0x4, 8, .none, [⟨31, 0, .W1S, 0⟩]⟩),
  (.FCL_SRCCFG, ⟨.FCL, 0x100, 0x4, 64, .none, [⟨31, 24, .RW, 1⟩, ⟨15, 8, .RW, 5⟩, ⟨1, 0, .RW, 0⟩]⟩),
  (.FCL_KPAD, ⟨.FCL, 0x200, 0x4, 8, .none, [⟨31, 31, .RW, 0⟩, ⟨30, 30, .RW, 0⟩, ⟨15, 0, .RW, 0⟩]⟩),
  (.FCL_HIST_STAMP_LO, ⟨.FCL, 0x400, 0x20, 16, .lo, [⟨31, 0, .RO, 0⟩]⟩),
  (.FCL_HIST_STAMP_HI, ⟨.FCL, 0x404, 0x20, 16, .hi, [⟨31, 0, .RO, 0⟩]⟩),
  (.FCL_HIST_INFO, ⟨.FCL, 0x408, 0x20, 16, .none, [⟨31, 0, .RO, 0⟩]⟩),
  (.FCL_HIST_FSN, ⟨.FCL, 0x40c, 0x20, 16, .none, [⟨31, 0, .RO, 0⟩]⟩),
  (.FCL_HIST_EPOCH, ⟨.FCL, 0x410, 0x20, 16, .none, [⟨31, 0, .RO, 0⟩]⟩),
  (.FCL_HIST_STATE, ⟨.FCL, 0x414, 0x20, 16, .none, [⟨31, 31, .RO, 0⟩, ⟨30, 30, .RO, 0⟩, ⟨29, 29, .RO, 0⟩, ⟨15, 8, .RO, 0⟩, ⟨7, 0, .RO, 0⟩]⟩)]

/-- The map rows of JRN (10_integrity of spec/). -/
def rowsJRN : List (Reg × RegRow) := [
  (.JRN_CMD, ⟨.JRN, 0x0, 0x4, 1, .none, [⟨31, 24, .WO, 0⟩, ⟨3, 0, .WO, 0⟩]⟩),
  (.JRN_EPOCH, ⟨.JRN, 0x4, 0x4, 1, .none, [⟨31, 0, .RO, 0⟩]⟩),
  (.JRN_STAT, ⟨.JRN, 0x8, 0x4, 1, .none, [⟨31, 28, .RO, 0⟩, ⟨27, 27, .RO, 0⟩, ⟨26, 26, .RO, 0⟩, ⟨25, 25, .RO, 0⟩, ⟨24, 24, .W1C, 0⟩, ⟨23, 23, .W1C, 0⟩, ⟨22, 22, .W1C, 0⟩, ⟨10, 0, .RO, 0⟩]⟩),
  (.JRN_SEQ, ⟨.JRN, 0xc, 0x4, 1, .none, [⟨31, 0, .RO, 0⟩]⟩),
  (.JRN_TAILSEQ, ⟨.JRN, 0x10, 0x4, 1, .none, [⟨31, 0, .RO, 0⟩]⟩),
  (.JRN_SEALEPOCH, ⟨.JRN, 0x14, 0x4, 1, .none, [⟨31, 0, .RO, 0⟩]⟩),
  (.JRN_UNITEP, ⟨.JRN, 0x20, 0x4, 4, .none, [⟨31, 0, .RO, 0⟩]⟩),
  (.JRN_RIDX, ⟨.JRN, 0x40, 0x4, 1, .none, [⟨31, 31, .RW, 0⟩, ⟨30, 30, .RO, 0⟩, ⟨11, 0, .RW, 0⟩]⟩),
  (.JRN_RDATA, ⟨.JRN, 0x50, 0x4, 8, .none, [⟨31, 0, .RO, 0⟩]⟩)]

/-- The map rows of OTP (00_scope of spec/). -/
def rowsOTP : List (Reg × RegRow) := [
  (.OTP_DEVID, ⟨.OTP, 0x0, 0x4, 1, .none, [⟨31, 16, .RO, 0⟩, ⟨15, 12, .RO, 0⟩, ⟨11, 8, .RO, 0⟩, ⟨7, 4, .RO, 0⟩]⟩),
  (.OTP_STAT, ⟨.OTP, 0x4, 0x4, 1, .none, [⟨31, 31, .RO, 0⟩, ⟨30, 30, .RO, 0⟩, ⟨29, 29, .RO, 0⟩, ⟨28, 24, .RO, 0⟩, ⟨23, 16, .RO, 0⟩, ⟨15, 11, .RO, 0⟩, ⟨10, 0, .RO, 0⟩]⟩),
  (.OTP_RADDR, ⟨.OTP, 0x8, 0x4, 1, .none, [⟨10, 0, .RW, 0⟩]⟩),
  (.OTP_RDATA, ⟨.OTP, 0xc, 0x4, 1, .none, [⟨31, 0, .RO, 0⟩]⟩),
  (.OTP_PADDR, ⟨.OTP, 0x10, 0x4, 1, .none, [⟨10, 0, .RW, 0⟩]⟩),
  (.OTP_PDATA, ⟨.OTP, 0x14, 0x4, 1, .none, [⟨31, 0, .RW, 0⟩]⟩),
  (.OTP_PCMD, ⟨.OTP, 0x18, 0x4, 1, .none, [⟨31, 24, .WO, 0⟩, ⟨6, 4, .WO, 0⟩, ⟨3, 0, .WO, 0⟩]⟩),
  (.OTP_PSTAT, ⟨.OTP, 0x1c, 0x4, 1, .none, [⟨31, 31, .RO, 0⟩, ⟨30, 30, .RO, 0⟩, ⟨23, 16, .RO, 0⟩, ⟨10, 0, .RO, 0⟩]⟩),
  (.OTP_SCRUB, ⟨.OTP, 0x20, 0x4, 1, .none, [⟨31, 31, .W1C, 0⟩, ⟨23, 16, .RO, 0⟩, ⟨10, 0, .RO, 0⟩]⟩),
  (.OTP_MLIST, ⟨.OTP, 0x40, 0x4, 8, .none, [⟨31, 31, .RO, 0⟩, ⟨26, 16, .RO, 0⟩, ⟨15, 15, .RO, 0⟩, ⟨10, 0, .RO, 0⟩]⟩)]

/-- The map rows of LCS (01_architecture of spec/). -/
def rowsLCS : List (Reg × RegRow) := [
  (.LCS_BOOTSTAT, ⟨.LCS, 0x0, 0x4, 1, .none, [⟨31, 24, .RO, 0⟩, ⟨23, 16, .RO, 0⟩, ⟨7, 4, .RO, 0⟩]⟩),
  (.LCS_BOOTCMD, ⟨.LCS, 0x4, 0x4, 1, .none, [⟨31, 0, .WO, 0⟩]⟩),
  (.LCS_WARMRST, ⟨.LCS, 0x8, 0x4, 1, .none, [⟨31, 0, .WO, 0⟩]⟩),
  (.LCS_CHIPID_LO, ⟨.LCS, 0x30, 0x4, 1, .lo, [⟨31, 0, .RO, 0⟩]⟩),
  (.LCS_CHIPID_HI, ⟨.LCS, 0x34, 0x4, 1, .hi, [⟨31, 0, .RO, 0⟩]⟩),
  (.LCS_NONCE, ⟨.LCS, 0x20, 0x4, 4, .none, [⟨31, 0, .RO, 0⟩]⟩),
  (.LCS_TOKEN, ⟨.LCS, 0x100, 0x4, 40, .none, [⟨31, 0, .WO, 0⟩]⟩),
  (.LCS_STATE, ⟨.LCS, 0xc, 0x4, 1, .none, [⟨31, 28, .RO, 0⟩, ⟨27, 24, .RO, 0⟩, ⟨23, 23, .RO, 0⟩, ⟨22, 22, .RO, 0⟩, ⟨21, 21, .RO, 0⟩]⟩),
  (.LCS_LCCMD, ⟨.LCS, 0x10, 0x4, 1, .none, [⟨31, 24, .WO, 0⟩, ⟨3, 0, .WO, 0⟩]⟩),
  (.LCS_RESULT, ⟨.LCS, 0x14, 0x4, 1, .none, [⟨31, 31, .RO, 0⟩, ⟨30, 30, .RO, 0⟩, ⟨7, 0, .RO, 0⟩]⟩),
  (.LCS_ROSC, ⟨.LCS, 0x40, 0x4, 7, .none, [⟨31, 24, .RO, 0⟩, ⟨15, 0, .RO, 0⟩]⟩)]

/-- The map rows of THM (09_heat_power of spec/). -/
def rowsTHM : List (Reg × RegRow) := [
  (.THM_LEVELS, ⟨.THM, 0x0, 0x4, 1, .none, [⟨31, 24, .RW, 0x69⟩, ⟨23, 16, .RW, 0x73⟩, ⟨15, 8, .RW, 0x7d⟩]⟩),
  (.THM_STAT, ⟨.THM, 0x4, 0x4, 1, .none, [⟨31, 31, .RO, 0⟩, ⟨30, 30, .RO, 0⟩, ⟨29, 29, .RO, 0⟩, ⟨28, 28, .RO, 0⟩, ⟨27, 24, .RWS, 0⟩, ⟨20, 16, .RO, 0⟩, ⟨15, 0, .RO, 0⟩]⟩),
  (.THM_BROKEN, ⟨.THM, 0x8, 0x4, 1, .none, [⟨31, 0, .RO, 0⟩]⟩),
  (.THM_TS, ⟨.THM, 0x100, 0x4, 32, .none, [⟨31, 16, .RO, 0⟩, ⟨15, 0, .RO, 0⟩]⟩),
  (.THM_TXCFG, ⟨.THM, 0x200, 0x4, 8, .none, [⟨31, 16, .RW, 0xf3c⟩, ⟨15, 0, .RW, 0x2710⟩]⟩),
  (.THM_TXLIM, ⟨.THM, 0x220, 0x4, 8, .none, [⟨31, 24, .RW, 0x5a⟩, ⟨23, 16, .RW, 0x64⟩, ⟨15, 15, .RW, 0⟩, ⟨14, 14, .RW, 0⟩, ⟨13, 13, .RW, 0⟩, ⟨12, 10, .RW, 0⟩]⟩),
  (.THM_TX, ⟨.THM, 0x240, 0x4, 8, .none, [⟨15, 0, .RO, 0⟩]⟩),
  (.THM_TXSTAT, ⟨.THM, 0x260, 0x4, 1, .none, [⟨31, 31, .RO, 0⟩, ⟨30, 30, .RO, 0⟩, ⟨29, 29, .RO, 0⟩, ⟨28, 28, .RO, 0⟩, ⟨27, 27, .RO, 0⟩, ⟨26, 26, .RO, 0⟩, ⟨25, 25, .RO, 0⟩, ⟨24, 24, .RO, 0⟩, ⟨23, 23, .RO, 0⟩, ⟨22, 22, .RO, 0⟩, ⟨21, 21, .RO, 0⟩, ⟨20, 20, .RO, 0⟩, ⟨19, 19, .RO, 0⟩, ⟨18, 18, .RO, 0⟩, ⟨17, 17, .RO, 0⟩, ⟨16, 16, .RO, 0⟩, ⟨15, 15, .RO, 0⟩, ⟨14, 14, .RO, 0⟩, ⟨13, 13, .RO, 0⟩, ⟨12, 12, .RO, 0⟩, ⟨11, 11, .RO, 0⟩, ⟨10, 10, .RO, 0⟩, ⟨9, 9, .RO, 0⟩, ⟨8, 8, .RO, 0⟩, ⟨7, 7, .RO, 0⟩, ⟨6, 6, .RO, 0⟩, ⟨5, 5, .RO, 0⟩, ⟨4, 4, .RO, 0⟩, ⟨3, 3, .RO, 0⟩, ⟨2, 2, .RO, 0⟩, ⟨1, 1, .RO, 0⟩, ⟨0, 0, .RO, 0⟩]⟩),
  (.THM_PAIRCFG, ⟨.THM, 0x264, 0x4, 1, .none, [⟨15, 8, .RW, 0x14⟩, ⟨3, 0, .RO, 0⟩]⟩)]

/-- The map rows of PSQ (09_heat_power of spec/). -/
def rowsPSQ : List (Reg × RegRow) := [
  (.PSQ_CTRL, ⟨.PSQ, 0x0, 0x4, 1, .none, [⟨31, 30, .RO, 0⟩, ⟨29, 29, .RWS, 1⟩, ⟨28, 28, .RWS, 0⟩, ⟨23, 16, .RWS, 0⟩, ⟨6, 0, .RWS, 0x40⟩]⟩),
  (.PSQ_CMD, ⟨.PSQ, 0x4, 0x4, 1, .none, [⟨31, 28, .WO, 0⟩, ⟨27, 20, .WO, 0⟩, ⟨19, 15, .WO, 0⟩, ⟨14, 14, .WO, 0⟩, ⟨13, 13, .WO, 0⟩, ⟨12, 9, .WO, 0⟩, ⟨7, 0, .WO, 0⟩]⟩),
  (.PSQ_STAT, ⟨.PSQ, 0x8, 0x4, 1, .none, [⟨31, 28, .RO, 0⟩, ⟨27, 20, .RO, 0⟩, ⟨19, 19, .RO, 0⟩, ⟨18, 16, .RO, 0⟩, ⟨15, 8, .RO, 0⟩, ⟨7, 4, .RO, 0⟩, ⟨3, 0, .RO, 0⟩]⟩),
  (.PSQ_ENTRY, ⟨.PSQ, 0xc, 0x4, 1, .none, [⟨31, 24, .RWS, 0⟩, ⟨23, 16, .RWS, 0⟩, ⟨15, 8, .RWS, 0⟩, ⟨7, 0, .RWS, 0⟩]⟩),
  (.PSQ_PGCFG, ⟨.PSQ, 0x10, 0x4, 1, .none, [⟨31, 24, .RWS, 0x40⟩, ⟨23, 16, .RWS, 8⟩, ⟨15, 8, .RWS, 1⟩, ⟨7, 0, .RWS, 0xc8⟩]⟩),
  (.PSQ_VIN, ⟨.PSQ, 0x14, 0x4, 1, .none, [⟨31, 20, .RWS, 0x3e8⟩, ⟨19, 12, .RWS, 0x32⟩, ⟨11, 4, .RWS, 0xb4⟩]⟩),
  (.PSQ_COOP, ⟨.PSQ, 0x18, 0x4, 1, .none, [⟨31, 24, .RWS, 0x64⟩]⟩),
  (.PSQ_WAKE, ⟨.PSQ, 0x1c, 0x4, 1, .none, [⟨31, 31, .RWS, 0⟩, ⟨23, 0, .RWS, 0⟩]⟩),
  (.PSQ_CAUSE, ⟨.PSQ, 0x20, 0x4, 1, .none, [⟨31, 28, .RO, 4⟩, ⟨27, 24, .RWS, 0⟩, ⟨20, 16, .RWS, 0⟩, ⟨15, 8, .RWS, 0⟩]⟩),
  (.PSQ_RAILCFG, ⟨.PSQ, 0x100, 0x4, 24, .none, [⟨31, 31, .RWS, 0⟩, ⟨30, 30, .RWS, 0⟩, ⟨29, 23, .RWS, 0⟩, ⟨22, 18, .RWS, 0⟩, ⟨17, 15, .RWS, 0⟩, ⟨14, 14, .RWS, 0⟩, ⟨13, 6, .RWS, 0⟩]⟩),
  (.PSQ_ENSTAT, ⟨.PSQ, 0x180, 0x4, 1, .none, [⟨23, 0, .RO, 0⟩]⟩),
  (.PSQ_PGSTAT, ⟨.PSQ, 0x184, 0x4, 1, .none, [⟨23, 0, .RO, 0⟩]⟩),
  (.PSQ_SLAVE, ⟨.PSQ, 0x1c0, 0x4, 8, .none, [⟨31, 31, .RWS, 0⟩, ⟨6, 0, .RWS, 0⟩]⟩),
  (.PSQ_PROG, ⟨.PSQ, 0x400, 0x4, 256, .none, [⟨31, 0, .RWS, 0⟩]⟩),
  (.PSQ_MRG, ⟨.PSQ, 0x190, 0x4, 6, .none, [⟨31, 31, .RO, 0⟩, ⟨30, 30, .RO, 0⟩, ⟨29, 29, .RO, 0⟩, ⟨27, 24, .RO, 0⟩, ⟨23, 23, .RO, 0⟩, ⟨22, 22, .RO, 0⟩, ⟨21, 21, .RO, 0⟩, ⟨19, 16, .RO, 0⟩, ⟨15, 15, .RO, 0⟩, ⟨14, 14, .RO, 0⟩, ⟨13, 13, .RO, 0⟩, ⟨11, 8, .RO, 0⟩, ⟨7, 7, .RO, 0⟩, ⟨6, 6, .RO, 0⟩, ⟨5, 5, .RO, 0⟩, ⟨3, 0, .RO, 0⟩]⟩)]

/-- The map rows of OBS (12_observation of spec/). -/
def rowsOBS : List (Reg × RegRow) := [
  (.OBS_CTRL, ⟨.OBS, 0x0, 0x4, 1, .none, [⟨0, 0, .RW, 0⟩]⟩),
  (.OBS_STAT, ⟨.OBS, 0x4, 0x4, 1, .none, [⟨31, 30, .RO, 0⟩, ⟨15, 0, .W1C, 0⟩]⟩),
  (.OBS_HOSTEN, ⟨.OBS, 0x8, 0x4, 1, .none, [⟨0, 0, .RW, 0⟩]⟩),
  (.OBS_UACC, ⟨.OBS, 0xc, 0x4, 1, .none, [⟨23, 0, .RW, 0⟩]⟩),
  (.OBS_TRCCFG, ⟨.OBS, 0x10, 0x4, 1, .none, [⟨31, 31, .RW, 0⟩, ⟨30, 30, .RW, 0⟩, ⟨29, 29, .RW, 0⟩, ⟨23, 0, .RW, 0⟩]⟩),
  (.OBS_EVTMASK, ⟨.OBS, 0x14, 0x4, 1, .none, [⟨12, 1, .RW, 0⟩]⟩),
  (.OBS_BUFBASE_LO, ⟨.OBS, 0x18, 0x4, 1, .lo, [⟨31, 0, .RW, 0⟩]⟩),
  (.OBS_BUFBASE_HI, ⟨.OBS, 0x1c, 0x4, 1, .hi, [⟨2, 0, .RW, 0⟩]⟩),
  (.OBS_BUFSIZE, ⟨.OBS, 0x20, 0x4, 1, .none, [⟨15, 0, .RW, 0⟩]⟩),
  (.OBS_BUFWP, ⟨.OBS, 0x24, 0x4, 1, .none, [⟨31, 0, .RO, 0⟩]⟩),
  (.OBS_MARK, ⟨.OBS, 0x28, 0x4, 1, .none, [⟨31, 0, .WO, 0⟩]⟩),
  (.OBS_BWCFG, ⟨.OBS, 0x30, 0x4, 1, .none, [⟨31, 31, .RW, 0⟩, ⟨19, 0, .RW, 0x3e8⟩]⟩),
  (.OBS_BWLAST, ⟨.OBS, 0x40, 0x4, 14, .none, [⟨31, 0, .RO, 0⟩]⟩),
  (.OBS_BWPEAK, ⟨.OBS, 0x80, 0x4, 14, .none, [⟨31, 0, .W1C, 0⟩]⟩),
  (.OBS_EVSEL, ⟨.OBS, 0x100, 0x10, 64, .none, [⟨31, 31, .RW, 0⟩, ⟨30, 30, .W1C, 0⟩, ⟨29, 29, .RW, 0⟩, ⟨28, 24, .RW, 0⟩, ⟨23, 16, .RW, 0⟩, ⟨15, 8, .RW, 0⟩]⟩),
  (.OBS_CNT_LO, ⟨.OBS, 0x104, 0x10, 64, .lo, [⟨31, 0, .RW, 0⟩]⟩),
  (.OBS_CNT_HI, ⟨.OBS, 0x108, 0x10, 64, .hi, [⟨15, 0, .RW, 0⟩]⟩),
  (.OBS_FIX_LO, ⟨.OBS, 0x500, 0x8, 8, .lo, [⟨31, 0, .RO, 0⟩]⟩),
  (.OBS_FIX_HI, ⟨.OBS, 0x504, 0x8, 8, .hi, [⟨15, 0, .RO, 0⟩]⟩),
  (.OBS_SAMP_PC, ⟨.OBS, 0x600, 0x8, 24, .none, [⟨31, 0, .RO, 0⟩]⟩),
  (.OBS_SAMP_INFO, ⟨.OBS, 0x604, 0x8, 24, .none, [⟨31, 31, .RO, 0⟩, ⟨23, 16, .RO, 0⟩, ⟨5, 0, .RO, 0⟩]⟩)]

/-- The map rows of PMX (01_architecture of spec/). -/
def rowsPMX : List (Reg × RegRow) := [
  (.PMX_CLAIMREQ, ⟨.PMX, 0x0, 0x4, 1, .none, [⟨31, 31, .WO, 0⟩, ⟨15, 0, .WO, 0⟩]⟩),
  (.PMX_CLAIMRES, ⟨.PMX, 0x4, 0x4, 2, .none, [⟨31, 31, .RO, 0⟩, ⟨30, 30, .RO, 0⟩, ⟨29, 26, .RO, 0⟩, ⟨25, 21, .RO, 0⟩, ⟨15, 0, .RO, 0⟩]⟩),
  (.PMX_PADCFG, ⟨.PMX, 0x1000, 0x4, 1444, .none, [⟨31, 28, .RO, 0⟩, ⟨27, 23, .RO, 0⟩, ⟨22, 22, .RO, 0⟩, ⟨21, 20, .RO, 0⟩, ⟨19, 16, .RW, 0⟩, ⟨15, 14, .RW, 1⟩, ⟨13, 12, .RW, 1⟩, ⟨11, 11, .RW, 0⟩, ⟨10, 8, .RW, 0⟩, ⟨7, 6, .RO, 0⟩, ⟨1, 1, .RO, 0⟩, ⟨0, 0, .RO, 0⟩]⟩),
  (.PMX_SNSWIRE, ⟨.PMX, 0x10, 0x4, 1, .none, [⟨31, 0, .RW, 0⟩]⟩),
  (.PMX_SNSSTAT, ⟨.PMX, 0x14, 0x4, 1, .none, [⟨31, 0, .RO, 0⟩]⟩)]

/-- The map rows of ING (04_quires of spec/). -/
def rowsING : List (Reg × RegRow) := [
  (.ING_CTRL, ⟨.ING, 0x0, 0x4, 1, .none, [⟨31, 31, .WO, 0⟩]⟩),
  (.ING_CTX_CFG, ⟨.ING, 0x100, 0x40, 8, .none, [⟨23, 16, .RW, 0xa⟩, ⟨6, 0, .RW, 0x70⟩]⟩),
  (.ING_CTX_JOB, ⟨.ING, 0x104, 0x40, 8, .none, [⟨31, 31, .WO, 0⟩, ⟨30, 30, .RW, 0⟩, ⟨29, 28, .RW, 0⟩, ⟨27, 24, .RW, 0⟩, ⟨23, 10, .RW, 0⟩]⟩),
  (.ING_CTX_NB, ⟨.ING, 0x108, 0x40, 8, .none, [⟨12, 0, .RW, 0⟩]⟩),
  (.ING_CTX_STAT, ⟨.ING, 0x10c, 0x40, 8, .none, [⟨31, 28, .RO, 0⟩, ⟨27, 20, .RO, 0⟩, ⟨19, 12, .RO, 0⟩]⟩),
  (.ING_CTX_LOC_LO, ⟨.ING, 0x110, 0x40, 8, .lo, [⟨31, 0, .RW, 0⟩]⟩),
  (.ING_CTX_LOC_HI, ⟨.ING, 0x114, 0x40, 8, .hi, [⟨2, 0, .RW, 0⟩]⟩),
  (.ING_CTX_CRC, ⟨.ING, 0x118, 0x40, 8, .none, [⟨31, 0, .RO, 0⟩]⟩),
  (.ING_CTX_TAIL, ⟨.ING, 0x11c, 0x40, 8, .none, [⟨31, 0, .RO, 0⟩]⟩)]

/-- The map rows of DMA (04_quires of spec/). -/
def rowsDMA : List (Reg × RegRow) := [
  (.DMA_APER_BASE_LO, ⟨.DMA, 0x0, 0x8, 2, .lo, [⟨31, 0, .RW, 0⟩]⟩),
  (.DMA_APER_BASE_HI, ⟨.DMA, 0x4, 0x8, 2, .hi, [⟨31, 0, .RW, 0⟩]⟩),
  (.DMA_CHCFG, ⟨.DMA, 0x100, 0x10, 16, .none, [⟨31, 31, .RW, 0⟩, ⟨27, 24, .RW, 1⟩, ⟨23, 16, .RW, 0xa⟩]⟩),
  (.DMA_CHCTRL, ⟨.DMA, 0x104, 0x10, 16, .none, [⟨31, 31, .WO, 0⟩, ⟨30, 30, .WO, 0⟩]⟩),
  (.DMA_CHSTAT, ⟨.DMA, 0x108, 0x10, 16, .none, [⟨31, 30, .RO, 0⟩, ⟨23, 16, .RO, 0⟩, ⟨11, 0, .RO, 0⟩]⟩),
  (.DMA_CHBYTES, ⟨.DMA, 0x10c, 0x10, 16, .none, [⟨31, 0, .RO, 0⟩]⟩)]

/-- The map rows of SHW (04_quires of spec/). -/
def rowsSHW : List (Reg × RegRow) := [
  (.SHW_PAGE, ⟨.SHW, 0x0, 0x4, 256, .none, [⟨31, 24, .WO, 0⟩, ⟨15, 8, .RO, 0⟩, ⟨0, 0, .RW, 0⟩]⟩)]

/-- The map rows of QST (04_quires of spec/). -/
def rowsQST : List (Reg × RegRow) := [
  (.QST_QRING, ⟨.QST, 0x0, 0x4, 4, .none, [⟨31, 31, .RW, 0⟩, ⟨15, 8, .RW, 0⟩, ⟨7, 0, .RW, 0⟩]⟩),
  (.QST_QSTAT, ⟨.QST, 0x10, 0x4, 4, .none, [⟨31, 24, .RO, 0⟩, ⟨23, 16, .RO, 0⟩, ⟨15, 0, .RO, 0⟩]⟩)]

/-- The map rows of CMP (04_quires of spec/). -/
def rowsCMP : List (Reg × RegRow) := [
  (.CMP_CTRL, ⟨.CMP, 0x0, 0x4, 1, .none, [⟨31, 31, .WO, 0⟩]⟩),
  (.CMP_STAT, ⟨.CMP, 0x4, 0x4, 1, .none, [⟨31, 16, .RO, 0⟩, ⟨15, 0, .RO, 0⟩]⟩)]

/-- The map rows of DCP (04_quires of spec/). -/
def rowsDCP : List (Reg × RegRow) := [
  (.DCP_CTRL, ⟨.DCP, 0x0, 0x4, 1, .none, [⟨31, 31, .WO, 0⟩, ⟨0, 0, .RW, 0⟩]⟩),
  (.DCP_JOB_LO, ⟨.DCP, 0x4, 0x4, 1, .lo, [⟨31, 0, .WO, 0⟩]⟩),
  (.DCP_JOB_HI, ⟨.DCP, 0x8, 0x4, 1, .hi, [⟨31, 16, .WO, 0⟩, ⟨12, 0, .WO, 0⟩]⟩),
  (.DCP_STAT, ⟨.DCP, 0xc, 0x4, 1, .none, [⟨27, 24, .RO, 0⟩, ⟨23, 20, .RO, 0⟩, ⟨15, 0, .RO, 0⟩]⟩)]

/-- The map rows of STR (03_strokes of spec/). -/
def rowsSTR : List (Reg × RegRow) := [
  (.STR_CTRL, ⟨.STR, 0x0, 0x4, 1, .none, [⟨31, 31, .WO, 0⟩, ⟨30, 29, .RW, 0⟩, ⟨28, 26, .RW, 0⟩, ⟨25, 21, .RW, 0⟩, ⟨20, 20, .RW, 0⟩, ⟨19, 17, .RW, 0⟩, ⟨16, 16, .RW, 0⟩, ⟨15, 13, .RW, 0⟩, ⟨2, 2, .RW, 0⟩, ⟨1, 1, .RW, 0⟩, ⟨0, 0, .RW, 0⟩]⟩),
  (.STR_STAT, ⟨.STR, 0x4, 0x4, 1, .none, [⟨31, 28, .RO, 0⟩, ⟨27, 27, .RO, 0⟩, ⟨26, 26, .W1C, 0⟩, ⟨25, 25, .RO, 0⟩, ⟨24, 24, .RO, 0⟩, ⟨23, 22, .RO, 0⟩, ⟨21, 0, .RO, 0⟩]⟩),
  (.STR_SCAN, ⟨.STR, 0x8, 0x4, 1, .none, [⟨31, 20, .RW, 0xb89⟩, ⟨19, 12, .RW, 0x32⟩, ⟨11, 4, .RW, 2⟩]⟩),
  (.STR_AMP, ⟨.STR, 0xc, 0x4, 1, .none, [⟨31, 16, .RW, 0x1c72⟩, ⟨15, 8, .RW, 8⟩, ⟨7, 0, .RW, 0xf0⟩]⟩),
  (.STR_DRIVE, ⟨.STR, 0x10, 0x4, 1, .none, [⟨31, 24, .RO, 0⟩, ⟨23, 12, .RO, 0⟩, ⟨11, 0, .RO, 0⟩]⟩),
  (.STR_PERIOD, ⟨.STR, 0x14, 0x4, 1, .none, [⟨31, 0, .RO, 0⟩]⟩),
  (.STR_BD, ⟨.STR, 0x18, 0x4, 1, .none, [⟨31, 24, .RW, 0x19⟩, ⟨23, 16, .RW, 0x64⟩, ⟨15, 6, .RW, 0⟩]⟩),
  (.STR_BDSTAT, ⟨.STR, 0x1c, 0x4, 1, .none, [⟨31, 31, .W1C, 0⟩, ⟨23, 16, .RO, 0⟩, ⟨15, 0, .RO, 0⟩]⟩),
  (.STR_APC, ⟨.STR, 0x20, 0x4, 1, .none, [⟨31, 24, .RW, 0x64⟩, ⟨23, 16, .RW, 0x7d⟩, ⟨15, 8, .RW, 0x4b⟩, ⟨7, 0, .RW, 0xff⟩]⟩),
  (.STR_POLY, ⟨.STR, 0x24, 0x4, 1, .none, [⟨31, 29, .RW, 0⟩, ⟨28, 25, .RW, 6⟩, ⟨15, 0, .RW, 0x40⟩]⟩),
  (.STR_POLYF, ⟨.STR, 0x28, 0x4, 1, .none, [⟨31, 0, .RW, 0x4c4b4000⟩]⟩),
  (.STR_PHASE, ⟨.STR, 0x2c, 0x4, 1, .none, [⟨19, 0, .RW, 0⟩]⟩),
  (.STR_WINDOW, ⟨.STR, 0x30, 0x4, 1, .none, [⟨31, 18, .RW, 0x3ce7⟩, ⟨10, 0, .RW, 0x4a2⟩]⟩),
  (.STR_PROF, ⟨.STR, 0x34, 0x4, 1, .none, [⟨31, 16, .RW, 0⟩, ⟨15, 0, .RW, 0⟩]⟩),
  (.STR_PULSE, ⟨.STR, 0x38, 0x4, 1, .none, [⟨31, 30, .RW, 0⟩, ⟨29, 20, .RW, 0⟩]⟩),
  (.STR_REGSCAN, ⟨.STR, 0x3c, 0x4, 1, .none, [⟨11, 0, .RW, 0⟩]⟩),
  (.STR_DIROFS, ⟨.STR, 0x40, 0x4, 1, .none, [⟨27, 16, .RW, 0⟩, ⟨11, 0, .RW, 0⟩]⟩),
  (.STR_BEAMOFS, ⟨.STR, 0x44, 0x4, 8, .none, [⟨27, 16, .RW, 0⟩, ⟨11, 0, .RW, 0⟩]⟩),
  (.STR_LDCMD, ⟨.STR, 0x80, 0x4, 8, .none, [⟨31, 31, .RO, 0⟩, ⟨27, 24, .RW, 0⟩, ⟨23, 12, .RW, 0⟩]⟩),
  (.STR_CALBUF, ⟨.STR, 0xa0, 0x4, 1, .none, [⟨15, 8, .RW, 0⟩, ⟨7, 0, .RW, 0⟩]⟩),
  (.STR_CALN, ⟨.STR, 0xac, 0x4, 1, .none, [⟨31, 31, .RO, 0⟩, ⟨15, 0, .RW, 0⟩]⟩),
  (.STR_GLOBAL, ⟨.STR, 0xc0, 0x4, 1, .none, [⟨31, 20, .RW, 0xc8⟩, ⟨18, 16, .RW, 0⟩, ⟨11, 8, .RW, 8⟩]⟩),
  (.STR_SPEED, ⟨.STR, 0xc8, 0x4, 1, .none, [⟨31, 0, .RO, 0⟩]⟩),
  (.STR_CALT_LO, ⟨.STR, 0xa4, 0x4, 1, .lo, [⟨31, 0, .RW, 0⟩]⟩),
  (.STR_CALT_HI, ⟨.STR, 0xa8, 0x4, 1, .hi, [⟨31, 0, .RW, 0⟩]⟩),
  (.STR_PCOMMIT, ⟨.STR, 0x78, 0x4, 1, .none, [⟨31, 31, .RO, 0⟩, ⟨30, 30, .W1C, 0⟩, ⟨23, 8, .RO, 0⟩, ⟨0, 0, .WO, 0⟩]⟩),
  (.STR_COMMIT, ⟨.STR, 0x7c, 0x4, 1, .none, [⟨31, 31, .RO, 0⟩, ⟨30, 30, .W1C, 0⟩, ⟨23, 8, .RO, 0⟩, ⟨0, 0, .WO, 0⟩]⟩),
  (.STR_GCOMMIT, ⟨.STR, 0xc4, 0x4, 1, .none, [⟨31, 31, .RO, 0⟩, ⟨30, 30, .W1C, 0⟩, ⟨23, 8, .RO, 0⟩, ⟨0, 0, .WO, 0⟩]⟩)]

/-- The map rows of SYN (08_clocks of spec/). -/
def rowsSYN : List (Reg × RegRow) := [
  (.SYN_CTRL, ⟨.SYN, 0x0, 0x4, 1, .none, [⟨31, 31, .WO, 0⟩, ⟨0, 0, .RW, 0⟩]⟩),
  (.SYN_STAT, ⟨.SYN, 0x4, 0x4, 1, .none, [⟨31, 28, .RO, 0⟩, ⟨27, 27, .RO, 0⟩, ⟨26, 26, .W1C, 0⟩, ⟨25, 24, .RO, 0⟩, ⟨23, 16, .RO, 0⟩]⟩),
  (.SYN_DIV, ⟨.SYN, 0x10, 0x4, 1, .none, [⟨31, 30, .RW, 0⟩]⟩),
  (.SYN_CKO, ⟨.SYN, 0x14, 0x4, 2, .none, [⟨27, 16, .RW, 0xa0⟩, ⟨7, 0, .RW, 0⟩]⟩),
  (.SYN_DCOMMIT, ⟨.SYN, 0x1c, 0x4, 1, .none, [⟨31, 31, .RO, 0⟩, ⟨30, 30, .W1C, 0⟩, ⟨23, 8, .RO, 0⟩, ⟨0, 0, .WO, 0⟩]⟩),
  (.SYN_CKOEN, ⟨.SYN, 0x20, 0x4, 1, .none, [⟨1, 1, .RW, 0⟩, ⟨0, 0, .RW, 0⟩]⟩),
  (.SYN_ALIGN, ⟨.SYN, 0x30, 0x4, 1, .none, [⟨31, 31, .RO, 0⟩, ⟨23, 16, .RO, 0⟩, ⟨7, 0, .RO, 0⟩]⟩),
  (.SYN_RAMP, ⟨.SYN, 0x40, 0x4, 1, .none, [⟨31, 30, .RO, 0⟩, ⟨29, 29, .RO, 0⟩, ⟨28, 28, .RO, 0⟩, ⟨24, 16, .RO, 0⟩, ⟨12, 0, .RO, 0⟩]⟩),
  (.SYN_KVAL, ⟨.SYN, 0x44, 0x4, 1, .none, [⟨31, 0, .RO, 0⟩]⟩),
  (.SYN_FNOW, ⟨.SYN, 0x48, 0x4, 1, .none, [⟨31, 0, .RO, 0⟩]⟩),
  (.SYN_RANGE, ⟨.SYN, 0x4c, 0x4, 1, .none, [⟨31, 16, .RO, 0⟩, ⟨15, 0, .RO, 0⟩]⟩)]

/-- The map rows of CKU (10_integrity of spec/). -/
def rowsCKU : List (Reg × RegRow) := [
  (.CKU_CTRL, ⟨.CKU, 0x0, 0x4, 1, .none, [⟨31, 31, .WO, 0⟩, ⟨30, 30, .WO, 0⟩]⟩),
  (.CKU_CFG, ⟨.CKU, 0x4, 0x4, 1, .none, [⟨31, 28, .RW, 1⟩, ⟨22, 16, .RW, 0x20⟩, ⟨2, 2, .RW, 1⟩, ⟨1, 1, .RW, 1⟩, ⟨0, 0, .RW, 1⟩]⟩),
  (.CKU_POLY_LO, ⟨.CKU, 0x8, 0x4, 1, .lo, [⟨31, 0, .RW, 0x1edc6f41⟩]⟩),
  (.CKU_POLY_HI, ⟨.CKU, 0xc, 0x4, 1, .hi, [⟨31, 0, .RW, 0⟩]⟩),
  (.CKU_INIT_LO, ⟨.CKU, 0x10, 0x4, 1, .lo, [⟨31, 0, .RW, 0xffffffff⟩]⟩),
  (.CKU_INIT_HI, ⟨.CKU, 0x14, 0x4, 1, .hi, [⟨31, 0, .RW, 0⟩]⟩),
  (.CKU_RUN_LO, ⟨.CKU, 0x18, 0x4, 1, .lo, [⟨31, 0, .RW, 0xffffffff⟩]⟩),
  (.CKU_RUN_HI, ⟨.CKU, 0x1c, 0x4, 1, .hi, [⟨31, 0, .RW, 0⟩]⟩),
  (.CKU_OUT_LO, ⟨.CKU, 0x20, 0x4, 1, .lo, [⟨31, 0, .RO, 0⟩]⟩),
  (.CKU_OUT_HI, ⟨.CKU, 0x24, 0x4, 1, .hi, [⟨31, 0, .RO, 0⟩]⟩),
  (.CKU_DIN32, ⟨.CKU, 0x28, 0x4, 1, .none, [⟨31, 0, .WO, 0⟩]⟩),
  (.CKU_DIN8, ⟨.CKU, 0x2c, 0x4, 1, .none, [⟨7, 0, .WO, 0⟩]⟩),
  (.CKU_BIND, ⟨.CKU, 0x30, 0x4, 1, .none, [⟨31, 31, .RW, 0⟩, ⟨30, 30, .RW, 0⟩, ⟨3, 0, .RW, 0⟩]⟩),
  (.CKU_STAT, ⟨.CKU, 0x34, 0x4, 1, .none, [⟨31, 31, .W1C, 0⟩, ⟨30, 30, .RO, 0⟩, ⟨15, 0, .RO, 0⟩]⟩)]

/-- The map rows of HYW (11_fuses_lifecycle of spec/). -/
def rowsHYW : List (Reg × RegRow) := [
  (.HYW_CTRL, ⟨.HYW, 0x0, 0x4, 1, .none, [⟨31, 31, .WO, 0⟩, ⟨1, 1, .WO, 0⟩, ⟨0, 0, .RW, 0⟩]⟩),
  (.HYW_CFG, ⟨.HYW, 0x4, 0x4, 1, .none, [⟨31, 16, .RW, 0⟩, ⟨15, 12, .RW, 0⟩, ⟨11, 8, .RW, 0⟩, ⟨7, 7, .RW, 0⟩, ⟨6, 0, .RW, 0x5a⟩]⟩),
  (.HYW_CFG2, ⟨.HYW, 0x8, 0x4, 1, .none, [⟨31, 16, .RW, 0x100⟩]⟩),
  (.HYW_STAT, ⟨.HYW, 0xc, 0x4, 1, .none, [⟨31, 28, .RO, 0⟩, ⟨27, 20, .RO, 0⟩, ⟨19, 19, .RO, 1⟩, ⟨18, 18, .RO, 0⟩, ⟨15, 8, .RO, 0⟩, ⟨2, 0, .RO, 0⟩]⟩),
  (.HYW_ID_LO, ⟨.HYW, 0x10, 0x4, 1, .lo, [⟨31, 0, .RO, 0⟩]⟩),
  (.HYW_ID_HI, ⟨.HYW, 0x14, 0x4, 1, .hi, [⟨31, 0, .RO, 0⟩]⟩),
  (.HYW_RATED, ⟨.HYW, 0x18, 0x4, 1, .none, [⟨31, 0, .RO, 0⟩]⟩),
  (.HYW_LIFE, ⟨.HYW, 0x1c, 0x4, 1, .none, [⟨31, 0, .RO, 0⟩]⟩),
  (.HYW_METER, ⟨.HYW, 0x20, 0x4, 1, .none, [⟨23, 0, .WO, 0⟩]⟩)]

/-- The map rows of MOT (06_motion of spec/). -/
def rowsMOT : List (Reg × RegRow) := [
  (.MOT_CTRL, ⟨.MOT, 0x0, 0x4, 1, .none, [⟨31, 31, .WO, 0⟩, ⟨30, 29, .RW, 0⟩, ⟨28, 27, .RW, 0⟩, ⟨26, 26, .RW, 0⟩, ⟨25, 21, .RW, 0⟩, ⟨20, 17, .RW, 0⟩, ⟨0, 0, .RW, 0⟩]⟩),
  (.MOT_CFG, ⟨.MOT, 0x4, 0x4, 1, .none, [⟨31, 26, .RW, 2⟩, ⟨25, 25, .RW, 0⟩, ⟨24, 24, .RW, 0⟩, ⟨23, 23, .RW, 0⟩, ⟨15, 0, .RW, 0x1000⟩]⟩),
  (.MOT_PWM, ⟨.MOT, 0x8, 0x4, 1, .none, [⟨31, 16, .RW, 0x186a⟩, ⟨15, 8, .RW, 0x19⟩, ⟨7, 2, .RW, 0x18⟩, ⟨1, 0, .RW, 1⟩]⟩),
  (.MOT_PHOFS, ⟨.MOT, 0xc, 0x4, 1, .none, [⟨15, 0, .RW, 0⟩]⟩),
  (.MOT_RATED, ⟨.MOT, 0x10, 0x4, 1, .none, [⟨31, 16, .RW, 0⟩, ⟨15, 8, .RW, 5⟩, ⟨7, 0, .RW, 0xa⟩]⟩),
  (.MOT_ALIGN, ⟨.MOT, 0x14, 0x4, 1, .none, [⟨31, 20, .RW, 0x400⟩, ⟨19, 12, .RW, 0x28⟩, ⟨11, 0, .RW, 0x64⟩]⟩),
  (.MOT_RAMP, ⟨.MOT, 0x18, 0x4, 1, .none, [⟨31, 20, .RW, 0x400⟩, ⟨19, 12, .RW, 0x64⟩, ⟨11, 0, .RW, 0x400⟩]⟩),
  (.MOT_SREG, ⟨.MOT, 0x1c, 0x4, 1, .none, [⟨31, 16, .RW, 0x800⟩, ⟨15, 0, .RW, 0x40⟩]⟩),
  (.MOT_MODEL, ⟨.MOT, 0x20, 0x4, 1, .none, [⟨31, 16, .RW, 0⟩, ⟨15, 0, .RW, 0⟩]⟩),
  (.MOT_MODEL2, ⟨.MOT, 0x24, 0x4, 1, .none, [⟨31, 16, .RW, 0⟩, ⟨15, 0, .RW, 0x2710⟩]⟩),
  (.MOT_GEAR, ⟨.MOT, 0x28, 0x4, 1, .none, [⟨31, 0, .RW, 0⟩]⟩),
  (.MOT_LIM, ⟨.MOT, 0x2c, 0x4, 1, .none, [⟨31, 16, .RW, 0x100⟩, ⟨15, 8, .RW, 8⟩, ⟨7, 0, .RW, 0x40⟩]⟩),
  (.MOT_STAT, ⟨.MOT, 0x30, 0x4, 1, .none, [⟨31, 28, .RO, 0⟩, ⟨27, 27, .RO, 0⟩, ⟨26, 26, .W1C, 0⟩, ⟨25, 24, .RO, 0⟩, ⟨23, 16, .RO, 0⟩, ⟨15, 15, .RO, 0⟩]⟩),
  (.MOT_MEAS_I, ⟨.MOT, 0x34, 0x4, 1, .none, [⟨31, 16, .RO, 0⟩, ⟨15, 0, .RO, 0⟩]⟩),
  (.MOT_MEAS_W, ⟨.MOT, 0x38, 0x4, 1, .none, [⟨31, 8, .RO, 0⟩, ⟨7, 0, .RO, 0⟩]⟩),
  (.MOT_MEAS_P, ⟨.MOT, 0x3c, 0x4, 1, .none, [⟨31, 16, .RO, 0⟩, ⟨15, 0, .RO, 0⟩]⟩),
  (.MOT_VCMD, ⟨.MOT, 0x40, 0x4, 1, .none, [⟨31, 16, .RO, 0⟩, ⟨15, 0, .RO, 0⟩]⟩),
  (.MOT_SREF, ⟨.MOT, 0x44, 0x4, 1, .none, [⟨23, 0, .RO, 0⟩]⟩),
  (.MOT_CATCH, ⟨.MOT, 0x48, 0x4, 1, .none, [⟨31, 30, .RO, 0⟩, ⟨29, 29, .RO, 0⟩, ⟨23, 0, .RO, 0⟩]⟩),
  (.MOT_DIAG, ⟨.MOT, 0x4c, 0x4, 1, .none, [⟨31, 16, .RO, 0⟩, ⟨15, 0, .RO, 0⟩]⟩),
  (.MOT_ADV, ⟨.MOT, 0x100, 0x4, 32, .none, [⟨31, 16, .RW, 0⟩, ⟨15, 0, .RW, 0⟩]⟩),
  (.MOT_ADVCOMMIT, ⟨.MOT, 0x58, 0x4, 1, .none, [⟨31, 31, .RO, 0⟩, ⟨30, 30, .W1C, 0⟩, ⟨23, 8, .RO, 0⟩, ⟨0, 0, .WO, 0⟩]⟩),
  (.MOT_COMMIT, ⟨.MOT, 0x5c, 0x4, 1, .none, [⟨31, 31, .RO, 0⟩, ⟨30, 30, .W1C, 0⟩, ⟨23, 8, .RO, 0⟩, ⟨0, 0, .WO, 0⟩]⟩)]

/-- The map rows of STP (06_motion of spec/). -/
def rowsSTP : List (Reg × RegRow) := [
  (.STP_CTRL, ⟨.STP, 0x0, 0x4, 1, .none, [⟨31, 31, .WO, 0⟩, ⟨30, 29, .RW, 0⟩, ⟨28, 24, .RW, 0⟩, ⟨23, 22, .RW, 0⟩, ⟨21, 18, .RW, 4⟩, ⟨0, 0, .RW, 0⟩]⟩),
  (.STP_CHOP, ⟨.STP, 0x4, 0x4, 1, .none, [⟨31, 24, .RW, 0x28⟩, ⟨23, 16, .RW, 0x32⟩, ⟨15, 8, .RW, 0x40⟩, ⟨7, 0, .RW, 0x32⟩]⟩),
  (.STP_CURR, ⟨.STP, 0x8, 0x4, 1, .none, [⟨31, 20, .RW, 0⟩, ⟨19, 8, .RW, 0⟩, ⟨7, 0, .RW, 0x32⟩]⟩),
  (.STP_VSTART, ⟨.STP, 0x10, 0x4, 1, .none, [⟨23, 0, .RW, 1⟩]⟩),
  (.STP_VSTOP, ⟨.STP, 0x14, 0x4, 1, .none, [⟨23, 0, .RW, 1⟩]⟩),
  (.STP_V1, ⟨.STP, 0x18, 0x4, 1, .none, [⟨23, 0, .RW, 1⟩]⟩),
  (.STP_VMAX, ⟨.STP, 0x1c, 0x4, 1, .none, [⟨23, 0, .RW, 1⟩]⟩),
  (.STP_A1, ⟨.STP, 0x20, 0x4, 1, .none, [⟨23, 0, .RW, 1⟩]⟩),
  (.STP_A2, ⟨.STP, 0x24, 0x4, 1, .none, [⟨23, 0, .RW, 1⟩]⟩),
  (.STP_TARGET, ⟨.STP, 0x28, 0x4, 1, .none, [⟨31, 0, .RW, 0⟩]⟩),
  (.STP_PCOMMIT, ⟨.STP, 0x2c, 0x4, 1, .none, [⟨31, 31, .RO, 0⟩, ⟨30, 30, .W1C, 0⟩, ⟨23, 8, .RO, 0⟩, ⟨0, 0, .WO, 0⟩]⟩),
  (.STP_POS, ⟨.STP, 0x30, 0x4, 1, .none, [⟨31, 0, .RW, 0⟩]⟩),
  (.STP_SPEED, ⟨.STP, 0x34, 0x4, 1, .none, [⟨31, 0, .RO, 0⟩]⟩),
  (.STP_LATCH, ⟨.STP, 0x38, 0x4, 1, .none, [⟨31, 31, .RW, 0⟩, ⟨30, 30, .RW, 0⟩, ⟨29, 29, .RW, 0⟩, ⟨28, 27, .RW, 0⟩, ⟨15, 8, .RW, 5⟩, ⟨0, 0, .W1C, 0⟩]⟩),
  (.STP_LPOS, ⟨.STP, 0x3c, 0x4, 1, .none, [⟨31, 0, .RO, 0⟩]⟩),
  (.STP_LTIME_LO, ⟨.STP, 0x40, 0x4, 1, .lo, [⟨31, 0, .RO, 0⟩]⟩),
  (.STP_LTIME_HI, ⟨.STP, 0x44, 0x4, 1, .hi, [⟨31, 0, .RO, 0⟩]⟩),
  (.STP_STAT, ⟨.STP, 0x48, 0x4, 1, .none, [⟨31, 28, .RO, 0⟩, ⟨27, 27, .RO, 0⟩, ⟨26, 26, .W1C, 0⟩, ⟨25, 25, .W1C, 0⟩, ⟨24, 24, .W1C, 0⟩, ⟨23, 23, .RO, 0⟩, ⟨22, 22, .W1C, 0⟩, ⟨15, 8, .RO, 0⟩]⟩),
  (.STP_BUS0, ⟨.STP, 0x50, 0x4, 1, .none, [⟨31, 16, .RW, 0x21c⟩, ⟨15, 0, .RW, 0xa⟩]⟩),
  (.STP_BUS1, ⟨.STP, 0x54, 0x4, 1, .none, [⟨31, 16, .RW, 0x244⟩, ⟨15, 0, .RW, 0x26c⟩]⟩),
  (.STP_BUS2, ⟨.STP, 0x58, 0x4, 1, .none, [⟨31, 16, .RW, 0⟩, ⟨15, 0, .RW, 0x1f4⟩]⟩),
  (.STP_BUSSTAT, ⟨.STP, 0x5c, 0x4, 1, .none, [⟨31, 16, .RO, 0⟩, ⟨15, 15, .RO, 0⟩, ⟨14, 14, .RO, 0⟩, ⟨13, 13, .RO, 0⟩, ⟨12, 12, .RO, 0⟩]⟩)]

/-- The map rows of HV (07_loops of spec/). -/
def rowsHV : List (Reg × RegRow) := [
  (.HV_CTRL, ⟨.HV, 0x0, 0x4, 1, .none, [⟨31, 31, .WO, 0⟩, ⟨30, 29, .RW, 0⟩, ⟨28, 27, .RW, 0⟩, ⟨26, 26, .RW, 0⟩, ⟨0, 0, .RW, 0⟩]⟩),
  (.HV_CFG, ⟨.HV, 0x4, 0x4, 1, .none, [⟨31, 24, .RW, 0x32⟩, ⟨23, 12, .RW, 0x7d0⟩, ⟨11, 4, .RW, 0xe6⟩, ⟨3, 0, .RW, 8⟩]⟩),
  (.HV_SCALE, ⟨.HV, 0x8, 0x4, 1, .none, [⟨31, 16, .RW, 0x7d0⟩, ⟨15, 0, .RW, 0x3e8⟩]⟩),
  (.HV_SETA, ⟨.HV, 0xc, 0x4, 1, .none, [⟨31, 16, .RW, 0⟩, ⟨15, 0, .RW, 0⟩]⟩),
  (.HV_SETB, ⟨.HV, 0x10, 0x4, 1, .none, [⟨31, 16, .RW, 0⟩, ⟨15, 0, .RW, 0⟩]⟩),
  (.HV_LIMIT, ⟨.HV, 0x14, 0x4, 1, .none, [⟨31, 16, .RW, 0x6666⟩, ⟨15, 8, .RW, 0xa⟩, ⟨7, 0, .RW, 0x14⟩]⟩),
  (.HV_ARC, ⟨.HV, 0x18, 0x4, 1, .none, [⟨31, 16, .RW, 0x7000⟩, ⟨15, 0, .RW, 0x7d0⟩]⟩),
  (.HV_MEAS, ⟨.HV, 0x1c, 0x4, 1, .none, [⟨31, 16, .RO, 0⟩, ⟨15, 0, .RO, 0⟩]⟩),
  (.HV_MEAS2, ⟨.HV, 0x20, 0x4, 1, .none, [⟨31, 16, .RO, 0⟩]⟩),
  (.HV_REF, ⟨.HV, 0x24, 0x4, 1, .none, [⟨31, 16, .RO, 0⟩, ⟨15, 0, .RO, 0⟩]⟩),
  (.HV_STAT, ⟨.HV, 0x28, 0x4, 1, .none, [⟨31, 28, .RO, 0⟩, ⟨27, 26, .RO, 0⟩, ⟨25, 25, .RO, 0⟩, ⟨24, 24, .RO, 0⟩, ⟨23, 16, .RO, 0⟩, ⟨15, 0, .RO, 0⟩]⟩),
  (.HV_APPLIED, ⟨.HV, 0x2c, 0x4, 1, .none, [⟨27, 14, .RO, 0⟩, ⟨13, 0, .RO, 0⟩]⟩)]

/-- The map rows of FUS (07_loops of spec/). -/
def rowsFUS : List (Reg × RegRow) := [
  (.FUS_CTRL, ⟨.FUS, 0x0, 0x4, 1, .none, [⟨31, 31, .WO, 0⟩, ⟨1, 1, .RW, 0⟩, ⟨0, 0, .RW, 0⟩]⟩),
  (.FUS_CFG, ⟨.FUS, 0x4, 0x4, 1, .none, [⟨31, 22, .RW, 0xfa⟩, ⟨21, 12, .RW, 0x258⟩, ⟨7, 0, .RW, 0x14⟩]⟩),
  (.FUS_LIM, ⟨.FUS, 0x8, 0x4, 1, .none, [⟨31, 16, .RW, 0x5dc0⟩, ⟨15, 0, .RW, 0x9c40⟩]⟩),
  (.FUS_SCALE, ⟨.FUS, 0xc, 0x4, 1, .none, [⟨31, 16, .RW, 0x640⟩, ⟨15, 0, .RW, 0xcb2⟩]⟩),
  (.FUS_THCFG, ⟨.FUS, 0x10, 0x4, 3, .none, [⟨31, 16, .RW, 0xf3c⟩, ⟨15, 0, .RW, 0x2710⟩]⟩),
  (.FUS_BAND, ⟨.FUS, 0x1c, 0x4, 1, .none, [⟨31, 16, .RW, 0⟩, ⟨15, 8, .RW, 0xa⟩, ⟨7, 0, .RW, 0x64⟩]⟩),
  (.FUS_TEMP, ⟨.FUS, 0x20, 0x4, 1, .none, [⟨31, 16, .RO, 0⟩, ⟨15, 0, .RO, 0⟩]⟩),
  (.FUS_TH01, ⟨.FUS, 0x24, 0x4, 1, .none, [⟨31, 16, .RO, 0⟩, ⟨15, 0, .RO, 0⟩]⟩),
  (.FUS_ICUR, ⟨.FUS, 0x28, 0x4, 1, .none, [⟨31, 16, .RO, 0⟩, ⟨15, 0, .RO, 0⟩]⟩),
  (.FUS_POWER, ⟨.FUS, 0x2c, 0x4, 1, .none, [⟨31, 0, .RO, 0⟩]⟩),
  (.FUS_STAT, ⟨.FUS, 0x30, 0x4, 1, .none, [⟨31, 28, .RO, 0⟩, ⟨27, 27, .RO, 0⟩, ⟨26, 26, .RO, 0⟩, ⟨25, 16, .RO, 0⟩, ⟨15, 0, .RO, 0⟩]⟩),
  (.FUS_FLT, ⟨.FUS, 0x34, 0x4, 1, .none, [⟨31, 16, .W1C, 0⟩, ⟨15, 8, .RO, 0⟩, ⟨7, 0, .RO, 0⟩]⟩)]

/-- The map rows of a block. -/
def Block.rows : Block → List (Reg × RegRow)
  | .CORD => rowsCORD
  | .GATH => rowsGATH
  | .TCE => rowsTCE
  | .LCE => rowsLCE
  | .FCL => rowsFCL
  | .JRN => rowsJRN
  | .OTP => rowsOTP
  | .LCS => rowsLCS
  | .THM => rowsTHM
  | .PSQ => rowsPSQ
  | .OBS => rowsOBS
  | .PMX => rowsPMX
  | .ING => rowsING
  | .DMA => rowsDMA
  | .SHW => rowsSHW
  | .QST => rowsQST
  | .CMP => rowsCMP
  | .DCP => rowsDCP
  | .STR => rowsSTR
  | .SYN => rowsSYN
  | .CKU => rowsCKU
  | .HYW => rowsHYW
  | .MOT => rowsMOT
  | .STP => rowsSTP
  | .HV => rowsHV
  | .FUS => rowsFUS

/-- The row of a register in a list of map rows. -/
def findRow (r : Reg) : List (Reg × RegRow) → RegRow
  | [] => ⟨.CORD, 0, 4, 0, .none, []⟩
  | (q, row) :: t => if q = r then row else findRow r t

/-- The block a register belongs to. -/
def Reg.block : Reg → Block
  | .CORD_NOW_LO => .CORD
  | .CORD_NOW_HI => .CORD
  | .CORD_STAT => .CORD
  | .TCE_QCFG => .TCE
  | .TCE_QBASE => .TCE
  | .TCE_QHEAD => .TCE
  | .TCE_QTAIL => .TCE
  | .PMX_CLAIMREQ => .PMX
  | .PMX_CLAIMRES => .PMX
  | .LCS_BOOTSTAT => .LCS
  | .GATH_CTRL => .GATH
  | .GATH_TIMING => .GATH
  | .GATH_FEED => .GATH
  | .GATH_FUS_RATE => .GATH
  | .GATH_FUS_DEPTH => .GATH
  | .GATH_FUS_LEVEL => .GATH
  | .GATH_SITE_W => .GATH
  | .GATH_BASE_W => .GATH
  | .GATH_SITE_DEPTH => .GATH
  | .GATH_SITE_LEVEL => .GATH
  | .GATH_DIEGAP => .GATH
  | .GATH_GAPMIN => .GATH
  | .GATH_GEOM0 => .GATH
  | .GATH_GEOM1 => .GATH
  | .GATH_GEOM2 => .GATH
  | .GATH_GEOM3 => .GATH
  | .GATH_GEOM4 => .GATH
  | .GATH_GCOMMIT => .GATH
  | .GATH_WEB => .GATH
  | .GATH_SCMD => .GATH
  | .GATH_SCMDFSN => .GATH
  | .GATH_SCMDRES => .GATH
  | .GATH_SCFG => .GATH
  | .GATH_SSTAT => .GATH
  | .GATH_SNEXT => .GATH
  | .GATH_SDEL => .GATH
  | .GATH_MEDIA_A => .GATH
  | .GATH_MEDIA_B => .GATH
  | .STR_CTRL => .STR
  | .STR_STAT => .STR
  | .STR_SCAN => .STR
  | .STR_AMP => .STR
  | .STR_DRIVE => .STR
  | .STR_PERIOD => .STR
  | .STR_BD => .STR
  | .STR_BDSTAT => .STR
  | .STR_APC => .STR
  | .STR_POLY => .STR
  | .STR_POLYF => .STR
  | .STR_PHASE => .STR
  | .STR_WINDOW => .STR
  | .STR_PROF => .STR
  | .STR_PULSE => .STR
  | .STR_REGSCAN => .STR
  | .STR_DIROFS => .STR
  | .STR_BEAMOFS => .STR
  | .STR_LDCMD => .STR
  | .STR_CALBUF => .STR
  | .STR_CALN => .STR
  | .STR_GLOBAL => .STR
  | .STR_SPEED => .STR
  | .STR_CALT_LO => .STR
  | .STR_CALT_HI => .STR
  | .STR_PCOMMIT => .STR
  | .STR_COMMIT => .STR
  | .STR_GCOMMIT => .STR
  | .DMA_APER_BASE_LO => .DMA
  | .DMA_APER_BASE_HI => .DMA
  | .DMA_CHCFG => .DMA
  | .DMA_CHCTRL => .DMA
  | .DMA_CHSTAT => .DMA
  | .DMA_CHBYTES => .DMA
  | .SHW_PAGE => .SHW
  | .ING_CTRL => .ING
  | .ING_CTX_CFG => .ING
  | .ING_CTX_JOB => .ING
  | .ING_CTX_NB => .ING
  | .ING_CTX_STAT => .ING
  | .ING_CTX_LOC_LO => .ING
  | .ING_CTX_LOC_HI => .ING
  | .ING_CTX_CRC => .ING
  | .ING_CTX_TAIL => .ING
  | .CMP_CTRL => .CMP
  | .CMP_STAT => .CMP
  | .QST_QRING => .QST
  | .QST_QSTAT => .QST
  | .DCP_CTRL => .DCP
  | .DCP_JOB_LO => .DCP
  | .DCP_JOB_HI => .DCP
  | .DCP_STAT => .DCP
  | .TCE_CORERST => .TCE
  | .TCE_SPARE => .TCE
  | .TCE_CSTAT => .TCE
  | .TCE_WDOG => .TCE
  | .TCE_EDGESEL => .TCE
  | .MOT_CTRL => .MOT
  | .MOT_CFG => .MOT
  | .MOT_PWM => .MOT
  | .MOT_PHOFS => .MOT
  | .MOT_RATED => .MOT
  | .MOT_ALIGN => .MOT
  | .MOT_RAMP => .MOT
  | .MOT_SREG => .MOT
  | .MOT_MODEL => .MOT
  | .MOT_MODEL2 => .MOT
  | .MOT_GEAR => .MOT
  | .MOT_LIM => .MOT
  | .MOT_STAT => .MOT
  | .MOT_MEAS_I => .MOT
  | .MOT_MEAS_W => .MOT
  | .MOT_MEAS_P => .MOT
  | .MOT_VCMD => .MOT
  | .MOT_SREF => .MOT
  | .MOT_CATCH => .MOT
  | .MOT_DIAG => .MOT
  | .MOT_ADV => .MOT
  | .MOT_ADVCOMMIT => .MOT
  | .MOT_COMMIT => .MOT
  | .STP_CTRL => .STP
  | .STP_CHOP => .STP
  | .STP_CURR => .STP
  | .STP_VSTART => .STP
  | .STP_VSTOP => .STP
  | .STP_V1 => .STP
  | .STP_VMAX => .STP
  | .STP_A1 => .STP
  | .STP_A2 => .STP
  | .STP_TARGET => .STP
  | .STP_PCOMMIT => .STP
  | .STP_POS => .STP
  | .STP_SPEED => .STP
  | .STP_LATCH => .STP
  | .STP_LPOS => .STP
  | .STP_LTIME_LO => .STP
  | .STP_LTIME_HI => .STP
  | .STP_STAT => .STP
  | .STP_BUS0 => .STP
  | .STP_BUS1 => .STP
  | .STP_BUS2 => .STP
  | .STP_BUSSTAT => .STP
  | .FUS_CTRL => .FUS
  | .FUS_CFG => .FUS
  | .FUS_LIM => .FUS
  | .FUS_SCALE => .FUS
  | .FUS_THCFG => .FUS
  | .FUS_BAND => .FUS
  | .FUS_TEMP => .FUS
  | .FUS_TH01 => .FUS
  | .FUS_ICUR => .FUS
  | .FUS_POWER => .FUS
  | .FUS_STAT => .FUS
  | .FUS_FLT => .FUS
  | .HV_CTRL => .HV
  | .HV_CFG => .HV
  | .HV_SCALE => .HV
  | .HV_SETA => .HV
  | .HV_SETB => .HV
  | .HV_LIMIT => .HV
  | .HV_ARC => .HV
  | .HV_MEAS => .HV
  | .HV_MEAS2 => .HV
  | .HV_REF => .HV
  | .HV_STAT => .HV
  | .HV_APPLIED => .HV
  | .LCE_CTRL => .LCE
  | .LCE_APCRES => .LCE
  | .LCE_APCSTAMP_LO => .LCE
  | .LCE_APCSTAMP_HI => .LCE
  | .SYN_CTRL => .SYN
  | .SYN_STAT => .SYN
  | .SYN_DIV => .SYN
  | .SYN_CKO => .SYN
  | .SYN_DCOMMIT => .SYN
  | .SYN_CKOEN => .SYN
  | .SYN_ALIGN => .SYN
  | .SYN_RAMP => .SYN
  | .SYN_KVAL => .SYN
  | .SYN_FNOW => .SYN
  | .SYN_RANGE => .SYN
  | .THM_LEVELS => .THM
  | .THM_STAT => .THM
  | .THM_BROKEN => .THM
  | .THM_TS => .THM
  | .THM_TXCFG => .THM
  | .THM_TXLIM => .THM
  | .THM_TX => .THM
  | .THM_TXSTAT => .THM
  | .THM_PAIRCFG => .THM
  | .PSQ_CTRL => .PSQ
  | .PSQ_CMD => .PSQ
  | .PSQ_STAT => .PSQ
  | .PSQ_ENTRY => .PSQ
  | .PSQ_PGCFG => .PSQ
  | .PSQ_VIN => .PSQ
  | .PSQ_COOP => .PSQ
  | .PSQ_WAKE => .PSQ
  | .PSQ_CAUSE => .PSQ
  | .PSQ_RAILCFG => .PSQ
  | .PSQ_ENSTAT => .PSQ
  | .PSQ_PGSTAT => .PSQ
  | .PSQ_SLAVE => .PSQ
  | .PSQ_PROG => .PSQ
  | .PSQ_MRG => .PSQ
  | .CKU_CTRL => .CKU
  | .CKU_CFG => .CKU
  | .CKU_POLY_LO => .CKU
  | .CKU_POLY_HI => .CKU
  | .CKU_INIT_LO => .CKU
  | .CKU_INIT_HI => .CKU
  | .CKU_RUN_LO => .CKU
  | .CKU_RUN_HI => .CKU
  | .CKU_OUT_LO => .CKU
  | .CKU_OUT_HI => .CKU
  | .CKU_DIN32 => .CKU
  | .CKU_DIN8 => .CKU
  | .CKU_BIND => .CKU
  | .CKU_STAT => .CKU
  | .FCL_CTRL => .FCL
  | .FCL_CLASSB => .FCL
  | .FCL_STAT => .FCL
  | .FCL_KCMD => .FCL
  | .FCL_ACK => .FCL
  | .FCL_HEAD => .FCL
  | .FCL_RINGCFG => .FCL
  | .FCL_FORCE => .FCL
  | .FCL_SRCCFG => .FCL
  | .FCL_KPAD => .FCL
  | .FCL_HIST_STAMP_LO => .FCL
  | .FCL_HIST_STAMP_HI => .FCL
  | .FCL_HIST_INFO => .FCL
  | .FCL_HIST_FSN => .FCL
  | .FCL_HIST_EPOCH => .FCL
  | .FCL_HIST_STATE => .FCL
  | .JRN_CMD => .JRN
  | .JRN_EPOCH => .JRN
  | .JRN_STAT => .JRN
  | .JRN_SEQ => .JRN
  | .JRN_TAILSEQ => .JRN
  | .JRN_SEALEPOCH => .JRN
  | .JRN_UNITEP => .JRN
  | .JRN_RIDX => .JRN
  | .JRN_RDATA => .JRN
  | .OTP_DEVID => .OTP
  | .OTP_STAT => .OTP
  | .OTP_RADDR => .OTP
  | .OTP_RDATA => .OTP
  | .OTP_PADDR => .OTP
  | .OTP_PDATA => .OTP
  | .OTP_PCMD => .OTP
  | .OTP_PSTAT => .OTP
  | .OTP_SCRUB => .OTP
  | .OTP_MLIST => .OTP
  | .LCS_BOOTCMD => .LCS
  | .LCS_WARMRST => .LCS
  | .LCS_CHIPID_LO => .LCS
  | .LCS_CHIPID_HI => .LCS
  | .LCS_NONCE => .LCS
  | .LCS_TOKEN => .LCS
  | .LCS_STATE => .LCS
  | .LCS_LCCMD => .LCS
  | .LCS_RESULT => .LCS
  | .LCS_ROSC => .LCS
  | .HYW_CTRL => .HYW
  | .HYW_CFG => .HYW
  | .HYW_CFG2 => .HYW
  | .HYW_STAT => .HYW
  | .HYW_ID_LO => .HYW
  | .HYW_ID_HI => .HYW
  | .HYW_RATED => .HYW
  | .HYW_LIFE => .HYW
  | .HYW_METER => .HYW
  | .OBS_CTRL => .OBS
  | .OBS_STAT => .OBS
  | .OBS_HOSTEN => .OBS
  | .OBS_UACC => .OBS
  | .OBS_TRCCFG => .OBS
  | .OBS_EVTMASK => .OBS
  | .OBS_BUFBASE_LO => .OBS
  | .OBS_BUFBASE_HI => .OBS
  | .OBS_BUFSIZE => .OBS
  | .OBS_BUFWP => .OBS
  | .OBS_MARK => .OBS
  | .OBS_BWCFG => .OBS
  | .OBS_BWLAST => .OBS
  | .OBS_BWPEAK => .OBS
  | .OBS_EVSEL => .OBS
  | .OBS_CNT_LO => .OBS
  | .OBS_CNT_HI => .OBS
  | .OBS_FIX_LO => .OBS
  | .OBS_FIX_HI => .OBS
  | .OBS_SAMP_PC => .OBS
  | .OBS_SAMP_INFO => .OBS
  | .PMX_PADCFG => .PMX
  | .PMX_SNSWIRE => .PMX
  | .PMX_SNSSTAT => .PMX

/-- The map row of a register. -/
def Reg.row (r : Reg) : RegRow := findRow r r.block.rows

/-- A field of one register: its register, block instance n, repetition index k and bits [hi:lo]. -/
structure FieldRef where
  reg : Reg
  n : Nat
  k : Nat
  hi : Nat
  lo : Nat
  deriving DecidableEq, Repr

namespace F

def CORD_NOW_LO_COUNT : FieldRef := ⟨.CORD_NOW_LO, 0, 0, 31, 0⟩
def CORD_NOW_HI_COUNT : FieldRef := ⟨.CORD_NOW_HI, 0, 0, 31, 0⟩
def CORD_STAT_RESTARTED : FieldRef := ⟨.CORD_STAT, 0, 0, 31, 31⟩
def CORD_STAT_VID_OK : FieldRef := ⟨.CORD_STAT, 0, 0, 5, 2⟩
def CORD_STAT_CORE_OK : FieldRef := ⟨.CORD_STAT, 0, 0, 1, 1⟩
def CORD_STAT_RUN : FieldRef := ⟨.CORD_STAT, 0, 0, 0, 0⟩
def TCE_QCFG_PROD (k : Nat) : FieldRef := ⟨.TCE_QCFG, 0, k, 31, 28⟩
def TCE_QCFG_CONS (k : Nat) : FieldRef := ⟨.TCE_QCFG, 0, k, 27, 24⟩
def TCE_QCFG_PCORE (k : Nat) : FieldRef := ⟨.TCE_QCFG, 0, k, 23, 19⟩
def TCE_QCFG_CCORE (k : Nat) : FieldRef := ⟨.TCE_QCFG, 0, k, 18, 14⟩
def TCE_QCFG_ESIZE (k : Nat) : FieldRef := ⟨.TCE_QCFG, 0, k, 13, 12⟩
def TCE_QCFG_LOG2N (k : Nat) : FieldRef := ⟨.TCE_QCFG, 0, k, 11, 8⟩
def TCE_QCFG_EN (k : Nat) : FieldRef := ⟨.TCE_QCFG, 0, k, 0, 0⟩
def TCE_QBASE_OFFSET (k : Nat) : FieldRef := ⟨.TCE_QBASE, 0, k, 19, 6⟩
def TCE_QHEAD_INDEX (k : Nat) : FieldRef := ⟨.TCE_QHEAD, 0, k, 11, 0⟩
def TCE_QTAIL_INDEX (k : Nat) : FieldRef := ⟨.TCE_QTAIL, 0, k, 11, 0⟩
def PMX_CLAIMREQ_OP : FieldRef := ⟨.PMX_CLAIMREQ, 0, 0, 31, 31⟩
def PMX_CLAIMREQ_RID : FieldRef := ⟨.PMX_CLAIMREQ, 0, 0, 15, 0⟩
def PMX_CLAIMRES_DONE (k : Nat) : FieldRef := ⟨.PMX_CLAIMRES, 0, k, 31, 31⟩
def PMX_CLAIMRES_GRANTED (k : Nat) : FieldRef := ⟨.PMX_CLAIMRES, 0, k, 30, 30⟩
def PMX_CLAIMRES_OWNER (k : Nat) : FieldRef := ⟨.PMX_CLAIMRES, 0, k, 29, 26⟩
def PMX_CLAIMRES_OCORE (k : Nat) : FieldRef := ⟨.PMX_CLAIMRES, 0, k, 25, 21⟩
def PMX_CLAIMRES_RID (k : Nat) : FieldRef := ⟨.PMX_CLAIMRES, 0, k, 15, 0⟩
def LCS_BOOTSTAT_STAGE : FieldRef := ⟨.LCS_BOOTSTAT, 0, 0, 31, 24⟩
def LCS_BOOTSTAT_ERROR : FieldRef := ⟨.LCS_BOOTSTAT, 0, 0, 23, 16⟩
def LCS_BOOTSTAT_SLOT : FieldRef := ⟨.LCS_BOOTSTAT, 0, 0, 7, 4⟩
def GATH_CTRL_UNIT_RST : FieldRef := ⟨.GATH_CTRL, 0, 0, 31, 31⟩
def GATH_CTRL_NBINS : FieldRef := ⟨.GATH_CTRL, 0, 0, 6, 4⟩
def GATH_CTRL_WEB : FieldRef := ⟨.GATH_CTRL, 0, 0, 1, 1⟩
def GATH_CTRL_EN : FieldRef := ⟨.GATH_CTRL, 0, 0, 0, 0⟩
def GATH_TIMING_SEW_LEAD : FieldRef := ⟨.GATH_TIMING, 0, 0, 31, 24⟩
def GATH_TIMING_EXIT_SETTLE : FieldRef := ⟨.GATH_TIMING, 0, 0, 23, 16⟩
def GATH_TIMING_GATE_LEAD : FieldRef := ⟨.GATH_TIMING, 0, 0, 15, 8⟩
def GATH_TIMING_REG_TOL : FieldRef := ⟨.GATH_TIMING, 0, 0, 7, 0⟩
def GATH_FEED_EDGETOL : FieldRef := ⟨.GATH_FEED, 0, 0, 15, 8⟩
def GATH_FEED_DESKEW : FieldRef := ⟨.GATH_FEED, 0, 0, 7, 0⟩
def GATH_FUS_RATE_RATE : FieldRef := ⟨.GATH_FUS_RATE, 0, 0, 31, 0⟩
def GATH_FUS_DEPTH_DEPTH : FieldRef := ⟨.GATH_FUS_DEPTH, 0, 0, 31, 0⟩
def GATH_FUS_LEVEL_LEVEL : FieldRef := ⟨.GATH_FUS_LEVEL, 0, 0, 31, 0⟩
def GATH_SITE_W_POWER : FieldRef := ⟨.GATH_SITE_W, 0, 0, 31, 0⟩
def GATH_BASE_W_POWER : FieldRef := ⟨.GATH_BASE_W, 0, 0, 31, 0⟩
def GATH_SITE_DEPTH_DEPTH : FieldRef := ⟨.GATH_SITE_DEPTH, 0, 0, 31, 0⟩
def GATH_SITE_LEVEL_LEVEL : FieldRef := ⟨.GATH_SITE_LEVEL, 0, 0, 31, 0⟩
def GATH_DIEGAP_MAX : FieldRef := ⟨.GATH_DIEGAP, 0, 0, 31, 16⟩
def GATH_DIEGAP_NOW : FieldRef := ⟨.GATH_DIEGAP, 0, 0, 15, 0⟩
def GATH_GAPMIN_GAP : FieldRef := ⟨.GATH_GAPMIN, 0, 0, 15, 0⟩
def GATH_GEOM0_D_RT : FieldRef := ⟨.GATH_GEOM0, 0, 0, 31, 16⟩
def GATH_GEOM0_D_EX : FieldRef := ⟨.GATH_GEOM0, 0, 0, 15, 0⟩
def GATH_GEOM1_P_ST : FieldRef := ⟨.GATH_GEOM1, 0, 0, 31, 16⟩
def GATH_GEOM1_D_FUS : FieldRef := ⟨.GATH_GEOM1, 0, 0, 15, 0⟩
def GATH_GEOM2_D_DUP : FieldRef := ⟨.GATH_GEOM2, 0, 0, 31, 16⟩
def GATH_GEOM2_D_RET : FieldRef := ⟨.GATH_GEOM2, 0, 0, 15, 0⟩
def GATH_GEOM3_D_DIV : FieldRef := ⟨.GATH_GEOM3, 0, 0, 31, 16⟩
def GATH_GEOM3_D_EXIT : FieldRef := ⟨.GATH_GEOM3, 0, 0, 15, 0⟩
def GATH_GEOM4_T_REV : FieldRef := ⟨.GATH_GEOM4, 0, 0, 31, 16⟩
def GATH_GEOM4_HV_LEAD : FieldRef := ⟨.GATH_GEOM4, 0, 0, 15, 0⟩
def GATH_GCOMMIT_PEND : FieldRef := ⟨.GATH_GCOMMIT, 0, 0, 31, 31⟩
def GATH_GCOMMIT_LATE_WR : FieldRef := ⟨.GATH_GCOMMIT, 0, 0, 30, 30⟩
def GATH_GCOMMIT_LATE_CNT : FieldRef := ⟨.GATH_GCOMMIT, 0, 0, 23, 8⟩
def GATH_GCOMMIT_GO : FieldRef := ⟨.GATH_GCOMMIT, 0, 0, 0, 0⟩
def GATH_WEB_REJECT : FieldRef := ⟨.GATH_WEB, 0, 0, 31, 31⟩
def GATH_WEB_RESTART : FieldRef := ⟨.GATH_WEB, 0, 0, 27, 16⟩
def GATH_WEB_BLANKMAX : FieldRef := ⟨.GATH_WEB, 0, 0, 15, 0⟩
def GATH_SCMD_ACTION : FieldRef := ⟨.GATH_SCMD, 0, 0, 31, 28⟩
def GATH_SCMD_STREAM : FieldRef := ⟨.GATH_SCMD, 0, 0, 2, 0⟩
def GATH_SCMDFSN_FSN : FieldRef := ⟨.GATH_SCMDFSN, 0, 0, 31, 0⟩
def GATH_SCMDRES_DONE : FieldRef := ⟨.GATH_SCMDRES, 0, 0, 31, 31⟩
def GATH_SCMDRES_OK : FieldRef := ⟨.GATH_SCMDRES, 0, 0, 30, 30⟩
def GATH_SCMDRES_COUNT : FieldRef := ⟨.GATH_SCMDRES, 0, 0, 15, 0⟩
def GATH_SCFG_EN (k : Nat) : FieldRef := ⟨.GATH_SCFG, 0, k, 31, 31⟩
def GATH_SCFG_PRIO (k : Nat) : FieldRef := ⟨.GATH_SCFG, 0, k, 30, 28⟩
def GATH_SCFG_MAXTRY (k : Nat) : FieldRef := ⟨.GATH_SCFG, 0, k, 23, 20⟩
def GATH_SCFG_SKIPMAX (k : Nat) : FieldRef := ⟨.GATH_SCFG, 0, k, 19, 16⟩
def GATH_SSTAT_STATE (k : Nat) : FieldRef := ⟨.GATH_SSTAT, 0, k, 31, 28⟩
def GATH_SSTAT_LASTREF (k : Nat) : FieldRef := ⟨.GATH_SSTAT, 0, k, 27, 24⟩
def GATH_SSTAT_REFPEND (k : Nat) : FieldRef := ⟨.GATH_SSTAT, 0, k, 23, 23⟩
def GATH_SSTAT_INPATH (k : Nat) : FieldRef := ⟨.GATH_SSTAT, 0, k, 22, 16⟩
def GATH_SSTAT_VALID (k : Nat) : FieldRef := ⟨.GATH_SSTAT, 0, k, 15, 15⟩
def GATH_SSTAT_ACCEPTED (k : Nat) : FieldRef := ⟨.GATH_SSTAT, 0, k, 14, 0⟩
def GATH_SNEXT_FSN (k : Nat) : FieldRef := ⟨.GATH_SNEXT, 0, k, 31, 0⟩
def GATH_SDEL_FSN (k : Nat) : FieldRef := ⟨.GATH_SDEL, 0, k, 31, 0⟩
def GATH_MEDIA_A_FUS_JPM (k : Nat) : FieldRef := ⟨.GATH_MEDIA_A, 0, k, 31, 16⟩
def GATH_MEDIA_A_MECH_JPM (k : Nat) : FieldRef := ⟨.GATH_MEDIA_A, 0, k, 15, 0⟩
def GATH_MEDIA_B_TONER_K (k : Nat) : FieldRef := ⟨.GATH_MEDIA_B, 0, k, 31, 24⟩
def GATH_MEDIA_B_ETA (k : Nat) : FieldRef := ⟨.GATH_MEDIA_B, 0, k, 23, 16⟩
def GATH_MEDIA_B_VALID (k : Nat) : FieldRef := ⟨.GATH_MEDIA_B, 0, k, 0, 0⟩
def STR_CTRL_UNIT_RST (n : Nat) : FieldRef := ⟨.STR_CTRL, n, 0, 31, 31⟩
def STR_CTRL_MODE (n : Nat) : FieldRef := ⟨.STR_CTRL, n, 0, 30, 29⟩
def STR_CTRL_BEAMSTART (n : Nat) : FieldRef := ⟨.STR_CTRL, n, 0, 28, 26⟩
def STR_CTRL_LDFLT (n : Nat) : FieldRef := ⟨.STR_CTRL, n, 0, 25, 21⟩
def STR_CTRL_LDFLTEN (n : Nat) : FieldRef := ⟨.STR_CTRL, n, 0, 20, 20⟩
def STR_CTRL_LDTX (n : Nat) : FieldRef := ⟨.STR_CTRL, n, 0, 19, 17⟩
def STR_CTRL_LDTXEN (n : Nat) : FieldRef := ⟨.STR_CTRL, n, 0, 16, 16⟩
def STR_CTRL_BDEMIT (n : Nat) : FieldRef := ⟨.STR_CTRL, n, 0, 15, 13⟩
def STR_CTRL_CALRUN (n : Nat) : FieldRef := ⟨.STR_CTRL, n, 0, 2, 2⟩
def STR_CTRL_CALOK (n : Nat) : FieldRef := ⟨.STR_CTRL, n, 0, 1, 1⟩
def STR_CTRL_EN (n : Nat) : FieldRef := ⟨.STR_CTRL, n, 0, 0, 0⟩
def STR_STAT_SCAN (n : Nat) : FieldRef := ⟨.STR_STAT, n, 0, 31, 28⟩
def STR_STAT_AVAIL (n : Nat) : FieldRef := ⟨.STR_STAT, n, 0, 27, 27⟩
def STR_STAT_LASER_DIS (n : Nat) : FieldRef := ⟨.STR_STAT, n, 0, 26, 26⟩
def STR_STAT_PACE (n : Nat) : FieldRef := ⟨.STR_STAT, n, 0, 25, 25⟩
def STR_STAT_DIR (n : Nat) : FieldRef := ⟨.STR_STAT, n, 0, 24, 24⟩
def STR_STAT_DISCAUSE (n : Nat) : FieldRef := ⟨.STR_STAT, n, 0, 23, 22⟩
def STR_STAT_STROKES (n : Nat) : FieldRef := ⟨.STR_STAT, n, 0, 21, 0⟩
def STR_SCAN_FSWEEP (n : Nat) : FieldRef := ⟨.STR_SCAN, n, 0, 31, 20⟩
def STR_SCAN_SWSPAN (n : Nat) : FieldRef := ⟨.STR_SCAN, n, 0, 19, 12⟩
def STR_SCAN_SWRATE (n : Nat) : FieldRef := ⟨.STR_SCAN, n, 0, 11, 4⟩
def STR_AMP_RHO_SET (n : Nat) : FieldRef := ⟨.STR_AMP, n, 0, 31, 16⟩
def STR_AMP_RHOTOL (n : Nat) : FieldRef := ⟨.STR_AMP, n, 0, 15, 8⟩
def STR_AMP_DRVMAX (n : Nat) : FieldRef := ⟨.STR_AMP, n, 0, 7, 0⟩
def STR_DRIVE_LEVEL (n : Nat) : FieldRef := ⟨.STR_DRIVE, n, 0, 31, 24⟩
def STR_DRIVE_ICOIL (n : Nat) : FieldRef := ⟨.STR_DRIVE, n, 0, 23, 12⟩
def STR_DRIVE_PHERR (n : Nat) : FieldRef := ⟨.STR_DRIVE, n, 0, 11, 0⟩
def STR_PERIOD_T_EST (n : Nat) : FieldRef := ⟨.STR_PERIOD, n, 0, 31, 0⟩
def STR_BD_BDTOL (n : Nat) : FieldRef := ⟨.STR_BD, n, 0, 31, 24⟩
def STR_BD_BDWIN (n : Nat) : FieldRef := ⟨.STR_BD, n, 0, 23, 16⟩
def STR_BD_BDLAT (n : Nat) : FieldRef := ⟨.STR_BD, n, 0, 15, 6⟩
def STR_BDSTAT_TWOMISS (n : Nat) : FieldRef := ⟨.STR_BDSTAT, n, 0, 31, 31⟩
def STR_BDSTAT_CONSEC (n : Nat) : FieldRef := ⟨.STR_BDSTAT, n, 0, 23, 16⟩
def STR_BDSTAT_MISSCNT (n : Nat) : FieldRef := ⟨.STR_BDSTAT, n, 0, 15, 0⟩
def STR_APC_START (n : Nat) : FieldRef := ⟨.STR_APC, n, 0, 31, 24⟩
def STR_APC_SLOT (n : Nat) : FieldRef := ⟨.STR_APC, n, 0, 23, 16⟩
def STR_APC_SAMPLE (n : Nat) : FieldRef := ⟨.STR_APC, n, 0, 15, 8⟩
def STR_APC_ENMASK (n : Nat) : FieldRef := ⟨.STR_APC, n, 0, 7, 0⟩
def STR_POLY_MOT (n : Nat) : FieldRef := ⟨.STR_POLY, n, 0, 31, 29⟩
def STR_POLY_FACETS (n : Nat) : FieldRef := ⟨.STR_POLY, n, 0, 28, 25⟩
def STR_POLY_DELAY (n : Nat) : FieldRef := ⟨.STR_POLY, n, 0, 15, 0⟩
def STR_POLYF_FREQ (n : Nat) : FieldRef := ⟨.STR_POLYF, n, 0, 31, 0⟩
def STR_PHASE_PHASE (n : Nat) : FieldRef := ⟨.STR_PHASE, n, 0, 19, 0⟩
def STR_WINDOW_NPIX (n : Nat) : FieldRef := ⟨.STR_WINDOW, n, 0, 31, 18⟩
def STR_WINDOW_WSTART (n : Nat) : FieldRef := ⟨.STR_WINDOW, n, 0, 10, 0⟩
def STR_PROF_BACK (n : Nat) : FieldRef := ⟨.STR_PROF, n, 0, 31, 16⟩
def STR_PROF_FORE (n : Nat) : FieldRef := ⟨.STR_PROF, n, 0, 15, 0⟩
def STR_PULSE_JUST (n : Nat) : FieldRef := ⟨.STR_PULSE, n, 0, 31, 30⟩
def STR_PULSE_DRVLAT (n : Nat) : FieldRef := ⟨.STR_PULSE, n, 0, 29, 20⟩
def STR_REGSCAN_REGSCAN (n : Nat) : FieldRef := ⟨.STR_REGSCAN, n, 0, 11, 0⟩
def STR_DIROFS_FORE (n : Nat) : FieldRef := ⟨.STR_DIROFS, n, 0, 27, 16⟩
def STR_DIROFS_BACK (n : Nat) : FieldRef := ⟨.STR_DIROFS, n, 0, 11, 0⟩
def STR_BEAMOFS_FORE (n : Nat) (k : Nat) : FieldRef := ⟨.STR_BEAMOFS, n, k, 27, 16⟩
def STR_BEAMOFS_BACK (n : Nat) (k : Nat) : FieldRef := ⟨.STR_BEAMOFS, n, k, 11, 0⟩
def STR_LDCMD_PEND (n : Nat) (k : Nat) : FieldRef := ⟨.STR_LDCMD, n, k, 31, 31⟩
def STR_LDCMD_CMD (n : Nat) (k : Nat) : FieldRef := ⟨.STR_LDCMD, n, k, 27, 24⟩
def STR_LDCMD_VALUE (n : Nat) (k : Nat) : FieldRef := ⟨.STR_LDCMD, n, k, 23, 12⟩
def STR_CALBUF_GRAN (n : Nat) : FieldRef := ⟨.STR_CALBUF, n, 0, 15, 8⟩
def STR_CALBUF_NBUF (n : Nat) : FieldRef := ⟨.STR_CALBUF, n, 0, 7, 0⟩
def STR_CALN_BUSY (n : Nat) : FieldRef := ⟨.STR_CALN, n, 0, 31, 31⟩
def STR_CALN_COUNT (n : Nat) : FieldRef := ⟨.STR_CALN, n, 0, 15, 0⟩
def STR_GLOBAL_DRIFT (n : Nat) : FieldRef := ⟨.STR_GLOBAL, n, 0, 31, 20⟩
def STR_GLOBAL_PACE (n : Nat) : FieldRef := ⟨.STR_GLOBAL, n, 0, 18, 16⟩
def STR_GLOBAL_B (n : Nat) : FieldRef := ⟨.STR_GLOBAL, n, 0, 11, 8⟩
def STR_SPEED_V (n : Nat) : FieldRef := ⟨.STR_SPEED, n, 0, 31, 0⟩
def STR_CALT_LO_T (n : Nat) : FieldRef := ⟨.STR_CALT_LO, n, 0, 31, 0⟩
def STR_CALT_HI_T (n : Nat) : FieldRef := ⟨.STR_CALT_HI, n, 0, 31, 0⟩
def STR_PCOMMIT_PEND (n : Nat) : FieldRef := ⟨.STR_PCOMMIT, n, 0, 31, 31⟩
def STR_PCOMMIT_LATE_WR (n : Nat) : FieldRef := ⟨.STR_PCOMMIT, n, 0, 30, 30⟩
def STR_PCOMMIT_LATE_CNT (n : Nat) : FieldRef := ⟨.STR_PCOMMIT, n, 0, 23, 8⟩
def STR_PCOMMIT_GO (n : Nat) : FieldRef := ⟨.STR_PCOMMIT, n, 0, 0, 0⟩
def STR_COMMIT_PEND (n : Nat) : FieldRef := ⟨.STR_COMMIT, n, 0, 31, 31⟩
def STR_COMMIT_LATE_WR (n : Nat) : FieldRef := ⟨.STR_COMMIT, n, 0, 30, 30⟩
def STR_COMMIT_LATE_CNT (n : Nat) : FieldRef := ⟨.STR_COMMIT, n, 0, 23, 8⟩
def STR_COMMIT_GO (n : Nat) : FieldRef := ⟨.STR_COMMIT, n, 0, 0, 0⟩
def STR_GCOMMIT_PEND (n : Nat) : FieldRef := ⟨.STR_GCOMMIT, n, 0, 31, 31⟩
def STR_GCOMMIT_LATE_WR (n : Nat) : FieldRef := ⟨.STR_GCOMMIT, n, 0, 30, 30⟩
def STR_GCOMMIT_LATE_CNT (n : Nat) : FieldRef := ⟨.STR_GCOMMIT, n, 0, 23, 8⟩
def STR_GCOMMIT_GO (n : Nat) : FieldRef := ⟨.STR_GCOMMIT, n, 0, 0, 0⟩
def DMA_APER_BASE_LO_BASE (k : Nat) : FieldRef := ⟨.DMA_APER_BASE_LO, 0, k, 31, 0⟩
def DMA_APER_BASE_HI_BASE (k : Nat) : FieldRef := ⟨.DMA_APER_BASE_HI, 0, k, 31, 0⟩
def DMA_CHCFG_EN (k : Nat) : FieldRef := ⟨.DMA_CHCFG, 0, k, 31, 31⟩
def DMA_CHCFG_WEIGHT (k : Nat) : FieldRef := ⟨.DMA_CHCFG, 0, k, 27, 24⟩
def DMA_CHCFG_OWNWAIT (k : Nat) : FieldRef := ⟨.DMA_CHCFG, 0, k, 23, 16⟩
def DMA_CHCTRL_RESTART (k : Nat) : FieldRef := ⟨.DMA_CHCTRL, 0, k, 31, 31⟩
def DMA_CHCTRL_STOP (k : Nat) : FieldRef := ⟨.DMA_CHCTRL, 0, k, 30, 30⟩
def DMA_CHSTAT_STATE (k : Nat) : FieldRef := ⟨.DMA_CHSTAT, 0, k, 31, 30⟩
def DMA_CHSTAT_LASTCODE (k : Nat) : FieldRef := ⟨.DMA_CHSTAT, 0, k, 23, 16⟩
def DMA_CHSTAT_FAILIDX (k : Nat) : FieldRef := ⟨.DMA_CHSTAT, 0, k, 11, 0⟩
def DMA_CHBYTES_BYTES (k : Nat) : FieldRef := ⟨.DMA_CHBYTES, 0, k, 31, 0⟩
def SHW_PAGE_KEY (k : Nat) : FieldRef := ⟨.SHW_PAGE, 0, k, 31, 24⟩
def SHW_PAGE_SEQ (k : Nat) : FieldRef := ⟨.SHW_PAGE, 0, k, 15, 8⟩
def SHW_PAGE_OWNER (k : Nat) : FieldRef := ⟨.SHW_PAGE, 0, k, 0, 0⟩
def ING_CTRL_UNIT_RST : FieldRef := ⟨.ING_CTRL, 0, 0, 31, 31⟩
def ING_CTX_CFG_RUNWAIT (k : Nat) : FieldRef := ⟨.ING_CTX_CFG, 0, k, 23, 16⟩
def ING_CTX_CFG_RING (k : Nat) : FieldRef := ⟨.ING_CTX_CFG, 0, k, 6, 0⟩
def ING_CTX_JOB_GO (k : Nat) : FieldRef := ⟨.ING_CTX_JOB, 0, k, 31, 31⟩
def ING_CTX_JOB_SIDE (k : Nat) : FieldRef := ⟨.ING_CTX_JOB, 0, k, 30, 30⟩
def ING_CTX_JOB_FORMAT (k : Nat) : FieldRef := ⟨.ING_CTX_JOB, 0, k, 29, 28⟩
def ING_CTX_JOB_STATIONS (k : Nat) : FieldRef := ⟨.ING_CTX_JOB, 0, k, 27, 24⟩
def ING_CTX_JOB_NPIX (k : Nat) : FieldRef := ⟨.ING_CTX_JOB, 0, k, 23, 10⟩
def ING_CTX_NB_NB (k : Nat) : FieldRef := ⟨.ING_CTX_NB, 0, k, 12, 0⟩
def ING_CTX_STAT_STATE (k : Nat) : FieldRef := ⟨.ING_CTX_STAT, 0, k, 31, 28⟩
def ING_CTX_STAT_CODE (k : Nat) : FieldRef := ⟨.ING_CTX_STAT, 0, k, 27, 20⟩
def ING_CTX_STAT_RUNS (k : Nat) : FieldRef := ⟨.ING_CTX_STAT, 0, k, 19, 12⟩
def ING_CTX_LOC_LO_ADDR (k : Nat) : FieldRef := ⟨.ING_CTX_LOC_LO, 0, k, 31, 0⟩
def ING_CTX_LOC_HI_ADDR (k : Nat) : FieldRef := ⟨.ING_CTX_LOC_HI, 0, k, 2, 0⟩
def ING_CTX_CRC_V (k : Nat) : FieldRef := ⟨.ING_CTX_CRC, 0, k, 31, 0⟩
def ING_CTX_TAIL_V (k : Nat) : FieldRef := ⟨.ING_CTX_TAIL, 0, k, 31, 0⟩
def CMP_CTRL_UNIT_RST (n : Nat) : FieldRef := ⟨.CMP_CTRL, n, 0, 31, 31⟩
def CMP_STAT_RAWBLK (n : Nat) : FieldRef := ⟨.CMP_STAT, n, 0, 31, 16⟩
def CMP_STAT_BLOCKS (n : Nat) : FieldRef := ⟨.CMP_STAT, n, 0, 15, 0⟩
def QST_QRING_EN (k : Nat) : FieldRef := ⟨.QST_QRING, 0, k, 31, 31⟩
def QST_QRING_COUNT (k : Nat) : FieldRef := ⟨.QST_QRING, 0, k, 15, 8⟩
def QST_QRING_BASE (k : Nat) : FieldRef := ⟨.QST_QRING, 0, k, 7, 0⟩
def QST_QSTAT_SLOTS (k : Nat) : FieldRef := ⟨.QST_QSTAT, 0, k, 31, 24⟩
def QST_QSTAT_AHEAD (k : Nat) : FieldRef := ⟨.QST_QSTAT, 0, k, 23, 16⟩
def QST_QSTAT_ECCERR (k : Nat) : FieldRef := ⟨.QST_QSTAT, 0, k, 15, 0⟩
def DCP_CTRL_UNIT_RST (n : Nat) : FieldRef := ⟨.DCP_CTRL, n, 0, 31, 31⟩
def DCP_CTRL_EN (n : Nat) : FieldRef := ⟨.DCP_CTRL, n, 0, 0, 0⟩
def DCP_JOB_LO_LOC (n : Nat) : FieldRef := ⟨.DCP_JOB_LO, n, 0, 31, 0⟩
def DCP_JOB_HI_STROKES (n : Nat) : FieldRef := ⟨.DCP_JOB_HI, n, 0, 31, 16⟩
def DCP_JOB_HI_NB (n : Nat) : FieldRef := ⟨.DCP_JOB_HI, n, 0, 12, 0⟩
def DCP_STAT_JOBS (n : Nat) : FieldRef := ⟨.DCP_STAT, n, 0, 27, 24⟩
def DCP_STAT_LASTERR (n : Nat) : FieldRef := ⟨.DCP_STAT, n, 0, 23, 20⟩
def DCP_STAT_BLOCKS (n : Nat) : FieldRef := ⟨.DCP_STAT, n, 0, 15, 0⟩
def TCE_CORERST_KEY : FieldRef := ⟨.TCE_CORERST, 0, 0, 31, 24⟩
def TCE_CORERST_CORE : FieldRef := ⟨.TCE_CORERST, 0, 0, 4, 0⟩
def TCE_SPARE_EN : FieldRef := ⟨.TCE_SPARE, 0, 0, 31, 31⟩
def TCE_SPARE_MAPPED : FieldRef := ⟨.TCE_SPARE, 0, 0, 30, 30⟩
def TCE_SPARE_FAILED : FieldRef := ⟨.TCE_SPARE, 0, 0, 28, 24⟩
def TCE_SPARE_CORE : FieldRef := ⟨.TCE_SPARE, 0, 0, 4, 0⟩
def TCE_CSTAT_STATE (k : Nat) : FieldRef := ⟨.TCE_CSTAT, 0, k, 31, 28⟩
def TCE_CSTAT_RESETS (k : Nat) : FieldRef := ⟨.TCE_CSTAT, 0, k, 23, 16⟩
def TCE_CSTAT_LASTCAUSE (k : Nat) : FieldRef := ⟨.TCE_CSTAT, 0, k, 15, 8⟩
def TCE_WDOG_TIMEOUT (k : Nat) : FieldRef := ⟨.TCE_WDOG, 0, k, 15, 0⟩
def TCE_EDGESEL_EN (k : Nat) : FieldRef := ⟨.TCE_EDGESEL, 0, k, 31, 31⟩
def TCE_EDGESEL_RID (k : Nat) : FieldRef := ⟨.TCE_EDGESEL, 0, k, 15, 0⟩
def MOT_CTRL_UNIT_RST (n : Nat) : FieldRef := ⟨.MOT_CTRL, n, 0, 31, 31⟩
def MOT_CTRL_MODE (n : Nat) : FieldRef := ⟨.MOT_CTRL, n, 0, 30, 29⟩
def MOT_CTRL_SENSOR (n : Nat) : FieldRef := ⟨.MOT_CTRL, n, 0, 28, 27⟩
def MOT_CTRL_FWMODE (n : Nat) : FieldRef := ⟨.MOT_CTRL, n, 0, 26, 26⟩
def MOT_CTRL_PATH (n : Nat) : FieldRef := ⟨.MOT_CTRL, n, 0, 25, 21⟩
def MOT_CTRL_BUSSTP (n : Nat) : FieldRef := ⟨.MOT_CTRL, n, 0, 20, 17⟩
def MOT_CTRL_EN (n : Nat) : FieldRef := ⟨.MOT_CTRL, n, 0, 0, 0⟩
def MOT_CFG_POLES (n : Nat) : FieldRef := ⟨.MOT_CFG, n, 0, 31, 26⟩
def MOT_CFG_PHMAP (n : Nat) : FieldRef := ⟨.MOT_CFG, n, 0, 25, 25⟩
def MOT_CFG_ENCINV (n : Nat) : FieldRef := ⟨.MOT_CFG, n, 0, 24, 24⟩
def MOT_CFG_REV (n : Nat) : FieldRef := ⟨.MOT_CFG, n, 0, 23, 23⟩
def MOT_CFG_CPR (n : Nat) : FieldRef := ⟨.MOT_CFG, n, 0, 15, 0⟩
def MOT_PWM_PERIOD (n : Nat) : FieldRef := ⟨.MOT_PWM, n, 0, 31, 16⟩
def MOT_PWM_DEADT (n : Nat) : FieldRef := ⟨.MOT_PWM, n, 0, 15, 8⟩
def MOT_PWM_QWIN (n : Nat) : FieldRef := ⟨.MOT_PWM, n, 0, 7, 2⟩
def MOT_PWM_SPOS (n : Nat) : FieldRef := ⟨.MOT_PWM, n, 0, 1, 0⟩
def MOT_PHOFS_PHOFS (n : Nat) : FieldRef := ⟨.MOT_PHOFS, n, 0, 15, 0⟩
def MOT_RATED_SPEED (n : Nat) : FieldRef := ⟨.MOT_RATED, n, 0, 31, 16⟩
def MOT_RATED_CATCHPCT (n : Nat) : FieldRef := ⟨.MOT_RATED, n, 0, 15, 8⟩
def MOT_RATED_HOPCT (n : Nat) : FieldRef := ⟨.MOT_RATED, n, 0, 7, 0⟩
def MOT_ALIGN_IALIGN (n : Nat) : FieldRef := ⟨.MOT_ALIGN, n, 0, 31, 20⟩
def MOT_ALIGN_ALIGNT (n : Nat) : FieldRef := ⟨.MOT_ALIGN, n, 0, 19, 12⟩
def MOT_ALIGN_RAMPACC (n : Nat) : FieldRef := ⟨.MOT_ALIGN, n, 0, 11, 0⟩
def MOT_RAMP_IRAMP (n : Nat) : FieldRef := ⟨.MOT_RAMP, n, 0, 31, 20⟩
def MOT_RAMP_RAMPT (n : Nat) : FieldRef := ⟨.MOT_RAMP, n, 0, 19, 12⟩
def MOT_RAMP_IBRAKE (n : Nat) : FieldRef := ⟨.MOT_RAMP, n, 0, 11, 0⟩
def MOT_SREG_KP (n : Nat) : FieldRef := ⟨.MOT_SREG, n, 0, 31, 16⟩
def MOT_SREG_KI (n : Nat) : FieldRef := ⟨.MOT_SREG, n, 0, 15, 0⟩
def MOT_MODEL_RS (n : Nat) : FieldRef := ⟨.MOT_MODEL, n, 0, 31, 16⟩
def MOT_MODEL_LS (n : Nat) : FieldRef := ⟨.MOT_MODEL, n, 0, 15, 0⟩
def MOT_MODEL2_KE (n : Nat) : FieldRef := ⟨.MOT_MODEL2, n, 0, 31, 16⟩
def MOT_MODEL2_IFS (n : Nat) : FieldRef := ⟨.MOT_MODEL2, n, 0, 15, 0⟩
def MOT_GEAR_RATIO (n : Nat) : FieldRef := ⟨.MOT_GEAR, n, 0, 31, 0⟩
def MOT_LIM_ADVSTEP (n : Nat) : FieldRef := ⟨.MOT_LIM, n, 0, 31, 16⟩
def MOT_LIM_RUNWD (n : Nat) : FieldRef := ⟨.MOT_LIM, n, 0, 15, 8⟩
def MOT_LIM_GACC (n : Nat) : FieldRef := ⟨.MOT_LIM, n, 0, 7, 0⟩
def MOT_STAT_STATE (n : Nat) : FieldRef := ⟨.MOT_STAT, n, 0, 31, 28⟩
def MOT_STAT_DIR (n : Nat) : FieldRef := ⟨.MOT_STAT, n, 0, 27, 27⟩
def MOT_STAT_HANDOVER (n : Nat) : FieldRef := ⟨.MOT_STAT, n, 0, 26, 26⟩
def MOT_STAT_OVR (n : Nat) : FieldRef := ⟨.MOT_STAT, n, 0, 25, 24⟩
def MOT_STAT_FAULT (n : Nat) : FieldRef := ⟨.MOT_STAT, n, 0, 23, 16⟩
def MOT_STAT_SLOCK (n : Nat) : FieldRef := ⟨.MOT_STAT, n, 0, 15, 15⟩
def MOT_MEAS_I_IQ (n : Nat) : FieldRef := ⟨.MOT_MEAS_I, n, 0, 31, 16⟩
def MOT_MEAS_I_ID (n : Nat) : FieldRef := ⟨.MOT_MEAS_I, n, 0, 15, 0⟩
def MOT_MEAS_W_SPEED (n : Nat) : FieldRef := ⟨.MOT_MEAS_W, n, 0, 31, 8⟩
def MOT_MEAS_W_MI (n : Nat) : FieldRef := ⟨.MOT_MEAS_W, n, 0, 7, 0⟩
def MOT_MEAS_P_ANGLE (n : Nat) : FieldRef := ⟨.MOT_MEAS_P, n, 0, 31, 16⟩
def MOT_MEAS_P_PERR (n : Nat) : FieldRef := ⟨.MOT_MEAS_P, n, 0, 15, 0⟩
def MOT_VCMD_VQ (n : Nat) : FieldRef := ⟨.MOT_VCMD, n, 0, 31, 16⟩
def MOT_VCMD_VD (n : Nat) : FieldRef := ⟨.MOT_VCMD, n, 0, 15, 0⟩
def MOT_SREF_SPEED (n : Nat) : FieldRef := ⟨.MOT_SREF, n, 0, 23, 0⟩
def MOT_CATCH_OUTCOME (n : Nat) : FieldRef := ⟨.MOT_CATCH, n, 0, 31, 30⟩
def MOT_CATCH_DIR (n : Nat) : FieldRef := ⟨.MOT_CATCH, n, 0, 29, 29⟩
def MOT_CATCH_SPEED (n : Nat) : FieldRef := ⟨.MOT_CATCH, n, 0, 23, 0⟩
def MOT_DIAG_SHIFTS (n : Nat) : FieldRef := ⟨.MOT_DIAG, n, 0, 31, 16⟩
def MOT_DIAG_CLAMPS (n : Nat) : FieldRef := ⟨.MOT_DIAG, n, 0, 15, 0⟩
def MOT_ADV_ODD (n : Nat) (k : Nat) : FieldRef := ⟨.MOT_ADV, n, k, 31, 16⟩
def MOT_ADV_EVEN (n : Nat) (k : Nat) : FieldRef := ⟨.MOT_ADV, n, k, 15, 0⟩
def MOT_ADVCOMMIT_PEND (n : Nat) : FieldRef := ⟨.MOT_ADVCOMMIT, n, 0, 31, 31⟩
def MOT_ADVCOMMIT_LATE_WR (n : Nat) : FieldRef := ⟨.MOT_ADVCOMMIT, n, 0, 30, 30⟩
def MOT_ADVCOMMIT_LATE_CNT (n : Nat) : FieldRef := ⟨.MOT_ADVCOMMIT, n, 0, 23, 8⟩
def MOT_ADVCOMMIT_GO (n : Nat) : FieldRef := ⟨.MOT_ADVCOMMIT, n, 0, 0, 0⟩
def MOT_COMMIT_PEND (n : Nat) : FieldRef := ⟨.MOT_COMMIT, n, 0, 31, 31⟩
def MOT_COMMIT_LATE_WR (n : Nat) : FieldRef := ⟨.MOT_COMMIT, n, 0, 30, 30⟩
def MOT_COMMIT_LATE_CNT (n : Nat) : FieldRef := ⟨.MOT_COMMIT, n, 0, 23, 8⟩
def MOT_COMMIT_GO (n : Nat) : FieldRef := ⟨.MOT_COMMIT, n, 0, 0, 0⟩
def STP_CTRL_UNIT_RST (n : Nat) : FieldRef := ⟨.STP_CTRL, n, 0, 31, 31⟩
def STP_CTRL_MODE (n : Nat) : FieldRef := ⟨.STP_CTRL, n, 0, 30, 29⟩
def STP_CTRL_PATH (n : Nat) : FieldRef := ⟨.STP_CTRL, n, 0, 28, 24⟩
def STP_CTRL_STAND (n : Nat) : FieldRef := ⟨.STP_CTRL, n, 0, 23, 22⟩
def STP_CTRL_MSTEP (n : Nat) : FieldRef := ⟨.STP_CTRL, n, 0, 21, 18⟩
def STP_CTRL_EN (n : Nat) : FieldRef := ⟨.STP_CTRL, n, 0, 0, 0⟩
def STP_CHOP_TOFF (n : Nat) : FieldRef := ⟨.STP_CHOP, n, 0, 31, 24⟩
def STP_CHOP_BLANK (n : Nat) : FieldRef := ⟨.STP_CHOP, n, 0, 23, 16⟩
def STP_CHOP_FAST (n : Nat) : FieldRef := ⟨.STP_CHOP, n, 0, 15, 8⟩
def STP_CHOP_TONMAX (n : Nat) : FieldRef := ⟨.STP_CHOP, n, 0, 7, 0⟩
def STP_CURR_IRUN (n : Nat) : FieldRef := ⟨.STP_CURR, n, 0, 31, 20⟩
def STP_CURR_IHOLD (n : Nat) : FieldRef := ⟨.STP_CURR, n, 0, 19, 8⟩
def STP_CURR_HOLDT (n : Nat) : FieldRef := ⟨.STP_CURR, n, 0, 7, 0⟩
def STP_VSTART_V (n : Nat) : FieldRef := ⟨.STP_VSTART, n, 0, 23, 0⟩
def STP_VSTOP_V (n : Nat) : FieldRef := ⟨.STP_VSTOP, n, 0, 23, 0⟩
def STP_V1_V (n : Nat) : FieldRef := ⟨.STP_V1, n, 0, 23, 0⟩
def STP_VMAX_V (n : Nat) : FieldRef := ⟨.STP_VMAX, n, 0, 23, 0⟩
def STP_A1_A (n : Nat) : FieldRef := ⟨.STP_A1, n, 0, 23, 0⟩
def STP_A2_A (n : Nat) : FieldRef := ⟨.STP_A2, n, 0, 23, 0⟩
def STP_TARGET_POS (n : Nat) : FieldRef := ⟨.STP_TARGET, n, 0, 31, 0⟩
def STP_PCOMMIT_PEND (n : Nat) : FieldRef := ⟨.STP_PCOMMIT, n, 0, 31, 31⟩
def STP_PCOMMIT_LATE_WR (n : Nat) : FieldRef := ⟨.STP_PCOMMIT, n, 0, 30, 30⟩
def STP_PCOMMIT_LATE_CNT (n : Nat) : FieldRef := ⟨.STP_PCOMMIT, n, 0, 23, 8⟩
def STP_PCOMMIT_GO (n : Nat) : FieldRef := ⟨.STP_PCOMMIT, n, 0, 0, 0⟩
def STP_POS_POS (n : Nat) : FieldRef := ⟨.STP_POS, n, 0, 31, 0⟩
def STP_SPEED_V (n : Nat) : FieldRef := ⟨.STP_SPEED, n, 0, 31, 0⟩
def STP_LATCH_ARM (n : Nat) : FieldRef := ⟨.STP_LATCH, n, 0, 31, 31⟩
def STP_LATCH_LDIR (n : Nat) : FieldRef := ⟨.STP_LATCH, n, 0, 30, 30⟩
def STP_LATCH_EDGE (n : Nat) : FieldRef := ⟨.STP_LATCH, n, 0, 29, 29⟩
def STP_LATCH_LACT (n : Nat) : FieldRef := ⟨.STP_LATCH, n, 0, 28, 27⟩
def STP_LATCH_SWFILT (n : Nat) : FieldRef := ⟨.STP_LATCH, n, 0, 15, 8⟩
def STP_LATCH_LATCHED (n : Nat) : FieldRef := ⟨.STP_LATCH, n, 0, 0, 0⟩
def STP_LPOS_POS (n : Nat) : FieldRef := ⟨.STP_LPOS, n, 0, 31, 0⟩
def STP_LTIME_LO_T (n : Nat) : FieldRef := ⟨.STP_LTIME_LO, n, 0, 31, 0⟩
def STP_LTIME_HI_T (n : Nat) : FieldRef := ⟨.STP_LTIME_HI, n, 0, 31, 0⟩
def STP_STAT_STATE (n : Nat) : FieldRef := ⟨.STP_STAT, n, 0, 31, 28⟩
def STP_STAT_DIRST (n : Nat) : FieldRef := ⟨.STP_STAT, n, 0, 27, 27⟩
def STP_STAT_HARDSTOP (n : Nat) : FieldRef := ⟨.STP_STAT, n, 0, 26, 26⟩
def STP_STAT_LATCHSTOP (n : Nat) : FieldRef := ⟨.STP_STAT, n, 0, 25, 25⟩
def STP_STAT_STOPPED (n : Nat) : FieldRef := ⟨.STP_STAT, n, 0, 24, 24⟩
def STP_STAT_SW (n : Nat) : FieldRef := ⟨.STP_STAT, n, 0, 23, 23⟩
def STP_STAT_POSLOST (n : Nat) : FieldRef := ⟨.STP_STAT, n, 0, 22, 22⟩
def STP_STAT_FAULT (n : Nat) : FieldRef := ⟨.STP_STAT, n, 0, 15, 8⟩
def STP_BUS0_VBRAKE (n : Nat) : FieldRef := ⟨.STP_BUS0, n, 0, 31, 16⟩
def STP_BUS0_HYST (n : Nat) : FieldRef := ⟨.STP_BUS0, n, 0, 15, 0⟩
def STP_BUS1_VOV1 (n : Nat) : FieldRef := ⟨.STP_BUS1, n, 0, 31, 16⟩
def STP_BUS1_VOV2 (n : Nat) : FieldRef := ⟨.STP_BUS1, n, 0, 15, 0⟩
def STP_BUS2_SCALE (n : Nat) : FieldRef := ⟨.STP_BUS2, n, 0, 31, 16⟩
def STP_BUS2_CHOPMIN (n : Nat) : FieldRef := ⟨.STP_BUS2, n, 0, 15, 0⟩
def STP_BUSSTAT_VBUS (n : Nat) : FieldRef := ⟨.STP_BUSSTAT, n, 0, 31, 16⟩
def STP_BUSSTAT_CHOP_ON (n : Nat) : FieldRef := ⟨.STP_BUSSTAT, n, 0, 15, 15⟩
def STP_BUSSTAT_CHOP_BAD (n : Nat) : FieldRef := ⟨.STP_BUSSTAT, n, 0, 14, 14⟩
def STP_BUSSTAT_OV1 (n : Nat) : FieldRef := ⟨.STP_BUSSTAT, n, 0, 13, 13⟩
def STP_BUSSTAT_OV2 (n : Nat) : FieldRef := ⟨.STP_BUSSTAT, n, 0, 12, 12⟩
def FUS_CTRL_UNIT_RST (n : Nat) : FieldRef := ⟨.FUS_CTRL, n, 0, 31, 31⟩
def FUS_CTRL_GATE (n : Nat) : FieldRef := ⟨.FUS_CTRL, n, 0, 1, 1⟩
def FUS_CTRL_EN (n : Nat) : FieldRef := ⟨.FUS_CTRL, n, 0, 0, 0⟩
def FUS_CFG_FMIN (n : Nat) : FieldRef := ⟨.FUS_CFG, n, 0, 31, 22⟩
def FUS_CFG_FMAX (n : Nat) : FieldRef := ⟨.FUS_CFG, n, 0, 21, 12⟩
def FUS_CFG_CMDWD (n : Nat) : FieldRef := ⟨.FUS_CFG, n, 0, 7, 0⟩
def FUS_LIM_OTLIM (n : Nat) : FieldRef := ⟨.FUS_LIM, n, 0, 31, 16⟩
def FUS_LIM_IPKMAX (n : Nat) : FieldRef := ⟨.FUS_LIM, n, 0, 15, 0⟩
def FUS_SCALE_ICUR_FS (n : Nat) : FieldRef := ⟨.FUS_SCALE, n, 0, 31, 16⟩
def FUS_SCALE_VDC (n : Nat) : FieldRef := ⟨.FUS_SCALE, n, 0, 15, 0⟩
def FUS_THCFG_BETA (n : Nat) (k : Nat) : FieldRef := ⟨.FUS_THCFG, n, k, 31, 16⟩
def FUS_THCFG_RNOM (n : Nat) (k : Nat) : FieldRef := ⟨.FUS_THCFG, n, k, 15, 0⟩
def FUS_BAND_SETPT (n : Nat) : FieldRef := ⟨.FUS_BAND, n, 0, 31, 16⟩
def FUS_BAND_BANDW (n : Nat) : FieldRef := ⟨.FUS_BAND, n, 0, 15, 8⟩
def FUS_BAND_BANDT (n : Nat) : FieldRef := ⟨.FUS_BAND, n, 0, 7, 0⟩
def FUS_TEMP_EDGE (n : Nat) : FieldRef := ⟨.FUS_TEMP, n, 0, 31, 16⟩
def FUS_TEMP_CTR (n : Nat) : FieldRef := ⟨.FUS_TEMP, n, 0, 15, 0⟩
def FUS_TH01_TH1 (n : Nat) : FieldRef := ⟨.FUS_TH01, n, 0, 31, 16⟩
def FUS_TH01_TH0 (n : Nat) : FieldRef := ⟨.FUS_TH01, n, 0, 15, 0⟩
def FUS_ICUR_IPK (n : Nat) : FieldRef := ⟨.FUS_ICUR, n, 0, 31, 16⟩
def FUS_ICUR_I (n : Nat) : FieldRef := ⟨.FUS_ICUR, n, 0, 15, 0⟩
def FUS_POWER_P (n : Nat) : FieldRef := ⟨.FUS_POWER, n, 0, 31, 0⟩
def FUS_STAT_STATE (n : Nat) : FieldRef := ⟨.FUS_STAT, n, 0, 31, 28⟩
def FUS_STAT_INBAND (n : Nat) : FieldRef := ⟨.FUS_STAT, n, 0, 27, 27⟩
def FUS_STAT_KETTLE (n : Nat) : FieldRef := ⟨.FUS_STAT, n, 0, 26, 26⟩
def FUS_STAT_FREQ (n : Nat) : FieldRef := ⟨.FUS_STAT, n, 0, 25, 16⟩
def FUS_STAT_DRIVE (n : Nat) : FieldRef := ⟨.FUS_STAT, n, 0, 15, 0⟩
def FUS_FLT_ZVS (n : Nat) : FieldRef := ⟨.FUS_FLT, n, 0, 31, 16⟩
def FUS_FLT_FLOOR (n : Nat) : FieldRef := ⟨.FUS_FLT, n, 0, 15, 8⟩
def FUS_FLT_FAULT (n : Nat) : FieldRef := ⟨.FUS_FLT, n, 0, 7, 0⟩
def HV_CTRL_UNIT_RST (n : Nat) : FieldRef := ⟨.HV_CTRL, n, 0, 31, 31⟩
def HV_CTRL_KIND (n : Nat) : FieldRef := ⟨.HV_CTRL, n, 0, 30, 29⟩
def HV_CTRL_STN (n : Nat) : FieldRef := ⟨.HV_CTRL, n, 0, 28, 27⟩
def HV_CTRL_POL (n : Nat) : FieldRef := ⟨.HV_CTRL, n, 0, 26, 26⟩
def HV_CTRL_EN (n : Nat) : FieldRef := ⟨.HV_CTRL, n, 0, 0, 0⟩
def HV_CFG_FCAR (n : Nat) : FieldRef := ⟨.HV_CFG, n, 0, 31, 24⟩
def HV_CFG_FAC (n : Nat) : FieldRef := ⟨.HV_CFG, n, 0, 23, 12⟩
def HV_CFG_DMAX (n : Nat) : FieldRef := ⟨.HV_CFG, n, 0, 11, 4⟩
def HV_CFG_CMDWD (n : Nat) : FieldRef := ⟨.HV_CFG, n, 0, 3, 0⟩
def HV_SCALE_VFS (n : Nat) : FieldRef := ⟨.HV_SCALE, n, 0, 31, 16⟩
def HV_SCALE_IFS (n : Nat) : FieldRef := ⟨.HV_SCALE, n, 0, 15, 0⟩
def HV_SETA_DC (n : Nat) : FieldRef := ⟨.HV_SETA, n, 0, 31, 16⟩
def HV_SETA_AC (n : Nat) : FieldRef := ⟨.HV_SETA, n, 0, 15, 0⟩
def HV_SETB_DC (n : Nat) : FieldRef := ⟨.HV_SETB, n, 0, 31, 16⟩
def HV_SETB_AC (n : Nat) : FieldRef := ⟨.HV_SETB, n, 0, 15, 0⟩
def HV_LIMIT_LIM (n : Nat) : FieldRef := ⟨.HV_LIMIT, n, 0, 31, 16⟩
def HV_LIMIT_BAND (n : Nat) : FieldRef := ⟨.HV_LIMIT, n, 0, 15, 8⟩
def HV_LIMIT_BANDT (n : Nat) : FieldRef := ⟨.HV_LIMIT, n, 0, 7, 0⟩
def HV_ARC_IARC (n : Nat) : FieldRef := ⟨.HV_ARC, n, 0, 31, 16⟩
def HV_ARC_SETTLE (n : Nat) : FieldRef := ⟨.HV_ARC, n, 0, 15, 0⟩
def HV_MEAS_IDC (n : Nat) : FieldRef := ⟨.HV_MEAS, n, 0, 31, 16⟩
def HV_MEAS_VDC (n : Nat) : FieldRef := ⟨.HV_MEAS, n, 0, 15, 0⟩
def HV_MEAS2_VPP (n : Nat) : FieldRef := ⟨.HV_MEAS2, n, 0, 31, 16⟩
def HV_REF_DC (n : Nat) : FieldRef := ⟨.HV_REF, n, 0, 31, 16⟩
def HV_REF_AC (n : Nat) : FieldRef := ⟨.HV_REF, n, 0, 15, 0⟩
def HV_STAT_STATE (n : Nat) : FieldRef := ⟨.HV_STAT, n, 0, 31, 28⟩
def HV_STAT_BANK (n : Nat) : FieldRef := ⟨.HV_STAT, n, 0, 27, 26⟩
def HV_STAT_INBAND (n : Nat) : FieldRef := ⟨.HV_STAT, n, 0, 25, 25⟩
def HV_STAT_KETTLE (n : Nat) : FieldRef := ⟨.HV_STAT, n, 0, 24, 24⟩
def HV_STAT_FAULT (n : Nat) : FieldRef := ⟨.HV_STAT, n, 0, 23, 16⟩
def HV_STAT_ARCS (n : Nat) : FieldRef := ⟨.HV_STAT, n, 0, 15, 0⟩
def HV_APPLIED_DC (n : Nat) : FieldRef := ⟨.HV_APPLIED, n, 0, 27, 14⟩
def HV_APPLIED_AC (n : Nat) : FieldRef := ⟨.HV_APPLIED, n, 0, 13, 0⟩
def LCE_CTRL_UNIT_RST : FieldRef := ⟨.LCE_CTRL, 0, 0, 31, 31⟩
def LCE_APCRES_VALUE (k : Nat) : FieldRef := ⟨.LCE_APCRES, 0, k, 31, 16⟩
def LCE_APCRES_SEQ (k : Nat) : FieldRef := ⟨.LCE_APCRES, 0, k, 15, 12⟩
def LCE_APCRES_TEST (k : Nat) : FieldRef := ⟨.LCE_APCRES, 0, k, 11, 0⟩
def LCE_APCSTAMP_LO_T (k : Nat) : FieldRef := ⟨.LCE_APCSTAMP_LO, 0, k, 31, 0⟩
def LCE_APCSTAMP_HI_T (k : Nat) : FieldRef := ⟨.LCE_APCSTAMP_HI, 0, k, 31, 0⟩
def SYN_CTRL_UNIT_RST (n : Nat) : FieldRef := ⟨.SYN_CTRL, n, 0, 31, 31⟩
def SYN_CTRL_EN (n : Nat) : FieldRef := ⟨.SYN_CTRL, n, 0, 0, 0⟩
def SYN_STAT_STATE (n : Nat) : FieldRef := ⟨.SYN_STAT, n, 0, 31, 28⟩
def SYN_STAT_REFOK (n : Nat) : FieldRef := ⟨.SYN_STAT, n, 0, 27, 27⟩
def SYN_STAT_LOSS (n : Nat) : FieldRef := ⟨.SYN_STAT, n, 0, 26, 26⟩
def SYN_STAT_CAUSE (n : Nat) : FieldRef := ⟨.SYN_STAT, n, 0, 25, 24⟩
def SYN_STAT_LOSSCNT (n : Nat) : FieldRef := ⟨.SYN_STAT, n, 0, 23, 16⟩
def SYN_DIV_CORE (n : Nat) : FieldRef := ⟨.SYN_DIV, n, 0, 31, 30⟩
def SYN_CKO_DIV (n : Nat) (k : Nat) : FieldRef := ⟨.SYN_CKO, n, k, 27, 16⟩
def SYN_CKO_DELAY (n : Nat) (k : Nat) : FieldRef := ⟨.SYN_CKO, n, k, 7, 0⟩
def SYN_DCOMMIT_PEND (n : Nat) : FieldRef := ⟨.SYN_DCOMMIT, n, 0, 31, 31⟩
def SYN_DCOMMIT_LATE_WR (n : Nat) : FieldRef := ⟨.SYN_DCOMMIT, n, 0, 30, 30⟩
def SYN_DCOMMIT_LATE_CNT (n : Nat) : FieldRef := ⟨.SYN_DCOMMIT, n, 0, 23, 8⟩
def SYN_DCOMMIT_GO (n : Nat) : FieldRef := ⟨.SYN_DCOMMIT, n, 0, 0, 0⟩
def SYN_CKOEN_EN1 (n : Nat) : FieldRef := ⟨.SYN_CKOEN, n, 0, 1, 1⟩
def SYN_CKOEN_EN0 (n : Nat) : FieldRef := ⟨.SYN_CKOEN, n, 0, 0, 0⟩
def SYN_ALIGN_VALID (n : Nat) : FieldRef := ⟨.SYN_ALIGN, n, 0, 31, 31⟩
def SYN_ALIGN_DRIFT (n : Nat) : FieldRef := ⟨.SYN_ALIGN, n, 0, 23, 16⟩
def SYN_ALIGN_OFS (n : Nat) : FieldRef := ⟨.SYN_ALIGN, n, 0, 7, 0⟩
def SYN_RAMP_PHASE (n : Nat) : FieldRef := ⟨.SYN_RAMP, n, 0, 31, 30⟩
def SYN_RAMP_DIR (n : Nat) : FieldRef := ⟨.SYN_RAMP, n, 0, 29, 29⟩
def SYN_RAMP_BANK (n : Nat) : FieldRef := ⟨.SYN_RAMP, n, 0, 28, 28⟩
def SYN_RAMP_SEG (n : Nat) : FieldRef := ⟨.SYN_RAMP, n, 0, 24, 16⟩
def SYN_RAMP_LEFT (n : Nat) : FieldRef := ⟨.SYN_RAMP, n, 0, 12, 0⟩
def SYN_KVAL_K (n : Nat) : FieldRef := ⟨.SYN_KVAL, n, 0, 31, 0⟩
def SYN_FNOW_FREQ (n : Nat) : FieldRef := ⟨.SYN_FNOW, n, 0, 31, 0⟩
def SYN_RANGE_FHI (n : Nat) : FieldRef := ⟨.SYN_RANGE, n, 0, 31, 16⟩
def SYN_RANGE_FLO (n : Nat) : FieldRef := ⟨.SYN_RANGE, n, 0, 15, 0⟩
def THM_LEVELS_WARN : FieldRef := ⟨.THM_LEVELS, 0, 0, 31, 24⟩
def THM_LEVELS_CRIT : FieldRef := ⟨.THM_LEVELS, 0, 0, 23, 16⟩
def THM_LEVELS_SHUT : FieldRef := ⟨.THM_LEVELS, 0, 0, 15, 8⟩
def THM_STAT_WARN : FieldRef := ⟨.THM_STAT, 0, 0, 31, 31⟩
def THM_STAT_CRIT : FieldRef := ⟨.THM_STAT, 0, 0, 30, 30⟩
def THM_STAT_SHUT : FieldRef := ⟨.THM_STAT, 0, 0, 29, 29⟩
def THM_STAT_NORESTART : FieldRef := ⟨.THM_STAT, 0, 0, 28, 28⟩
def THM_STAT_SHUTCNT : FieldRef := ⟨.THM_STAT, 0, 0, 27, 24⟩
def THM_STAT_HOT : FieldRef := ⟨.THM_STAT, 0, 0, 20, 16⟩
def THM_STAT_HOTTEMP : FieldRef := ⟨.THM_STAT, 0, 0, 15, 0⟩
def THM_BROKEN_TS : FieldRef := ⟨.THM_BROKEN, 0, 0, 31, 0⟩
def THM_TS_RAW (k : Nat) : FieldRef := ⟨.THM_TS, 0, k, 31, 16⟩
def THM_TS_VALUE (k : Nat) : FieldRef := ⟨.THM_TS, 0, k, 15, 0⟩
def THM_TXCFG_BETA (k : Nat) : FieldRef := ⟨.THM_TXCFG, 0, k, 31, 16⟩
def THM_TXCFG_RNOM (k : Nat) : FieldRef := ⟨.THM_TXCFG, 0, k, 15, 0⟩
def THM_TXLIM_WARN (k : Nat) : FieldRef := ⟨.THM_TXLIM, 0, k, 31, 24⟩
def THM_TXLIM_CRIT (k : Nat) : FieldRef := ⟨.THM_TXLIM, 0, k, 23, 16⟩
def THM_TXLIM_EN (k : Nat) : FieldRef := ⟨.THM_TXLIM, 0, k, 15, 15⟩
def THM_TXLIM_GATE (k : Nat) : FieldRef := ⟨.THM_TXLIM, 0, k, 14, 14⟩
def THM_TXLIM_PAIREN (k : Nat) : FieldRef := ⟨.THM_TXLIM, 0, k, 13, 13⟩
def THM_TXLIM_PAIR (k : Nat) : FieldRef := ⟨.THM_TXLIM, 0, k, 12, 10⟩
def THM_TX_TEMP (k : Nat) : FieldRef := ⟨.THM_TX, 0, k, 15, 0⟩
def THM_TXSTAT_CRIT7 : FieldRef := ⟨.THM_TXSTAT, 0, 0, 31, 31⟩
def THM_TXSTAT_WARN7 : FieldRef := ⟨.THM_TXSTAT, 0, 0, 30, 30⟩
def THM_TXSTAT_BROKEN7 : FieldRef := ⟨.THM_TXSTAT, 0, 0, 29, 29⟩
def THM_TXSTAT_FAULTY7 : FieldRef := ⟨.THM_TXSTAT, 0, 0, 28, 28⟩
def THM_TXSTAT_CRIT6 : FieldRef := ⟨.THM_TXSTAT, 0, 0, 27, 27⟩
def THM_TXSTAT_WARN6 : FieldRef := ⟨.THM_TXSTAT, 0, 0, 26, 26⟩
def THM_TXSTAT_BROKEN6 : FieldRef := ⟨.THM_TXSTAT, 0, 0, 25, 25⟩
def THM_TXSTAT_FAULTY6 : FieldRef := ⟨.THM_TXSTAT, 0, 0, 24, 24⟩
def THM_TXSTAT_CRIT5 : FieldRef := ⟨.THM_TXSTAT, 0, 0, 23, 23⟩
def THM_TXSTAT_WARN5 : FieldRef := ⟨.THM_TXSTAT, 0, 0, 22, 22⟩
def THM_TXSTAT_BROKEN5 : FieldRef := ⟨.THM_TXSTAT, 0, 0, 21, 21⟩
def THM_TXSTAT_FAULTY5 : FieldRef := ⟨.THM_TXSTAT, 0, 0, 20, 20⟩
def THM_TXSTAT_CRIT4 : FieldRef := ⟨.THM_TXSTAT, 0, 0, 19, 19⟩
def THM_TXSTAT_WARN4 : FieldRef := ⟨.THM_TXSTAT, 0, 0, 18, 18⟩
def THM_TXSTAT_BROKEN4 : FieldRef := ⟨.THM_TXSTAT, 0, 0, 17, 17⟩
def THM_TXSTAT_FAULTY4 : FieldRef := ⟨.THM_TXSTAT, 0, 0, 16, 16⟩
def THM_TXSTAT_CRIT3 : FieldRef := ⟨.THM_TXSTAT, 0, 0, 15, 15⟩
def THM_TXSTAT_WARN3 : FieldRef := ⟨.THM_TXSTAT, 0, 0, 14, 14⟩
def THM_TXSTAT_BROKEN3 : FieldRef := ⟨.THM_TXSTAT, 0, 0, 13, 13⟩
def THM_TXSTAT_FAULTY3 : FieldRef := ⟨.THM_TXSTAT, 0, 0, 12, 12⟩
def THM_TXSTAT_CRIT2 : FieldRef := ⟨.THM_TXSTAT, 0, 0, 11, 11⟩
def THM_TXSTAT_WARN2 : FieldRef := ⟨.THM_TXSTAT, 0, 0, 10, 10⟩
def THM_TXSTAT_BROKEN2 : FieldRef := ⟨.THM_TXSTAT, 0, 0, 9, 9⟩
def THM_TXSTAT_FAULTY2 : FieldRef := ⟨.THM_TXSTAT, 0, 0, 8, 8⟩
def THM_TXSTAT_CRIT1 : FieldRef := ⟨.THM_TXSTAT, 0, 0, 7, 7⟩
def THM_TXSTAT_WARN1 : FieldRef := ⟨.THM_TXSTAT, 0, 0, 6, 6⟩
def THM_TXSTAT_BROKEN1 : FieldRef := ⟨.THM_TXSTAT, 0, 0, 5, 5⟩
def THM_TXSTAT_FAULTY1 : FieldRef := ⟨.THM_TXSTAT, 0, 0, 4, 4⟩
def THM_TXSTAT_CRIT0 : FieldRef := ⟨.THM_TXSTAT, 0, 0, 3, 3⟩
def THM_TXSTAT_WARN0 : FieldRef := ⟨.THM_TXSTAT, 0, 0, 2, 2⟩
def THM_TXSTAT_BROKEN0 : FieldRef := ⟨.THM_TXSTAT, 0, 0, 1, 1⟩
def THM_TXSTAT_FAULTY0 : FieldRef := ⟨.THM_TXSTAT, 0, 0, 0, 0⟩
def THM_PAIRCFG_PAIRTOL : FieldRef := ⟨.THM_PAIRCFG, 0, 0, 15, 8⟩
def THM_PAIRCFG_FUSBRK : FieldRef := ⟨.THM_PAIRCFG, 0, 0, 3, 0⟩
def PSQ_CTRL_COOP : FieldRef := ⟨.PSQ_CTRL, 0, 0, 31, 30⟩
def PSQ_CTRL_AUTORESTART : FieldRef := ⟨.PSQ_CTRL, 0, 0, 29, 29⟩
def PSQ_CTRL_FAST : FieldRef := ⟨.PSQ_CTRL, 0, 0, 28, 28⟩
def PSQ_CTRL_USER : FieldRef := ⟨.PSQ_CTRL, 0, 0, 23, 16⟩
def PSQ_CTRL_ADDR : FieldRef := ⟨.PSQ_CTRL, 0, 0, 6, 0⟩
def PSQ_CMD_ACTION : FieldRef := ⟨.PSQ_CMD, 0, 0, 31, 28⟩
def PSQ_CMD_KEY : FieldRef := ⟨.PSQ_CMD, 0, 0, 27, 20⟩
def PSQ_CMD_RAIL : FieldRef := ⟨.PSQ_CMD, 0, 0, 19, 15⟩
def PSQ_CMD_PATH : FieldRef := ⟨.PSQ_CMD, 0, 0, 14, 14⟩
def PSQ_CMD_DIR : FieldRef := ⟨.PSQ_CMD, 0, 0, 13, 13⟩
def PSQ_CMD_PCT : FieldRef := ⟨.PSQ_CMD, 0, 0, 12, 9⟩
def PSQ_CMD_TARGET : FieldRef := ⟨.PSQ_CMD, 0, 0, 7, 0⟩
def PSQ_STAT_STATE : FieldRef := ⟨.PSQ_STAT, 0, 0, 31, 28⟩
def PSQ_STAT_PC : FieldRef := ⟨.PSQ_STAT, 0, 0, 27, 20⟩
def PSQ_STAT_FLAG : FieldRef := ⟨.PSQ_STAT, 0, 0, 19, 19⟩
def PSQ_STAT_PROG : FieldRef := ⟨.PSQ_STAT, 0, 0, 18, 16⟩
def PSQ_STAT_SYNCST : FieldRef := ⟨.PSQ_STAT, 0, 0, 15, 8⟩
def PSQ_STAT_PSTATE : FieldRef := ⟨.PSQ_STAT, 0, 0, 7, 4⟩
def PSQ_STAT_PEND : FieldRef := ⟨.PSQ_STAT, 0, 0, 3, 0⟩
def PSQ_ENTRY_UP : FieldRef := ⟨.PSQ_ENTRY, 0, 0, 31, 24⟩
def PSQ_ENTRY_DOWN : FieldRef := ⟨.PSQ_ENTRY, 0, 0, 23, 16⟩
def PSQ_ENTRY_SLEEP : FieldRef := ⟨.PSQ_ENTRY, 0, 0, 15, 8⟩
def PSQ_ENTRY_WAKE : FieldRef := ⟨.PSQ_ENTRY, 0, 0, 7, 0⟩
def PSQ_PGCFG_DEGLITCH : FieldRef := ⟨.PSQ_PGCFG, 0, 0, 31, 24⟩
def PSQ_PGCFG_CHATMAX : FieldRef := ⟨.PSQ_PGCFG, 0, 0, 23, 16⟩
def PSQ_PGCFG_FAILGAP : FieldRef := ⟨.PSQ_PGCFG, 0, 0, 15, 8⟩
def PSQ_PGCFG_FAILHOLD : FieldRef := ⟨.PSQ_PGCFG, 0, 0, 7, 0⟩
def PSQ_VIN_THRESH : FieldRef := ⟨.PSQ_VIN, 0, 0, 31, 20⟩
def PSQ_VIN_HYST : FieldRef := ⟨.PSQ_VIN, 0, 0, 19, 12⟩
def PSQ_VIN_VINHOLD : FieldRef := ⟨.PSQ_VIN, 0, 0, 11, 4⟩
def PSQ_COOP_SYNCTO : FieldRef := ⟨.PSQ_COOP, 0, 0, 31, 24⟩
def PSQ_WAKE_ALARMEN : FieldRef := ⟨.PSQ_WAKE, 0, 0, 31, 31⟩
def PSQ_WAKE_ALARM : FieldRef := ⟨.PSQ_WAKE, 0, 0, 23, 0⟩
def PSQ_CAUSE_WAKE : FieldRef := ⟨.PSQ_CAUSE, 0, 0, 31, 28⟩
def PSQ_CAUSE_FCAUSE : FieldRef := ⟨.PSQ_CAUSE, 0, 0, 27, 24⟩
def PSQ_CAUSE_FRAIL : FieldRef := ⟨.PSQ_CAUSE, 0, 0, 20, 16⟩
def PSQ_CAUSE_FSTEP : FieldRef := ⟨.PSQ_CAUSE, 0, 0, 15, 8⟩
def PSQ_RAILCFG_DEV (k : Nat) : FieldRef := ⟨.PSQ_RAILCFG, 0, k, 31, 31⟩
def PSQ_RAILCFG_PMEN (k : Nat) : FieldRef := ⟨.PSQ_RAILCFG, 0, k, 30, 30⟩
def PSQ_RAILCFG_PMADDR (k : Nat) : FieldRef := ⟨.PSQ_RAILCFG, 0, k, 29, 23⟩
def PSQ_RAILCFG_PAGE (k : Nat) : FieldRef := ⟨.PSQ_RAILCFG, 0, k, 22, 18⟩
def PSQ_RAILCFG_MRGOUT (k : Nat) : FieldRef := ⟨.PSQ_RAILCFG, 0, k, 17, 15⟩
def PSQ_RAILCFG_MRGOK (k : Nat) : FieldRef := ⟨.PSQ_RAILCFG, 0, k, 14, 14⟩
def PSQ_RAILCFG_MSTEP (k : Nat) : FieldRef := ⟨.PSQ_RAILCFG, 0, k, 13, 6⟩
def PSQ_ENSTAT_RAILS : FieldRef := ⟨.PSQ_ENSTAT, 0, 0, 23, 0⟩
def PSQ_PGSTAT_RAILS : FieldRef := ⟨.PSQ_PGSTAT, 0, 0, 23, 0⟩
def PSQ_SLAVE_EN (k : Nat) : FieldRef := ⟨.PSQ_SLAVE, 0, k, 31, 31⟩
def PSQ_SLAVE_ADDR (k : Nat) : FieldRef := ⟨.PSQ_SLAVE, 0, k, 6, 0⟩
def PSQ_PROG_STEP (k : Nat) : FieldRef := ⟨.PSQ_PROG, 0, k, 31, 0⟩
def PSQ_MRG_ACTIVE3 (k : Nat) : FieldRef := ⟨.PSQ_MRG, 0, k, 31, 31⟩
def PSQ_MRG_DIR3 (k : Nat) : FieldRef := ⟨.PSQ_MRG, 0, k, 30, 30⟩
def PSQ_MRG_PATH3 (k : Nat) : FieldRef := ⟨.PSQ_MRG, 0, k, 29, 29⟩
def PSQ_MRG_PCT3 (k : Nat) : FieldRef := ⟨.PSQ_MRG, 0, k, 27, 24⟩
def PSQ_MRG_ACTIVE2 (k : Nat) : FieldRef := ⟨.PSQ_MRG, 0, k, 23, 23⟩
def PSQ_MRG_DIR2 (k : Nat) : FieldRef := ⟨.PSQ_MRG, 0, k, 22, 22⟩
def PSQ_MRG_PATH2 (k : Nat) : FieldRef := ⟨.PSQ_MRG, 0, k, 21, 21⟩
def PSQ_MRG_PCT2 (k : Nat) : FieldRef := ⟨.PSQ_MRG, 0, k, 19, 16⟩
def PSQ_MRG_ACTIVE1 (k : Nat) : FieldRef := ⟨.PSQ_MRG, 0, k, 15, 15⟩
def PSQ_MRG_DIR1 (k : Nat) : FieldRef := ⟨.PSQ_MRG, 0, k, 14, 14⟩
def PSQ_MRG_PATH1 (k : Nat) : FieldRef := ⟨.PSQ_MRG, 0, k, 13, 13⟩
def PSQ_MRG_PCT1 (k : Nat) : FieldRef := ⟨.PSQ_MRG, 0, k, 11, 8⟩
def PSQ_MRG_ACTIVE0 (k : Nat) : FieldRef := ⟨.PSQ_MRG, 0, k, 7, 7⟩
def PSQ_MRG_DIR0 (k : Nat) : FieldRef := ⟨.PSQ_MRG, 0, k, 6, 6⟩
def PSQ_MRG_PATH0 (k : Nat) : FieldRef := ⟨.PSQ_MRG, 0, k, 5, 5⟩
def PSQ_MRG_PCT0 (k : Nat) : FieldRef := ⟨.PSQ_MRG, 0, k, 3, 0⟩
def CKU_CTRL_UNIT_RST (n : Nat) : FieldRef := ⟨.CKU_CTRL, n, 0, 31, 31⟩
def CKU_CTRL_START (n : Nat) : FieldRef := ⟨.CKU_CTRL, n, 0, 30, 30⟩
def CKU_CFG_PRESET (n : Nat) : FieldRef := ⟨.CKU_CFG, n, 0, 31, 28⟩
def CKU_CFG_WIDTH (n : Nat) : FieldRef := ⟨.CKU_CFG, n, 0, 22, 16⟩
def CKU_CFG_REFIN (n : Nat) : FieldRef := ⟨.CKU_CFG, n, 0, 2, 2⟩
def CKU_CFG_REFOUT (n : Nat) : FieldRef := ⟨.CKU_CFG, n, 0, 1, 1⟩
def CKU_CFG_FINV (n : Nat) : FieldRef := ⟨.CKU_CFG, n, 0, 0, 0⟩
def CKU_POLY_LO_P (n : Nat) : FieldRef := ⟨.CKU_POLY_LO, n, 0, 31, 0⟩
def CKU_POLY_HI_P (n : Nat) : FieldRef := ⟨.CKU_POLY_HI, n, 0, 31, 0⟩
def CKU_INIT_LO_V (n : Nat) : FieldRef := ⟨.CKU_INIT_LO, n, 0, 31, 0⟩
def CKU_INIT_HI_V (n : Nat) : FieldRef := ⟨.CKU_INIT_HI, n, 0, 31, 0⟩
def CKU_RUN_LO_R (n : Nat) : FieldRef := ⟨.CKU_RUN_LO, n, 0, 31, 0⟩
def CKU_RUN_HI_R (n : Nat) : FieldRef := ⟨.CKU_RUN_HI, n, 0, 31, 0⟩
def CKU_OUT_LO_V (n : Nat) : FieldRef := ⟨.CKU_OUT_LO, n, 0, 31, 0⟩
def CKU_OUT_HI_V (n : Nat) : FieldRef := ⟨.CKU_OUT_HI, n, 0, 31, 0⟩
def CKU_DIN32_D (n : Nat) : FieldRef := ⟨.CKU_DIN32, n, 0, 31, 0⟩
def CKU_DIN8_D (n : Nat) : FieldRef := ⟨.CKU_DIN8, n, 0, 7, 0⟩
def CKU_BIND_EN (n : Nat) : FieldRef := ⟨.CKU_BIND, n, 0, 31, 31⟩
def CKU_BIND_MODE (n : Nat) : FieldRef := ⟨.CKU_BIND, n, 0, 30, 30⟩
def CKU_BIND_CHANNEL (n : Nat) : FieldRef := ⟨.CKU_BIND, n, 0, 3, 0⟩
def CKU_STAT_MISMATCH (n : Nat) : FieldRef := ⟨.CKU_STAT, n, 0, 31, 31⟩
def CKU_STAT_LASTOK (n : Nat) : FieldRef := ⟨.CKU_STAT, n, 0, 30, 30⟩
def CKU_STAT_CHECKS (n : Nat) : FieldRef := ⟨.CKU_STAT, n, 0, 15, 0⟩
def FCL_CTRL_FREASON : FieldRef := ⟨.FCL_CTRL, 0, 0, 15, 8⟩
def FCL_CTRL_FCLASS : FieldRef := ⟨.FCL_CTRL, 0, 0, 1, 0⟩
def FCL_CLASSB_TIMER : FieldRef := ⟨.FCL_CLASSB, 0, 0, 19, 0⟩
def FCL_STAT_KETTLE : FieldRef := ⟨.FCL_STAT, 0, 0, 31, 31⟩
def FCL_STAT_COPYA : FieldRef := ⟨.FCL_STAT, 0, 0, 30, 30⟩
def FCL_STAT_COPYB : FieldRef := ⟨.FCL_STAT, 0, 0, 29, 29⟩
def FCL_STAT_OUTST : FieldRef := ⟨.FCL_STAT, 0, 0, 28, 24⟩
def FCL_STAT_KSRC : FieldRef := ⟨.FCL_STAT, 0, 0, 23, 16⟩
def FCL_STAT_KCODE : FieldRef := ⟨.FCL_STAT, 0, 0, 15, 8⟩
def FCL_STAT_DROPPED : FieldRef := ⟨.FCL_STAT, 0, 0, 7, 0⟩
def FCL_KCMD_KEY : FieldRef := ⟨.FCL_KCMD, 0, 0, 31, 24⟩
def FCL_KCMD_LEAVE : FieldRef := ⟨.FCL_KCMD, 0, 0, 0, 0⟩
def FCL_ACK_SEQ : FieldRef := ⟨.FCL_ACK, 0, 0, 15, 8⟩
def FCL_ACK_INDEX : FieldRef := ⟨.FCL_ACK, 0, 0, 3, 0⟩
def FCL_HEAD_NEXTSEQ : FieldRef := ⟨.FCL_HEAD, 0, 0, 15, 8⟩
def FCL_HEAD_NEWEST : FieldRef := ⟨.FCL_HEAD, 0, 0, 3, 0⟩
def FCL_RINGCFG_EN : FieldRef := ⟨.FCL_RINGCFG, 0, 0, 31, 31⟩
def FCL_RINGCFG_RING : FieldRef := ⟨.FCL_RINGCFG, 0, 0, 22, 16⟩
def FCL_RINGCFG_LOST : FieldRef := ⟨.FCL_RINGCFG, 0, 0, 15, 0⟩
def FCL_FORCE_F (k : Nat) : FieldRef := ⟨.FCL_FORCE, 0, k, 31, 0⟩
def FCL_SRCCFG_CODE (k : Nat) : FieldRef := ⟨.FCL_SRCCFG, 0, k, 31, 24⟩
def FCL_SRCCFG_REASON (k : Nat) : FieldRef := ⟨.FCL_SRCCFG, 0, k, 15, 8⟩
def FCL_SRCCFG_CLASS (k : Nat) : FieldRef := ⟨.FCL_SRCCFG, 0, k, 1, 0⟩
def FCL_KPAD_EN (k : Nat) : FieldRef := ⟨.FCL_KPAD, 0, k, 31, 31⟩
def FCL_KPAD_LEVEL (k : Nat) : FieldRef := ⟨.FCL_KPAD, 0, k, 30, 30⟩
def FCL_KPAD_RID (k : Nat) : FieldRef := ⟨.FCL_KPAD, 0, k, 15, 0⟩
def FCL_HIST_STAMP_LO_T (k : Nat) : FieldRef := ⟨.FCL_HIST_STAMP_LO, 0, k, 31, 0⟩
def FCL_HIST_STAMP_HI_T (k : Nat) : FieldRef := ⟨.FCL_HIST_STAMP_HI, 0, k, 31, 0⟩
def FCL_HIST_INFO_V (k : Nat) : FieldRef := ⟨.FCL_HIST_INFO, 0, k, 31, 0⟩
def FCL_HIST_FSN_F (k : Nat) : FieldRef := ⟨.FCL_HIST_FSN, 0, k, 31, 0⟩
def FCL_HIST_EPOCH_E (k : Nat) : FieldRef := ⟨.FCL_HIST_EPOCH, 0, k, 31, 0⟩
def FCL_HIST_STATE_VALID (k : Nat) : FieldRef := ⟨.FCL_HIST_STATE, 0, k, 31, 31⟩
def FCL_HIST_STATE_OUTSTANDING (k : Nat) : FieldRef := ⟨.FCL_HIST_STATE, 0, k, 30, 30⟩
def FCL_HIST_STATE_ESCALATED (k : Nat) : FieldRef := ⟨.FCL_HIST_STATE, 0, k, 29, 29⟩
def FCL_HIST_STATE_REPEAT (k : Nat) : FieldRef := ⟨.FCL_HIST_STATE, 0, k, 15, 8⟩
def FCL_HIST_STATE_SEQ (k : Nat) : FieldRef := ⟨.FCL_HIST_STATE, 0, k, 7, 0⟩
def JRN_CMD_KEY : FieldRef := ⟨.JRN_CMD, 0, 0, 31, 24⟩
def JRN_CMD_ACTION : FieldRef := ⟨.JRN_CMD, 0, 0, 3, 0⟩
def JRN_EPOCH_EPOCH : FieldRef := ⟨.JRN_EPOCH, 0, 0, 31, 0⟩
def JRN_STAT_STATE : FieldRef := ⟨.JRN_STAT, 0, 0, 31, 28⟩
def JRN_STAT_FRAMOK : FieldRef := ⟨.JRN_STAT, 0, 0, 27, 27⟩
def JRN_STAT_MIRROK : FieldRef := ⟨.JRN_STAT, 0, 0, 26, 26⟩
def JRN_STAT_FLUSHED : FieldRef := ⟨.JRN_STAT, 0, 0, 25, 25⟩
def JRN_STAT_TORN : FieldRef := ⟨.JRN_STAT, 0, 0, 24, 24⟩
def JRN_STAT_MIRRUSED : FieldRef := ⟨.JRN_STAT, 0, 0, 23, 23⟩
def JRN_STAT_MERGE : FieldRef := ⟨.JRN_STAT, 0, 0, 22, 22⟩
def JRN_STAT_SPAN : FieldRef := ⟨.JRN_STAT, 0, 0, 10, 0⟩
def JRN_SEQ_SEQ : FieldRef := ⟨.JRN_SEQ, 0, 0, 31, 0⟩
def JRN_TAILSEQ_SEQ : FieldRef := ⟨.JRN_TAILSEQ, 0, 0, 31, 0⟩
def JRN_SEALEPOCH_EPOCH : FieldRef := ⟨.JRN_SEALEPOCH, 0, 0, 31, 0⟩
def JRN_UNITEP_EP (k : Nat) : FieldRef := ⟨.JRN_UNITEP, 0, k, 31, 0⟩
def JRN_RIDX_SRC : FieldRef := ⟨.JRN_RIDX, 0, 0, 31, 31⟩
def JRN_RIDX_DONE : FieldRef := ⟨.JRN_RIDX, 0, 0, 30, 30⟩
def JRN_RIDX_SLOT : FieldRef := ⟨.JRN_RIDX, 0, 0, 11, 0⟩
def JRN_RDATA_D (k : Nat) : FieldRef := ⟨.JRN_RDATA, 0, k, 31, 0⟩
def OTP_DEVID_PART : FieldRef := ⟨.OTP_DEVID, 0, 0, 31, 16⟩
def OTP_DEVID_STEP_LETTER : FieldRef := ⟨.OTP_DEVID, 0, 0, 15, 12⟩
def OTP_DEVID_STEP_NUMBER : FieldRef := ⟨.OTP_DEVID, 0, 0, 11, 8⟩
def OTP_DEVID_SPARE_OK : FieldRef := ⟨.OTP_DEVID, 0, 0, 7, 4⟩
def OTP_STAT_BUSY : FieldRef := ⟨.OTP_STAT, 0, 0, 31, 31⟩
def OTP_STAT_SCRUB : FieldRef := ⟨.OTP_STAT, 0, 0, 30, 30⟩
def OTP_STAT_WINOK : FieldRef := ⟨.OTP_STAT, 0, 0, 29, 29⟩
def OTP_STAT_SPARES : FieldRef := ⟨.OTP_STAT, 0, 0, 28, 24⟩
def OTP_STAT_MARGCNT : FieldRef := ⟨.OTP_STAT, 0, 0, 23, 16⟩
def OTP_STAT_DIGFAIL : FieldRef := ⟨.OTP_STAT, 0, 0, 15, 11⟩
def OTP_STAT_VOTP : FieldRef := ⟨.OTP_STAT, 0, 0, 10, 0⟩
def OTP_RADDR_ADDR : FieldRef := ⟨.OTP_RADDR, 0, 0, 10, 0⟩
def OTP_RDATA_D : FieldRef := ⟨.OTP_RDATA, 0, 0, 31, 0⟩
def OTP_PADDR_ADDR : FieldRef := ⟨.OTP_PADDR, 0, 0, 10, 0⟩
def OTP_PDATA_D : FieldRef := ⟨.OTP_PDATA, 0, 0, 31, 0⟩
def OTP_PCMD_KEY : FieldRef := ⟨.OTP_PCMD, 0, 0, 31, 24⟩
def OTP_PCMD_REGION : FieldRef := ⟨.OTP_PCMD, 0, 0, 6, 4⟩
def OTP_PCMD_ACTION : FieldRef := ⟨.OTP_PCMD, 0, 0, 3, 0⟩
def OTP_PSTAT_DONE : FieldRef := ⟨.OTP_PSTAT, 0, 0, 31, 31⟩
def OTP_PSTAT_OK : FieldRef := ⟨.OTP_PSTAT, 0, 0, 30, 30⟩
def OTP_PSTAT_CODE : FieldRef := ⟨.OTP_PSTAT, 0, 0, 23, 16⟩
def OTP_PSTAT_ADDR : FieldRef := ⟨.OTP_PSTAT, 0, 0, 10, 0⟩
def OTP_SCRUB_DRIFT : FieldRef := ⟨.OTP_SCRUB, 0, 0, 31, 31⟩
def OTP_SCRUB_LASTTEMP : FieldRef := ⟨.OTP_SCRUB, 0, 0, 23, 16⟩
def OTP_SCRUB_FIRST : FieldRef := ⟨.OTP_SCRUB, 0, 0, 10, 0⟩
def OTP_MLIST_VH (k : Nat) : FieldRef := ⟨.OTP_MLIST, 0, k, 31, 31⟩
def OTP_MLIST_AH (k : Nat) : FieldRef := ⟨.OTP_MLIST, 0, k, 26, 16⟩
def OTP_MLIST_VL (k : Nat) : FieldRef := ⟨.OTP_MLIST, 0, k, 15, 15⟩
def OTP_MLIST_AL (k : Nat) : FieldRef := ⟨.OTP_MLIST, 0, k, 10, 0⟩
def LCS_BOOTCMD_CMD : FieldRef := ⟨.LCS_BOOTCMD, 0, 0, 31, 0⟩
def LCS_WARMRST_CMD : FieldRef := ⟨.LCS_WARMRST, 0, 0, 31, 0⟩
def LCS_CHIPID_LO_ID : FieldRef := ⟨.LCS_CHIPID_LO, 0, 0, 31, 0⟩
def LCS_CHIPID_HI_ID : FieldRef := ⟨.LCS_CHIPID_HI, 0, 0, 31, 0⟩
def LCS_NONCE_N (k : Nat) : FieldRef := ⟨.LCS_NONCE, 0, k, 31, 0⟩
def LCS_TOKEN_T (k : Nat) : FieldRef := ⟨.LCS_TOKEN, 0, k, 31, 0⟩
def LCS_STATE_STATE : FieldRef := ⟨.LCS_STATE, 0, 0, 31, 28⟩
def LCS_STATE_RETURNS : FieldRef := ⟨.LCS_STATE, 0, 0, 27, 24⟩
def LCS_STATE_CONSENT : FieldRef := ⟨.LCS_STATE, 0, 0, 23, 23⟩
def LCS_STATE_NONCEV : FieldRef := ⟨.LCS_STATE, 0, 0, 22, 22⟩
def LCS_STATE_BUSY : FieldRef := ⟨.LCS_STATE, 0, 0, 21, 21⟩
def LCS_LCCMD_KEY : FieldRef := ⟨.LCS_LCCMD, 0, 0, 31, 24⟩
def LCS_LCCMD_ACTION : FieldRef := ⟨.LCS_LCCMD, 0, 0, 3, 0⟩
def LCS_RESULT_DONE : FieldRef := ⟨.LCS_RESULT, 0, 0, 31, 31⟩
def LCS_RESULT_OK : FieldRef := ⟨.LCS_RESULT, 0, 0, 30, 30⟩
def LCS_RESULT_CODE : FieldRef := ⟨.LCS_RESULT, 0, 0, 7, 0⟩
def LCS_ROSC_TEMP (k : Nat) : FieldRef := ⟨.LCS_ROSC, 0, k, 31, 24⟩
def LCS_ROSC_COUNT (k : Nat) : FieldRef := ⟨.LCS_ROSC, 0, k, 15, 0⟩
def HYW_CTRL_UNIT_RST (n : Nat) : FieldRef := ⟨.HYW_CTRL, n, 0, 31, 31⟩
def HYW_CTRL_REAUTH (n : Nat) : FieldRef := ⟨.HYW_CTRL, n, 0, 1, 1⟩
def HYW_CTRL_EN (n : Nat) : FieldRef := ⟨.HYW_CTRL, n, 0, 0, 0⟩
def HYW_CFG_TYPE (n : Nat) : FieldRef := ⟨.HYW_CFG, n, 0, 31, 16⟩
def HYW_CFG_KEY (n : Nat) : FieldRef := ⟨.HYW_CFG, n, 0, 15, 12⟩
def HYW_CFG_STN (n : Nat) : FieldRef := ⟨.HYW_CFG, n, 0, 11, 8⟩
def HYW_CFG_PATH (n : Nat) : FieldRef := ⟨.HYW_CFG, n, 0, 7, 7⟩
def HYW_CFG_WARNPCT (n : Nat) : FieldRef := ⟨.HYW_CFG, n, 0, 6, 0⟩
def HYW_CFG2_REAUTH (n : Nat) : FieldRef := ⟨.HYW_CFG2, n, 0, 31, 16⟩
def HYW_STAT_STATE (n : Nat) : FieldRef := ⟨.HYW_STAT, n, 0, 31, 28⟩
def HYW_STAT_FAULT (n : Nat) : FieldRef := ⟨.HYW_STAT, n, 0, 27, 20⟩
def HYW_STAT_LINE (n : Nat) : FieldRef := ⟨.HYW_STAT, n, 0, 19, 19⟩
def HYW_STAT_PERMIT (n : Nat) : FieldRef := ⟨.HYW_STAT, n, 0, 18, 18⟩
def HYW_STAT_RETRIES (n : Nat) : FieldRef := ⟨.HYW_STAT, n, 0, 15, 8⟩
def HYW_STAT_QUEUE (n : Nat) : FieldRef := ⟨.HYW_STAT, n, 0, 2, 0⟩
def HYW_ID_LO_ID (n : Nat) : FieldRef := ⟨.HYW_ID_LO, n, 0, 31, 0⟩
def HYW_ID_HI_ID (n : Nat) : FieldRef := ⟨.HYW_ID_HI, n, 0, 31, 0⟩
def HYW_RATED_R (n : Nat) : FieldRef := ⟨.HYW_RATED, n, 0, 31, 0⟩
def HYW_LIFE_L (n : Nat) : FieldRef := ⟨.HYW_LIFE, n, 0, 31, 0⟩
def HYW_METER_INC (n : Nat) : FieldRef := ⟨.HYW_METER, n, 0, 23, 0⟩
def OBS_CTRL_RUN : FieldRef := ⟨.OBS_CTRL, 0, 0, 0, 0⟩
def OBS_STAT_LEVEL : FieldRef := ⟨.OBS_STAT, 0, 0, 31, 30⟩
def OBS_STAT_LOST : FieldRef := ⟨.OBS_STAT, 0, 0, 15, 0⟩
def OBS_HOSTEN_EN : FieldRef := ⟨.OBS_HOSTEN, 0, 0, 0, 0⟩
def OBS_UACC_CORES : FieldRef := ⟨.OBS_UACC, 0, 0, 23, 0⟩
def OBS_TRCCFG_PORT : FieldRef := ⟨.OBS_TRCCFG, 0, 0, 31, 31⟩
def OBS_TRCCFG_MEM : FieldRef := ⟨.OBS_TRCCFG, 0, 0, 30, 30⟩
def OBS_TRCCFG_WRAP : FieldRef := ⟨.OBS_TRCCFG, 0, 0, 29, 29⟩
def OBS_TRCCFG_ICORES : FieldRef := ⟨.OBS_TRCCFG, 0, 0, 23, 0⟩
def OBS_EVTMASK_CODES : FieldRef := ⟨.OBS_EVTMASK, 0, 0, 12, 1⟩
def OBS_BUFBASE_LO_ADDR : FieldRef := ⟨.OBS_BUFBASE_LO, 0, 0, 31, 0⟩
def OBS_BUFBASE_HI_ADDR : FieldRef := ⟨.OBS_BUFBASE_HI, 0, 0, 2, 0⟩
def OBS_BUFSIZE_PAGES : FieldRef := ⟨.OBS_BUFSIZE, 0, 0, 15, 0⟩
def OBS_BUFWP_INDEX : FieldRef := ⟨.OBS_BUFWP, 0, 0, 31, 0⟩
def OBS_MARK_VALUE : FieldRef := ⟨.OBS_MARK, 0, 0, 31, 0⟩
def OBS_BWCFG_EN : FieldRef := ⟨.OBS_BWCFG, 0, 0, 31, 31⟩
def OBS_BWCFG_WINDOW : FieldRef := ⟨.OBS_BWCFG, 0, 0, 19, 0⟩
def OBS_BWLAST_UNITS (k : Nat) : FieldRef := ⟨.OBS_BWLAST, 0, k, 31, 0⟩
def OBS_BWPEAK_UNITS (k : Nat) : FieldRef := ⟨.OBS_BWPEAK, 0, k, 31, 0⟩
def OBS_EVSEL_EN (k : Nat) : FieldRef := ⟨.OBS_EVSEL, 0, k, 31, 31⟩
def OBS_EVSEL_OVF (k : Nat) : FieldRef := ⟨.OBS_EVSEL, 0, k, 30, 30⟩
def OBS_EVSEL_SAMPLE (k : Nat) : FieldRef := ⟨.OBS_EVSEL, 0, k, 29, 29⟩
def OBS_EVSEL_CORE (k : Nat) : FieldRef := ⟨.OBS_EVSEL, 0, k, 28, 24⟩
def OBS_EVSEL_EVENT (k : Nat) : FieldRef := ⟨.OBS_EVSEL, 0, k, 23, 16⟩
def OBS_EVSEL_INST (k : Nat) : FieldRef := ⟨.OBS_EVSEL, 0, k, 15, 8⟩
def OBS_CNT_LO_COUNT (k : Nat) : FieldRef := ⟨.OBS_CNT_LO, 0, k, 31, 0⟩
def OBS_CNT_HI_COUNT (k : Nat) : FieldRef := ⟨.OBS_CNT_HI, 0, k, 15, 0⟩
def OBS_FIX_LO_COUNT (k : Nat) : FieldRef := ⟨.OBS_FIX_LO, 0, k, 31, 0⟩
def OBS_FIX_HI_COUNT (k : Nat) : FieldRef := ⟨.OBS_FIX_HI, 0, k, 15, 0⟩
def OBS_SAMP_PC_PC (k : Nat) : FieldRef := ⟨.OBS_SAMP_PC, 0, k, 31, 0⟩
def OBS_SAMP_INFO_PEND (k : Nat) : FieldRef := ⟨.OBS_SAMP_INFO, 0, k, 31, 31⟩
def OBS_SAMP_INFO_MERGED (k : Nat) : FieldRef := ⟨.OBS_SAMP_INFO, 0, k, 23, 16⟩
def OBS_SAMP_INFO_INDEX (k : Nat) : FieldRef := ⟨.OBS_SAMP_INFO, 0, k, 5, 0⟩
def PMX_PADCFG_OWNER (k : Nat) : FieldRef := ⟨.PMX_PADCFG, 0, k, 31, 28⟩
def PMX_PADCFG_OCORE (k : Nat) : FieldRef := ⟨.PMX_PADCFG, 0, k, 27, 23⟩
def PMX_PADCFG_CLAIMABLE (k : Nat) : FieldRef := ⟨.PMX_PADCFG, 0, k, 22, 22⟩
def PMX_PADCFG_TYPE (k : Nat) : FieldRef := ⟨.PMX_PADCFG, 0, k, 21, 20⟩
def PMX_PADCFG_FUNC (k : Nat) : FieldRef := ⟨.PMX_PADCFG, 0, k, 19, 16⟩
def PMX_PADCFG_PULL (k : Nat) : FieldRef := ⟨.PMX_PADCFG, 0, k, 15, 14⟩
def PMX_PADCFG_DRIVE (k : Nat) : FieldRef := ⟨.PMX_PADCFG, 0, k, 13, 12⟩
def PMX_PADCFG_SLEW (k : Nat) : FieldRef := ⟨.PMX_PADCFG, 0, k, 11, 11⟩
def PMX_PADCFG_FILT (k : Nat) : FieldRef := ⟨.PMX_PADCFG, 0, k, 10, 8⟩
def PMX_PADCFG_BANK (k : Nat) : FieldRef := ⟨.PMX_PADCFG, 0, k, 7, 6⟩
def PMX_PADCFG_IN (k : Nat) : FieldRef := ⟨.PMX_PADCFG, 0, k, 1, 1⟩
def PMX_PADCFG_OUT (k : Nat) : FieldRef := ⟨.PMX_PADCFG, 0, k, 0, 0⟩
def PMX_SNSWIRE_EN : FieldRef := ⟨.PMX_SNSWIRE, 0, 0, 31, 0⟩
def PMX_SNSSTAT_FAULTY : FieldRef := ⟨.PMX_SNSSTAT, 0, 0, 31, 0⟩

end F

end Sys2Proof.Machine
end

