-- ==== Sys2Proof/Syntax.lean ====
section
/-! DEFINITION. The commands of the block: one constructor of Instr per row of spec/opcode_table.json, with the row's operands. -/

namespace Sys2Proof.Machine

/-- Who makes a register or memory access (R14, R333): a core by index, a PCIe endpoint, the DMA engine, a hardware unit. -/
inductive Requester where
  | core (i : Nat)
  | host (n : Nat)
  | dma
  | hw
  deriving DecidableEq, Repr, Inhabited

/-- The sheet sensors of the path whose edges are matched against windows (R68, R83). -/
inductive SheetSensor where
  | registration
  | exitLead
  | exitTrail
  deriving DecidableEq, Repr

/-- The shadowed register sets (R34). -/
inductive ShadowSet where
  | gathGeom
  | strGlobal
  | strPhase (n : Nat)
  | strImaging (n : Nat)
  | motPwm (n : Nat)
  | motAdv (n : Nat)
  | stpProfile (k : Nat)
  | synDiv
  deriving DecidableEq, Repr, Inhabited

/-- The class of a fault event (R332, R335). -/
inductive Cls where
  | a | b | c
  deriving DecidableEq, Repr, Inhabited

/-- What an FOC port measures at a sample instant (R217, R222): the currents of phases A and B as signed Q1.15 before the offsets are
subtracted, the electrical angle (1/65,536 turn) of the observer, the mechanical speed (1/256 rev/s) that the sensor or observer gives, the mechanical position (1/65,536 rev), and
the observer's back-EMF in mV; and the A/B counts of the encoder since the last sample. -/
structure MotSample where
  ia : Int
  ib : Int
  angle : Nat
  speed : Int
  pos : Int
  bemf : Nat
  counts : Int
  deriving DecidableEq, Repr

/-- What an HV port measures in a result window (R273): voltage and current as signed Q1.15, peak-to-peak voltage as Q1.15. -/
structure HvSample where
  vdc : Int
  idc : Int
  vpp : Nat
  deriving DecidableEq, Repr, Inhabited

/-- What a fuser port measures in a result window (R264, R265): mean and peak resonant current, and the bias voltages of TH0, TH1 and TH2
in 1/65,536 of the reference. -/
structure FusSample where
  icur : Nat
  ipk : Nat
  th0 : Nat
  th1 : Nat
  th2 : Nat
  deriving DecidableEq, Repr, Inhabited

/-- A boot image (R42): its header names a key slot and carries a P-256 public key (x, y), a security version, the body's SHA-256 digest and a
signature (r, s) over the header; the bytes signed, which the spec does not lay out, stand in header (log 9).  place tells where parts
of the body go: core index, offset in the body, length. -/
structure BootImage where
  slot : Nat
  x : Nat
  y : Nat
  secver : Nat
  digest : List Nat
  header : List Nat
  r : Nat
  s : Nat
  body : List Nat
  place : List (Nat × Nat × Nat)
  deriving DecidableEq, Repr

/-- What JRN reads back from FRAM after a commit (R347, R363). -/
inductive ReadBack where
  | ok
  | mismatch
  | noResponse
  deriving DecidableEq, Repr

end Sys2Proof.Machine

namespace Sys2Proof

open Machine

/-- The commands of the block, one per row of spec/opcode_table.json and in its order, with the rule of the row; a Gotum row is core i issuing the
instruction with the fields of its format (R184). -/
inductive Instr where
  /-- R11: A write to a control register that has no row of its own sets its fields as the access codes of R11 state. -/
  | registerWrite (q : Requester) (a w v : Nat)
  /-- R14: A read of a _LO register returns the low half and captures the high half for this requester. -/
  | pairLoRead (q : Requester) (a : Nat)
  /-- R14: A read of a _HI register returns the half captured by this requester, or the present high half. -/
  | pairHiRead (q : Requester) (a : Nat)
  /-- R14: A write of a _LO register stages its value for this requester without effect or fault. -/
  | pairLoWrite (q : Requester) (a v : Nat)
  /-- R14: A write of a _HI register commits both halves at once after judging the pair as one register. -/
  | pairHiWrite (q : Requester) (a v : Nat)
  /-- R23: An access outside every window or slot returns zero, is discarded and raises a class-A fault. -/
  | unmapped (q : Requester) (write : Bool) (a w v : Nat)
  /-- R19: A follower leaves its tolerance; its CORD.STAT bit clears, cord-timed events of the domain are gated and folios are spoiled 0x03. -/
  | cordSlip (d : Nat)
  /-- R19: A follower returns within tolerance and its CORD.STAT bit sets again, ungating its events. -/
  | followerRestored (d : Nat)
  /-- R21: An actuator event reaches its queue and is judged for lateness, duplicate time and room. -/
  | actEventArrive (q : Requester) (id t v : Nat)
  /-- R20: A queued actuator event takes effect at the CTL edge that begins its tick. -/
  | actEventFire (id : Nat)
  /-- R28: The producer writes QTAIL to publish entries; for a host producer this is the doorbell. -/
  | qtailWrite (q : Requester) (r v : Nat)
  /-- R28: The consumer writes QHEAD to release consumed entries. -/
  | qheadWrite (q : Requester) (r v : Nat)
  /-- R29: A write to TCE.QCFG configures, enables or disables a ring as one judged whole. -/
  | qcfgWrite (q : Requester) (r v : Nat)
  /-- R29: A write to TCE.QBASE sets a ring's start while the ring is disabled. -/
  | qbaseWrite (q : Requester) (r v : Nat)
  /-- R30: An endpoint write of PMX.CLAIMREQ with OP = 0 claims a resource through the arbiter. -/
  | pmxClaim (q : Requester) (rid : Nat)
  /-- R32: An endpoint write of PMX.CLAIMREQ with OP = 1 resets and releases a resource it owns. -/
  | pmxFree (q : Requester) (rid : Nat)
  /-- R35: A write of GO = 1 to a COMMIT register sets PEND and locks the set's shadows. -/
  | commitGo (q : Requester) (x : ShadowSet)
  /-- R35: At the set's first update event after the commit arrives, shadows are copied to the active set and PEND clears. -/
  | shadowCopy (x : ShadowSet)
  /-- R35: With the update event source stopped, the copy is made in the eighth home-domain cycle after arrival. -/
  | shadowCopyStopped (x : ShadowSet)
  /-- R38: PONRST_N, VDD_AON power-on detection or wake from SHELF resets all logic and restarts cord time at zero. -/
  | powerOnReset
  /-- R38: WRST_N, LCS.WARMRST or a thermal restart resets core, memory, video and control logic while keeping AON state. -/
  | warmReset
  /-- R38: A wake source ends SLEEP, resetting as warm reset and also SYN0 and cord time. -/
  | wakeFromSleep
  /-- R38: A keyed write to TCE.CORERST resets one core's pipeline, registers and status word. -/
  | coreReset (q : Requester) (key i : Nat)
  /-- R38: A write of UNIT_RST = 1 resets one unit's registers while keeping its claims. -/
  | unitReset (q : Requester) (b : Block) (n : Nat)
  /-- R38: PCIe conventional reset resets only the receiving endpoint and errors its outstanding reads. -/
  | perst (n : Nat)
  /-- R40: A unit still reporting a stale epoch 10 ms after replay raises a class-B fault. -/
  | epochStale (i : Nat)
  /-- R41: OTP sensing of the critical words completes and the dedicated wires become valid. -/
  | otpSenseDone (vin : Nat)
  /-- R309: Every DEV rail reads good, SYN0 and SYN1 start and boot proceeds to the cord counter start. -/
  | coreRailsGood
  /-- R41: The boot ROM starts on T0 once SYN0 has locked and CORE and CTL run. -/
  | bootRomStart (failed : Nat)
  /-- R42: The ROM loads an image from a QSPI slot and verifies key digest, revocation, version, signature and body digest. -/
  | imageVerify (a b : Option BootImage)
  /-- R43: A host write of 1 to LCS.BOOTCMD flips shared pages to DEV and makes the ROM verify the host image. -/
  | bootcmd (q : Requester) (v : Nat)
  /-- R45: LPDDR5 training completes; a failed channel halves the page store and both failed halts boot. -/
  | lpddr5TrainingDone (ok0 ok1 : Bool)
  /-- R26: A host write through BAR4 reaches the page store only in MAKER and RETURNED. -/
  | bar4Write (n off w v : Nat)
  /-- R54: GATH takes the next descriptor of a stream ring and judges it against the refusal codes in order. -/
  | descriptorConsume (n : Nat)
  /-- R58: As completion ring space returns, held records and pending marks move to the ring in transition order. -/
  | heldRecordRelease (n : Nat)
  /-- R63: Every 1 ms the hardware assist refills the fuser and site buckets up to their depths. -/
  | bucketUpdate
  /-- R62: When the registration point can take a sheet, GATH chooses the next stream's head folio and feeds it. -/
  | gathChoice
  /-- R68: The leading edge at the pre-registration sensor moves a cut-sheet folio from ADMITTED to HELD. -/
  | preregEdge (stamp : Nat)
  /-- R69: GATH fixes the earliest permitted sewing point, adjusts the die gap and requests the SEWN record. -/
  | sewPointFix (st fsn : Nat) (purgeOk : Bool)
  /-- R69: Without SEWN confirmation by t_s minus 1 ms, GATH withdraws the sewing point and keeps the folio waiting. -/
  | sewnWithdraw (st fsn : Nat)
  /-- R60: At t_s the rollers release or the label starts and the folio enters SEWN with buckets charged. -/
  | sewingPointReached (st fsn : Nat)
  /-- R68: No registration edge within REG_TOL of t_side spoils the folio with reason 0x05. -/
  | regWindowExpire (st fsn : Nat) (verso : Bool)
  /-- R60: The last stroke of a side on every selected station moves the folio to RECTO_DONE or VERSO_DONE and writes its record. -/
  | sideImaged (st fsn k : Nat)
  /-- R83: A sheet sensor edge is stamped and matched against the folio's expected window. -/
  | sheetEdge (sensor : SheetSensor) (stamp : Nat)
  /-- R83: An expected sheet edge missing from its window is a jam spoiling the folio with reason 0x05. -/
  | edgeWindowExpire (st fsn : Nat) (trailing : Bool)
  /-- R83: At the confirmation time with both exit edges seen and no jam, GATH requests the DELIVERED record. -/
  | exitConfirmed (st fsn : Nat)
  /-- R79: The purge sensor confirms a spoiled sheet, posting PURGED and returning, exhausting or aborting the folio. -/
  | purgeConfirm
  /-- R78: No purge confirmation within EXIT_SETTLE, or a full purge bin, raises a class-C fault and enters the kettle state. -/
  | purgeFail (binFull : Bool)
  /-- R80: After leaving the kettle state GATH runs the path to purge for the longest path time before any sewing point. -/
  | purgePathRun
  /-- R80: The purge path run ends after its time and sewing points may be fixed again. -/
  | purgePathRunEnd
  /-- R55: GATH.SCMD CONTINUE sets SNEXT to SCMDFSN and returns a BLOCKED stream to RUN. -/
  | scmdContinue (q : Requester) (n : Nat)
  /-- R81: GATH.SCMD RETRY gives an exhausted head folio a fresh attempt count and resumes the stream. -/
  | scmdRetry (q : Requester) (n : Nat)
  /-- R82: GATH.SCMD ABORT ends the named FSN and every later accepted FSN, spoiling those already sewn. -/
  | scmdAbort (q : Requester) (n : Nat)
  /-- R81: GATH.SCMD OPERATOR_DELIVERED writes a DELIVERED record with operator flag for the stranded folio. -/
  | scmdOperatorDelivered (q : Requester) (n : Nat)
  /-- R81: GATH.SCMD OPERATOR_REMOVED returns the stranded folio to ACCEPTED or to awaiting resubmission. -/
  | scmdOperatorRemoved (q : Requester) (n : Nat)
  /-- R446: A write to GATH.CTRL sets EN, NBINS and WEB, refusing a WEB change while any folio is live. -/
  | gathCtrlWrite (q : Requester) (v : Nat)
  /-- R89: A GATH unit reset is accepted only when idle and resets registers except expected and delivered FSNs. -/
  | gathUnitReset (q : Requester)
  /-- R84: The web-index edge fixes the label's sewing point at the first stroke start far enough after it. -/
  | webIndexEdge (stamp : Nat)
  /-- R85: A budget pause longer than BLANKMAX stops the web after the last sewn label's exit confirmation. -/
  | webStop (blank : Nat)
  /-- R85: The web restarts with the next label's sewing point no earlier than RESTART after the command. -/
  | webRestart
  /-- R94: Setting STRn.CTRL.EN configures the P-VIDn pads, refused if any pad has another owner. -/
  | stationEnable (q : Requester) (k v : Nat)
  /-- R107: A beam-detect edge inside its window is stamped; an inbound edge fixes the turn point and updates T_est and rho. -/
  | bdEdge (k : Nat) (farEnd rising : Bool) (stamp : Nat)
  /-- R110: A beam-detect window closing without a valid edge counts a miss and uses the predicted turn point. -/
  | bdWindowExpire (k : Nat) (farEnd : Bool)
  /-- R111: Once per half-cycle the amplitude and phase loops update the drive level and centre. -/
  | ampLoopUpdate (k : Nat)
  /-- R112: A sweep ending without capture puts the scanner in FAULT with SCAN_START. -/
  | scanSweepEnd (k : Nat)
  /-- R112: Two seconds in CAPTURE without lock puts the scanner in FAULT with SCAN_START. -/
  | scanCaptureTimeout (k : Nat)
  /-- R112: Coil current out of range puts the station in FAULT. -/
  | scanCoil (k icoil : Nat)
  /-- R115: At turn point plus WSTART the ramp generator loads K and starts the pixel clock at pixel -64. -/
  | rampRestart (k : Nat)
  /-- R290: The pixel clock stops after a complete period at the end of the lead-out. -/
  | leadOutEnd (k : Nat)
  /-- R125: An APC slot drives one emitter at test level and averages its monitor input into LCE results. -/
  | apcSlot (n k result : Nat)
  /-- R126: A write of CMD and VALUE to STRn.LDCMDk sets PEND, refused if already pending. -/
  | ldcmdWrite (q : Requester) (n k v : Nat)
  /-- R126: 200 ns after the last APC slot every pending lane sends one command frame and PEND clears. -/
  | laneFrameSend (n : Nat)
  /-- R128: The driver fault input forces the lanes low at once and spoils 0x02. -/
  | ldFault (k : Nat) (asserted : Bool)
  /-- R129: Writing 1 to LASER_DIS re-enables the lanes only if its cause has cleared. -/
  | laserDisClear (k : Nat)
  /-- R131: Setting or clearing CALRUN enters or leaves calibration imaging, refused while folios use the station. -/
  | calrunWrite (q : Requester) (k : Nat) (on : Bool)
  /-- R132: The write of CALT_HI arms a run of COUNT calibration strokes from the given cord time. -/
  | caltArm (q : Requester) (k t : Nat)
  /-- R132: The last stroke of a calibration run ends and BUSY clears. -/
  | calRunEnd (k : Nat)
  /-- R133: In polygon mode a BD-A rising edge starts a facet sweep at the fixed pixel clock. -/
  | facetBd (k stamp : Nat)
  /-- R158: An enabled channel fetches the descriptor at QHEAD and checks OWN, DCRC, fields and windows. -/
  | dmaDescFetch (c : Nat)
  /-- R158: With OWN clear the channel re-reads the entry every 1 microsecond. -/
  | ownPoll (c : Nat)
  /-- R158: OWN still clear after OWNWAIT completes the descriptor with NOT_OWNED. -/
  | notOwned (c : Nat)
  /-- R162: An error answer ends the descriptor, posts it HALTED and halts the channel. -/
  | dmaBeatError (c : Nat) (write : Bool) (off : Nat)
  /-- R161: Once every write is answered the channel posts the completion, clears OWN and advances QHEAD. -/
  | dmaComplete (c : Nat)
  /-- R163: DMA.CHCTRLn.RESTART lets a halted channel continue at QHEAD. -/
  | dmaRestart (q : Requester) (c : Nat)
  /-- R163: DMA.CHCTRLn.STOP ends the descriptor in progress with STOPPED and halts the channel. -/
  | dmaStop (q : Requester) (c : Nat)
  /-- R163: A DMA unit reset ends descriptors without completion and refuses ingesting folios. -/
  | dmaUnitReset
  /-- R150: A write of GO to ING.CTXn_JOB starts a side in the context. -/
  | ingGo (q : Requester) (n v : Nat)
  /-- R152: A free compressor takes a staged block from the next context in cyclic order. -/
  | compressorHandoff (m : Nat) (ecc : Bool)
  /-- R154: A finished block is written to the current run and its locator written. -/
  | blockStored (n : Nat)
  /-- R153: A context takes the next run entry from its run ring, discarding bad entries with RUN_BAD. -/
  | runTake (n : Nat)
  /-- R154: An empty run ring for RUNWAIT fails the context with PAGE_STORE_FULL. -/
  | runwaitExpire (n : Nat)
  /-- R156: A context that has received its whole side ends DONE with the side CRC. -/
  | sideIngestDone (n : Nat)
  /-- R165: A keyed write to SHW.PAGEk flips the page's owner and increments SEQ. -/
  | shwFlip (q : Requester) (k v : Nat)
  /-- R166: An access to a shared page is judged against its owner at the moment it arrives. -/
  | shwAccess (q : Requester) (write : Bool) (page off w v : Nat)
  /-- R168: A write to QST.QRINGn configures a station's quire ring, accepted only from the owner of its granules. -/
  | qringWrite (q : Requester) (n v : Nat)
  /-- R170: The write of DCPn.JOB_HI pushes a side's decompression job onto the queue. -/
  | dcpJobPush (q : Requester) (n lo hi st fsn : Nat) (verso : Bool)
  /-- R170: While a slot is EMPTY the decompressor fetches, decodes and writes the next block into slots. -/
  | dcpBlockDecode (n : Nat) (ecc : Bool)
  /-- R174: An uncorrectable ECC error at read-out holds the stroke's pixels off and spoils 0x01. -/
  | qstEcc (n : Nat) (uncorrectable : Bool)
  /-- R174: A unit reset of QST or DCPn empties slots, clears jobs and spoils affected folios. -/
  | dcpUnitReset (n : Option Nat)
  /-- R186: Adds two registers. -/
  | add (i : Nat) (rd ra rb : BitVec 5)
  /-- R186: Subtracts two registers. -/
  | sub (i : Nat) (rd ra rb : BitVec 5)
  /-- R186: Bitwise AND of two registers. -/
  | and (i : Nat) (rd ra rb : BitVec 5)
  /-- R186: Bitwise OR of two registers. -/
  | or (i : Nat) (rd ra rb : BitVec 5)
  /-- R186: Bitwise XOR of two registers. -/
  | xor (i : Nat) (rd ra rb : BitVec 5)
  /-- R186: Shifts left by a register count. -/
  | sll (i : Nat) (rd ra rb : BitVec 5)
  /-- R186: Shifts right logically by a register count. -/
  | srl (i : Nat) (rd ra rb : BitVec 5)
  /-- R186: Shifts right arithmetically by a register count. -/
  | sra (i : Nat) (rd ra rb : BitVec 5)
  /-- R186: Sets 1 if less than, signed. -/
  | slt (i : Nat) (rd ra rb : BitVec 5)
  /-- R186: Sets 1 if less than, unsigned. -/
  | sltu (i : Nat) (rd ra rb : BitVec 5)
  /-- R186: Writes the low 32 bits of a product. -/
  | mul (i : Nat) (rd ra rb : BitVec 5)
  /-- R186: Writes the high 32 bits of a signed product. -/
  | mulh (i : Nat) (rd ra rb : BitVec 5)
  /-- R186: Writes the high 32 bits of an unsigned product. -/
  | mulhu (i : Nat) (rd ra rb : BitVec 5)
  /-- R187: Signed floor division writing quotient and remainder to a pair. -/
  | dvs (i : Nat) (rd ra rb : BitVec 5)
  /-- R187: Unsigned division writing quotient and remainder to a pair. -/
  | dvu (i : Nat) (rd ra rb : BitVec 5)
  /-- R186: Signed minimum of two registers. -/
  | min (i : Nat) (rd ra rb : BitVec 5)
  /-- R186: Signed maximum of two registers. -/
  | max (i : Nat) (rd ra rb : BitVec 5)
  /-- R186: Jumps to a register address and links. -/
  | jalr (i : Nat) (rd ra rb : BitVec 5)
  /-- R179: Reads a system register. -/
  | mfs (i : Nat) (rd ra rb : BitVec 5)
  /-- R179: Writes a system register in system mode. -/
  | mts (i : Nat) (rd ra rb : BitVec 5)
  /-- R210: Returns from a handler, restoring PC, SYS and IE. -/
  | eret (i : Nat) (rd ra rb : BitVec 5)
  /-- R183: Waits until earlier loads return and stores are answered. -/
  | fence (i : Nat) (rd ra rb : BitVec 5)
  /-- R186: Adds a sign-extended immediate. -/
  | addi (i : Nat) (rd ra : BitVec 5) (imm : BitVec 16)
  /-- R186: AND with a zero-extended immediate. -/
  | andi (i : Nat) (rd ra : BitVec 5) (imm : BitVec 16)
  /-- R186: OR with a zero-extended immediate. -/
  | ori (i : Nat) (rd ra : BitVec 5) (imm : BitVec 16)
  /-- R186: XOR with a zero-extended immediate. -/
  | xori (i : Nat) (rd ra : BitVec 5) (imm : BitVec 16)
  /-- R186: Sets 1 if less than a signed immediate. -/
  | slti (i : Nat) (rd ra : BitVec 5) (imm : BitVec 16)
  /-- R186: Sets 1 if less than an immediate, unsigned. -/
  | sltiu (i : Nat) (rd ra : BitVec 5) (imm : BitVec 16)
  /-- R186: Shifts left by an immediate. -/
  | slli (i : Nat) (rd ra : BitVec 5) (imm : BitVec 16)
  /-- R186: Shifts right logically by an immediate. -/
  | srli (i : Nat) (rd ra : BitVec 5) (imm : BitVec 16)
  /-- R186: Shifts right arithmetically by an immediate. -/
  | srai (i : Nat) (rd ra : BitVec 5) (imm : BitVec 16)
  /-- R186: Loads an immediate into the upper half. -/
  | lui (i : Nat) (rd ra : BitVec 5) (imm : BitVec 16)
  /-- R189: Loads a word. -/
  | lw (i : Nat) (rd ra : BitVec 5) (imm : BitVec 16) (bad : Bool)
  /-- R189: Loads a signed halfword. -/
  | lh (i : Nat) (rd ra : BitVec 5) (imm : BitVec 16) (bad : Bool)
  /-- R189: Loads an unsigned halfword. -/
  | lhu (i : Nat) (rd ra : BitVec 5) (imm : BitVec 16) (bad : Bool)
  /-- R189: Loads a signed byte. -/
  | lb (i : Nat) (rd ra : BitVec 5) (imm : BitVec 16) (bad : Bool)
  /-- R189: Loads an unsigned byte. -/
  | lbu (i : Nat) (rd ra : BitVec 5) (imm : BitVec 16) (bad : Bool)
  /-- R189: Stores a word. -/
  | sw (i : Nat) (rd ra : BitVec 5) (imm : BitVec 16)
  /-- R189: Stores a halfword. -/
  | sh (i : Nat) (rd ra : BitVec 5) (imm : BitVec 16)
  /-- R189: Stores a byte. -/
  | sb (i : Nat) (rd ra : BitVec 5) (imm : BitVec 16)
  /-- R189: Loads 8 bytes into a register pair. -/
  | ld (i : Nat) (rd ra : BitVec 5) (imm : BitVec 16) (bad : Bool)
  /-- R189: Stores a register pair as 8 bytes. -/
  | sd (i : Nat) (rd ra : BitVec 5) (imm : BitVec 16)
  /-- R188: Branches if equal. -/
  | beq (i : Nat) (ra rb : BitVec 5) (disp : BitVec 16)
  /-- R188: Branches if not equal. -/
  | bne (i : Nat) (ra rb : BitVec 5) (disp : BitVec 16)
  /-- R188: Branches if less, signed. -/
  | blt (i : Nat) (ra rb : BitVec 5) (disp : BitVec 16)
  /-- R188: Branches if greater or equal, signed. -/
  | bge (i : Nat) (ra rb : BitVec 5) (disp : BitVec 16)
  /-- R188: Branches if less, unsigned. -/
  | bltu (i : Nat) (ra rb : BitVec 5) (disp : BitVec 16)
  /-- R188: Branches if greater or equal, unsigned. -/
  | bgeu (i : Nat) (ra rb : BitVec 5) (disp : BitVec 16)
  /-- R188: Jumps PC-relative and links. -/
  | jal (i : Nat) (rd : BitVec 5) (disp : BitVec 21)
  /-- R192: Posts one actuator event at a cord time through crossing X3. -/
  | atTime (i : Nat) (rt rs : BitVec 5) (imm : BitVec 16)
  /-- R191: Waits until the cord follower reaches a given time. -/
  | waitc (i : Nat) (rt rs : BitVec 5) (imm : BitVec 16)
  /-- R191: A waiting WAITC completes in the first cycle the follower reads its time. -/
  | waitcComplete (i : Nat)
  /-- R194: Waits for a stamped edge of a source within a window, checking stored stamps first. -/
  | wedge (i : Nat) (rt rs : BitVec 5) (imm : BitVec 16)
  /-- R194: A qualifying edge stamp arrives and completes a waiting WEDGE. -/
  | wedgeEdge (src : Nat) (falling : Bool)
  /-- R194: The follower passing the window close by 4 ticks makes WEDGE branch. -/
  | wedgeTimeout (i : Nat)
  /-- R191: Writes the core's cord follower into a pair. -/
  | snap (i : Nat) (rt rs : BitVec 5) (imm : BitVec 16)
  /-- R193: Sets an actuator immediately without cord time. -/
  | emit (i : Nat) (rt rs : BitVec 5) (imm : BitVec 16)
  /-- R196: Copies an entry from local memory into a ring and advances QTAIL. -/
  | rpush (i : Nat) (rt rs : BitVec 5) (imm : BitVec 16)
  /-- R196: Copies the entry at QHEAD into local memory and advances QHEAD. -/
  | rpop (i : Nat) (rt rs : BitVec 5) (imm : BitVec 16)
  /-- R196: A waiting RPUSH or RPOP proceeds when the ring gains room or an entry. -/
  | ringWaitComplete (i : Nat)
  /-- R197: Claims a resource for the core under the claim arbiter. -/
  | claim (i : Nat) (rt rs : BitVec 5) (imm : BitVec 16)
  /-- R197: Frees a resource the core owns. -/
  | free (i : Nat) (rt rs : BitVec 5) (imm : BitVec 16)
  /-- R202: Clears an accumulator and sets its exponent. -/
  | bfclr (i : Nat) (vd va vb : BitVec 4) (g : BitVec 5) (func : BitVec 9)
  /-- R201: Loads a block-floating-point vector from memory. -/
  | bfld (i : Nat) (vd : BitVec 4) (ga : BitVec 5) (n1 : BitVec 3) (off : BitVec 14) (bad : Bool)
  /-- R201: Stores a block-floating-point vector to memory. -/
  | bfst (i : Nat) (vd : BitVec 4) (ga : BitVec 5) (n1 : BitVec 3) (off : BitVec 14)
  /-- R202: Adds or subtracts shifted lane products into an accumulator. -/
  | bfmac (i : Nat) (vd va vb : BitVec 4) (g : BitVec 5) (func : BitVec 9)
  /-- R203: Renormalises an accumulator into a vector. -/
  | bfnorm (i : Nat) (vd va vb : BitVec 4) (g : BitVec 5) (func : BitVec 9)
  /-- R204: Moves vector lanes towards targets by at most a step. -/
  | slew (i : Nat) (vd va vb : BitVec 4) (g : BitVec 5) (func : BitVec 9)
  /-- R205: Selects the lowest lane and writes tracking errors. -/
  | minsel (i : Nat) (vd va vb : BitVec 4) (g : BitVec 5) (func : BitVec 9)
  /-- R206: Looks up and interpolates a table for each lane. -/
  | tbl (i : Nat) (vd va vb : BitVec 4) (g : BitVec 5) (func : BitVec 9) (bad : Bool)
  /-- R189: An error answer to a store raises BUS_ERROR at the next instruction issued. -/
  | storeError (i a : Nat)
  /-- R209: A pending sampling interrupt is taken between instructions and enters VBASE plus 0x40. -/
  | sampleInterrupt (i : Nat)
  /-- R208: TIMEOUT microseconds without WDKICK reset the core with CORE_RESET. -/
  | watchdogExpire (i : Nat)
  /-- R212: The spare takes the failed core's identity and memory and starts from core reset. -/
  | spareMapComplete
  /-- R227: A RUN event starts the catch window of an FOC port in OFF. -/
  | motRun (n : Nat) (dir : Bool)
  /-- R216: A SPEED event sets the port's speed reference. -/
  | motSpeed (n v : Nat)
  /-- R225: A GEAR event starts or ends the gear reference position. -/
  | motGear (n : Nat) (on : Bool)
  /-- R227: A COAST event turns the bridge off and enters OFF. -/
  | motCoast (n : Nat)
  /-- R219: A voltage command is limited and applied from the next period start. -/
  | motVcmd (n v : Nat)
  /-- R217: The 256-sample offset measurement after EN completes, faulting MOT_ISENSE if out of range. -/
  | motOffsetDone (n : Nat) (a b : Int)
  /-- R218: A PWM period start samples, takes commands, advances gear reference and runs RUN checks. -/
  | pwmPeriodStart (n : Nat) (x : MotSample)
  /-- R234: An invalid or skipped Hall code puts the port in FAULT. -/
  | motHall (n code : Nat)
  /-- R234: An index-to-index count off by more than 4 puts the port in FAULT. -/
  | motEnc (n count : Nat)
  /-- R229: At the end of the 20 ms catch window the port syncs, brakes or aligns by the measured speed. -/
  | catchWindowEnd (n : Nat) (vs : List (Int × Int × Int)) (speed : Int) (angle : Nat)
  /-- R228: Back-EMF at or above VBUS during catch puts the port in FAULT at once. -/
  | motOverspeed (n peak : Nat)
  /-- R230: Speed below the catch threshold ends BRAKE and enters ALIGN after one bridge-off period. -/
  | brakeDone (n : Nat) (speed : Int)
  /-- R230: BRAKE not finished within 2 s raises MOT_CATCH. -/
  | motCatch (n : Nat)
  /-- R231: The end of an align dwell checks movement, corrects phase or encoder order, or proceeds. -/
  | alignDwellEnd (n : Nat)
  /-- R231: A phase current below half its expected value 5 ms into a dwell puts the port in FAULT. -/
  | motOpen (n phase cur : Nat)
  /-- R232: No hand-over within RAMPT raises MOT_START. -/
  | motStart (n : Nat)
  /-- R235: A BUSMON port samples VBUS at 1 MHz and drives the chopper. -/
  | busSample (k adc cur : Nat)
  /-- R236: Chopper current wrong for 20 microseconds sets CHOP_BAD and raises a class-B fault. -/
  | busChop (k : Nat)
  /-- R238: VBUS at V_ov2 puts every port on the bus into ASC within 1 microsecond. -/
  | busOv2 (k : Nat)
  /-- R237: VBUS below V_ov1 minus HYST for 10 ms releases a port from ZT to OFF. -/
  | ztExit (n : Nat)
  /-- R239: Low speed and bus voltage release a port from ASC to OFF. -/
  | ascExit (n : Nat) (speed : Int)
  /-- R241: A filtered desaturation input turns all gates off and puts the port in FAULT. -/
  | motDesat (n : Nat)
  /-- R249: A GO event starts the committed stepper move. -/
  | stpGo (k : Nat)
  /-- R249: A STOP event decelerates along the profile and stops. -/
  | stpStop (k : Nat)
  /-- R249: A HALT event ends the step train at once. -/
  | stpHalt (k : Nat)
  /-- R245: Every microsecond the profile generator updates speed and issues microsteps. -/
  | profileUpdate (k : Nat)
  /-- R250: After HOLDT in STAND the coils are held, opened or shorted by CTRL.STAND. -/
  | holdtExpire (k : Nat)
  /-- R250: A write of POS in IDLE or STAND sets the position and enters IDLE. -/
  | posWrite (q : Requester) (k v : Nat)
  /-- R252: A filtered switch edge with ARM set and qualifying direction latches position and stamp. -/
  | latchEdge (k : Nat) (falling : Bool) (stamp : Nat)
  /-- R243: Target current not reached within TONMAX in 16 cycles puts the stepper in FAULT. -/
  | stpOpen (k coil cur : Nat)
  /-- R243: Over-current turns the bridge off and puts the stepper in FAULT. -/
  | stpShort (k coil cur : Nat)
  /-- R257: Every 25,000 ticks HV and fuser ports produce results and run their band and thermistor checks. -/
  | portResult (hv : Vector HvSample 12) (fus : Vector FusSample 2)
  /-- R261: A drive event sets the fuser switching frequency or stops the bridge and restarts the watchdog. -/
  | fusDrive (f v : Nat)
  /-- R263: A capacitive turn-off raises FLOOR and counts; sixteen at FMAX raise FUS_RES. -/
  | fusZvs (f : Nat) (next : Bool)
  /-- R263: Each second FLOOR falls back by 100 Hz towards FMIN. -/
  | floorDecay (f : Nat)
  /-- R264: Resonant current above IPKMAX turns both switches off and faults the port. -/
  | fusOc (f ma : Nat)
  /-- R268: INBAND held 0 for BANDT with sewn folios spoils them 0x08. -/
  | fusBand (f : Nat)
  /-- R269: No drive command for CMDWD in RUN stops the bridge and faults the port. -/
  | fusStale (f : Nat)
  /-- R271: A LEVEL event selects the HV bank and reference in the same tick. -/
  | hvLevel (k v : Nat)
  /-- R271: A DRIVE event sets DC and AC duty from the next carrier period. -/
  | hvDrive (k dc ac : Nat)
  /-- R274: INBAND held 0 for BANDT after SETTLE spoils the station's folios 0x07. -/
  | hvBand (k : Nat)
  /-- R275: Instantaneous current at IARC turns the output off for 1 ms. -/
  | hvArc (k : Nat) (idc : Int)
  /-- R275: After the 1 ms hold the output resumes at zero drive. -/
  | hvArcHoldEnd (k : Nat)
  /-- R275: Low voltage at full duty for 10 ms faults the port. -/
  | hvShort (k : Nat)
  /-- R275: Voltage at full scale for 1 ms faults the port. -/
  | hvOpen (k : Nat)
  /-- R283: A write of SYNn.CTRL.EN starts or stops a station synthesiser. -/
  | synEnable (q : Requester) (n : Nat) (on : Bool)
  /-- R282: Phase error below 100 ps for 1,024 cycles locks a synthesiser and releases its outputs. -/
  | synLocked (n : Nat)
  /-- R294: Loss of lock or reference takes a synthesiser to HOLD with its consequences. -/
  | synLock (n cause : Nat)
  /-- R285: Every 1 ms a station synthesiser remeasures the tick-to-tap offset. -/
  | alignMeasure (n ofs : Nat)
  /-- R285: The offset measurement after lock completes and ALIGN.VALID and VID_OK set. -/
  | alignValid (n ofs : Nat)
  /-- R292: The copy of committed profiles into the idle bank completes and the commit reaches the unit. -/
  | profileCopyDone (n : Nat)
  /-- R289: A write of SYN0.CKOEN starts or stops a board clock at its schedule edge. -/
  | ckoenWrite (v : Nat)
  /-- R300: Every 100 microseconds THM samples all die sensors, checks neighbours and applies levels. -/
  | thmSample (v : Vector Int 32)
  /-- R305: After flush or 2 ms THM holds cores in reset, stops SYN2-5 and puts LPDDR5 in self-refresh. -/
  | thmShutHold
  /-- R306: HOTTEMP below SHUT minus 20 C for 2 s makes THM issue a warm reset. -/
  | thmRestart
  /-- R302: Every 1 ms THM converts each external thermistor and applies its levels. -/
  | txSample (v : Vector Nat 8)
  /-- R303: A pair disagreeing beyond PAIRTOL for 1 s has its lower member declared broken. -/
  | thmPair (p : Nat)
  /-- R307: A power-good input changes level after deglitching. -/
  | pgChange (r : Nat) (good : Bool)
  /-- R313: Flush complete or FAILHOLD elapsed begins the reverse-order release of enables. -/
  | failholdExpire (acks : Nat)
  /-- R313: Each FAILGAP the next enable is released until all are off and PSQ enters FAILED. -/
  | failgapRelease
  /-- R311: PSQ step HALT ends the program. -/
  | halt
  /-- R311: PSQ step EN drives a rail's enable active. -/
  | en (ack : Bool)
  /-- R311: PSQ step DIS releases a rail's enable after any journal flush for DEV rails. -/
  | dis (ack : Bool)
  /-- R311: PSQ step WAIT waits TIME, or completes at once for a rail not in the starting set. -/
  | wait
  /-- R312: PSQ step WAITPG waits for a power-good level to hold for DWELL. -/
  | waitpg
  /-- R311: PSQ step CHECK sets FLAG from a condition. -/
  | check
  /-- R311: PSQ step JMP continues at TARGET. -/
  | jmp
  /-- R311: PSQ step JMPIF continues at TARGET when FLAG equals SENSE. -/
  | jmpif
  /-- R318: PSQ step SYNC waits for the cooperating sequencers to reach the same state. -/
  | sync
  /-- R320: PSQ step MARGIN moves a rail's output by a percentage. -/
  | margin (linear ack : Bool)
  /-- R311: A WAIT step's time elapses and the program continues. -/
  | psqWaitDone
  /-- R312: A WAITPG completes once its input has held its level for DWELL. -/
  | waitpgDone
  /-- R312: A WAITPG timeout or chatter is a rail failure or a PSQ_DISCHARGE. -/
  | waitpgFail
  /-- R318: A SYNC step completes when the line or master signals the state. -/
  | syncDone (line : Bool)
  /-- R318: A SYNC not completed within SYNCTO is a rail failure. -/
  | psqSync
  /-- R315: VIN_SENSE below THRESH for 2 microseconds stops programs, enters the kettle state and flushes. -/
  | psqVin (mv : Nat)
  /-- R315: Flush complete or VINHOLD elapsed releases every enable and enters VINFAIL. -/
  | vinholdExpire
  /-- R315: VIN_SENSE above THRESH plus HYST for 100 ms enters MINOFF and runs WAKE if AUTORESTART. -/
  | vinRecovery (mv : Nat)
  /-- R316: After 50 ms in MINOFF the pending UP or WAKE program starts. -/
  | minoffEnd
  /-- R314: A rising edge on WAKE leaves FAILED, OFF or SLEEP and runs the WAKE program. -/
  | wakeEdge
  /-- R323: The PSQ.WAKE alarm delay expires in SLEEP and wakes the device. -/
  | wakeAlarm
  /-- R317: PSQ.CMD ON requests the UP program. -/
  | on (q : Requester) (v : Nat)
  /-- R317: PSQ.CMD OFF requests the DOWN program. -/
  | off (q : Requester) (v : Nat)
  /-- R310: PSQ.CMD RUNAT starts a program at TARGET in state ON. -/
  | runat (q : Requester) (v : Nat)
  /-- R314: PSQ.CMD CLEAR leaves FAILED for MINOFF where no DEV rail was enabled. -/
  | clear (q : Requester) (v : Nat)
  /-- R322: PSQ.CMD IDLE slows CORE, puts LPDDR5 in self-refresh and permits L1. -/
  | idle (q : Requester) (v : Nat)
  /-- R322: PSQ.CMD RUN, or a host doorbell on Q0 to Q63, returns from IDLE within 100 microseconds. -/
  | run (q : Requester) (v : Nat)
  /-- R323: PSQ.CMD SLEEP stops intake, flushes the journal and runs the SLEEP program. -/
  | sleep (q : Requester) (v : Nat)
  /-- R324: PSQ.CMD SHELF runs SLEEP and stops every AON clock except the wake comparator. -/
  | shelf (q : Requester) (v : Nat)
  /-- R320: PSQ.CMD MARGIN moves a rail's output by PCT over the chosen path. -/
  | psqCmdMargin (q : Requester) (v : Nat) (linear ack : Bool)
  /-- R319: PMBus write PSQ_STATE from the master lets a slave pass SYNC n. -/
  | psqState (n : Nat) (ack : Bool)
  /-- R319: PMBus read PSQ_REACHED returns a slave's SYNC state and FAILED and ON flags. -/
  | psqReached (k : Nat) (w : Option Nat)
  /-- R319: PMBus write PSQ_REQUEST from the master requests ON or OFF in a slave. -/
  | psqRequest (code : Nat) (ack : Bool)
  /-- R319: The master polls slaves every 100 microseconds at SYNC and every 1 ms in ON. -/
  | pmbusPoll (ws : Vector (Option Nat) 8)
  /-- R326: CKUn.CTRL.START sets the running register to INIT. -/
  | start (n : Nat)
  /-- R328: A write to CKUn.DIN32 processes four bytes. -/
  | din32 (q : Requester) (n v : Nat)
  /-- R328: A write to CKUn.DIN8 processes one byte. -/
  | din8 (q : Requester) (n v : Nat)
  /-- R327: A write of CKUn.CFG with non-zero PRESET loads every parameter in one write. -/
  | ckuCfgWrite (q : Requester) (n v : Nat)
  /-- R334: A unit's fault event is recorded or merged in the history with its stamp and acted on by class. -/
  | faultEvent (source code detail : Nat) (cls : Cls) (reason : Nat) (folios : List (Nat × Nat))
  /-- R335: An unacknowledged class-B record at its deadline is ESCALATED and enters the kettle state. -/
  | classbDeadline (k : Nat)
  /-- R337: A write to FCL.ACK ends a record's outstanding state when INDEX and SEQ match. -/
  | fclAck (index seq : Nat)
  /-- R340: A write of FCL.FORCEk raises a forced fault on the named source. -/
  | fclForce (q : Requester) (k v : Nat)
  /-- R339: A write to FCL.RINGCFG enables or moves fault posting, refused unless the ring is enabled for FCL. -/
  | ringcfgWrite (q : Requester) (v : Nat)
  /-- R341: An ECC error or copy disagreement in FCL retires a copy or raises class C. -/
  | fclSelf (copy : Nat)
  /-- R345: A keyed LEAVE to FCL.KCMD leaves the kettle state when every condition holds. -/
  | leave (key : Nat)
  /-- R347: GATH requests a journal record, which is numbered and queued. -/
  | jrnRecordRequest (type stream try_ : Nat) (stranded operator : Bool) (fsn stamp aux : Nat)
  /-- R347: A record's mirror and FRAM writes and read-back complete and the commit is confirmed. -/
  | jrnCommitComplete (b : ReadBack)
  /-- R363: An uncorrectable retention SRAM error takes the mirror out of service. -/
  | jrnMirror
  /-- R353: All records queued at flush start and its SPOILED records are committed and FLUSHED sets. -/
  | flushComplete
  /-- R349: JRN.CMD FLUSH writes a header in OPEN. -/
  | flush (q : Requester)
  /-- R357: JRN.CMD INIT writes fresh headers at epoch 1 and resets stream registers. -/
  | init (q : Requester)
  /-- R361: JRN.CMD RELEASE opens a sealed journal with fresh headers. -/
  | release (q : Requester)
  /-- R354: At boot step 10 JRN probes FRAM, reads headers and records and classes each folio. -/
  | journalReplay (present : Bool)
  /-- R355: Replay ends, JRN.EPOCH increments, stream registers are set and units latch the epoch. -/
  | replayComplete
  /-- R356: The next reconciliation report entry is posted on Q24 and Q25 as ring space allows. -/
  | reportPost
  /-- R348: A write of JRN.RIDX starts a fetch of one journal slot into RDATA. -/
  | ridxWrite (q : Requester) (v : Nat)
  /-- R348: The slot fetch completes and DONE sets. -/
  | ridxFetchDone
  /-- R370: OTP reads every word at three references into shadows, flagging marginal words. -/
  | otpArrayRead (marg : List (Nat × Nat)) (corr : Nat) (bad : List Nat)
  /-- R374: A 30 C move of HOTTEMP starts a background rescan of the array. -/
  | otpScrub
  /-- R374: A scrub completes, recording drifted words and raising OTP_DRIFT. -/
  | otpScrubDone (drift : List Nat)
  /-- R375: OTP.PCMD PROGRAM burns a word after region, state, blank and window checks. -/
  | program (q : Requester) (key votp : Nat)
  /-- R379: OTP.PCMD LOCK burns a region's digest and lock bit. -/
  | lock (q : Requester) (key region votp : Nat)
  /-- R377: OTP.PCMD REPAIR moves a word's row to a spare. -/
  | repair (q : Requester) (key votp : Nat)
  /-- R376: A burn finishes, is read at three references and repaired to a spare if needed. -/
  | otpBurnDone (good spareGood : Bool)
  /-- R377: Loss of the programming window during a burn stops after the current bit. -/
  | otpWindow (votp : Nat)
  /-- R387: LCS.LCCMD NONCE draws a 128-bit nonce. -/
  | nonce (q : Requester) (key : Nat)
  /-- R384: LCS.LCCMD ENTER_MAKER burns L0 bit 0 and issues a warm reset. -/
  | enterMaker (q : Requester) (key votp : Nat)
  /-- R384: LCS.LCCMD ENTER_FIELD burns L0 bit 1 once the regions are locked. -/
  | enterField (q : Requester) (key votp : Nat)
  /-- R385: LCS.LCCMD CONSENT burns the consent bit for the next return. -/
  | consent (q : Requester) (key votp : Nat)
  /-- R387: LCS.LCCMD TOKEN checks a signed token and performs its return, refield or scrap transition. -/
  | token (q : Requester) (key votp : Nat)
  /-- R384: LCS.LCCMD SCRAP kills all customer keys and scraps a MAKER device. -/
  | scrap (q : Requester) (key votp : Nat)
  /-- R389: Setting HYWn.CTRL.EN starts the port in ABSENT, refused unless the pad is owned. -/
  | hywEnable (q : Requester) (n : Nat) (on : Bool)
  /-- R389: A 100 ms timer sends a break and listens for an announce. -/
  | hywBreak (n : Nat)
  /-- R389: A consumable's announce byte arrives after a break. -/
  | hywAnnounce (n byte : Nat) (stop : Bool)
  /-- R389: No announce within 200 microseconds of the break release. -/
  | hywAnnounceTimeout (n : Nat)
  /-- R391: The port requests IDENT to read identity, type, rating and life. -/
  | ident (n : Nat)
  /-- R393: The port sends a challenge and checks the returned MAC. -/
  | auth (n : Nat)
  /-- R396: The port sends a queued ADD of INC with EXPECT. -/
  | hywAdd (n : Nat)
  /-- R391: The port reads LIFE every 100 ms in OK, LOW and EOL. -/
  | read (n : Nat)
  /-- R390: A response frame arrives and is checked and acted on. -/
  | hywResponse (n : Nat) (bs : List Nat)
  /-- R390: No response within 2 ms repeats the request or ends it as failed. -/
  | hywResponseTimeout (n : Nat)
  /-- R396: A write to HYWn.METER queues an ADD. -/
  | meter (q : Requester) (n v : Nat)
  /-- R394: A write of REAUTH = 1 requests AUTH at the next request slot. -/
  | reauth (q : Requester) (n : Nat)
  /-- R399: A stuck-low or not-falling line enters LINEFAULT. -/
  | hywLine (n detail : Nat)
  /-- R394: Every 1 s in LINEFAULT the line is tested and returns to ABSENT when normal. -/
  | lineTest (n : Nat) (normal : Bool)
  /-- R400: Every 1 ms LCS counts each domain's ring oscillator over 4,000 ticks. -/
  | roscCount (v : Vector Nat 7)
  /-- R406: An endpoint write of OBS.HOSTEN sets the host enable, clearing observation state when cleared in FIELD. -/
  | hostenWrite (q : Requester) (v : Nat)
  /-- R408: A write of OBS.CTRL.RUN starts or stops every enabled counter together. -/
  | obsRunWrite (q : Requester) (run : Bool)
  /-- R411: A counter wrapping sets OVF and, with SAMPLE, records PC and a pending interrupt. -/
  | counterWrap (k : Nat)
  /-- R413: At each window edge the bandwidth results are updated. -/
  | bwWindowEdge
  /-- R417: A trace record enters the FIFO or is dropped and counted. -/
  | traceRecord (stamp origin code aux type data : Nat)
  /-- R418: A record leaves the FIFO to P-TRC or the page-store buffer. -/
  | traceOut (err : Bool)
  /-- R415: A write to OBS.MARK produces a MARK trace record. -/
  | mark (q : Requester) (v : Nat)
  /-- R430: An owner's write to PMX.PADCFGi sets pad function and electrical settings. -/
  | padcfgWrite (q : Requester) (i v : Nat)
  /-- R441: A write of PMX.SNSWIRE changes only the bits of pads the writer owns. -/
  | snswireWrite (q : Requester) (v : Nat)
  /-- R442: An input outside its windows for 1 ms is FAULTY and raises a class-A fault. -/
  | snsWire (k : Nat)
  /-- R441: An input between the windows for 100 ms clears its FAULTY bit. -/
  | snsWireClear (k : Nat)
  /-- R333: A PCIe link of P-HOSTn goes down and the endpoint raises the class-A fault LINK_DOWN. -/
  | linkDown (n : Nat)
  /-- R333: An LPDDR5 channel fails in service and P-MEMn raises the class-C fault MEM_CHAN, entering the kettle state. -/
  | memChan (n : Nat)
  /-- R25: A write to ring memory stores 4 or 8 aligned bytes of a ring entry, or is discarded with a class-A fault at any other width. -/
  | ringMemoryWrite (q : Requester) (a w v : Nat)
  /-- R10: A read of a control register of the wrong width or alignment returns zero and raises a class-A fault. -/
  | registerRead (q : Requester) (a w : Nat)
  deriving DecidableEq, Repr

end Sys2Proof
end

