-- ==== Sys2Proof/Decode.lean ====
section
/-! DEFINITION. What words spell: by the bits of spec/opcode_table.json, which gives no row any bits, none; by the opcode map of the Gotum cores (R184, R186),
the commands that are core instructions. -/

namespace Sys2Proof

/-- The command that a word spells by the table's bits: none, since no row of the table has bits. -/
def decodeTableWord (_nbits _w : Nat) : Option Instr := none

/-! ### Gotum instruction words (R184, R186) -/

/-- The fields [25:21], [20:16], [15:11] and [10:0] of formats A, B, C and T, with [15:0] and [20:0]. -/
def gF1 (w : BitVec 32) : BitVec 5 := w.extractLsb' 21 5
def gF2 (w : BitVec 32) : BitVec 5 := w.extractLsb' 16 5
def gF3 (w : BitVec 32) : BitVec 5 := w.extractLsb' 11 5
def gFunc (w : BitVec 32) : BitVec 11 := w.extractLsb' 0 11
def gImm (w : BitVec 32) : BitVec 16 := w.extractLsb' 0 16
def gDisp (w : BitVec 32) : BitVec 21 := w.extractLsb' 0 21

/-- The fields of format V: [25:22], [21:18], [17:14], [13:9] and [8:0]; in memory form ga in [21:17], n - 1 in [16:14] and the offset in [13:0]. -/
def gVd (w : BitVec 32) : BitVec 4 := w.extractLsb' 22 4
def gVa (w : BitVec 32) : BitVec 4 := w.extractLsb' 18 4
def gVb (w : BitVec 32) : BitVec 4 := w.extractLsb' 14 4
def gG (w : BitVec 32) : BitVec 5 := w.extractLsb' 9 5
def gVfunc (w : BitVec 32) : BitVec 9 := w.extractLsb' 0 9
def gGa (w : BitVec 32) : BitVec 5 := w.extractLsb' 17 5
def gN1 (w : BitVec 32) : BitVec 3 := w.extractLsb' 14 3
def gOff (w : BitVec 32) : BitVec 14 := w.extractLsb' 0 14

/-- The instruction that core i reads in a word of opcode 0x00, by its func; none where func is reserved (R186). -/
def decodeA (i : Nat) (w : BitVec 32) : Option Instr :=
  let rd := gF1 w
  let ra := gF2 w
  let rb := gF3 w
  match (gFunc w).toNat with
  | 0x000 => some (.add i rd ra rb)
  | 0x001 => some (.sub i rd ra rb)
  | 0x002 => some (.and i rd ra rb)
  | 0x003 => some (.or i rd ra rb)
  | 0x004 => some (.xor i rd ra rb)
  | 0x005 => some (.sll i rd ra rb)
  | 0x006 => some (.srl i rd ra rb)
  | 0x007 => some (.sra i rd ra rb)
  | 0x008 => some (.slt i rd ra rb)
  | 0x009 => some (.sltu i rd ra rb)
  | 0x00A => some (.mul i rd ra rb)
  | 0x00B => some (.mulh i rd ra rb)
  | 0x00C => some (.mulhu i rd ra rb)
  | 0x00D => some (.dvs i rd ra rb)
  | 0x00E => some (.dvu i rd ra rb)
  | 0x011 => some (.min i rd ra rb)
  | 0x012 => some (.max i rd ra rb)
  | 0x013 => some (.jalr i rd ra rb)
  | 0x020 => some (.mfs i rd ra rb)
  | 0x021 => some (.mts i rd ra rb)
  | 0x022 => some (.eret i rd ra rb)
  | 0x023 => some (.fence i rd ra rb)
  | _ => none

/-- The instruction that core i reads in a word (R184, R186); none where the opcode or func is reserved.  A field that an instruction does not use is judged
by its meaning (R185); whether a load's data is uncorrectable is no part of its word. -/
def decodeGotum (i : Nat) (w : BitVec 32) : Option Instr :=
  match w.toNat / 2 ^ 26 with
  | 0x00 => decodeA i w
  | 0x01 => some (.addi i (gF1 w) (gF2 w) (gImm w))
  | 0x02 => some (.andi i (gF1 w) (gF2 w) (gImm w))
  | 0x03 => some (.ori i (gF1 w) (gF2 w) (gImm w))
  | 0x04 => some (.xori i (gF1 w) (gF2 w) (gImm w))
  | 0x05 => some (.slti i (gF1 w) (gF2 w) (gImm w))
  | 0x06 => some (.sltiu i (gF1 w) (gF2 w) (gImm w))
  | 0x07 => some (.slli i (gF1 w) (gF2 w) (gImm w))
  | 0x08 => some (.srli i (gF1 w) (gF2 w) (gImm w))
  | 0x09 => some (.srai i (gF1 w) (gF2 w) (gImm w))
  | 0x0A => some (.lui i (gF1 w) (gF2 w) (gImm w))
  | 0x10 => some (.lw i (gF1 w) (gF2 w) (gImm w) false)
  | 0x11 => some (.lh i (gF1 w) (gF2 w) (gImm w) false)
  | 0x12 => some (.lhu i (gF1 w) (gF2 w) (gImm w) false)
  | 0x13 => some (.lb i (gF1 w) (gF2 w) (gImm w) false)
  | 0x14 => some (.lbu i (gF1 w) (gF2 w) (gImm w) false)
  | 0x18 => some (.sw i (gF1 w) (gF2 w) (gImm w))
  | 0x19 => some (.sh i (gF1 w) (gF2 w) (gImm w))
  | 0x1A => some (.sb i (gF1 w) (gF2 w) (gImm w))
  | 0x1B => some (.ld i (gF1 w) (gF2 w) (gImm w) false)
  | 0x1C => some (.sd i (gF1 w) (gF2 w) (gImm w))
  | 0x20 => some (.beq i (gF1 w) (gF2 w) (gImm w))
  | 0x21 => some (.bne i (gF1 w) (gF2 w) (gImm w))
  | 0x22 => some (.blt i (gF1 w) (gF2 w) (gImm w))
  | 0x23 => some (.bge i (gF1 w) (gF2 w) (gImm w))
  | 0x24 => some (.bltu i (gF1 w) (gF2 w) (gImm w))
  | 0x25 => some (.bgeu i (gF1 w) (gF2 w) (gImm w))
  | 0x26 => some (.jal i (gF1 w) (gDisp w))
  | 0x28 => some (.bfclr i (gVd w) (gVa w) (gVb w) (gG w) (gVfunc w))
  | 0x30 => some (.atTime i (gF1 w) (gF2 w) (gImm w))
  | 0x31 => some (.waitc i (gF1 w) (gF2 w) (gImm w))
  | 0x32 => some (.wedge i (gF1 w) (gF2 w) (gImm w))
  | 0x33 => some (.snap i (gF1 w) (gF2 w) (gImm w))
  | 0x34 => some (.emit i (gF1 w) (gF2 w) (gImm w))
  | 0x35 => some (.rpush i (gF1 w) (gF2 w) (gImm w))
  | 0x36 => some (.rpop i (gF1 w) (gF2 w) (gImm w))
  | 0x37 => some (.claim i (gF1 w) (gF2 w) (gImm w))
  | 0x38 => some (.free i (gF1 w) (gF2 w) (gImm w))
  | 0x39 => some (.bfld i (gVd w) (gGa w) (gN1 w) (gOff w) false)
  | 0x3A => some (.bfst i (gVd w) (gGa w) (gN1 w) (gOff w))
  | 0x3B => some (.bfmac i (gVd w) (gVa w) (gVb w) (gG w) (gVfunc w))
  | 0x3C => some (.bfnorm i (gVd w) (gVa w) (gVb w) (gG w) (gVfunc w))
  | 0x3D => some (.slew i (gVd w) (gVa w) (gVb w) (gG w) (gVfunc w))
  | 0x3E => some (.minsel i (gVd w) (gVa w) (gVb w) (gG w) (gVfunc w))
  | 0x3F => some (.tbl i (gVd w) (gVa w) (gVb w) (gG w) (gVfunc w) false)
  | _ => none

end Sys2Proof
end

