-- ==== Sys2Proof/Config.lean ====
section
/-! DEFINITION. What an implementation fixes and the spec leaves open: the free values.  Each is an opaque constant with no body, so
nothing in Lean can evaluate it or prove a value of it; a meaning applies it to the operands the open value depends on, or to the
free-value counter of State (log 1). -/

namespace Sys2Proof.Config

/-- A fresh 32-bit value the spec does not state, drawn with State's free-value counter (R387, R393; log 1). -/
opaque freeValue : Nat → BitVec 32

/-- Whether an ECDSA P-256 signature (r, s) by public key (x, y) verifies over a digest; the spec names the algorithm and does not
restate it (R42, R386; log 9). -/
opaque ecdsaP256Verify : (x y digest r s : Nat) → Bool

/-- The SHA-256 digest of the Nymzil key that is fixed in ROM (R44), as a big-endian integer; the spec does not state it (log 9). -/
opaque romKeyDigest : Nat

/-- The boot image that the bytes of a memory, by offset, spell; the spec does not give the layout of an image (R42, R43, log 9). -/
opaque bootImage : List (Nat × BitVec 8) → Option BootImage

/-- A converted analogue or transformed value whose rounding the spec does not state, from a tag that names the conversion and its
inputs (log 2). -/
opaque convert : (tag : Nat) → List Int → Int

/-- Whether a quotient num / den that is not whole is rounded up or down, from a tag that names what is computed; the spec states no rounding there
(log 2). -/
opaque roundUp : (tag : Nat) → (num : Int) → (den : Nat) → Bool

end Sys2Proof.Config
end

