-- ==== Sys2Proof/Machine/State.lean ====
section
/-! DEFINITION. The machine's state, as plain data: every register of the maps (regs), the memories, and what the spec gives each
unit beyond its registers; and State.reset, the machine right after power-on reset (R38). -/

namespace Sys2Proof.Machine

/-- The owner of a claimed resource as R31 shows it: owner tag and the OCORE field.  Tag 0 is no owner. -/
structure Owner where
  tag : Nat := 0
  idx : Nat := 0
  deriving DecidableEq, Repr, Inhabited

/-- One entry of the fault history (R334 to R338). -/
structure HistRec where
  valid : Bool := false
  outstanding : Bool := false
  escalated : Bool := false
  secondary : Bool := false
  forced : Bool := false
  cls : Cls := .a
  stamp : Nat := 0
  source : Nat := 0
  code : Nat := 0
  detail : Nat := 0
  fsnv : Bool := false
  stream : Nat := 0
  fsn : Nat := 0
  epoch : Nat := 0
  repeats : Nat := 0
  seq : Nat := 0
  deadline : Nat := 0
  reason : Nat := 1
  deriving DecidableEq, Repr, Inhabited

/-- A cause of entry into the kettle state seen in the present command: source, code and spoil reason (R336, R343). -/
structure KettleCause where
  source : Nat
  code : Nat
  reason : Nat
  deriving DecidableEq, Repr

/-- The fault collector beyond its registers: the history, a kettle entry that the present command has caused and its end carries
out (R335, R343), the tick of the last entry (R334), whether an EPOCH_MARK is due (R339), the pads KPADk has driven with their levels (R432), and the copies retired
(R341). -/
structure Fcl where
  hist : Vector HistRec 16 := Vector.replicate 16 {}
  due : Option KettleCause := none
  enteredAt : Option Nat := none
  markDue : Bool := false
  kpadHeld : List (Nat × Nat) := []
  retiredA : Bool := false
  retiredB : Bool := false
  deriving DecidableEq, Repr

/-- A journal record (R346); its COMMIT byte and CRC are computed when it is written.  compl is the KIND of the completion that belongs
to the same transition and is posted after the commit (R56, R60), 0 for none. -/
structure JRec where
  seq : Nat := 0
  type : Nat := 0
  stream : Nat := 0
  try_ : Nat := 0
  stranded : Bool := false
  operator : Bool := false
  fsn : Nat := 0
  epoch : Nat := 0
  stamp : Nat := 0
  aux : Nat := 0
  compl : Nat := 0
  deriving DecidableEq, Repr, Inhabited

/-- One 16-byte entry of the reconciliation report (R356), without its INDEX. -/
structure RepEntry where
  a : Nat
  b : Nat
  kind : Nat
  stream : Nat
  flags : Nat
  deriving DecidableEq, Repr

/-- What a replay found and has still to put into force (R354, R355): the header's epoch, sealing, SDEL and VALID per stream, whether the header came
from FRAM, and whether the journal is blank and whether it is made afresh (R357). -/
structure Found where
  epoch : Nat
  sealed : Bool
  sealEpoch : Nat
  sdel : List Nat
  valid : List Nat
  framUsed : Bool
  blank : Bool
  fresh : Bool
  deriving DecidableEq, Repr

/-- The journal beyond its registers and stored bytes: queued requests in order (R347), the requests that wait in GATH for an entry,
the committed records from TAILSEQ on (R350), whether the commit at the front has been retried, the flush in progress (R353), a replay
that has found the journal and is not complete (R354), the report with how much of it stands on Q24 and Q25 and whether that is all
(R356), a fetch in progress (R348), and the cord time at which the last replay ended (R40). -/
structure Jrn where
  queue : List JRec := []
  waiting : List JRec := []
  live : List JRec := []
  retried : Bool := false
  flushLeft : Option Nat := none
  found : Option Found := none
  report : List RepEntry := []
  posted24 : Nat := 0
  posted25 : Nat := 0
  endPosted : Bool := false
  fetching : Option Nat := none
  endAt : Option Nat := none
  deriving DecidableEq, Repr

/-- A folio descriptor's fields (R49). -/
structure Desc where
  fsn : Nat := 0
  stream : Nat := 0
  media : Nat := 0
  duplex : Bool := false
  web : Bool := false
  src : Nat := 0
  format : Nat := 0
  lastInSig : Bool := false
  stations : Nat := 0
  sig : Nat := 0
  outbin : Nat := 0
  length : Nat := 0
  coverR : Nat := 0
  coverV : Nat := 0
  rectoRef : Nat := 0
  versoRef : Nat := 0
  rectoCrc : Nat := 0
  versoCrc : Nat := 0
  deriving DecidableEq, Repr, Inhabited

/-- The states of a folio (R59). -/
inductive FolioState where
  | ingest | accepted | admitted | held | sewn | rectoDone | versoDone
  | delivered | spoiled | stranded | exhausted | refused | aborted
  deriving DecidableEq, Repr, Inhabited

/-- A sewing point GATH has fixed (R69): t_s, the process speed it was computed with, T_est of the pace station then (R105), and
how far its SEWN record has come. -/
structure Sewing where
  ts : Nat
  speed : Nat
  tEst : Nat
  confirmed : Bool := false
  deriving DecidableEq, Repr

/-- The scheduled events of a folio's path (R71); k is a station, verso tells the side. -/
inductive PathEvent where
  | release
  | stroke (k : Nat) (verso : Bool)
  | lastStroke (k : Nat) (verso : Bool)
  | bias (k : Nat) (verso : Bool)
  | transferOn (k : Nat) (verso : Bool)
  | transferOff (k : Nat) (verso : Bool)
  | fuserNip (verso : Bool)
  | duplexGate
  | reversal
  | diverterToBin
  | diverterBack
  deriving DecidableEq, Repr

/-- A folio the device holds (R59), with its costs (R64), attempts (R79), the tick in which it was spoiled (R74) and its progress through the path. -/
structure Folio where
  desc : Desc := {}
  st : FolioState := .ingest
  costF : Nat := 0
  costS : Nat := 0
  sewings : Nat := 0
  attempts : Nat := 0
  chosenAt : Nat := 0
  reason : Nat := 0
  spoiledAt : Option Nat := none
  armed : List (PathEvent × Nat) := []
  sewing : Option Sewing := none
  arrival : Option Nat := none
  rectoDone : Nat := 0
  versoDone : Nat := 0
  regSeen : Nat := 0
  leadSeen : Bool := false
  trailSeen : Bool := false
  jam : Bool := false
  exitOk : Bool := false
  sideOk : Nat := 0
  crcR : Nat := 0
  crcV : Nat := 0
  stored : Bool := false
  abortAfter : Bool := false
  late : Nat := 0
  deriving DecidableEq, Repr, Inhabited

/-- A completion record before it is posted (R56). -/
structure Compl where
  fsn : Nat
  kind : Nat
  try_ : Nat
  reason : Nat
  stranded : Bool
  operator : Bool
  bin : Nat
  stamp : Nat
  deriving DecidableEq, Repr

/-- A stream beyond its registers: held completion records and pending marks (R58), records of transitions without a journal record that
wait for earlier transitions' commits, with how many (R58), pass-overs and when it became mandatory (R62),
FSNs that await resubmission and those of them that were in flight (R87), the FSNs a replay found stranded with the reasons their records
give (R81), the TRY of the last record of each FSN a replay found open (R56), the last FSN whose account is closed (R87), and whether the
stream has had a record (R349). -/
structure Stream where
  held : List Compl := []
  marks : List Compl := []
  deferred : List (Nat × Compl) := []
  passes : Nat := 0
  mandatory : Option Nat := none
  awaiting : List Nat := []
  inFlight : List Nat := []
  stranded : List (Nat × Option Nat) := []
  tries : List (Nat × Nat) := []
  closed : Option Nat := none
  recorded : Bool := false
  deriving DecidableEq, Repr, Inhabited

/-- A waste sheet that runs to the purge bin (R61): the path slot it holds, and the events armed for it. -/
structure Waste where
  start : Nat
  stop : Nat
  armed : List (PathEvent × Nat)
  deriving DecidableEq, Repr

/-- GATH beyond its registers: the folios, streams, the stream chosen last and the choice in hand (R62), the open signature (R48),
the path run (R80), waste sheets that wait, by length in
0.1 mm, and those that run (R61), the folios whose sheets had reached the diverter when the device was reset (R88), the web (R85), the bucket
contents in microjoules and when they were updated last (R63). -/
structure Gath where
  folios : List Folio := []
  streams : Vector Stream 8 := Vector.replicate 8 {}
  lastChosen : Nat := 7
  choices : Nat := 0
  sigOpen : Option (Nat × Nat) := none
  runPending : Bool := false
  runUntil : Option Nat := none
  waste : List Nat := []
  wasteRuns : List Waste := []
  pastGate : List (Nat × Nat) := []
  webStopped : Bool := false
  webMark : Option Nat := none
  webRestartAt : Nat := 0
  fuserUj : Nat := 0
  siteUj : Nat := 0
  bucketAt : Nat := 0
  deriving DecidableEq, Repr

/-- An event in an actuator's queue (R21): its cord time, kind and value (R192), and the folio it serves when GATH armed it. -/
structure ActEvent where
  t : Nat
  kind : Nat
  value : Nat
  folio : Option (Nat × Nat) := none
  deriving DecidableEq, Repr

/-- A station beyond its registers (R106 to R134).  Times are in 1/64 tick.  The turn in hand: its outbound edge, whether that edge or its
window's end has come, whether the stroke after it misses beam detect (R110), and its end; the last turn point of each end, the last crossing
interval, rho, the last stroke start, the amplitude accumulator in 1/64 of the unit of R111; the counts of R112; whether the loops have still to run
in this half-cycle (R111), and whether the ramp has still to restart after the last turn (R115); PHASE as slewed to (R103); centre and width of the
drive pulse (R111); the side being imaged (stream, FSN, verso, strokes left); whether the stroke in hand is lit; the calibration run, and whether the
stroke in hand belongs to it; the thermal cause of LASER_DIS; the lanes held off, or to be held off from the end of the stroke (R127); the T_est
with which K was loaded, the offsets of the stroke's lines (R123), the buffer it reads, the pulses of the stroke in hand as lane and rising and
falling edge in taps of 25 ps (R121 to R124, R291); where the turnaround's APC slots count from, how many are over, and whether its frames are sent
(R125, R126, R134); the last frame of each lane and the TEST code last sent to it (R126, R276). -/
structure Str where
  outEdge : Option Nat := none
  turning : Bool := false
  missed : Bool := false
  farEnd : Bool := false
  turnA : Option Nat := none
  turnB : Option Nat := none
  interval : Nat := 0
  rho : Nat := 0
  strokeStart : Nat := 0
  acc : Int := 0
  pairs : Nat := 0
  clean : Nat := 0
  ampBad : Nat := 0
  phBad : Nat := 0
  pull : Nat := 0
  since : Nat := 0
  ampDue : Bool := false
  rampDue : Bool := false
  slew : Nat := 0
  drive : Option (Nat × Nat) := none
  side : Option (Nat × Nat × Bool × Nat) := none
  lit : Bool := false
  calAt : Option Nat := none
  calLeft : Nat := 0
  calIndex : Nat := 0
  calOn : Bool := false
  thermal : Bool := false
  lanesOff : Bool := false
  offDue : Bool := false
  profBad : Bool := false
  speedHigh : Bool := false
  rampT : Nat := 0
  lineOfs : List Int := []
  buffer : Option Nat := none
  pulses : List (Nat × Nat × Nat) := []
  apcFrom : Option Nat := none
  apcDone : Nat := 0
  framed : Bool := false
  frames : List (Nat × Nat) := []
  test : List (Nat × Nat) := []
  deriving DecidableEq, Repr, Inhabited

/-- A committed shadow set whose copy is pending (R35): the cord time of GO, and when the COMMIT reached the unit. -/
structure Commit where
  set : ShadowSet
  go : Nat
  reach : Option Nat
  deriving DecidableEq, Repr

/-- A chirp profile as a segment bank holds it: F0, FREF and the 64-bit segments (R116, R292). -/
structure Prof where
  f0 : Nat := 0
  fref : Nat := 0
  segs : List Nat := []
  deriving DecidableEq, Repr, Inhabited

/-- A span of a board clock's output (R288, R289), in 125 ps since cord time 0: from a rising edge to an end (none: it runs on), and the period. -/
structure CkoSpan where
  start : Nat
  stop : Option Nat := none
  period : Nat
  deriving DecidableEq, Repr, Inhabited

/-- A synthesiser beyond its registers: the four profile halves of its two banks (R292), a copy in progress, the measured offset that waits
for the next restart (R285), whether the pixel clock runs (R290) and when it started in 1/64 tick, for SYN1 when the page store is
usable again (R295), and for SYN0 the schedule of the board clocks: the tick of the update
event (R288), and the spans of each clock's output. -/
structure Syn where
  restart : Nat := 0
  readyAt : Nat := 0
  fore0 : Prof := {}
  back0 : Prof := {}
  fore1 : Prof := {}
  back1 : Prof := {}
  copying : Bool := false
  nextOfs : Option Nat := none
  pixelClock : Bool := false
  schedule : Nat := 0
  cko0 : List CkoSpan := []
  cko1 : List CkoSpan := []
  deriving DecidableEq, Repr, Inhabited

/-- The states of a slot that is not EMPTY (R169); a slot is FILLING while its stroke waits for lines of a further block. -/
inductive SlotSt where
  | filling
  | verified
  | bad
  | blank
  deriving DecidableEq, Repr, Inhabited

/-- A slot that is not EMPTY: its state, its address, and the side it belongs to (stream, FSN, verso). -/
structure Slot where
  st : SlotSt := .verified
  addr : Nat := 0
  side : Nat × Nat × Bool := (0, 0, false)
  deriving DecidableEq, Repr, Inhabited

/-- The quire ring of a station: the slots not EMPTY, in the order in which they are read, and the index of the slot filled next. -/
structure Quire where
  slots : List Slot := []
  next : Nat := 0
  deriving DecidableEq, Repr, Inhabited

/-- Slots VERIFIED from the next stroke on. -/
def aheadOf : List Slot → Nat
  | x :: t => if x.st == .verified then aheadOf t + 1 else 0
  | [] => 0

/-- A job of a decompressor (R170): its locator base, NB, strokes, side, the next block and stroke, the decoded lines not yet placed (none where
the block failed), and whether its folio is spoiled (R173). -/
structure Job where
  loc : Nat
  nb : Nat
  strokes : Nat
  side : Nat × Nat × Bool
  block : Nat := 0
  stroke : Nat := 0
  lines : List (Option (List Nat)) := []
  dead : Bool := false
  deriving DecidableEq, Repr

/-- An ING context beyond its registers (R150 to R156): the FSN it serves, the PITCH of each plane as its plane table gave it (R148), the plane and line it receives, the
lines of the block in hand, the bytes of the block stream in hand with their number, staged and finished blocks with station
position and block index, the endbands (CRC, LENGTH) by place, blocks stored, the run (first page, pages, 64-byte units used) and
since when it waits for one. -/
structure Ctx where
  fsn : Option Nat := none
  pitch : List Nat := []
  plane : Nat := 0
  line : Nat := 0
  rows : List (List Nat) := []
  chunk : List Nat := []
  chunkAt : Nat := 0
  staged : List (Nat × Nat × List Nat) := []
  finished : List (Nat × Nat × List Nat) := []
  bands : List (Nat × Nat × Nat) := []
  stored : Nat := 0
  run : Option (Nat × Nat × Nat) := none
  waitSince : Option Nat := none
  deriving DecidableEq, Repr, Inhabited

/-- A compressor's output buffers (R152): context, station position, block index, whether stored raw, the stored block. -/
structure Cmp where
  out : List (Nat × Nat × Nat × Bool × List Nat) := []
  deriving DecidableEq, Repr, Inhabited

/-- A transfer in progress on a DMA channel (R157, R163): TAG, CMPL, the ING context it feeds, the address spaces, source, row length, row
stride in bytes and number of rows, destination, and whether STOP is to end it.  Its bytes move when it ends (log 48). -/
structure Xfer where
  tag : Nat
  cmpl : Bool
  ctx : Option Nat
  sspace : Nat
  dspace : Nat
  src : Nat
  len : Nat
  pitch : Nat
  rows : Nat
  dst : Nat
  stop : Bool := false
  deriving DecidableEq, Repr, Inhabited

/-- A DMA channel beyond its registers: the transfer in progress, since when it waits for OWN (R158), and a completion it holds (R164). -/
structure Dma where
  xfer : Option Xfer := none
  waitSince : Option Nat := none
  ready : Option (List Nat) := none
  deriving DecidableEq, Repr, Inhabited

/-- A vector register (R199): eight mantissas as 16-bit patterns and the 6-bit exponent. -/
structure VReg where
  m : Vector (BitVec 16) 8 := Vector.replicate 8 0
  e : BitVec 6 := 0
  deriving DecidableEq, Repr, Inhabited

/-- An accumulator (R199): eight lanes as 40-bit patterns and its exponent, which a bfclr gives as 6 bits. -/
structure AReg where
  l : Vector (BitVec 40) 8 := Vector.replicate 8 0
  e : BitVec 6 := 0
  deriving DecidableEq, Repr, Inhabited

/-- What a core in WAIT waits for (R191, R194, R196): a cord time; an edge in a window, with the stamp pair and the signed displacement
in words; room in a ring or an entry of it, with the result register and the entry's address. -/
inductive Wait where
  | cord (t : Nat)
  | edge (fromT toT src : Nat) (falling : Bool) (rs : Nat) (disp : Int)
  | push (rt addr q : Nat)
  | pop (rt addr q : Nat)
  deriving DecidableEq, Repr

/-- A Gotum core (R177, R179, R199): registers, system registers, vector state; beyond them the wait in progress, the address of a store
answered with an error and not yet reported (R189), the local words that had an uncorrectable error in this epoch and the cord times of
the last resets (R211), the last watchdog kick (R208), when CORE cycles and retirements are counted from, the captured high
halves of the two counters, the PC last retired (R411), and the instruction trace in the making: branch outcomes with their number,
instructions since the last record and since the last sync (R416). -/
structure Core where
  g : Vector Word 32 := Vector.replicate 32 0
  pc : Word := 0xE0000000
  sw : Word := 0x80000000
  epc : Word := 0
  ecause : Word := 0
  eval : Word := 0
  vbase : Word := 0xE0000100
  pwin : Word := 0
  scratch0 : Word := 0
  scratch1 : Word := 0
  v : Vector VReg 16 := Vector.replicate 16 {}
  a : Vector AReg 4 := Vector.replicate 4 {}
  wait : Option Wait := none
  storeErr : Option Nat := none
  eccWords : List Nat := []
  resetAt : List Nat := []
  kick : Nat := 0
  cycles0 : Nat := 0
  instret : Nat := 0
  cycHi : Option Word := none
  insHi : Option Word := none
  lastPc : Word := 0
  branches : Nat := 0
  branchN : Nat := 0
  sinceRec : Nat := 0
  sinceSync : Nat := 0
  deriving DecidableEq, Repr, Inhabited

/-- OBS beyond its registers: the trace FIFO, records dropped since the last LOSS record, an OBS_LOST that the present command has caused
(R417), the record that leaves or last left on P-TRC, and when its first nibble did (R418), the bytes of each port direction in the present window, and the
units of the last window until they are readable (R413). -/
structure Obs where
  fifo : List (List Nat) := []
  dropped : Nat := 0
  lostDue : Bool := false
  port : List Nat := []
  portAt : Nat := 0
  bw : Vector Nat 14 := Vector.replicate 14 0
  bwAt : Option Nat := none
  bwUnits : Vector Nat 14 := Vector.replicate 14 0
  deriving DecidableEq, Repr

/-- The dedicated OTP wires (R371), beyond the registers they feed: L0, field observation, the safe default of the debug gates, boot source,
cooperation mode, boot key slots revoked, customer key slots killed, the minimum security version, region locks, and the SHUT ceiling in
degrees. -/
structure Wires where
  l0 : Nat := 0
  ftrace : Bool := false
  noObs : Bool := true
  bootsrc : Nat := 0
  coop : Nat := 0
  revoked : Nat := 0
  killed : Nat := 0
  secver : Nat := 0
  locks : Nat := 0
  ceil : Nat := 125
  deriving DecidableEq, Repr

/-- A burn in progress (R376 to R379, R384): the words still to burn with their values, whether it is a REPAIR, the word that PSTAT names, and
for a lifecycle command its ACTION. -/
structure Burn where
  words : List (Nat × Nat)
  repair : Bool := false
  addr : Nat := 0
  lcs : Nat := 0
  deriving DecidableEq, Repr

/-- OTP beyond its registers (R364 to R379): the fuses by word address, the shadow copy, whether the array has been read since the last reset, the
words found marginal with the bits concerned, uncorrectable words, the MLIST entries used, the burn in progress, words left half-burnt with
their intended values, HOTTEMP at the last full read, and when the scrub began. -/
structure Otp where
  array : List (Nat × Word) := []
  shadow : List (Nat × Word) := []
  read : Bool := false
  sensed : Bool := false
  marg : List (Nat × Nat) := []
  bad : List Nat := []
  listed : Nat := 0
  burn : Option Burn := none
  half : List (Nat × Nat) := []
  lastTemp : Int := 0
  scrubAt : Nat := 0
  deriving DecidableEq, Repr

/-- What HYWn is doing on its line (R389, R390): nothing; listening for an announce until a time; ready to send a request after an announce;
waiting for the response to a command until a time, with the repeats made. -/
inductive HywPhase where
  | idle
  | listen (limit : Nat)
  | ready
  | wait (cmd limit tries : Nat)
  deriving DecidableEq, Repr, Inhabited

/-- A Hyler-wire port beyond its registers (R389 to R399): its phase; whether the break in progress follows a failed request; the last break and the
last READ; the queued INCs; whether an AUTH was asked for, and folios sewn since the last; the challenge; what IDENT answered and
has not yet been authenticated; ID and TYPE in force; PERMIT held at EOL until the open signature ends, and the tick in which it then clears (R398); and the last
line test. -/
structure Hyw where
  phase : HywPhase := .idle
  recheck : Bool := false
  breakAt : Option Nat := none
  readAt : Nat := 0
  queue : List Nat := []
  reauth : Bool := false
  sewn : Nat := 0
  challenge : List Nat := []
  ident : Option (Nat × Nat × Nat × Nat) := none
  id : Nat := 0
  type : Nat := 0
  eolWait : Bool := false
  eolAt : Option Nat := none
  testAt : Nat := 0
  deriving DecidableEq, Repr, Inhabited

/-- An FOC port beyond its registers (R215 to R241): whether the offsets of this enabling are measured, with their values; when the present
state was entered; the commanded direction; a voltage command that waits for a period start and the periods since the last one; the
gear reference: on, θ* in 1/(65,536 * 250,000,000,000) revolution, speed in 1/(256 * 4,000,000,000) rev/s, and the mechanical
position last measured; consecutive periods of agreement, of lost observer, invalid Hall samples and the last Hall code; the dwell in hand and whether both
have been repeated; the forced angle in 1/(65,536 * 64,000,000,000) electrical turn and speed in 1/(256 * 250,000,000) rev/s; the start regulator's last output; the
facets with and without speed lock; the observer's angle and back-EMF in mV as last measured; the encoder count since the index, and whether an index has been seen; when
the Hall code last changed, and whether backwards; when the catch window opened; whether a braking pulse is on, and since when the bridge is off after BRAKE; the
sensor's angle at the end of the first dwell; whether desaturation has turned the gates off; and the high-side pulse of each phase in the present period, as the
quarter ticks after its start at which it begins and ends (none: no pulse-width modulation). -/
structure Mot where
  ofsDone : Bool := false
  ofsA : Int := 0
  ofsB : Int := 0
  entered : Nat := 0
  dirCmd : Bool := false
  vNext : Option (Int × Int) := none
  age : Nat := 0
  gear : Bool := false
  thetaRef : Int := 0
  refW : Int := 0
  pos : Int := 0
  agree : Nat := 0
  lost : Nat := 0
  hallBad : Nat := 0
  hallLast : Option Nat := none
  dwell : Nat := 1
  again : Bool := false
  forcedA : Int := 0
  forcedW : Int := 0
  sreg : Int × Int := (0, 0)
  locked : Nat := 0
  unlocked : Nat := 0
  obs : Nat := 0
  bemf : Nat := 0
  enc : Int := 0
  indexed : Bool := false
  hallAt : Nat := 0
  hallNeg : Bool := false
  winAt : Option Nat := none
  brakeOn : Bool := false
  offAt : Option Nat := none
  align1 : Nat := 0
  desat : Bool := false
  pulses : List (Int × Int) := []
  deriving DecidableEq, Repr, Inhabited

/-- What a stepper port's coils do (R243, R250): carry IRUN, IHOLD, nothing, or are shorted. -/
inductive Coils where
  | run
  | hold
  | off
  | short
  deriving DecidableEq, Repr, Inhabited

/-- A stepper port beyond its registers (R243 to R252): the present speed in 1/1,000,000 microstep/s and the part of a microstep travelled in
1/10^12; direction; whether the whole move runs at one speed; a constant deceleration under R248 in microsteps/s^2; a stop asked for (by
STOP, by a latch); EXT; when it came to stand; its coils; and, in BUSMON, since when VBUS has lain below V_ov1 - HYST, since when the chopper current has
been wrong and whether that has been reported, whether V_ov2 has been acted on, and whether an open divider has been reported; whether the move's deceleration has
begun; when the profile was last updated; and, for each coil, when its bridge turns (or turned) on and the consecutive cycles that missed the target. -/
structure Stp where
  vel : Nat := 0
  frac : Nat := 0
  neg : Bool := false
  flat : Bool := false
  hard : Option Nat := none
  stopping : Option Bool := none
  ext : Int := 0
  stoodAt : Nat := 0
  coils : Coils := .off
  lowSince : Option Nat := none
  wrongSince : Option Nat := none
  ov2Done : Bool := false
  divOpen : Bool := false
  wrongDone : Bool := false
  decel : Bool := false
  updatedAt : Nat := 0
  chopA : Nat × Nat := (0, 0)
  chopB : Nat × Nat := (0, 0)
  deriving DecidableEq, Repr, Inhabited

/-- An HV port beyond its registers (R271 to R275): the last LEVEL, results since the last DRIVE, since when its output has been shorted or
open, since when INBAND has stayed 0 after SETTLE, whether that has been reported, when HOLD began, the DRIVE that waits for the next carrier period, and the
tick and duties of the last DRIVE. -/
structure Hv where
  lastLevel : Nat := 0
  age : Nat := 0
  shortSince : Option Nat := none
  openSince : Option Nat := none
  outSince : Option Nat := none
  bandDone : Bool := false
  holdAt : Nat := 0
  next : Option (Nat × Nat) := none
  driven : Option (Nat × Nat × Nat) := none
  deriving DecidableEq, Repr, Inhabited

/-- A fuser port beyond its registers (R263, R267 to R269): the last command, FLOOR above FMIN in 100 Hz units and when it last fell, consecutive
capacitive cycles at FMAX, since when CTR has lain in its band, since when INBAND has been 0 with folios in the path, and whether TH0 and TH1 were both
valid in the last result. -/
structure Fus where
  lastCmd : Nat := 0
  floor : Nat := 0
  decayAt : Nat := 0
  atMax : Nat := 0
  bandSince : Option Nat := none
  outSince : Option Nat := none
  pairOk : Bool := false
  deriving DecidableEq, Repr, Inhabited

/-- THM beyond its registers (R300 to R306), times on the AON clock in 4 ns: when it last sampled the die and the channels, consecutive
failed samples per sensor, declarations with their epoch, the die's own CRIT, consecutive samples at SHUT, when THM_SHUT was raised and
each THM_SHUT of the last 600 s, since when HOTTEMP has been below SHUT - 20 C, and since when each pair has disagreed (TX pairs by their
lower channel, then the two fusers). -/
structure Thm where
  dieAt : Option Nat := none
  txAt : Option Nat := none
  fails : Vector Nat 32 := Vector.replicate 32 0
  declared : Nat := 0
  epoch : Nat := 0
  dieCrit : Bool := false
  hotRun : Nat := 0
  shutAt : Option Nat := none
  shuts : List Nat := []
  coolSince : Option Nat := none
  pairSince : Vector (Option Nat) 10 := Vector.replicate 10 none
  deriving DecidableEq, Repr

/-- What a PSQ step waits for (R311, R312, R318), with AON times: the journal flush, at most until a time; a time; a power-good level of a rail
held for a time, with the timeout; the other sequencers at a state, with the timeout. -/
inductive PsqWait where
  | flush (limit : Option Nat)
  | until (t : Nat)
  | pg (rail : Nat) (level : Bool) (dwell limit : Nat)
  | sync (n limit : Nat)
  deriving DecidableEq, Repr

/-- PSQ beyond its registers (R307 to R324), times on the AON clock in 4 ns: the starting set, consecutive steps without a waiting or rail
step, the wait in progress, whether this program has waited for the flush, the enabled rails in the order in which they were enabled,
when each power-good input last changed, transitions counted by the WAITPG in progress; the failure shutdown: the end of its flush wait
and its last release; VIN_SENSE in mV, when it fell below THRESH, and whether UP still waits for it (R438); when the last enable was
released, and the program that follows MINOFF; the sleep asked for and in force (1 SLEEP, 2 SHELF) with its start; whether the device
rails come up again, so that its logic restarts as after wake from SLEEP; the CORE divider before IDLE; what each slave last reported,
the state the master has passed and its last poll; and until when SEQSYNC is left high after a SYNC. -/
structure Psq where
  starting : Nat := 0
  noWait : Nat := 0
  wait : Option PsqWait := none
  flushed : Bool := false
  order : List Nat := []
  pgAt : Vector Nat 24 := Vector.replicate 24 0
  trans : Nat := 0
  failHold : Option Nat := none
  lastRel : Option Nat := none
  vin : Nat := 0
  vinAt : Option Nat := none
  upWaits : Bool := false
  offAt : Option Nat := none
  next : Nat := 0
  sleepReq : Nat := 0
  asleep : Nat := 0
  sleepAt : Nat := 0
  woke : Bool := false
  idleDiv : Nat := 0
  reached : Vector Nat 8 := Vector.replicate 8 0
  passed : Option Nat := none
  polledAt : Nat := 0
  highUntil : Nat := 0
  loaded : Bool := false
  deriving DecidableEq, Repr

/-- The machine (R7): the commands waiting; the draws of free values made (log 1); cord time (R17) and CORE cycles (log 3); registers by
address, both copies (R24, R34); the device's memories, the journal FRAM and host memory with endpoint n at 2^64 n (R23, R25, R31, R157); claims
(R31), ADC slots taken off their schedule (R32), pad output levels (R430) and pin levels; actuator queues (R21), pending commits (R35) and the
sets copied lately with the tick (R36); each unit; the halves that R14 captures and
stages, by requester and address; the edges stamped lately, by source and polarity (R194); words with uncorrectable data; LPDDR5 channels in
service (R45) and self-refresh (R322); the spare mapping in progress (R212); the actuators whose queue fired in the present tick, with it and the value (R193); the port results not yet readable, by unit, with the tick from which they are
(R257); the time on the AON clock in 4 ns (log 35); when the timings of each P-SNS input's wire check last started (R441); and what the last read
gave its requester (log 5). -/
structure State where
  pending : List Instr := []
  free : Nat := 0
  cord : DWord := 0
  coreCycles : DWord := 0
  regs : List (Nat × Word) := []
  mem : List (Nat × Byte) := []
  fram : List (Nat × Byte) := []
  claims : List (Nat × Owner) := []
  adcOff : List Nat := []
  padOuts : List (Nat × Nat) := []
  acts : List (Nat × List ActEvent) := []
  commits : List Commit := []
  copied : List (ShadowSet × Nat) := []
  gath : Gath := {}
  fcl : Fcl := {}
  jrn : Jrn := {}
  str : Vector Str 4 := Vector.replicate 4 {}
  syn : Vector Syn 6 := Vector.replicate 6 {}
  quire : Vector Quire 4 := Vector.replicate 4 {}
  jobs : Vector (List Job) 4 := Vector.replicate 4 []
  ctx : Vector Ctx 8 := Vector.replicate 8 {}
  cmp : Vector Cmp 2 := Vector.replicate 2 {}
  lastHanded : Nat := 7
  dma : Vector Dma 16 := Vector.replicate 16 {}
  hostMem : List (Nat × Byte) := []
  poison : List Nat := []
  memChans : Nat := 0
  selfRefresh : Bool := false
  cores : Vector Core 24 := Vector.replicate 24 {}
  obs : Obs := {}
  wires : Wires := {}
  mot : Vector Mot 8 := Vector.replicate 8 {}
  stp : Vector Stp 12 := Vector.replicate 12 {}
  hv : Vector Hv 12 := Vector.replicate 12 {}
  fus : Vector Fus 2 := Vector.replicate 2 {}
  thm : Thm := {}
  psq : Psq := {}
  otp : Otp := {}
  roscAt : Option Nat := none
  aon : Nat := 0
  busData : Option (Requester × Nat) := none
  hyw : Vector Hyw 8 := Vector.replicate 8 {}
  captured : List (Nat × Option Nat) := []
  staged : List (Nat × Option Nat) := []
  edges : Vector (List Nat) 128 := Vector.replicate 128 []
  padIns : List (Nat × Nat) := []
  mapping : Option Nat := none
  fired : List (Nat × Nat × Nat) := []
  results : List (Nat × FieldRef × Int) := []
  resultsAt : Nat := 0
  snsAt : Vector Nat 32 := Vector.replicate 32 0
  deriving DecidableEq, Repr

/-- No command of the block stops it: the machine has no fault of this kind. -/
inductive Fault where
  deriving DecidableEq, Repr

/-- Refusals of the model itself. -/
inductive Refusal where
  /-- Raised by the dispatcher for a command that has no meaning yet, named as in the table; safe. -/
  | notModelled (mnemonic : String)
  deriving DecidableEq, Repr

/-- The words that differ from their register maps' reset column at reset, because they come from OTP or from test (R4, log 8): TCE.SPARE.EN,
OTP.DEVID and OTP.STAT.SPARES. -/
def resetWords : List (Nat × Word) := [(0x80008, 0x80000017), (0x180000, 0x48802110), (0x180004, 0x10000000)]

/-- The fuses of a BLANK device (R383, log 8): DEVID and the thermal trim's ceiling. -/
def resetFuses : List (Nat × Word) := [(0, 0x48802110), (4, 125)]

/-- The machine right after power-on reset (R38). -/
def State.reset : State := { regs := resetWords, otp := { array := resetFuses } }

end Sys2Proof.Machine
end

