-- ==== Sys2Proof/Machine/Ops.lean ====
section
/-! DEFINITION. The named operations over registers, memories, rings, claims and time that the meanings share. -/

namespace Sys2Proof.Machine

/-! ### Plain helpers -/

/-- Bits [hi:lo] of a value. -/
def bits (v hi lo : Nat) : Nat := (v >>> lo) % 2 ^ (hi + 1 - lo)

/-- Bit i of a value. -/
def bit (v i : Nat) : Bool := (v >>> i) % 2 == 1

/-- A value with bits [hi:lo] replaced. -/
def setBits (v hi lo x : Nat) : Nat :=
  v % 2 ^ lo + (x % 2 ^ (hi + 1 - lo)) * 2 ^ lo + (v >>> (hi + 1)) * 2 ^ (hi + 1)

/-- A value with bit i set or cleared. -/
def setBit (v i : Nat) (b : Bool) : Nat := setBits v i i b.toNat

/-- A w-bit pattern read as a two's complement integer. -/
def toSigned (w v : Nat) : Int := if v % 2 ^ w < 2 ^ (w - 1) then (v % 2 ^ w : Nat) else (v % 2 ^ w : Nat) - (2 ^ w : Nat)

/-- The w-bit two's complement pattern of an integer. -/
def ofSigned (w : Nat) (x : Int) : Nat := (x % (2 ^ w : Nat)).toNat

/-- An integer limited to [lo, hi]. -/
def clampI (lo hi x : Int) : Int := if x < lo then lo else if x > hi then hi else x

/-- Quotient rounded up. -/
def ceilDiv (a b : Nat) : Nat := (a + b - 1) / b

/-- Quotient rounded to nearest, halves up. -/
def roundDiv (a b : Nat) : Nat := (2 * a + b) / (2 * b)

/-- A count that stops at its greatest value. -/
def satAdd (a b m : Nat) : Nat := if a + b > m then m else a + b

/-- The number of 1 bits among the low n bits. -/
def popcount (v : Nat) : Nat → Nat
  | 0 => 0
  | n + 1 => popcount v n + (bit v n).toNat

/-- Element i of a vector, or the default outside it. -/
def vget {α : Type} [Inhabited α] {n : Nat} (v : Vector α n) (i : Nat) : α := if h : i < n then v[i] else default

/-- A vector with element i changed by f. -/
def vmod {α : Type} {n : Nat} (v : Vector α n) (i : Nat) (f : α → α) : Vector α n :=
  if h : i < n then v.set i (f v[i]) else v

/-- A list with the first element that meets p changed by f. -/
def modFirst {α : Type} (p : α → Bool) (f : α → α) : List α → List α
  | [] => []
  | x :: t => if p x then f x :: t else x :: modFirst p f t

/-- Applies f to the state for i = start, start + 1, … for count values. -/
def forRange {σ : Type} (start : Nat) : (count : Nat) → (Nat → σ → σ) → σ → σ
  | 0, _, s => s
  | c + 1, f, s => forRange (start + 1) c f (f start s)

/-- Serial comparison of 32-bit sequence numbers: a precedes b (R47). -/
def precedes (a b : Nat) : Bool :=
  let d := (b + 2 ^ 32 - a % 2 ^ 32) % 2 ^ 32
  1 ≤ d && d ≤ 0x7FFFFFFF

/-- The successor of a 32-bit sequence number (R47). -/
def succ32 (a : Nat) : Nat := (a + 1) % 2 ^ 32

/-! ### Sparse cells in one canonical form -/

/-- What address a holds; an unlisted address reads d. -/
def Cells.get {α : Type} (d : α) (a : Nat) : List (Nat × α) → α
  | [] => d
  | (k, v) :: t => if a = k then v else Cells.get d a t

/-- Writes v at a, keeping the keys strictly rising and no entry equal to d. -/
def Cells.put {α : Type} [DecidableEq α] (d : α) (a : Nat) (v : α) : List (Nat × α) → List (Nat × α)
  | [] => if v = d then [] else [(a, v)]
  | (k, w) :: t =>
    if a = k then (if v = d then Cells.put d a v t else (a, v) :: t)
    else if a < k ∧ v ≠ d then (a, v) :: (k, w) :: t
    else (k, w) :: Cells.put d a v t

/-- The keys rise strictly from above b, and no entry equals d. -/
def Cells.okFrom {α : Type} [DecidableEq α] (d : α) : Option Nat → List (Nat × α) → Bool
  | _, [] => true
  | b, (k, v) :: t => (match b with | none => true | some x => decide (x < k)) && decide (v ≠ d) && Cells.okFrom d (some k) t

/-- The canonical form of a sparse memory. -/
def Cells.wf {α : Type} [DecidableEq α] (d : α) (m : List (Nat × α)) : Bool := Cells.okFrom d none m

/-- n bytes at a, little-endian (R8). -/
def Cells.readN (d : Byte) (a : Nat) (m : List (Nat × Byte)) : (n : Nat) → Nat
  | 0 => 0
  | n + 1 => (Cells.get d a m).toNat + 256 * Cells.readN d (a + 1) m n

/-- Writes the low n bytes of v at a, little-endian (R8). -/
def Cells.writeN (d : Byte) (a : Nat) : (n v : Nat) → List (Nat × Byte) → List (Nat × Byte)
  | 0, _, m => m
  | n + 1, v, m => Cells.writeN d (a + 1) n (v / 256) (Cells.put d a (BitVec.ofNat 8 v) m)

/-- n bytes at a, as a list. -/
def Cells.bytesAt (d : Byte) (a : Nat) (m : List (Nat × Byte)) : (n : Nat) → List Nat
  | 0 => []
  | n + 1 => (Cells.get d a m).toNat :: Cells.bytesAt d (a + 1) m n

/-- Writes a list of bytes at a. -/
def Cells.putBytes (d : Byte) (a : Nat) : List Nat → List (Nat × Byte) → List (Nat × Byte)
  | [], m => m
  | b :: t, m => Cells.putBytes d (a + 1) t (Cells.put d a (BitVec.ofNat 8 b) m)

/-- The low n bytes of v, first byte least significant (R8). -/
def leBytes : (n v : Nat) → List Nat
  | 0, _ => []
  | n + 1, v => v % 256 :: leBytes n (v / 256)

/-- Bytes read as a little-endian integer (R8). -/
def leNat : List Nat → Nat
  | [] => 0
  | b :: t => b % 256 + 256 * leNat t

/-- CRC of R326, one byte into running register r, bit i from 7 down. -/
def crcBits (w p b : Nat) : (i : Nat) → Nat → Nat
  | 0, r => r
  | i + 1, r =>
    let top := (bits r (w - 1) (w - 1) + bits b i i) % 2
    let r' := (r * 2) % 2 ^ w
    crcBits w p b i (if top = 1 then r' ^^^ p else r')

/-- The low w bits of v in reverse order. -/
def reflect (v : Nat) : (w : Nat) → Nat
  | 0 => 0
  | w + 1 => reflect (v / 2) w + (v % 2) * 2 ^ w

/-- One byte into the running register (R326). -/
def crcByte (w p : Nat) (refin : Bool) (r b : Nat) : Nat :=
  crcBits w p (if refin then reflect (b % 256) 8 else b % 256) 8 r

/-- The output formed from the running register (R326). -/
def crcOut (w : Nat) (refout finv : Bool) (r : Nat) : Nat :=
  let o := if refout then reflect r w else r
  if finv then (2 ^ w - 1) - o % 2 ^ w else o

/-- CRC-32C of bytes, the preset 0x1 of R327: the check value of descriptors, endbands and journal records. -/
def crc32c (bs : List Nat) : Nat :=
  crcOut 32 true true (bs.foldl (crcByte 32 0x1EDC6F41 true) 0xFFFFFFFF)

/-! ### Registers -/

/-- The address of a register (R24): block slot of instance n, offset, repetition k. -/
def Reg.addr (r : Reg) (n k : Nat) : Nat := r.block.base + 0x40000 * n + r.row.off + r.row.stride * k

/-- The reset word a list of fields gives. -/
def resetOf : List FieldRow → Nat
  | [] => 0
  | f :: t => f.reset * 2 ^ f.lo + resetOf t

/-- A register's word at reset, from its map. -/
def Reg.resetWord (r : Reg) : Word := BitVec.ofNat 32 (resetOf r.row.fields)

/-- The bits of a register that are no reserved field: a reserved field reads as zero (R12). -/
def fieldMask : List FieldRow → Nat
  | [] => 0
  | f :: t => (2 ^ (f.hi + 1 - f.lo) - 1) * 2 ^ f.lo + fieldMask t

/-- The word stored for a register (its shadow copy where the set is double-buffered, R34). -/
def State.word (s : State) (r : Reg) (n k : Nat) : Nat := (Cells.get r.resetWord (r.addr n k) s.regs).toNat

/-- Stores a register's word. -/
def State.setWord (s : State) (r : Reg) (n k : Nat) (v : Nat) : State :=
  { s with regs := Cells.put r.resetWord (r.addr n k) (BitVec.ofNat 32 v) s.regs }

/-- The active copy of a shadowed register, 0x8000 above it (R34). -/
def State.active (s : State) (r : Reg) (n k : Nat) : Nat := (Cells.get r.resetWord (r.addr n k + 0x8000) s.regs).toNat

/-- Stores the active copy of a shadowed register. -/
def State.setActive (s : State) (r : Reg) (n k : Nat) (v : Nat) : State :=
  { s with regs := Cells.put r.resetWord (r.addr n k + 0x8000) (BitVec.ofNat 32 v) s.regs }

/-- A field of a register. -/
def State.g (s : State) (f : FieldRef) : Nat := bits (s.word f.reg f.n f.k) f.hi f.lo

/-- A field of a register as a two's complement integer. -/
def State.gi (s : State) (f : FieldRef) : Int := toSigned (f.hi + 1 - f.lo) (s.g f)

/-- Whether a one-bit field is 1. -/
def State.on (s : State) (f : FieldRef) : Bool := s.g f != 0

/-- Sets a field of a register. -/
def State.p (s : State) (f : FieldRef) (x : Nat) : State :=
  s.setWord f.reg f.n f.k (setBits (s.word f.reg f.n f.k) f.hi f.lo x)

/-- Sets a field of a register to a two's complement integer. -/
def State.pi (s : State) (f : FieldRef) (x : Int) : State := s.p f (ofSigned (f.hi + 1 - f.lo) x)

/-- A field of the active copy (R34). -/
def State.ga (s : State) (f : FieldRef) : Nat := bits (s.active f.reg f.n f.k) f.hi f.lo

/-- A field of the active copy as a two's complement integer. -/
def State.gai (s : State) (f : FieldRef) : Int := toSigned (f.hi + 1 - f.lo) (s.ga f)

/-- Adds to a counting field, stopping at its greatest value. -/
def State.inc (s : State) (f : FieldRef) (d : Nat := 1) : State :=
  s.p f (satAdd (s.g f) d (2 ^ (f.hi + 1 - f.lo) - 1))

/-- Adds to a counting field that wraps. -/
def State.incWrap (s : State) (f : FieldRef) (d : Nat := 1) : State := s.p f (s.g f + d)

/-- Returns one register to its reset word, shadow and active copy. -/
def State.resetReg (s : State) (r : Reg) (n k : Nat) : State :=
  (s.setWord r n k r.resetWord.toNat).setActive r n k r.resetWord.toNat

/-- Forgets the stored words of a range of addresses, so that they read their reset values. -/
def State.clearRegs (s : State) (lo hi : Nat) : State :=
  { s with regs := s.regs.filter (fun c => c.1 < lo || hi ≤ c.1) }

/-- Returns every register of a block instance to its reset value, both copies (R37, R38). -/
def State.resetBlock (s : State) (b : Block) (n : Nat) : State :=
  s.clearRegs (b.base + 0x40000 * n) (b.base + 0x40000 * (n + 1))

/-! ### Time, variant, presence -/

/-- Cord time (R17). -/
def State.now (s : State) : Nat := s.cord.toNat

/-- Ticks in a microsecond and in a millisecond (R9: 4 ns a tick). -/
def usTicks : Nat := 250
def msTicks : Nat := 250000

/-- A duration of x in units of n nanoseconds, in ticks (R9). -/
def nsTicks (x : Nat) : Nat := x / 4

/-- The variant named by OTP.DEVID.PART (R4). -/
def State.is4820 (s : State) : Bool := s.g F.OTP_DEVID_PART == 0x4820

/-- How many instances of a block the variant has (R2). -/
def State.blockCount (s : State) (b : Block) : Nat :=
  if s.is4820 then
    match b with
    | .STR => 2 | .SYN => 4 | .MOT => 4 | .STP => 6 | .HV => 6 | .FUS => 1 | .HYW => 4
    | b => b.count
  else b.count

/-- Whether core index i exists on the variant (R2, R23). -/
def State.hasCore (s : State) (i : Nat) : Bool := if s.is4820 then i < 8 || (16 ≤ i && i < 20) else i < 24

/-- Number of PCIe endpoints (R2). -/
def State.hosts (s : State) : Nat := if s.is4820 then 1 else 2

/-- The detail that identifies a requester in the generic codes of R333. -/
def Requester.detail : Requester → Nat
  | .core i => i
  | .host n => 0x40 + n
  | .dma => 0x50
  | .hw => 0xFF

/-- The fault source of a requester (R331, R332).  A hardware unit's own access is raised on FCL. -/
def Requester.source : Requester → Nat
  | .core i => 40 + i
  | .host n => 30 + n
  | .dma => 13
  | .hw => 0

/-- The index under which the holding and staging registers of a requester are kept (R14). -/
def Requester.slot : Requester → Nat
  | .core i => i
  | .host n => 24 + n
  | .dma => 26
  | .hw => 27

/-- The owner tag and core index of a requester (R27, R31). -/
def Requester.owner : Requester → Owner
  | .core i => ⟨3, i⟩
  | .host n => ⟨1 + n, 0⟩
  | .dma => ⟨4, 0⟩
  | .hw => ⟨7, 0⟩

/-- The fault source of a block instance (R331). -/
def Block.source : Block → Nat → Nat
  | .FCL, _ => 0 | .CORD, _ => 1 | .GATH, _ => 2 | .JRN, _ => 3 | .TCE, _ => 4 | .LCE, _ => 5 | .PMX, _ => 6 | .THM, _ => 7
  | .PSQ, _ => 8 | .OTP, _ => 9 | .LCS, _ => 10 | .OBS, _ => 11 | .ING, _ => 12 | .DMA, _ => 13 | .SHW, _ => 14 | .QST, _ => 15
  | .CMP, n => 16 + n | .DCP, n => 18 + n | .CKU, n => 22 + n | .STR, n => 64 + n | .SYN, n => 68 + n | .HYW, n => 74 + n
  | .MOT, n => 82 + n | .STP, n => 90 + n | .HV, n => 102 + n | .FUS, n => 114 + n

/-- Draws a fresh free value, advancing State's counter (log 1). -/
def State.draw (s : State) : Word × State := (Config.freeValue s.free, { s with free := s.free + 1 })

/-! ### Memory by address -/

def ringMemBase : Nat := 0x02000000
def sharedBase : Nat := 0x40000000
def quireBase : Nat := 0x80000000
def tableBase : Nat := 0xC0000000
def mirrorBase : Nat := 0xCC000000
def localBase : Nat := 0x0100000000
def pageBase : Nat := 0x1000000000

/-- n bytes of the device's memories at an address. -/
def State.rd (s : State) (a n : Nat) : Nat := Cells.readN 0 a s.mem n

/-- Stores n bytes in the device's memories. -/
def State.wr (s : State) (a n v : Nat) : State := { s with mem := Cells.writeN 0 a n v s.mem }

/-- n bytes as a list. -/
def State.rdBytes (s : State) (a n : Nat) : List Nat := Cells.bytesAt 0 a s.mem n

/-- Stores a list of bytes. -/
def State.wrBytes (s : State) (a : Nat) (bs : List Nat) : State := { s with mem := Cells.putBytes 0 a bs s.mem }

/-! ### Rings (R27 to R29) -/

def State.ringEn (s : State) (q : Nat) : Bool := s.on (F.TCE_QCFG_EN q)
def State.ringLen (s : State) (q : Nat) : Nat := 2 ^ s.g (F.TCE_QCFG_LOG2N q)
def State.ringEsize (s : State) (q : Nat) : Nat := 16 * 2 ^ s.g (F.TCE_QCFG_ESIZE q)
def State.qhead (s : State) (q : Nat) : Nat := s.g (F.TCE_QHEAD_INDEX q)
def State.qtail (s : State) (q : Nat) : Nat := s.g (F.TCE_QTAIL_INDEX q)
def State.ringStart (s : State) (q : Nat) : Nat := ringMemBase + 64 * s.g (F.TCE_QBASE_OFFSET q)
/-- Address of entry i of a ring. -/
def State.ringAddr (s : State) (q i : Nat) : Nat := s.ringStart q + s.ringEsize q * i
/-- First byte after a ring's region, with a given configuration (R29). -/
def State.ringEnd (s : State) (q : Nat) : Nat := s.ringStart q + s.ringEsize q * s.ringLen q
/-- Ring memory is 1 MiB (R25). -/
def ringMemSize : Nat := 0x100000
/-- A ring's region lies in ring memory and meets no other enabled ring's (R29). -/
def State.regionOk (s : State) (q : Nat) : Bool :=
  s.ringEnd q ≤ ringMemBase + ringMemSize
    && (List.range 128).all (fun j => j == q || !s.ringEn j || s.ringEnd q ≤ s.ringStart j || s.ringEnd j ≤ s.ringStart q)
/-- Entries not yet consumed. -/
def State.ringCount (s : State) (q : Nat) : Nat := (s.qtail q + s.ringLen q - s.qhead q) % s.ringLen q
/-- A ring is full when QTAIL + 1 modulo its length equals QHEAD (R28). -/
def State.ringFull (s : State) (q : Nat) : Bool := (s.qtail q + 1) % s.ringLen q == s.qhead q
def State.ringEmpty (s : State) (q : Nat) : Bool := s.qtail q == s.qhead q
/-- Free entries of a ring. -/
def State.ringFree (s : State) (q : Nat) : Nat := s.ringLen q - 1 - s.ringCount q

def State.ringProd (s : State) (q : Nat) : Owner := ⟨s.g (F.TCE_QCFG_PROD q), if s.g (F.TCE_QCFG_PROD q) = 3 then s.g (F.TCE_QCFG_PCORE q) else 0⟩
def State.ringCons (s : State) (q : Nat) : Owner := ⟨s.g (F.TCE_QCFG_CONS q), if s.g (F.TCE_QCFG_CONS q) = 3 then s.g (F.TCE_QCFG_CCORE q) else 0⟩

/-- Stores an entry at QTAIL and advances it; the caller has judged room and producer. -/
def State.ringPut (s : State) (q : Nat) (bs : List Nat) : State :=
  (s.wrBytes (s.ringAddr q (s.qtail q)) bs).p (F.TCE_QTAIL_INDEX q) ((s.qtail q + 1) % s.ringLen q)

/-- A hardware producer can post now: the ring is enabled, names it, and has room (R28, R339). -/
def State.canPost (s : State) (q tag : Nat) : Bool := s.ringEn q && s.g (F.TCE_QCFG_PROD q) == tag && !s.ringFull q

/-- Releases the entry at QHEAD. -/
def State.ringPop (s : State) (q : Nat) : State := s.p (F.TCE_QHEAD_INDEX q) ((s.qhead q + 1) % s.ringLen q)

/-! ### Claims (R30 to R33) -/

/-- The owner of a resource. -/
def State.ownerOf (s : State) (rid : Nat) : Owner := Cells.get {} rid s.claims

/-- Sets the owner of a resource. -/
def State.setOwner (s : State) (rid : Nat) (o : Owner) : State := { s with claims := Cells.put {} rid o s.claims }

def State.owned (s : State) (rid : Nat) : Bool := (s.ownerOf rid).tag != 0

/-- Whether a requester owns a resource. -/
def State.owns (s : State) (q : Requester) (rid : Nat) : Bool := s.owned rid && s.ownerOf rid == q.owner

/-- The resource identifier of pad i (R33). -/
def padRid (i : Nat) : Nat := 0x1000 + i

end Sys2Proof.Machine
end

