-- ==== Sys2Proof/Machine/Watch.lean ====
section
/-! DEFINITION. What OBS records of the events of the other units (R404, R405, R408 to R417): counters, fixed counters and trace records. -/

namespace Sys2Proof.Machine

/-- Lifecycle states as LCS.STATE codes them. -/
def lcBLANK : Nat := 0
def lcMAKER : Nat := 1
def lcFIELD : Nat := 2
def lcRETURNED : Nat := 3
def lcSCRAPPED : Nat := 4

def State.lifecycle (s : State) : Nat := s.g F.LCS_STATE_STATE

/-- OBS.STAT.LEVEL (R405): no observation while the debug gates deliver their safe default (R371). -/
def State.obsLevel (s : State) : Nat :=
  if s.wires.noObs then 0
  else if s.lifecycle = lcBLANK || s.lifecycle = lcMAKER || s.lifecycle = lcRETURNED then 2
  else if s.lifecycle = lcFIELD && s.wires.ftrace && s.on F.OBS_HOSTEN_EN then 1
  else 0

def State.coreOf (s : State) (i : Nat) : Core := vget s.cores i
def State.modCore (s : State) (i : Nat) (f : Core → Core) : State := { s with cores := vmod s.cores i f }

/-- A counter wraps (R411): OVF, and with SAMPLE the sampling record of the core it names. -/
def State.obsWrap (s : State) (k : Nat) : State :=
  let s1 := s.p (F.OBS_EVSEL_OVF k) 1
  if s.on (F.OBS_EVSEL_SAMPLE k) then
    let c := s.g (F.OBS_EVSEL_CORE k)
    if s.on (F.OBS_SAMP_INFO_PEND c) then s1.inc (F.OBS_SAMP_INFO_MERGED c)
    else
      (((s1.setWord .OBS_SAMP_PC 0 c (s.coreOf c).lastPc.toNat).p (F.OBS_SAMP_INFO_INDEX c) k).p (F.OBS_SAMP_INFO_MERGED c) 0).p
        (F.OBS_SAMP_INFO_PEND c) 1
  else s1

/-- A programmable counter's 48 bits. -/
def State.obsCount (s : State) (k : Nat) : Nat := s.g (F.OBS_CNT_LO_COUNT k) + 2 ^ 32 * s.g (F.OBS_CNT_HI_COUNT k)

def State.setObsCount (s : State) (k v : Nat) : State := (s.p (F.OBS_CNT_LO_COUNT k) v).p (F.OBS_CNT_HI_COUNT k) (v / 2 ^ 32)

/-- n qualifying events of an instance reach every enabled counter that selects them (R408). -/
def State.count (s : State) (event inst n : Nat) : State :=
  if s.on F.OBS_CTRL_RUN && s.obsLevel != 0 then
    forRange 0 64 (fun k a =>
      if a.on (F.OBS_EVSEL_EN k) && a.g (F.OBS_EVSEL_EVENT k) == event && (a.g (F.OBS_EVSEL_INST k) == inst || a.g (F.OBS_EVSEL_INST k) == 0xFF) then
        let v := a.obsCount k + n
        let b := a.setObsCount k (v % 2 ^ 48)
        if 2 ^ 48 ≤ v then b.obsWrap k else b
      else a) s
  else s

/-- A fixed counter counts (R410). -/
def State.fixed (s : State) (i : Nat) : State :=
  if s.obsLevel = 0 then s
  else
    let v := s.g (F.OBS_FIX_LO_COUNT i) + 2 ^ 32 * s.g (F.OBS_FIX_HI_COUNT i) + 1
    (s.p (F.OBS_FIX_LO_COUNT i) v).p (F.OBS_FIX_HI_COUNT i) (v / 2 ^ 32)

/-- The 16 bytes of a trace record (R414); type 0 EVENT, 1 BRANCH, 2 TARGET, 3 LOSS. -/
def traceBytes (stamp origin code aux type data : Nat) : List Nat :=
  leBytes 8 stamp ++ [origin % 256, code % 256, aux % 256, type % 4 * 64] ++ leBytes 4 data

/-- A record is dropped and counted; the first drop since the last LOSS record raises OBS_LOST (R417). -/
def State.traceDrop (s : State) : State :=
  let s1 := s.inc F.OBS_STAT_LOST
  { s1 with obs := { s1.obs with dropped := satAdd s1.obs.dropped 1 (2 ^ 32 - 1), lostDue := s1.obs.lostDue || s1.obs.dropped == 0 } }

/-- A record enters the FIFO, or is dropped when it is full (R417). -/
def State.tracePush (s : State) (rec : List Nat) : State :=
  if s.obs.fifo.length < 256 then { s with obs := { s.obs with fifo := s.obs.fifo ++ [rec] } } else s.traceDrop

/-- An output is on (R418, R419). -/
def State.traceOn (s : State) : Bool := s.obsLevel != 0 && (s.on F.OBS_TRCCFG_PORT || s.on F.OBS_TRCCFG_MEM)

/-- An EVENT record of an enabled code (R415); EPOCH is always produced while an output is on. -/
def State.traceEv (s : State) (origin code aux data : Nat) : State :=
  if s.traceOn && (code == 0 || bit (s.word .OBS_EVTMASK 0 0) code) then s.tracePush (traceBytes s.now origin code aux 0 data) else s

/-- Instruction trace runs for a core (R416). -/
def State.insTraced (s : State) (i : Nat) : Bool := s.traceOn && s.obsLevel == 2 && bit (s.g F.OBS_TRCCFG_ICORES) i

/-- An entry enters a ring or a producer finds it full (R409). -/
def State.ringPutC (s : State) (q : Nat) (bs : List Nat) : State := (s.ringPut q bs).count 0x10 q 1

/-- A hardware producer tries to post: an enabled ring that is full counts RING_FULL (R409). -/
def State.sawFull (s : State) (q : Nat) : State := if s.ringEn q && s.ringFull q then s.count 0x11 q 1 else s

/-! ### Port bandwidth (R413) -/

/-- n bytes have passed a port direction in the present window. -/
def State.bwAdd (s : State) (p n : Nat) : State :=
  if s.on F.OBS_BWCFG_EN && s.obsLevel != 0 then { s with obs := { s.obs with bw := vmod s.obs.bw p (· + n) } } else s

/-- Bytes of a page-store range by channel: the channels interleave by 4 KiB while both are in service (R2, R45). -/
def memSplit (chans : Nat) : (fuel off n : Nat) → Nat × Nat
  | 0, _, _ => (0, 0)
  | f + 1, off, n =>
    if n = 0 then (0, 0)
    else if chans = 1 then (n, 0)
    else if chans = 2 then (0, n)
    else
      let here := min n (4096 - off % 4096)
      let r := memSplit chans f (off + here) (n - here)
      if off / 4096 % 2 = 0 then (r.1 + here, r.2) else (r.1, r.2 + here)

/-- n bytes read or written at a page-store offset. -/
def State.bwMem (s : State) (write : Bool) (off n : Nat) : State :=
  if s.on F.OBS_BWCFG_EN then
    let r := memSplit s.memChans (n / 4096 + 2) off n
    (s.bwAdd (4 + write.toNat) r.1).bwAdd (6 + write.toNat) r.2
  else s

end Sys2Proof.Machine
end

