-- ==== Sys2Proof/Machine/Fault.lean ====
section
/-! DEFINITION. Raising a fault event (R332 to R336, R339): the history, the fault ring, and the cause of a kettle entry. -/

namespace Sys2Proof.Machine

/-- A folio past its sewing point and still on its way: SEWN, RECTO_DONE or VERSO_DONE (R80, R336). -/
def Folio.inPath (f : Folio) : Bool := f.st == .sewn || f.st == .rectoDone || f.st == .versoDone

/-- The cord time of the sewing point of a folio, 0 when none is fixed. -/
def Folio.ts (f : Folio) : Nat := match f.sewing with | some w => w.ts | none => 0

/-- Of two folios, the one sewn earlier. -/
def Folio.older (a b : Folio) : Folio := if b.ts < a.ts then b else a

/-- The oldest folio of a list that meets p. -/
def oldestWhere (p : Folio → Bool) : List Folio → Option Folio
  | [] => none
  | f :: t =>
    match oldestWhere p t with
    | none => if p f then some f else none
    | some g => if p f then some (f.older g) else some g

/-- The oldest folio then in SEWN, RECTO_DONE or VERSO_DONE, which a record names when its event spoiled none (R336). -/
def State.oldestInPath (s : State) : Option (Nat × Nat) :=
  (oldestWhere Folio.inPath s.gath.folios).map (fun f => (f.desc.stream, f.desc.fsn))

/-- A fault event (R332): source, code, detail, class, the spoil reason used on kettle entry (R333), the first folio it spoiled, and
whether it was forced (R340). -/
structure FaultEv where
  source : Nat
  code : Nat
  detail : Nat
  cls : Cls
  reason : Nat := 1
  folio : Option (Nat × Nat) := none
  forced : Bool := false
  deriving DecidableEq, Repr

def Cls.code : Cls → Nat
  | .a => 0
  | .b => 1
  | .c => 2

/-- The event is identical to a record in source, code and detail (R334). -/
def HistRec.same (r : HistRec) (e : FaultEv) : Bool :=
  r.valid && r.source == e.source && r.code == e.code && r.detail == e.detail

/-- The entries in the order in which a new record looks for one: after the newest, cyclically (R336). -/
def histOrder (newest : Nat) : List Nat := (List.range 16).map (fun d => (newest + 1 + d) % 16)

/-- The entry a new record takes, skipping outstanding ones (R336). -/
def State.freeHist (s : State) : Option Nat :=
  (histOrder (s.g F.FCL_HEAD_NEWEST)).find? (fun i => !(vget s.fcl.hist i).outstanding)

/-- The oldest outstanding record's entry. -/
def State.oldestOutstanding (s : State) : Option Nat :=
  (histOrder (s.g F.FCL_HEAD_NEWEST)).find? (fun i => (vget s.fcl.hist i).outstanding)

def State.modHist (s : State) (i : Nat) (f : HistRec → HistRec) : State :=
  { s with fcl := { s.fcl with hist := vmod s.fcl.hist i f } }

/-- FLAGS of R338. -/
def HistRec.flags (r : HistRec) : Nat :=
  r.cls.code + 4 * r.fsnv.toNat + 8 * (r.stream % 8) + 64 * r.secondary.toNat + 128 * r.forced.toNat

/-- FCL.HISTk.INFO (R338). -/
def HistRec.info (r : HistRec) : Nat := r.source % 256 * 2 ^ 24 + r.code % 256 * 2 ^ 16 + r.detail % 256 * 256 + r.flags

/-- The 16 bytes of a fault record on a ring (R338). -/
def HistRec.bytes (r : HistRec) : List Nat :=
  leBytes 8 r.stamp ++ [r.source % 256, r.code % 256, r.detail % 256, r.flags] ++ leBytes 4 r.fsn

/-- The EPOCH_MARK record that FCL posts before any other record of an epoch (R338, R339). -/
def State.markBytes (s : State) : List Nat := leBytes 8 s.now ++ [0, 0, 0, 0] ++ leBytes 4 (s.g F.JRN_EPOCH_EPOCH)

/-- Posts an EPOCH_MARK that is due, where FCL's ring can take it (R339). -/
def State.fclMark (s : State) : State :=
  if s.fcl.markDue && s.on F.FCL_RINGCFG_EN && s.canPost (s.g F.FCL_RINGCFG_RING) 6 then
    { s with fcl := { s.fcl with markDue := false } }.ringPutC (s.g F.FCL_RINGCFG_RING) s.markBytes
  else s

/-- Posts a record on FCL's ring, after a mark that is due, or counts it LOST (R339). -/
def State.fclPost (s0 : State) (r : HistRec) : State :=
  let s := s0.fclMark
  if s.on F.FCL_RINGCFG_EN then
    if s.canPost (s.g F.FCL_RINGCFG_RING) 6 then s.ringPutC (s.g F.FCL_RINGCFG_RING) r.bytes
    else (s.sawFull (s.g F.FCL_RINGCFG_RING)).inc F.FCL_RINGCFG_LOST
  else s

/-- Notes a cause of kettle entry; of several in one tick the lowest reason stands (R74, R334), also where the first has brought the state in force. -/
def State.noteDue (s : State) (k : KettleCause) : State :=
  if s.on F.FCL_STAT_KETTLE && s.fcl.enteredAt != some s.now then s
  else
    match s.fcl.due with
    | none => { s with fcl := { s.fcl with due := some k } }
    | some o => if k.reason < o.reason then { s with fcl := { s.fcl with due := some k } } else s

/-- The record a new event makes (R334 to R338). -/
def State.newRec (s : State) (e : FaultEv) : HistRec :=
  let who := match e.folio with | some x => some x | none => s.oldestInPath
  { valid := true, outstanding := e.cls != .a, forced := e.forced, cls := e.cls, stamp := s.now, source := e.source, code := e.code,
    detail := e.detail, fsnv := who.isSome, stream := (who.getD (0, 0)).1, fsn := (who.getD (0, 0)).2,
    epoch := s.g F.JRN_EPOCH_EPOCH, seq := s.g F.FCL_HEAD_NEXTSEQ,
    deadline := s.now + s.g F.FCL_CLASSB_TIMER * usTicks, reason := e.reason }

/-- Puts a new record in entry i and posts it (R336, R339). -/
def State.takeHist (s : State) (i : Nat) (e : FaultEv) : State :=
  let r := s.newRec e
  (((((s.modHist i (fun _ => r)).p F.FCL_HEAD_NEWEST i).incWrap F.FCL_HEAD_NEXTSEQ).fclPost r).count 0x50 e.cls.code 1).traceEv e.source 2 0 r.info

/-- Records an event in the history, merging it where R334 says, and dropping it where R336 says. -/
def State.recordEvent (s : State) (e : FaultEv) : State :=
  match (histOrder (s.g F.FCL_HEAD_NEWEST)).find? (fun i => (vget s.fcl.hist i).outstanding && (vget s.fcl.hist i).same e) with
  | some i => s.modHist i (fun r => { r with repeats := satAdd r.repeats 1 255 })
  | none =>
    if e.cls == .a && (vget s.fcl.hist (s.g F.FCL_HEAD_NEWEST)).same e then
      s.modHist (s.g F.FCL_HEAD_NEWEST) (fun r => { r with repeats := satAdd r.repeats 1 255 })
    else
      match s.freeHist with
      | some i => s.takeHist i e
      | none =>
        if e.cls == .a then s.inc F.FCL_STAT_DROPPED
        else
          let s1 := s.inc F.FCL_STAT_DROPPED
          let s2 := match s.oldestOutstanding with | some i => s1.modHist i (fun r => { r with secondary := true }) | none => s1
          if e.cls == .b then s2.noteDue ⟨0, 2, e.reason⟩ else s2

/-- A fault event (R334, R335): recorded or merged, and of class C a cause of kettle entry in its tick. -/
def State.raiseEv (s : State) (e : FaultEv) : State :=
  if e.cls == .c then (s.recordEvent e).noteDue ⟨e.source, e.code, e.reason⟩ else s.recordEvent e

/-- Raises a fault of a unit. -/
def State.raise (s : State) (source code detail : Nat) (cls : Cls) (reason : Nat := 1) (folio : Option (Nat × Nat) := none) : State :=
  s.raiseEv ⟨source, code, detail, cls, reason, folio, false⟩

/-- A class-A fault on the requester's own source (R332). -/
def State.accessFault (s : State) (q : Requester) (code : Nat) : State := s.raise (Requester.source q) code (Requester.detail q) .a

/-- A generic class-A fault on a unit's source, with the requester as detail (R333). -/
def State.unitFault (s : State) (b : Block) (n : Nat) (q : Requester) (code : Nat) : State :=
  s.raise (b.source n) code (Requester.detail q) .a

/-- The generic codes of R333. -/
def cREG_ACCESS : Nat := 0xF0
def cUNMAPPED : Nat := 0xF1
def cRESERVED_ENC : Nat := 0xF2
def cCLAIM_REFUSED : Nat := 0xF3
def cNOT_OWNER : Nat := 0xF4
def cLATE_WR : Nat := 0xF5
def cRING_REFUSED : Nat := 0xF6
def cLIFECYCLE : Nat := 0xF7
def cSTATE_REFUSED : Nat := 0xF8
def cEPOCH_STALE : Nat := 0xF9
def cACT_LATE : Nat := 0xFA
def cACT_REFUSED : Nat := 0xFB
def cFORCED : Nat := 0xFF

/-- GATH reads SSTATn.STATE, and the codes of R81. -/
def stRUN : Nat := 0
def stBLOCKED : Nat := 1
def stEXHAUST : Nat := 2
def stSTRAND : Nat := 3
def stWAIT_CONS : Nat := 4

end Sys2Proof.Machine
end

