-- ==== Sys2Proof/Machine/Record.lean ====
section
/-! DEFINITION. Journal records (R346, R347, R350): their bytes, and GATH's requests for them. -/

namespace Sys2Proof.Machine

/-- The state codes of JRN.STAT.STATE. -/
def jREPLAY : Nat := 0
def jOPEN : Nat := 1
def jUNINIT : Nat := 2
def jFROZEN : Nat := 3
def jSEALED : Nat := 4
def jLOST : Nat := 5

/-- FLAGS of R346. -/
def JRec.flags (r : JRec) : Nat := r.try_ % 16 + 16 * r.stranded.toNat + 32 * r.operator.toNat

/-- Bytes 0x00 to 0x1B of a record with a given COMMIT byte (R346). -/
def JRec.head (r : JRec) (commit : Nat) : List Nat :=
  leBytes 4 r.seq ++ [r.type, r.stream, r.flags, commit] ++ leBytes 4 r.fsn ++ leBytes 4 r.epoch ++ leBytes 8 r.stamp ++ leBytes 4 r.aux

/-- The 32 bytes of a record: its CRC takes COMMIT as 0xC3 (R346). -/
def JRec.bytes (r : JRec) (commit : Nat) : List Nat := r.head commit ++ leBytes 4 (crc32c (r.head 0xC3))

/-- A record read back from 32 bytes. -/
def JRec.ofBytes (b : List Nat) : JRec :=
  let w := fun o n => leNat ((b.drop o).take n)
  { seq := w 0 4, type := w 4 1, stream := w 5 1 % 8, try_ := w 6 1 % 16, stranded := bit (w 6 1) 4, operator := bit (w 6 1) 5,
    fsn := w 8 4, epoch := w 0xC 4, stamp := w 0x10 8, aux := w 0x18 4 }

/-- Where the record with sequence number q lies in FRAM (R348). -/
def framSlot (q : Nat) : Nat := 0x1000 + 32 * (q % 4096)

/-- Where it lies in the retention mirror (R348). -/
def mirrorSlot (q : Nat) : Nat := mirrorBase + 0x100 + 32 * (q % 2040)

/-- The span: the next SEQ minus the written TAILSEQ (R350). -/
def State.span (s : State) : Nat := (s.g F.JRN_SEQ_SEQ + 2 ^ 32 - s.g F.JRN_TAILSEQ_SEQ) % 2 ^ 32

/-- No copy in service can commit (R363). -/
def State.noCopy (s : State) : Bool := !s.on F.JRN_STAT_FRAMOK && !s.on F.JRN_STAT_MIRROK

/-- Numbers and queues a record (R347), unless it would bring the span to 2,040 (R350). -/
def State.jrnEnqueue (s : State) (r : JRec) : State :=
  if s.span + 1 ≥ 2040 then s.raise 3 6 0 .c 1
  else
    let q := s.g F.JRN_SEQ_SEQ
    { s with jrn := { s.jrn with queue := s.jrn.queue ++ [{ r with seq := q, epoch := s.g F.JRN_EPOCH_EPOCH }] } }.p F.JRN_SEQ_SEQ (succ32 q)

/-- GATH requests a record (R347): queued while fewer than 16 are, else waiting in GATH in order; in no other state than OPEN is a
record queued (R353, R360), and with no copy left any record but ACCEPT raises JRN_LOST (R363). -/
def State.jrnRequest (s : State) (r : JRec) : State :=
  if s.g F.JRN_STAT_STATE = jOPEN then
    if s.jrn.queue.length < 16 && s.jrn.waiting.isEmpty then s.jrnEnqueue r
    else { s with jrn := { s.jrn with waiting := s.jrn.waiting ++ [r] } }
  else if s.g F.JRN_STAT_STATE = jLOST && r.type != 1 && !(r.type == 6 && s.on F.FCL_STAT_KETTLE) then s.raise 3 3 r.type .c 1
  else s

/-- Moves the first waiting request into the queue once an entry is free (R347). -/
def State.jrnRefill (s : State) : State :=
  match s.jrn.waiting with
  | [] => s
  | r :: t => if s.jrn.queue.length < 16 then { s with jrn := { s.jrn with waiting := t } }.jrnEnqueue r else s

end Sys2Proof.Machine
end

