-- ==== Sys2Proof/Machine/Path.lean ====
section
/-! DEFINITION. The pre-scheduled path: costs (R64), the events of a folio (R71), reservations (R72), the diverter passage (R77) and
the earliest sewing point (R65, R66, R104). -/

namespace Sys2Proof.Machine

/-! The budget and timing registers take effect at the next bucket update, and FEED at the next choice (GATH registers): the value in
effect is kept in the word that ga reads. -/

/-! ### Geometry and speed, from the active copies (R34, R73) -/

def State.dRT (s : State) : Nat := s.ga F.GATH_GEOM0_D_RT
def State.dEX (s : State) : Nat := s.ga F.GATH_GEOM0_D_EX
def State.pST (s : State) : Nat := s.ga F.GATH_GEOM1_P_ST
def State.dFUS (s : State) : Nat := s.ga F.GATH_GEOM1_D_FUS
def State.dDUP (s : State) : Nat := s.ga F.GATH_GEOM2_D_DUP
def State.dRET (s : State) : Nat := s.ga F.GATH_GEOM2_D_RET
def State.dDIV (s : State) : Nat := s.ga F.GATH_GEOM3_D_DIV
def State.dEXIT (s : State) : Nat := s.ga F.GATH_GEOM3_D_EXIT
def State.tREV (s : State) : Nat := s.ga F.GATH_GEOM4_T_REV * msTicks
def State.hvLead (s : State) : Nat := s.ga F.GATH_GEOM4_HV_LEAD * msTicks
def State.gateLead (s : State) : Nat := s.ga F.GATH_TIMING_GATE_LEAD * msTicks
def State.exitSettle (s : State) : Nat := s.ga F.GATH_TIMING_EXIT_SETTLE * msTicks
/-- Ticks to travel a length in um at v um/s, rounded down (log 10). -/
def travelUm (um v : Nat) : Nat := um * 250000000 / v
/-- Ticks to travel d, in 0.1 mm, at v um/s (R71; log 10). -/
def travel (d v : Nat) : Nat := travelUm (d * 100) v
/-- The process speed the device publishes (R99). -/
def State.speed (s : State) : Nat := s.g (F.STR_SPEED_V 0)

/-! ### Costs (R64) -/

/-- The sum of the COVER bytes of the selected stations. -/
def coverSum (cover stations : Nat) : Nat :=
  ((List.range 4).map (fun k => if bit stations k then bits cover (8 * k + 7) (8 * k) else 0)).foldl (· + ·) 0

/-- n_p of R64. -/
def Desc.sides (d : Desc) : Nat := if d.duplex then 2 else 1

/-- Numerator and denominator of c_F in millijoules. -/
def State.fuserCostQ (s : State) (d : Desc) : Nat × Nat :=
  let cnt := popcount d.stations 4 * d.sides
  let sum := coverSum d.coverR d.stations + (if d.duplex then coverSum d.coverV d.stations else 0)
  (d.length * d.sides * s.g (F.GATH_MEDIA_A_FUS_JPM d.media) * (65280 * cnt + sum * s.g (F.GATH_MEDIA_B_TONER_K d.media)),
   10 * 65280 * cnt)

/-- c_F in millijoules, rounded up (R64). -/
def State.fuserCost (s : State) (d : Desc) : Nat := ceilDiv (s.fuserCostQ d).1 (s.fuserCostQ d).2

/-- c_S in millijoules, rounded up (R64). -/
def State.siteCost (s : State) (d : Desc) : Nat :=
  let n := (s.fuserCostQ d).1
  let q := (s.fuserCostQ d).2
  let eta := s.g (F.GATH_MEDIA_B_ETA d.media)
  ceilDiv (n * 256 * 10 + d.length * d.sides * s.g (F.GATH_MEDIA_A_MECH_JPM d.media) * q * eta) (q * eta * 10)

/-! ### The events of a side (R71) -/

/-- The first station a folio selects. -/
def Desc.firstStation (d : Desc) : Nat := ((List.range 4).find? (fun k => bit d.stations k)).getD 0

/-- In web mode t_s is the first stroke on the first selected station (R84), which by R71 lies this long after t_side (log 22); 0 for a cut sheet. -/
def State.webOffset (s : State) (d : Desc) (v : Nat) : Nat :=
  if d.web then travel (s.dRT - s.dEX + d.firstStation * s.pST) v else 0

/-- t_side of the recto or verso, from t_s and v. -/
def State.tSide (s : State) (d : Desc) (v ts : Nat) (verso : Bool) : Nat :=
  if verso then ts + travel (s.dDUP + d.length) v + s.tREV + travel s.dRET v else ts - s.webOffset d v

/-- t_side of the folio's last side. -/
def State.tLast (s : State) (d : Desc) (v ts : Nat) : Nat := s.tSide d v ts d.duplex

/-- The time from one stroke start of STRk to the next, in 1/64 tick: T_est / 2, or T_est for a polygon's facets (R106, R133). -/
def State.strokePitch (s : State) (k : Nat) : Nat :=
  if s.g (F.STR_CTRL_MODE k) = 1 then s.g (F.STR_PERIOD_T_EST k) else s.g (F.STR_PERIOD_T_EST k) / 2

/-- The next stroke start of STRk at or after t: starts lie T_est / 2 apart (R71, R106). -/
def State.strokeCeil (s : State) (k t : Nat) : Nat :=
  let half := s.strokePitch k
  let b := (vget s.str k).strokeStart
  if half = 0 then t
  else if 64 * t ≤ b then ceilDiv (b - ((b - 64 * t) / half) * half) 64
  else ceilDiv (b + ceilDiv (64 * t - b) half * half) 64

/-- First stroke of STRk on a side. -/
def State.firstStroke (s : State) (d : Desc) (v ts k : Nat) (verso : Bool) : Nat :=
  s.strokeCeil k (s.tSide d v ts verso + travel (s.dRT - s.dEX + k * s.pST) v)

/-- Strokes of a side: L / (B * 21.17 um), rounded up. -/
def State.strokesOf (s : State) (d : Desc) : Nat := ceilDiv (d.length * 10000) (2117 * s.ga (F.STR_GLOBAL_B 0))

/-- The cord time of the event "Diverter to output bin" of the folio's last side: its diverter passage (R77). -/
def State.divPass (s : State) (f : Folio) : Nat :=
  match f.sewing with
  | none => 0
  | some w => s.tLast f.desc w.speed w.ts + travel s.dDIV w.speed - s.gateLead

/-- Exit times of the last side: leading edge, trailing edge, confirmation (R71, R83). -/
def State.exitLead (s : State) (f : Folio) : Nat :=
  match f.sewing with | none => 0 | some w => s.tLast f.desc w.speed w.ts + travel s.dEXIT w.speed
def State.exitTrail (s : State) (f : Folio) : Nat :=
  match f.sewing with | none => 0 | some w => s.tLast f.desc w.speed w.ts + travel (s.dEXIT + f.desc.length) w.speed
def State.exitConfirm (s : State) (f : Folio) : Nat := s.exitTrail f + s.exitSettle

/-- The end of the last stroke of STRk on a side: its first stroke and the side's strokes, one each T_est / 2 (R71, R106). -/
def State.lastStroke (s : State) (d : Desc) (v ts k : Nat) (verso : Bool) : Nat :=
  s.firstStroke d v ts k verso + ceilDiv (s.strokesOf d * s.strokePitch k) 64

/-- The events GATH arms for one side (R71).  R71 gives the developer-bias switching of R76 no time of its own: the model places it at the side's
first stroke (DESIGN CHOICE, log 67). -/
def State.sideEvents (s : State) (d : Desc) (v ts : Nat) (verso : Bool) : List (PathEvent × Nat) :=
  let t := s.tSide d v ts verso
  ((List.range 4).filter (fun k => bit d.stations k)).flatMap (fun k =>
    [(.stroke k verso, s.firstStroke d v ts k verso), (.lastStroke k verso, s.lastStroke d v ts k verso), (.bias k verso, s.firstStroke d v ts k verso),
     (.transferOn k verso, t + travel (s.dRT + k * s.pST) v - s.hvLead),
     (.transferOff k verso, t + travel (s.dRT + k * s.pST + d.length) v + s.hvLead)])
    ++ [(.fuserNip verso, t + travel s.dFUS v)]

/-- Every event GATH arms for a folio (R68, R71). -/
def State.pathEvents (s : State) (d : Desc) (w : Sewing) : List (PathEvent × Nat) :=
  let v := w.speed
  let t := s.tLast d v w.ts
  (if d.web then [] else [(.release, w.ts)]) ++ s.sideEvents d v w.ts false
    ++ (if d.duplex then
          [(.duplexGate, w.ts + travel s.dDUP v - s.gateLead), (.reversal, w.ts + travel (s.dDUP + d.length) v)]
            ++ s.sideEvents d v w.ts true
        else [])
    ++ [(.diverterToBin, t + travel s.dDIV v - s.gateLead), (.diverterBack, t + travel (s.dDIV + d.length) v + 5 * msTicks)]

/-- The events a spoil cancels: exposures, developer bias, and the move of the diverter to a bin (R76). -/
def PathEvent.cancelled : PathEvent → Bool
  | .stroke _ _ => true
  | .lastStroke _ _ => true
  | .bias _ _ => true
  | .diverterToBin => true
  | _ => false

/-! ### Reservations (R72) -/

/-- The intervals in which a folio's sides occupy the registration point. -/
def State.slots (s : State) (d : Desc) (v ts : Nat) : List (Nat × Nat) :=
  let w := travel (d.length + s.ga F.GATH_GAPMIN_GAP) v
  (s.tSide d v ts false, s.tSide d v ts false + w) :: (if d.duplex then [(s.tSide d v ts true, s.tSide d v ts true + w)] else [])

/-- A folio whose sewing point stands: its reservations hold (R72). -/
def Folio.reserved (f : Folio) : Bool := f.sewing.isSome && (f.inPath || f.st == .spoiled || f.st == .held || f.st == .admitted)

/-- The path slots of the waste sheets that run. -/
def State.wasteSlots (s : State) : List (Nat × Nat) := (s.gath.wasteRuns.filter (fun r => s.now < r.stop)).map (fun r => (r.start, r.stop))

/-- Every reservation made, but for one folio's own: the folios' and the running waste sheets' (R61, R72). -/
def State.reservations (s : State) (st fsn : Nat) : List (Nat × Nat) :=
  s.gath.folios.flatMap (fun f =>
    if f.reserved && !(f.desc.stream == st && f.desc.fsn == fsn) then
      match f.sewing with | some w => s.slots f.desc w.speed w.ts | none => []
    else []) ++ s.wasteSlots

/-- How far a sewing point must move for one of the folio's intervals to clear one reservation: 0 when they do not overlap. -/
def overlapShift (a r : Nat × Nat) : Nat := if a.1 < r.2 && r.1 < a.2 then r.2 - a.1 else 0

/-- The first shift that some overlap asks for. -/
def firstShift (mine rs : List (Nat × Nat)) : Nat :=
  match (mine.flatMap (fun a => rs.map (fun r => overlapShift a r))).find? (· != 0) with | some d => d | none => 0

/-- The sewing point for which the pace station's first recto stroke falls on its stroke start, at or after t (R104); in web mode the first stroke start
of the first selected station (R84). -/
def State.alignSew (s : State) (d : Desc) (v t : Nat) : Nat :=
  let k := s.ga (F.STR_GLOBAL_PACE 0)
  let off := travel (s.dRT - s.dEX + k * s.pST) v
  if d.web then s.strokeCeil d.firstStation t else s.strokeCeil k (t + off) - off

/-- The earliest aligned sewing point from t on whose intervals overlap no reservation (R72, R104). -/
def State.fitSlots (s : State) (d : Desc) (v : Nat) (rs : List (Nat × Nat)) : (fuel : Nat) → Nat → Nat
  | 0, t => s.alignSew d v t
  | n + 1, t =>
    let u := s.alignSew d v t
    match firstShift (s.slots d v u) rs with
    | 0 => u
    | dt => s.fitSlots d v rs n (u + dt)

/-- The earliest time from t on from which a sheet occupies the registration point for w ticks and meets no reservation. -/
def freeSlot (w : Nat) (rs : List (Nat × Nat)) : (fuel : Nat) → Nat → Nat
  | 0, t => t
  | n + 1, t => match firstShift [(t, t + w)] rs with | 0 => t | dt => freeSlot w rs n (t + dt)

/-- The first waiting waste sheet runs at the next free path slot, scheduled as a folio would be but not imaged, with the diverter at purge (R61,
R66, R72): its release and its arrival at the fuser nip are armed; without a process speed it waits. -/
def State.runWaste (s : State) : State :=
  match s.gath.waste with
  | [] => s
  | len :: rest =>
    if s.speed = 0 then s
    else
      let rs := s.gath.folios.flatMap (fun f => if f.reserved then match f.sewing with | some w => s.slots f.desc w.speed w.ts | none => [] else [])
        ++ s.wasteSlots
      let w := travel (len + s.ga F.GATH_GAPMIN_GAP) s.speed
      let t := freeSlot w rs rs.length (s.now + s.ga F.GATH_TIMING_SEW_LEAD * msTicks)
      let run : Waste := ⟨t, t + w, [(.release, t), (.fuserNip false, t + travel s.dFUS s.speed)]⟩
      { s with gath := { s.gath with waste := rest, wasteRuns := s.gath.wasteRuns.filter (fun r => s.now < r.stop) ++ [run] } }

/-! ### Buckets (R63, R65) -/

/-- Refill of the two buckets in microjoules a millisecond. -/
def State.fuserGain (s : State) : Nat := s.ga F.GATH_FUS_RATE_RATE
def State.siteGain (s : State) : Nat := s.ga F.GATH_SITE_W_POWER - s.ga F.GATH_BASE_W_POWER

/-- Costs of the folios whose sewing point is fixed and not yet reached, which a projection must leave room for (R65). -/
def State.pendingCost (s : State) (site : Bool) : Nat :=
  (s.gath.folios.map (fun f => if f.sewing.isSome && (f.st == .held || f.st == .admitted) then (if site then f.costS else f.costF) else 0)).foldl (· + ·) 0

/-- The cord time of the update after which a bucket would hold a cost, the updates lying 1 ms apart from the last one on: none when it never does;
a bucket of depth zero is disabled (R63, R66). -/
def bucketTime (now last level gain depth cost : Nat) : Option Nat :=
  if depth = 0 then some now
  else if cost * 1000 ≤ level then some now
  else if gain = 0 || depth < cost then none
  else some (last + ((now - last) / msTicks + ceilDiv (cost * 1000 - level) gain) * msTicks)

/-- The sewing point of a label (R84): the first stroke start at least (D_RT - D_EX) / v after its index edge; none where that lies before the
earliest sewing point t that R66 and R85 allow, or meets a reservation: its place is then left unprinted. -/
def State.webSew (s : State) (d : Desc) (v : Nat) (rs : List (Nat × Nat)) (t : Nat) : Option Nat :=
  match s.gath.webMark with
  | none => none
  | some m =>
    let ts := s.alignSew d v (m + travel (s.dRT - s.dEX) v)
    if t ≤ ts && firstShift (s.slots d v ts) rs = 0 then some ts else none

/-- The earliest sewing point of a folio (R66), with t_s placed by R72 and R104, a label's by R84; none while a bucket can never hold its cost, or no
process speed is published. -/
def State.earliestSew (s : State) (f : Folio) : Option Nat :=
  let v := s.speed
  match bucketTime s.now s.gath.bucketAt (s.gath.fuserUj - 1000 * s.pendingCost false) s.fuserGain (s.ga F.GATH_FUS_DEPTH_DEPTH) f.costF,
        bucketTime s.now s.gath.bucketAt (s.gath.siteUj - 1000 * s.pendingCost true) s.siteGain (s.ga F.GATH_SITE_DEPTH_DEPTH) f.costS with
  | some tf, some tn =>
    if v = 0 then none
    else
      let arr := if f.desc.web then s.now else f.arrival.getD s.now + s.ga F.GATH_FEED_DESKEW * msTicks
      let rs := s.reservations f.desc.stream f.desc.fsn
      let earlier := (s.gath.folios.map (fun g =>
        if g.desc.stream == f.desc.stream && g.reserved && precedes g.desc.fsn f.desc.fsn then s.divPass g else 0)).foldl max 0
      let off := s.webOffset f.desc v
      let order := earlier + 1 + s.gateLead + off - (s.tLast f.desc v off + travel s.dDIV v)
      let lead := s.now + s.ga F.GATH_TIMING_SEW_LEAD * msTicks
      let t0 := max (max (max lead (if f.desc.web then s.gath.webRestartAt else 0)) (max tf tn)) arr
      let free := s.fitSlots f.desc v rs (2 * rs.length + 1) (max t0 order)
      let gap := s.g F.GATH_DIEGAP_NOW * msTicks
      if f.desc.web then s.webSew f.desc v rs (max t0 order + gap)
      else some (s.fitSlots f.desc v rs (2 * rs.length + 1) (max free t0 + gap))
  | _, _ => none

end Sys2Proof.Machine
end

