-- ==== Sys2Proof/Machine/Spoil.lean ====
section
/-! DEFINITION. Folios and completions: posting and holding completion records (R56, R58), and spoiling (R74 to R77, R80). -/

namespace Sys2Proof.Machine

def Folio.is (f : Folio) (st fsn : Nat) : Bool := f.desc.stream == st && f.desc.fsn == fsn

/-- The folio of a stream and FSN that the device holds: the latest one that is not terminal, else the latest. -/
def State.folio? (s : State) (st fsn : Nat) : Option Folio := s.gath.folios.find? (fun f => f.is st fsn)

/-- The number of a folio state in trace records, in the order of R59 (R414). -/
def FolioState.code : FolioState → Nat
  | .ingest => 0
  | .accepted => 1
  | .admitted => 2
  | .held => 3
  | .sewn => 4
  | .rectoDone => 5
  | .versoDone => 6
  | .delivered => 7
  | .spoiled => 8
  | .stranded => 9
  | .exhausted => 10
  | .refused => 11
  | .aborted => 12

/-- A FOLIO trace record (R414). -/
def State.traceFolio (s : State) (f : Folio) : State := s.traceEv 2 1 (f.st.code + 16 * f.desc.stream) f.desc.fsn

/-- Changes a folio; a change of its state leaves a trace record. -/
def State.modFolio (s : State) (st fsn : Nat) (g : Folio → Folio) : State :=
  let s1 := { s with gath := { s.gath with folios := modFirst (fun f => f.is st fsn) g s.gath.folios } }
  match s.folio? st fsn with
  | some f => if (g f).st = f.st then s1 else s1.traceFolio (g f)
  | none => s1

def State.modStream (s : State) (n : Nat) (g : Stream → Stream) : State :=
  { s with gath := { s.gath with streams := vmod s.gath.streams n g } }

def State.stream (s : State) (n : Nat) : Stream := vget s.gath.streams n

/-- A terminal state of R59, or no longer held. -/
def FolioState.terminal : FolioState → Bool
  | .delivered => true
  | .refused => true
  | .aborted => true
  | _ => false

/-- The attempt a transition belongs to, modulo 16 (R56, R79). -/
def Folio.tryNo (f : Folio) : Nat :=
  match f.st with
  | .ingest => (f.sewings + 1) % 16
  | .accepted => (f.sewings + 1) % 16
  | .admitted => (f.sewings + 1) % 16
  | .held => (f.sewings + 1) % 16
  | _ => f.sewings % 16

/-- The 16 bytes of a completion record (R56). -/
def Compl.bytes (c : Compl) : List Nat :=
  leBytes 4 c.fsn ++ leBytes 4 (c.kind + 16 * (c.try_ % 16) + 256 * (c.reason % 256) + 0x10000 * c.stranded.toNat
    + 0x20000 * c.operator.toNat + 0x40000 * (c.bin % 8)) ++ leBytes 8 c.stamp

/-- The completion ring of a stream (R27). -/
def complRing (n : Nat) : Nat := 16 + n

/-- Posts a completion, or holds it, or keeps it as a pending mark, in the order of transitions (R58). -/
def State.complete (s : State) (n : Nat) (c : Compl) : State :=
  if (s.stream n).held.isEmpty && (s.stream n).marks.isEmpty && s.canPost (complRing n) 5 then s.ringPutC (complRing n) c.bytes
  else if (s.stream n).marks.isEmpty && (s.stream n).held.length < 64 then
    (if (s.stream n).held.isEmpty then s.sawFull (complRing n) else s).modStream n (fun t => { t with held := t.held ++ [c] })
  else s.modStream n (fun t => { t with marks := t.marks ++ [c] })

/-- Records of a stream that are not committed and whose completion follows the commit. -/
def State.pendingCompl (s : State) (n : Nat) : Nat :=
  ((s.jrn.queue ++ s.jrn.waiting).filter (fun r => r.stream == n && r.compl != 0)).length

/-- Posts the deferred completions at the front whose earlier transitions are all committed. -/
def State.postDeferred (s : State) (n : Nat) : List (Nat × Compl) → State
  | [] => s.modStream n (fun t => { t with deferred := [] })
  | (k, c) :: t => if k = 0 then (s.complete n c).postDeferred n t else s.modStream n (fun x => { x with deferred := (k, c) :: t })

/-- The completion of a transition that has no journal record: posted at once, or after the commits of the stream's earlier transitions
that still wait for theirs, so that the ring keeps the order of transitions (R58). -/
def State.report (s : State) (n : Nat) (c : Compl) : State :=
  if s.pendingCompl n = 0 && (s.stream n).deferred.isEmpty then s.complete n c
  else s.modStream n (fun t => { t with deferred := t.deferred ++ [(s.pendingCompl n, c)] })

/-- The completion of a committed transition, then those that waited for it alone (R56, R58). -/
def State.reportCommit (s : State) (n : Nat) (c : Compl) : State :=
  let s1 := s.complete n c
  s1.postDeferred n ((s1.stream n).deferred.map (fun x => (min (x.1 - 1) (s1.pendingCompl n), x.2)))

/-- One move of R58: a held record to the ring, or a pending mark into the hold. -/
def State.releaseOne (s : State) (n : Nat) : State :=
  let s1 :=
    match (s.stream n).held with
    | c :: t => if s.canPost (complRing n) 5 then (s.modStream n (fun x => { x with held := t })).ringPutC (complRing n) c.bytes else s
    | [] => s
  match (s1.stream n).marks with
  | c :: t => if (s1.stream n).held.length < 64 then s1.modStream n (fun x => { x with held := x.held ++ [c], marks := t }) else s1
  | [] => s1

/-- Free ring entries plus free held-record space (R58). -/
def State.complRoom (s : State) (n : Nat) : Nat :=
  (if s.ringEn (complRing n) then s.ringFree (complRing n) else 0) + (64 - (s.stream n).held.length)

/-- A plain completion of a folio at the present cord time. -/
def State.completeFolio (s : State) (f : Folio) (kind reason : Nat) (stranded operator : Bool) (try_ : Nat) (bin : Nat := 0) : State :=
  s.report f.desc.stream ⟨f.desc.fsn, kind, try_, reason, stranded, operator, bin, s.now⟩

/-- The journal record of a folio's transition, with the completion that follows its commit. -/
def State.folioRecord (s : State) (f : Folio) (type aux : Nat) (stranded operator : Bool) (stamp compl : Nat) : State :=
  s.jrnRequest { type := type, compl := compl, stream := f.desc.stream, try_ := f.tryNo, stranded := stranded, operator := operator,
                 fsn := f.desc.fsn, stamp := stamp, aux := aux }

def State.streamState (s : State) (n : Nat) : Nat := s.g (F.GATH_SSTAT_STATE n)
def State.setStreamState (s : State) (n x : Nat) : State := s.p (F.GATH_SSTAT_STATE n) x

/-- The open signature ends: the lock on other streams is released, and a consumable at its end of life that waited for it no longer
permits sewing (R48, R398): from the tick after the folio with LAST_IN_SIG has been sewn, else at once. -/
def State.closeSig (s : State) (sewn : Bool := false) : State :=
  forRange 0 8 (fun n a =>
    if (vget a.hyw n).eolWait then
      if sewn then { a with hyw := vmod a.hyw n (fun h => { h with eolAt := some (s.now + 1) }) }
      else { a with hyw := vmod a.hyw n (fun h => { h with eolWait := false }) }.p (F.HYW_STAT_PERMIT n) 0
    else a) { s with gath := { s.gath with sigOpen := none } }

/-- A signature is broken when its stream halts or one of its folios is spoiled (R48). -/
def State.breakSig (s : State) (n : Nat) : State :=
  match s.gath.sigOpen with
  | some (m, _) => if m = n then s.closeSig else s
  | none => s

/-- What the decompressors do when a folio leaves before its strokes are imaged (R173): its slots become BLANK and its jobs fetch no further
block. -/
def State.blankFolio (s : State) (st fsn : Nat) : State :=
  let mine : Nat × Nat × Bool → Bool := fun x => x.1 == st && x.2.1 == fsn
  { s with quire := s.quire.map (fun q => { q with slots := q.slots.map (fun x => if mine x.side && x.st == .verified then { x with st := .blank } else x) })
           jobs := s.jobs.map (fun l => l.map (fun j => if mine j.side then { j with dead := true } else j)) }

/-- A folio fed and not sewn leaves ADMITTED or HELD when its stream halts, or when an earlier folio of it is spoiled and must be sewn
again first (R46, R61, R79); its sheet becomes a waste sheet. -/
def Folio.unfeedable (n : Nat) (f : Folio) : Bool :=
  f.desc.stream == n && (f.st == .admitted || f.st == .held) && !(match f.sewing with | some w => w.confirmed | none => false)

def State.unfeed (s0 : State) (n : Nat) : State :=
  let s := s0.gath.folios.foldl (fun a f => if f.unfeedable n then a.blankFolio n f.desc.fsn else a) s0
  { s with gath := { s.gath with
      waste := s.gath.waste ++ (s.gath.folios.filter (Folio.unfeedable n)).map (fun f => f.desc.length)
      folios := s.gath.folios.map (fun f =>
        if f.unfeedable n then { f with st := .accepted, sewing := none, arrival := none } else f) } }

/-- Whether a spoil cause reaches a folio now: in the path and exit not confirmed (R77), and before its diverter passage unless the cause
strands. -/
def State.spoilable (s : State) (f : Folio) (strands : Bool) : Bool :=
  f.inPath && !f.exitOk && (s.now < s.divPass f || strands)

/-- The folio becomes SPOILED before its diverter passage, STRANDED after it (R60, R74, R76, R77); the stream of a stranded one halts, and where
several halts of a stream follow one another the latest gives its state (DESIGN CHOICE, log 67). -/
def State.spoilOne (s : State) (f : Folio) (reason : Nat) : State :=
  let late := !(s.now < s.divPass f)
  let s1 := s.modFolio f.desc.stream f.desc.fsn (fun g =>
    { g with st := if late then .stranded else .spoiled, reason := reason, spoiledAt := some s.now,
             attempts := if reason = 9 || late then g.attempts - 1 else g.attempts,
             armed := g.armed.filter (fun e => !e.1.cancelled) })
  let s2 := if late then s1.setStreamState f.desc.stream stSTRAND else s1
  ((((s2.breakSig f.desc.stream).unfeed f.desc.stream).blankFolio f.desc.stream f.desc.fsn).fixed 2).folioRecord { f with st := .spoiled } 6 reason late false s.now 3

/-- The least diverter passage of a list of folios. -/
def State.minPass (s : State) (fs : List Folio) : Nat := (fs.map s.divPass).foldl min (2 ^ 64)

/-- A folio whose SEWN record is committed and whose sewing point has not come: it is still in HELD, or in ADMITTED in web mode (R60, R69). -/
def Folio.armedUnsewn (f : Folio) : Bool :=
  (f.st == .held || f.st == .admitted) && (match f.sewing with | some w => w.confirmed | none => false)

/-- A spoil cause that reaches such a folio is kept: it takes effect at the sewing point (R60, R74); the first one stands. -/
def Folio.gather (reason : Nat) (f : Folio) : Folio := if f.late = 0 && !f.abortAfter then { f with late := reason } else f

/-- A spoil cause comes to the folios with a fixed sewing point that meet p, and to those that pass the diverter after cut with 0x09. -/
def State.gatherLate (s : State) (p : Folio → Bool) (reason : Nat) (cut : Option Nat) : State :=
  { s with gath := { s.gath with folios := s.gath.folios.map (fun f =>
      if f.armedUnsewn then
        if p f then f.gather reason
        else match cut with | some c => if c < s.divPass f then f.gather 9 else f | none => f
      else f) } }

/-- A folio spoiled in the present tick with a higher code than reason: causes of one tick resolve to the lowest code (R74). -/
def State.outranked (s : State) (f : Folio) (reason : Nat) : Bool :=
  (f.st == .spoiled || f.st == .stranded) && f.spoiledAt == some s.now && reason < f.reason

/-- Such a folio takes the lower code: its attempt counts unless the code is 0x09, a host abort still ends it at its purge, and its record, not yet
committed, carries the code (R74, R79, R82). -/
def State.relabel (s : State) (f : Folio) (reason : Nat) : State :=
  let late := f.st == .stranded
  let code : JRec → JRec := fun r =>
    if r.type == 6 && r.stream == f.desc.stream && r.fsn == f.desc.fsn && r.stamp == s.now then { r with aux := reason } else r
  let s1 := s.modFolio f.desc.stream f.desc.fsn (fun g =>
    { g with reason := reason, abortAfter := g.abortAfter || g.reason == 0x0C,
             attempts := if late then g.attempts else if reason = 9 then g.attempts - 1 else if g.reason = 9 then g.attempts + 1 else g.attempts })
  { s1 with jrn := { s1.jrn with queue := s1.jrn.queue.map code, waiting := s1.jrn.waiting.map code } }

/-- A spoil cause reaches the folios that meet p, with a reason; every later folio by diverter passage follows with 0x09 in the same tick
(R74, R75).  Folios that wait for a fixed sewing point keep the cause; those spoiled in this very tick with a higher code take the lower one. -/
def State.spoilWhere (s : State) (p : Folio → Bool) (reason : Nat) (strands : Bool := false) : State :=
  let hit := s.gath.folios.filter (fun f => p f && s.spoilable f strands)
  let again := s.gath.folios.filter (fun f => p f && s.outranked f reason && (f.st == .spoiled || strands))
  let cut := s.minPass hit
  let behind := s.gath.folios.filter (fun f => !p f && s.outranked f 9 && f.st == .spoiled && !hit.isEmpty && cut < s.divPass f)
  let follow := s.gath.folios.filter (fun f => !(p f && s.spoilable f strands) && s.spoilable f false && cut < s.divPass f)
  let s0 := behind.foldl (fun a f => a.relabel f 9) (again.foldl (fun a f => a.relabel f reason) s)
  let s1 := hit.foldl (fun a f => a.spoilOne f reason) s0
  if hit.isEmpty then s1.gatherLate p reason none else (follow.foldl (fun a f => a.spoilOne f 9) s1).gatherLate p reason (some cut)

/-- The first folio a cause would spoil, which its fault record names (R336). -/
def State.firstHit (s : State) (p : Folio → Bool) (strands : Bool := false) : Option (Nat × Nat) :=
  (oldestWhere (fun f => p f && (s.spoilable f strands || f.armedUnsewn)) s.gath.folios).map (fun f => (f.desc.stream, f.desc.fsn))

/-- A fault that spoils the folios that meet p: the record names the first of them (R336), then they are spoiled. -/
def State.raiseSpoil (s : State) (source code detail : Nat) (cls : Cls) (p : Folio → Bool) (reason : Nat) (strands : Bool := false) : State :=
  (s.raise source code detail cls reason (s.firstHit p strands)).spoilWhere p reason strands

/-- A folio whose side is being imaged, or still to be, on station k. -/
def Folio.usesStation (k : Nat) (f : Folio) : Bool := bit f.desc.stations k

/-- The folios a port's PATH mask names (R242). -/
def Folio.onPath (mask : Nat) (f : Folio) : Bool :=
  f.inPath && (bit mask 0 || (List.range 4).any (fun k => bit mask (1 + k) && f.usesStation k))

/-- The folios that a class-B or class-C fault on a port's source spoils, whatever its code: those of its PATH mask (R242), of its station (R275), or with GATE all in
the path (R266). -/
def State.portFolios (s : State) (src : Nat) (f : Folio) : Bool :=
  if 82 ≤ src && src < 90 then f.onPath (s.g (F.MOT_CTRL_PATH (src - 82)))
  else if 90 ≤ src && src < 102 then s.g (F.STP_CTRL_MODE (src - 90)) = 0 && f.onPath (s.g (F.STP_CTRL_PATH (src - 90)))
  else if 102 ≤ src && src < 114 then f.inPath && f.usesStation (s.g (F.HV_CTRL_STN (src - 102)))
  else if 114 ≤ src && src < 116 then f.inPath && s.on (F.FUS_CTRL_GATE (src - 114))
  else false

/-- A port's fault strands a folio past its diverter: of a mechanism of the whole path, which PATH bit 0 names (R77; DEDUCED, log 67). -/
def State.portStrands (s : State) (src : Nat) : Bool :=
  if 82 ≤ src && src < 90 then bit (s.g (F.MOT_CTRL_PATH (src - 82))) 0
  else if 90 ≤ src && src < 102 then s.g (F.STP_CTRL_MODE (src - 90)) = 0 && bit (s.g (F.STP_CTRL_PATH (src - 90))) 0
  else false

/-- The spoil reason of a source's unit (R74, R333). -/
def srcReason (src : Nat) : Nat :=
  if 64 ≤ src && src < 68 then 6
  else if 82 ≤ src && src < 102 then 4
  else if 102 ≤ src && src < 114 then 7
  else if 114 ≤ src && src < 116 then 8
  else if 74 ≤ src && src < 82 then 0x0A
  else 1

/-- A fault on a unit's source that is none of its own protection's: of class B or C it spoils the port's folios all the same (R242, R266, R275, R340). -/
def State.raisePort (s : State) (e : FaultEv) : State :=
  if e.cls = .a then s.raiseEv e
  else
    let p := s.portFolios e.source
    let e' := match e.folio with | some _ => e | none => { e with folio := s.firstHit p (s.portStrands e.source) }
    (s.raiseEv e').spoilWhere p (srcReason e.source) (s.portStrands e.source)

/-- A folio with strokes of station k left: the side in hand has them. -/
def Folio.imagesOn (k : Nat) (f : Folio) : Bool :=
  f.usesStation k && (!bit f.rectoDone k || (f.desc.duplex && !bit f.versoDone k))

/-- Any folio of R59 that is neither DELIVERED, REFUSED nor ABORTED, one that a replay found stranded included (R81, R89, R446). -/
def State.anyLive (s : State) : Bool := s.gath.folios.any (fun f => !f.st.terminal) || s.gath.streams.any (fun t => !t.stranded.isEmpty)

/-- Any folio in SEWN, RECTO_DONE, VERSO_DONE or SPOILED: the geometry and global sets wait for none (R73, R100). -/
def State.anyInPath (s : State) : Bool := s.gath.folios.any (fun f => f.inPath || f.st == .spoiled)

end Sys2Proof.Machine
end

