-- ==== Sys2Proof/Machine/Kettle.lean ====
section
/-! DEFINITION. What several units share when something fails: a station leaving LOCKED (R112, R114), the lanes held off (R127 to R129),
the journal flush (R353), and the kettle state (R343). -/

namespace Sys2Proof.Machine

/-- The scanner states of R112. -/
def scOFF : Nat := 0
def scSWEEP : Nat := 1
def scCAPTURE : Nat := 2
def scLOCKED : Nat := 3
def scCOAST : Nat := 4
def scFAULT : Nat := 5

/-- The FOC port states of R227. -/
def mOFF : Nat := 0
def mCATCH : Nat := 1
def mBRAKE : Nat := 2
def mALIGN : Nat := 3
def mRAMP : Nat := 4
def mRUN : Nat := 5
def mZT : Nat := 6
def mASC : Nat := 7
def mFAULT : Nat := 8

/-- The pace station (R102). -/
def State.pace (s : State) : Nat := s.ga (F.STR_GLOBAL_PACE 0)

def State.modStr (s : State) (k : Nat) (f : Str → Str) : State := { s with str := vmod s.str k f }

/-- The lanes go low: the pulses of the stroke in hand that have not begun are not made, and one that has begun ends now (R19, R76, R128, R295). -/
def State.dark (s : State) (k : Nat) : State :=
  s.modStr k (fun x =>
    { x with lit := false, buffer := none,
             pulses := (x.pulses.filter (fun p => p.2.1 < 160 * s.now)).map (fun p => (p.1, p.2.1, min p.2.2 (160 * s.now))) })

/-- Puts a scanner in a state, restarting the counts of R112.  With the drive off, or swept, no turn is followed (R108, R112); with it off the pulse has no
width, and the amplitude loop starts afresh; the width in a sweep is a free value up to DRVMAX (log 1). -/
def State.setScan (s : State) (k st : Nat) : State :=
  let s1 := ((s.p (F.STR_STAT_SCAN k) st).traceEv (64 + k) 3 st 0).modStr k (fun x =>
    { x with clean := 0, ampBad := 0, phBad := 0, pull := 0, pairs := 0, since := s.now })
  if st = scOFF || st = scFAULT || st = scSWEEP then
    let s2 := s1.modStr k (fun x =>
      { x with outEdge := none, turning := false, missed := false, turnA := none, turnB := none, acc := 0, ampDue := false, rampDue := false,
               drive := none, apcFrom := none })
    if st = scSWEEP then s2.draw.2.p (F.STR_DRIVE_LEVEL k) (s2.draw.1.toNat % (s.g (F.STR_AMP_DRVMAX k) + 1))
    else s2.p (F.STR_DRIVE_LEVEL k) 0
  else s1

/-- A folio whose strokes on station k are in progress (R114). -/
def State.imaging (s : State) (k : Nat) (f : Folio) : Bool :=
  match (vget s.str k).side with | some (st, fsn, _, _) => f.is st fsn | none => false

/-- One station leaves LOCKED for another state: SCAN_LOCK, and 0x06 for the folio whose strokes are in progress (R114). -/
def State.unlockOne (s : State) (k st : Nat) : State :=
  if s.g (F.STR_STAT_SCAN k) = scLOCKED then
    let s0 := s.setScan k st
    let s1 := if st = scCOAST then s0 else s0.dark k
    s1.raiseSpoil (64 + k) 2 0 .b (fun f => s.imaging k f) 6
  else s.setScan k st

/-- A station leaves LOCKED; when it is the pace station every follower does too, and no process speed is published (R99, R114). -/
def State.unlock (s : State) (k st : Nat) : State :=
  let s1 := s.unlockOne k st
  if k = s.pace then
    forRange 0 4 (fun n a => if n ≠ k && a.g (F.STR_STAT_SCAN n) = scLOCKED then a.unlockOne n scCAPTURE else a) (s1.p (F.STR_SPEED_V 0) 0)
  else s1

/-- The lanes of a station are held off with a cause: at once (R128, R343), or from the end of a stroke in progress (R127); LASER_DIS sets and the
scanner coasts. -/
def State.laserOff (s : State) (k cause : Nat) (atEnd : Bool := false) : State :=
  let s0 := (s.p (F.STR_STAT_LASER_DIS k) 1).p (F.STR_STAT_DISCAUSE k) cause
  let s1 := if atEnd && (vget s.syn (k + 2)).pixelClock then s0.modStr k (fun x => { x with offDue := true })
    else (s0.dark k).modStr k (fun x => { x with lanesOff := true, offDue := false })
  let sc := s.g (F.STR_STAT_SCAN k)
  if sc = scOFF || sc = scFAULT || sc = scCOAST then s1 else s1.unlock k scCOAST

/-- A folio with a stroke on station k still to image (R127). -/
def Folio.toImage (k : Nat) (f : Folio) : Bool := (f.inPath || f.armedUnsewn) && f.imagesOn k

/-- The journal flush begins: it ends when every record queued now is committed (R353); in any state other than OPEN it is complete in the
cycle in which it begins. -/
def State.flushStart (s : State) : State :=
  let n := s.jrn.queue.length + s.jrn.waiting.length
  let s1 := s.p F.JRN_STAT_FLUSHED 0
  if s.g F.JRN_STAT_STATE = jOPEN && n ≠ 0 then { s1 with jrn := { s1.jrn with flushLeft := some n } }
  else { s1 with jrn := { s1.jrn with flushLeft := none } }.p F.JRN_STAT_FLUSHED 1

/-- HV outputs held off, every bank forced to 0 (R275). -/
def State.hvKettle (s : State) (k : Nat) : State :=
  (((({ s with hv := vmod s.hv k (fun h => { h with next := none }) }.p (F.HV_STAT_KETTLE k) 1).p (F.HV_STAT_BANK k) 0).p (F.HV_STAT_INBAND k) 0).setWord .HV_REF k 0 0).setWord .HV_APPLIED k 0 0

/-- A fuser bridge held off: STAT.DRIVE reads zero (R269). -/
def State.fusKettle (s : State) (f : Nat) : State :=
  ((s.p (F.FUS_STAT_KETTLE f) 1).p (F.FUS_STAT_DRIVE f) 0).p (F.FUS_STAT_FREQ f) 0

/-- An FOC port enters a state (R227), with STAT.OVR and a trace record (R414); outside the states under pulse-width modulation no pulse is made. -/
def State.setMotState (s : State) (n st : Nat) : State :=
  let s1 := ((s.p (F.MOT_STAT_STATE n) st).p (F.MOT_STAT_OVR n) (if st = mZT then 1 else if st = mASC then 2 else 0)).traceEv (82 + n) 5 st 0
  { s1 with mot := vmod s1.mot n (fun m =>
      { m with entered := s.now, vNext := none, age := 0, agree := 0, lost := 0, hallBad := 0, winAt := none, brakeOn := false, offAt := none,
               pulses := if mALIGN ≤ st && st ≤ mZT then m.pulses else [] }) }

/-- A stepper port enters a state, with a trace record (R414). -/
def State.setStpState (s : State) (k st : Nat) : State := (s.p (F.STP_STAT_STATE k) st).traceEv (90 + k) 5 st 0

/-- An FOC port that is not in ZT or ASC turns its bridge off (R240). -/
def State.motKettle (s : State) (n : Nat) : State :=
  let st := s.g (F.MOT_STAT_STATE n)
  if st = mZT || st = mASC || st = mFAULT || st = mOFF then s else s.setMotState n mOFF

/-- A stepper port turns its bridges off and sets POSLOST (R240); a bus monitor goes on driving its chopper (log 70). -/
def State.stpKettle (s : State) (k : Nat) : State :=
  if s.g (F.STP_CTRL_MODE k) = 1 then s
  else
    let s1 := s.p (F.STP_STAT_POSLOST k) 1
    let s2 := if s.g (F.STP_STAT_STATE k) = 0xF || s.g (F.STP_STAT_STATE k) = 0 then s1 else s1.setStpState k 0
    { s2 with stp := vmod s2.stp k (fun x => { x with vel := 0, coils := .off, stopping := none, hard := none }) }.p (F.STP_SPEED_V k) 0

/-- The pads named in enabled FCL.KPADk, with their levels (R343). -/
def State.kpads (s : State) : List (Nat × Nat) :=
  ((List.range 8).filter (fun k => s.on (F.FCL_KPAD_EN k))).map (fun k => (s.g (F.FCL_KPAD_RID k) % 4096, s.g (F.FCL_KPAD_LEVEL k)))

/-- Entry into the kettle state (R343): outputs gated, pads driven, folios spoiled under R80, and the journal flush started.  In force, it takes from
a further cause in the tick of its entry a lower reason alone (R334). -/
def State.kettleEnter (s : State) (c : KettleCause) : State :=
  if s.on F.FCL_STAT_KETTLE then s.spoilWhere (fun _ => true) c.reason true
  else
    let s1 := ((((s.p F.FCL_STAT_KETTLE 1).p F.FCL_STAT_KSRC c.source).p F.FCL_STAT_KCODE c.code).fixed 7).traceEv 0 0x0A 1
      (c.source % 256 * 256 + c.code % 256)
    let s2 := { s1 with fcl := { s1.fcl with kpadHeld := s1.kpads, enteredAt := some s1.now }, gath := { s1.gath with runUntil := none } }
    let s3 := s2.spoilWhere (fun _ => true) c.reason true
    let s5 := forRange 0 (s3.blockCount .STR) (fun k a => a.laserOff k 3) s3
    let s6 := forRange 0 (s5.blockCount .HV) (fun k a => a.hvKettle k) s5
    let s7 := forRange 0 (s6.blockCount .FUS) (fun k a => a.fusKettle k) s6
    let s8 := forRange 0 (s7.blockCount .MOT) (fun k a => a.motKettle k) s7
    (forRange 0 (s8.blockCount .STP) (fun k a => a.stpKettle k) s8).flushStart

/-- Raises the OBS_LOST that the present command has caused (R417, R420). -/
def State.settleLost (s : State) : State :=
  if s.obs.lostDue then
    let t := { s with obs := { s.obs with lostDue := false } }.raise 11 2 0 .a
    { t with obs := { t.obs with lostDue := false } }
  else s

/-- Carries out a kettle entry that the present command has caused (R335: in the tick of the event). -/
def State.settleDue (s : State) : State :=
  match s.fcl.due with
  | none => s
  | some c =>
    let s1 := { s with fcl := { s.fcl with due := none } }.kettleEnter c
    { s1 with fcl := { s1.fcl with due := none } }

/-- The end of a command: the kettle entry and the OBS_LOST that it has caused. -/
def State.settle (s : State) : State := s.settleDue.settleLost

/-- The outcome of a command: its next state, after any kettle entry it has caused. -/
def done (s : State) : Host.Outcome State Fault Refusal := .next s.settle

/-- A write that does not reach its register: of an absent core or endpoint (R2), of an endpoint while a reset keeps the BARs closed (R26), or with SYN0 OFF,
which stops the cores and the registers (R283). -/
def State.shut (s : State) (q : Requester) : Bool :=
  match q with
  | .core i => !s.hasCore i || s.g (F.SYN_STAT_STATE 0) = 0
  | .host n => s.hosts ≤ n || s.g F.LCS_BOOTSTAT_STAGE < 2 || s.g (F.SYN_STAT_STATE 0) = 0
  | _ => false

/-- The outcome of a command that is a requester's write of a register. -/
def State.gate (s : State) (q : Requester) (o : Host.Outcome State Fault Refusal) : Host.Outcome State Fault Refusal :=
  if s.shut q then .next s else o

/-- Enters the kettle state for a cause that is no fault event (R45): KSRC and KCODE, which name an event, take free values (log 1). -/
def State.kettleHalt (s : State) : State := s.draw.2.noteDue ⟨s.draw.1.toNat % 256, s.draw.1.toNat / 256 % 256, 1⟩

end Sys2Proof.Machine
end

