-- ==== Sys2Proof/Machine/Pads.lean ====
section
/-! DEFINITION. Pads (R425 to R432, R447), the resources that can be claimed (R30, R33, R214, R255), and the actuator queues (R21). -/

namespace Sys2Proof.Machine

/-- The pad index of a ball at a column and row (R33, R425). -/
def ballIndex (col row : Nat) : Nat := (col - 1) * 38 + (row - 1)
def ballCol (i : Nat) : Nat := i / 38 + 1
def ballRow (i : Nat) : Nat := i % 38 + 1

/-- What a ball is (R426, R429): a claimable pad of a port with its signal's number, a dedicated pad whose place the spec gives, with its TYPE
and BANK, or no pad of this map. -/
inductive PadUse where
  | vid (n sig : Nat)
  | mot (n sig : Nat)
  | stp (k sig : Nat)
  | hv (k sig : Nat)
  | fus (f sig : Nat)
  | con (n : Nat)
  | sns (k : Nat)
  | gp (m : Nat)
  | dedicated (type bank : Nat)
  | none
  deriving DecidableEq, Repr

/-- The signal of a P-VIDn ball by its column and its row less r0 (R426): 0-7 P lines, 8-15 N lines, 16 SCN_A, 17 SCN_B, 18 SCN_I, 19-26
MPD0-MPD7, 27 BDA, 28 BDB; none for VSS. -/
def vidSignal (col dr : Nat) : Option Nat :=
  if col = 35 then some dr
  else if col = 36 then some (8 + dr)
  else if dr = 0 then some (if col = 37 then 16 else 17)
  else if dr = 1 then if col = 37 then some 18 else none
  else if dr = 2 then none
  else if dr ≤ 5 then some (19 + (col - 37) + 2 * (dr - 3))
  else if dr = 6 then some (if col = 37 then 27 else 28)
  else some (if col = 37 then 25 else 26)

def inBox (col row c0 c1 r0 r1 : Nat) : Bool := c0 ≤ col && col ≤ c1 && r0 ≤ row && row ≤ r1

/-- The use of the ball with a given index (R426, R427, R437). -/
def padUse (i : Nat) : PadUse :=
  let c := ballCol i
  let r := ballRow i
  if i ≥ 1444 then .none
  else if inBox c r 35 38 2 36 then
    if (r - 2) % 9 < 8 then (match vidSignal c ((r - 2) % 9) with | some g => .vid ((r - 2) / 9) g | Option.none => .none) else .none
  else if inBox c r 5 10 5 24 then .mot (((c - 5) * 20 + (r - 5)) / 15) (((c - 5) * 20 + (r - 5)) % 15)
  else if inBox c r 29 34 5 18 then .stp (((c - 29) * 14 + (r - 5)) / 7) (((c - 29) * 14 + (r - 5)) % 7)
  else if inBox c r 29 34 19 24 then .hv (((c - 29) * 6 + (r - 19)) / 3) (((c - 29) * 6 + (r - 19)) % 3)
  else if inBox c r 29 34 25 26 then .fus (((c - 29) * 2 + (r - 25)) / 6) (((c - 29) * 2 + (r - 25)) % 6)
  else if inBox c r 29 32 27 28 then .con ((c - 29) * 2 + (r - 27))
  else if inBox c r 5 8 25 32 then .sns ((c - 5) * 8 + (r - 25))
  else if inBox c r 12 17 25 32 then .gp ((c - 12) * 8 + (r - 25))
  else if inBox c r 9 9 25 32 then .dedicated 2 1
  else if inBox c r 18 23 26 33 then .dedicated 0 0
  else if inBox c r 24 24 26 30 then .dedicated 0 0
  else if c = 26 && (r = 28 || r = 29 || r = 30) then .dedicated 0 0
  else .none

/-- The ball is NC on the variant (R428). -/
def State.padNC (s : State) (i : Nat) : Bool :=
  s.is4820 &&
  match padUse i with
  | .vid n _ => 2 ≤ n
  | .mot n _ => 4 ≤ n
  | .stp k _ => 6 ≤ k
  | .hv k _ => 6 ≤ k
  | .fus f _ => 1 ≤ f
  | .con n => 4 ≤ n
  | .none => inBox (ballCol i) (ballRow i) 1 4 28 37 || inBox (ballCol i) (ballRow i) 8 30 35 38
  | _ => false

/-- A claimable pad of R429 (on any variant). -/
def padClaimable (i : Nat) : Bool :=
  match padUse i with
  | .dedicated _ _ => false
  | .none => false
  | _ => true

/-- PADCFG.TYPE (R447): 0 digital, 1 LVDS, 2 ADC. -/
def padType (i : Nat) : Nat :=
  match padUse i with
  | .vid _ g => if g < 16 then 1 else if g = 18 || (19 ≤ g && g ≤ 26) then 2 else 0
  | .mot _ g => if 6 ≤ g && g ≤ 10 then 2 else 0
  | .stp _ g => if g = 4 || g = 5 then 2 else 0
  | .hv _ g => if g = 1 || g = 2 then 2 else 0
  | .fus _ g => if 2 ≤ g then 2 else 0
  | .dedicated t _ => t
  | _ => 0

/-- PADCFG.BANK (R447). -/
def padBank (i : Nat) : Nat :=
  match padUse i with
  | .vid _ _ => 1
  | .dedicated _ b => b
  | .none => 0
  | _ => if padType i = 2 then 1 else 2

/-! The pads of each port, in the order of its signals (R426). -/

def vidPads (n : Nat) : List Nat :=
  let r0 := 2 + 9 * n
  (List.range 8).map (fun k => ballIndex 35 (r0 + k)) ++ (List.range 8).map (fun k => ballIndex 36 (r0 + k))
    ++ [ballIndex 37 r0, ballIndex 38 r0, ballIndex 37 (r0 + 1)]
    ++ (List.range 6).map (fun k => ballIndex (37 + k % 2) (r0 + 3 + k / 2)) ++ [ballIndex 37 (r0 + 7), ballIndex 38 (r0 + 7)]
    ++ [ballIndex 37 (r0 + 6), ballIndex 38 (r0 + 6)]
def motPads (n : Nat) : List Nat := (List.range 15).map (fun g => ballIndex (5 + (15 * n + g) / 20) (5 + (15 * n + g) % 20))
def stpPads (k : Nat) : List Nat := (List.range 7).map (fun g => ballIndex (29 + (7 * k + g) / 14) (5 + (7 * k + g) % 14))
def hvPads (k : Nat) : List Nat := (List.range 3).map (fun g => ballIndex (29 + (3 * k + g) / 6) (19 + (3 * k + g) % 6))
def fusPads (f : Nat) : List Nat := (List.range 6).map (fun g => ballIndex (29 + (6 * f + g) / 2) (25 + (6 * f + g) % 2))
def conPad (n : Nat) : Nat := ballIndex (29 + n / 2) (27 + n % 2)
def snsPad (k : Nat) : Nat := ballIndex (5 + k / 8) (25 + k % 8)

/-! ### Resources (R30, R33, R214, R255) -/

def ridClass (rid : Nat) : Nat := rid / 4096 % 16
def ridIndex (rid : Nat) : Nat := rid % 4096
def sliceRid (i : Nat) : Nat := 0x2000 + i
def adcRid (i : Nat) : Nat := 0x3000 + i
def granRid (g : Nat) : Nat := 0x4000 + g

/-- The port a PWM slice belongs to, as a block and instance (R214, R255). -/
def sliceOwner (i : Nat) : Option (Block × Nat) :=
  if i < 24 then some (.MOT, i / 3)
  else if i < 48 then some (.STP, (i - 24) / 2)
  else if i < 60 then some (.HV, i - 48)
  else if i < 62 then some (.FUS, i - 60)
  else none

/-- The port an ADC slot belongs to (R214, R255). -/
def adcOwner (i : Nat) : Option (Block × Nat) :=
  if i < 40 then some (.MOT, i / 5)
  else if i < 64 then some (.STP, (i - 40) / 2)
  else if i < 88 then some (.HV, (i - 64) / 2)
  else if i < 96 then some (.FUS, (i - 88) / 4)
  else none

/-- Quire-store granules of the variant (R33). -/
def State.granules (s : State) : Nat := if s.is4820 then 128 else 256

/-- A resource that can be claimed on this variant (R30, R33, R429). -/
def State.ridExists (s : State) (rid : Nat) : Bool :=
  match ridClass rid with
  | 1 => padClaimable (ridIndex rid) && !s.padNC (ridIndex rid)
  | 2 => match sliceOwner (ridIndex rid) with | some (b, n) => n < s.blockCount b | none => false
  | 3 => match adcOwner (ridIndex rid) with | some (b, n) => n < s.blockCount b | none => false
  | 4 => ridIndex rid < s.granules
  | _ => false

/-! ### Resources of a port (R214, R255) -/

/-- The requester owns every slice, ADC slot and pad of a port (R215). -/
def State.ownsAll (s : State) (q : Requester) (slices slots pads : List Nat) : Bool :=
  slices.all (fun i => s.owns q (sliceRid i)) && slots.all (fun i => s.owns q (adcRid i)) && pads.all (fun i => s.owns q (padRid i))

def motSlices (n : Nat) : List Nat := [3 * n, 3 * n + 1, 3 * n + 2]
def motSlots (n : Nat) : List Nat := (List.range 5).map (fun i => 5 * n + i)

/-- ADC slots are on their port's schedule: a freed slot is taken off it (R32), and the port that is enabled with them puts them on. -/
def State.adcLive (s : State) (slots : List Nat) : Bool := slots.all (fun i => !s.adcOff.contains i)
def State.adcOn (s : State) (slots : List Nat) : State := { s with adcOff := s.adcOff.filter (fun i => !slots.contains i) }

/-! ### Pads as outputs (R430 to R432) -/

def State.padFunc (s : State) (i : Nat) : Nat := s.g (F.PMX_PADCFG_FUNC i)

/-- PADCFG.OUT: the level a KPADk holds, else the level its queue last set. -/
def State.padOut (s : State) (i : Nat) : Nat :=
  match s.fcl.kpadHeld.find? (fun x => x.1 == i) with
  | some (_, l) => l
  | none => Cells.get 0 i s.padOuts

/-- An AT or EMIT takes effect on a pad (R192, R430, R432): only with FUNC 0x1 or 0x2; in the kettle state a KPADk keeps the ball. -/
def State.padSet (s : State) (i v : Nat) : State :=
  if s.padFunc i = 1 || s.padFunc i = 2 then
    let s1 := { s with padOuts := Cells.put 0 i (v % 2) s.padOuts }
    if s.on F.FCL_STAT_KETTLE then s1
    else { s1 with fcl := { s1.fcl with kpadHeld := s1.fcl.kpadHeld.filter (fun x => x.1 != i) } }
  else s

/-- A pad as it is after a FREE and at reset (R32, R431): an input with its pull-down enabled. -/
def State.padReset (s : State) (i : Nat) : State :=
  let s1 := { (s.resetReg .PMX_PADCFG 0 i) with padOuts := Cells.put 0 i 0 s.padOuts }
  match padUse i with
  | .sns k =>
    let w := s1.g F.PMX_SNSWIRE_EN
    let f := s1.g F.PMX_SNSSTAT_FAULTY
    (s1.p F.PMX_SNSWIRE_EN (setBit w k false)).p F.PMX_SNSSTAT_FAULTY (setBit f k false)
  | _ => s1

/-- A unit configures its pads when its EN sets, and returns them when it clears (R430). -/
def State.portPads (s : State) (pads : List Nat) (func : Nat) : State := pads.foldl (fun a i => a.p (F.PMX_PADCFG_FUNC i) func) s

/-! ### Actuator queues (R21, R192) -/

/-- The queue of an actuator, in cord-time order. -/
def State.actQueue (s : State) (id : Nat) : List ActEvent := Cells.get [] id s.acts

/-- Inserts an event in cord-time order. -/
def insertEvent (e : ActEvent) : List ActEvent → List ActEvent
  | [] => [e]
  | x :: t => if e.t < x.t then e :: x :: t else x :: insertEvent e t

def State.setActQueue (s : State) (id : Nat) (l : List ActEvent) : State :=
  { s with acts := Cells.put [] id l s.acts }

/-- The unit on whose source an actuator's refusals and late events are raised (R21, R332): the port of a slice, or of a port's pad, else
PMX. -/
def actSource (id : Nat) : Nat :=
  match ridClass id with
  | 2 => match sliceOwner (ridIndex id) with | some (b, n) => b.source n | none => 6
  | _ =>
    match padUse (ridIndex id) with
    | .vid n _ => Block.source .STR n
    | .mot n _ => Block.source .MOT n
    | .stp k _ => Block.source .STP k
    | .hv k _ => Block.source .HV k
    | .fus f _ => Block.source .FUS f
    | .con n => Block.source .HYW n
    | _ => 6

/-- The spoil reason of the unit that owns an actuator (R21, R74, R333). -/
def actReason (id : Nat) : Nat := srcReason (actSource id)

/-- A folio past its sewing point that loses an event is spoiled with the owning unit's reason (R21). -/
def State.loseEvent (s : State) (e : ActEvent) (id : Nat) : State :=
  match e.folio with
  | some (st, fsn) => s.spoilWhere (fun f => f.is st fsn) (actReason id)
  | none => s

/-- An event reaches its actuator's queue and is judged (R21): fewer than 16 ticks before its time it is late; at a time the queue already
holds, or with 32 events held, it is refused. -/
def State.actArrive (s : State) (id : Nat) (e : ActEvent) (detail : Nat) : State :=
  if e.t < s.now + 16 then (s.raisePort ⟨actSource id, cACT_LATE, detail, .b, actReason id, e.folio, false⟩).loseEvent e id
  else if (s.actQueue id).any (fun x => x.t == e.t) || 32 ≤ (s.actQueue id).length then
    (s.raise (actSource id) cACT_REFUSED detail .a).loseEvent e id
  else s.setActQueue id (insertEvent e (s.actQueue id))

end Sys2Proof.Machine
end

