-- ==== Sys2Proof/Machine/Shadow.lean ====
section
/-! DEFINITION. Shadowed register sets and the COMMIT protocol (R34 to R37). -/

namespace Sys2Proof.Machine

/-- The synthesiser states of R282. -/
def syOFF : Nat := 0
def syACQUIRE : Nat := 1
def syLOCKED : Nat := 2
def syHOLD : Nat := 3

/-- The unit of a shadowed set. -/
def ShadowSet.unit : ShadowSet → Block × Nat
  | .gathGeom => (.GATH, 0)
  | .strGlobal => (.STR, 0)
  | .strPhase n => (.STR, n)
  | .strImaging n => (.STR, n)
  | .motPwm n => (.MOT, n)
  | .motAdv n => (.MOT, n)
  | .stpProfile k => (.STP, k)
  | .synDiv => (.SYN, 0)

/-- The COMMIT register of a set (R34). -/
def ShadowSet.commitReg : ShadowSet → Reg
  | .gathGeom => .GATH_GCOMMIT
  | .strGlobal => .STR_GCOMMIT
  | .strPhase _ => .STR_PCOMMIT
  | .strImaging _ => .STR_COMMIT
  | .motPwm _ => .MOT_COMMIT
  | .motAdv _ => .MOT_ADVCOMMIT
  | .stpProfile _ => .STP_PCOMMIT
  | .synDiv => .SYN_DCOMMIT

/-- The registers of a set, with their repetition counts. -/
def ShadowSet.regs : ShadowSet → List (Reg × Nat)
  | .gathGeom => [(.GATH_GEOM0, 1), (.GATH_GEOM1, 1), (.GATH_GEOM2, 1), (.GATH_GEOM3, 1), (.GATH_GEOM4, 1)]
  | .strGlobal => [(.STR_GLOBAL, 1)]
  | .strPhase _ => [(.STR_PHASE, 1)]
  | .strImaging _ =>
    [(.STR_WINDOW, 1), (.STR_PROF, 1), (.STR_PULSE, 1), (.STR_REGSCAN, 1), (.STR_DIROFS, 1), (.STR_BEAMOFS, 8)]
  | .motPwm _ => [(.MOT_PWM, 1), (.MOT_PHOFS, 1)]
  | .motAdv _ => [(.MOT_ADV, 32)]
  | .stpProfile _ =>
    [(.STP_VSTART, 1), (.STP_VSTOP, 1), (.STP_V1, 1), (.STP_VMAX, 1), (.STP_A1, 1), (.STP_A2, 1), (.STP_TARGET, 1)]
  | .synDiv => [(.SYN_DIV, 1), (.SYN_CKO, 2)]

/-- The home domain of a set (R35): CORE sets are reached at once, CTL sets after 3 ticks, imaging sets when the profile copy is complete. -/
inductive Home where
  | core | ctl | vid
  deriving DecidableEq, Repr

def ShadowSet.home : ShadowSet → Home
  | .gathGeom => .core
  | .strGlobal => .core
  | .strPhase _ => .core
  | .strImaging _ => .vid
  | _ => .ctl

/-- PEND, LATE_WR and LATE_CNT stand at the same bits of every COMMIT register (R34). -/
def ShadowSet.field (x : ShadowSet) (hi lo : Nat) : FieldRef := ⟨x.commitReg, x.unit.2, 0, hi, lo⟩
def ShadowSet.pend (x : ShadowSet) : FieldRef := x.field 31 31
def ShadowSet.lateWr (x : ShadowSet) : FieldRef := x.field 30 30
def ShadowSet.lateCnt (x : ShadowSet) : FieldRef := x.field 23 8

/-- The set a register is a shadow of, if any (R34). -/
def shadowSetOf (r : Reg) (n : Nat) : Option ShadowSet :=
  match r with
  | .GATH_GEOM0 => some .gathGeom
  | .GATH_GEOM1 => some .gathGeom
  | .GATH_GEOM2 => some .gathGeom
  | .GATH_GEOM3 => some .gathGeom
  | .GATH_GEOM4 => some .gathGeom
  | .STR_GLOBAL => if n = 0 then some .strGlobal else none
  | .STR_PHASE => some (.strPhase n)
  | .STR_WINDOW => some (.strImaging n)
  | .STR_PROF => some (.strImaging n)
  | .STR_PULSE => some (.strImaging n)
  | .STR_REGSCAN => some (.strImaging n)
  | .STR_DIROFS => some (.strImaging n)
  | .STR_BEAMOFS => some (.strImaging n)
  | .MOT_PWM => some (.motPwm n)
  | .MOT_PHOFS => some (.motPwm n)
  | .MOT_ADV => some (.motAdv n)
  | .STP_VSTART => some (.stpProfile n)
  | .STP_VSTOP => some (.stpProfile n)
  | .STP_V1 => some (.stpProfile n)
  | .STP_VMAX => some (.stpProfile n)
  | .STP_A1 => some (.stpProfile n)
  | .STP_A2 => some (.stpProfile n)
  | .STP_TARGET => some (.stpProfile n)
  | .SYN_DIV => if n = 0 then some .synDiv else none
  | .SYN_CKO => if n = 0 then some .synDiv else none
  | _ => none

/-- A write rejected while PEND is 1 (R36): counted, flagged, and the first one since LATE_WR was clear raises LATE_WR. -/
def State.lateWrite (s : State) (x : ShadowSet) (q : Requester) : State :=
  let s1 := if s.on x.lateWr then s else s.unitFault x.unit.1 x.unit.2 q cLATE_WR
  (s1.inc x.lateCnt).p x.lateWr 1

/-- Copies one register to its active copy, for k = 0 … count - 1. -/
def State.copyReg (s : State) (r : Reg) (n : Nat) : (count : Nat) → State
  | 0 => s
  | c + 1 => (s.copyReg r n c).setActive r n c ((s.copyReg r n c).word r n c)

/-- Copies all shadows of a set to the active copies and clears PEND (R35). -/
def State.copySet (s : State) (x : ShadowSet) : State :=
  let s1 := x.regs.foldl (fun a rc => a.copyReg rc.1 x.unit.2 rc.2) s
  { s1 with commits := s1.commits.filter (fun c => c.set != x),
            copied := (x, s.now) :: s1.copied.filter (fun c => c.2 == s.now && c.1 != x) }.p x.pend 0

/-- PEND is 1, or was in the cycle of the copy: a write in that cycle counts as made while PEND is 1 (R36); a cycle is taken as a CTL tick (log 66). -/
def State.pendNow (s : State) (x : ShadowSet) : Bool := s.on x.pend || s.copied.contains (x, s.now)

/-- A unit's reset withdraws the pending commits of its sets (R37). -/
def State.dropCommits (s : State) (u : Block × Nat) : State :=
  { s with commits := s.commits.filter (fun c => !(c.set.unit == u)), copied := s.copied.filter (fun c => !(c.1.unit == u)) }

/-- The pending commit of a set. -/
def State.commitOf (s : State) (x : ShadowSet) : Option Commit := s.commits.find? (fun c => c.set == x)

/-- The COMMIT has reached the unit by now (R35). -/
def State.reached (s : State) (x : ShadowSet) : Bool :=
  match s.commitOf x with
  | some c => match c.reach with | some t => t ≤ s.now | none => false
  | none => false

/-- GO on a set whose judgement passed: PEND sets, the shadows are locked (R35). -/
def State.startCommit (s : State) (x : ShadowSet) : State :=
  let reach := match x.home with | .core => some s.now | .ctl => some (s.now + 3) | .vid => none
  ({ s with commits := s.commits ++ [{ set := x, go := s.now, reach := reach }] } : State).p x.pend 1

end Sys2Proof.Machine
end

