-- ==== Sys2Proof/Machine/Station.lean ====
section
/-! DEFINITION. The stations: scanner, beam detect and turn points (R94 to R114), chirp profiles (R115 to R118), read-out (R119 to R124),
laser power slots and lane frames (R125, R126), laser critical events (R127 to R129), calibration (R131, R132), polygon mode (R133,
R134). -/

namespace Sys2Proof.Machine

/-- The fault codes of R135, in the order of its table (R333). -/
def cBD_MISS : Nat := 1
def cSCAN_LOCK : Nat := 2
def cSCAN_START : Nat := 3
def cSCAN_PULL : Nat := 4
def cSCAN_COIL : Nat := 5
def cSCAN_RANGE : Nat := 6
def cPACE_DRIFT : Nat := 7
def cSPEED_HIGH : Nat := 8
def cPROF_RANGE : Nat := 9
def cSTROKE_LATE : Nat := 10
def cAPC_SKIP : Nat := 11
def cLANE_CMD : Nat := 12
def cLD_THERM : Nat := 13
def cLD_FAULT : Nat := 14

def State.st (s : State) (k : Nat) : Str := vget s.str k
def State.scan (s : State) (k : Nat) : Nat := s.g (F.STR_STAT_SCAN k)
def State.tEst (s : State) (k : Nat) : Nat := s.g (F.STR_PERIOD_T_EST k)
def State.polygon (s : State) (k : Nat) : Bool := s.g (F.STR_CTRL_MODE k) == 1

/-- The VIDn follower is within tolerance (R19): else the station's cord-timed events are gated off. -/
def State.vidOk (s : State) (k : Nat) : Bool := bit (s.g F.CORD_STAT_VID_OK) k

/-- A station enters FAULT with its fault; leaving LOCKED raises SCAN_LOCK as well (R112, R135).  R135's table gives SCAN_START no effect on folios; the
reason 0x06 that its record carries into a kettle entry is the model's (DESIGN CHOICE, log 69). -/
def State.scanFault (s : State) (k code : Nat) : State :=
  let p := fun (f : Folio) => s.imaging k f
  let s1 := (s.raise (64 + k) code 0 .b 6 (s.firstHit p)).unlock k scFAULT
  s1.spoilWhere (fun f => s.imaging k f) 6

/-- Starts an enabled station's scanner (R112, R134): the pace station sweeps; a follower captures once the pace station is LOCKED; a
polygon station captures once its motor reports speed lock; while its synthesiser is not LOCKED the scanner stays OFF (R283).  A follower starts at
its PHASE. -/
def State.scanStart (s0 : State) (k : Nat) : State :=
  let s := s0.modStr k (fun x => { x with slew := s0.ga (F.STR_PHASE_PHASE k) })
  if s.g (F.SYN_STAT_STATE (k + 2)) ≠ syLOCKED then s
  else if s.on (F.STR_STAT_LASER_DIS k) then s.setScan k scCOAST
  else if s.polygon k then
    if s.on (F.MOT_STAT_SLOCK (s.g (F.STR_POLY_MOT k))) then s.setScan k scCAPTURE else s
  else if k = s.pace then s.setScan k scSWEEP
  else if s.scan s.pace = scLOCKED then s.setScan k scCAPTURE
  else s

/-- The driver's fault output reads asserted on the sensor input it is wired to (R128). -/
def State.driverFault (s : State) (k : Nat) : Bool := Cells.get 0 (snsPad (s.g (F.STR_CTRL_LDFLT k))) s.padIns % 2 == 1

/-- The lanes are held off for a cause, and folios with a stroke on the station still to image are spoiled with 0x02 (R127, R128). -/
def State.laserFault (s : State) (k code cause : Nat) (atEnd : Bool := false) : State :=
  (s.raiseSpoil (64 + k) code 0 .b (Folio.toImage k) 2).laserOff k cause atEnd

/-- A unit reset of STRn (R37, R38). -/
def State.strReset (s : State) (k : Nat) : State :=
  let s1 := s.unlock k scOFF
  let s2 := (s1.portPads (vidPads k) 0).resetBlock .STR k
  { s2 with str := vmod s2.str k (fun _ => {}) }.dropCommits (.STR, k)

/-- A write of STRn.CTRL (R94, R131, R133 and the map): judged whole.  A polygon station is enabled only by a requester that owns every resource of the
motor's port (R133): a station itself never holds a claim (R31; DEDUCED, log 69).  LDFLTEN set while the fault input is asserted is LD_FAULT. -/
def State.strCtrlWrite (s : State) (q : Requester) (k v : Nat) : State :=
  let en := bit v 0
  let calrun := bit v 2
  let mot := s.g (F.STR_POLY_MOT k)
  if bit v 31 then s.strReset k
  else if 2 ≤ bits v 30 29 then s.unitFault .STR k q cRESERVED_ENC
  else if s.on (F.STR_CTRL_EN k) && bits v 30 29 ≠ s.g (F.STR_CTRL_MODE k) then s.unitFault .STR k q cSTATE_REFUSED
  else if en && !s.on (F.STR_CTRL_EN k) && (vidPads k).any (fun i => s.owned (padRid i) && !s.owns q (padRid i)) then
    s.unitFault .STR k q cSTATE_REFUSED
  else if en && !s.on (F.STR_CTRL_EN k) && bits v 30 29 = 1 && !s.ownsAll q (motSlices mot) (motSlots mot) (motPads mot) then
    s.unitFault .STR k q cSTATE_REFUSED
  else if calrun && !s.on (F.STR_CTRL_CALRUN k)
      && s.gath.folios.any (fun f => (f.inPath || f.st == .spoiled) && f.usesStation k) then s.unitFault .STR k q cSTATE_REFUSED
  else
    let was := s.on (F.STR_CTRL_EN k)
    let watched := s.on (F.STR_CTRL_LDFLTEN k)
    let s1 := s.setWord .STR_CTRL k 0 (bits v 30 13 * 2 ^ 13 + v % 8)
    let s2 := if calrun then s1 else s1.modStr k (fun x => { x with calLeft := 0, calAt := none })
    let s3 := if bit v 20 && !watched && s2.driverFault k then s2.laserFault k cLD_FAULT 2 else s2
    if en && !was then (s3.portPads (vidPads k) 3).scanStart k
    else if !en && was then ((s3.dark k).portPads (vidPads k) 0).unlock k scOFF
    else s3

/-- STATION_ENABLE (R94): the write of STRn.CTRL that sets EN. -/
def execStationEnable (q : Requester) (k v : Nat) (s : State) : Host.Outcome State Fault Refusal :=
  s.gate q (if k < s.blockCount .STR then done (s.strCtrlWrite q k (setBit v 0 true)) else .next s)

/-- CALRUN_WRITE (R131): the write of STRn.CTRL that sets or clears CALRUN and leaves the other fields. -/
def execCalrunWrite (q : Requester) (k : Nat) (on : Bool) (s : State) : Host.Outcome State Fault Refusal :=
  s.gate q (if k < s.blockCount .STR then done (s.strCtrlWrite q k (setBit (s.word .STR_CTRL k 0) 2 on)) else .next s)

/-! ### Process speed (R99, R101, R105) -/

/-- v in um/s from T_est of the pace station and B; a polygon station's facet period gives one stroke a period (R99, R134). -/
def State.speedOf (s : State) (b : Nat) : Nat :=
  let t := s.tEst s.pace
  if t = 0 then 0 else b * (if s.polygon s.pace then 338720000000 else 677440000000) / t

/-- Publishes v while the pace station is LOCKED, and judges SPEED_HIGH (R101). -/
def State.publishSpeed (s : State) : State :=
  let v := if s.scan s.pace = scLOCKED then s.speedOf (s.ga (F.STR_GLOBAL_B 0)) else 0
  let s1 := s.p (F.STR_SPEED_V 0) v
  if v > 1010000 && !(s.st 0).speedHigh then (s1.raise (64 + s.pace) cSPEED_HIGH 0 .a).modStr 0 (fun x => { x with speedHigh := true })
  else if v < 1005000 && v ≠ 0 then s1.modStr 0 (fun x => { x with speedHigh := false })
  else s1

/-- T_est departs from a folio's record by more than DRIFT ppm (R105). -/
def State.drifted (s : State) (f : Folio) : Bool :=
  f.inPath && match f.sewing with
  | some w =>
    let t := s.tEst s.pace
    s.ga (F.STR_GLOBAL_DRIFT 0) * w.tEst < (if t < w.tEst then w.tEst - t else t - w.tEst) * 1000000
  | none => false

/-- PACE_DRIFT (R105). -/
def State.judgeDrift (s : State) : State :=
  if (s.firstHit s.drifted).isSome then s.raiseSpoil (64 + s.pace) cPACE_DRIFT 0 .a s.drifted 3 else s

/-- T_est in range: 2.4 to 3.6 kHz, or a facet rate of 500 to 6,000 Hz (R112, R134). -/
def State.periodOk (s : State) (k : Nat) : Bool :=
  let t := s.tEst k
  if s.polygon k then t * 500 ≤ 16000000000 && 16000000000 ≤ t * 6000 else t * 2400 ≤ 16000000000 && 16000000000 ≤ t * 3600

/-- A valid period measurement updates T_est (R108), then the speed, drift and range rules.  The first one gives T_est itself (log 16). -/
def State.measured (s : State) (k tMeas : Nat) : State :=
  let t := s.tEst k
  let t' : Nat := if t = 0 then tMeas else ((t : Int) + ((tMeas : Int) - t) / 8).toNat
  let s1 := s.p (F.STR_PERIOD_T_EST k) t'
  let s2 := if k = s.pace then s1.publishSpeed.judgeDrift else s1
  if s2.periodOk k || s2.scan k = scOFF || s2.scan k = scFAULT then s2 else s2.scanFault k cSCAN_RANGE

/-! ### Beam detect (R107 to R110) -/

/-- The predicted turn point of the end in hand: the last turn of the other end plus T_est / 2 (R109). -/
def State.predTurn (s : State) (k : Nat) (farEnd : Bool) : Option Nat :=
  if s.polygon k then (s.st k).turnA.map (· + s.tEst k)
  else (if farEnd then (s.st k).turnA else (s.st k).turnB).map (· + s.tEst k / 2)

/-- Distance of two stamps. -/
def distN (a b : Nat) : Nat := if a < b then b - a else a - b

/-- BDWIN and BDTOL in 1/64 tick. -/
def State.bdWin (s : State) (k : Nat) : Nat := s.g (F.STR_BD_BDWIN k) * 5 * 64
def State.bdTol (s : State) (k : Nat) : Nat := s.g (F.STR_BD_BDTOL k) * 64

/-- The predicted edge of a turn: half the last crossing interval to either side of its turn point (R109); a facet has the one edge (R133). -/
def State.predEdge (s : State) (k : Nat) (farEnd rising : Bool) : Option Nat :=
  (s.predTurn k farEnd).map (fun t => if s.polygon k then t else if rising then t - (s.st k).interval / 2 else t + (s.st k).interval / 2)

/-- The end of the turn in hand, or of the next one, and whether its outbound edge comes next. -/
def State.nextTurn (s : State) (k : Nat) : Bool × Bool :=
  if s.polygon k then (false, true) else if (s.st k).turning then ((s.st k).farEnd, false) else (!(s.st k).farEnd, true)

/-- The beam-detect emitter is lit at a time (R109): in SWEEP and CAPTURE continuously, in LOCKED within BDWIN of the next predicted edge; with the lasers
off it is dark.  A polygon station's, which does not sweep, is lit from OFF on (R134). -/
def State.bdLit (s : State) (k t : Nat) : Bool :=
  if s.scan k = scSWEEP || s.scan k = scCAPTURE then true
  else if s.scan k = scLOCKED then
    match s.predEdge k (s.nextTurn k).1 (s.nextTurn k).2 with
    | some p => distN t p ≤ s.bdWin k
    | none => false
  else s.polygon k && (s.scan k = scOFF || s.scan k = scFAULT)

/-- The window of the next predicted edge is over (R109, R110). -/
def State.windowOver (s : State) (k : Nat) : Bool :=
  match s.predEdge k (s.nextTurn k).1 (s.nextTurn k).2 with
  | some p => p + s.bdWin k + s.g (F.STR_BD_BDLAT k) ≤ 64 * s.now
  | none => false

/-- A stroke misses beam detect, once (R110): the count, BD_MISS, and two in a row leave LOCKED.  Misses are not counted in COAST. -/
def State.bdMiss (s : State) (k : Nat) : State :=
  if (s.st k).missed then s
  else
    let s0 := s.modStr k (fun x => { x with missed := true, clean := 0, pairs := 0 })
    if s.scan k = scLOCKED || s.scan k = scCAPTURE then
      let s1 := (((s0.inc (F.STR_BDSTAT_MISSCNT k)).inc (F.STR_BDSTAT_CONSEC k)).count 0x32 k 1).raise (64 + k) cBD_MISS 0 .a
      if s.scan k = scLOCKED && 2 ≤ s1.g (F.STR_BDSTAT_CONSEC k) then (s1.p (F.STR_BDSTAT_TWOMISS k) 1).unlock k scCAPTURE else s1
    else s0

/-- PHASE as a follower slews to it (R103): at most 1/4,096 period a period, by the shorter way round. -/
def slewTo (was target : Nat) : Nat :=
  let d := (target + 2 ^ 20 - was) % 2 ^ 20
  if d ≤ 2 ^ 19 then (was + min d 256) % 2 ^ 20 else (was + 2 ^ 20 - min (2 ^ 20 - d) 256) % 2 ^ 20

/-- A turn is over with its turn point: the loops and the next ramp restart are due, and once a period a follower's phase slews on (R103, R111,
R115). -/
def State.turnDone (s : State) (k : Nat) (farEnd : Bool) (turn : Nat) : State :=
  s.modStr k (fun x =>
    { x with outEdge := none, turning := false, missed := false, farEnd := farEnd, ampDue := true, rampDue := true,
             turnA := if farEnd then x.turnA else some turn, turnB := if farEnd then some turn else x.turnB,
             slew := if farEnd then x.slew else slewTo x.slew (s.ga (F.STR_PHASE_PHASE k)) })

/-- The time the next stroke starts: half a period after the last, a facet period in polygon mode (R106, R134). -/
def State.nextStart (s : State) (k : Nat) : Nat := (s.st k).strokeStart + (if s.polygon k then s.tEst k else s.tEst k / 2)

/-- The side whose strokes come next on a station: the one in hand, or the earliest armed one whose time the next stroke meets (R106). -/
def State.sideFor (s : State) (k : Nat) : Option (Nat × Nat × Bool × Nat) :=
  match (s.st k).side with
  | some x => some x
  | none =>
    (s.gath.folios.filterMap (fun f =>
      if f.inPath then
        (f.armed.find? (fun e =>
          (e.1 == .stroke k false && f.st == .sewn && !bit f.rectoDone k || e.1 == .stroke k true && f.st != .sewn && !bit f.versoDone k)
            && 64 * e.2 ≤ s.nextStart k + s.tEst k / 4)).map
          (fun e => (f.desc.stream, f.desc.fsn, e.1 == .stroke k true, s.strokesOf f.desc))
      else none)).head?

/-- The slot stride of a station's quire ring: 4 bytes a column, rounded up to 64 (R119, R169). -/
def slotStride (npix : Nat) : Nat := ceilDiv (4 * npix) 64 * 64

/-- Reading a slot returns it to EMPTY (R169). -/
def State.popSlot (s : State) (k : Nat) : State :=
  { s with quire := vmod s.quire k (fun q => { q with slots := q.slots.drop 1 }) }

/-- A slot of a spoiled folio is read at the stroke it would have had; a BLANK one whose folio is spoiled no longer, and one whose folio is gone, at the
next stroke (R173; log 14). -/
def State.drainBlank (s : State) (k : Nat) : State :=
  match (vget s.quire k).slots.head? with
  | some x =>
    match s.gath.folios.find? (fun f => f.is x.side.1 x.side.2.1) with
    | some f =>
      if f.st == .spoiled && x.st != .filling then
        match f.sewing with
        | some w => if 64 * s.firstStroke f.desc w.speed w.ts k x.side.2.2 ≤ s.nextStart k + s.tEst k / 4 then s.popSlot k else s
        | none => s.popSlot k
      else if x.st == .blank then s.popSlot k else s
    | none => if x.st == .filling then s else s.popSlot k
  | none => s

/-- A stroke assigned to a side, as OBS counts it (R409, R410). -/
def State.countStroke (s : State) (k : Nat) : State :=
  let s1 := (s.count 0x30 k 1).fixed 6
  if ((vget s.quire k).slots.filter (fun x => x.st == .verified || x.st == .blank)).length < 2 then s1.count 0x33 k 1 else s1

/-- Read-out of a calibration stroke (R132): a run begins on a LOCKED station with the first stroke that meets its time; each stroke from there on belongs
to it, and is dark where the station is not LOCKED, out of tolerance or held off. -/
def State.calRead (s : State) (k : Nat) : State :=
  let x := s.st k
  let mine : Bool := match x.calAt with
    | some t => 0 < x.calLeft && (x.calIndex != 0 || (s.scan k = scLOCKED && 64 * t ≤ s.nextStart k + s.tEst k / 4))
    | none => false
  let ok := mine && s.scan k = scLOCKED && s.vidOk k && !s.on (F.STR_STAT_LASER_DIS k)
  let nbuf := max 1 (s.g (F.STR_CALBUF_NBUF k))
  let at_ := quireBase + 0x10000 * s.g (F.STR_CALBUF_GRAN k) + slotStride (s.ga (F.STR_WINDOW_NPIX k)) * (x.calIndex % nbuf)
  s.modStr k (fun y => { y with calOn := mine, lit := ok, buffer := if ok then some at_ else none })

/-- Read-out at the outbound edge (R114, R120): a verified or blank slot is read; otherwise the stroke is blank and the folio spoiled. -/
def State.readout (s : State) (k : Nat) : State :=
  if s.on (F.STR_CTRL_CALRUN k) then s.calRead k
  else
    match s.sideFor k with
    | none => (s.drainBlank k).modStr k (fun x => { x with lit := false, buffer := none, side := none, calOn := false })
    | some (st, fsn, verso, left) =>
      let s1 := (s.countStroke k).modStr k (fun x => { x with side := some (st, fsn, verso, left), lit := false, buffer := none, calOn := false })
      if s.scan k ≠ scLOCKED || !s.vidOk k || s.on (F.STR_STAT_LASER_DIS k) then s1.spoilWhere (fun f => f.is st fsn) 6
      else
        match (vget s.quire k).slots.head? with
        | some x =>
          let s2 := if x.st == .filling then s1 else s1.popSlot k
          match x.st with
          | .filling => s2.raiseSpoil (64 + k) cSTROKE_LATE 0 .b (fun f => f.is st fsn) 1
          | .verified => (s2.bwAdd (10 + k) (slotStride (s.ga (F.STR_WINDOW_NPIX k)))).modStr k (fun y => { y with lit := true, buffer := some x.addr })
          | .blank => s2.count 0x31 k 1
          | .bad => s2.spoilWhere (fun f => f.is st fsn) 1
        | none => s1.raiseSpoil (64 + k) cSTROKE_LATE 0 .b (fun f => f.is st fsn) 1

/-- The outbound edge of a turn, measured or predicted (R107, R110): the turn is in hand, its laser power slots count from it (R125), and it is the
read-out deadline of the stroke that follows. -/
def State.outbound (s : State) (k : Nat) (farEnd : Bool) (c : Nat) : State :=
  (s.modStr k (fun x => { x with outEdge := some c, turning := true, farEnd := farEnd, missed := false, apcFrom := some c, apcDone := 0, framed := false })).readout k

/-- An inbound edge that completes its turn (R108): the turn point, T_est from the last turn of the same end, and rho.  SWEEP ends when both ends have
given edge pairs in 4 consecutive half-cycles (R112). -/
def State.inbound (s : State) (k : Nat) (farEnd : Bool) (o c : Nat) : State :=
  let turn := (o + c) / 2
  let last := if farEnd then (s.st k).turnB else (s.st k).turnA
  let other := if farEnd then (s.st k).turnA else (s.st k).turnB
  let next : Bool := match last, other with | some t, some u => t < u | none, some _ => true | _, none => false
  let s1 := match last with | some t => if t < turn then s.measured k (turn - t) else s | none => s
  let t := s1.tEst k
  let s2 := ((s1.p (F.STR_BDSTAT_CONSEC k) 0).modStr k (fun x =>
    { x with interval := c - o, rho := if t = 0 then 0 else (c - o) * 65536 / t, pairs := if next then x.pairs + 1 else 1 })).turnDone k farEnd turn
  if s2.scan k = scSWEEP && 4 ≤ (s2.st k).pairs then s2.setScan k scCAPTURE else s2

/-! ### Laser power slots (R125) -/

/-- Emitters measured before emitter k in a turnaround. -/
def apcOrder (mask k : Nat) : Nat := popcount mask k

/-- Where emitter k's slot begins and ends in the turnaround in hand, in 1/64 tick (R125). -/
def State.apcSpan (s : State) (n k : Nat) : Option (Nat × Nat) :=
  let at_ := fun (i : Nat) => (s.g (F.STR_APC_START n) + i * s.g (F.STR_APC_SLOT n)) * 5 * 64
  let i := apcOrder (s.g (F.STR_APC_ENMASK n)) k
  (s.st n).apcFrom.map (fun a => (a + at_ i, a + at_ (i + 1)))

/-- A slot fits unless it would end later than BDWIN before the predicted inbound edge, or the next BD-A edge of a polygon (R125, R134). -/
def State.apcFits (s : State) (n k : Nat) : Bool :=
  let limit : Option Nat :=
    if s.polygon n then s.predEdge n false true
    else match s.predEdge n (s.st n).farEnd false with
      | some p => some p
      | none => (s.st n).apcFrom.map (fun a => a + (s.st n).interval)
  match s.apcSpan n k, limit with
  | some x, some p => x.2 + s.bdWin n ≤ p
  | _, _ => false

/-- The BD inputs are masked during the slots that run (R125). -/
def State.apcMasked (s : State) (n t : Nat) : Bool :=
  (List.range 8).any (fun k => bit (s.g (F.STR_APC_ENMASK n)) k && s.apcFits n k &&
    (match s.apcSpan n k with | some x => x.1 ≤ t && t < x.2 | none => false))

/-- One LCE result (R276): the averaged value, the TEST code in force, the emitter's count; and the turnaround's outbound stamp, for a polygon the
end of its lead-out, from which its slots count (DEDUCED, log 69). -/
def State.lceResult (s : State) (n k result : Nat) : State :=
  let i := 8 * n + k
  let s1 := ((s.p (F.LCE_APCRES_VALUE i) result).p (F.LCE_APCRES_TEST i) (Cells.get 0 k (s.st n).test)).incWrap (F.LCE_APCRES_SEQ i)
  let t := ((s.st n).apcFrom.getD 0) / 64
  (s1.p (F.LCE_APCSTAMP_LO_T n) t).p (F.LCE_APCSTAMP_HI_T n) (t / 2 ^ 32)

/-- APC_SLOT (R125, R276): the slots of a turnaround run one after another; at its end, one emitter's monitor input, averaged over the slot's sample,
becomes its LCE result; a slot that does not fit is skipped with APC_SKIP when it would have begun. -/
def execApcSlot (n k result : Nat) (s : State) : Host.Outcome State Fault Refusal :=
  if n < s.blockCount .STR && k < 8 && bit (s.g (F.STR_APC_ENMASK n)) k && s.on (F.STR_CTRL_EN n)
      && (s.st n).apcDone = apcOrder (s.g (F.STR_APC_ENMASK n)) k then
    match s.apcSpan n k with
    | none => .next s
    | some x =>
      let s1 := s.modStr n (fun y => { y with apcDone := y.apcDone + 1 })
      if s.apcFits n k then (if x.2 ≤ 64 * s.now then done (s1.lceResult n k result) else .next s)
      else if x.1 ≤ 64 * s.now then done (s1.raise (64 + n) cAPC_SKIP 0 .a) else .next s
  else .next s

/-! ### Beam-detect edges (R107 to R110) -/

/-- An edge of the next turn in LOCKED: within BDTOL of its prediction it counts, beyond it the stroke is a miss, whose turn point is the predicted one
(R110). -/
def State.lockedEdge (s : State) (k c p : Nat) : State :=
  let far := (s.nextTurn k).1
  let ok : Bool := distN c p ≤ s.bdTol k
  if (s.nextTurn k).2 then (if ok then s.outbound k far c else (s.outbound k far c).bdMiss k)
  else
    match (s.st k).outEdge, s.predTurn k far with
    | some o, some t => if ok && !(s.st k).missed && o < c then s.inbound k far o c else (s.bdMiss k).turnDone k far t
    | _, _ => s

/-- An edge in SWEEP or CAPTURE, where the emitter is lit continuously: the first pairs are only measured; with a prediction, an edge beyond BDTOL is a
miss (R110).  The turn point of such a turn is the predicted one while both edges lie in their windows, and else the measured one, so that the scanner can
be captured again (DESIGN CHOICE, log 69); T_est is not updated. -/
def State.freeEdge (s : State) (k : Nat) (farEnd rising : Bool) (c : Nat) : State :=
  let p := if s.scan k = scCAPTURE then s.predEdge k farEnd rising else none
  let ok : Bool := match p with | some t => distN c t ≤ s.bdTol k | none => true
  let near : Bool := match p with | some t => distN c t ≤ s.bdWin k | none => true
  if rising then (if ok then s.outbound k farEnd c else (s.outbound k farEnd c).bdMiss k)
  else
    match (s.st k).outEdge with
    | some o =>
      if o < c && (s.st k).turning && (s.st k).farEnd == farEnd then
        if ok && !(s.st k).missed then s.inbound k farEnd o c
        else (s.bdMiss k).turnDone k farEnd (if near then (s.predTurn k farEnd).getD ((o + c) / 2) else (o + c) / 2)
      else s
    | none => s

/-- BD_EDGE (R107 to R110): a beam-detect edge of end A or B, rising outbound or falling inbound, stamped in 1/64 tick.  It is ignored outside its window
and while laser power slots mask the inputs. -/
def State.bdEdge (s : State) (k : Nat) (farEnd rising : Bool) (stamp : Nat) : State :=
  let c := stamp - s.g (F.STR_BD_BDLAT k)
  if !s.bdLit k c || s.apcMasked k stamp then s
  else if s.scan k = scLOCKED then
    if s.nextTurn k == (farEnd, rising) then match s.predEdge k farEnd rising with | some p => s.lockedEdge k c p | none => s else s
  else s.freeEdge k farEnd rising c

def execBdEdge (k : Nat) (farEnd rising : Bool) (stamp : Nat) (s : State) : Host.Outcome State Fault Refusal :=
  if k < s.blockCount .STR && s.on (F.STR_CTRL_EN k) && !s.polygon k then done (s.bdEdge k farEnd rising stamp) else .next s

/-- The window of the next edge closes without one (R110): the stroke is a miss and runs on the predicted edge, which is the read-out deadline where it is the
outbound one. -/
def State.edgeAbsent (s : State) (k : Nat) : State :=
  let far := (s.nextTurn k).1
  if (s.nextTurn k).2 then match s.predEdge k far true with | some p => (s.outbound k far p).bdMiss k | none => s
  else match s.predTurn k far with | some t => (s.bdMiss k).turnDone k far t | none => s

/-! ### Amplitude, phase and lock (R111, R112) -/

/-- The scanner becomes LOCKED (R112): the pace station publishes v and starts the followers that wait for it. -/
def State.scanLocked (s : State) (k : Nat) : State :=
  let s1 := s.setScan k scLOCKED
  if k = s.pace then
    (forRange 0 (s1.blockCount .STR) (fun n a =>
      if n ≠ k && a.on (F.STR_CTRL_EN n) && a.scan n = scOFF && !a.polygon n then a.scanStart n else a) s1).publishSpeed
  else s1

/-- The lock rules of R112 after a half-cycle; a follower that slews to a new phase is not LOCKED (R103). -/
def State.judgeLock (s : State) (k : Nat) : State :=
  let x := s.st k
  let e : Nat := distN (s.g (F.STR_AMP_RHO_SET k)) x.rho
  let tol := s.g (F.STR_AMP_RHOTOL k)
  let ph : Nat := (s.gi (F.STR_DRIVE_PHERR k)).natAbs
  let follower := k ≠ s.pace
  if s.scan k = scCAPTURE then
    if s.g (F.STR_BDSTAT_CONSEC k) = 0 && e ≤ tol && (!follower || (ph ≤ 16 && x.slew = s.ga (F.STR_PHASE_PHASE k))) then
      if 64 ≤ x.clean + 1 then s.scanLocked k else s.modStr k (fun y => { y with clean := y.clean + 1 })
    else s.modStr k (fun y => { y with clean := 0 })
  else if s.scan k = scLOCKED then
    let a := if 4 * tol < e then x.ampBad + 1 else 0
    let b := if follower && 64 < ph then x.phBad + 1 else 0
    let s1 := s.modStr k (fun y => { y with ampBad := a, phBad := b })
    if 4 ≤ a || 4 ≤ b then s1.unlock k scCAPTURE else s1
  else s

/-- The drive's frequency in SWEEP, in mHz (R112): from FSWEEP + SWSPAN downwards at SWRATE, in 0.1 Hz a ms. -/
def State.sweepFreq (s : State) (k : Nat) : Nat :=
  1000 * (s.g (F.STR_SCAN_FSWEEP k) + s.g (F.STR_SCAN_SWSPAN k)) - 100 * s.g (F.STR_SCAN_SWRATE k) * (s.now - (s.st k).since) / msTicks

/-- SCAN_SWEEP_END (R112): the sweep has come down to FSWEEP - SWSPAN without capture. -/
def execScanSweepEnd (k : Nat) (s : State) : Host.Outcome State Fault Refusal :=
  if k < s.blockCount .STR && s.scan k = scSWEEP && s.sweepFreq k ≤ 1000 * (s.g (F.STR_SCAN_FSWEEP k) - s.g (F.STR_SCAN_SWSPAN k)) then done (s.scanFault k cSCAN_START) else .next s

/-- SCAN_CAPTURE_TIMEOUT (R112): two seconds in CAPTURE. -/
def execScanCaptureTimeout (k : Nat) (s : State) : Host.Outcome State Fault Refusal :=
  if k < s.blockCount .STR && s.scan k = scCAPTURE && (s.st k).since + 500000000 ≤ s.now then done (s.scanFault k cSCAN_START) else .next s

/-- SCAN_COIL (R112): ICOIL below 20 mA while LEVEL exceeds 16, or above 3,000 mA. -/
def execScanCoil (k icoil : Nat) (s : State) : Host.Outcome State Fault Refusal :=
  if k < s.blockCount .STR && s.on (F.STR_CTRL_EN k) then
    let s1 := s.p (F.STR_DRIVE_ICOIL k) icoil
    if ((icoil < 20 && 16 < s.g (F.STR_DRIVE_LEVEL k)) || 3000 < icoil) && s.scan k ≠ scFAULT then done (s1.scanFault k cSCAN_COIL) else done s1
  else .next s

/-! ### Chirp profiles (R115 to R118) -/

/-- A segment's DF in 1/4,096 Hz a step and its STEPS (R116). -/
def segOf (w : Nat) : Int × Nat := (toSigned 32 (w % 2 ^ 32), bits w 44 32)

/-- The 64-bit segments of a profile in the control tables. -/
def State.profSegs (s : State) (a : Nat) : (n : Nat) → List Nat
  | 0 => []
  | n + 1 => s.profSegs a n ++ [s.rd (a + 8 * n) 8]

/-- The profile at a slot of the control tables (R116). -/
def State.readProf (s : State) (slot : Nat) : Prof :=
  let a := tableBase + 16 * slot
  ⟨s.rd (a + 4) 4, s.rd (a + 8) 4, s.profSegs (a + 16) (min 512 (s.rd a 2))⟩

/-- The sum of frequency over m steps that start at f (1/4,096 Hz) and rise by df each. -/
def stepSum (f df : Int) (m : Nat) : Int := f * m + df * ((m * (m - 1) / 2 : Nat) : Int)

/-- The least number of steps, at most hi, whose sum reaches target: bisection. -/
def stepsTo (f df target : Int) : (fuel lo hi : Nat) → Nat
  | 0, _, hi => hi
  | n + 1, lo, hi => if hi ≤ lo then hi else if target ≤ stepSum f df ((lo + hi) / 2) then stepsTo f df target n lo ((lo + hi) / 2)
    else stepsTo f df target n ((lo + hi) / 2 + 1) hi

/-- Walks the segments until a sum of frequency is reached: the steps taken, and whether every frequency clocked on the way satisfies ok, which the first
and the last step of each straight segment show; none where the profile ends first. -/
def profWalk (ok : Int → Bool) : List Nat → (f target : Int) → Option (Nat × Bool)
  | [], _, target => if target ≤ 0 then some (0, true) else none
  | w :: t, f, target =>
    let df := (segOf w).1
    let n := (segOf w).2
    if target ≤ 0 then some (0, true)
    else if target ≤ stepSum f df n then
      let m := stepsTo f df target 14 0 n
      some (m, ok f && ok (f + df * ((m - 1 : Nat) : Int)))
    else
      match profWalk ok t (f + df * n) (target - stepSum f df n) with
      | some (m, b) => some (n + m, b && ok f && ok (f + df * ((n - 1 : Nat) : Int)))
      | none => none

/-- The sum of frequency that clocks a number of pixel periods: pixels * 4,096 * 16,384 * FREF (R115). -/
def pixelSum (pixels fref : Nat) : Int := (pixels * 67108864 * fref / 1000 : Nat)

/-- Checks a profile at K = 1 (R117): reserved fields, range within NPIX + 128 pixel periods, and its end. -/
def State.profValid (s : State) (slot dir npix : Nat) : Bool :=
  let a := tableBase + 16 * slot
  let p := s.readProf slot
  if s.rd a 2 = 0 || 512 < s.rd a 2 || s.rd (a + 2) 2 ≠ dir || s.rd (a + 12) 4 ≠ 0 || p.fref < 2400000 || 3600000 < p.fref then false
  else if p.segs.any (fun w => bits w 63 45 != 0 || bits w 44 32 == 0) then false
  else
    match profWalk (fun f => 70000000 * 4096 ≤ f && f ≤ 170000000 * 4096) p.segs (p.f0 * 256 : Nat) (pixelSum (npix + 128) p.fref) with
    | some (_, b) => b
    | none => false

/-- K * f in range over the span (R118): K = 1 / (FREF * T_est), T_est in 1/64 tick. -/
def Prof.inRange (p : Prof) (npix tEst : Nat) : Bool :=
  let ok : Int → Bool := fun f =>
    70000000 * 4096 * (p.fref * tEst : Nat) ≤ f * 16000000000000 && f * 16000000000000 ≤ 170000000 * 4096 * (p.fref * tEst : Nat)
  match profWalk ok p.segs (p.f0 * 256 : Nat) (pixelSum (npix + 128) p.fref) with
  | some (_, b) => b
  | none => false

/-- The lowest and highest frequency of the span at K = 1, from the ends of its segments, in 1/4,096 Hz (R291). -/
def profExtremes : List Nat → (f target : Int) → (lo hi : Int) → Int × Int
  | [], _, _, lo, hi => (lo, hi)
  | w :: t, f, target, lo, hi =>
    if target ≤ 0 then (lo, hi)
    else
      let df := (segOf w).1
      let n := (segOf w).2
      let m := if target ≤ stepSum f df n then stepsTo f df target 14 0 n else n
      let g := f + df * ((m - 1 : Nat) : Int)
      profExtremes t (f + df * m) (target - stepSum f df m) (min lo (min f g)) (max hi (max f g))

/-! ### Line offsets (R123) -/

/-- The offset O of line j in a direction, from the active set (R123). -/
def State.lineOffset (s : State) (k j : Nat) (back : Bool) : Int :=
  let e := s.g (F.STR_CTRL_BEAMSTART k) + j
  s.gai (F.STR_REGSCAN_REGSCAN k)
    + (if back then s.gai (F.STR_DIROFS_BACK k) + s.gai (F.STR_BEAMOFS_BACK k e) else s.gai (F.STR_DIROFS_FORE k) + s.gai (F.STR_BEAMOFS_FORE k e))

/-- The same from the shadows, for the judgement of a COMMIT (R123). -/
def State.lineOffsetShadow (s : State) (k e : Nat) (back : Bool) : Int :=
  s.gi (F.STR_REGSCAN_REGSCAN k)
    + (if back then s.gi (F.STR_DIROFS_BACK k) + s.gi (F.STR_BEAMOFS_BACK k e) else s.gi (F.STR_DIROFS_FORE k) + s.gi (F.STR_BEAMOFS_FORE k e))

/-! ### Lane frames (R126) -/

/-- A write of STRn.LDCMDk (R126): reserved CMD; LANE_CMD while PEND; else the command waits for the next turnaround.  The spec gives the two refusals no
order; the model judges the reserved CMD first (DESIGN CHOICE, log 69). -/
def State.ldcmdWrite (s : State) (q : Requester) (n k v : Nat) : State :=
  if bits v 27 24 = 0 || 4 ≤ bits v 27 24 then s.unitFault .STR n q cRESERVED_ENC
  else if s.on (F.STR_LDCMD_PEND n k) then s.raise (64 + n) cLANE_CMD 0 .a
  else ((s.p (F.STR_LDCMD_CMD n k) (bits v 27 24)).p (F.STR_LDCMD_VALUE n k) (bits v 23 12)).p (F.STR_LDCMD_PEND n k) 1

def execLdcmdWrite (q : Requester) (n k v : Nat) (s : State) : Host.Outcome State Fault Refusal :=
  s.gate q (if n < s.blockCount .STR && k < 8 then done (s.ldcmdWrite q n k v) else .next s)

/-- The 32 bits of a lane's frame (R126): CMD, VALUE, LANE and CRC-8 over bits [31:8]. -/
def State.laneFrame (s : State) (n k : Nat) : Nat :=
  let h := s.g (F.STR_LDCMD_CMD n k) * 2 ^ 20 + s.g (F.STR_LDCMD_VALUE n k) * 2 ^ 8 + k
  h * 256 + [h / 65536 % 256, h / 256 % 256, h % 256].foldl (crcByte 8 7 false) 0

/-- 200 ns after the last slot of the turnaround in hand have passed (R126). -/
def State.frameTime (s : State) (n : Nat) : Bool :=
  match (s.st n).apcFrom with
  | some a => a + (s.g (F.STR_APC_START n) + popcount (s.g (F.STR_APC_ENMASK n)) 8 * s.g (F.STR_APC_SLOT n)) * 5 * 64 + 50 * 64 ≤ 64 * s.now
  | none => false

/-- One lane's frame goes out and PEND clears; a TEST frame sets the lane's test level (R126, R276). -/
def State.sendFrame (s : State) (n k : Nat) : State :=
  (s.modStr n (fun x =>
    { x with frames := Cells.put 0 k (s.laneFrame n k) x.frames
             test := if s.g (F.STR_LDCMD_CMD n k) = 3 then Cells.put 0 k (s.g (F.STR_LDCMD_VALUE n k)) x.test else x.test })).p (F.STR_LDCMD_PEND n k) 0

/-- LANE_FRAME_SEND (R126): once a turnaround, 200 ns after its last slot, every lane whose PEND is set sends one frame, and PEND clears. -/
def execLaneFrameSend (n : Nat) (s : State) : Host.Outcome State Fault Refusal :=
  if n < s.blockCount .STR && s.frameTime n && !(s.st n).framed then
    done (forRange 0 8 (fun k a => if a.on (F.STR_LDCMD_PEND n k) then a.sendFrame n k else a) (s.modStr n (fun x => { x with framed := true })))
  else .next s

/-! ### Laser critical events (R127 to R129) -/

/-- The laser thermistor at its critical level (R127). -/
def State.ldTherm (s : State) (k : Nat) : State :=
  if (s.st k).thermal then s else (s.modStr k (fun x => { x with thermal := true })).laserFault k cLD_THERM 1 true

/-- A sensor input takes a level: each station whose driver's fault output is wired to it, and watched, sees LD_FAULT when it asserts (R128). -/
def State.sensorLevel (s : State) (input : Nat) (high : Bool) : State :=
  let was : Bool := Cells.get 0 (snsPad input) s.padIns % 2 == 1
  let s1 := { s with padIns := Cells.put 0 (snsPad input) high.toNat s.padIns }
  if high && !was then
    forRange 0 (s.blockCount .STR) (fun k a => if a.on (F.STR_CTRL_LDFLTEN k) && a.g (F.STR_CTRL_LDFLT k) = input then a.laserFault k cLD_FAULT 2 else a) s1
  else s1

/-- LD_FAULT (R128): the driver fault input of station k asserts or clears. -/
def execLdFault (k : Nat) (asserted : Bool) (s : State) : Host.Outcome State Fault Refusal :=
  if k < s.blockCount .STR then done (s.sensorLevel (s.g (F.STR_CTRL_LDFLT k)) asserted) else .next s

/-- Writing 1 to LASER_DIS (R129): re-enables the lanes only if the cause has cleared. -/
def State.laserDisClear (s : State) (k : Nat) : State :=
  let x := s.st k
  if s.on (F.STR_STAT_LASER_DIS k) && !x.thermal && !s.driverFault k && !s.on F.FCL_STAT_KETTLE then
    let s1 := ((s.p (F.STR_STAT_LASER_DIS k) 0).p (F.STR_STAT_DISCAUSE k) 0).modStr k (fun y => { y with lanesOff := false, offDue := false })
    if s.scan k = scCOAST then s1.setScan k scCAPTURE else s1
  else s

def execLaserDisClear (k : Nat) (s : State) : Host.Outcome State Fault Refusal :=
  if k < s.blockCount .STR then done (s.laserDisClear k) else .next s

/-! ### Calibration runs (R132) -/

/-- The write of CALT_HI arms a run (R132). -/
def State.caltArm (s : State) (q : Requester) (k t : Nat) : State :=
  if s.on (F.STR_CALN_BUSY k) || !s.on (F.STR_CTRL_CALRUN k) then s.unitFault .STR k q cSTATE_REFUSED
  else
    (((s.p (F.STR_CALT_LO_T k) t).p (F.STR_CALT_HI_T k) (t / 2 ^ 32)).p (F.STR_CALN_BUSY k) 1).modStr k (fun x =>
      { x with calAt := some t, calLeft := s.g (F.STR_CALN_COUNT k), calIndex := 0 })

/-- CAL_RUN_END (R132): the last stroke of the run has ended. -/
def execCalRunEnd (k : Nat) (s : State) : Host.Outcome State Fault Refusal :=
  if k < s.blockCount .STR && s.on (F.STR_CALN_BUSY k) && (s.st k).calLeft = 0 then
    done ((s.p (F.STR_CALN_BUSY k) 0).modStr k (fun x => { x with calAt := none }))
  else .next s

/-- The granules a CALBUF names: each owned by the writer and in no station's quire ring (R132). -/
def State.calbufOk (s : State) (q : Requester) (k v : Nat) : Bool :=
  let gran := bits v 15 8
  let nbuf := bits v 7 0
  let last := (slotStride (s.ga (F.STR_WINDOW_NPIX k)) * nbuf - 1) / 65536
  gran < s.granules && !(nbuf == 0 && s.on (F.STR_CTRL_CALRUN k)) &&
    (nbuf == 0 || (List.range (last + 1)).all (fun i =>
      gran + i < s.granules && s.owns q (granRid (gran + i)) &&
        (List.range 4).all (fun j => !(s.g (F.QST_QRING_BASE j) ≤ gran + i
          && gran + i < s.g (F.QST_QRING_BASE j) + s.g (F.QST_QRING_COUNT j)))))

end Sys2Proof.Machine
end

