-- ==== Sys2Proof/Machine/Pulse.lean ====
section
/-! DEFINITION. The ramp generator's pixel clock (R115, R290, R291, R293) and the pulses it makes of a stroke's buffer (R95, R119 to R124): where every
slice edge falls, on taps of 25 ps, and when each lane is high. -/

namespace Sys2Proof.Machine

def State.synOf (s : State) (n : Nat) : Syn := vget s.syn n

/-- A half of a station synthesiser's banks. -/
def Syn.half (y : Syn) (bank : Nat) (back : Bool) : Prof :=
  if bank = 0 then (if back then y.back0 else y.fore0) else (if back then y.back1 else y.fore1)

/-- The profile the generator follows: the active bank's fore or back half (R292). -/
def State.profOf (s : State) (k : Nat) (back : Bool) : Prof := (s.synOf (k + 2)).half (s.g (F.SYN_RAMP_BANK (k + 2))) back

/-- K of a restart in Q2.30 (R115, R291): 1 / (FREF * T_est), FREF in mHz, T_est in 1/64 tick; rounded down (log 10). -/
def kVal (fref tEst : Nat) : Nat := if fref * tEst = 0 then 0 else 2 ^ 30 * 16000000000000 / (fref * tEst)

/-! ### The generator (R115, R291, R293) -/

/-- What the generator runs a stroke with: K in Q2.30, the period whose 1/16,384 is a phase step, the starting frequency at K = 1 in 1/4,096 Hz, the
segments, the pixel periods before the first imaged pixel, and the pixels of the line. -/
structure Gen where
  k : Nat
  period : Nat
  f0 : Int
  segs : List Nat
  lead : Nat
  npix : Nat
  deriving DecidableEq, Repr

/-- Where the generator stands at the start of a phase step: the time since the restart in 1/64 tick, the frequency it holds in 2^-16 Hz, the pixel phase in
2^-32 pixel, the segment and the steps left in it. -/
structure GenPos where
  t : Nat
  f : Nat
  phase : Nat
  seg : Nat
  left : Nat
  deriving DecidableEq, Repr

/-- The frequency held for a profile frequency, to 2^-16 Hz (R291); rounded down (log 10). -/
def genFreq (k : Nat) (f : Int) : Nat := (f * (k : Nat) / 2 ^ 26).toNat

/-- The pixel phase that a frequency adds in a time, to 2^-32 pixel (R291); rounded down (log 10). -/
def genPhase (f dt : Nat) : Nat := f * dt * 65536 / 16000000000

/-- The steps of the segment at the head of a list. -/
def headSteps : List Nat → Nat
  | w :: _ => (segOf w).2
  | [] => 0

/-- The first phase step whose end, given by its pixel phase and its time, satisfies stop (R115, R291): step m begins m * T_est / 16,384 after the restart;
each step adds DF, and after the last segment the frequency holds. -/
def genSeek (k period : Nat) (stop : Nat → Nat → Bool) : (fuel : Nat) → (segs : List Nat) → (f : Int) → (left seg m phase : Nat) → GenPos
  | 0, _, f, left, seg, m, phase => ⟨m * period / 16384, genFreq k f, phase, seg, left⟩
  | n + 1, segs, f, left, seg, m, phase =>
    let t := m * period / 16384
    let u := (m + 1) * period / 16384
    let p := phase + genPhase (genFreq k f) (u - t)
    if stop p u then ⟨t, genFreq k f, phase, seg, left⟩
    else
      match segs with
      | [] => genSeek k period stop n [] f 0 seg (m + 1) p
      | w :: rest =>
        if left ≤ 1 then genSeek k period stop n rest (f + (segOf w).1) (headSteps rest) (if rest.isEmpty then seg else seg + 1) (m + 1) p
        else genSeek k period stop n segs (f + (segOf w).1) (left - 1) seg (m + 1) p

/-- The step in which the pixel phase reaches a target, in 2^-32 pixel; a stroke and its leads take less than 16,384 steps. -/
def Gen.at (g : Gen) (target : Nat) : GenPos := genSeek g.k g.period (fun p _ => target < p) 16384 g.segs g.f0 (headSteps g.segs) 0 0 0

/-- The step in hand a time after the restart, in 1/64 tick. -/
def Gen.now (g : Gen) (dt : Nat) : GenPos := genSeek g.k g.period (fun _ u => dt < u) 16384 g.segs g.f0 (headSteps g.segs) 0 0 0

/-- The pixel phase a time after the restart, in 2^-32 pixel. -/
def Gen.phase (g : Gen) (dt : Nat) : Nat := let x := g.now dt; x.phase + genPhase x.f (dt - x.t)

/-- The edge of a slice, numbered from the restart, on the nearest tap (R291): the restart is in 1/64 tick, the answer in taps of cord time. -/
def Gen.tap (g : Gen) (restart slice : Nat) : Nat :=
  let x := g.at (slice * 2 ^ 28)
  roundDiv (5 * (restart + x.t) * x.f * 65536 + 80000000000 * (slice * 2 ^ 28 - x.phase)) (2 * x.f * 65536)

/-- The start of the first imaged pixel after the restart, in 1/64 tick (R97, R293); rounded down (log 10). -/
def Gen.leadTime (g : Gen) : Nat :=
  let x := g.at (g.lead * 2 ^ 32)
  x.t + (if x.f = 0 then 0 else 16000000000 * (g.lead * 2 ^ 32 - x.phase) / (x.f * 65536))

/-- The pixel periods the clock runs: lead-in, line and a lead-out of 64 (R290, R293). -/
def Gen.span (g : Gen) : Nat := g.lead + g.npix + 64

/-- The latency DRVLAT, in 1/64 tick, as slices at the slice period that holds at an edge, to the nearest slice (R124). -/
def Gen.advance (g : Gen) (latency slice : Nat) : Nat := roundDiv (latency * (g.at (slice * 2 ^ 28)).f) (1000000000 * 65536)

/-- What the generator of a station's synthesiser runs a stroke with: the profile of its direction scaled by K (R115), or the fixed clock of polygon mode,
with K = 1 (R293). -/
def State.genOf (s : State) (k : Nat) (back : Bool) (period : Nat) : Gen :=
  let npix := s.ga (F.STR_WINDOW_NPIX k)
  if s.polygon k then ⟨2 ^ 30, period, (256 * s.g (F.STR_POLYF_FREQ k) : Nat), [], s.g (F.STR_POLY_DELAY k), npix⟩
  else
    let p := s.profOf k back
    ⟨kVal p.fref period, period, (256 * p.f0 : Nat), p.segs, 64, npix⟩

/-! ### Pulses (R119, R121 to R124) -/

/-- Slices of a pixel code (R121). -/
def pulseWidth (code : Nat) : Nat := if code = 15 then 16 else code

/-- The first lit slice of a pulse, by JUST and its neighbours' codes on the line (R122). -/
def firstSlice (just code below above : Nat) : Nat :=
  let w := pulseWidth code
  match just with
  | 0 => (16 - w) / 2
  | 1 => 0
  | 2 => 16 - w
  | _ => if above < below then 0 else if below < above then 16 - w else (16 - w) / 2

/-- Line j of a stroke buffer at column c: nibble j of the word at 4c (R119). -/
def State.pixelCode (s : State) (buf c j : Nat) : Nat := bits (s.rd (buf + 4 * c) 4) (4 * j + 3) (4 * j)

/-- The code at a neighbouring column, 0 outside the line. -/
def State.codeAt (s : State) (buf npix j : Nat) (c : Int) : Nat := if 0 ≤ c && c < (npix : Nat) then s.pixelCode buf c.toNat j else 0

/-- The slices of a column's pulse, from the restart: first and one past the last (R122, R123).  A fore stroke meets column c in its c-th pixel period and is
delayed by O; a back stroke reads from column NPIX - 1 down, mirrors the pixel's slices in time and is advanced by O. -/
def pulseSlices (lead npix c first w : Nat) (back : Bool) (o : Int) : Int × Int :=
  let base : Int := if back then (16 * (lead + (npix - 1 - c)) : Nat) else (16 * (lead + c) : Nat)
  let a : Int := if back then base + ((16 - first - w : Nat) : Int) - o else base + (first : Nat) + o
  (a, a + (w : Nat))

/-- The pulse of column c on line j of the stroke that starts (R95, R119 to R124): its lane and its edges in taps; none for an unlit pixel, or for one moved
outside the clocked span. -/
def State.pulseOf (s : State) (k : Nat) (back : Bool) (g : Gen) (restart buf j c : Nat) : Option (Nat × Nat × Nat) :=
  let code := s.pixelCode buf c j
  let w := pulseWidth code
  let first := firstSlice (s.ga (F.STR_PULSE_JUST k)) code (s.codeAt buf g.npix j ((c : Nat) - 1)) (s.codeAt buf g.npix j ((c : Nat) + 1))
  let x := pulseSlices g.lead g.npix c first w back (s.lineOffset k j back)
  let late := s.ga (F.STR_PULSE_DRVLAT k)
  let a : Int := x.1 - (g.advance late x.1.toNat : Nat)
  let b : Int := x.2 - (g.advance late x.2.toNat : Nat)
  if w = 0 || a < 0 || ((16 * g.span : Nat) : Int) < b then none
  else some (s.g (F.STR_CTRL_BEAMSTART k) + j, g.tap restart a.toNat, g.tap restart b.toNat)

/-- The pulses of the stroke that starts: line j on lane BEAMSTART + j (R95), the columns in the order in which the stroke meets them (R122). -/
def State.strokePulses (s : State) (k : Nat) (back : Bool) (period restart : Nat) : List (Nat × Nat × Nat) :=
  match (s.st k).buffer with
  | none => []
  | some buf =>
    let g := s.genOf k back period
    (List.range (s.ga (F.STR_GLOBAL_B 0))).flatMap (fun j =>
      (List.range g.npix).filterMap (fun q => s.pulseOf k back g restart buf j (if back then g.npix - 1 - q else q)))

/-- A lane is high at the start of the present tick (R94, R109, R121, R125): in a pulse of the stroke in hand, as the beam-detect emitter, or in its laser
power slot; not while the lanes are held off, or the station's synthesiser is not LOCKED (R127, R128, R295). -/
def State.laneHigh (s : State) (k lane : Nat) : Bool :=
  let x := s.st k
  let slot : Bool := match s.apcSpan k lane with
    | some y => bit (s.g (F.STR_APC_ENMASK k)) lane && s.apcFits k lane && y.1 ≤ 64 * s.now && 64 * s.now < y.2
    | none => false
  s.on (F.STR_CTRL_EN k) && !x.lanesOff && s.g (F.SYN_STAT_STATE (k + 2)) == syLOCKED
    && (x.pulses.any (fun p => p.1 == lane && p.2.1 ≤ 160 * s.now && 160 * s.now < p.2.2)
      || (s.g (F.STR_CTRL_BDEMIT k) == lane && s.bdLit k (64 * s.now)) || slot)

end Sys2Proof.Machine
end

