-- ==== Sys2Proof/Machine/Codec.lean ====
section
/-! DEFINITION. The quire codec (R137 to R147): the encoder of CMP0 and CMP1, the decoder of DCP0 to DCP3, headers and endbands, and the
line formats of ingest (R149). -/

namespace Sys2Proof.Machine

/-! ### Codes (R141 to R146) -/

/-- The width at which the next code is written or read, n codes after the start or the last RESET (R143). -/
def codeWidth (cw0 n : Nat) : Nat := min 14 (max cw0 (Nat.log2 (257 + n) + 1))

/-- The encoder: the code of the longest match so far, the dictionary as (prefix code, byte) of entries 258 on, the codes since RESET, and the
payload bits so far with their number. -/
structure Enc where
  cur : Option Nat := none
  dict : List (Nat × Nat) := []
  n : Nat := 0
  acc : Nat := 0
  pos : Nat := 0

/-- Puts one code in the payload at the width of R143, with CW0 = 9 (R142, R146). -/
def Enc.emit (e : Enc) (code : Nat) : Enc :=
  { e with acc := e.acc + code * 2 ^ e.pos, pos := e.pos + codeWidth 9 e.n, n := e.n + 1 }

/-- The index of an entry of the dictionary. -/
def findEntry (x : Nat × Nat) : List (Nat × Nat) → Nat → Option Nat
  | [], _ => none
  | y :: t, i => if x = y then some i else findEntry x t (i + 1)

/-- RESET once the dictionary is full, before the next code (R146). -/
def Enc.resetIfFull (e : Enc) : Enc := if e.n = 16127 then { (e.emit 256) with n := 0, dict := [] } else e

/-- One byte: the match grows, or its code is written and a new entry made. -/
def Enc.byte (e : Enc) (b : Nat) : Enc :=
  match e.cur with
  | none => { e with cur := some b }
  | some c =>
    match findEntry (c, b) e.dict 258 with
    | some i => { e with cur := some i }
    | none =>
      let e1 := e.emit c
      let e2 := if 257 + e1.n ≤ 16383 then { e1 with dict := e1.dict ++ [(c, b)] } else e1
      { e2.resetIfFull with cur := some b }

/-- The payload of a compressed block. -/
def codecEncode (bs : List Nat) : List Nat :=
  let e := bs.foldl Enc.byte {}
  let e1 := match e.cur with | some c => e.emit c | none => e
  leBytes (ceilDiv e1.pos 8) e1.acc

/-- Header, payload and endband of a stored block (R138, R139). -/
def storedBytes (raw : Bool) (payload original : List Nat) : List Nat :=
  [raw.toNat, if raw then 0 else 9] ++ leBytes 2 payload.length ++ leBytes 4 original.length ++ payload
    ++ leBytes 4 (crc32c original) ++ leBytes 4 original.length

/-- The stored block of a compressor: raw where the payload would not be shorter (R140, R146). -/
def storeBlock (bs : List Nat) : Bool × List Nat :=
  if (codecEncode bs).length < bs.length then (false, storedBytes false (codecEncode bs) bs) else (true, storedBytes true bs bs)

/-! ### Decoding (R144, R145, R147) -/

/-- The decoder: the entries from 258 on as strings, the previous code's string, codes since RESET, the position in the payload, and
the output in reverse with its length. -/
structure Dec where
  dict : List (List Nat) := []
  prev : List Nat := []
  n : Nat := 0
  pos : Nat := 0
  out : List Nat := []
  len : Nat := 0

/-- The string of a valid code other than RESET (R144). -/
def Dec.string (d : Dec) (v : Nat) : List Nat :=
  if v < 256 then [v]
  else if v = 257 + d.n then d.prev ++ d.prev.take 1
  else (d.dict[v - 258]?).getD []

/-- One code (R143, R144): the next decoder, or the error of R147. -/
def Dec.code (d : Dec) (cw0 payload plen olen : Nat) : Except Nat Dec :=
  let w := codeWidth cw0 d.n
  if 8 * plen < d.pos + w then .error 3
  else
    let v := bits payload (d.pos + w - 1) d.pos
    if v = 257 || min (257 + d.n) 16383 < v then .error 2
    else if v = 256 then .ok { d with dict := [], prev := [], n := 0, pos := d.pos + w }
    else
      let str := d.string v
      if olen < d.len + str.length then .error 3
      else
        .ok { dict := if d.n ≠ 0 && 257 + d.n ≤ 16383 then d.dict ++ [d.prev ++ str.take 1] else d.dict
              prev := str, n := d.n + 1, pos := d.pos + w, out := str.reverse ++ d.out, len := d.len + str.length }

/-- Codes until the output is complete, then the rule of R142 on the remaining bits. -/
def Dec.run (cw0 payload plen olen : Nat) : (fuel : Nat) → Dec → Except Nat (List Nat)
  | 0, _ => .error 3
  | f + 1, d =>
    if d.len = olen then
      if ceilDiv d.pos 8 = plen && payload / 2 ^ d.pos = 0 then .ok d.out.reverse else .error 4
    else
      match d.code cw0 payload plen olen with
      | .error e => .error e
      | .ok d1 => Dec.run cw0 payload plen olen f d1

/-- The fields of a stored block's header, from its first 8 bytes. -/
def hdrRaw (h : Nat) : Bool := bit h 0
def hdrPaylen (h : Nat) : Nat := bits h 31 16
def hdrOriglen (h : Nat) : Nat := bits h 63 32

/-- A header that meets R138 and R140 for a station of NPIX pixels (R147). -/
def hdrOk (h npix : Nat) : Bool :=
  bits h 7 1 == 0 && hdrOriglen h % 4 == 0 && 4 ≤ hdrOriglen h && hdrOriglen h ≤ 62364 && hdrOriglen h == 4 * npix
    && (if hdrRaw h then bits h 15 8 == 0 && hdrPaylen h == hdrOriglen h
        else 9 ≤ bits h 15 8 && bits h 15 8 ≤ 14 && 1 ≤ hdrPaylen h && hdrPaylen h < hdrOriglen h)

/-- Decodes a stored block of a station of NPIX pixels: its original bytes, or the error code of R147. -/
def decodeBlock (b : List Nat) (npix : Nat) : Except Nat (List Nat) :=
  let h := leNat (b.take 8)
  if !hdrOk h npix then .error 1
  else
    let plen := hdrPaylen h
    let olen := hdrOriglen h
    let payload := (b.drop 8).take plen
    let r := if hdrRaw h then .ok payload else Dec.run (bits h 15 8) (leNat payload) plen olen (8 * plen + 2) {}
    match r with
    | .error e => .error e
    | .ok o =>
      if leNat ((b.drop (8 + plen + 4)).take 4) = olen && leNat ((b.drop (8 + plen)).take 4) = crc32c o then .ok o else .error 4

/-! ### Check values of a side (R50, R156) -/

/-- The running register that an output of CRC-32C came from. -/
def crcReg (v : Nat) : Nat := reflect (0xFFFFFFFF - v % 2 ^ 32) 32

/-- CRC-32C of A followed by B, from the check values of A and of B and the length of B (R52). -/
def crcCombine (a b len : Nat) : Nat :=
  let r := Nat.fold len (fun _ _ x => crcBits 32 0x1EDC6F41 0 8 x) (crcReg a ^^^ 0xFFFFFFFF)
  crcOut 32 true true (r ^^^ crcReg b)

/-- The side check value from the endbands (CRC, LENGTH) of its blocks in order (R50). -/
def sideCrc (bands : List (Nat × Nat)) : Nat := bands.foldl (fun a x => crcCombine a x.1 x.2) 0

/-! ### Line formats (R149) -/

/-- Bytes of a line. -/
def lineSize (format npix : Nat) : Nat :=
  match format with
  | 0 => ceilDiv npix 2
  | 1 => 2 * npix
  | _ => 16 * ceilDiv npix 32

/-- Pixel i of station k on a line. -/
def linePixel (format npix k i : Nat) (line : List Nat) : Nat :=
  let at' := fun j => line.getD j 0
  match format with
  | 0 => bits (at' (i / 2)) (if i % 2 = 0 then 3 else 7) (if i % 2 = 0 then 0 else 4)
  | 1 => bits (at' (2 * i + k / 2)) (if k % 2 = 0 then 3 else 7) (if k % 2 = 0 then 0 else 4)
  | _ =>
    let bpl := 4 * ceilDiv npix 32
    (List.range 4).foldl (fun a b => a + (bits (at' (b * bpl + i / 8)) (i % 8) (i % 8)) * 2 ^ b) 0

/-- The original bytes of a block from its eight lines (R137). -/
def blockOf (format npix k : Nat) (lines : List (List Nat)) : List Nat :=
  (List.range npix).flatMap (fun c =>
    (List.range 4).map (fun m =>
      linePixel format npix k c ((lines[2 * m]?).getD []) + 16 * linePixel format npix k c ((lines[2 * m + 1]?).getD [])))

/-- Line j of a block's original bytes: its pixel codes. -/
def blockLine (j : Nat) : List Nat → List Nat
  | a :: b :: c :: d :: t => (bits (a + 256 * b + 0x10000 * c + 0x1000000 * d) (4 * j + 3) (4 * j)) :: blockLine j t
  | _ => []

/-- The bytes of a stroke's slot from its lines, line j in nibble j (R171). -/
def slotBytes (npix : Nat) (lines : List (List Nat)) : List Nat :=
  (List.range npix).flatMap (fun c =>
    leBytes 4 ((lines.foldl (fun (a : Nat × Nat) l => (a.1 + ((l[c]?).getD 0 % 16) * 16 ^ a.2, a.2 + 1)) (0, 0)).1))

end Sys2Proof.Machine
end

