-- ==== Sys2Proof/Machine/Gather.lean ====
section
/-! DEFINITION. The gatherer: descriptors (R49, R54), choices (R62), sewing points (R65 to R70), the path (R68, R83, R79), stream commands
(R81, R82) and web mode (R84, R85). -/

namespace Sys2Proof.Machine

/-! ### Conditions GATH reads -/

/-- LCS.BOOTSTAT.STAGE reads Ready (R45). -/
def State.ready (s : State) : Bool := s.g F.LCS_BOOTSTAT_STAGE == 6

/-- Every unit reports the current epoch (R40, R358). -/
def State.epochsOk (s : State) : Bool := (List.range 4).all (fun k => s.word .JRN_UNITEP 0 k == 0xFFFFFFFF)

/-- A CRIT level is active (R304). -/
def State.critActive (s : State) : Bool := s.on F.THM_STAT_CRIT

def State.inKettle (s : State) : Bool := s.on F.FCL_STAT_KETTLE

/-- The consumables of a station permit sewing (R398). -/
def State.consumablesPermit (s : State) (k : Nat) : Bool :=
  (List.range 8).all (fun n =>
    !(s.on (F.HYW_CTRL_EN n) && (s.on (F.HYW_CFG_PATH n) || bit (s.g (F.HYW_CFG_STN n)) k)) || s.on (F.HYW_STAT_PERMIT n))

/-- An accepted folio that is not sewn in its present attempt and is to be: one SPOILED for another cause than a host abort is to be sewn again
after its purge; an aborted or a stranded one is not (R60, R62, R79, R82). -/
def Folio.toSew (f : Folio) : Bool :=
  match f.st with
  | .accepted => true
  | .admitted => true
  | .held => true
  | .exhausted => true
  | .spoiled => f.reason != 0x0C && !f.abortAfter
  | _ => false

/-- The head folio of a stream: the lowest accepted FSN of it that is not yet sewn (R62, R79). -/
def State.head (s : State) (n : Nat) : Option Folio :=
  (s.gath.folios.filter (fun f => f.desc.stream == n && f.toSew)).foldl
      (fun a f => match a with | none => some f | some g => if precedes f.desc.fsn g.desc.fsn then some f else some g) none

/-- SSTATn.STATE as it reads: WAIT_CONS for a stream that would be in RUN and whose head needs a station whose consumables do not permit
sewing (R398). -/
def State.streamShown (s : State) (n : Nat) : Nat :=
  if s.streamState n = stRUN then
    match s.head n with
    | some f => if (List.range 4).all (fun k => !bit f.desc.stations k || s.consumablesPermit k) then stRUN else stWAIT_CONS
    | none => stRUN
  else s.streamState n

/-! ### Descriptors (R49, R54) -/

/-- The fields of a 64-byte descriptor. -/
def Desc.ofBytes (b : List Nat) : Desc :=
  let w := fun o n => leNat ((b.drop o).take n)
  { fsn := w 0 4, stream := bits (w 4 1) 2 0, media := bits (w 5 1) 5 0, duplex := bit (w 6 2) 0, web := bit (w 6 2) 1,
    src := bits (w 6 2) 3 2, format := bits (w 6 2) 5 4, lastInSig := bit (w 6 2) 6, stations := bits (w 6 2) 11 8, sig := w 8 4,
    outbin := bits (w 12 1) 2 0, length := w 14 2, coverR := w 16 4, coverV := w 20 4, rectoRef := w 24 8, versoRef := w 32 8,
    rectoCrc := w 40 4, versoCrc := w 44 4 }

/-- A reserved byte or bit of the descriptor is non-zero (R49). -/
def descReserved (b : List Nat) : Bool :=
  let w := fun o n => leNat ((b.drop o).take n)
  bits (w 4 1) 7 3 != 0 || bits (w 5 1) 7 6 != 0 || bit (w 6 2) 7 || bits (w 6 2) 15 12 != 0 || bits (w 12 1) 7 3 != 0
    || w 13 1 != 0 || w 48 12 != 0

/-- Unselected stations carry no coverage. -/
def coverClean (cover stations : Nat) : Bool :=
  (List.range 4).all (fun k => bit stations k || bits cover (8 * k + 7) (8 * k) == 0)

/-- A reserved encoding under R49, or a media class whose VALID is clear. -/
def State.badField (s : State) (b : List Nat) (d : Desc) : Bool :=
  descReserved b || d.src ≥ 2 || d.stations == 0 || d.stations ≥ 2 ^ s.blockCount .STR
    || d.outbin ≥ s.g F.GATH_CTRL_NBINS
    || !((if d.web then 0x00C8 else 0x0384) ≤ d.length && d.length ≤ 0x32C8)
    || !coverClean d.coverR d.stations || !coverClean d.coverV d.stations
    || (!d.duplex && (d.versoRef != 0 || d.versoCrc != 0 || d.coverV != 0))
    || !s.on (F.GATH_MEDIA_B_VALID d.media)

/-- The folio's cost exceeds the depth of an enabled bucket (R54, R63). -/
def State.costExceeds (s : State) (d : Desc) : Bool :=
  (s.ga F.GATH_FUS_DEPTH_DEPTH != 0 && s.ga F.GATH_FUS_DEPTH_DEPTH < s.fuserCost d)
    || (s.ga F.GATH_SITE_DEPTH_DEPTH != 0 && s.ga F.GATH_SITE_DEPTH_DEPTH < s.siteCost d)

/-- The first refusal code that applies at consumption, in the table order of R54; 0 for none.  In FROZEN every descriptor is refused with
JOURNAL (R360). -/
def State.refusalCode (s : State) (n : Nat) (b : List Nat) (d : Desc) : Nat :=
  let valid := s.on (F.GATH_SSTAT_VALID n)
  let next := s.g (F.GATH_SNEXT_FSN n)
  let sdel := s.g (F.GATH_SDEL_FSN n)
  if s.g F.JRN_STAT_STATE = jFROZEN then 0x0C
  else if leNat (b.drop 60) != crc32c (b.take 60) then 1
  else if d.stream != n then 2
  else if s.streamState n = stBLOCKED || s.on (F.GATH_SSTAT_REFPEND n) then 3
  else if valid && precedes d.fsn next && !precedes sdel d.fsn then 4
  else if valid && d.fsn != next then 5
  else if s.badField b d then 6
  else if d.web != s.on F.GATH_CTRL_WEB || (d.web && d.duplex) then 7
  else if s.costExceeds d then 8
  else 0

/-- What a refusal does to its stream (R54): LASTREF, then BLOCKED, or REFPEND while the stream is halted; and the REFUSED completion. -/
def State.refuseStream (s : State) (n fsn code : Nat) : State :=
  let s1 := (s.fixed 3).p (F.GATH_SSTAT_LASTREF n) code
  let s2 :=
    if s.streamState n = stEXHAUST || s.streamState n = stSTRAND then s1.p (F.GATH_SSTAT_REFPEND n) 1 else s1.setStreamState n stBLOCKED
  s2.report n ⟨fsn, 2, 0, code, false, false, 0, s.now⟩

/-- A folio in INGEST is refused (R53, R54, R363): its store is freed, then the stream is treated as R54 says. -/
def State.refuseFolio (s : State) (st fsn code : Nat) : State :=
  match s.folio? st fsn with
  | some f => if f.st == .ingest then (s.modFolio st fsn (fun g => { g with st := .refused, stored := false })).refuseStream st fsn code else s
  | none => s

/-- Adds a folio in INGEST, dropping an earlier terminal one of the same FSN. -/
def State.addFolio (s : State) (d : Desc) : State :=
  { s with gath := { s.gath with folios := s.gath.folios.filter (fun f => !f.is d.stream d.fsn) ++ [{ desc := d }] } }

/-- Whether GATH may take the next descriptor of a stream (R45, R46, R58, R322, R323, R350, R357, R361): one descriptor of a stream is in INGEST at a
time (log 15). -/
def State.mayConsume (s : State) (n : Nat) : Bool :=
  n < 8 && s.ready && s.g F.PSQ_STAT_PSTATE == 0 && s.psq.sleepReq == 0 && (s.g F.JRN_STAT_STATE == jOPEN || s.g F.JRN_STAT_STATE == jFROZEN || s.g F.JRN_STAT_STATE == jLOST)
    && s.span < 1536 && 16 ≤ s.complRoom n && s.ringEn n && !s.ringEmpty n && s.g (F.TCE_QCFG_CONS n) == 5
    && !s.gath.folios.any (fun f => f.desc.stream == n && f.st == .ingest)

/-- DESCRIPTOR_CONSUME (R54): GATH takes the next descriptor of a stream's ring and judges it. -/
def execDescriptorConsume (n : Nat) (s : State) : Host.Outcome State Fault Refusal :=
  if s.mayConsume n then
    let b := s.rdBytes (s.ringAddr n (s.qhead n)) 64
    let d := Desc.ofBytes b
    let s1 := s.ringPop n
    match s.refusalCode n b d with
    | 0 => done (s1.addFolio { d with stream := n })
    | c => done (s1.refuseStream n d.fsn c)
  else .next s

/-- HELD_RECORD_RELEASE (R58): one move of a stream's held records and pending marks. -/
def execHeldRecordRelease (n : Nat) (s : State) : Host.Outcome State Fault Refusal := done (s.releaseOne n)

/-! ### Acceptance (R51, R64) -/

/-- With all blocks stored and both check values confirmed, GATH requests the ACCEPT record (R51); with no journal copy left the folio is
refused with JOURNAL (R363).  A folio already in INGEST when its stream is blocked or aborted, or CONTINUE moves SNEXT, was judged at its consumption and
is not judged again (R54; DESIGN CHOICE, log 67). -/
def State.tryAccept (s : State) (st fsn : Nat) : State :=
  match s.folio? st fsn with
  | none => s
  | some f =>
    if f.st == .ingest && !f.stored && f.sideOk == (if f.desc.duplex then 3 else 1) then
      if s.g F.JRN_STAT_STATE = jOPEN then
        let s1 := s.modFolio st fsn (fun g => { g with stored := true })
        s1.folioRecord { f with st := .accepted } 1 f.desc.sig false false s.now 1
      else s.refuseFolio st fsn 0x0C
    else s

/-- One side of a folio has been ingested with a check value: refused with CHECK_VALUE when it differs from the descriptor's (R52). -/
def State.sideIngested (s : State) (st fsn : Nat) (verso : Bool) (crc : Nat) : State :=
  match s.folio? st fsn with
  | none => s
  | some f =>
    if f.st != .ingest then s
    else if crc != (if verso then f.desc.versoCrc else f.desc.rectoCrc) then s.refuseFolio st fsn 0x0B
    else (s.modFolio st fsn (fun g => { g with sideOk := setBit g.sideOk verso.toNat true })).tryAccept st fsn

/-- The least FSN of a list in serial order. -/
def leastFsn : List Nat → Option Nat
  | [] => none
  | a :: t => match leastFsn t with | none => some a | some b => if precedes a b then some a else some b

/-- The next expected FSN after fsn is accepted (R54, R87). -/
def State.nextAfter (s : State) (n fsn : Nat) : Nat :=
  match leastFsn (s.stream n).awaiting with
  | some a => a
  | none =>
    match (s.stream n).closed with
    | some c => if precedes fsn c then succ32 c else succ32 fsn
    | none => succ32 fsn

/-- SDEL, or closed, moves to a later FSN. -/
def State.closeFsn (s : State) (n fsn : Nat) : State :=
  s.modStream n (fun t => { t with closed := match t.closed with | some c => if precedes c fsn then some fsn else some c | none => some fsn })

/-- The device no longer keeps that a folio's sheet had reached the diverter before a reset (R88, R90). -/
def State.forgetPast (s : State) (n fsn : Nat) : State :=
  { s with gath := { s.gath with pastGate := s.gath.pastGate.filter (· != (n, fsn)) } }

/-- The completion record that follows a committed record; its stamp is the event's (R56). -/
def JRec.completion (r : JRec) : Compl :=
  ⟨r.fsn, r.compl, r.try_, if r.type = 6 then r.aux % 256 else 0, r.stranded, r.operator, if r.type = 5 then r.aux % 8 else 0, r.stamp⟩

/-- What the commit of a record brings to GATH (R51, R56, R60, R69, R83, R87). -/
def State.onCommit (s0 : State) (r : JRec) : State :=
  let s := s0.modStream r.stream (fun t => { t with recorded := true })
  match s.folio? r.stream r.fsn with
  | none =>
    let s1 := if r.type = 5 then s.p (F.GATH_SDEL_FSN r.stream) r.fsn else s
    if r.compl = 0 then s1
    else s1.reportCommit r.stream (r.completion)
  | some f =>
    let s1 :=
      if r.type = 1 then
        let s2 := s.modFolio r.stream r.fsn (fun g =>
          { g with st := .accepted, costF := s.fuserCost f.desc, costS := s.siteCost f.desc })
        let s3 := (s2.modStream r.stream (fun t => { t with awaiting := t.awaiting.filter (· != r.fsn), inFlight := t.inFlight.filter (· != r.fsn) })).forgetPast
          r.stream r.fsn
        (s3.p (F.GATH_SNEXT_FSN r.stream) (s3.nextAfter r.stream r.fsn)).p (F.GATH_SSTAT_VALID r.stream) 1
      else if r.type = 2 then
        match f.sewing with
        | some w => if w.ts = r.stamp && !w.confirmed then
            s.modFolio r.stream r.fsn (fun g => { g with sewing := some { w with confirmed := true }, armed := s.pathEvents f.desc w }) else s
        | none => s
      else if r.type = 5 then
        (s.modFolio r.stream r.fsn (fun g => { g with st := .delivered, stored := false })).p (F.GATH_SDEL_FSN r.stream) r.fsn |>.closeFsn r.stream r.fsn
      else s
    if r.compl = 0 then s1
    else s1.reportCommit r.stream (r.completion)

/-! ### Budgets and choices (R62, R63) -/

/-- Updates during which the chosen folio waited for a bucket, as OBS counts them (R409). -/
def State.budgetWaits (s : State) : State :=
  match s.gath.folios.find? (fun f => (f.st == .held || f.st == .admitted) && f.sewing.isNone) with
  | some f =>
    let s1 := if s.ga F.GATH_FUS_DEPTH_DEPTH ≠ 0 && s.gath.fuserUj < 1000 * f.costF then s.count 0x43 0 1 else s
    if s.ga F.GATH_SITE_DEPTH_DEPTH ≠ 0 && s.gath.siteUj < 1000 * f.costS then s1.count 0x43 1 1 else s1
  | none => s

/-- BUCKET_UPDATE (R63): every 1 ms both buckets gain, up to their depths; the budget and timing registers take effect. -/
def State.bucketUpdate (s : State) : State :=
  let latch := fun (a : State) (r : Reg) => a.setActive r 0 0 (a.word r 0 0)
  let s1 := [Reg.GATH_FUS_RATE, .GATH_FUS_DEPTH, .GATH_SITE_W, .GATH_BASE_W, .GATH_SITE_DEPTH, .GATH_TIMING, .GATH_GAPMIN,
             .GATH_DIEGAP].foldl latch s
  let fu := min (s1.gath.fuserUj + s1.fuserGain) (s1.ga F.GATH_FUS_DEPTH_DEPTH * 1000)
  let si := min (s1.gath.siteUj + s1.siteGain) (s1.ga F.GATH_SITE_DEPTH_DEPTH * 1000)
  let s2 := ({ s1 with gath := { s1.gath with fuserUj := fu, siteUj := si, bucketAt := s1.now } }.p F.GATH_FUS_LEVEL_LEVEL (fu / 1000)).p
    F.GATH_SITE_LEVEL_LEVEL (si / 1000)
  (s2.budgetWaits.traceEv 2 8 0 (fu / 1000)).traceEv 2 8 1 (si / 1000)

def execBucketUpdate (s : State) : Host.Outcome State Fault Refusal :=
  if s.gath.bucketAt + msTicks ≤ s.now then done s.bucketUpdate else .next s

/-- A folio's cost fits both buckets now (R62); a disabled bucket never delays one (R63). -/
def State.fits (s : State) (f : Folio) : Bool :=
  (s.ga F.GATH_FUS_DEPTH_DEPTH == 0 || f.costF * 1000 + 1000 * s.pendingCost false ≤ s.gath.fuserUj)
    && (s.ga F.GATH_SITE_DEPTH_DEPTH == 0 || f.costS * 1000 + 1000 * s.pendingCost true ≤ s.gath.siteUj)

/-- STRn.STAT.AVAIL: a station is available for new sewing points (R113, R131). -/
def State.stationOk (s : State) (k : Nat) : Bool :=
  s.g (F.STR_STAT_SCAN k) == scLOCKED && !s.on (F.STR_STAT_LASER_DIS k) && s.on (F.STR_CTRL_CALOK k) && !s.on (F.STR_CTRL_CALRUN k)
    && s.g (F.STR_CTRL_MODE k) == s.g (F.STR_CTRL_MODE s.pace) && !(vget s.str k).profBad && !(vget s.str 0).speedHigh
    && s.consumablesPermit k

def State.stationsOk (s : State) (d : Desc) : Bool := (List.range 4).all (fun k => !bit d.stations k || s.stationOk k)

/-- The head folio of an eligible stream (R58, R62). -/
def State.eligible (s : State) (n : Nat) : Option Folio :=
  match s.head n with
  | some f =>
    if s.on (F.GATH_SCFG_EN n) && s.streamShown n == stRUN && f.st == .accepted && s.stationsOk f.desc && 16 ≤ s.complRoom n
    then some f else none
  | none => none

/-- The streams in cyclic order after the one chosen last (R62). -/
def State.cyclic (s : State) : List Nat := (List.range 8).map (fun i => (s.gath.lastChosen + 1 + i) % 8)

/-- The first stream of lowest PRIO among those that meet p, in cyclic order. -/
def State.bestPrio (s : State) (p : Nat → Bool) : Option Nat :=
  (s.cyclic.filter p).foldl (fun a n =>
    match a with
    | none => some n
    | some m => if s.g (F.GATH_SCFG_PRIO n) < s.g (F.GATH_SCFG_PRIO m) then some n else some m) none

/-- The eligible stream that has been mandatory longest (R62); of two that became so at one choice the lower number goes first (DESIGN CHOICE, log 67). -/
def State.mandatoryFirst (s : State) : Option Nat :=
  ((List.range 8).filter (fun n => (s.eligible n).isSome && (s.stream n).mandatory.isSome)).foldl (fun a n =>
    match a with
    | none => some n
    | some m => if (s.stream n).mandatory.getD 0 < (s.stream m).mandatory.getD 0 then some n else some m) none

/-- The stream R62 chooses; none while an open signature waits for its next folio. -/
def State.choose (s : State) : Option Nat :=
  match s.gath.sigOpen with
  | some (m, _) => if (s.eligible m).isSome then some m else none
  | none =>
    match s.mandatoryFirst with
    | some m => some m
    | none =>
      match s.bestPrio (fun n => match s.eligible n with | some f => s.fits f | none => false) with
      | some m => some m
      | none => s.bestPrio (fun n => (s.eligible n).isSome)

/-- An open signature ends without LAST_IN_SIG when the stream's next accepted folio carries another SIG (R48). -/
def State.sigJudge (s : State) : State :=
  match s.gath.sigOpen with
  | some (m, sig) => match s.head m with | some f => if f.st == .accepted && f.desc.sig != sig then s.closeSig else s | none => s
  | none => s

/-- Pass-overs after a choice (R62). -/
def State.countPasses (s : State) (c : Nat) : State :=
  forRange 0 8 (fun n a =>
    if n = c then a.modStream n (fun t => { t with passes := 0, mandatory := none })
    else
      match s.eligible n with
      | some f =>
        if s.fits f then
          a.modStream n (fun t =>
            { t with passes := t.passes + 1,
                     mandatory := if t.mandatory.isNone && s.g (F.GATH_SCFG_SKIPMAX n) ≤ t.passes + 1 then some s.gath.choices else t.mandatory })
        else a
      | none => a) s

/-- The conditions under which GATH makes a choice (R62); the registration point can take a sheet while no folio is ADMITTED or HELD, so that one fed
sheet at most waits (DESIGN CHOICE, log 67). -/
def State.mayChoose (s : State) : Bool :=
  s.on F.GATH_CTRL_EN && s.ready && s.epochsOk && !s.critActive && !s.inKettle && !s.gath.runPending && s.gath.runUntil.isNone
    && !s.gath.webStopped && !s.gath.folios.any (fun f => f.st == .admitted || f.st == .held)

/-- GATH_CHOICE (R62): a waiting waste sheet takes the slot first (R61); else the next stream's head folio is chosen and fed. -/
def execGathChoice (s : State) : Host.Outcome State Fault Refusal :=
  if s.mayChoose then
    let s0 := (s.setActive .GATH_FEED 0 0 (s.word .GATH_FEED 0 0)).sigJudge
    if s0.gath.waste ≠ [] then done s0.runWaste
    else
      match s0.choose with
      | none => done s0
      | some c =>
        match s0.eligible c with
        | none => done s0
        | some f =>
          let s1 := s0.countPasses c
          let s2 := { s1 with gath := { s1.gath with lastChosen := c, choices := s1.gath.choices + 1 } }
          done (s2.modFolio c f.desc.fsn (fun g => { g with st := .admitted, chosenAt := s.gath.choices }))
  else .next s

/-! ### Registration and the sewing point (R65 to R70) -/

/-- PREREG_EDGE (R68): the leading edge at the pre-registration sensor moves the sheet's folio from ADMITTED to HELD. -/
def execPreregEdge (stamp : Nat) (s : State) : Host.Outcome State Fault Refusal :=
  match s.gath.folios.find? (fun f => f.st == .admitted && !f.desc.web) with
  | some f => done (s.modFolio f.desc.stream f.desc.fsn (fun g => { g with st := .held, arrival := some stamp }))
  | none => .next s

/-- Every station of the folio holds at least its first two strokes verified in the quire store (R70). -/
def State.strokesReady (s : State) (d : Desc) : Bool :=
  (List.range 4).all (fun k => !bit d.stations k ||
    min 2 (s.strokesOf d) ≤ aheadOf ((vget s.quire k).slots.filter (fun x => x.side == (d.stream, d.fsn, false) && x.st != .blank)))

/-- The fuser loop reports the band: every enabled port with GATE is in band (R70). -/
def State.fuserOk (s : State) : Bool :=
  (List.range 2).all (fun f => !(s.on (F.FUS_CTRL_EN f) && s.on (F.FUS_CTRL_GATE f)) || s.on (F.FUS_STAT_INBAND f))

/-- Folios in SEWN, RECTO_DONE, VERSO_DONE, SPOILED or STRANDED (R350). -/
def State.pathCount (s : State) : Nat := (s.gath.folios.filter (fun f => f.inPath || f.st == .spoiled || f.st == .stranded)).length

/-- No earlier folio of the stream is still to be sewn (R46, R79). -/
def State.inOrder (s : State) (d : Desc) : Bool :=
  !s.gath.folios.any (fun f => f.desc.stream == d.stream && precedes f.desc.fsn d.fsn && f.toSew)

/-- The conditions under which GATH fixes t_s (R67, R70, R72, R131, R287, R295, R350). -/
def State.mayFix (s : State) (f : Folio) (purgeOk : Bool) : Bool :=
  (if f.desc.web then f.st == .admitted && s.gath.webMark.isSome && !s.gath.webStopped else f.st == .held) && f.sewing.isNone
    && s.on F.GATH_CTRL_EN && s.ready && s.epochsOk && !s.critActive && !s.inKettle && !s.gath.runPending && s.gath.runUntil.isNone
    && s.strokesReady f.desc && s.fuserOk && purgeOk && s.streamShown f.desc.stream == stRUN && s.inOrder f.desc
    && s.stationsOk f.desc && s.span < 1792 && s.pathCount < 60
    && s.ga (F.SYN_DIV_CORE 0) == 0 && s.g (F.SYN_STAT_STATE 1) != syHOLD

/-- The die gap at a sewing decision (R67): up by 25 ms at or above WARN, down by 25 ms below WARN - 2 degrees. -/
def State.adjustGap (s : State) : State :=
  let hot := s.gi F.THM_STAT_HOTTEMP
  let warn : Int := 100 * (s.g F.THM_LEVELS_WARN : Nat)
  let now := s.g F.GATH_DIEGAP_NOW
  if warn ≤ hot then s.p F.GATH_DIEGAP_NOW (min (now + 25) (max now (s.ga F.GATH_DIEGAP_MAX)))
  else if hot < warn - 200 then s.p F.GATH_DIEGAP_NOW (now - 25)
  else s

/-- SEW_POINT_FIX (R66, R69): the earliest permitted sewing point of a folio; its SEWN record is requested.  A label that cannot be sewn at its mark
leaves its place unprinted (R84).  purgeOk tells whether the purge
sensors the firmware chose are wired, claimed and report neither full nor fault (R70). -/
def execSewPointFix (st fsn : Nat) (purgeOk : Bool) (s : State) : Host.Outcome State Fault Refusal :=
  match s.folio? st fsn with
  | none => .next s
  | some f =>
    if s.mayFix f purgeOk then
      let s1 := s.adjustGap
      match s1.earliestSew f with
      | none => done (if f.desc.web then { s1 with gath := { s1.gath with webMark := none } } else s1)
      | some ts =>
        let w : Sewing := ⟨ts, s1.speed, s1.g (F.STR_PERIOD_T_EST (s1.ga (F.STR_GLOBAL_PACE 0))), false⟩
        let s2 := s1.modFolio st fsn (fun g => { g with sewing := some w })
        done (s2.folioRecord { f with sewings := f.sewings + 1, st := .sewn } 2 (f.desc.stations + 16 * f.desc.duplex.toNat) false false ts 0)
    else .next s

/-- SEWN_WITHDRAW (R69): without confirmation by t_s - 1 ms the sewing point is withdrawn and the folio keeps waiting. -/
def execSewnWithdraw (st fsn : Nat) (s : State) : Host.Outcome State Fault Refusal :=
  match s.folio? st fsn with
  | none => .next s
  | some f =>
    match f.sewing with
    | none => .next s
    | some w =>
      if !w.confirmed && (f.st == .held || f.st == .admitted) && w.ts ≤ s.now + msTicks then
        done { s.modFolio st fsn (fun g => { g with sewing := none }) with gath :=
          { (s.modFolio st fsn (fun g => { g with sewing := none })).gath with webMark := if f.desc.web then none else s.gath.webMark } }
      else .next s

/-- Charges the buckets with the folio's costs (R65). -/
def State.charge (s : State) (f : Folio) : State :=
  let fu := if s.ga F.GATH_FUS_DEPTH_DEPTH = 0 then s.gath.fuserUj else s.gath.fuserUj - 1000 * f.costF
  let si := if s.ga F.GATH_SITE_DEPTH_DEPTH = 0 then s.gath.siteUj else s.gath.siteUj - 1000 * f.costS
  ({ s with gath := { s.gath with fuserUj := fu, siteUj := si } }.p F.GATH_FUS_LEVEL_LEVEL (fu / 1000)).p F.GATH_SITE_LEVEL_LEVEL (si / 1000)

/-- A consumable port serves a folio (R397, R398): one of its stations, or every station. -/
def State.hywServes (s : State) (n stations : Nat) : Bool :=
  s.on (F.HYW_CTRL_EN n) && (s.on (F.HYW_CFG_PATH n) || s.g (F.HYW_CFG_STN n) &&& stations != 0)

/-- The sewn folios that use each port are counted (R394). -/
def State.hywSewn (s : State) (stations : Nat) : State :=
  forRange 0 8 (fun n a => if a.hywServes n stations then { a with hyw := vmod a.hyw n (fun h => { h with sewn := h.sewn + 1 }) } else a) s

/-- SEWING_POINT_REACHED (R60, R65, R48): at t_s the folio enters SEWN, the buckets are charged and the signature opens or closes.  A folio
that a spoil cause reached after its SEWN commit is spoiled now, one aborted then with 0x0C (R74, R82).  T_est of the pace station is recorded as the
folio's reference (R105).  Sewing a folio of a signature that was broken opens its lock again (DESIGN CHOICE, log 67). -/
def execSewingPointReached (st fsn : Nat) (s : State) : Host.Outcome State Fault Refusal :=
  match s.folio? st fsn with
  | none => .next s
  | some f =>
    match f.sewing with
    | none => .next s
    | some w =>
      if w.confirmed && w.ts ≤ s.now && (f.st == .held || (f.st == .admitted && f.desc.web)) then
        let s1 := (s.charge f).hywSewn f.desc.stations
        let s2 := s1.modFolio st fsn (fun g =>
          { g with st := .sewn, sewing := some { w with tEst := s.g (F.STR_PERIOD_T_EST (s.ga (F.STR_GLOBAL_PACE 0))) },
                   sewings := g.sewings + 1, attempts := g.attempts + 1, reason := 0, late := 0, rectoDone := 0, versoDone := 0, regSeen := 0,
                   leadSeen := false, trailSeen := false, jam := false, exitOk := false })
        let s3 := if f.desc.lastInSig then s2.closeSig true else { s2 with gath := { s2.gath with sigOpen := some (st, f.desc.sig) } }
        let s4 := if f.desc.web then { s3 with gath := { s3.gath with webMark := none } } else s3
        let why := if f.late ≠ 0 then f.late else if f.abortAfter then 0x0C else 0
        done (if why ≠ 0 then (s4.fixed 0).spoilWhere (fun g => g.is st fsn) why else s4.fixed 0)
      else .next s

/-! ### Imaging, sensors and delivery (R60, R68, R83) -/

/-- REG_TOL in ticks: the field counts units of 10 us (R68, GATH.TIMING). -/
def State.regTol (s : State) : Nat := s.ga F.GATH_TIMING_REG_TOL * 2500

/-- EDGETOL in ticks (R83). -/
def State.edgeTol (s : State) : Nat := s.ga F.GATH_FEED_EDGETOL * msTicks

def nearTo (a b tol : Nat) : Bool := a ≤ b + tol && b ≤ a + tol

/-- REG_WINDOW_EXPIRE (R68): no registration edge within REG_TOL of t_side spoils the folio with 0x05. -/
def execRegWindowExpire (st fsn : Nat) (verso : Bool) (s : State) : Host.Outcome State Fault Refusal :=
  match s.folio? st fsn with
  | none => .next s
  | some f =>
    match f.sewing with
    | none => .next s
    | some w =>
      if f.inPath && !f.desc.web && !bit f.regSeen verso.toNat && (!verso || f.desc.duplex)
          && s.tSide f.desc w.speed w.ts verso + s.regTol < s.now then
        done (s.spoilWhere (fun g => g.is st fsn) 5)
      else .next s

/-- The folio's last stroke of station k on a side has come (R71). -/
def State.strokesOver (s : State) (f : Folio) (k : Nat) (verso : Bool) : Bool :=
  f.armed.all (fun e => e.1 != .lastStroke k verso || e.2 ≤ s.now)

/-- SIDE_IMAGED (R60): station k has imaged its last stroke of the folio's side, which R71 schedules; when every selected station has, the folio moves on and the
record is requested. -/
def execSideImaged (st fsn k : Nat) (s : State) : Host.Outcome State Fault Refusal :=
  match s.folio? st fsn with
  | none => .next s
  | some f =>
    if !bit f.desc.stations k then .next s
    else if !s.strokesOver f k (f.st == .rectoDone) then .next s
    else if f.st == .sewn then
      let m := setBit f.rectoDone k true
      let s1 := s.modFolio st fsn (fun g => { g with rectoDone := m, st := if m == f.desc.stations then .rectoDone else .sewn })
      if m == f.desc.stations then done (s1.folioRecord f 3 0 false false s.now 0) else done s1
    else if f.st == .rectoDone && f.desc.duplex then
      let m := setBit f.versoDone k true
      let s1 := s.modFolio st fsn (fun g => { g with versoDone := m, st := if m == f.desc.stations then .versoDone else .rectoDone })
      if m == f.desc.stations then done (s1.folioRecord f 4 0 false false s.now 0) else done s1
    else .next s

/-- SHEET_EDGE (R68, R83): a sheet sensor edge is stamped and matched against the window of the oldest folio that expects it. -/
def execSheetEdge (sensor : SheetSensor) (stamp : Nat) (s : State) : Host.Outcome State Fault Refusal :=
  let expects : Folio → Bool := fun f =>
    match f.sewing with
    | none => false
    | some w =>
      f.inPath &&
      match sensor with
      | .registration =>
        !f.desc.web && ((!bit f.regSeen 0 && w.ts ≤ stamp && nearTo stamp w.ts s.regTol)
          || (f.desc.duplex && !bit f.regSeen 1 && nearTo stamp (s.tSide f.desc w.speed w.ts true) s.regTol))
      | .exitLead => !f.leadSeen && nearTo stamp (s.exitLead f) s.edgeTol
      | .exitTrail => !f.trailSeen && nearTo stamp (s.exitTrail f) s.edgeTol
  match oldestWhere expects s.gath.folios with
  | none => .next s
  | some f =>
    done (s.modFolio f.desc.stream f.desc.fsn (fun g =>
      match sensor with
      | .registration =>
        { g with regSeen := setBit g.regSeen (if !bit g.regSeen 0 && nearTo stamp g.ts s.regTol then 0 else 1) true }
      | .exitLead => { g with leadSeen := true }
      | .exitTrail => { g with trailSeen := true }))

/-- EDGE_WINDOW_EXPIRE (R83): an expected exit edge missing from its window is a jam on the folio's own exit path, with reason 0x05. -/
def execEdgeWindowExpire (st fsn : Nat) (trailing : Bool) (s : State) : Host.Outcome State Fault Refusal :=
  match s.folio? st fsn with
  | none => .next s
  | some f =>
    if f.inPath && f.sewing.isSome && !(if trailing then f.trailSeen else f.leadSeen)
        && (if trailing then s.exitTrail f else s.exitLead f) + s.edgeTol < s.now then
      done ((s.modFolio st fsn (fun g => { g with jam := true })).spoilWhere (fun g => g.is st fsn) 5 true)
    else .next s

/-- EXIT_CONFIRMED (R83): at the confirmation time, with both exit edges seen and no jam, GATH requests the DELIVERED record. -/
def execExitConfirmed (st fsn : Nat) (s : State) : Host.Outcome State Fault Refusal :=
  match s.folio? st fsn with
  | none => .next s
  | some f =>
    if (if f.desc.duplex then f.st == .versoDone else f.st == .rectoDone) && f.leadSeen && f.trailSeen && !f.jam && !f.exitOk
        && s.exitConfirm f ≤ s.now then
      done ((s.modFolio st fsn (fun g => { g with exitOk := true })).folioRecord f 5 f.desc.outbin false false s.now 5)
    else .next s

/-! ### Purge (R78 to R80) -/

/-- A folio leaves the path for a fresh attempt, or for good. -/
def Folio.backTo (f : Folio) (st : FolioState) : Folio :=
  { f with st := st, sewing := none, arrival := none, armed := [], late := 0, rectoDone := 0, versoDone := 0, regSeen := 0, leadSeen := false,
           trailSeen := false, jam := false, exitOk := false }

/-- PURGE_CONFIRM (R79): the purge sensor confirms the oldest unconfirmed spoiled sheet; its folio is purged, then retried, exhausted or
aborted.  One spoiled for another reason that the host aborted afterwards stays in the path, and ends ABORTED here with its SPOILED record of reason
0x0C (DESIGN CHOICE, log 67). -/
def execPurgeConfirm (s : State) : Host.Outcome State Fault Refusal :=
  match oldestWhere (fun f => f.st == .spoiled) s.gath.folios with
  | none => .next s
  | some f =>
    let st := f.desc.stream
    let s1 := s.completeFolio f 4 f.reason false false f.tryNo
    if f.reason = 0x0C then
      done ((s1.modFolio st f.desc.fsn (fun g => g.backTo .aborted)).closeFsn st f.desc.fsn |>.completeFolio f 7 0x0C false false f.tryNo)
    else if f.abortAfter then
      done ((s1.modFolio st f.desc.fsn (fun g => g.backTo .aborted)).closeFsn st f.desc.fsn |>.folioRecord f 6 0x0C false false s.now 7)
    else if f.attempts < 1 + s.g (F.GATH_SCFG_MAXTRY st) then
      done (s1.modFolio st f.desc.fsn (fun g => g.backTo .accepted))
    else
      let s2 := ((s1.modFolio st f.desc.fsn (fun g => g.backTo .exhausted)).setStreamState st stEXHAUST).breakSig st
      done ((s2.unfeed st).completeFolio f 6 f.reason false false f.tryNo)

/-- PURGE_FAIL (R78): no confirmation within EXIT_SETTLE of the scheduled purge time, or a full purge bin, is a class-C fault. -/
def execPurgeFail (binFull : Bool) (s : State) : Host.Outcome State Fault Refusal :=
  match oldestWhere (fun f => f.st == .spoiled) s.gath.folios with
  | some f =>
    if binFull || (s.exitTrail f + s.exitSettle < s.now && !s.inKettle) then done (s.raise 2 1 f.desc.stream .c 5) else .next s
  | none => if binFull then done (s.raise 2 1 0 .c 5) else .next s

/-- PURGE_PATH_RUN (R80): after the kettle state GATH runs the path to purge for the longest path time at v. -/
def execPurgePathRun (s : State) : Host.Outcome State Fault Refusal :=
  if s.gath.runPending && !s.inKettle && s.speed ≠ 0 then
    done { s with gath := { s.gath with runPending := false, runUntil := some (s.now + travel (s.dEXIT + s.dDUP + s.dRET + 13000) s.speed) } }
  else .next s

/-- PURGE_PATH_RUN_END (R80): the run ends after its time. -/
def execPurgePathRunEnd (s : State) : Host.Outcome State Fault Refusal :=
  match s.gath.runUntil with
  | some t => if t ≤ s.now then done { s with gath := { s.gath with runUntil := none } } else .next s
  | none => .next s

/-! ### Stream commands (R55, R81, R82) -/

/-- The result of a stream command (GATH.SCMDRES); a refused one is a class-A fault STATE_REFUSED. -/
def State.scmdResult (s : State) (q : Requester) (ok : Bool) (count : Nat) : State :=
  let s1 := ((s.p F.GATH_SCMDRES_DONE 1).p F.GATH_SCMDRES_OK ok.toNat).p F.GATH_SCMDRES_COUNT (min count 0xFFFF)
  if ok then s1 else s1.unitFault .GATH 0 q cSTATE_REFUSED

/-- A halt ends: RUN, or BLOCKED when REFPEND is 1, which clears (R54, R81). -/
def State.endHalt (s : State) (n : Nat) : State :=
  if s.on (F.GATH_SSTAT_REFPEND n) then (s.p (F.GATH_SSTAT_REFPEND n) 0).setStreamState n stBLOCKED else s.setStreamState n stRUN

/-- CONTINUE (R55, R81). -/
def State.scmdContinue (s : State) (q : Requester) (n : Nat) : State :=
  let fsn := s.g F.GATH_SCMDFSN_FSN
  if s.streamState n = stBLOCKED && !precedes fsn (s.g (F.GATH_SNEXT_FSN n)) then
    (((s.p (F.GATH_SNEXT_FSN n) fsn).p (F.GATH_SSTAT_VALID n) 1).setStreamState n stRUN).scmdResult q true 0
  else s.scmdResult q false 0

/-- A folio returns to ACCEPTED with a fresh attempt count (R60, R81). -/
def State.freshTry (s : State) (f : Folio) : State :=
  s.modFolio f.desc.stream f.desc.fsn (fun g => { g with st := .accepted, attempts := 0, reason := 0 })

/-- RETRY (R81): every exhausted folio of the stream returns to ACCEPTED, and the head folio gets a fresh attempt count, which the model gives the
exhausted ones too where they are not the head (DESIGN CHOICE, log 67). -/
def State.scmdRetry (s : State) (q : Requester) (n : Nat) : State :=
  if s.streamState n = stEXHAUST then
    let out := s.gath.folios.filter (fun f => f.desc.stream == n && f.st == .exhausted)
    let s1 := out.foldl (fun a f => a.freshTry f) s
    let s2 := match s1.head n with
      | some f => s1.modFolio n f.desc.fsn (fun g => { g with attempts := 0 })
      | none => s1
    (s2.endHalt n).scmdResult q true (max 1 out.length)
  else s.scmdResult q false 0

/-- An accepted, undelivered folio the device holds. -/
def Folio.undelivered (f : Folio) : Bool := f.st != .ingest && !f.st.terminal

/-- What ABORT does to one folio that is not in the path (R60, R82). -/
def State.abortOne (s : State) (f : Folio) : State :=
  let st := f.desc.stream
  let endNow := fun (a : State) =>
    (((a.blankFolio st f.desc.fsn).modFolio st f.desc.fsn (fun g => g.backTo .aborted)).closeFsn st f.desc.fsn).folioRecord f 6 0x0C false false s.now 7
  match f.st with
  | .accepted => endNow s
  | .exhausted => endNow s
  | .admitted => abortFed endNow
  | .held => abortFed endNow
  | .spoiled => s.modFolio st f.desc.fsn (fun g => { g with abortAfter := true })
  | _ => s
where
  abortFed (endNow : State → State) : State :=
    if (match f.sewing with | some w => w.confirmed | none => false) then
      s.modFolio f.desc.stream f.desc.fsn (fun g => { g with abortAfter := true })
    else endNow { s with gath := { s.gath with waste := s.gath.waste ++ [f.desc.length] } }

/-- Whether ABORT counts a folio among those it affects. -/
def State.abortable (s : State) (f : Folio) : Bool :=
  f.undelivered && f.st != .stranded && (!f.inPath || s.spoilable f false)

/-- The attempt a record of an FSN known from replay alone belongs to: that of its last record (R56). -/
def State.tryOf (s : State) (n fsn : Nat) : Nat := (((s.stream n).tries.find? (fun (x : Nat × Nat) => x.1 == fsn)).getD (fsn, 1)).2

/-- Ends an FSN that awaits resubmission: SPOILED with 0x0C, ABORTED at once (R355). -/
def State.abortAwaiting (s : State) (n fsn : Nat) : State :=
  ((s.modStream n (fun t => { t with awaiting := t.awaiting.filter (· != fsn), inFlight := t.inFlight.filter (· != fsn) })).closeFsn n fsn).jrnRequest
    { type := 6, stream := n, try_ := s.tryOf n fsn, fsn := fsn, stamp := s.now, aux := 0x0C, compl := 7 }

/-- ABORT (R81, R82): the named folios in the path are spoiled with 0x0C together, the others end or are marked; a folio past its diverter passage, or
stranded, is not reached (R77).  A folio of the stream in INGEST is no accepted one: its descriptor was judged before, and it is accepted later without
being judged again (DESIGN CHOICE, log 67). -/
def State.scmdAbort (s : State) (q : Requester) (n : Nat) : State :=
  let fsn := s.g F.GATH_SCMDFSN_FSN
  let named := s.gath.folios.filter (fun f => f.desc.stream == n && f.undelivered && !precedes f.desc.fsn fsn)
  let waits := (s.stream n).awaiting.filter (fun x => !precedes x fsn)
  if named.any (fun f => f.desc.fsn == fsn) || waits.contains fsn || (s.stream n).stranded.any (fun x => x.1 == fsn) then
    let hit := named.filter (fun f => s.abortable f)
    let s0 := s.spoilWhere (fun f => f.inPath && hit.any (fun g => g.is f.desc.stream f.desc.fsn)) 0x0C
    let s1 := (hit.filter (fun f => !f.inPath)).foldl (fun a f => match a.folio? n f.desc.fsn with | some g => a.abortOne g | none => a) s0
    let s2 := waits.foldl (fun a x => a.abortAwaiting n x) s1
    let s3 := ((s2.p (F.GATH_SSTAT_REFPEND n) 0).setStreamState n stBLOCKED)
    s3.scmdResult q true (hit.length + waits.length)
  else s.scmdResult q false 0

/-- The FSN of a stream that is stranded first: a folio in STRANDED, or one a replay found so (R81, R87). -/
def State.strandedFsn (s : State) (n : Nat) : Option Nat :=
  leastFsn ((s.gath.folios.filter (fun f => f.desc.stream == n && f.st == .stranded)).map (fun f => f.desc.fsn)
    ++ (s.stream n).stranded.map (fun x => x.1))

/-- The halt of a stranded stream ends once no folio of it is stranded. -/
def State.endStrand (s : State) (n : Nat) : State := if (s.strandedFsn n).isSome then s else s.endHalt n

/-- The next expected FSN of a stream with none accepted since its reset (R87); with several stranded folios, which R87 does not speak of, the next
stranded FSN before any that awaits (DESIGN CHOICE, log 67). -/
def State.nextExpected (s : State) (n : Nat) : Nat :=
  match (s.strandedFsn n), leastFsn (s.stream n).awaiting, (s.stream n).closed with
  | some x, _, _ => x
  | none, some a, _ => a
  | none, none, some c => succ32 c
  | none, none, none => s.g (F.GATH_SNEXT_FSN n)

/-- OPERATOR_DELIVERED (R81); the bin of a folio that only replay knows is a free value (log 1). -/
def State.scmdOperatorDelivered (s : State) (q : Requester) (n : Nat) : State :=
  let fsn := s.g F.GATH_SCMDFSN_FSN
  if s.streamState n = stSTRAND && s.strandedFsn n == some fsn then
    let s1 :=
      match s.gath.folios.find? (fun f => f.is n fsn && f.st == .stranded) with
      | some f => (s.modFolio n fsn (fun g => { g.backTo .delivered with stored := false })).folioRecord f 5 f.desc.outbin false true s.now 5
      | none => s.draw.2.jrnRequest { type := 5, stream := n, try_ := s.tryOf n fsn, operator := true, fsn := fsn, stamp := s.now, aux := s.draw.1.toNat % 8, compl := 5 }
    let s2 := (((s1.modStream n (fun t => { t with stranded := t.stranded.filter (fun x => x.1 != fsn) })).forgetPast n fsn).closeFsn n fsn).p (F.GATH_SDEL_FSN n) fsn
    let s3 := if s2.g (F.GATH_SNEXT_FSN n) = fsn then s2.p (F.GATH_SNEXT_FSN n) (s2.nextExpected n) else s2
    (s3.endStrand n).scmdResult q true 1
  else s.scmdResult q false 0

/-- OPERATOR_REMOVED (R81, R82); a folio that a reset found past the diverter with no SPOILED record has no reason to keep: it is a free value
(log 1). -/
def State.scmdOperatorRemoved (s : State) (q : Requester) (n : Nat) : State :=
  let fsn := s.g F.GATH_SCMDFSN_FSN
  if s.streamState n = stSTRAND && s.strandedFsn n == some fsn then
    let s1 :=
      match s.gath.folios.find? (fun f => f.is n fsn && f.st == .stranded) with
      | some f => (s.modFolio n fsn (fun g => g.backTo .accepted)).folioRecord f 6 f.reason false false s.now 0
      | none =>
        let known := ((s.stream n).stranded.find? (fun (x : Nat × Option Nat) => x.1 == fsn)).bind (fun x => x.2)
        let s0 := if known.isSome then s else s.draw.2
        ((s0.modStream n (fun t => { t with stranded := t.stranded.filter (fun x => x.1 != fsn), awaiting := fsn :: t.awaiting })).forgetPast n fsn).jrnRequest
          { type := 6, stream := n, try_ := s.tryOf n fsn, fsn := fsn, stamp := s.now, aux := known.getD (s.draw.1.toNat % 256) }
    (s1.endStrand n).scmdResult q true 1
  else s.scmdResult q false 0

/-- A write of GATH.SCMD (R81): DONE clears, the command is judged. -/
def State.scmd (s : State) (q : Requester) (action n : Nat) : State :=
  let s0 := s.p F.GATH_SCMDRES_DONE 0
  match action with
  | 1 => s0.scmdContinue q n
  | 2 => s0.scmdRetry q n
  | 3 => s0.scmdAbort q n
  | 4 => s0.scmdOperatorDelivered q n
  | 5 => s0.scmdOperatorRemoved q n
  | _ => s.unitFault .GATH 0 q cRESERVED_ENC

/-- SCMD_CONTINUE (R55). -/
def execScmdContinue (q : Requester) (n : Nat) (s : State) : Host.Outcome State Fault Refusal := s.gate q (done (s.scmd q 1 (n % 8)))
/-- SCMD_RETRY (R81). -/
def execScmdRetry (q : Requester) (n : Nat) (s : State) : Host.Outcome State Fault Refusal := s.gate q (done (s.scmd q 2 (n % 8)))
/-- SCMD_ABORT (R82). -/
def execScmdAbort (q : Requester) (n : Nat) (s : State) : Host.Outcome State Fault Refusal := s.gate q (done (s.scmd q 3 (n % 8)))
/-- SCMD_OPERATOR_DELIVERED (R81). -/
def execScmdOperatorDelivered (q : Requester) (n : Nat) (s : State) : Host.Outcome State Fault Refusal := s.gate q (done (s.scmd q 4 (n % 8)))
/-- SCMD_OPERATOR_REMOVED (R81). -/
def execScmdOperatorRemoved (q : Requester) (n : Nat) (s : State) : Host.Outcome State Fault Refusal := s.gate q (done (s.scmd q 5 (n % 8)))

/-! ### GATH.CTRL (R89, R446) -/

/-- The conditions of R89 for a unit reset of GATH. -/
def State.gathIdle (s : State) : Bool :=
  !s.on F.GATH_CTRL_EN && !s.anyLive
    && (List.range 8).all (fun n => (s.stream n).held.isEmpty && (s.stream n).marks.isEmpty && (s.stream n).deferred.isEmpty)
    && (List.range 8).all (fun c => s.g (F.ING_CTX_STAT_STATE c) != 1)

/-- A GATH unit reset (R89): every register to its reset value but SNEXTn, SDELn and VALID; every stream in RUN, both buckets empty. -/
def State.gathReset (s : State) : State :=
  let keep := fun (n : Nat) => (s.g (F.GATH_SNEXT_FSN n), s.g (F.GATH_SDEL_FSN n), s.g (F.GATH_SSTAT_VALID n))
  let s1 := (s.resetBlock .GATH 0).dropCommits (.GATH, 0)
  let s2 := { s1 with gath := { s1.gath with fuserUj := 0, siteUj := 0, waste := [], wasteRuns := [], sigOpen := none } }
  forRange 0 8 (fun n a =>
    ((a.p (F.GATH_SNEXT_FSN n) (keep n).1).p (F.GATH_SDEL_FSN n) (keep n).2.1).p (F.GATH_SSTAT_VALID n) (keep n).2.2) s2

/-- GATH_UNIT_RESET (R89): accepted only when GATH is idle. -/
def State.gathUnitReset (s : State) (q : Requester) : State :=
  if s.gathIdle then s.gathReset else s.unitFault .GATH 0 q cSTATE_REFUSED

def execGathUnitReset (q : Requester) (s : State) : Host.Outcome State Fault Refusal := s.gate q (done (s.gathUnitReset q))

/-- A write of GATH.CTRL (R446): NBINS 0 is reserved; a change of WEB while any folio is live is refused whole.  A write with UNIT_RST is the reset
alone, whatever its other fields hold (R89; log 27). -/
def State.gathCtrlWrite (s : State) (q : Requester) (v : Nat) : State :=
  if bit v 31 then s.gathUnitReset q
  else if bits v 6 4 = 0 then s.unitFault .GATH 0 q cRESERVED_ENC
  else if bit v 1 != s.on F.GATH_CTRL_WEB && s.anyLive then s.unitFault .GATH 0 q cSTATE_REFUSED
  else ((s.p F.GATH_CTRL_NBINS (bits v 6 4)).p F.GATH_CTRL_WEB (bits v 1 1)).p F.GATH_CTRL_EN (bits v 0 0)

/-- GATH_CTRL_WRITE (R446). -/
def execGathCtrlWrite (q : Requester) (v : Nat) (s : State) : Host.Outcome State Fault Refusal := s.gate q (done (s.gathCtrlWrite q v))

/-! ### Web mode (R84, R85) -/

/-- WEB_INDEX_EDGE (R84): the edge marks the label's leading edge, from which its sewing point follows. -/
def execWebIndexEdge (stamp : Nat) (s : State) : Host.Outcome State Fault Refusal :=
  if s.on F.GATH_CTRL_WEB then done { s with gath := { s.gath with webMark := some stamp } } else .next s

/-- WEB_STOP (R85): a budget pause longer than BLANKMAX stops the web, after the last sewn label's exit confirmation and while no label has a sewing
point fixed.  blank is the
unprinted advance so far, in 0.1 mm. -/
def execWebStop (blank : Nat) (s : State) : Host.Outcome State Fault Refusal :=
  if s.on F.GATH_CTRL_WEB && s.g F.GATH_WEB_BLANKMAX < blank && !s.gath.folios.any (fun f => (f.inPath && !f.exitOk) || (f.desc.web && f.sewing.isSome && f.st == .admitted)) then
    done { s with gath := { s.gath with webStopped := true, webMark := none } }
  else .next s

/-- WEB_RESTART (R85): the next label's sewing point lies no earlier than RESTART after the command. -/
def execWebRestart (s : State) : Host.Outcome State Fault Refusal :=
  if s.gath.webStopped then
    done { s with gath := { s.gath with webStopped := false, webRestartAt := s.now + s.g F.GATH_WEB_RESTART * msTicks } }
  else .next s

end Sys2Proof.Machine
end

