-- ==== Sys2Proof/Machine/Raster.lean ====
section
/-! DEFINITION. The raster path: ING contexts (R150 to R156), compressors (R152), decompressors and the quire store (R168 to R174), shared
window flags (R165), and what ends a DMA descriptor (R158, R160 to R164). -/

namespace Sys2Proof.Machine

/-! ### The page store -/

/-- Bytes of the populated page store: 16 GiB a channel in service (R23, R45; log 18). -/
def State.pageSize (s : State) : Nat := popcount s.memChans 2 * 2 ^ 34

/-- Page-store accesses are answered: LPDDR5 is trained and out of self-refresh, SYN1 is LOCKED and its 50 us have passed (R45, R295). -/
def State.pageUp (s : State) : Bool :=
  s.memChans != 0 && !s.selfRefresh && s.g (F.SYN_STAT_STATE 1) == syLOCKED && (vget s.syn 1).readyAt ≤ s.now

/-- A byte of a range of device addresses has uncorrectable data. -/
def State.poisoned (s : State) (a n : Nat) : Bool := s.poison.any (fun p => p < a + n && a < p + 4)

/-! ### ING contexts (R150 to R156) -/

def ctxRUNNING : Nat := 1
def State.ctxState (s : State) (n : Nat) : Nat := s.g (F.ING_CTX_STAT_STATE n)
def State.modCtx (s : State) (n : Nat) (f : Ctx → Ctx) : State := { s with ctx := vmod s.ctx n f }
def State.ctxOf (s : State) (n : Nat) : Ctx := vget s.ctx n
def State.ctxFormat (s : State) (n : Nat) : Nat := s.g (F.ING_CTX_JOB_FORMAT n)
def State.ctxNpix (s : State) (n : Nat) : Nat := s.g (F.ING_CTX_JOB_NPIX n)
def State.ctxNb (s : State) (n : Nat) : Nat := s.g (F.ING_CTX_NB_NB n)

/-- The selected stations of the side, ascending. -/
def State.ctxStations (s : State) (n : Nat) : List Nat := (List.range 4).filter (fun k => bit (s.g (F.ING_CTX_JOB_STATIONS n)) k)

/-- Planes the context receives: one for FORMAT 0b01, else one a station (R150). -/
def State.ctxPlanes (s : State) (n : Nat) : Nat := if s.ctxFormat n = 1 then 1 else (s.ctxStations n).length

/-- The descriptor of the folio of a stream in INGEST (log 15). -/
def State.ingestDesc (s : State) (st : Nat) : Option Desc := (s.gath.folios.find? (fun f => f.desc.stream == st && f.st == .ingest)).map (fun f => f.desc)

/-- The folio of a stream in INGEST. -/
def State.ingesting (s : State) (st : Nat) : Option Nat := (s.ingestDesc st).map (fun d => d.fsn)

/-- A context fails with a refusal code, and its folio is refused (R156). -/
def State.ctxFail (s : State) (n code : Nat) : State :=
  let s1 := ((s.p (F.ING_CTX_STAT_STATE n) 3).p (F.ING_CTX_STAT_CODE n) code).modCtx n (fun c => { c with staged := [], finished := [], rows := [], chunk := [] })
  let s2 := { s1 with cmp := s1.cmp.map (fun m => { m with out := m.out.filter (fun x => x.1 != n) }) }
  match (s.ctxOf n).fsn with
  | some fsn => s2.refuseFolio n fsn code
  | none => s2

/-- A context that is DONE receives a byte, and fails (R150, R156). -/
def State.ctxLate (s : State) (n : Nat) : State := if s.ctxState n = 2 then s.ctxFail n (if s.ctxFormat n = 3 then 0x0B else 9) else s

/-- A context receives a line of a line format (R150): eight lines make a block of each station the plane serves. -/
def State.ctxLine (s : State) (n : Nat) (line : List Nat) : State :=
  let c := s.ctxOf n
  if s.ctxPlanes n ≤ c.plane then s.ctxFail n 9
  else
    let rows := c.rows ++ [line]
    let stations := s.ctxStations n
    let mk := fun (p k : Nat) => (p, c.line / 8, blockOf (s.ctxFormat n) (s.ctxNpix n) k rows)
    let blocks : List (Nat × Nat × List Nat) :=
      if rows.length < 8 then []
      else if s.ctxFormat n = 1 then (List.range stations.length).map (fun p => mk p ((stations[p]?).getD 0))
      else [mk c.plane ((stations[c.plane]?).getD 0)]
    let last := c.line + 1 == 8 * s.ctxNb n
    s.modCtx n (fun c => { c with rows := if rows.length < 8 then rows else [], staged := c.staged ++ blocks,
                                  line := if last then 0 else c.line + 1, plane := if last then c.plane + 1 else c.plane })

/-- One byte of a FORMAT 0b11 stream, with the framing checks of R156. -/
def State.ctxByte (s : State) (n b : Nat) : State :=
  let c := s.ctxOf n
  if s.ctxState n ≠ ctxRUNNING then s
  else if s.ctxPlanes n ≤ c.plane then s.ctxFail n 0x0B
  else
    let pitch := (c.pitch[c.plane]?).getD 0
    let at' := c.chunkAt + 1
    let pad := c.chunk.isEmpty && (c.chunkAt % 8 != 0 || c.line == s.ctxNb n)
    let chunk := if pad then [] else c.chunk ++ [b]
    let h := leNat (chunk.take 8)
    let size := 16 + hdrPaylen h
    let whole := 8 ≤ chunk.length && chunk.length == size
    let line := if whole then c.line + 1 else c.line
    let rest := if whole then [] else chunk
    let bad := (pad && b != 0)
      || (chunk.length == 8 && (!hdrOk h (s.ctxNpix n) || pitch < c.chunkAt + 1 - 8 + size))
      || (whole && (leNat (chunk.drop (size - 4)) != hdrOriglen h || (line == s.ctxNb n && at' + 7 < pitch)))
      || (at' == pitch && !(rest.isEmpty && line == s.ctxNb n))
    if bad then s.ctxFail n 0x0B
    else
      let next := at' == pitch
      s.modCtx n (fun x =>
        { x with chunk := rest, chunkAt := if next then 0 else at', line := if next then 0 else line,
                 plane := if next then c.plane + 1 else c.plane,
                 finished := if whole then x.finished ++ [(c.plane, c.line, chunk)] else x.finished,
                 bands := if whole then x.bands ++ [(c.plane * s.ctxNb n + c.line, leNat ((chunk.drop (size - 8)).take 4), hdrOriglen h)]
                          else x.bands })

/-- The bytes of one row of an INGEST descriptor reach a context (R151). -/
def State.ctxRow (s : State) (n : Nat) (bs : List Nat) : State :=
  if s.ctxState n ≠ ctxRUNNING then s.ctxLate n
  else if s.ctxFormat n = 3 then bs.foldl (fun a b => a.ctxByte n b) s
  else s.ctxLine n bs

/-! ### Plane tables (R136, R148, R149) -/

/-- NB of a side, from its folio's LENGTH (R136). -/
def Desc.blocks (d : Desc) : Nat := ceilDiv (d.length * 10000) 16936

/-- Bytes of a line (R149); FORMAT 0b11 has no lines. -/
def lineBytes (format npix : Nat) : Nat :=
  match format with
  | 0 => ceilDiv npix 2
  | 1 => 2 * npix
  | 2 => 16 * ceilDiv npix 32
  | _ => 0

/-- Bytes that GATH firmware reads for a folio of stream n, from the space that the descriptor's SRC names (R148): the memory of the host that produces the
stream's ring, or the shared window, where a page of the HOST, poisoned data or the window's end answers with an error (R159, R166). -/
def State.planeBytes (s : State) (n src a : Nat) : Option (List Nat) :=
  if src = 0 then some (Cells.bytesAt 0 (2 ^ 64 * (s.g (F.TCE_QCFG_PROD n) - 1) + a) s.hostMem 80)
  else if sharedBase ≤ a && a + 80 ≤ sharedBase + 0x200000 && s.on (F.SHW_PAGE_OWNER ((a - sharedBase) / 0x2000))
      && s.on (F.SHW_PAGE_OWNER ((a + 79 - sharedBase) / 0x2000)) && !s.poisoned a 80 then some (s.rdBytes a 80)
  else none

/-- The plane of STRk in a plane table: ADDR, PITCH and the reserved word (R148). -/
def planeOf (t : List Nat) (k : Nat) : Nat × Nat × Nat :=
  (leNat ((t.drop (0x10 + 0x10 * k)).take 8), leNat ((t.drop (0x18 + 0x10 * k)).take 4), leNat ((t.drop (0x1C + 0x10 * k)).take 4))

/-- A plane table keeps every rule of R148 and R149 for its folio. -/
def State.planesOk (s : State) (d : Desc) (a : Nat) (t : List Nat) : Bool :=
  let npix := leNat (t.take 2)
  let sel := (List.range 4).filter (fun k => bit d.stations k)
  let first := planeOf t (sel.head?.getD 0)
  a % 8 == 0 && leNat ((t.drop 2).take 2) == 0 && leNat ((t.drop 8).take 8) == 0 && leNat ((t.drop 4).take 4) == d.blocks
    && (List.range 4).all (fun k => (planeOf t k).2.2 == 0 && (bit d.stations k || (planeOf t k).1 == 0))
    && sel.all (fun k =>
      let p := planeOf t k
      npix == s.ga (F.STR_WINDOW_NPIX k) && p.2.1 % 4 == 0 && lineBytes d.format npix ≤ p.2.1
        && (d.src == 0 || (sharedBase ≤ p.1 && p.1 < sharedBase + 0x200000)) && (d.format != 1 || (p.1 == first.1 && p.2.1 == first.2.1)))

/-- PITCH of each plane of a side in the order in which a context receives them (R150), from a plane table that keeps R148; none for another. -/
def State.planePitches (s : State) (n : Nat) (d : Desc) (verso : Bool) : Option (List Nat) :=
  let a := if verso then d.versoRef else d.rectoRef
  match s.planeBytes n d.src a with
  | some t => if s.planesOk d a t then some (((List.range 4).filter (fun k => bit d.stations k)).map (fun k => (planeOf t k).2.1)) else none
  | none => none

/-- A write of ING.CTXn_JOB (R150): judged; with GO the side starts, of the folio that the stream has in INGEST, once its plane table is read.  A table that
breaks R148 fails it with DMA_ERROR.  Without such a folio there is no plane table, and each PITCH is a free value (log 17). -/
def State.ctxJobWrite (s : State) (q : Requester) (n v : Nat) : State :=
  if s.ctxState n = ctxRUNNING then s.unitFault .ING 0 q cSTATE_REFUSED
  else if bits v 27 24 = 0 || 2 ^ s.blockCount .STR ≤ bits v 27 24 || bits v 23 10 = 0 || 15591 < bits v 23 10 then
    s.unitFault .ING 0 q cRESERVED_ENC
  else
    let s1 := s.setWord .ING_CTX_JOB 0 n (bits v 30 10 * 2 ^ 10)
    if bit v 31 then
      let s2 := s1.setWord .ING_CTX_STAT 0 n (ctxRUNNING * 2 ^ 28)
      match s.ingestDesc n with
      | none => { s2 with free := s2.free + 4 }.modCtx n (fun _ => { pitch := (List.range 4).map (fun i => (Config.freeValue (s2.free + i)).toNat) })
      | some d =>
        match s.planePitches n d (bit v 30) with
        | some p => s2.modCtx n (fun _ => { fsn := some d.fsn, pitch := p })
        | none => (s2.modCtx n (fun _ => { fsn := some d.fsn })).ctxFail n 9
    else s1

/-- ING_GO (R150): a write of GO starts a side in the context. -/
def execIngGo (q : Requester) (n v : Nat) (s : State) : Host.Outcome State Fault Refusal :=
  s.gate q (if n < 8 then done (s.ctxJobWrite q n (setBit v 31 true)) else .next s)

/-- The context whose block a free compressor takes (R152). -/
def State.nextStaged (s : State) : Option Nat :=
  ((List.range 8).map (fun i => (s.lastHanded + 1 + i) % 8)).find? (fun n => s.ctxState n == ctxRUNNING && !(s.ctxOf n).staged.isEmpty)

/-- COMPRESSOR_HANDOFF (R152): a free compressor takes the next staged block; ecc is an uncorrectable error of its dictionary memory (R156,
R175). -/
def execCompressorHandoff (m : Nat) (ecc : Bool) (s : State) : Host.Outcome State Fault Refusal :=
  if m < 2 && (vget s.cmp m).out.length < 2 then
    match s.nextStaged with
    | none => .next s
    | some n =>
      match (s.ctxOf n).staged with
      | [] => .next s
      | (p, k, bs) :: t =>
        let s1 := { s with lastHanded := n }
        if ecc then done ((s1.raise (16 + m) 1 0 .b 1).ctxFail n 0x0B)
        else
          let r := storeBlock bs
          let s2 := s1.modCtx n (fun c => { c with staged := t, bands := c.bands ++ [(p * s.ctxNb n + k, crc32c bs, bs.length)] })
          done { s2 with cmp := vmod s2.cmp m (fun x => { x with out := x.out ++ [(n, p, k, r.1, r.2)] }) }
  else .next s

/-- The finished block of a context that is stored next, with the compressor that holds it. -/
def State.nextFinished (s : State) (n : Nat) : Option (Option Nat × Nat × Nat × Bool × List Nat) :=
  match (s.ctxOf n).finished with
  | (p, k, b) :: _ => some (none, p, k, false, b)
  | [] =>
    let mine := (List.range 2).flatMap (fun m => ((vget s.cmp m).out.filter (fun x => x.1 == n)).map (fun x => (some m, x.2)))
    mine.foldl (fun a x =>
      match a with
      | none => some x
      | some y => if x.2.1 * 8192 + x.2.2.1 < y.2.1 * 8192 + y.2.2.1 then some x else some y) none

/-- LOC of a context. -/
def State.ctxLoc (s : State) (n : Nat) : Nat := s.g (F.ING_CTX_LOC_LO_ADDR n) + 2 ^ 32 * s.g (F.ING_CTX_LOC_HI_ADDR n)

/-- A finished block leaves the buffer that held it. -/
def State.dropFinished (s : State) (n p k : Nat) (m : Option Nat) (raw : Bool) : State :=
  match m with
  | none => s.modCtx n (fun c => { c with finished := c.finished.drop 1 })
  | some m =>
    let s1 := { s with cmp := vmod s.cmp m (fun x => { x with out := x.out.filter (fun y => !(y.1 == n && y.2.1 == p && y.2.2.1 == k)) }) }
    let s2 := (s1.incWrap (F.CMP_STAT_BLOCKS m)).count 0x28 m 1
    if raw then (s2.incWrap (F.CMP_STAT_RAWBLK m)).count 0x29 m 1 else s2

/-- BLOCK_STORED (R154, R155): a context's finished block is written whole at the next 64-byte-aligned address of its run, with its locator;
when it does not fit the context closes the run and waits for the next. -/
def execBlockStored (n : Nat) (s : State) : Host.Outcome State Fault Refusal :=
  if n < 8 && s.ctxState n = ctxRUNNING && s.pageUp then
    match s.nextFinished n with
    | none => .next s
    | some (m, p, k, raw, b) =>
      let units := ceilDiv b.length 64
      match (s.ctxOf n).run with
      | some (start, count, used) =>
        if used + units ≤ 64 * count then
          let off := 4096 * start + 64 * used
          let s1 := (s.wrBytes (pageBase + off) b).wr (pageBase + s.ctxLoc n + 8 * (p * s.ctxNb n + k)) 8 (off / 64 + b.length * 2 ^ 32)
          let s2 := (s1.bwMem true off b.length).bwMem true (s.ctxLoc n + 8 * (p * s.ctxNb n + k)) 8
          done ((s2.modCtx n (fun c => { c with run := some (start, count, used + units), stored := c.stored + 1 })).dropFinished n p k m raw)
        else done (s.modCtx n (fun c => { c with run := none, waitSince := some s.now }))
      | none => done (s.modCtx n (fun c => { c with waitSince := some (c.waitSince.getD s.now) }))
  else .next s

/-- RUN_TAKE (R153, R154): a context takes the next entry of its run ring; a bad entry is discarded with RUN_BAD, and the ring counts as empty from then
on. -/
def execRunTake (n : Nat) (s : State) : Host.Outcome State Fault Refusal :=
  let r := s.g (F.ING_CTX_CFG_RING n)
  if n < 8 && s.ctxState n = ctxRUNNING && (s.ctxOf n).run.isNone && s.ringEn r && !s.ringEmpty r && s.g (F.TCE_QCFG_CONS r) == 5 then
    let e := s.rdBytes (s.ringAddr r (s.qhead r)) 16
    let start := leNat (e.take 4)
    let count := leNat ((e.drop 4).take 4)
    let s1 := s.ringPop r
    if count < 16 || leNat (e.drop 8) ≠ 0 || s.pageSize < 4096 * (start + count) then done ((s1.raise 12 1 n .a).modCtx n (fun c => { c with waitSince := some s.now }))
    else done ((s1.inc (F.ING_CTX_STAT_RUNS n)).modCtx n (fun c => { c with run := some (start, count, 0), waitSince := none }))
  else .next s

/-- RUNWAIT_EXPIRE (R154): the run ring stayed empty for RUNWAIT. -/
def execRunwaitExpire (n : Nat) (s : State) : Host.Outcome State Fault Refusal :=
  let r := s.g (F.ING_CTX_CFG_RING n)
  match (s.ctxOf n).waitSince with
  | some t =>
    if n < 8 && s.ctxState n = ctxRUNNING && (s.ctxOf n).run.isNone && (!s.ringEn r || s.ringEmpty r)
        && t + s.g (F.ING_CTX_CFG_RUNWAIT n) * 10 * usTicks ≤ s.now then done (s.ctxFail n 0x0A)
    else .next s
  | none => .next s

/-- The bands of a side in the order of R50. -/
def bandOrder (l : List (Nat × Nat × Nat)) (count : Nat) : List (Nat × Nat) :=
  (List.range count).filterMap (fun i => (l.find? (fun x => x.1 == i)).map (fun x => x.2))

/-- SIDE_INGEST_DONE (R150, R156): everything received and stored, the context is DONE with the side CRC, which GATH compares (R52). -/
def execSideIngestDone (n : Nat) (s : State) : Host.Outcome State Fault Refusal :=
  let c := s.ctxOf n
  let count := s.ctxNb n * (s.ctxStations n).length
  if n < 8 && s.ctxState n = ctxRUNNING && s.ctxPlanes n ≤ c.plane && c.stored = count then
    let crc := sideCrc (bandOrder c.bands count)
    let tail := match c.run with | some (_, pages, used) => pages - ceilDiv used 64 | none => 0
    let s1 := ((s.p (F.ING_CTX_STAT_STATE n) 2).p (F.ING_CTX_CRC_V n) crc).p (F.ING_CTX_TAIL_V n) tail
    match c.fsn with
    | some fsn => done (s1.sideIngested n fsn (s.on (F.ING_CTX_JOB_SIDE n)) crc)
    | none => done s1
  else .next s

/-- A unit reset of ING refuses every folio in INGEST with DMA_ERROR (ING.CTRL). -/
def State.refuseIngest (s : State) (code : Nat) : State :=
  forRange 0 8 (fun n a => match a.ingesting n with | some fsn => a.refuseFolio n fsn code | none => a) s

def State.ingReset (s : State) : State :=
  { ((s.refuseIngest 9).resetBlock .ING 0) with ctx := Vector.replicate 8 {}, lastHanded := 7 }

/-- A unit reset of CMPm refuses with DMA_ERROR the folios whose blocks it held. -/
def State.cmpReset (s : State) (m : Nat) : State :=
  let s1 := (vget s.cmp m).out.foldl (fun a x => if a.ctxState x.1 = ctxRUNNING then a.ctxFail x.1 9 else a) s
  { (s1.resetBlock .CMP m) with cmp := vmod s1.cmp m (fun _ => {}) }

/-! ### The quire store (R168 to R174) -/

/-- SLOTS of a station's ring (R169). -/
def State.slotCount (s : State) (n : Nat) : Nat :=
  let stride := slotStride (s.ga (F.STR_WINDOW_NPIX n))
  if stride = 0 then 0 else min 255 (s.g (F.QST_QRING_COUNT n) * 65536 / stride)

/-- QSTAT.AHEAD: slots VERIFIED or BLANK and not yet read. -/
def State.slotsAhead (s : State) (n : Nat) : Nat := ((vget s.quire n).slots.filter (fun x => x.st == .verified || x.st == .blank)).length

/-- Every slot of a station EMPTY, no job, and 0x01 for the folios still to image there (R168, R174). -/
def State.emptyStation (s : State) (n : Nat) : State :=
  let s1 := { s with quire := vmod s.quire n (fun _ => {}), jobs := vmod s.jobs n (fun _ => []) }
  (s1.p (F.DCP_STAT_JOBS n) 0).spoilWhere (Folio.toImage n) 1

/-- A write of QST.QRINGn (R168). -/
def State.qringWrite (s : State) (q : Requester) (n v : Nat) : State :=
  let en := bit v 31
  let count := bits v 15 8
  let base := bits v 7 0
  let onlyClears := !en && count == s.g (F.QST_QRING_COUNT n) && base == s.g (F.QST_QRING_BASE n)
  if 128 < count || (en && count == 0) || s.granules < base + count then s.unitFault .QST 0 q cRESERVED_ENC
  else if !((List.range count).all (fun i => s.owns q (granRid (base + i)))) || (s.on (F.STR_CTRL_EN n) && !onlyClears) then
    s.unitFault .QST 0 q cSTATE_REFUSED
  else
    let s1 := s.setWord .QST_QRING 0 n (en.toNat * 2 ^ 31 + count * 256 + base)
    if onlyClears then s1 else { s1 with quire := vmod s1.quire n (fun _ => {}) }

/-- QRING_WRITE (R168). -/
def execQringWrite (q : Requester) (n v : Nat) (s : State) : Host.Outcome State Fault Refusal :=
  s.gate q (if n < s.blockCount .STR then done (s.qringWrite q n v) else .next s)

/-- A job pushed onto DCPn (R170). -/
def State.dcpPush (s : State) (q : Requester) (n lo hi : Nat) (side : Nat × Nat × Bool) : State :=
  if bits hi 31 16 = 0 || bits hi 12 0 = 0 || 7676 < bits hi 12 0 then s.unitFault .DCP n q cRESERVED_ENC
  else if 8 ≤ (vget s.jobs n).length then s.unitFault .DCP n q cSTATE_REFUSED
  else
    ({ s with jobs := vmod s.jobs n (fun l =>
        l ++ [{ loc := lo, nb := bits hi 12 0, strokes := bits hi 31 16, side := side }]) } : State).p (F.DCP_STAT_JOBS n)
      ((vget s.jobs n).length + 1)

/-- The side a job written without naming it serves: the first, in the order of choice, of those not yet given on the station (R170; log 14). -/
def State.nextSide (s : State) (n : Nat) : Nat × Nat × Bool :=
  let given := fun (x : Nat × Nat × Bool) =>
    (vget s.jobs n).any (fun j => !j.dead && j.side == x) || (vget s.quire n).slots.any (fun y => y.st != .blank && y.side == x)
  let cand := fun (verso : Bool) =>
    s.gath.folios.find? (fun f =>
      f.usesStation n && (f.st == .admitted || f.st == .held || f.inPath) && (!verso || f.desc.duplex)
        && !bit (if verso then f.versoDone else f.rectoDone) n && !given (f.desc.stream, f.desc.fsn, verso))
  match cand false with
  | some f => (f.desc.stream, f.desc.fsn, false)
  | none => match cand true with | some f => (f.desc.stream, f.desc.fsn, true) | none => (8, 0, false)

/-- DCP_JOB_PUSH (R170): the write of JOB_HI pushes the job of a side (stream st, FSN, verso). -/
def execDcpJobPush (q : Requester) (n lo hi st fsn : Nat) (verso : Bool) (s : State) : Host.Outcome State Fault Refusal :=
  s.gate q (if n < s.blockCount .DCP then done (s.dcpPush q n lo hi (st, fsn, verso)) else .next s)

/-- Changes the job at the front of DCPn. -/
def State.modJob (s : State) (n : Nat) (f : Job → Job) : State :=
  { s with jobs := vmod s.jobs n (fun l => match l with | j :: t => f j :: t | [] => []) }

/-- The last slot of a station that is not EMPTY is FILLING (R169). -/
def State.slotFilling (s : State) (n : Nat) : Bool :=
  match (vget s.quire n).slots.getLast? with
  | some x => x.st == .filling
  | none => false

/-- Fills the next slot of a station with a stroke, the FILLING one where there is one (R169). -/
def State.fillSlot (s0 : State) (n : Nat) (side : Nat × Nat × Bool) (st : SlotSt) (data : List Nat) : State :=
  let s := if s0.slotFilling n then { s0 with quire := vmod s0.quire n (fun x =>
    { slots := x.slots.dropLast, next := if x.next = 0 then s0.slotCount n - 1 else x.next - 1 }) } else s0
  let q := vget s.quire n
  let a := quireBase + 0x10000 * s.g (F.QST_QRING_BASE n) + q.next * slotStride (s.ga (F.STR_WINDOW_NPIX n))
  let s1 := if st == .verified then s.wrBytes a data else s
  { s1 with quire := vmod s1.quire n (fun x =>
      { slots := x.slots ++ [{ st := st, addr := a, side := side }], next := if x.next + 1 < s.slotCount n then x.next + 1 else 0 }) }

/-- Places strokes of the job in hand while a slot is EMPTY and their lines are decoded (R171 to R173); a slot is FILLING while only some are.  Of a spoiled
folio, the slots that a failed block supplies are BAD and the others BLANK. -/
def State.dcpEmit (s : State) (n : Nat) : (fuel : Nat) → State
  | 0 => s
  | k + 1 =>
    match vget s.jobs n with
    | [] => s
    | j :: t =>
      let b := max 1 (s.ga (F.STR_GLOBAL_B 0))
      let npix := s.ga (F.STR_WINDOW_NPIX n)
      if j.strokes ≤ j.stroke then
        ({ s with jobs := vmod s.jobs n (fun _ => t) } : State).p (F.DCP_STAT_JOBS n) t.length
      else if s.slotCount n ≤ (vget s.quire n).slots.length && !s.slotFilling n then s
      else if j.dead then
        ((s.fillSlot n j.side (if (j.lines.take b).any (fun l => l.isNone) then .bad else .blank) []).modJob n (fun j =>
          { j with stroke := j.stroke + 1, lines := j.lines.drop b })).dcpEmit n k
      else if j.lines.length < b && j.block < j.nb then (if j.lines.isEmpty || s.slotFilling n then s else s.fillSlot n j.side .filling [])
      else
        let mine := j.lines.take b
        let s1 := if mine.any (fun l => l.isNone) then s.fillSlot n j.side .bad []
                  else s.fillSlot n j.side .verified (slotBytes npix (mine.map (fun l => l.getD [])))
        (s1.modJob n (fun j => { j with stroke := j.stroke + 1, lines := j.lines.drop b })).dcpEmit n k

/-- The next block of the job in hand, fetched by its locator and decoded (R155, R170). -/
def State.dcpFetch (s : State) (n : Nat) (j : Job) (ecc : Bool) : Except Nat (List Nat) :=
  let la := pageBase + 8 * (j.loc + j.block)
  let a := pageBase + 64 * bits (s.rd la 8) 28 0
  let size := 16 + hdrPaylen (s.rd a 8)
  if !s.pageUp || s.poisoned la 8 || s.poisoned a size then .error 5
  else if ecc then .error 6
  else decodeBlock (s.rdBytes a size) (s.ga (F.STR_WINDOW_NPIX n))

/-- The bytes that fetching a block reads from the page store (R413). -/
def State.dcpBytes (s : State) (j : Job) : State :=
  let off := 64 * bits (s.rd (pageBase + 8 * (j.loc + j.block)) 8) 28 0
  (s.bwMem false (8 * (j.loc + j.block)) 8).bwMem false off (16 + hdrPaylen (s.rd (pageBase + off) 8))

/-- A block that fails a check (R172): DCP_BLOCK, CODEC_ECC where it was that, and 0x01 for the folio. -/
def State.dcpBad (s : State) (n e : Nat) (side : Nat × Nat × Bool) : State :=
  let mine : Folio → Bool := fun f => f.is side.1 side.2.1
  let s1 := (s.p (F.DCP_STAT_LASTERR n) e).raise (18 + n) 1 e .a 1 (s.firstHit mine)
  let s2 := if e = 6 then s1.raise (18 + n) 2 0 .b 1 (s.firstHit mine) else s1
  s2.spoilWhere mine 1

/-- DCP_BLOCK_DECODE (R170): while a slot is EMPTY the next block is fetched, decoded and placed; ecc is an uncorrectable error of the dictionary
memory. -/
def execDcpBlockDecode (n : Nat) (ecc : Bool) (s : State) : Host.Outcome State Fault Refusal :=
  if n < s.blockCount .DCP && s.on (F.DCP_CTRL_EN n) && s.on (F.QST_QRING_EN n) then
    let s1 := s.dcpEmit n 256
    match vget s1.jobs n with
    | [] => done s1
    | j :: _ =>
      if j.dead || j.nb ≤ j.block || (s1.slotCount n ≤ (vget s1.quire n).slots.length && !s1.slotFilling n) then done s1
      else
        match s1.dcpFetch n j ecc with
        | .ok o =>
          let s2 := (s1.modJob n (fun j =>
            { j with block := j.block + 1, lines := j.lines ++ (List.range 8).map (fun i => some (blockLine i o)) })).incWrap (F.DCP_STAT_BLOCKS n)
          done (((s2.dcpBytes j).count 0x2A n 1).dcpEmit n 256)
        | .error e =>
          let s2 := s1.modJob n (fun j => { j with block := j.block + 1, lines := j.lines ++ List.replicate 8 none })
          done (((s2.dcpEmit n 256).dcpBad n e j.side).dcpEmit n 256)
  else .next s

/-- QST_ECC (R174): an error at read-out of the stroke in hand; an uncorrectable one holds its remaining pixels off. -/
def execQstEcc (n : Nat) (uncorrectable : Bool) (s : State) : Host.Outcome State Fault Refusal :=
  if n < s.blockCount .STR then
    let s1 := s.inc (F.QST_QSTAT_ECCERR n)
    if uncorrectable then
      done (((s1.fixed 5).dark n).raiseSpoil 15 1 n .b (fun f => s.imaging n f) 1)
    else done ((s1.fixed 4).count 0x58 0 1)
  else .next s

/-- A unit reset of QST, or of DCPn (R174). -/
def State.dcpReset (s : State) (n : Nat) : State := (s.emptyStation n).resetBlock .DCP n
def State.qstReset (s : State) : State :=
  ((forRange 0 (s.blockCount .STR) (fun n a => a.emptyStation n) s).resetBlock .QST 0)

/-- DCP_UNIT_RESET (R174): of QST (n = none) or of DCPn. -/
def execDcpUnitReset (n : Option Nat) (s : State) : Host.Outcome State Fault Refusal :=
  match n with
  | none => done s.qstReset
  | some n => if n < s.blockCount .DCP then done (s.dcpReset n) else .next s

/-! ### The shared window (R165, R166) -/

/-- HOST side of a requester. -/
def Requester.isHost : Requester → Bool
  | .host _ => true
  | _ => false

/-- A write to SHW.PAGEk (R165). -/
def State.shwFlip (s : State) (q : Requester) (k v : Nat) : State :=
  if bits v 31 24 = 0xC5 && (bits v 0 0 != s.g (F.SHW_PAGE_OWNER k)) && (Requester.isHost q == (s.g (F.SHW_PAGE_OWNER k) == 0)) then
    (s.p (F.SHW_PAGE_OWNER k) (bits v 0 0)).incWrap (F.SHW_PAGE_SEQ k)
  else s.unitFault .SHW 0 q cSTATE_REFUSED

/-- SHW_FLIP (R165). -/
def execShwFlip (q : Requester) (k v : Nat) (s : State) : Host.Outcome State Fault Refusal :=
  s.gate q (if k < 256 then done (s.shwFlip q k v) else .next s)

/-- An access to page k by the side that does not own it (R166). -/
def State.shwDenied (s : State) (q : Requester) (k : Nat) : Bool := Requester.isHost q != (s.g (F.SHW_PAGE_OWNER k) == 0)

/-! ### DMA: the end of a descriptor (R158, R160 to R164) -/

def dIDLE : Nat := 0
def dACTIVE : Nat := 1
def dHALTED : Nat := 2

def State.modDma (s : State) (c : Nat) (f : Dma → Dma) : State := { s with dma := vmod s.dma c f }
def State.chan (s : State) (c : Nat) : Dma := vget s.dma c

/-- The 16 bytes of a completion (R160). -/
def dmaRecord (tag code : Nat) (suspect halted : Bool) (bytes addr : Nat) : List Nat :=
  leBytes 2 tag ++ [code, suspect.toNat + 2 * halted.toNat] ++ leBytes 4 bytes ++ leBytes 8 addr

/-- The channel clears OWN in ring memory, then advances QHEAD (R158); a ring disabled meanwhile has discarded the entry (R29). -/
def State.dmaRelease (s : State) (c : Nat) (halted : Bool) : State :=
  let a := s.ringAddr (32 + c) (s.qhead (32 + c))
  let s1 := if s.ringEn (32 + c) && !s.ringEmpty (32 + c) then (s.wr a 4 (setBit (s.rd a 4) 31 false)).ringPop (32 + c) else s
  (s1.modDma c (fun _ => {})).p (F.DMA_CHSTAT_STATE c) (if halted then dHALTED else dIDLE)

/-- Posts a completion and releases the entry, or holds it while the completion ring takes none (R164). -/
def State.dmaPost (s : State) (c : Nat) (rec : List Nat) : State :=
  if s.canPost (48 + c) 4 then ((s.ringPutC (48 + c) rec).dmaRelease c (bit ((rec[3]?).getD 0) 1))
  else ((s.sawFull (48 + c)).modDma c (fun _ => { ready := some rec })).p (F.DMA_CHSTAT_STATE c) dACTIVE

/-- A descriptor ends (R158, R161, R162): bytes counted, DMA_HALT on an error, the context and folio an error concerns, the completion. -/
def State.dmaEnd (s : State) (c tag : Nat) (cmpl : Bool) (ctx : Option Nat) (code : Nat) (suspect : Bool) (bytes addr : Nat) : State :=
  let halted := code != 0
  let s1 := (((s.p (F.DMA_CHSTAT_LASTCODE c) code).incWrap (F.DMA_CHBYTES_BYTES c) bytes).count 0x20 c 1).count 0x21 c ((s.g (F.DMA_CHBYTES_BYTES c) % 64 + bytes) / 64)
  let s2 := if halted then s1.p (F.DMA_CHSTAT_FAILIDX c) (s.qhead (32 + c)) else s1
  let s3 := if halted && code != 8 then s2.raise 13 1 c .a else s2
  let s4 := match ctx with
    | some n => if halted && s.ctxState n = ctxRUNNING then s3.ctxFail n 9 else if code = 9 then s3.ctxLate n else s3
    | none => s3
  if halted || cmpl then s4.dmaPost c (dmaRecord tag code suspect halted bytes addr) else s4.dmaRelease c false

/-- A write of DMA.CHCTRLc (R163): RESTART leaves HALTED, STOP ends the descriptor in progress, a transfer at its next DMA_COMPLETE; an endpoint
may write it only for a ring it produces. -/
def State.dmaMay (s : State) (q : Requester) (c : Nat) : Bool :=
  match q with
  | .host n => s.g (F.TCE_QCFG_PROD (32 + c)) == 1 + n
  | _ => true

def State.dmaRestart (s : State) (q : Requester) (c : Nat) : State :=
  if s.dmaMay q c then
    if s.g (F.DMA_CHSTAT_STATE c) = dHALTED then s.p (F.DMA_CHSTAT_STATE c) dIDLE else s
  else s.unitFault .DMA 0 q cSTATE_REFUSED

def State.dmaStop (s : State) (q : Requester) (c : Nat) : State :=
  if s.dmaMay q c then
    match (s.chan c).xfer, (s.chan c).waitSince, (s.chan c).ready with
    | some x, _, _ => s.modDma c (fun d => { d with xfer := some { x with stop := true } })
    | none, some _, none => s.dmaEnd c (bits (s.rd (s.ringAddr (32 + c) (s.qhead (32 + c))) 4) 15 0) true none 8 false 0 0
    | none, _, some r => s.modDma c (fun d => { d with ready := some ((r.take 3) ++ [((r[3]?).getD 0) ||| 2] ++ r.drop 4) })
    | none, none, none => s.p (F.DMA_CHSTAT_STATE c) dHALTED
  else s.unitFault .DMA 0 q cSTATE_REFUSED

/-- DMA_RESTART (R163). -/
def execDmaRestart (q : Requester) (c : Nat) (s : State) : Host.Outcome State Fault Refusal :=
  s.gate q (if c < 16 then done (s.dmaRestart q c) else .next s)

/-- DMA_STOP (R163). -/
def execDmaStop (q : Requester) (c : Nat) (s : State) : Host.Outcome State Fault Refusal :=
  s.gate q (if c < 16 then done (s.dmaStop q c) else .next s)

/-- A unit reset of DMA (R163): descriptors end without a completion, and every folio in INGEST is refused with DMA_ERROR. -/
def State.dmaReset (s : State) : State :=
  let s1 := forRange 0 16 (fun c a => if (a.chan c).xfer.isSome || (a.chan c).waitSince.isSome || (a.chan c).ready.isSome then a.dmaRelease c false else a) s
  let s2 := forRange 0 8 (fun n a => if a.ctxState n = ctxRUNNING then a.ctxFail n 9 else a) s1
  { ((s2.refuseIngest 9).resetBlock .DMA 0) with dma := Vector.replicate 16 {} }

/-- DMA_UNIT_RESET (R163). -/
def execDmaUnitReset (s : State) : Host.Outcome State Fault Refusal := done s.dmaReset

end Sys2Proof.Machine
end

