-- ==== Sys2Proof/Machine/Clock.lean ====
section
/-! DEFINITION. The synthesisers (R280 to R298), the ramp generator and its restarts (R115, R118, R290 to R293), facet sweeps (R133, R134) and
the COMMIT protocol's judgement and copies (R35 to R37). -/

namespace Sys2Proof.Machine

def State.modSyn (s : State) (n : Nat) (f : Syn → Syn) : State := { s with syn := vmod s.syn n f }
def State.synState (s : State) (n : Nat) : Nat := s.g (F.SYN_STAT_STATE n)

/-- A synthesiser changes state, with a trace record (R414). -/
def State.setSynState (s : State) (n st : Nat) : State := (s.p (F.SYN_STAT_STATE n) st).traceEv (68 + n) 4 st 0

/-- Sets or clears VID_OK bit k (R19, R295). -/
def State.setVid (s : State) (k : Nat) (b : Bool) : State := s.p F.CORD_STAT_VID_OK (setBit (s.g F.CORD_STAT_VID_OK) k b)

/-! ### Profiles in the banks (R292) -/

/-- PROFILE_COPY_DONE (R292): the named profiles are in the idle bank, and the COMMIT reaches the unit (R35). -/
def execProfileCopyDone (n : Nat) (s : State) : Host.Outcome State Fault Refusal :=
  if 2 ≤ n && n < s.blockCount .SYN && (s.synOf n).copying then
    let k := n - 2
    let fore := s.readProf (s.g (F.STR_PROF_FORE k))
    let back := s.readProf (s.g (F.STR_PROF_BACK k))
    let s1 := s.modSyn n (fun y =>
      if s.g (F.SYN_RAMP_BANK n) = 0 then { y with copying := false, fore1 := fore, back1 := back }
      else { y with copying := false, fore0 := fore, back0 := back })
    done { s1 with commits := s1.commits.map (fun c => if c.set == .strImaging k then { c with reach := some s.now } else c) }
  else .next s

/-- A 32-bit word of the bank window, at a word index from 0x2000 (the SYN bank window). -/
def State.bankWord (s : State) (n i : Nat) : Nat :=
  let p := (s.synOf n).half (i / 2048) (i / 1024 % 2 == 1)
  bits ((p.segs[i % 1024 / 2]?).getD 0) (if i % 2 = 0 then 31 else 63) (if i % 2 = 0 then 0 else 32)

/-! ### COMMIT (R35 to R37) -/

/-- The geometry set's rules (R73). -/
def State.geomOk (s : State) : Bool :=
  let a := fun (f : FieldRef) => s.g f
  a F.GATH_GEOM0_D_EX ≤ a F.GATH_GEOM0_D_RT && a F.GATH_GEOM1_D_FUS < a F.GATH_GEOM2_D_DUP && a F.GATH_GEOM1_D_FUS < a F.GATH_GEOM3_D_DIV
    && a F.GATH_GEOM0_D_RT != 0 && a F.GATH_GEOM0_D_EX != 0 && a F.GATH_GEOM1_P_ST != 0 && a F.GATH_GEOM1_D_FUS != 0
    && a F.GATH_GEOM2_D_DUP != 0 && a F.GATH_GEOM2_D_RET != 0 && a F.GATH_GEOM3_D_DIV != 0 && a F.GATH_GEOM3_D_EXIT != 0

/-- The global set's rules (R100, R101). -/
def State.globalOk (s : State) : Bool :=
  let b := s.g (F.STR_GLOBAL_B 0)
  (List.range (s.blockCount .STR)).all (fun k => !s.on (F.STR_CTRL_EN k) || s.g (F.STR_CTRL_BEAMSTART k) + b ≤ 8) && s.speedOf b ≤ 1010000

/-- The imaging set's rules (R117, R123).  In polygon mode the profiles are unused and the BACK offsets ignored (R133, R134), so that neither is judged
(DEDUCED, log 69). -/
def State.imagingOk (s : State) (k : Nat) : Bool :=
  let start := s.g (F.STR_CTRL_BEAMSTART k)
  let inRange : Int → Bool := fun o => -1024 ≤ o && o ≤ 1023
  (s.polygon k ||
    (s.profValid (s.g (F.STR_PROF_FORE k)) 0 (s.g (F.STR_WINDOW_NPIX k)) && s.profValid (s.g (F.STR_PROF_BACK k)) 1 (s.g (F.STR_WINDOW_NPIX k))))
    && (List.range (s.ga (F.STR_GLOBAL_B 0))).all (fun j =>
      inRange (s.lineOffsetShadow k (start + j) false) && (s.polygon k || inRange (s.lineOffsetShadow k (start + j) true)))

/-- A move is in progress on a stepper port (R247): UP1 to DOWN1. -/
def State.stpMoving (s : State) (k : Nat) : Bool := 1 ≤ s.g (F.STP_STAT_STATE k) && s.g (F.STP_STAT_STATE k) ≤ 5

/-- The profile set's rules (R245, R247). -/
def State.stpProfileOk (s : State) (k : Nat) : Bool :=
  s.g (F.STP_VSTART_V k) ≤ s.g (F.STP_V1_V k) && s.g (F.STP_VSTOP_V k) ≤ s.g (F.STP_V1_V k) && s.g (F.STP_V1_V k) ≤ s.g (F.STP_VMAX_V k)
    && s.g (F.STP_A1_A k) != 0 && s.g (F.STP_A2_A k) != 0
    && !(s.stpMoving k && s.g (F.STP_TARGET_POS k) != s.ga (F.STP_TARGET_POS k))

/-- A change of the CORE divider is reserved while a folio is in the path or an ING context runs (R287). -/
def State.divOk (s : State) : Bool :=
  s.g (F.SYN_DIV_CORE 0) == s.ga (F.SYN_DIV_CORE 0) || !(s.anyInPath || (List.range 8).any (fun n => s.ctxState n == ctxRUNNING))

/-- Whether a COMMIT of a set is no reserved encoding (R13). -/
def State.commitOk (s : State) : ShadowSet → Bool
  | .gathGeom => s.geomOk
  | .strGlobal => s.globalOk
  | .strImaging k => s.imagingOk k
  | .stpProfile k => s.stpProfileOk k
  | .synDiv => s.divOk
  | _ => true

/-- The set exists on the variant. -/
def State.setExists (s : State) (x : ShadowSet) : Bool := x.unit.2 < s.blockCount x.unit.1

/-- A write of a COMMIT register (R34 to R36): LATE_WR clears with LATE_CNT; GO is judged, refused while PEND, or starts the commit. -/
def State.commitWrite (s : State) (q : Requester) (x : ShadowSet) (v : Nat) : State :=
  let s1 := if bit v 30 then (s.p x.lateWr 0).p x.lateCnt 0 else s
  if !bit v 0 then s1
  else if s.pendNow x then s1.lateWrite x q
  else if !s.commitOk x then s.unitFault x.unit.1 x.unit.2 q cRESERVED_ENC
  else
    match x with
    | .strImaging k => (s1.startCommit x).modSyn (k + 2) (fun y => { y with copying := true })
    | _ => s1.startCommit x

/-! ### Board clocks (R288, R289) -/

/-- The period of a board clock in 125 ps (DIV VCO cycles of 250 ps), and the length of its high phase. -/
def State.ckoPeriod (s : State) (k : Nat) : Nat := 2 * s.ga (F.SYN_CKO_DIV 0 k)
def highPart (period : Nat) : Nat := period / 4 * 2

/-- The first rising edge of a board clock's schedule at or after a time, in 125 ps (R288). -/
def State.ckoEdge (s : State) (k u : Nat) : Nat :=
  let base := 32 * (s.synOf 0).schedule + s.ga (F.SYN_CKO_DELAY 0 k)
  if u ≤ base then base else base + ceilDiv (u - base) (s.ckoPeriod k) * s.ckoPeriod k

def State.ckoOf (s : State) (k : Nat) : List CkoSpan := if k = 0 then (s.synOf 0).cko0 else (s.synOf 0).cko1
def State.setCko (s : State) (k : Nat) (l : List CkoSpan) : State :=
  s.modSyn 0 (fun y => if k = 0 then { y with cko0 := l } else { y with cko1 := l })

/-- The level of a span at a time. -/
def CkoSpan.high (c : CkoSpan) (u : Nat) : Bool :=
  c.start ≤ u && (match c.stop with | some e => u < e | none => true) && (u - c.start) % c.period < highPart c.period

/-- The level of CKOk at a time in 125 ps since cord time 0 (R282, R288, R289): low while SYN0 is OFF or acquires. -/
def State.ckoHigh (s : State) (k u : Nat) : Bool := (s.synState 0 == syLOCKED || s.synState 0 == syHOLD) && (s.ckoOf k).any (fun c => c.high u)

/-- A span still open at a time ends with the period it is in (R288); one that has not begun is dropped. -/
def CkoSpan.finish (c : CkoSpan) (u : Nat) : List CkoSpan :=
  match c.stop with
  | some _ => [c]
  | none => if u ≤ c.start then [] else [{ c with stop := some (c.start + ceilDiv (u - c.start) c.period * c.period) }]

/-- A span ends low at the end of the high phase it is in, or at once (R289). -/
def CkoSpan.cut (c : CkoSpan) (u : Nat) : List CkoSpan :=
  if u ≤ c.start then []
  else if c.high u then [{ c with stop := some (u - (u - c.start) % c.period + highPart c.period) }]
  else [{ c with stop := some (match c.stop with | some e => min e u | none => u) }]

/-- Spans that are over leave the list. -/
def liveSpans (u : Nat) (l : List CkoSpan) : List CkoSpan := l.filter (fun c => match c.stop with | some e => u < e | none => true)

/-- A new schedule for CKOk (R288): the present period completes, and the output continues with the first edge of the new schedule. -/
def State.ckoReschedule (s : State) (k : Nat) : State :=
  let u := 32 * s.now
  let old := (s.ckoOf k).flatMap (fun c => c.finish u)
  let free := old.foldl (fun a c => max a (c.stop.getD 0)) u
  let next := if s.g (⟨.SYN_CKOEN, 0, 0, k, k⟩ : FieldRef) = 1 then [{ start := s.ckoEdge k free, period := s.ckoPeriod k }] else []
  s.setCko k (liveSpans u old ++ next)

/-- CKOEN.ENk changes (R289). -/
def State.ckoSwitch (s : State) (k : Nat) (on : Bool) : State :=
  let u := 32 * s.now
  if on then
    let free := (s.ckoOf k).foldl (fun a c => max a (c.stop.getD 0)) u
    s.setCko k (liveSpans u (s.ckoOf k) ++ [{ start := s.ckoEdge k free, period := s.ckoPeriod k }])
  else s.setCko k (liveSpans u ((s.ckoOf k).flatMap (fun c => c.cut u)))

/-- A write of SYN0.CKOEN (R289). -/
def State.ckoenWrite (s : State) (v : Nat) : State :=
  let one := fun (a : State) (k : Nat) => if bit v k == bit (s.word .SYN_CKOEN 0 0) k then a else a.ckoSwitch k (bit v k)
  (one (one s 0) 1).setWord .SYN_CKOEN 0 0 (v % 4)

/-- What a copied set changes besides its registers: the global set the process speed (R99) and the scanners that a new pace station lets
start (R112); the divider set the schedule of the board clocks (R288); the imaging set the banks (R292). -/
def State.afterCopy (s : State) (x : ShadowSet) : State :=
  match x with
  | .strGlobal =>
    (forRange 0 (s.blockCount .STR) (fun k a => if a.on (F.STR_CTRL_EN k) && a.scan k = scOFF then a.scanStart k else a) s).publishSpeed
  | .synDiv => ((s.modSyn 0 (fun y => { y with schedule := s.now })).ckoReschedule 0).ckoReschedule 1
  | .strImaging k => s.p (F.SYN_RAMP_BANK (k + 2)) (1 - s.g (F.SYN_RAMP_BANK (k + 2)))
  | _ => s

/-- The copy of a set at its update event (R35). -/
def State.doCopy (s : State) (x : ShadowSet) : State := (s.copySet x).afterCopy x

/-- The update event source of a set is stopped (R35, R292): a motor or stepper that is not enabled, a station whose synthesiser is not LOCKED or
whose scanner is not LOCKED or COAST. -/
def State.sourceStopped (s : State) : ShadowSet → Bool
  | .strImaging k => s.synState (k + 2) != syLOCKED || (s.scan k != scLOCKED && s.scan k != scCOAST)
  | .motPwm n => !s.on (F.MOT_CTRL_EN n)
  | .motAdv n => !s.on (F.MOT_CTRL_EN n)
  | .stpProfile k => !s.on (F.STP_CTRL_EN k)
  | _ => false

/-- The update event of a set whose event has no row of its own holds now: the path empty (R73, R100, R103), the next CTL edge (R286).  A station's
fore ramp restart (R292), a motor's period start (R218) and a stepper's profile update (R247) are rows, and copy their sets there. -/
def State.updateNow (s : State) (x : ShadowSet) : Bool :=
  match x with
  | .gathGeom => !s.anyInPath
  | .strGlobal => !s.anyInPath
  | .strPhase _ => !s.anyInPath
  | .synDiv => true
  | _ => false

/-- A follower whose PHASE has changed slews to it and is not LOCKED meanwhile (R103). -/
def State.phaseCopied (s : State) (x : ShadowSet) (before : Nat) : State :=
  match x with
  | .strPhase k => if k ≠ s.pace && s.ga (F.STR_PHASE_PHASE k) ≠ before && s.scan k = scLOCKED then s.unlock k scCAPTURE else s
  | _ => s

/-- SHADOW_COPY (R35): at the first update event after the COMMIT has reached the unit, the shadows are copied. -/
def execShadowCopy (x : ShadowSet) (s : State) : Host.Outcome State Fault Refusal :=
  if s.setExists x && s.reached x && s.updateNow x then
    done ((s.doCopy x).phaseCopied x (s.ga (F.STR_PHASE_PHASE x.unit.2)))
  else .next s

/-- Eight cycles of a set's home domain in CTL ticks (R35): CORE at 1.0 GHz or 500 MHz, CTL, VID at 625 MHz while its synthesiser is LOCKED. -/
def State.eightCycles (s : State) (x : ShadowSet) : Nat :=
  match x.home with
  | .core => if s.ga (F.SYN_DIV_CORE 0) = 0 then 2 else 4
  | .ctl => 8
  | .vid => if s.synState (x.unit.2 + 2) = syLOCKED then 4 else 8

/-- SHADOW_COPY_STOPPED (R35): with the update event source stopped, the copy is made in the eighth cycle. -/
def execShadowCopyStopped (x : ShadowSet) (s : State) : Host.Outcome State Fault Refusal :=
  match s.commitOf x with
  | some c =>
    match c.reach with
    | some t => if s.setExists x && s.sourceStopped x && t + s.eightCycles x ≤ s.now then done (s.doCopy x) else .next s
    | none => .next s
  | none => .next s

/-! ### Synthesiser states (R282 to R285, R294 to R297) -/

/-- A synthesiser starts to acquire (R281, R282). -/
def State.synStart (s : State) (n : Nat) : State := (s.setSynState n syACQUIRE).p (F.SYN_STAT_REFOK n) 1

/-- A station synthesiser stops (R282, R283). -/
def State.synStop (s : State) (n : Nat) : State :=
  ((((s.setSynState n syOFF).setWord .SYN_ALIGN n 0 0).p (F.SYN_RAMP_PHASE n) 0).setVid (n - 2) false).modSyn n (fun y =>
    { y with pixelClock := false, nextOfs := none })

/-- Every synthesiser is OFF, in SLEEP and SHELF (R283): cord time stands. -/
def State.synsOff (s : State) : State :=
  let s1 := forRange 2 (s.blockCount .SYN - 2) (fun n a => a.synStop n) s
  (((s1.setSynState 0 syOFF).setSynState 1 syOFF).modSyn 0 (fun y => { y with cko0 := [], cko1 := [] })).p F.CORD_STAT_RUN 0

/-- A write of SYNn.CTRL (R283): EN of SYN0 and SYN1 cannot be written and their UNIT_RST is refused; clearing EN of a station synthesiser is
refused while its station is enabled. -/
def State.synCtrlWrite (s : State) (q : Requester) (n v : Nat) : State :=
  if n < 2 then (if bit v 31 then s.unitFault .SYN n q cSTATE_REFUSED else s)
  else if bit v 31 || !bit v 0 then
    if s.on (F.STR_CTRL_EN (n - 2)) then s.unitFault .SYN n q cSTATE_REFUSED
    else
      let s1 := (s.synStop n).p (F.SYN_CTRL_EN n) 0
      if bit v 31 then (s1.resetBlock .SYN n).modSyn n (fun _ => {}) else s1
  else
    let s1 := s.p (F.SYN_CTRL_EN n) 1
    if s.synState n = syOFF then s1.synStart n else s1

/-- SYN_ENABLE (R283): a write of SYNn.CTRL.EN. -/
def execSynEnable (q : Requester) (n : Nat) (on : Bool) (s : State) : Host.Outcome State Fault Refusal :=
  s.gate q (if n < s.blockCount .SYN then done (s.synCtrlWrite q n on.toNat) else .next s)

/-- The unit of source i reports the current epoch, once replay has ended (R358): its bit of JRN.UNITEP sets. -/
def State.latchEpoch (s : State) (i : Nat) : State :=
  if s.jrn.endAt.isSome then s.setWord .JRN_UNITEP 0 (i / 32) (setBit (s.word .JRN_UNITEP 0 (i / 32)) (i % 32) true) else s

/-- SYN_LOCKED (R282): the lock criterion is met.  SYN0 starts the cord counter at zero (R284); the page store is usable 50 us after SYN1
(R295); a station in OFF takes its transition (R283).  SYN0 never returns from HOLD (R297): there its reference is good again. -/
def execSynLocked (n : Nat) (s : State) : Host.Outcome State Fault Refusal :=
  if n < s.blockCount .SYN && (s.synState n = syACQUIRE || s.synState n = syHOLD) then
    let s1 := s.p (F.SYN_STAT_REFOK n) 1
    if n = 0 then
      if s.synState 0 = syHOLD then done s1
      else done ((({ s1 with cord := 0 }.setSynState 0 syLOCKED).p F.CORD_STAT_RUN 1).p F.CORD_STAT_CORE_OK 1)
    else
      let s2 := s1.setSynState n syLOCKED
      if n = 1 then done (s2.modSyn 1 (fun y => { y with readyAt := s.now + 50 * usTicks }))
      else
        let s3 := (((s2.p (F.SYN_ALIGN_VALID n) 0).p (F.SYN_ALIGN_DRIFT n) 0).modSyn n (fun y => { y with nextOfs := none })).latchEpoch (62 + n)
        if s.on (F.STR_CTRL_EN (n - 2)) && s.scan (n - 2) = scOFF then done (s3.scanStart (n - 2)) else done s3
  else .next s

/-- A station's synthesiser in HOLD (R295, R296): lanes low, VID_OK clear, the scanner coasts. -/
def State.stationHold (s : State) (k : Nat) : State :=
  let s1 := (s.setVid k false).dark k
  if s.scan k = scSWEEP || s.scan k = scCAPTURE || s.scan k = scLOCKED then s1.unlock k scCOAST else s1

/-- One synthesiser enters HOLD, with the consequences of R295. -/
def State.synHold (s : State) (n cause : Nat) : State :=
  let s1 := (((s.setSynState n syHOLD).p (F.SYN_STAT_LOSS n) 1).p (F.SYN_STAT_CAUSE n) cause).inc (F.SYN_STAT_LOSSCNT n)
  if n = 0 then (s1.p F.CORD_STAT_RUN 0).raise 68 1 cause .c 3
  else if n = 1 then
    let s2 := s1.raiseSpoil 69 1 cause .b (fun f => f.inPath) 3
    forRange 0 8 (fun c a => if a.ctxState c = ctxRUNNING then a.ctxFail c 9 else a) s2
  else (s1.raiseSpoil (68 + n) 1 cause .b (Folio.toImage (n - 2)) 3).stationHold (n - 2)

/-- SYN_LOCK (R294): cause 1 is a phase error of one synthesiser; causes 2 and 3 are a reference fault, which takes every running one to HOLD in
the same tick. -/
def execSynLock (n cause : Nat) (s : State) : Host.Outcome State Fault Refusal :=
  if cause = 1 then
    if n < s.blockCount .SYN && s.synState n = syLOCKED then done (s.synHold n 1) else .next s
  else if cause = 2 || cause = 3 then
    done (forRange 0 (s.blockCount .SYN) (fun m a =>
      let b := if a.synState m = syOFF then a else a.p (F.SYN_STAT_REFOK m) 0
      if a.synState m = syLOCKED then b.synHold m cause else b) s)
  else .next s

/-- ALIGN_VALID (R285, R295): the measurement after lock; VID_OK sets, and a scanner that coasted for it returns to CAPTURE. -/
def execAlignValid (n ofs : Nat) (s : State) : Host.Outcome State Fault Refusal :=
  if 2 ≤ n && n < s.blockCount .SYN && s.synState n = syLOCKED && !s.on (F.SYN_ALIGN_VALID n) && ofs < 160 then
    let s1 := ((s.setWord .SYN_ALIGN n 0 (2 ^ 31 + ofs)).modSyn n (fun y => { y with nextOfs := none })).setVid (n - 2) true
    if s.scan (n - 2) = scCOAST && !s.on (F.STR_STAT_LASER_DIS (n - 2)) then done (s1.setScan (n - 2) scCAPTURE) else done s1
  else .next s

/-- Distance of two tap positions on the 160 taps of a tick (R285; log 19). -/
def tapDist (a b : Nat) : Nat := min (distN a b) (160 - distN a b)

/-- ALIGN_MEASURE (R285): a change of more than 4 taps waits for the next ramp restart. -/
def execAlignMeasure (n ofs : Nat) (s : State) : Host.Outcome State Fault Refusal :=
  if 2 ≤ n && n < s.blockCount .SYN && s.synState n = syLOCKED && s.on (F.SYN_ALIGN_VALID n) && ofs < 160
      && 4 < tapDist ofs (s.g (F.SYN_ALIGN_OFS n)) then
    done (s.modSyn n (fun y => { y with nextOfs := some ofs }))
  else .next s

/-- CKOEN_WRITE (R289): a board clock starts at the next edge of its schedule, or stops low after its high phase. -/
def execCkoenWrite (v : Nat) (s : State) : Host.Outcome State Fault Refusal := done (s.ckoenWrite v)

/-! ### The scanner's loops (R103, R111) -/

/-- The fore stroke start that a station's last turn point A gives (R97, R103). -/
def State.foreStart (s : State) (k : Nat) : Option Nat :=
  (s.st k).turnA.map (fun t => t + s.ga (F.STR_WINDOW_WSTART k) * s.tEst k / 16384 + (s.genOf k false (s.tEst k)).leadTime)

/-- PHERR (R111): a follower's fore stroke start minus its PHASE target, the start of the pace station's plus the phase slewed to, in 1/65,536 period, as a
distance of at most half a period; 0 on the pace station. -/
def State.phaseError (s : State) (k : Nat) : Int :=
  let t := s.tEst s.pace
  match s.foreStart k, s.foreStart s.pace with
  | some a, some b =>
    if k = s.pace || t = 0 then 0
    else
      let d : Int := ((a : Int) - b - ((s.st k).slew * t / 2 ^ 20 : Nat)) % (t : Nat)
      clampI (-2048) 2047 ((if (t : Int) ≤ 2 * d then d - t else d) * 65536 / t)
  | _, _ => 0

/-- The drive pulse of the half-cycle (R111): centred on the stroke centre, a quarter period after the turn, and LEVEL / 256 of the half-period wide.  How far a
follower's phase loop moves the centre is not stated: a free value (log 1). -/
def State.drivePulse (s : State) (k level : Nat) : State :=
  let x := s.st k
  match (if x.farEnd then x.turnB else x.turnA) with
  | none => s
  | some t =>
    let d := if k = s.pace then (0, s) else (s.draw.1.toNat, s.draw.2)
    d.2.modStr k (fun y => { y with drive := some (t + s.tEst k / 4 + d.1, level * (s.tEst k / 2) / 256) })

/-- AMP_LOOP_UPDATE (R111): once per half-cycle e, the accumulator, LEVEL, PHERR and the drive pulse.  A follower held at DRVMAX for 64 half-cycles below
RHO_SET - RHOTOL enters FAULT (SCAN_PULL).  Quotients are rounded down (log 10). -/
def State.ampUpdate (s : State) (k : Nat) : State :=
  let x := s.st k
  let e : Int := (s.g (F.STR_AMP_RHO_SET k) : Int) - x.rho
  let acc := x.acc + e
  let level := clampI 0 (s.g (F.STR_AMP_DRVMAX k) : Int) ((acc + 16 * e) / 64)
  let low : Bool := k ≠ s.pace && level == (s.g (F.STR_AMP_DRVMAX k) : Int) && x.rho + s.g (F.STR_AMP_RHOTOL k) < s.g (F.STR_AMP_RHO_SET k)
  let pull := if low then x.pull + 1 else 0
  let s1 := ((s.modStr k (fun y => { y with acc := acc, pull := pull, ampDue := false })).p (F.STR_DRIVE_LEVEL k) level.toNat).pi (F.STR_DRIVE_PHERR k)
    (s.phaseError k)
  let s2 := s1.drivePulse k level.toNat
  if 64 ≤ pull then s2.scanFault k cSCAN_PULL else s2.judgeLock k

def execAmpLoopUpdate (k : Nat) (s : State) : Host.Outcome State Fault Refusal :=
  if k < s.blockCount .STR && !s.polygon k && (s.scan k = scCAPTURE || s.scan k = scLOCKED) && (s.st k).ampDue then done (s.ampUpdate k) else .next s

/-! ### Strokes and ramps (R97, R115, R118, R290 to R293) -/

/-- The correction of a measured offset, counted and applied at a restart (R285). -/
def State.applyOfs (s : State) (n : Nat) : State :=
  match (s.synOf n).nextOfs with
  | some o => ((s.p (F.SYN_ALIGN_OFS n) o).inc (F.SYN_ALIGN_DRIFT n)).modSyn n (fun y => { y with nextOfs := none })
  | none => s

/-- The imaging set's update event: the ramp restart of a fore stroke (R35, R292). -/
def State.imagingUpdate (s : State) (k : Nat) : State := if s.reached (.strImaging k) then s.doCopy (.strImaging k) else s

/-- The lines' offsets of the stroke that starts (R123). -/
def State.strokeOffsets (s : State) (k : Nat) (back : Bool) : List Int :=
  (List.range (s.ga (F.STR_GLOBAL_B 0))).map (fun j => s.lineOffset k j back)

/-- A stroke starts (R106, R115): direction, count, line offsets, the time K was loaded with, the stroke start, and the pulses of its buffer; on is
whether the profile check passed (R118). -/
def State.startStroke (s : State) (k : Nat) (back on : Bool) (restart start : Nat) : State :=
  (((s.p (F.STR_STAT_DIR k) back.toNat).incWrap (F.STR_STAT_STROKES k)).modStr k (fun x =>
    { x with rampT := s.tEst k, lineOfs := s.strokeOffsets k back, strokeStart := start, profBad := !on, rampDue := false,
             lit := x.lit && on, buffer := if on then x.buffer else none,
             pulses := if x.lit && on then s.strokePulses k back (s.tEst k) restart else [] })).modSyn (k + 2) (fun y =>
      { y with pixelClock := true, restart := restart })

/-- PROF_RANGE (R118): the stroke is blank, and a folio with a stroke on the station is spoiled with 0x03. -/
def State.profRange (s : State) (k : Nat) : State := s.raiseSpoil (64 + k) cPROF_RANGE 0 .b (fun f => s.imaging k f) 3

/-- The ramp restart of the stroke that follows a turn point: WSTART phase steps after it (R97, R115). -/
def State.restartTime (s : State) (k turn : Nat) : Nat := turn + s.ga (F.STR_WINDOW_WSTART k) * s.tEst k / 16384

/-- RAMP_RESTART (R115, R118, R290): at turn point + WSTART the generator loads K and starts at pixel -64. -/
def State.rampRestart (s : State) (k turn : Nat) : State :=
  let n := k + 2
  let back := (s.st k).farEnd
  let s1 := s.applyOfs n
  let s2 := if back then s1 else s1.imagingUpdate k
  let p := s2.profOf k back
  let t := s2.tEst k
  let ok := p.inRange (s2.ga (F.STR_WINDOW_NPIX k)) t
  let restart := s2.restartTime k turn
  let s3 := s2.startStroke k back ok restart (restart + (s2.genOf k back t).leadTime)
  let s4 := (((s3.p (F.SYN_RAMP_PHASE n) 1).p (F.SYN_RAMP_DIR n) back.toNat).p (F.SYN_RAMP_SEG n) 0).p (F.SYN_RAMP_LEFT n) (headSteps p.segs)
  let s5 := (s4.setWord .SYN_KVAL n 0 (kVal p.fref t)).setWord .SYN_FNOW n 0 (genFreq (kVal p.fref t) (256 * p.f0 : Nat) / 4096)
  if ok then s5 else s5.profRange k

/-- The restart happens once after each turn, when its time has come, with the pixel clock stopped (R115, R290). -/
def execRampRestart (k : Nat) (s : State) : Host.Outcome State Fault Refusal :=
  if k < s.blockCount .STR && s.on (F.STR_CTRL_EN k) && !s.polygon k && s.synState (k + 2) = syLOCKED
      && (s.scan k = scLOCKED || s.scan k = scCOAST) && s.tEst k ≠ 0 && (s.st k).rampDue && !(s.synOf (k + 2)).pixelClock then
    match (if (s.st k).farEnd then (s.st k).turnB else (s.st k).turnA) with
    | some t => if s.restartTime k t ≤ 64 * s.now then done (s.rampRestart k t) else .next s
    | none => .next s
  else .next s

/-- The generator of the stroke in hand. -/
def State.genNow (s : State) (n : Nat) : Gen := s.genOf (n - 2) (s.on (F.SYN_RAMP_DIR n)) (s.st (n - 2)).rampT

/-- The time since the restart, in 1/64 tick. -/
def State.sinceRestart (s : State) (n : Nat) : Nat := 64 * s.now - (s.synOf n).restart

/-- SYNn.RAMP and FNOW as they read now, while the pixel clock runs (R290, R291, R293): PHASE, SEG, LEFT, FREQ. -/
def State.rampNow (s : State) (n : Nat) : Nat × Nat × Nat × Nat :=
  if !(s.synOf n).pixelClock || (s.st (n - 2)).rampT = 0 then (0, s.g (F.SYN_RAMP_SEG n), s.g (F.SYN_RAMP_LEFT n), 0)
  else
    let g := s.genNow n
    let x := g.now (s.sinceRestart n)
    let ph := g.phase (s.sinceRestart n)
    let where_ := if ph < g.lead * 2 ^ 32 then 1 else if ph < (g.lead + g.npix) * 2 ^ 32 then 2 else 3
    if s.polygon (n - 2) then (where_, 0, 0, x.f / 4096) else (where_, x.seg, x.left, x.f / 4096)

/-- The stroke in hand has ended (R106, R127, R132): its pulses are over, and lanes that wait for its end are held off. -/
def State.strokeEnd (s : State) (k : Nat) : State :=
  s.modStr k (fun y =>
    { y with lit := false, buffer := none, pulses := [], calOn := false, lanesOff := y.lanesOff || y.offDue, offDue := false
             side := match y.side with | some (a, b, c, n) => if n ≤ 1 then none else some (a, b, c, n - 1) | none => none
             calLeft := if y.calOn then y.calLeft - 1 else y.calLeft
             calIndex := if y.calOn then y.calIndex + 1 else y.calIndex })

/-- The pixel clock stops; RANGE reports the stroke's extremes (R290).  In polygon mode the laser power slots count from here (R134). -/
def State.leadOut (s : State) (k : Nat) : State :=
  let n := k + 2
  let p := s.profOf k (s.on (F.SYN_RAMP_DIR n))
  let f0 : Int := (p.f0 * 256 : Nat)
  let npix := s.ga (F.STR_WINDOW_NPIX k)
  let e := profExtremes p.segs f0 (pixelSum (npix + 128) p.fref) f0 f0
  let scale : Int → Nat := fun f => (f * (s.g (F.SYN_KVAL_K n) : Nat) / (2 ^ 30 * 4096 * 10000)).toNat
  let lo := if s.polygon k then s.g (F.STR_POLYF_FREQ k) / 160000 else scale e.1
  let hi := if s.polygon k then s.g (F.STR_POLYF_FREQ k) / 160000 else scale e.2
  let r := s.rampNow n
  let s1 := ((s.p (F.SYN_RAMP_SEG n) r.2.1).p (F.SYN_RAMP_LEFT n) r.2.2.1).p (F.SYN_RAMP_PHASE n) 0
  let s2 := ((s1.setWord .SYN_FNOW n 0 0).p (F.SYN_RANGE_FLO n) (min lo 65535)).p (F.SYN_RANGE_FHI n) (min hi 65535)
  let s3 := (s2.modSyn n (fun y => { y with pixelClock := false })).strokeEnd k
  if s.polygon k then s3.modStr k (fun x => { x with apcFrom := some (64 * s.now), apcDone := 0, framed := false }) else s3

/-- LEAD_OUT_END (R290, R293): once the clock has run its pixel periods, it stops after a complete one. -/
def execLeadOutEnd (k : Nat) (s : State) : Host.Outcome State Fault Refusal :=
  if k < s.blockCount .STR && (s.synOf (k + 2)).pixelClock
      && (s.genNow (k + 2)).span * 2 ^ 32 ≤ (s.genNow (k + 2)).phase (s.sinceRestart (k + 2)) then
    done (s.leadOut k)
  else .next s

/-! ### Facet sweeps (R133, R134, R226) -/

def State.modMot (s : State) (n : Nat) (f : Mot → Mot) : State := { s with mot := vmod s.mot n f }

/-- PERR of the polygon motor that serves a station (R226): its BD-A edge minus its target, in 1/65,536 facet period. -/
def State.polyPerr (s : State) (k c : Nat) : Int :=
  let target : Option Nat :=
    if k = s.pace then (s.st k).turnA.map (fun t => t + s.tEst k)
    else (s.st s.pace).turnA.map (fun t => t + s.ga (F.STR_PHASE_PHASE k) * s.tEst s.pace / 2 ^ 20)
  match target with
  | some t => if s.tEst k = 0 then 0 else clampI (-32768) 32767 (((c : Int) - t) * 65536 / s.tEst k)
  | none => 0

/-- What a facet's BD-A edge tells the polygon motor's port (R226): PERR, and STAT.SLOCK after 64 facets in lock or 16 out of it. -/
def State.polyFacet (s : State) (k c : Nat) : State :=
  let n := s.g (F.STR_POLY_MOT k)
  if s.blockCount .MOT ≤ n || s.g (F.MOT_CTRL_MODE n) ≠ 2 then s
  else
    let perr := s.polyPerr k c
    let sref := s.gi (F.MOT_SREF_SPEED n)
    let good := 1000 * (sref - s.gi (F.MOT_MEAS_W_SPEED n)).natAbs ≤ sref.natAbs && (k = s.pace || perr.natAbs ≤ 64)
    let s1 := (s.pi (F.MOT_MEAS_P_PERR n) perr).modMot n (fun m =>
      if good then { m with locked := min 64 (m.locked + 1), unlocked := 0 } else { m with locked := 0, unlocked := min 16 (m.unlocked + 1) })
    if good && 64 ≤ (vget s1.mot n).locked then s1.p (F.MOT_STAT_SLOCK n) 1
    else if !good && 16 ≤ (vget s1.mot n).unlocked then s1.p (F.MOT_STAT_SLOCK n) 0
    else s1

/-- The sweep of a facet whose BD-A edge, measured or predicted, lies at c (R133, R134, R293): the turnaround's reading, and one fore stroke at the fixed clock.  A
sweep still running ends first, and a measured offset is applied (R285). -/
def State.sweep (s00 : State) (k c : Nat) : State :=
  let s0 := if (s00.synOf (k + 2)).pixelClock then s00.leadOut k else s00
  let s1 := ((s0.modStr k (fun x => { x with turnA := some c, farEnd := false, outEdge := none, missed := false })).applyOfs (k + 2)).imagingUpdate k
  let s2 := s1.readout k
  let n := k + 2
  let s3 := s2.startStroke k false true c (c + (s2.genOf k false (s2.tEst k)).leadTime)
  let s4 := (((s3.p (F.SYN_RAMP_PHASE n) 1).p (F.SYN_RAMP_DIR n) 0).p (F.SYN_RAMP_SEG n) 0).p (F.SYN_RAMP_LEFT n) 0
  (s4.setWord .SYN_KVAL n 0 0x40000000).setWord .SYN_FNOW n 0 (s4.g (F.STR_POLYF_FREQ k))

/-- A facet edge that counts: the facet period, capture of lock after 64 clean sweeps, and the sweep; a period out of range stops the station (R134). -/
def State.facetSweep (s : State) (k c : Nat) : State :=
  let s1 := match (s.st k).turnA with | some t => if t < c then s.measured k (c - t) else s | none => s
  if s1.scan k = scFAULT then s1
  else
    let s2 := s1.p (F.STR_BDSTAT_CONSEC k) 0
    let s3 := if s2.scan k = scCAPTURE then
        if 64 ≤ (s2.st k).clean + 1 then s2.scanLocked k else s2.modStr k (fun x => { x with clean := x.clean + 1 })
      else s2
    s3.sweep k c

/-- A BD-A edge beyond BDTOL of its prediction, or absent (R110, R134): a miss, and the sweep runs on the predicted edge; in CAPTURE an edge outside its window
is taken as measured (DESIGN CHOICE, log 69). -/
def State.facetMiss (s : State) (k c : Nat) : State := (s.bdMiss k).sweep k c

/-- A BD-A rising edge in polygon mode, its motor's port having seen it (R226). -/
def State.facetEdge (s : State) (k c : Nat) : State :=
  if s.scan k = scFAULT || s.synState (k + 2) ≠ syLOCKED then s
  else if s.scan k = scOFF then
    let s1 := match (s.st k).turnA with | some t => if t < c then s.measured k (c - t) else s | none => s
    let s2 := s1.scanStart k
    s2.modStr k (fun x => { x with turnA := some c })
  else
    match s.predTurn k false with
    | some p =>
      if distN c p ≤ s.bdTol k then s.facetSweep k c else s.facetMiss k (if distN c p ≤ s.bdWin k then p else c)
    | none => s.facetSweep k c

/-- FACET_BD (R133, R134): a BD-A rising edge in polygon mode; outside its window, and in a laser power slot, it is ignored. -/
def execFacetBd (k stamp : Nat) (s : State) : Host.Outcome State Fault Refusal :=
  let c := stamp - s.g (F.STR_BD_BDLAT k)
  if k < s.blockCount .STR && s.on (F.STR_CTRL_EN k) && s.polygon k && s.bdLit k c && !s.apcMasked k stamp then done ((s.polyFacet k c).facetEdge k c)
  else .next s

/-- BD_WINDOW_EXPIRE (R110, R134): a window closes without a valid edge. -/
def execBdWindowExpire (k : Nat) (farEnd : Bool) (s : State) : Host.Outcome State Fault Refusal :=
  if k < s.blockCount .STR && s.on (F.STR_CTRL_EN k) && (s.scan k = scCAPTURE || s.scan k = scLOCKED || s.scan k = scCOAST)
      && (s.nextTurn k).1 == farEnd && s.windowOver k then
    if s.polygon k then match s.predTurn k false with | some p => done (s.facetMiss k p) | none => .next s
    else done (s.edgeAbsent k)
  else .next s

end Sys2Proof.Machine
end

