-- ==== Sys2Proof/Machine/Journal.lean ====
section
/-! DEFINITION. The journal (R346 to R363): commits, headers, flush, replay, the reconciliation report and the reading of slots. -/

namespace Sys2Proof.Machine

/-! ### The two copies (R348, R349) -/

/-- n bytes of FRAM at an address; a byte nothing has written reads 0xFF (log 4). -/
def State.framRd (s : State) (a n : Nat) : List Nat := Cells.bytesAt 0xFF a s.fram n
def State.framWr (s : State) (a : Nat) (bs : List Nat) : State := { s with fram := Cells.putBytes 0xFF a bs s.fram }

/-- A header's fields (R349). -/
structure Header where
  gen : Nat
  epoch : Nat
  tail : Nat
  sealed : Bool
  sealEpoch : Nat
  sdel : List Nat
  valid : List Nat
  deriving DecidableEq, Repr

def headMagic : Nat := 0x484E524A

/-- A header of 256 bytes, when MAGIC and CRC are right (R349). -/
def Header.ofBytes (b : List Nat) : Option Header :=
  let w := fun o n => leNat ((b.drop o).take n)
  if w 0 4 = headMagic && w 0xFC 4 = crc32c (b.take 0xFC) then
    some { gen := w 4 4, epoch := w 8 4, tail := w 0xC 4, sealed := bit (w 0x10 4) 0, sealEpoch := w 0x14 4,
           sdel := (List.range 8).map (fun n => w (0x20 + 8 * n) 4), valid := (List.range 8).map (fun n => w (0x24 + 8 * n) 4 % 2) }
  else none

/-- The 256 bytes of a header (R349). -/
def Header.bytes (h : Header) : List Nat :=
  let b := leBytes 4 headMagic ++ leBytes 4 h.gen ++ leBytes 4 h.epoch ++ leBytes 4 h.tail ++ leBytes 4 h.sealed.toNat ++ leBytes 4 h.sealEpoch
    ++ leBytes 8 0 ++ (List.range 8).flatMap (fun n => leBytes 4 ((h.sdel[n]?).getD 0) ++ leBytes 4 ((h.valid[n]?).getD 0))
    ++ List.replicate 156 0
  b ++ leBytes 4 (crc32c b)

def State.framHead (s : State) (k : Nat) : Option Header := Header.ofBytes (s.framRd (0x100 * k) 256)
def State.mirrorHead (s : State) : Option Header := Header.ofBytes (s.rdBytes mirrorBase 256)

/-- Of two headers, the one with the later GEN, compared serially (R349). -/
def laterHead : Option Header → Option Header → Option Header
  | some a, some b => if precedes a.gen b.gen then some b else some a
  | some a, none => some a
  | none, b => b

/-- The FRAM copy that a header write goes to: the one that is not valid, or has the older GEN (R349). -/
def State.headTarget (s : State) : Nat :=
  match s.framHead 0, s.framHead 1 with
  | some a, some b => if precedes b.gen a.gen then 1 else 0
  | some _, none => 1
  | none, _ => 0

/-- TAILSEQ of R350: the oldest live record, or the next SEQ; a record queued and not yet committed keeps its place. -/
def State.tailNow (s : State) : Nat :=
  match s.jrn.live, s.jrn.queue with
  | r :: _, _ => r.seq
  | [], r :: _ => r.seq
  | [], [] => s.g F.JRN_SEQ_SEQ

/-- A header write (R349): to the FRAM copy with the older GEN and to the mirror, each where it is in service. -/
def State.headerWrite (s : State) : State :=
  let last := laterHead (laterHead (s.framHead 0) (s.framHead 1)) s.mirrorHead
  let h : Header :=
    { gen := match last with | some x => succ32 x.gen | none => 1
      epoch := s.g F.JRN_EPOCH_EPOCH, tail := s.tailNow, sealed := s.g F.JRN_STAT_STATE == jSEALED, sealEpoch := s.g F.JRN_SEALEPOCH_EPOCH
      sdel := (List.range 8).map (fun n => s.g (F.GATH_SDEL_FSN n)), valid := (List.range 8).map (fun n => (s.stream n).recorded.toNat) }
  let s1 := if s.on F.JRN_STAT_FRAMOK then (s.framWr (0x100 * s.headTarget) h.bytes).bwAdd 9 256 else s
  let s2 := if s.on F.JRN_STAT_MIRROK then s1.wrBytes mirrorBase h.bytes else s1
  s2.p F.JRN_TAILSEQ_SEQ h.tail

/-- Headers written afresh, into both FRAM copies (R349, R357, R361). -/
def State.headersFresh (s : State) : State := s.headerWrite.headerWrite

/-! ### Commits (R347, R350, R363) -/

/-- The last committed record of an FSN. -/
def lastOf (st fsn : Nat) (l : List JRec) : Option JRec := l.reverse.find? (fun r => r.stream == st && r.fsn == fsn)

/-- A folio's records end in DELIVERED or ABORTED (R350, R355). -/
def JRec.ends (r : JRec) : Bool := r.type == 5 || (r.type == 6 && r.aux % 256 == 0x0C)

/-- Drops the records before the oldest live one (R350). -/
def dropDead (all : List JRec) : List JRec → List JRec
  | [] => []
  | r :: t => match lastOf r.stream r.fsn all with | some x => if x.ends then dropDead all t else r :: t | none => r :: t

/-- The last copy in service has failed (R363): queued ACCEPTs are refused with JOURNAL, any other record raises JRN_LOST, and a flush is
complete. -/
def State.jrnLose (s : State) : State :=
  let rs := s.jrn.queue ++ s.jrn.waiting
  let s1 := { s with jrn := { s.jrn with queue := [], waiting := [], retried := false } }.p F.JRN_STAT_STATE jLOST
  let s2 := rs.foldl (fun a r => if r.type = 1 then a.refuseFolio r.stream r.fsn 0x0C else a.jrnRequest r) s1
  let s3 := forRange 0 8 (fun n a => a.postDeferred n ((a.stream n).deferred.map (fun x => (0, x.2)))) s2
  match s3.jrn.flushLeft with
  | some _ => { s3 with jrn := { s3.jrn with flushLeft := none } }.p F.JRN_STAT_FLUSHED 1
  | none => s3

/-- The counts and the trace record of a committed record (R409, R410, R414). -/
def State.countCommit (s : State) (r : JRec) : State :=
  let s1 := (s.count 0x48 0 1).traceEv 3 7 r.type r.seq
  match r.type with
  | 2 => s1.count 0x40 r.stream 1
  | 5 => (s1.count 0x41 r.stream 1).fixed 1
  | 6 => s1.count 0x42 r.stream 1
  | _ => s1

/-- A commit is confirmed (R347): GATH acts on it, a header follows when TAILSEQ has advanced by 64 (R349), and a waiting request moves up. -/
def State.confirm (s : State) (r : JRec) (rest : List JRec) : State :=
  let live := s.jrn.live ++ [r]
  let s1 := { s with jrn := { s.jrn with queue := rest, retried := false, live := dropDead live live,
                                         flushLeft := s.jrn.flushLeft.map (fun n => n - 1) } }
  let s2 := (s1.countCommit r).onCommit r
  let s3 := if 64 ≤ (s2.tailNow + 2 ^ 32 - s2.g F.JRN_TAILSEQ_SEQ) % 2 ^ 32 then s2.headerWrite else s2
  s3.jrnRefill

/-- Bytes of a slot whose writing failed: open values (log 1). -/
def State.freeWords (s : State) : (n : Nat) → List Nat × State
  | 0 => ([], s)
  | n + 1 => let r := s.draw.2.freeWords n; (leBytes 4 s.draw.1.toNat ++ r.1, r.2)

/-- What the FRAM's read-back showed (R347, R363). -/
def ReadBack.detail : ReadBack → Nat
  | .ok => 0
  | .mismatch => 1
  | .noResponse => 2

/-- A failed read-back (R347): retried once; a second failure raises JRN_FRAM, takes FRAM out of service, and the mirror alone commits. -/
def State.readBackFailed (s : State) (r : JRec) (rest : List JRec) (b : ReadBack) : State :=
  let w := s.freeWords 8
  let s1 := w.2.framWr (framSlot r.seq) w.1
  if !s.jrn.retried then { s1 with jrn := { s1.jrn with retried := true } }.count 0x49 0 1
  else
    let s2 := (s1.p F.JRN_STAT_FRAMOK 0).raise 3 1 b.detail .b 1
    if s2.on F.JRN_STAT_MIRROK then s2.confirm r rest else s2.jrnLose

/-- JRN_RECORD_REQUEST (R347, R350): GATH requests a record. -/
def execJrnRecordRequest (type stream try_ : Nat) (stranded operator : Bool) (fsn stamp aux : Nat) (s : State) :
    Host.Outcome State Fault Refusal :=
  if 1 ≤ type && type ≤ 6 && stream < 8 then
    done (s.jrnRequest { type := type, stream := stream, try_ := try_ % 16, stranded := stranded, operator := operator, fsn := fsn % 2 ^ 32,
                         stamp := stamp % 2 ^ 64, aux := aux % 2 ^ 32 })
  else .next s

/-- JRN_COMMIT_COMPLETE (R347): the front record's writes are done and FRAM, when in service, has been read back. -/
def execJrnCommitComplete (b : ReadBack) (s : State) : Host.Outcome State Fault Refusal :=
  match s.jrn.queue with
  | [] => .next s
  | r :: rest =>
    let s1 := if s.on F.JRN_STAT_MIRROK then s.wrBytes (mirrorSlot r.seq) (r.bytes 0xC3) else s
    if s.on F.JRN_STAT_FRAMOK then
      if b = .ok then done (((s1.framWr (framSlot r.seq) (r.bytes 0xC3)).bwAdd 9 65).confirm r rest)
      else done ((s1.bwAdd 9 65).readBackFailed r rest b)
    else done (s1.confirm r rest)

/-- JRN_MIRROR (R363): the mirror leaves service; with FRAM already out no copy is left. -/
def execJrnMirror (s : State) : Host.Outcome State Fault Refusal :=
  if s.on F.JRN_STAT_MIRROK then
    let s1 := (s.p F.JRN_STAT_MIRROK 0).raise 3 2 0 .b 1
    done (if !s1.on F.JRN_STAT_FRAMOK && s1.g F.JRN_STAT_STATE = jOPEN then s1.jrnLose else s1)
  else .next s

/-- FLUSH_COMPLETE (R353): every record queued when the flush began is committed. -/
def execFlushComplete (s : State) : Host.Outcome State Fault Refusal :=
  if s.jrn.flushLeft = some 0 then done ({ s with jrn := { s.jrn with flushLeft := none } }.p F.JRN_STAT_FLUSHED 1) else .next s

/-! ### Commands (R349, R357, R361) -/

/-- The stream registers zeroed and every stream in RUN (R357, R361). -/
def State.zeroStreams (s : State) : State :=
  forRange 0 8 (fun n a =>
    ((((a.p (F.GATH_SDEL_FSN n) 0).p (F.GATH_SNEXT_FSN n) 0).p (F.GATH_SSTAT_VALID n) 0).setStreamState n stRUN).modStream n (fun t =>
      { t with awaiting := [], inFlight := [], stranded := [], tries := [], closed := none, recorded := false }))
    { s with gath := { s.gath with pastGate := [] } }

/-- EPOCH_MARK on every enabled completion ring, on FCL's ring and in the trace (R57, R339, R415). -/
def State.postMarks (s : State) : State :=
  let e := s.g F.JRN_EPOCH_EPOCH
  let s1 := forRange 0 8 (fun n a => if a.ringEn (complRing n) then a.complete n ⟨e, 8, 0, 0, false, false, 0, a.now⟩ else a) s
  ({ s1 with fcl := { s1.fcl with markDue := true } }.fclMark).traceEv 11 0 0 e

/-- The folio units that keep state tied to an epoch (R358), by source. -/
def epochUnits : List Nat := [2, 12, 15, 16, 17, 18, 19, 20, 21, 64, 65, 66, 67]

/-- The source's unit is absent on the variant: its bit reads 1 at all times (R358). -/
def State.unitAbsent (s : State) (i : Nat) : Bool :=
  (64 ≤ i && i < 68 && s.blockCount .STR ≤ i - 64)

/-- The clock of a source's unit runs (R358): a station's is its synthesiser's. -/
def State.unitClocked (s : State) (i : Nat) : Bool := if 64 ≤ i && i < 68 then s.synState (i - 62) == syLOCKED else true

/-- The bits of the folio units clear when replay begins; every other bit reads 1 (R358). -/
def State.clearEpochs (s : State) : State :=
  epochUnits.foldl (fun a i => if a.unitAbsent i then a else a.setWord .JRN_UNITEP 0 (i / 32) (setBit (a.word .JRN_UNITEP 0 (i / 32)) (i % 32) false))
    (forRange 0 4 (fun k a => a.setWord .JRN_UNITEP 0 k 0xFFFFFFFF) s)

/-- Every unit whose clock runs latches the epoch (R40, R358). -/
def State.latchAll (s : State) : State :=
  epochUnits.foldl (fun a i => if a.unitClocked i then a.latchEpoch i else a) { s with jrn := { s.jrn with endAt := some s.now } }

/-- A write of JRN.CMD: the KEY, then the action in its state. -/
def State.jrnCmd (s : State) (q : Requester) (v : Nat) : State :=
  let st := s.g F.JRN_STAT_STATE
  let refused := s.unitFault .JRN 0 q cSTATE_REFUSED
  if bits v 31 24 ≠ 0x4A then refused
  else
    match bits v 3 0 with
    | 1 => if st = jOPEN then s.headerWrite else refused
    | 2 =>
      if st = jUNINIT then
        let s1 := ((s.p F.JRN_EPOCH_EPOCH 1).p F.JRN_STAT_STATE jOPEN).zeroStreams
        s1.headersFresh.clearEpochs.latchAll.postMarks
      else refused
    | 3 =>
      if st = jSEALED then
        let s1 := ((({ s with jrn := { s.jrn with live := [] } }.p F.JRN_STAT_STATE jOPEN).p F.JRN_SEALEPOCH_EPOCH 0).zeroStreams)
        s1.headersFresh
      else refused
    | _ => s.unitFault .JRN 0 q cRESERVED_ENC

/-- FLUSH (R349). -/
def execFlush (q : Requester) (s : State) : Host.Outcome State Fault Refusal := s.gate q (done (s.jrnCmd q 0x4A000001))
/-- INIT (R357). -/
def execInit (q : Requester) (s : State) : Host.Outcome State Fault Refusal := s.gate q (done (s.jrnCmd q 0x4A000002))
/-- RELEASE (R361). -/
def execRelease (q : Requester) (s : State) : Host.Outcome State Fault Refusal := s.gate q (done (s.jrnCmd q 0x4A000003))

/-- Sealing, on leaving RETURNED (R361). -/
def State.jrnSeal (s : State) : State :=
  ((s.p F.JRN_STAT_STATE jSEALED).p F.JRN_SEALEPOCH_EPOCH (s.g F.JRN_EPOCH_EPOCH)).headersFresh

/-! ### Replay (R354 to R357) -/

/-- A record of 32 bytes with a valid CRC and COMMIT = 0xC3 (R354). -/
def recOk (b : List Nat) : Bool :=
  leNat ((b.drop 7).take 1) == 0xC3 && leNat ((b.drop 0x1C).take 4) == crc32c (b.take 0x1C)

/-- The record's CRC, computed with COMMIT taken as 0xC3, holds (R346). -/
def recCrcOk (b : List Nat) : Bool := leNat ((b.drop 0x1C).take 4) == crc32c (b.take 7 ++ [0xC3] ++ (b.drop 8).take 20)

def recSeq (b : List Nat) : Nat := leNat (b.take 4)

/-- The FRAM slot of SEQ q, where FRAM is in service. -/
def State.framRec (s : State) (fram : Bool) (q : Nat) : Option (List Nat) :=
  let b := s.framRd (framSlot q) 32
  if fram && recOk b then some b else none

def State.mirrorRec (s : State) (mir : Bool) (q : Nat) : Option (List Nat) :=
  let b := s.rdBytes (mirrorSlot q) 32
  if mir && recOk b then some b else none

/-- The copy holds SEQ q itself. -/
def holds (q : Nat) : Option (List Nat) → Option (List Nat)
  | some b => if recSeq b = q then some b else none
  | none => none

/-- What reading the records gives: the records, the SEQ that ends the journal, whether the copies differed, whether the mirror supplied a
record that FRAM did not. -/
structure Scan where
  recs : List JRec := []
  last : Nat
  merge : Bool := false
  mirror : Bool := false

/-- Reads every SEQ from q upwards until neither copy holds it (R354). -/
def State.scanRecs (s : State) (fram mir : Bool) : (fuel : Nat) → Scan → Scan
  | 0, c => c
  | n + 1, c =>
    match holds c.last (s.framRec fram c.last), holds c.last (s.mirrorRec mir c.last) with
    | some f, some m => s.scanRecs fram mir n { c with recs := c.recs ++ [JRec.ofBytes f], last := succ32 c.last, merge := c.merge || f != m }
    | some f, none => s.scanRecs fram mir n { c with recs := c.recs ++ [JRec.ofBytes f], last := succ32 c.last }
    | none, some m => s.scanRecs fram mir n { c with recs := c.recs ++ [JRec.ofBytes m], last := succ32 c.last, mirror := true }
    | none, none => c

/-- A torn record at the end of the journal (R352). -/
def State.tornAt (s : State) (fram : Bool) (q : Nat) : Bool :=
  let b := s.framRd (framSlot q) 32
  fram && recSeq b == q && ((b[7]?).getD 0 == 0 || !recCrcOk b)

/-- A valid record with a later SEQ within the 16 slots past the end (R354). -/
def State.pastEnd (s : State) (fram mir : Bool) (q : Nat) : Bool :=
  let later : Option (List Nat) → Bool := fun o => match o with | some b => precedes q (recSeq b) | none => false
  (List.range 16).any (fun i => later (s.framRec fram ((q + 1 + i) % 2 ^ 32)) || later (s.mirrorRec mir ((q + 1 + i) % 2 ^ 32)))

/-- Boot ends in HALTED with ERROR 0x08; the device stays in the kettle state (R45). -/
def State.journalHalt (s : State) : State := ((s.p F.LCS_BOOTSTAT_STAGE 8).p F.LCS_BOOTSTAT_ERROR 8).kettleHalt

/-- The probe of R348: FRAM is in service when the word read back is the complement of the one found. -/
def State.probe (s : State) (present : Bool) : State :=
  if present then
    (s.framWr 0x200 (leBytes 4 (0xFFFFFFFF - leNat (s.framRd 0x200 4)))).p F.JRN_STAT_FRAMOK 1
  else (s.p F.JRN_STAT_FRAMOK 0).raise 3 1 3 .b 1

/-- Replay from a header (R354). -/
def State.replayFrom (s : State) (h : Header) (fram mir framUsed : Bool) : State :=
  let c := s.scanRecs fram mir 4096 { last := h.tail }
  if s.pastEnd fram mir c.last then s.journalHalt
  else
    let torn := s.tornAt fram c.last
    let used := c.mirror || !fram
    let s1 := ((((s.p F.JRN_SEQ_SEQ c.last).p F.JRN_TAILSEQ_SEQ h.tail).p F.JRN_STAT_TORN torn.toNat).p F.JRN_STAT_MERGE c.merge.toNat).p
      F.JRN_STAT_MIRRUSED used.toNat
    let s2 := if torn then s1.raise 3 4 0 .a else s1
    let s3 := if c.merge then s2.raise 3 5 0 .a else s2
    { s3 with jrn := { s3.jrn with live := c.recs, found := some {
        epoch := h.epoch, sealed := h.sealed, sealEpoch := h.sealEpoch, sdel := h.sdel, valid := h.valid, framUsed := framUsed,
        blank := false, fresh := false } } }

/-- A blank journal (R357): made afresh in BLANK and MAKER, uninitialised in any other state. -/
def State.replayBlank (s : State) : State :=
  { s with jrn := { s.jrn with live := [], found := some {
      epoch := 0, sealed := false, sealEpoch := 0, sdel := List.replicate 8 0, valid := List.replicate 8 0, framUsed := true,
      blank := true, fresh := s.lifecycle = lcBLANK || s.lifecycle = lcMAKER } } }

/-- JOURNAL_REPLAY (R354): the probe, the headers, the mirror's use, the records.  present tells whether a FRAM answers on P-JRN. -/
def execJournalReplay (present : Bool) (s : State) : Host.Outcome State Fault Refusal :=
  if s.g F.LCS_BOOTSTAT_STAGE = 5 && s.g F.JRN_STAT_STATE = jREPLAY && s.jrn.found.isNone && s.jrn.endAt.isNone then
    let s1 := (s.clearEpochs.probe present).p F.JRN_STAT_MIRROK 1
    let chosen := if present then laterHead (s1.framHead 0) (s1.framHead 1) else none
    match chosen, s1.mirrorHead with
    | some h, some m => done (s1.replayFrom h true (m.epoch = h.epoch) true)
    | some h, none => done (s1.replayFrom h true false true)
    | none, mh =>
      if present then
        if (List.range 4096).any (fun i => recOk (s1.framRd (0x1000 + 32 * i) 32)) then done s1.journalHalt else done s1.replayBlank
      else match mh with
        | some m => done (s1.replayFrom m false true false)
        | none => done s1.journalHalt
  else .next s

/-! ### Classes and the report (R355, R356) -/

/-- The class of a folio by its last record (R355). -/
inductive RepClass where
  | delivered | unsewn | inFlight | stranded | aborted
  deriving DecidableEq, Repr

def JRec.cls (r : JRec) : RepClass :=
  if r.type = 5 then .delivered
  else if r.type = 1 then .unsewn
  else if r.type = 6 then (if r.stranded then .stranded else if r.aux % 256 = 0x0C then .aborted else .inFlight)
  else .inFlight

/-- Inserts an FSN in serial order, once. -/
def insertFsn (a : Nat) : List Nat → List Nat
  | [] => [a]
  | b :: t => if a = b then b :: t else if precedes a b then a :: b :: t else b :: insertFsn a t

/-- The FSNs of a stream with records, in serial order. -/
def fsnsOf (n : Nat) (l : List JRec) : List Nat := l.foldl (fun a r => if r.stream = n then insertFsn r.fsn a else a) []

/-- The FSNs of a stream whose last record is of a class. -/
def lastIn (n : Nat) (c : RepClass) (l : List JRec) : List Nat :=
  (fsnsOf n l).filter (fun f => match lastOf n f l with | some r => r.cls == c | none => false)

/-- The FSNs of a stream in a class: the last record counts from an ACCEPT of the FSN on (R355). -/
def inClass (n : Nat) (c : RepClass) (l : List JRec) : List Nat :=
  (lastIn n c l).filter (fun f => l.any (fun r => r.stream == n && r.fsn == f && r.type == 1))

/-- An FSN in flight by its records whose sheet had reached the diverter when the device was reset is reported STRANDED (R88, R90; log 68). -/
def State.classed (s : State) (n : Nat) (c : RepClass) (l : List JRec) : List Nat :=
  let past := fun x => s.gath.pastGate.contains (n, x) && (inClass n .inFlight l).contains x
  match c with
  | .inFlight => (inClass n .inFlight l).filter (fun x => !past x)
  | .stranded => (fsnsOf n l).filter (fun x => (inClass n .stranded l).contains x || past x)
  | c => inClass n c l

/-- Ranges of consecutive FSNs (R356). -/
def rangesOf : List Nat → List (Nat × Nat)
  | [] => []
  | a :: t => match rangesOf t with
    | (lo, hi) :: r => if succ32 a = lo then (a, hi) :: r else (a, a) :: (lo, hi) :: r
    | [] => [(a, a)]

/-- The later of two FSNs. -/
def laterFsn (a b : Nat) : Nat := if precedes a b then b else a

/-- SDEL_n at the end of replay (R355). -/
def sdelOf (f : Found) (n : Nat) (l : List JRec) : Nat :=
  let d := (l.filter (fun r => r.stream == n && r.type == 5)).map (fun r => r.fsn)
  let h := (f.sdel[n]?).getD 0
  match d with
  | [] => h
  | x :: t => let m := t.foldl laterFsn x; if (f.valid[n]?).getD 0 = 1 && h ≠ 0 then laterFsn h m else m

/-- The latest FSN of a stream whose account is closed (R87). -/
def closedOf (n sdel : Nat) (valid : Bool) (l : List JRec) : Option Nat :=
  let ab := lastIn n .aborted l ++ lastIn n .delivered l
  match ab with
  | [] => if valid && sdel ≠ 0 then some sdel else none
  | x :: t => let m := t.foldl laterFsn x; some (if valid && sdel ≠ 0 then laterFsn sdel m else m)

/-- The registers of a stream after replay (R87); sheets in flight at the reset are purged by the path run of R80 (R88). -/
def State.setStreams (s : State) (f : Found) : State :=
  let l := s.jrn.live
  forRange 0 8 (fun n a =>
    let sdel := sdelOf f n l
    let valid := (f.valid[n]?).getD 0 = 1 || !(fsnsOf n l).isEmpty
    let fl := s.classed n .inFlight l
    let un := s.classed n .unsewn l
    let strd := s.classed n .stranded l
    let s1 := a.modStream n (fun _ =>
      { awaiting := fl ++ un, inFlight := fl, closed := closedOf n sdel valid l
        stranded := strd.map (fun x => (x, match lastOf n x l with | some r => if r.type = 6 then some (r.aux % 256) else none | none => none))
        recorded := valid
        tries := (fl ++ un ++ strd).map (fun x => (x, match lastOf n x l with | some r => r.try_ | none => 1)) })
    let s2 := (((s1.p (F.GATH_SDEL_FSN n) sdel).p (F.GATH_SSTAT_VALID n) valid.toNat).setStreamState n (if strd.isEmpty then stRUN else stSTRAND))
    let s3 := s2.p (F.GATH_SNEXT_FSN n) (if valid then s2.nextExpected n else 0)
    { s3 with gath := { s3.gath with runPending := s3.gath.runPending || !fl.isEmpty } }) s

/-- The report's entries but END (R356, R357). -/
def State.reportEntries (s : State) (f : Found) (old : Nat) : List RepEntry :=
  let flags := f.framUsed.toNat + 2 * (s.g F.JRN_STAT_MIRRUSED) + 4 * (s.g F.JRN_STAT_TORN) + 8 * (s.g F.JRN_STAT_MERGE)
    + 16 * f.sealed.toNat + 32 * f.fresh.toNat
  let e := s.g F.JRN_EPOCH_EPOCH
  let rng := fun (n kind : Nat) (l : List Nat) => (rangesOf l).map (fun x => RepEntry.mk x.1 x.2 kind n 0)
  ⟨e, old, 1, 0, flags⟩ :: (List.range 8).flatMap (fun n =>
    let l := s.jrn.live
    ⟨s.g (F.GATH_SDEL_FSN n), s.g (F.GATH_SNEXT_FSN n), 2, n,
      s.g (F.GATH_SSTAT_VALID n) + 2 * (s.streamState n == stSTRAND).toNat⟩
      :: ((s.classed n .stranded l).map (fun x => RepEntry.mk x x 3 n 0)
        ++ rng n 4 (s.classed n .inFlight l) ++ rng n 5 (s.classed n .unsewn l) ++ rng n 6 (s.classed n .aborted l)))

/-- The 16 bytes of a report entry (R356). -/
def RepEntry.bytes (r : RepEntry) (index : Nat) : List Nat :=
  leBytes 4 r.a ++ leBytes 4 r.b ++ [r.kind, r.stream] ++ leBytes 2 r.flags ++ leBytes 4 index

/-- The bytes of entries from an index on. -/
def reportBytes : (index : Nat) → List RepEntry → List Nat
  | _, [] => []
  | i, r :: t => r.bytes i ++ reportBytes (i + 1) t

/-- The whole report, END included (R356). -/
def State.fullReport (s : State) (f : Found) (old : Nat) : List RepEntry :=
  let l := s.reportEntries f old
  l ++ [⟨l.length + 1, crc32c (reportBytes 0 l), 7, 0, 0⟩]

/-- The mirror rebuilt from the records of the account (R354). -/
def State.rebuildMirror (s : State) : State := s.jrn.live.foldl (fun a r => a.wrBytes (mirrorSlot r.seq) (r.bytes 0xC3)) s

/-- REPLAY_COMPLETE (R355): the epoch, the stream registers, the header, the marks and the report. -/
def execReplayComplete (s : State) : Host.Outcome State Fault Refusal :=
  match s.jrn.found with
  | none => .next s
  | some f =>
    let uninit := f.blank && !f.fresh
    let s1 := { s with jrn := { s.jrn with found := none, posted24 := 0, posted25 := 0, endPosted := false } }
    let s2 := (s1.p F.JRN_EPOCH_EPOCH (if uninit then 0 else succ32 f.epoch)).p F.JRN_SEALEPOCH_EPOCH (if f.sealed then f.sealEpoch else 0)
    let s3 := s2.p F.JRN_STAT_STATE (if uninit then jUNINIT else if s.lifecycle = lcRETURNED then jFROZEN else if f.sealed then jSEALED else jOPEN)
    let s4 := (s3.setStreams f).rebuildMirror
    let s5 := { s4 with jrn := { s4.jrn with report := s4.fullReport f (if uninit then 0 else f.epoch) } }
    let s6 := { s5 with jrn := { s5.jrn with live := dropDead s5.jrn.live s5.jrn.live } }
    done (if uninit then s6.latchAll else if f.fresh then s6.headersFresh.latchAll.postMarks else s6.headerWrite.latchAll.postMarks)

/-- A stream ring is configured as R27 and R29 require (R41). -/
def State.streamRingOk (s : State) (n : Nat) : Bool :=
  (s.g (F.TCE_QCFG_PROD n) == 1 || (s.g (F.TCE_QCFG_PROD n) == 2 && s.hosts == 2)) && s.g (F.TCE_QCFG_CONS n) == 5 && s.g (F.TCE_QCFG_ESIZE n) == 2
    && s.regionOk n

/-- GATH enables the configured stream rings (R41). -/
def State.enableStreams (s : State) : State :=
  forRange 0 8 (fun n a => if !a.ringEn n && a.streamRingOk n then a.p (F.TCE_QCFG_EN n) 1 else a) s

/-- Posts the next entry of the report on one ring, where it can. -/
def State.reportTo (s : State) (q at_ : Nat) : Nat × State :=
  match s.jrn.report[at_]? with
  | some r => if s.ringEn q && !s.ringFull q then (at_ + 1, s.ringPutC q (r.bytes at_)) else (at_, s)
  | none => (at_, s)

/-- REPORT_POST (R356): the next entry on each of Q24 and Q25 that is enabled; with END posted on every such ring, GATH enables the stream rings
and STAGE reads Ready (R41). -/
def execReportPost (s : State) : Host.Outcome State Fault Refusal :=
  if s.jrn.report.isEmpty || s.jrn.endPosted then .next s
  else
    let r1 := s.reportTo 24 s.jrn.posted24
    let r2 := r1.2.reportTo 25 s.jrn.posted25
    let s1 := { r2.2 with jrn := { r2.2.jrn with posted24 := r1.1, posted25 := r2.1 } }
    let n := s.jrn.report.length
    if (!s.ringEn 24 || r1.1 = n) && (!s.ringEn 25 || r2.1 = n) then
      done (({ s1 with jrn := { s1.jrn with endPosted := true } }.enableStreams).p F.LCS_BOOTSTAT_STAGE 6)
    else done s1

/-! ### Reading slots (R348) -/

/-- A fetch ends: RDATA holds the slot as stored, zeros of a FRAM out of service, and DONE sets. -/
def State.fetchDone (s : State) (v : Nat) : State :=
  let slot := bits v 11 0
  let b := if bit v 31 then s.rdBytes (mirrorBase + 0x100 + 32 * slot) 32
    else if s.on F.JRN_STAT_FRAMOK then s.framRd (0x1000 + 32 * slot) 32 else List.replicate 32 0
  let s1 := { s with jrn := { s.jrn with fetching := none } }.p F.JRN_RIDX_DONE 1
  let s2 := if !bit v 31 && s.on F.JRN_STAT_FRAMOK then s1.bwAdd 9 32 else s1
  forRange 0 8 (fun k a => a.setWord .JRN_RDATA 0 k (leNat ((b.drop (4 * k)).take 4))) s2

/-- A write of JRN.RIDX: a slot the source does not have is reserved; DONE clears and the fetch starts, which ends at once with FRAM out of service. -/
def State.ridxWrite (s : State) (q : Requester) (v : Nat) : State :=
  if bit v 31 && 2040 ≤ bits v 11 0 then s.unitFault .JRN 0 q cRESERVED_ENC
  else
    let s1 := s.setWord .JRN_RIDX 0 0 (v % 4096 + 2 ^ 31 * bits v 31 31)
    if !bit v 31 && !s.on F.JRN_STAT_FRAMOK then s1.fetchDone v else { s1 with jrn := { s1.jrn with fetching := some v } }

/-- RIDX_WRITE (R348). -/
def execRidxWrite (q : Requester) (v : Nat) (s : State) : Host.Outcome State Fault Refusal := s.gate q (done (s.ridxWrite q v))

/-- RIDX_FETCH_DONE (R348). -/
def execRidxFetchDone (s : State) : Host.Outcome State Fault Refusal :=
  match s.jrn.fetching with
  | none => .next s
  | some v => done (s.fetchDone v)

end Sys2Proof.Machine
end

