-- ==== Sys2Proof/Machine/Collect.lean ====
section
/-! DEFINITION. The fault collector's commands (R331 to R345) and the check-value units (R326 to R329). -/

namespace Sys2Proof.Machine

/-! ### Sources and events (R331, R334) -/

/-- A source that can be raised: neither reserved nor of an absent resource (R331). -/
def State.sourceExists (s : State) (i : Nat) : Bool :=
  if i < 18 then true
  else if i < 30 then true
  else if i < 32 then i - 30 < s.hosts
  else if i < 34 then i - 32 < s.hosts
  else if i < 40 then false
  else if i < 64 then s.hasCore (i - 40)
  else if i < 68 then i - 64 < s.blockCount .STR
  else if i < 74 then i - 68 < s.blockCount .SYN
  else if i < 82 then i - 74 < s.blockCount .HYW
  else if i < 90 then i - 82 < s.blockCount .MOT
  else if i < 102 then i - 90 < s.blockCount .STP
  else if i < 114 then i - 102 < s.blockCount .HV
  else if i < 116 then i - 114 < s.blockCount .FUS
  else 128 ≤ i && i < 192

/-- FAULT_EVENT (R334): a unit's event with its class, its reason on kettle entry (R333), and the folios that the unit's rule spoils; a port's of class B or C spoils the
port's as well (R242, R266, R275). -/
def execFaultEvent (source code detail : Nat) (cls : Cls) (reason : Nat) (folios : List (Nat × Nat)) (s : State) :
    Host.Outcome State Fault Refusal :=
  if s.sourceExists source && code < 256 && detail < 256 && 1 ≤ reason && reason ≤ 0x0C then
    let hit : Folio → Bool := fun f => folios.contains (f.desc.stream, f.desc.fsn)
    done ((s.raisePort ⟨source, code, detail, cls, reason, s.firstHit hit false, false⟩).spoilWhere hit reason)
  else .next s

/-- An unacknowledged class-B record whose deadline has come is ESCALATED, and the device enters the kettle state (R335). -/
def State.escalate (s : State) (k : Nat) : State :=
  let r := vget s.fcl.hist k
  if r.outstanding && r.cls = .b && !r.escalated && r.deadline ≤ s.now then
    (s.modHist k (fun x => { x with escalated := true })).noteDue ⟨r.source, r.code, r.reason⟩
  else s

/-- CLASSB_DEADLINE (R335). -/
def execClassbDeadline (k : Nat) (s : State) : Host.Outcome State Fault Refusal := if k < 16 then done (s.escalate k) else .next s

/-- An acknowledgement (R337): refused unless the record is outstanding and carries the SEQ.  One that does not come before the tick of the deadline
finds the record escalated (R335). -/
def State.ack (s : State) (index seq : Nat) : State :=
  let r := vget s.fcl.hist index
  if r.outstanding && r.seq % 256 = seq then (s.escalate index).modHist index (fun x => { x with outstanding := false }) else s.raise 0 3 1 .a

/-- FCL_ACK (R337). -/
def execFclAck (index seq : Nat) (s : State) : Host.Outcome State Fault Refusal := done (s.ack (index % 16) (seq % 256))

def Cls.ofCode : Nat → Cls
  | 0 => .a
  | 1 => .b
  | _ => .c

/-- One forced source (R340): a firmware source raises what SRCCFG holds, any other FORCED with what CTRL holds. -/
def State.forceOne (s : State) (q : Requester) (i : Nat) : State :=
  if !s.sourceExists i then s
  else if 128 ≤ i then
    let j := i - 128
    s.raisePort ⟨i, s.g (F.FCL_SRCCFG_CODE j), q.detail, Cls.ofCode (s.g (F.FCL_SRCCFG_CLASS j)), s.g (F.FCL_SRCCFG_REASON j), none, false⟩
  else s.raisePort ⟨i, cFORCED, q.detail, Cls.ofCode (s.g F.FCL_CTRL_FCLASS), s.g F.FCL_CTRL_FREASON, none, true⟩

/-- A write of FCL.FORCEk (R340): its events are recorded in ascending source order (R334), and its bits clear. -/
def State.forceWrite (s : State) (q : Requester) (k v : Nat) : State :=
  forRange 0 32 (fun j a => if bit v j then a.forceOne q (32 * k + j) else a) s

/-- FCL_FORCE (R340). -/
def execFclForce (q : Requester) (k v : Nat) (s : State) : Host.Outcome State Fault Refusal :=
  s.gate q (if k < 8 then done (s.forceWrite q k v) else .next s)

/-- A write of FCL.RINGCFG (R339). -/
def State.ringcfgWrite (s : State) (q : Requester) (v : Nat) : State :=
  let ring := bits v 22 16
  if ring < 96 || 111 < ring then s.unitFault .FCL 0 q cRESERVED_ENC
  else if bit v 31 && (!s.on F.FCL_RINGCFG_EN || ring != s.g F.FCL_RINGCFG_RING) && !(s.ringEn ring && s.g (F.TCE_QCFG_PROD ring) == 6) then
    s.unitFault .FCL 0 q cSTATE_REFUSED
  else ((s.p F.FCL_RINGCFG_EN (bits v 31 31)).p F.FCL_RINGCFG_RING ring).fclMark

/-- RINGCFG_WRITE (R339). -/
def execRingcfgWrite (q : Requester) (v : Nat) (s : State) : Host.Outcome State Fault Refusal := s.gate q (done (s.ringcfgWrite q v))

/-- A write of FCL.KPADk: refused in the kettle state; a write that leaves EN at 1 must name a claimable pad of a ball present (R343). -/
def State.kpadWrite (s : State) (q : Requester) (k v : Nat) : State :=
  if s.on F.FCL_STAT_KETTLE then s.unitFault .FCL 0 q cSTATE_REFUSED
  else if bit v 31 && !(ridClass (bits v 15 0) == 1 && s.ridExists (bits v 15 0)) then s.unitFault .FCL 0 q cRESERVED_ENC
  else ((s.p (F.FCL_KPAD_EN k) (bits v 31 31)).p (F.FCL_KPAD_LEVEL k) (bits v 30 30)).p (F.FCL_KPAD_RID k) (bits v 15 0)

/-! ### The collector's own faults (R341, R342) -/

def State.copyA (s : State) : Bool := !s.fcl.retiredA
def State.copyB (s : State) : Bool := !s.is4820 && !s.fcl.retiredB

/-- A copy leaves service; the event joins the oldest outstanding record as SECONDARY, or is recorded (R341). -/
def State.retireCopy (s : State) (copy : Nat) : State :=
  let s1 := { s with fcl := if copy = 1 then { s.fcl with retiredA := true } else { s.fcl with retiredB := true } }
  match s1.oldestOutstanding with
  | some i => s1.modHist i (fun r => { r with secondary := true })
  | none => s1.raise 0 1 copy .a

/-- FCL_SELF (R341, R342): an ECC error or a disagreement with one in a copy (1 A, 2 B), or a disagreement with none (3). -/
def execFclSelf (copy : Nat) (s : State) : Host.Outcome State Fault Refusal :=
  if s.copyA && s.copyB then
    if copy = 1 || copy = 2 then done (s.retireCopy copy) else if copy = 3 then done (s.raise 0 1 3 .c 1) else .next s
  else if (copy = 1 && s.copyA) || (copy = 2 && s.copyB) then done (s.raise 0 1 copy .c 1)
  else .next s

/-! ### Leaving the kettle state (R345) -/

/-- Outstanding records. -/
def State.outstanding (s : State) : Nat := (s.fcl.hist.toList.filter (fun r => r.outstanding)).length

/-- PSQ is ON or RUNNING. -/
def State.psqUp (s : State) : Bool := s.g F.PSQ_STAT_STATE == 1 || s.g F.PSQ_STAT_STATE == 2

/-- The conditions of R345. -/
def State.mayLeave (s : State) : Bool :=
  s.outstanding == 0 && !s.on F.THM_STAT_SHUT && s.psqUp && s.synState 0 == syLOCKED && s.on F.CORD_STAT_RUN && s.on F.JRN_STAT_FLUSHED
    && (List.range 8).all (fun n => s.g (F.MOT_STAT_STATE n) != mZT && s.g (F.MOT_STAT_STATE n) != mASC)

/-- The kettle state ends: the gating is released, and the path is to run before any sewing point is fixed (R80, R345). -/
def State.kettleLeave (s : State) : State :=
  let s1 := (s.p F.FCL_STAT_KETTLE 0).traceEv 0 0x0A 0 (s.g F.FCL_STAT_KSRC * 256 + s.g F.FCL_STAT_KCODE)
  let s2 := forRange 0 12 (fun k a => a.p (F.HV_STAT_KETTLE k) 0) s1
  let s3 := forRange 0 2 (fun f a => a.p (F.FUS_STAT_KETTLE f) 0) s2
  { s3 with gath := { s3.gath with runPending := true } }

/-- A write of FCL.KCMD (R345): another KEY discards the write. -/
def State.kcmdWrite (s : State) (v : Nat) : State :=
  if bits v 31 24 ≠ 0x4B || !bit v 0 || !s.on F.FCL_STAT_KETTLE then s
  else if s.mayLeave then s.kettleLeave else s.raise 0 3 2 .a

/-- LEAVE (R345): a write of FCL.KCMD with LEAVE = 1 and a KEY. -/
def execLeave (key : Nat) (s : State) : Host.Outcome State Fault Refusal := done (s.kcmdWrite (key % 256 * 2 ^ 24 + 1))

/-! ### Check-value units (R326 to R329) -/

def State.ckuW (s : State) (n : Nat) : Nat := s.g (F.CKU_CFG_WIDTH n)
def State.ckuPoly (s : State) (n : Nat) : Nat := s.g (F.CKU_POLY_LO_P n) + 2 ^ 32 * s.g (F.CKU_POLY_HI_P n)
def State.ckuInit (s : State) (n : Nat) : Nat := s.g (F.CKU_INIT_LO_V n) + 2 ^ 32 * s.g (F.CKU_INIT_HI_V n)
def State.ckuRun (s : State) (n : Nat) : Nat := s.g (F.CKU_RUN_LO_R n) + 2 ^ 32 * s.g (F.CKU_RUN_HI_R n)
def State.setCkuRun (s : State) (n v : Nat) : State := (s.p (F.CKU_RUN_LO_R n) v).p (F.CKU_RUN_HI_R n) (v / 2 ^ 32)

/-- Bytes into the running register, in order (R326, R328). -/
def State.ckuBytes (s : State) (n : Nat) (bs : List Nat) : State :=
  s.setCkuRun n (bs.foldl (crcByte (s.ckuW n) (s.ckuPoly n) (s.on (F.CKU_CFG_REFIN n))) (s.ckuRun n))

/-- The output value (R326). -/
def State.ckuOut (s : State) (n : Nat) : Nat := crcOut (s.ckuW n) (s.on (F.CKU_CFG_REFOUT n)) (s.on (F.CKU_CFG_FINV n)) (s.ckuRun n)

/-- A preset's width, polynomial, initial value, REFIN, REFOUT, FINV (R327). -/
def ckuPreset : Nat → Option (Nat × Nat × Nat × Nat × Nat × Nat)
  | 1 => some (32, 0x1EDC6F41, 0xFFFFFFFF, 1, 1, 1)
  | 2 => some (16, 0x1021, 0xFFFF, 0, 0, 0)
  | 3 => some (64, 0x42F0E1EBA9EA3693, 0, 0, 0, 0)
  | 4 => some (8, 0x07, 0, 0, 0, 0)
  | _ => none

/-- The parameters in force. -/
def State.ckuParams (s : State) (n : Nat) : Nat × Nat × Nat × Nat × Nat × Nat :=
  (s.ckuW n, s.ckuPoly n, s.ckuInit n, s.g (F.CKU_CFG_REFIN n), s.g (F.CKU_CFG_REFOUT n), s.g (F.CKU_CFG_FINV n))

/-- PRESET as it reads: the preset whose parameters equal those in force, or 0 (R327). -/
def State.ckuPresetNow (s : State) (n : Nat) : Nat := ([1, 2, 3, 4].find? (fun k => ckuPreset k == some (s.ckuParams n))).getD 0

/-- A write of a bound unit's context or data is refused (R330). -/
def State.ckuBound (s : State) (n : Nat) : Bool := s.on (F.CKU_BIND_EN n)

def State.ckuStart (s : State) (n : Nat) : State := s.setCkuRun n (s.ckuInit n)

/-- A write of CKUn.CTRL: a unit reset, or START. -/
def State.ckuCtrlWrite (s : State) (n v : Nat) : State :=
  if bit v 31 then s.resetBlock .CKU n else if bit v 30 then s.ckuStart n else s

/-- START (R326). -/
def execStart (n : Nat) (s : State) : Host.Outcome State Fault Refusal := if n < 8 then done (s.ckuCtrlWrite n (2 ^ 30)) else .next s

def State.ckuDin (s : State) (q : Requester) (n : Nat) (bs : List Nat) : State :=
  if s.ckuBound n then s.unitFault .CKU n q cSTATE_REFUSED else s.ckuBytes n bs

/-- DIN32 (R328): the word's four bytes, [7:0] first. -/
def execDin32 (q : Requester) (n v : Nat) (s : State) : Host.Outcome State Fault Refusal :=
  s.gate q (if n < 8 then done (s.ckuDin q n (leBytes 4 v)) else .next s)

/-- DIN8 (R328). -/
def execDin8 (q : Requester) (n v : Nat) (s : State) : Host.Outcome State Fault Refusal :=
  s.gate q (if n < 8 then done (s.ckuDin q n [v % 256]) else .next s)

/-- A write of CKUn.CFG (R327): a preset loads every parameter; without one the width must be 3 to 64. -/
def State.ckuCfgWrite (s : State) (q : Requester) (n v : Nat) : State :=
  if s.ckuBound n then s.unitFault .CKU n q cSTATE_REFUSED
  else
    let k := bits v 31 28
    if k = 0 then
      if bits v 22 16 < 3 || 64 < bits v 22 16 then s.unitFault .CKU n q cRESERVED_ENC
      else (((s.p (F.CKU_CFG_WIDTH n) (bits v 22 16)).p (F.CKU_CFG_REFIN n) (bits v 2 2)).p (F.CKU_CFG_REFOUT n) (bits v 1 1)).p
        (F.CKU_CFG_FINV n) (bits v 0 0)
    else
      match ckuPreset k with
      | none => s.unitFault .CKU n q cRESERVED_ENC
      | some (w, p, i, ri, ro, fi) =>
        let s1 := (((s.p (F.CKU_CFG_WIDTH n) w).p (F.CKU_CFG_REFIN n) ri).p (F.CKU_CFG_REFOUT n) ro).p (F.CKU_CFG_FINV n) fi
        (((s1.p (F.CKU_POLY_LO_P n) p).p (F.CKU_POLY_HI_P n) (p / 2 ^ 32)).p (F.CKU_INIT_LO_V n) i).p (F.CKU_INIT_HI_V n) (i / 2 ^ 32)

/-- CKU_CFG_WRITE (R327). -/
def execCkuCfgWrite (q : Requester) (n v : Nat) (s : State) : Host.Outcome State Fault Refusal :=
  s.gate q (if n < 8 then done (s.ckuCfgWrite q n v) else .next s)

/-- A committed 64-bit pair of a unit (R14, R329): POLY and INIT with a bit at or above w are reserved. -/
def State.ckuPairWrite (s : State) (q : Requester) (n : Nat) (hi : FieldRef) (lo : FieldRef) (v : Nat) (judged : Bool) : State :=
  if s.ckuBound n then s.unitFault .CKU n q cSTATE_REFUSED
  else if judged && 2 ^ s.ckuW n ≤ v then s.unitFault .CKU n q cRESERVED_ENC
  else (s.p lo v).p hi (v / 2 ^ 32)

/-- A write of CKUn.BIND (R330): EN is refused while another unit is bound to the channel or the channel is ACTIVE. -/
def State.ckuBindWrite (s : State) (q : Requester) (n v : Nat) : State :=
  let c := bits v 3 0
  if bit v 31 && ((List.range 8).any (fun m => m != n && s.ckuBound m && s.g (F.CKU_BIND_CHANNEL m) == c)
      || s.g (F.DMA_CHSTAT_STATE c) == dACTIVE) then
    s.unitFault .CKU n q cSTATE_REFUSED
  else ((s.p (F.CKU_BIND_EN n) (bits v 31 31)).p (F.CKU_BIND_MODE n) (bits v 30 30)).p (F.CKU_BIND_CHANNEL n) c

end Sys2Proof.Machine
end

