-- ==== Sys2Proof/Machine/Observe.lean ====
section
/-! DEFINITION. OBS's commands (R405 to R420): the host enable, counters, bandwidth windows, trace records and where they leave. -/

namespace Sys2Proof.Machine

/-- OBS_DENIED (R405, R406, R420). -/
def State.obsDenied (s : State) (q : Requester) : State := s.raise 11 1 q.detail .a

/-- What clearing HOSTEN in FIELD clears (R406); the fixed counters keep their counts. -/
def State.obsClear (s : State) : State :=
  let s1 := forRange 0 64 (fun k a => ((a.p (F.OBS_EVSEL_EN k) 0).setObsCount k 0)) s
  let s2 := forRange 0 14 (fun p a => (a.setWord .OBS_BWLAST 0 p 0).setWord .OBS_BWPEAK 0 p 0) s1
  let s3 := forRange 0 24 (fun n a => (a.setWord .OBS_SAMP_PC 0 n 0).setWord .OBS_SAMP_INFO 0 n 0) s2
  let s4 := ((((s3.p F.OBS_CTRL_RUN 0).p F.OBS_BWCFG_EN 0).p F.OBS_TRCCFG_PORT 0).p F.OBS_TRCCFG_MEM 0).p F.OBS_TRCCFG_ICORES 0
  { (s4.setWord .OBS_UACC 0 0 0).setWord .OBS_EVTMASK 0 0 0 with obs := { s4.obs with fifo := [], dropped := 0, bw := Vector.replicate 14 0, bwAt := none } }

def Requester.isEndpoint : Requester → Bool
  | .host _ => true
  | _ => false

/-- A write of OBS.HOSTEN (R406). -/
def State.hostenWrite (s : State) (q : Requester) (v : Nat) : State :=
  if !q.isEndpoint then s.obsDenied q
  else
    let s1 := s.p F.OBS_HOSTEN_EN (v % 2)
    if s.on F.OBS_HOSTEN_EN && v % 2 = 0 && s.lifecycle = lcFIELD then s1.obsClear else s1

/-- HOSTEN_WRITE (R406). -/
def execHostenWrite (q : Requester) (v : Nat) (s : State) : Host.Outcome State Fault Refusal := s.gate q (done (s.hostenWrite q v))

/-- OBS_RUN_WRITE (R408): every enabled counter starts or stops together. -/
def execObsRunWrite (q : Requester) (run : Bool) (s : State) : Host.Outcome State Fault Refusal :=
  s.gate q (if s.obsLevel = 0 then done (s.obsDenied q) else done (s.p F.OBS_CTRL_RUN run.toNat))

/-- COUNTER_WRAP (R408, R411): an enabled counter passes 2^48 - 1. -/
def execCounterWrap (k : Nat) (s : State) : Host.Outcome State Fault Refusal :=
  if k < 64 && s.obsLevel ≠ 0 && s.on F.OBS_CTRL_RUN && s.on (F.OBS_EVSEL_EN k) then done ((s.setObsCount k 0).obsWrap k) else .next s

/-- BW_WINDOW_EDGE (R413): at a multiple of WINDOW microseconds of cord time; the window's units are readable 1 us later. -/
def execBwWindowEdge (s : State) : Host.Outcome State Fault Refusal :=
  if s.on F.OBS_BWCFG_EN && s.obsLevel ≠ 0 && s.now % (s.g F.OBS_BWCFG_WINDOW * usTicks) = 0 then
    done { s with obs := { s.obs with bw := Vector.replicate 14 0, bwAt := some (s.now + usTicks), bwUnits := s.obs.bw.map (· / 16) } }
  else .next s

/-- The units of the last window become readable, and BWPEAK follows (R413). -/
def State.bwPublish (s : State) : State :=
  match s.obs.bwAt with
  | some t =>
    if t ≤ s.now then
      let s1 := forRange 0 14 (fun p a =>
        let u := vget s.obs.bwUnits p
        (a.setWord .OBS_BWLAST 0 p u).setWord .OBS_BWPEAK 0 p (max (a.word .OBS_BWPEAK 0 p) u)) s
      { s1 with obs := { s1.obs with bwAt := none } }
    else s
  | none => s

/-- A write of OBS.BWCFG (R413): a changed WINDOW restarts every window and zeroes BWLAST. -/
def State.bwcfgWrite (s : State) (q : Requester) (v : Nat) : State :=
  let w := bits v 19 0
  if w = 0 || 1000000 < w then s.unitFault .OBS 0 q cRESERVED_ENC
  else
    let s1 := (s.p F.OBS_BWCFG_EN (bits v 31 31)).p F.OBS_BWCFG_WINDOW w
    if w = s.g F.OBS_BWCFG_WINDOW then s1
    else { forRange 0 14 (fun p a => a.setWord .OBS_BWLAST 0 p 0) s1 with obs := { s1.obs with bw := Vector.replicate 14 0, bwAt := none } }

/-- The INST values of an event are 0 to one less than this (R409); 0 for an event that is not listed. -/
def obsInstances (event : Nat) : Nat :=
  if 1 ≤ event && event ≤ 6 then 24
  else if event = 0x10 || event = 0x11 then 128
  else if event = 0x20 || event = 0x21 then 16
  else if event = 0x28 || event = 0x29 then 2
  else if event = 0x2A || event = 0x2B then 4
  else if 0x30 ≤ event && event ≤ 0x33 then 4
  else if event = 0x38 || event = 0x39 then 8
  else if event = 0x3A then 12
  else if 0x40 ≤ event && event ≤ 0x42 then 8
  else if event = 0x43 then 2
  else if event = 0x48 || event = 0x49 then 1
  else if event = 0x50 then 3
  else if event = 0x58 then 7
  else 0

/-- An EVSEL word that is no reserved encoding (R409, R411). -/
def State.evselOk (s : State) (v : Nat) : Bool :=
  let n := obsInstances (bits v 23 16)
  n != 0 && (bits v 15 8 < n || bits v 15 8 == 0xFF)
    && (!bit v 29 || (s.hasCore (bits v 28 24) && s.g (F.TCE_CSTAT_STATE (bits v 28 24)) != 4 && s.g (F.TCE_CSTAT_STATE (bits v 28 24)) != 5))

/-- TRACE_RECORD (R415 to R417): a record is made, and enters the FIFO or is dropped.  Types: 0 EVENT, 1 BRANCH, 2 TARGET. -/
def execTraceRecord (stamp origin code aux type data : Nat) (s : State) : Host.Outcome State Fault Refusal :=
  if type = 0 then done (if s.traceOn && (code = 0 || (code ≤ 12 && bit (s.word .OBS_EVTMASK 0 0) code)) then
      s.tracePush (traceBytes stamp origin code aux 0 data) else s)
  else if (type = 1 || type = 2) && 40 ≤ origin && origin < 64 && s.insTraced (origin - 40) then
    done (s.tracePush (traceBytes stamp origin code aux type data))
  else .next s

/-- Record slots of the page-store buffer (R419). -/
def State.bufSlots (s : State) : Nat := s.g F.OBS_BUFSIZE_PAGES * 256

/-- The buffer takes no further record: it does not wrap and is full (R419). -/
def State.bufFull (s : State) : Bool := !s.on F.OBS_TRCCFG_WRAP && s.bufSlots ≤ s.word .OBS_BUFWP 0 0

def State.bufBase (s : State) : Nat := s.g F.OBS_BUFBASE_LO_ADDR + 2 ^ 32 * s.g F.OBS_BUFBASE_HI_ADDR

/-- A record into the buffer (R419): an error answer clears MEM and raises OBS_BUF; a full buffer drops it. -/
def State.toBuffer (s : State) (rec : List Nat) (err : Bool) : State :=
  if !s.on F.OBS_TRCCFG_MEM then s
  else if s.bufFull then s.traceDrop
  else if err || !s.pageUp then (s.p F.OBS_TRCCFG_MEM 0).raise 11 3 0 .a
  else
    let i := s.word .OBS_BUFWP 0 0
    let off := s.bufBase + 16 * i
    let next := if s.on F.OBS_TRCCFG_WRAP && s.bufSlots ≤ i + 1 then 0 else i + 1
    ((s.wrBytes (pageBase + off) rec).bwMem true off 16).setWord .OBS_BUFWP 0 0 next

/-- A record leaves by every output that is on (R418, R419). -/
def State.emitRecord (s : State) (rec : List Nat) (err : Bool) : State :=
  (if s.on F.OBS_TRCCFG_PORT then { s with obs := { s.obs with port := rec, portAt := s.now } } else s).toBuffer rec err

/-- TRCCTL (R418): high for the 32 nibbles of a record, two in each tick. -/
def State.trcCtl (s : State) : Bool := s.obs.port ≠ [] && s.obs.portAt ≤ s.now && s.now < s.obs.portAt + 16

/-- TRCD3 to TRCD0 on the first or the second clock edge of the tick (R418): the nibbles of a record, the low one of byte 0 first. -/
def State.trcData (s : State) (second : Bool) : Nat :=
  let b := s.obs.port.getD (s.now - s.obs.portAt) 0
  if s.trcCtl then (if second then b / 16 % 16 else b % 16) else 0

/-- TRACE_OUT (R417 to R419): the next record leaves; a LOSS record leaves first once records have been dropped.  err tells an error answer to
the buffer write. -/
def execTraceOut (err : Bool) (s : State) : Host.Outcome State Fault Refusal :=
  if s.traceOn then
    if 0 < s.obs.dropped && !(s.on F.OBS_TRCCFG_MEM && !s.on F.OBS_TRCCFG_PORT && s.bufFull) then
      let loss := traceBytes s.now 11 0 0 3 s.obs.dropped
      done ({ s with obs := { s.obs with dropped := 0 } }.emitRecord loss err)
    else
      match s.obs.fifo with
      | [] => .next s
      | r :: t => done ({ s with obs := { s.obs with fifo := t } }.emitRecord r err)
  else .next s

/-- A write of OBS.MARK from a core or an endpoint (R415). -/
def State.markWrite (s : State) (q : Requester) (v : Nat) : State := s.traceEv q.source 0x0C 0 (v % 2 ^ 32)

/-- MARK (R415). -/
def execMark (q : Requester) (v : Nat) (s : State) : Host.Outcome State Fault Refusal :=
  s.gate q (if s.obsLevel = 0 then done (s.obsDenied q) else done (s.markWrite q v))

end Sys2Proof.Machine
end

