-- ==== Sys2Proof/Machine/Trig.lean ====
section
/-! DEFINITION. Sines and square roots as plain numbers, for the transforms of R217 and R219, the microsteps of R244 and the AC wave of R272.  An angle
counts 1/196,608 turn, three to each 1/65,536, so that 30 and 120 degrees are whole; a sine counts 2^-48 (log 2). -/

namespace Sys2Proof.Machine

/-- Pi in 2^-60. -/
def pi60 : Nat := 3622009729038561421

/-- The series of the sine at x (2^-60) from its term of order k on, n terms: each term is the last times x^2 / ((k + 1)(k + 2)), signs alternating. -/
def sinSeries (x : Nat) : (n k term : Nat) → Int
  | 0, _, _ => 0
  | n + 1, k, term => term - sinSeries x n (k + 2) (term * x / 2 ^ 60 * x / 2 ^ 60 / ((k + 1) * (k + 2)))

/-- The sine of an angle of the first quadrant, in 2^-48. -/
def sinQuad (a : Nat) : Int := (sinSeries (a * pi60 / 98304) 14 1 (a * pi60 / 98304) + 2048) / 4096

/-- The sine of any angle, in 2^-48. -/
def sin48 (a : Nat) : Int :=
  let b := a % 196608
  if b ≤ 49152 then sinQuad b
  else if b ≤ 98304 then sinQuad (98304 - b)
  else if b ≤ 147456 then -sinQuad (b - 98304)
  else -sinQuad (196608 - b)

/-- The cosine of any angle, in 2^-48. -/
def cos48 (a : Nat) : Int := sin48 (a + 49152)

/-- The integer e-th root of x below 2^(e n), bit by bit from the top; r holds the bits found. -/
def rootFrom (e x : Nat) : (n r : Nat) → Nat
  | 0, r => r
  | n + 1, r => rootFrom e x n (if (r + 2 ^ n) ^ e ≤ x then r + 2 ^ n else r)

/-- The integer square root of a number below 2^64. -/
def isqrt (x : Nat) : Nat := rootFrom 2 x 32 0

/-- A quotient in the unit of its field: exact where it is whole, else the integer below or above it, which the spec leaves open (log 2). -/
def quantise (tag : Nat) (num : Int) (den : Nat) : Int :=
  num / den + (if num % den ≠ 0 && Config.roundUp tag num den then 1 else 0)

/-- A square root in whole units, rounded as quantise does. -/
def quantRoot (tag x : Nat) : Int :=
  isqrt x + (if isqrt x * isqrt x ≠ x && Config.roundUp tag x 1 then 1 else 0)

/-- A signed 16-bit field's value: one that does not fit is not stated (log 2). -/
def fit16 (tag : Nat) (v : Int) : Int := if -32768 ≤ v && v ≤ 32767 then v else Config.convert tag [v]

end Sys2Proof.Machine
end

