-- ==== Sys2Proof/Machine/Sha.lean ====
section
/-! DEFINITION. SHA-256 and HMAC-SHA-256, which R42, R367, R379, R386 and R393 name: as FIPS 180-4 and FIPS 198-1 give them (log 9). -/

namespace Sys2Proof.Machine

/-- The first 64 primes, in rows of sixteen. -/
def shaPrimes : List Nat :=
  [2, 3, 5, 7, 11, 13, 17, 19, 23, 29, 31, 37, 41, 43, 47, 53] ++ [59, 61, 67, 71, 73, 79, 83, 89, 97, 101, 103, 107, 109, 113, 127, 131]
    ++ [137, 139, 149, 151, 157, 163, 167, 173, 179, 181, 191, 193, 197, 199, 211, 223]
    ++ [227, 229, 233, 239, 241, 251, 257, 263, 269, 271, 277, 281, 283, 293, 307, 311]

/-- The first 32 bits of the fraction of the e-th root of a number. -/
def rootBits (e p : Nat) : Word := BitVec.ofNat 32 (rootFrom e (p * 2 ^ (32 * e)) 36 0)

/-- The 64 round constants: the fractions of the cube roots of the primes. -/
def shaK : List Word := shaPrimes.map (rootBits 3)

/-- The eight working words. -/
structure Sha where
  a : Word
  b : Word
  c : Word
  d : Word
  e : Word
  f : Word
  g : Word
  h : Word

/-- The initial words: the fractions of the square roots of the first eight primes. -/
def shaInit : Sha :=
  let r := fun i => rootBits 2 (shaPrimes.getD i 0)
  ⟨r 0, r 1, r 2, r 3, r 4, r 5, r 6, r 7⟩

/-- One round with constant k and schedule word w. -/
def Sha.round (s : Sha) (k w : Word) : Sha :=
  let t1 := s.h + (s.e.rotateRight 6 ^^^ s.e.rotateRight 11 ^^^ s.e.rotateRight 25) + ((s.e &&& s.f) ^^^ (~~~s.e &&& s.g)) + k + w
  let t2 := (s.a.rotateRight 2 ^^^ s.a.rotateRight 13 ^^^ s.a.rotateRight 22) + ((s.a &&& s.b) ^^^ (s.a &&& s.c) ^^^ (s.b &&& s.c))
  ⟨t1 + t2, s.a, s.b, s.c, s.d + t1, s.e, s.f, s.g⟩

/-- Rounds over the constants; the schedule window holds the next 16 words. -/
def Sha.rounds : List Word → List Word → Sha → Sha
  | k :: ks, w :: ws, s =>
    let x := ws.getD 13 0
    let y := ws.getD 0 0
    let nw := (x.rotateRight 17 ^^^ x.rotateRight 19 ^^^ (x >>> 10)) + ws.getD 8 0 + (y.rotateRight 7 ^^^ y.rotateRight 18 ^^^ (y >>> 3)) + w
    Sha.rounds ks (ws ++ [nw]) (s.round k w)
  | _, _, s => s

/-- Big-endian words of bytes. -/
def beWords : List Nat → List Word
  | a :: b :: c :: d :: t => BitVec.ofNat 32 (a * 2 ^ 24 + b * 2 ^ 16 + c * 256 + d) :: beWords t
  | _ => []

def Sha.add (s t : Sha) : Sha := ⟨s.a + t.a, s.b + t.b, s.c + t.c, s.d + t.d, s.e + t.e, s.f + t.f, s.g + t.g, s.h + t.h⟩

/-- The blocks of 64 bytes. -/
def shaBlocks : (fuel : Nat) → List Nat → Sha → Sha
  | 0, _, s => s
  | n + 1, bs, s => if bs.isEmpty then s else shaBlocks n (bs.drop 64) (s.add (Sha.rounds shaK (beWords (bs.take 64)) s))

/-- The low n bytes of v, first byte most significant. -/
def beBytes (n v : Nat) : List Nat := (leBytes n v).reverse

/-- SHA-256 of bytes, as 32 bytes. -/
def sha256 (bs : List Nat) : List Nat :=
  let pad := (119 - bs.length % 64) % 64
  let msg := bs ++ [0x80] ++ List.replicate pad 0 ++ beBytes 8 (8 * bs.length)
  let s := shaBlocks (msg.length / 64 + 1) msg shaInit
  [s.a, s.b, s.c, s.d, s.e, s.f, s.g, s.h].flatMap (fun w => beBytes 4 w.toNat)

/-- HMAC-SHA-256 with a key of at most 64 bytes. -/
def hmac (key bs : List Nat) : List Nat :=
  let k := key ++ List.replicate (64 - key.length) 0
  sha256 (k.map (· ^^^ 0x5c) ++ sha256 (k.map (· ^^^ 0x36) ++ bs))

end Sys2Proof.Machine
end

