-- ==== Sys2Proof/Machine/Motion.lean ====
section
/-! DEFINITION. The FOC motor ports, the DC bus and the stepper ports (R214 to R254). -/

namespace Sys2Proof.Machine

/-! ### Faults and the folios they spoil (R242, R254) -/

def State.motOf (s : State) (n : Nat) : Mot := vget s.mot n
def State.motState (s : State) (n : Nat) : Nat := s.g (F.MOT_STAT_STATE n)
def State.motEn (s : State) (n : Nat) : Bool := n < s.blockCount .MOT && s.on (F.MOT_CTRL_EN n)

/-- A fault of an FOC port (R242, R254): its code in STAT.FAULT; class B spoils under PATH with reason 0x04 and puts the port into FAULT.  A mechanism of the
whole paper path (PATH bit 0) is on every folio's exit path, so that its fault strands a folio past the diverter (R77; DEDUCED, log 67). -/
def State.motFault (s : State) (n code detail : Nat) (cls : Cls) : State :=
  let s1 := s.p (F.MOT_STAT_FAULT n) code
  if cls = .a then s1.raise (82 + n) code detail .a
  else (s1.setMotState n mFAULT).raiseSpoil (82 + n) code detail cls (Folio.onPath (s.g (F.MOT_CTRL_PATH n))) 4
    (bit (s.g (F.MOT_CTRL_PATH n)) 0)

/-- Codes of R254. -/
def cMOT_DESAT : Nat := 1
def cMOT_OPEN : Nat := 2
def cMOT_ISENSE : Nat := 3
def cMOT_HALL : Nat := 4
def cMOT_ENC : Nat := 5
def cMOT_ENC_SWAP : Nat := 6
def cMOT_PHASE_ORDER : Nat := 7
def cMOT_START : Nat := 8
def cMOT_CATCH : Nat := 9
def cMOT_OVERSPEED : Nat := 0x0A
def cMOT_LOST : Nat := 0x0B
def cMOT_STALE : Nat := 0x0C
def cMOT_CMD : Nat := 0x0D
def cSTP_OPEN : Nat := 0x21
def cSTP_SHORT : Nat := 0x22
def cSTP_DECEL : Nat := 0x23
def cSTP_CMD : Nat := 0x24
def cBUS_CHOP : Nat := 0x31
def cBUS_HIGH : Nat := 0x32
def cBUS_OV1 : Nat := 0x33
def cBUS_OV2 : Nat := 0x34

/-! ### Events sent to an FOC port (R216, R219, R225, R227) -/

/-- RUN: from OFF into CATCH; in any other state refused with MOT_CMD.  A port that is not enabled takes no event (log 20), and in the kettle state,
which keeps every bridge off (R240), a RUN starts nothing (log 70). -/
def State.motRun (s : State) (n : Nat) (dir : Bool) : State :=
  if !s.motEn n then s
  else if s.motState n = mOFF then
    if s.on F.FCL_STAT_KETTLE then s
    else (s.setMotState n mCATCH).modMot n (fun m => { m with dirCmd := dir != s.on (F.MOT_CFG_REV n) })
  else s.motFault n cMOT_CMD 0 .a

/-- SPEED: a signed 24-bit speed sets SREF, negated with CFG.REV (R222). -/
def State.motSpeed (s : State) (n v : Nat) : State :=
  if !s.motEn n then s
  else s.pi (F.MOT_SREF_SPEED n) (if s.on (F.MOT_CFG_REV n) then -toSigned 24 v else toSigned 24 v)

/-- GEAR: starts the reference at the present mechanical position, or ends it (R225). -/
def State.motGear (s : State) (n : Nat) (on : Bool) : State :=
  if !s.motEn n then s
  else if on then
    if s.g (F.MOT_CTRL_MODE n) = 1 then
      s.modMot n (fun m => { m with gear := true, thetaRef := m.pos * 250000000000, refW := s.gi (F.MOT_SREF_SPEED n) * 4000000000 })
    else s
  else s.modMot n (fun m => { m with gear := false })

/-- COAST: OFF, from any state other than ZT, ASC and FAULT. -/
def State.motCoast (s : State) (n : Nat) : State :=
  let st := s.motState n
  if !s.motEn n || st = mZT || st = mASC || st = mFAULT || st = mOFF then s else s.setMotState n mOFF

/-- A voltage command: in RUN it waits for the next period start; in any other state it is discarded (R219). -/
def State.motVcmd (s : State) (n v : Nat) : State :=
  if s.motEn n && s.motState n = mRUN then s.modMot n (fun m => { m with vNext := some (toSigned 16 (v / 65536), toSigned 16 v) }) else s

/-- A word to slice 3n (R216): its CMD; a reserved one is refused with MOT_CMD. -/
def State.motWord (s : State) (n v : Nat) : State :=
  match bits v 31 28 with
  | 1 => s.motRun n (bit v 27)
  | 2 => s.motSpeed n (bits v 23 0)
  | 3 => s.motGear n (bit v 0)
  | 4 => s.motCoast n
  | _ => s.motFault n cMOT_CMD 0 .a

/-- MOT_RUN (R216, R227). -/
def execMotRun (n : Nat) (dir : Bool) (s : State) : Host.Outcome State Fault Refusal := done (s.motRun n dir)
/-- MOT_SPEED (R216). -/
def execMotSpeed (n v : Nat) (s : State) : Host.Outcome State Fault Refusal := done (s.motSpeed n v)
/-- MOT_GEAR (R216, R225). -/
def execMotGear (n : Nat) (on : Bool) (s : State) : Host.Outcome State Fault Refusal := done (s.motGear n on)
/-- MOT_COAST (R216, R227). -/
def execMotCoast (n : Nat) (s : State) : Host.Outcome State Fault Refusal := done (s.motCoast n)
/-- MOT_VCMD (R219). -/
def execMotVcmd (n v : Nat) (s : State) : Host.Outcome State Fault Refusal := done (s.motVcmd n v)

/-! ### Thresholds (R229) -/

/-- |w| (1/256 rev/s) is at or above a percentage of RATED.SPEED (1/16 rev/s). -/
def State.atPct (s : State) (n pct : Nat) (w : Int) : Bool := pct * s.g (F.MOT_RATED_SPEED n) * 16 ≤ 100 * w.natAbs
def State.atCatch (s : State) (n : Nat) (w : Int) : Bool := s.atPct n (s.g (F.MOT_RATED_CATCHPCT n)) w
def State.atHop (s : State) (n : Nat) (w : Int) : Bool := s.atPct n (s.g (F.MOT_RATED_HOPCT n)) w
def State.sensorless (s : State) (n : Nat) : Bool := s.g (F.MOT_CTRL_SENSOR n) == 0

/-! ### The angle (R222) -/

/-- The Hall codes in the order of a positive rotation, by sixths of an electrical turn; the spec names no order (PRESUMED, log 70). -/
def hallPlace (code : Nat) : Nat := [1, 3, 2, 6, 4, 5].idxOf code

/-- The angle the sensor of CTRL.SENSOR gives (R222), in 1/65,536 electrical turn: the observer's; that of the last Hall edge (its place in the turn, from an
origin the spec leaves open) and, up to the next edge, the way at the measured speed since; the encoder's count modulo CPR, scaled by POLES. -/
def State.sensorAngle (s : State) (n : Nat) : Nat :=
  let m := s.motOf n
  let poles := s.g (F.MOT_CFG_POLES n)
  match s.g (F.MOT_CTRL_SENSOR n) with
  | 0 => m.obs
  | 1 =>
    let place := match m.hallLast with | some c => hallPlace c | none => 0
    let edge := (place + m.hallNeg.toNat) * 65536 / 6
    let way := clampI (-10922) 10922 (quantise 112 (s.gi (F.MOT_MEAS_W_SPEED n) * (poles * (s.now - m.hallAt) * 65536 : Nat)) 64000000000)
    ((Config.convert 111 [n] + (edge : Nat) + way) % 65536).toNat
  | _ => (quantise 113 (m.enc % (s.g (F.MOT_CFG_CPR n) : Nat) * (poles * 65536 : Nat)) (s.g (F.MOT_CFG_CPR n)) % 65536).toNat

/-- The angle forced in ALIGN and RAMP (R231, R232). -/
def State.forcedAngle (s : State) (n : Nat) : Nat := (((s.motOf n).forcedA / 64000000000) % 65536).toNat

/-- The present electrical angle θ: forced in ALIGN and RAMP, else the sensor's. -/
def State.theta (s : State) (n : Nat) : Nat :=
  if s.motState n = mRAMP || s.motState n = mALIGN then s.forcedAngle n else s.sensorAngle n

/-- An angle in 1/65,536 turn as one in 1/196,608, and a third of a turn. -/
def third : Nat := 65536

/-- The axis of a phase: 0, 120 and 240 degrees for A, B and C; PHMAP exchanges B and C (R217). -/
def State.axisOf (s : State) (n phase : Nat) : Nat := if s.on (F.MOT_CFG_PHMAP n) then (3 - phase) % 3 * third else phase * third

/-! ### Entries to RUN and RAMP (R232, R233) -/

/-- The bus voltage at a port, in 0.1 V (R235). -/
def State.vbusOf (s : State) (n : Nat) : Nat := s.g (F.STP_BUSSTAT_VBUS (s.g (F.MOT_CTRL_BUSSTP n)))

/-- Entry to RUN (R233): VCMD holds the voltage applied, HANDOVER sets, θ comes from the sensor. -/
def State.enterRun (s : State) (n : Nat) (vd vq : Int) : State :=
  ((((s.setMotState n mRUN).pi (F.MOT_VCMD_VD n) vd).pi (F.MOT_VCMD_VQ n) vq).p (F.MOT_STAT_HANDOVER n) 1).p (F.MOT_MEAS_P_ANGLE n) (s.sensorAngle n)

/-- The start regulator's last output, rotated from the forced frame into that of an angle (R233). -/
def State.sregAt (s : State) (n : Nat) (angle : Nat) : Int × Int :=
  let v := (s.motOf n).sreg
  let a := 3 * (s.forcedAngle n + 65536 - angle % 65536)
  (fit16 101 (quantise 101 (v.1 * cos48 a - v.2 * sin48 a) (2 ^ 48)), fit16 102 (quantise 102 (v.1 * sin48 a + v.2 * cos48 a) (2 ^ 48)))

/-- Electrical speed of RAMP from a mechanical speed: the forced speed starts there. -/
def State.enterRamp (s : State) (n : Nat) (angle : Nat) (w : Int) : State :=
  (s.setMotState n mRAMP).modMot n (fun m => { m with forcedA := (angle : Int) * 64000000000, forcedW := w * 250000000 })

/-- The back-EMF at a measured speed as a fraction of VBUS/sqrt 3 (R232, R233): KE is the line peak in mV per rev/s, VBUS counts 0.1 V. -/
def State.bemfAt (s : State) (n : Nat) (w : Int) : Int :=
  if s.vbusOf n = 0 then Config.convert 103 [w, s.g (F.MOT_MODEL2_KE n)]
  else fit16 103 (quantise 103 (w * (s.g (F.MOT_MODEL2_KE n) * 128 : Nat)) (100 * s.vbusOf n))

/-! ### The period (R218 to R225, R232 to R234) -/

/-- The advance of R224: table entry |w| / ADVSTEP, linear between entries, the last held above index 63; with the sign of the speed. -/
def State.advance (s : State) (n : Nat) (w : Int) : Int :=
  if !s.on (F.MOT_CTRL_FWMODE n) then 0
  else
    let step := 16 * s.g (F.MOT_LIM_ADVSTEP n)
    let entry : Nat → Int := fun i => ((if i % 2 = 0 then s.ga (F.MOT_ADV_EVEN n (i / 2)) else s.ga (F.MOT_ADV_ODD n (i / 2)) : Nat) : Int)
    let i := w.natAbs / step
    let a := if 63 ≤ i then entry 63 else entry i + (entry (i + 1) - entry i) * (w.natAbs % step : Nat) / (step : Nat)
    if w < 0 then -a else a

/-- The limit of R219 on a command: where the magnitude exceeds 1.0, VQ is scaled so that it is 1.0.  |VD| cannot exceed 1.0 in signed Q1.15. -/
def limitCmd (vd vq : Int) : Int × Int :=
  if 32768 * 32768 < vd * vd + vq * vq then
    let m := quantRoot 104 (32768 * 32768 - vd * vd).toNat
    (vd, if vq < 0 then -m else m)
  else (vd, vq)

/-- The magnitude of a command in 1/256 (R219); 1.0 itself has no place in MEAS_W.MI (log 2). -/
def magnitude (vd vq : Int) : Nat :=
  let m := (vd * vd + vq * vq).toNat
  let i := isqrt (m / 16384) + (if isqrt (m / 16384) * isqrt (m / 16384) * 16384 ≠ m && Config.roundUp 106 m 16384 then 1 else 0)
  if i < 256 then i else (Config.convert 106 [vd, vq]).toNat % 256

/-- The voltage of a phase at an angle in 1/196,608 turn, in 2^-63 of VBUS/sqrt 3 (R219): the inverse Park transform seen on the phase's axis. -/
def State.phaseV (s : State) (n : Nat) (vd vq : Int) (a phase : Nat) : Int :=
  let b := a + 196608 - s.axisOf n phase
  vd * cos48 b - vq * sin48 b

/-- The high-side width of a phase in ticks (R219): its duty is 1/2 plus its voltage, less the mean of the greatest and the least, over VBUS. -/
def State.widthOf (s : State) (n : Nat) (vd vq : Int) (a phase : Nat) : Int :=
  let v := fun i => s.phaseV n vd vq a i
  let per : Int := (s.ga (F.MOT_PWM_PERIOD n) : Nat)
  let mid := max (v 0) (max (v 1) (v 2)) + min (v 0) (min (v 1) (v 2))
  clampI 0 per (quantise 105 (per * 3 * 2 ^ 111 + 2 * per * (2 * v phase - mid) * sin48 32768) (6 * 2 ^ 111))

/-- QWIN in quarter ticks, halved: 50 ns are 12.5 ticks (R220). -/
def State.halfQwin (s : State) (n : Nat) : Int := (25 * s.ga (F.MOT_PWM_QWIN n) : Nat)

/-- A phase is moved out of the quiet window of the centre sample (R220). -/
def State.pulseMoved (s : State) (n : Nat) (w : Int) : Bool := s.ga (F.MOT_PWM_SPOS n) != 0 && 0 < w && 2 * w < s.halfQwin n

/-- The widest pulse that keeps the quiet window of the valley sample, in quarter ticks (R220). -/
def State.widestPulse (s : State) (n : Nat) : Int :=
  4 * (s.ga (F.MOT_PWM_PERIOD n) : Nat) - 2 * s.halfQwin n - 8 * (s.ga (F.MOT_PWM_DEADT n) : Nat)

/-- A phase is cut for the quiet window of the valley sample (R220). -/
def State.pulseCut (s : State) (n : Nat) (w : Int) : Bool := s.ga (F.MOT_PWM_SPOS n) != 1 && s.widestPulse n < 4 * w

/-- The high-side pulse of a phase of width w ticks, in quarter ticks of the period (R218, R220): about the centre; moved, so that the low side turns on as the
window opens; or cut. -/
def State.highPulse (s : State) (n : Nat) (w : Int) : Int × Int :=
  let per : Int := (s.ga (F.MOT_PWM_PERIOD n) : Nat)
  let wide := if s.pulseCut n w then s.widestPulse n else 4 * w
  if s.pulseMoved n w then
    let fall := 2 * per - s.halfQwin n - 4 * (s.ga (F.MOT_PWM_DEADT n) : Nat)
    (fall - wide, fall)
  else (2 * per - wide / 2, 2 * per + wide / 2)

/-- One phase's move or cut is counted in DIAG (R220). -/
def State.quiet (s : State) (n : Nat) (w : Int) : State :=
  let s1 := if s.pulseMoved n w then (s.inc (F.MOT_DIAG_SHIFTS n)).count 0x39 n 1 else s
  if s.pulseCut n w then (s1.inc (F.MOT_DIAG_CLAMPS n)).count 0x39 n 1 else s1

/-- The pulses of a period for a voltage at an angle in 1/65,536 turn (R219, R220). -/
def State.pwmApply (s : State) (n : Nat) (v : Int × Int) (angle : Nat) : State :=
  let w := fun ph => s.widthOf n v.1 v.2 (3 * angle) ph
  ((s.quiet n (w 0)).quiet n (w 1)).quiet n (w 2) |>.modMot n (fun m =>
    { m with pulses := [s.highPulse n (w 0), s.highPulse n (w 1), s.highPulse n (w 2)] })

/-- Quarter ticks since the present period's start (R218). -/
def State.phaseTime (s : State) (n : Nat) : Nat :=
  let per := s.ga (F.MOT_PWM_PERIOD n)
  4 * ((s.now + per - s.ga (F.MOT_PHOFS_PHOFS n) % per) % per)

/-- The level of a phase's high-side gate (R219 to R221, R227). -/
def State.gateHigh (s : State) (n phase : Nat) : Bool :=
  match (s.motOf n).pulses[phase]? with
  | some e => e.1 ≤ s.phaseTime n && (s.phaseTime n : Int) < e.2
  | none => false

/-- The level of a phase's low-side gate (R221, R227, R230, R239): under pulse-width modulation on but for the pulse and DEADT on either side of it, in this
period and its neighbours; during a braking pulse; in ASC, DEADT after its entry. -/
def State.gateLow (s : State) (n phase : Nat) : Bool :=
  let m := s.motOf n
  let dead : Int := (4 * s.ga (F.MOT_PWM_DEADT n) : Nat)
  let per : Int := (4 * s.ga (F.MOT_PWM_PERIOD n) : Nat)
  let t : Int := (s.phaseTime n : Nat)
  if s.motState n = mASC then m.entered + s.ga (F.MOT_PWM_DEADT n) ≤ s.now
  else if s.motState n = mBRAKE then m.brakeOn
  else
    match m.pulses[phase]? with
    | some e => e.1 = e.2 || [t - per, t, t + per].all (fun u => u < e.1 - dead || e.2 + dead ≤ u)
    | none => false

/-- The voltage applied in a period of RUN (R219, R220, R224). -/
def State.applyV (s : State) (n : Nat) : State :=
  let vd := s.gi (F.MOT_VCMD_VD n)
  let vq := s.gi (F.MOT_VCMD_VQ n)
  let ang := (((s.theta n : Nat) : Int) + s.advance n (s.gi (F.MOT_MEAS_W_SPEED n))) % 65536
  (s.p (F.MOT_MEAS_W_MI n) (magnitude vd vq)).pwmApply n (vd, vq) ang.toNat

/-- The three phase currents of a sample (R217): offsets subtracted, C reconstructed; IA, IB and IC as the sensors' phases. -/
def State.currents (s : State) (n : Nat) (x : MotSample) : Int × Int × Int :=
  let ia := x.ia - (s.motOf n).ofsA
  let ib := x.ib - (s.motOf n).ofsB
  (ia, ib, -ia - ib)

/-- The Clarke and Park transforms (R217): the currents on an axis, two thirds of their sum (the scale that keeps an amplitude, log 2). -/
def State.onAxis (s : State) (n : Nat) (i : Int × Int × Int) (wave : Nat → Int) (a : Nat) : Int :=
  2 * (i.1 * wave (a + 196608 - s.axisOf n 0) + i.2.1 * wave (a + 196608 - s.axisOf n 1) + i.2.2 * wave (a + 196608 - s.axisOf n 2))

/-- The measurements of a sample instant (R217, R218, R222): direction and counts inverted with ENCINV, then θ, ID and IQ. -/
def State.measure (s : State) (n : Nat) (x : MotSample) : State :=
  let inv := s.g (F.MOT_CTRL_SENSOR n) = 2 && s.on (F.MOT_CFG_ENCINV n)
  let w := if inv then -x.speed else x.speed
  let s1 := ((s.pi (F.MOT_MEAS_W_SPEED n) w).p (F.MOT_STAT_DIR n) (w < 0 : Bool).toNat).modMot n (fun m =>
    { m with pos := if inv then -x.pos else x.pos, enc := if inv then m.enc - x.counts else m.enc + x.counts, obs := x.angle % 65536, bemf := x.bemf })
  let th := s1.theta n
  let i := s1.currents n x
  ((s1.pi (F.MOT_MEAS_I_ID n) (fit16 107 (quantise 107 (s1.onAxis n i cos48 (3 * th)) (3 * 2 ^ 48)))).pi (F.MOT_MEAS_I_IQ n)
    (fit16 108 (quantise 108 (-s1.onAxis n i sin48 (3 * th)) (3 * 2 ^ 48)))).p (F.MOT_MEAS_P_ANGLE n) th

/-- The gear reference advances by a period (R225). -/
def State.gearStep (s : State) (n : Nat) : State :=
  let m := s.motOf n
  if !m.gear || s.g (F.MOT_CTRL_MODE n) ≠ 1 then s
  else
    let per := s.ga (F.MOT_PWM_PERIOD n)
    let ratio : Int := if s.on (F.MOT_CFG_REV n) then -s.gi (F.MOT_GEAR_RATIO n) else s.gi (F.MOT_GEAR_RATIO n)
    let adv := ratio * (s.speed : Nat) * per
    let want := ratio * (s.speed : Nat) * 15625
    let lim : Int := (s.g (F.MOT_LIM_GACC n) * 65536 * per : Nat)
    let w := clampI (m.refW - lim) (m.refW + lim) want
    let th := m.thetaRef + adv
    let s1 := s.modMot n (fun m => { m with thetaRef := th, refW := w })
    (s1.pi (F.MOT_SREF_SPEED n) (w / 4000000000)).pi (F.MOT_MEAS_P_PERR n) (clampI (-32767) 32767 (th / 250000000000 - m.pos))

/-- RUN's checks that a period start makes (R234): MOT_STALE and MOT_LOST. -/
def State.runChecks (s : State) (n : Nat) : State :=
  let m := s.motOf n
  let kew := s.g (F.MOT_MODEL2_KE n) * (s.gi (F.MOT_MEAS_W_SPEED n)).natAbs
  let off := kew < 4 * distN (256 * m.bemf) kew
  let lost := if s.sensorless n && off then m.lost + 1 else 0
  if s.g (F.MOT_LIM_RUNWD n) ≤ m.age then s.motFault n cMOT_STALE 0 .b
  else if 32 ≤ lost then s.motFault n cMOT_LOST 0 .b
  else s.modMot n (fun m => { m with lost := lost })

/-- The command taken at a period start in RUN (R219). -/
def State.takeCmd (s : State) (n : Nat) : State :=
  match (s.motOf n).vNext with
  | some (vq, vd) =>
    let c := limitCmd vd vq
    ((s.pi (F.MOT_VCMD_VD n) c.1).pi (F.MOT_VCMD_VQ n) c.2).modMot n (fun m => { m with vNext := none, age := 0 })
  | none => s.modMot n (fun m => { m with age := m.age + 1 })

/-- Distance of two electrical angles, in 1/65,536 turn. -/
def angDist (a b : Nat) : Nat := min (distN (a % 65536) (b % 65536)) (65536 - distN (a % 65536) (b % 65536))

/-- A period of RAMP (R232), its voltage applied at the forced angle: forced speed and angle, and the comparison with the observer from the hand-over speed on. -/
def State.rampStep (s : State) (n : Nat) : State :=
  let m := s.motOf n
  let per := s.ga (F.MOT_PWM_PERIOD n)
  let sign : Int := if m.dirCmd then -1 else 1
  let top : Int := (s.g (F.MOT_RATED_HOPCT n) * s.g (F.MOT_RATED_SPEED n) * 16 * 2500000 : Nat)
  let mag := min ((m.forcedW.natAbs + s.g (F.MOT_ALIGN_RAMPACC n) * 256 * per : Nat) : Int) (max top m.forcedW.natAbs)
  let w := sign * mag
  let th := m.forcedA + w * (s.g (F.MOT_CFG_POLES n) * per : Nat) * 256 * 64 / 62500000
  let ang := ((th / 64000000000) % 65536).toNat
  let near := top ≤ mag && 360 * angDist ang m.obs ≤ 30 * 65536
  let agree := if near then m.agree + 1 else 0
  let out := (Config.convert 109 [s.gi (F.MOT_MEAS_I_ID n), 0, s.g (F.MOT_SREG_KP n), s.g (F.MOT_SREG_KI n), m.sreg.1],
              Config.convert 110 [s.gi (F.MOT_MEAS_I_IQ n), s.g (F.MOT_RAMP_IRAMP n), s.g (F.MOT_SREG_KP n), s.g (F.MOT_SREG_KI n), m.sreg.2])
  let s1 := s.modMot n (fun m => { m with forcedA := th, forcedW := w, agree := agree, sreg := out })
  if 32 ≤ agree then
    let v := s1.sregAt n m.obs
    (s1.enterRun n v.1 v.2).applyV n
  else s1.pwmApply n out ang

/-- A period of ALIGN or ZT under the start regulator (R231, R237). -/
def State.regStep (s : State) (n idRef : Nat) : State :=
  let m := s.motOf n
  s.modMot n (fun m' => { m' with sreg := (
    Config.convert 109 [s.gi (F.MOT_MEAS_I_ID n), idRef, s.g (F.MOT_SREG_KP n), s.g (F.MOT_SREG_KI n), m.sreg.1],
    Config.convert 110 [s.gi (F.MOT_MEAS_I_IQ n), 0, s.g (F.MOT_SREG_KP n), s.g (F.MOT_SREG_KI n), m.sreg.2]) })

/-- A period starts at every cord time t with (t - PHOFS) mod PERIOD = 0 (R218). -/
def State.atPeriod (s : State) (n : Nat) : Bool :=
  let per := s.ga (F.MOT_PWM_PERIOD n)
  s.now % per == s.ga (F.MOT_PHOFS_PHOFS n) % per

/-- The centre of a period (R218), to the tick below where PERIOD is odd (log 10). -/
def State.atCentre (s : State) (n : Nat) : Bool :=
  let per := s.ga (F.MOT_PWM_PERIOD n)
  s.now % per == (s.ga (F.MOT_PHOFS_PHOFS n) + per / 2) % per
/-- The sets whose update event is the period start are copied (R35). -/
def State.periodCopies (s : State) (n : Nat) : State :=
  let s1 := if s.reached (.motPwm n) then s.doCopy (.motPwm n) else s
  if s1.reached (.motAdv n) then s1.doCopy (.motAdv n) else s1

/-- The start of ALIGN (R231): the first dwell. -/
def State.alignStart (s : State) (n : Nat) : State :=
  (s.setMotState n mALIGN).modMot n (fun m => { m with dwell := 1, again := false, forcedA := 0, forcedW := 0 })

/-- BRAKE at a period start or a sample (R230): a pulse begins with the period and ends when a phase current has reached IBRAKE, but for a bus at or above
V_brake; a whole period after the bridge went off, ALIGN. -/
def State.brakeStep (s : State) (n : Nat) (start measured : Bool) (x : MotSample) : State :=
  let m := s.motOf n
  let i := s.currents n x
  let lim := 8 * s.g (F.MOT_RAMP_IBRAKE n)
  let reached := measured && (lim ≤ i.1.natAbs || lim ≤ i.2.1.natAbs || lim ≤ i.2.2.natAbs)
  let hold := s.g (F.STP_BUS0_VBRAKE (s.g (F.MOT_CTRL_BUSSTP n))) ≤ s.vbusOf n
  match m.offAt with
  | some t => if start && t + s.ga (F.MOT_PWM_PERIOD n) ≤ s.now then s.alignStart n else s
  | none => s.modMot n (fun m => { m with brakeOn := (start || m.brakeOn) && (hold || !reached) })

/-- What a period start does in each state: takes and checks commands, forces the angle, regulates, brakes, or opens the catch window. -/
def State.periodStep (s : State) (n : Nat) (measured : Bool) (x : MotSample) : State :=
  let st := s.motState n
  if st = mRUN then
    let s2 := (s.takeCmd n).runChecks n
    if s2.motState n = mRUN then s2.applyV n else s2
  else if st = mRAMP then s.rampStep n
  else if st = mALIGN then
    let s2 := s.regStep n (s.g (F.MOT_ALIGN_IALIGN n))
    s2.pwmApply n (s2.motOf n).sreg (s2.theta n)
  else if st = mZT then
    let s2 := s.regStep n 0
    s2.pwmApply n (s2.motOf n).sreg (s2.theta n)
  else if st = mBRAKE then s.brakeStep n true measured x
  else if st = mCATCH then s.modMot n (fun m => { m with winAt := some (m.winAt.getD s.now) })
  else s

/-- PWM_PERIOD_START (R218): the valley's and the centre's sample as SPOS asks, while the port's ADC slots are on its schedule (R32); at the start the committed sets,
the gear reference, and what the port's state does with the period. -/
def execPwmPeriodStart (n : Nat) (x : MotSample) (s : State) : Host.Outcome State Fault Refusal :=
  if s.motEn n && s.atPeriod n then
    let s0 := (s.periodCopies n).count 0x38 n 1
    let sampled := s0.ga (F.MOT_PWM_SPOS n) != 1 && s0.adcLive (motSlots n)
    done (((if sampled then s0.measure n x else s0).gearStep n).periodStep n sampled x)
  else if s.motEn n && s.atCentre n && s.ga (F.MOT_PWM_SPOS n) != 0 && s.adcLive (motSlots n) then
    let s1 := s.measure n x
    done (if s1.motState n = mBRAKE then s1.brakeStep n false true x else s1)
  else .next s

/-! ### Starting (R217, R228 to R232, R234) -/

/-- MOT_OFFSET_DONE (R217): the offsets of 256 samples; beyond 5 % of full scale MOT_ISENSE. -/
def execMotOffsetDone (n : Nat) (a b : Int) (s : State) : Host.Outcome State Fault Refusal :=
  if s.motEn n && !(s.motOf n).ofsDone then
    let s1 := s.modMot n (fun m => { m with ofsDone := true, ofsA := a, ofsB := b })
    done (if 32768 < 20 * a.natAbs || 32768 < 20 * b.natAbs then s1.motFault n cMOT_ISENSE 0 .b else s1)
  else .next s

/-- MOT_HALL (R222, R234): a Hall sample.  A valid code that differs from the last is an edge; in RUN, the third invalid code in a row, or a step that skips a code,
is a fault. -/
def execMotHall (n code : Nat) (s : State) : Host.Outcome State Fault Refusal :=
  if s.motEn n && s.g (F.MOT_CTRL_SENSOR n) = 1 && code < 8 then
    let m := s.motOf n
    let run : Bool := s.motState n = mRUN
    if code = 0 || code = 7 then
      done (if run && 2 ≤ m.hallBad then s.motFault n cMOT_HALL 0 .b else s.modMot n (fun m => { m with hallBad := m.hallBad + 1 }))
    else
      let step := match m.hallLast with | some c => (hallPlace code + 6 - hallPlace c) % 6 | none => 0
      let s1 := s.modMot n (fun m =>
        { m with hallBad := 0, hallLast := some code, hallAt := if m.hallLast = some code then m.hallAt else s.now
                 hallNeg := if m.hallLast = some code then m.hallNeg else step == 5 })
      done (if run && 2 ≤ step && step ≤ 4 then s1.motFault n cMOT_HALL 0 .b else s1)
  else .next s

/-- MOT_ENC (R222, R234): an index pulse, with the count since the one before it: the count phase starts again; in RUN a count off by more than 4 is a fault. -/
def execMotEnc (n count : Nat) (s : State) : Host.Outcome State Fault Refusal :=
  if s.motEn n && s.g (F.MOT_CTRL_SENSOR n) = 2 then
    let s1 := s.modMot n (fun m => { m with enc := 0, indexed := true })
    done (if s.motState n = mRUN && (s.motOf n).indexed && 4 < distN count (s.g (F.MOT_CFG_CPR n)) then s1.motFault n cMOT_ENC 0 .b else s1)
  else .next s

/-! ### The catch window (R228) -/

/-- The sign a line voltage shows once it leaves a band (full width 2 band). -/
def beyond (band v : Int) : Option Bool := if band < v then some true else if v < -band then some false else none

/-- A line voltage's crossings of the hysteresis band, by the index of the sample that completes each, with its code: 0 to 5 in the order of a positive rotation. -/
def crossings (band : Int) (rise fall : Nat) : (last : Option Bool) → (i : Nat) → List Int → List (Nat × Nat)
  | _, _, [] => []
  | last, i, v :: t =>
    match beyond band v, last with
    | some b, some a =>
      if a = b then crossings band rise fall last (i + 1) t else (i, if b then rise else fall) :: crossings band rise fall (some b) (i + 1) t
    | some b, none => crossings band rise fall (some b) (i + 1) t
    | none, _ => crossings band rise fall last (i + 1) t

/-- Puts a crossing in its place in time. -/
def insertCrossing (x : Nat × Nat) : List (Nat × Nat) → List (Nat × Nat)
  | [] => [x]
  | y :: t => if x.1 < y.1 then x :: y :: t else y :: insertCrossing x t

/-- The line voltages of a window's samples, in mV; PHMAP exchanges VB and VC (R217). -/
def State.lineVolts (s : State) (n : Nat) (vs : List (Int × Int × Int)) : List (Int × Int × Int) :=
  vs.map (fun v =>
    let b := if s.on (F.MOT_CFG_PHMAP n) then v.2.2 else v.2.1
    let c := if s.on (F.MOT_CFG_PHMAP n) then v.2.1 else v.2.2
    (v.1 - b, b - c, c - v.1))

/-- The crossings of VAB, VBC and VCA that pass a band of 2 % of VBUS, 1 % on either side (R228; DEDUCED, log 70). -/
def State.windowCrossings (s : State) (n : Nat) (vs : List (Int × Int × Int)) : List (Nat × Nat) :=
  let l := s.lineVolts n vs
  let band : Int := (s.vbusOf n : Nat)
  (crossings band 0 3 none 0 (l.map (fun v => v.1)) ++ crossings band 2 5 none 0 (l.map (fun v => v.2.1))
    ++ crossings band 4 1 none 0 (l.map (fun v => v.2.2))).foldr insertCrossing []

/-- Every crossing is followed by the next in an order that steps by d sixths. -/
def ordered (d : Nat) : List (Nat × Nat) → Bool
  | [] => true
  | [_] => true
  | x :: y :: t => (x.2 + d) % 6 == y.2 && ordered d (y :: t)

/-- At least three crossings in a consistent order, with the direction they show (R228). -/
def consistent (l : List (Nat × Nat)) : Option Bool :=
  if l.length < 3 then none else if ordered 1 l then some false else if ordered 5 l then some true else none

/-- The speed of a window's crossings, in 1/256 rev/s: intervals of a sixth of an electrical turn, samples of 5 us (R228). -/
def State.crossSpeed (s : State) (n : Nat) (l : List (Nat × Nat)) : Nat :=
  match l.head?, l.getLast? with
  | some x, some y =>
    if y.1 ≤ x.1 then 0 else (quantise 115 (((l.length - 1) * 256 * 200000 : Nat) : Int) (6 * s.g (F.MOT_CFG_POLES n) * (y.1 - x.1))).toNat
  | _, _ => 0

/-- The electrical angle of a window's last crossing, advanced at the measured speed to the window's end (R229), in 1/65,536 turn: the code c crosses at 150 + 60 c
degrees, where phase A's axis lies at 0 (R231). -/
def State.crossAngle (s : State) (n : Nat) (l : List (Nat × Nat)) (len : Nat) (w : Int) : Nat :=
  match l.getLast? with
  | some y =>
    ((quantise 116 (((81920 + 32768 * y.2) * 1000000 : Nat) + w * (s.g (F.MOT_CFG_POLES n) * (len - 1 - y.1) * 3840 : Nat)) 3000000) % 65536).toNat
  | none => 0

/-- A line back-EMF peak of a window at or above VBUS (R228). -/
def State.windowHigh (s : State) (n : Nat) (vs : List (Int × Int × Int)) : Bool :=
  (s.lineVolts n vs).any (fun v => (100 * s.vbusOf n ≤ v.1.natAbs || 100 * s.vbusOf n ≤ v.2.1.natAbs || 100 * s.vbusOf n ≤ v.2.2.natAbs : Bool))

/-- The window is open, or has been for 20 ms. -/
def State.windowFor (s : State) (n ticks : Nat) : Bool :=
  match (s.motOf n).winAt with | some t => t + ticks ≤ s.now | none => false

/-- What the window measured decides (R229): w is 0 where there was no valid result. -/
def State.catchDecide (s : State) (n : Nat) (valid : Bool) (w : Int) (crossed : Nat) : State :=
  let out := fun (o : Nat) => ((s.p (F.MOT_CATCH_OUTCOME n) o).p (F.MOT_CATCH_DIR n) (w < 0 : Bool).toNat).p (F.MOT_CATCH_SPEED n) w.natAbs
  let same : Bool := (w < 0 : Bool) == (s.motOf n).dirCmd
  if !valid || !s.atCatch n w then (out 3).alignStart n
  else if same then
    if !s.sensorless n || s.atHop n w then (out 1).enterRun n 0 (s.bemfAt n w)
    else ((out 1).enterRamp n crossed w).modMot n (fun m => { m with sreg := (0, s.bemfAt n w) })
  else (out 2).setMotState n mBRAKE

/-- CATCH_WINDOW_END (R228, R229): 20 ms after the period start that opened the window, with its samples of VA, VB and VC in mV at 200 kHz, and the speed (1/256 rev/s) and
angle that the sensor or observer gives.  A peak at or above VBUS is MOT_OVERSPEED. -/
def execCatchWindowEnd (n : Nat) (vs : List (Int × Int × Int)) (speed : Int) (angle : Nat) (s : State) : Host.Outcome State Fault Refusal :=
  if s.motEn n && s.motState n = mCATCH && s.windowFor n (20 * msTicks) then
    let l := s.windowCrossings n vs
    let dir := consistent l
    let mag : Int := (s.crossSpeed n l : Nat)
    let w := match dir with | none => 0 | some neg => if s.sensorless n then (if neg then -mag else mag) else speed
    let s1 := s.modMot n (fun m => { m with obs := angle % 65536 })
    done (if s.windowHigh n vs then s.motFault n cMOT_OVERSPEED 0 .b else s1.catchDecide n dir.isSome w (s.crossAngle n l vs.length w))
  else .next s

/-- MOT_OVERSPEED (R228): in the catch window a line back-EMF peak, in mV, at or above VBUS. -/
def execMotOverspeed (n peak : Nat) (s : State) : Host.Outcome State Fault Refusal :=
  if s.motEn n && s.motState n = mCATCH && s.windowFor n 0 && 100 * s.vbusOf n ≤ peak then done (s.motFault n cMOT_OVERSPEED 0 .b) else .next s

/-- BRAKE_DONE (R230): the speed has fallen below the catch threshold: the bridge is off for a period, then ALIGN. -/
def execBrakeDone (n : Nat) (speed : Int) (s : State) : Host.Outcome State Fault Refusal :=
  if s.motEn n && s.motState n = mBRAKE && !s.atCatch n speed && (s.motOf n).offAt.isNone then
    done (s.modMot n (fun m => { m with offAt := some s.now, brakeOn := false }))
  else .next s

/-- MOT_CATCH (R230): 2 s in BRAKE. -/
def execMotCatch (n : Nat) (s : State) : Host.Outcome State Fault Refusal :=
  if s.motEn n && s.motState n = mBRAKE && (s.motOf n).offAt.isNone && (s.motOf n).entered + 2000 * msTicks ≤ s.now then
    done (s.motFault n cMOT_CATCH 0 .b) else .next s

/-- The check between the two dwells of a sensored port (R231): the rotor's movement in 1/65,536 electrical turn. -/
def State.alignCheck (s : State) (n : Nat) (moved : Int) : State :=
  if 8192 ≤ moved && moved ≤ 24576 then
    let v := s.sregAt n (s.sensorAngle n)
    s.enterRun n v.1 v.2
  else if -24576 ≤ moved && moved ≤ -8192 && !(s.motOf n).again then
    let s1 :=
      if s.g (F.MOT_CTRL_SENSOR n) = 2 then (s.p (F.MOT_CFG_ENCINV n) (1 - s.g (F.MOT_CFG_ENCINV n))).motFault n cMOT_ENC_SWAP 0 .a
      else (s.p (F.MOT_CFG_PHMAP n) (1 - s.g (F.MOT_CFG_PHMAP n))).motFault n cMOT_PHASE_ORDER 0 .a
    (s1.alignStart n).modMot n (fun m => { m with again := true })
  else s.motFault n cMOT_START 0 .b

/-- ALIGN_DWELL_END (R231): the first dwell of ALIGNT at angle 0, the second of half of it at +90 degrees; what the sensor moved between their ends is checked. -/
def execAlignDwellEnd (n : Nat) (s : State) : Host.Outcome State Fault Refusal :=
  let m := s.motOf n
  let t := s.g (F.MOT_ALIGN_ALIGNT n) * 5 * msTicks
  if s.motEn n && s.motState n = mALIGN then
    if m.dwell = 1 then
      if m.entered + t ≤ s.now then
        done (s.modMot n (fun m => { m with dwell := 2, entered := s.now, forcedA := 16384 * 64000000000, align1 := s.sensorAngle n }))
      else .next s
    else if m.entered + t / 2 ≤ s.now then
      done (if s.sensorless n then s.enterRamp n 16384 0 else s.alignCheck n (toSigned 16 (s.sensorAngle n + 65536 - m.align1 % 65536)))
    else .next s
  else .next s

/-- MOT_OPEN (R231): 5 ms into a dwell a phase's current, the greatest since the dwell began (Q1.15 of IFS), has not reached half of what IALIGN at the forced
angle puts on the phase's axis; the detail names the phase (log 21). -/
def execMotOpen (n phase cur : Nat) (s : State) : Host.Outcome State Fault Refusal :=
  if s.motEn n && s.motState n = mALIGN && (s.motOf n).entered + 5 * msTicks ≤ s.now && phase < 3
      && 2 * cur * 2 ^ 48 < 8 * s.g (F.MOT_ALIGN_IALIGN n) * (cos48 (3 * s.forcedAngle n + 196608 - s.axisOf n phase)).natAbs then
    done (s.motFault n cMOT_OPEN phase .b)
  else .next s

/-- MOT_START (R232): no hand-over within RAMPT. -/
def execMotStart (n : Nat) (s : State) : Host.Outcome State Fault Refusal :=
  if s.motEn n && s.motState n = mRAMP && (s.motOf n).entered + s.g (F.MOT_RAMP_RAMPT n) * 20 * msTicks ≤ s.now then
    done (s.motFault n cMOT_START 0 .b)
  else .next s

/-- MOT_DESAT (R241): a filtered desaturation input, in any state of an enabled port. -/
def execMotDesat (n : Nat) (s : State) : Host.Outcome State Fault Refusal :=
  if s.motEn n then done ((s.motFault n cMOT_DESAT 0 .b).modMot n (fun m => { m with desat := true })) else .next s

/-! ### The DC bus (R235 to R240) -/

def stpSlots (k : Nat) : List Nat := [40 + 2 * k, 41 + 2 * k]

def State.stpOf (s : State) (k : Nat) : Stp := vget s.stp k
def State.modStp (s : State) (k : Nat) (f : Stp → Stp) : State := { s with stp := vmod s.stp k f }
def State.stpState (s : State) (k : Nat) : Nat := s.g (F.STP_STAT_STATE k)
def State.stpEn (s : State) (k : Nat) : Bool := k < s.blockCount .STP && s.on (F.STP_CTRL_EN k)

/-- An enabled bus monitor. -/
def State.isBusmon (s : State) (k : Nat) : Bool := s.stpEn k && s.g (F.STP_CTRL_MODE k) == 1

/-- The FOC ports on a bus that a bus state reaches: enabled, and not turned off by desaturation, which takes precedence (R241). -/
def State.busPorts (s : State) (k : Nat) : List Nat :=
  (List.range 8).filter (fun n => s.motEn n && s.g (F.MOT_CTRL_BUSSTP n) == k && !(s.motOf n).desat)

/-- A bridge of the bus is on: BRAKE to ASC but OFF, CATCH and FAULT. -/
def State.bridgeOn (s : State) (n : Nat) : Bool := mBRAKE ≤ s.motState n && s.motState n ≤ mASC

/-- A fault of a bus monitor (R236 to R238): its code in STAT.FAULT; PATH is ignored in BUSMON, and a class-C fault spoils through the kettle state with reason
0x04 (R240). -/
def State.busFault (s : State) (k code : Nat) (cls : Cls) : State :=
  (s.p (F.STP_STAT_FAULT k) code).raise (90 + k) code 0 cls 4

/-- V_ov1 is reached (R237): with a bad chopper every port on the bus enters ZT and BUS_OV1 is raised; with a sound one BUS_HIGH. -/
def State.busOv1 (s : State) (k : Nat) : State :=
  if s.on (F.STP_BUSSTAT_CHOP_BAD k) then
    ((s.busPorts k).foldl (fun a n => if a.motState n = mASC then a else a.setMotState n mZT) s).busFault k cBUS_OV1 .c
  else s.busFault k cBUS_HIGH .a

/-- BUS_SAMPLE (R235 to R237, R253): VBUS from an ADC count, the chopper with its hysteresis, the chopper current in mA. -/
def execBusSample (k adc cur : Nat) (s : State) : Host.Outcome State Fault Refusal :=
  if s.isBusmon k && s.adcLive (stpSlots k) then
    let v := min 65535 (adc * s.g (F.STP_BUS2_SCALE k) * 10 / 65536)
    let vb := s.g (F.STP_BUS0_VBRAKE k)
    let hy := s.g (F.STP_BUS0_HYST k)
    let o1 := s.g (F.STP_BUS1_VOV1 k)
    let on : Bool := if vb ≤ v then true else if v + hy < vb then false else s.on (F.STP_BUSSTAT_CHOP_ON k)
    let min_ := s.g (F.STP_BUS2_CHOPMIN k)
    let wrong : Bool := on == s.on (F.STP_BUSSTAT_CHOP_ON k) && (if on then decide (cur < min_) else decide (min_ < cur))
    let s1 := (((s.p (F.STP_BUSSTAT_VBUS k) v).p (F.STP_BUSSTAT_CHOP_ON k) on.toNat).p (F.STP_BUSSTAT_OV1 k) (o1 ≤ v : Bool).toNat).p
      (F.STP_BUSSTAT_OV2 k) (s.g (F.STP_BUS1_VOV2 k) ≤ v : Bool).toNat
    let s2 := s1.modStp k (fun x =>
      { x with lowSince := if v + hy < o1 then some (x.lowSince.getD s.now) else none
               wrongSince := if wrong then some (x.wrongSince.getD s.now) else none
               wrongDone := wrong && x.wrongDone
               ov2Done := x.ov2Done && s.g (F.STP_BUS1_VOV2 k) ≤ v })
    let s3 := if o1 ≤ v && !s.on (F.STP_BUSSTAT_OV1 k) then s2.busOv1 k else s2
    let open_ := 100 * v < s.g (F.STP_BUS1_VOV2 k) && (s3.busPorts k).any (fun n => s3.bridgeOn n)
    let s4 := if open_ && !(s.stpOf k).divOpen then (s3.p (F.STP_BUSSTAT_CHOP_BAD k) 1).busFault k cBUS_CHOP .b else s3
    done (s4.modStp k (fun x => { x with divOpen := open_ }))
  else .next s

/-- BUS_CHOP (R236): the chopper current has been wrong for 20 us; each such spell is one fault, CHOP_BAD standing or not. -/
def execBusChop (k : Nat) (s : State) : Host.Outcome State Fault Refusal :=
  match (s.stpOf k).wrongSince with
  | some t =>
    if s.isBusmon k && t + 20 * usTicks ≤ s.now && !(s.stpOf k).wrongDone then
      done (((s.p (F.STP_BUSSTAT_CHOP_BAD k) 1).modStp k (fun x => { x with wrongDone := true })).busFault k cBUS_CHOP .b)
    else .next s
  | none => .next s

/-- BUS_OV2 (R238): VBUS has reached V_ov2; every port on the bus enters ASC. -/
def execBusOv2 (k : Nat) (s : State) : Host.Outcome State Fault Refusal :=
  if s.isBusmon k && s.on (F.STP_BUSSTAT_OV2 k) && !(s.stpOf k).ov2Done then
    let s1 := (s.busPorts k).foldl (fun a n => if a.motState n = mASC then a else a.setMotState n mASC) s
    done ((s1.modStp k (fun x => { x with ov2Done := true })).busFault k cBUS_OV2 .c)
  else .next s

/-- ZT_EXIT (R237): VBUS below V_ov1 - HYST for 10 ms. -/
def execZtExit (n : Nat) (s : State) : Host.Outcome State Fault Refusal :=
  match (s.stpOf (s.g (F.MOT_CTRL_BUSSTP n))).lowSince with
  | some t => if s.motEn n && s.motState n = mZT && t + 10 * msTicks ≤ s.now then done (s.setMotState n mOFF) else .next s
  | none => .next s

/-- ASC_EXIT (R239): the speed below the catch threshold and VBUS below V_ov1 - HYST. -/
def execAscExit (n : Nat) (speed : Int) (s : State) : Host.Outcome State Fault Refusal :=
  if s.motEn n && s.motState n = mASC && !s.atCatch n speed && (s.stpOf (s.g (F.MOT_CTRL_BUSSTP n))).lowSince.isSome then
    done (s.setMotState n mOFF)
  else .next s

/-! ### Stepper ports (R243 to R252) -/

/-- A stepper fault of class B (R242, R243): both bridges off, FAULT, and folios spoiled under PATH. -/
def State.stpFault (s : State) (k code : Nat) : State :=
  let s1 := ((s.p (F.STP_STAT_FAULT k) code).setStpState k 0xF).p (F.STP_SPEED_V k) 0
  (s1.modStp k (fun x => { x with vel := 0, coils := .off, stopping := none, hard := none, decel := false })).raiseSpoil (90 + k) code 0 .b
    (Folio.onPath (s.g (F.STP_CTRL_PATH k))) 4 (bit (s.g (F.STP_CTRL_PATH k)) 0)

def State.stpCmdRefused (s : State) (k : Nat) : State := (s.p (F.STP_STAT_FAULT k) cSTP_CMD).raise (90 + k) cSTP_CMD 0 .a

def State.stpPos (s : State) (k : Nat) : Int := s.gi (F.STP_POS_POS k)

/-- POS takes a value; the direction state and the extreme follow it (R251). -/
def State.setPos (s : State) (k : Nat) (p : Int) : State :=
  let x := s.stpOf k
  let neg := s.on (F.STP_STAT_DIRST k)
  let s1 := s.pi (F.STP_POS_POS k) p
  if p = s.stpPos k then s1
  else if (if neg then p < x.ext else x.ext < p) then s1.modStp k (fun y => { y with ext := p })
  else if 2 < (p - x.ext).natAbs then (s1.p (F.STP_STAT_DIRST k) (1 - neg.toNat)).modStp k (fun y => { y with ext := p })
  else s1

/-- A move ends (R246, R249): the port enters STAND. -/
def State.stand (s : State) (k : Nat) : State :=
  ((s.setStpState k 6).p (F.STP_SPEED_V k) 0).modStp k (fun x =>
    { x with vel := 0, frac := 0, hard := none, stopping := none, stoodAt := s.now, coils := .run })

/-- Speeds in 1/10^6 microstep/s and accelerations in microsteps/s^2, from the active set. -/
def State.stpV (s : State) (f : FieldRef) : Nat := s.ga f * 1000000
def State.stpA (s : State) (f : FieldRef) : Nat := s.ga f * 16

/-- Whether a move of d microsteps runs wholly at min(VSTART, VSTOP) (R246). -/
def State.flatMove (s : State) (k d : Nat) : Bool :=
  let a := s.ga (F.STP_VSTART_V k)
  let b := s.ga (F.STP_VSTOP_V k)
  2 * s.stpA (F.STP_A1_A k) * d + a * a + b * b < 2 * (max a b) * (max a b)

/-- The coils carry current: a bridge that was off turns on now (R243). -/
def State.coilsOn (s : State) (k : Nat) : State :=
  s.modStp k (fun x =>
    if x.coils = .run || x.coils = .hold then { x with coils := .run } else { x with coils := .run, chopA := (s.now, 0), chopB := (s.now, 0) })

/-- A move of d > 0 microsteps to a target starts (R245, R246). -/
def State.startMove (s : State) (k : Nat) (target : Int) (d : Nat) : State :=
  let flat := s.flatMove k d
  let v := if flat then min (s.stpV (F.STP_VSTART_V k)) (s.stpV (F.STP_VSTOP_V k)) else s.stpV (F.STP_VSTART_V k)
  ((s.coilsOn k).setStpState k 1).modStp k (fun x =>
    { x with vel := v, frac := 0, neg := target < s.stpPos k, flat := flat, hard := none, stopping := none, decel := false, updatedAt := s.now })

/-- GO (R249): from IDLE or STAND it starts the committed move, a profile set whose commit still waits taken with it (DEDUCED, log 70); at any other time it is refused
with STP_CMD.  In the kettle state, which keeps the bridges off (R240), it starts nothing (log 70). -/
def State.stpGo (s : State) (k : Nat) : State :=
  if !s.stpEn k then s
  else if s.stpState k ≠ 0 && s.stpState k ≠ 6 then s.stpCmdRefused k
  else if s.on F.FCL_STAT_KETTLE then s
  else
    let s1 := if s.on (ShadowSet.stpProfile k).pend then s.doCopy (.stpProfile k) else s
    let target := s1.gai (F.STP_TARGET_POS k)
    let d := (target - s1.stpPos k).natAbs
    if d = 0 then (s1.coilsOn k).stand k else s1.startMove k target d

/-- STOP (R249): deceleration along the Down segments, short of TARGET or at it.  latch tells a latch's action (R252). -/
def State.stpStop (s : State) (k : Nat) (latch : Bool) : State :=
  if s.stpEn k && s.stpMoving k then s.modStp k (fun x => { x with stopping := some (latch && x.stopping != some false) }) else s

/-- The bit that tells how a move was ended. -/
def State.stopBit (s : State) (k : Nat) (latch : Bool) : State := if latch then s.p (F.STP_STAT_LATCHSTOP k) 1 else s.p (F.STP_STAT_STOPPED k) 1

/-- HALT (R249): the step train ends at once. -/
def State.stpHalt (s : State) (k : Nat) (latch : Bool) : State :=
  if s.stpEn k && s.stpMoving k then (s.stopBit k latch).stand k else s

/-- A word to slice 24 + 2k (R216): its CMD; a reserved one is refused with STP_CMD. -/
def State.stpWord (s : State) (k v : Nat) : State :=
  match bits v 31 28 with
  | 1 => s.stpGo k
  | 2 => s.stpStop k false
  | 3 => s.stpHalt k false
  | _ => s.stpCmdRefused k

/-- STP_GO (R249). -/
def execStpGo (k : Nat) (s : State) : Host.Outcome State Fault Refusal := done (s.stpGo k)
/-- STP_STOP (R249). -/
def execStpStop (k : Nat) (s : State) : Host.Outcome State Fault Refusal := done (s.stpStop k false)
/-- STP_HALT (R249). -/
def execStpHalt (k : Nat) (s : State) : Host.Outcome State Fault Refusal := done (s.stpHalt k false)

/-- Microsteps left to the target, in 1/10^12 (the part of the present microstep taken off). -/
def State.remaining (s : State) (k : Nat) : Nat := (s.gai (F.STP_TARGET_POS k) - s.stpPos k).natAbs * 10 ^ 12 - (s.stpOf k).frac

/-- Whether the remaining distance r is at most the stopping distance of R245 at speed v, compared without division. -/
def State.stopReached (s : State) (k v r : Nat) (strict : Bool) : Bool :=
  let v1 := s.stpV (F.STP_V1_V k)
  let vs := s.stpV (F.STP_VSTOP_V k)
  let a1 := s.stpA (F.STP_A1_A k)
  let a2 := s.stpA (F.STP_A2_A k)
  let need := if v1 < v then (v * v - v1 * v1) * a1 + (v1 * v1 - vs * vs) * a2 else (v * v - vs * vs) * a2
  if strict then 2 * a1 * a2 * r < need else 2 * a1 * a2 * r ≤ need

/-- One microsecond down the segments (R245): at A2 above V1, at A1 below it, not below the floor. -/
def State.slowed (s : State) (k v floor : Nat) : Nat :=
  let v1 := s.stpV (F.STP_V1_V k)
  if v1 < v then max (v - s.stpA (F.STP_A2_A k)) (max v1 floor) else max (v - s.stpA (F.STP_A1_A k)) floor

/-- The deceleration to the target has begun, or begins in this update (R245). -/
def State.decelNow (s : State) (k r : Nat) : Bool :=
  let x := s.stpOf k
  !x.flat && (x.decel || x.stopping.isSome || s.stopReached k x.vel r false)

/-- The speed and state after one update of a move with r left (R245, R247, R248). -/
def State.nextSpeed (s : State) (k r : Nat) : Nat × Nat :=
  let x := s.stpOf k
  let v := x.vel
  let v1 := s.stpV (F.STP_V1_V k)
  let vm := s.stpV (F.STP_VMAX_V k)
  let vs := s.stpV (F.STP_VSTOP_V k)
  let down : Nat → Nat := fun w => if v1 < w then 4 else 5
  match x.hard with
  | some rate => (max (v - rate) (min v vs), down v)
  | none =>
    if x.flat then (v, 3)
    else if s.decelNow k r then (if v ≤ vs then v else s.slowed k v vs, down v)
    else if vm < v then (s.slowed k v vm, down v)
    else if v < v1 then (min v1 (v + s.stpA (F.STP_A1_A k)), 1)
    else if v < vm then (min vm (v + s.stpA (F.STP_A2_A k)), 2)
    else (v, 3)

/-- A committed profile set takes effect during a move (R247, R248): where the target can no longer be reached along the segments, a constant
deceleration to it, HARDSTOP and STP_DECEL. -/
def State.profileCopied (s : State) (k : Nat) : State :=
  let x := s.stpOf k
  let r := s.remaining k
  let vs := s.stpV (F.STP_VSTOP_V k)
  if s.stpMoving k && s.stopReached k x.vel r true && 0 < r then
    ((s.modStp k (fun y => { y with hard := some (ceilDiv (x.vel * x.vel - vs * vs) (2 * r)) })).p (F.STP_STAT_HARDSTOP k) 1).raise (90 + k) cSTP_DECEL 0 .a
      |>.p (F.STP_STAT_FAULT k) cSTP_DECEL
  else s.modStp k (fun y => { y with decel := false })

/-- The generator's speed and segment after an update. -/
def State.speedTo (s : State) (k v st : Nat) : State :=
  let s1 := if s.stpState k = st then s else s.setStpState k st
  (s1.modStp k (fun x => { x with vel := v })).pi (F.STP_SPEED_V k) (if (s.stpOf k).neg then -((v / 1000000 : Nat) : Int) else ((v / 1000000 : Nat) : Int))

/-- One microsecond of a move (R245, R249): the microsteps issued, then the new speed. -/
def State.moveStep (s : State) (k : Nat) : State :=
  let x := s.stpOf k
  let run := x.frac + x.vel
  let left := (s.gai (F.STP_TARGET_POS k) - s.stpPos k).natAbs
  let steps := min left (run / 10 ^ 12)
  let p := if x.neg then s.stpPos k - (steps : Nat) else s.stpPos k + (steps : Nat)
  let s1 := ((s.setPos k p).modStp k (fun y => { y with frac := run - steps * 10 ^ 12 })).count 0x3A k steps
  if steps = left then (match x.stopping with | some l => s1.stopBit k l | none => s1).stand k
  else
    let nv := s1.nextSpeed k (s1.remaining k)
    let s1 := s1.modStp k (fun y => { y with decel := s1.decelNow k (s1.remaining k) })
    match x.stopping with
    | some l =>
      if nv.1 ≤ s.stpV (F.STP_VSTOP_V k) then (s1.stopBit k l).stand k
      else s1.speedTo k nv.1 nv.2
    | none => s1.speedTo k nv.1 nv.2

/-- PROFILE_UPDATE (R245, R247): every microsecond; a committed set is copied first. -/
def execProfileUpdate (k : Nat) (s : State) : Host.Outcome State Fault Refusal :=
  if s.stpEn k && s.g (F.STP_CTRL_MODE k) = 0 && (s.stpOf k).updatedAt + usTicks ≤ s.now then
    let s0 := s.modStp k (fun x => { x with updatedAt := s.now })
    let s1 := if s0.reached (.stpProfile k) then (s0.doCopy (.stpProfile k)).profileCopied k else s0
    done (if s1.stpMoving k then s1.moveStep k else s1)
  else .next s

/-- HOLDT_EXPIRE (R250): after HOLDT in STAND the coils are held, off or shorted. -/
def execHoldtExpire (k : Nat) (s : State) : Host.Outcome State Fault Refusal :=
  let x := s.stpOf k
  if s.stpEn k && s.stpState k = 6 && x.coils = .run && x.stoodAt + s.g (F.STP_CURR_HOLDT k) * 10 * msTicks ≤ s.now then
    done (s.modStp k (fun y => { y with coils := match s.g (F.STP_CTRL_STAND k) with | 0 => .hold | 1 => .off | _ => .short }))
  else .next s

/-- A port's registers are written only by its owner (R32, R215). -/
def State.ownsPort (s : State) (q : Requester) (first : Nat) : Bool := s.owns q (sliceRid first)

/-- A write of POS (R250): in IDLE or STAND, by the port's owner. -/
def State.posWrite (s : State) (q : Requester) (k v : Nat) : State :=
  if !s.ownsPort q (24 + 2 * k) then s.accessFault q cNOT_OWNER
  else if s.stpState k ≠ 0 && s.stpState k ≠ 6 then s.unitFault .STP k q cSTATE_REFUSED
  else
    let s1 := s.setPos k (toSigned 32 v)
    if s.stpState k = 6 then s1.setStpState k 0 else s1

/-- LATCH_EDGE (R252): a filtered switch edge with the stamp of its first accepted sample. -/
def execLatchEdge (k : Nat) (falling : Bool) (stamp : Nat) (s : State) : Host.Outcome State Fault Refusal :=
  if s.stpEn k && s.g (F.STP_CTRL_MODE k) = 0 then
    let s1 := s.p (F.STP_STAT_SW k) (!falling).toNat
    if s.on (F.STP_LATCH_ARM k) && s.on (F.STP_LATCH_EDGE k) == falling && s.g (F.STP_STAT_DIRST k) = s.g (F.STP_LATCH_LDIR k)
        && s.stpPos k = (s.stpOf k).ext then
      let s2 := ((((s1.pi (F.STP_LPOS_POS k) (s.stpPos k)).p (F.STP_LTIME_LO_T k) stamp).p (F.STP_LTIME_HI_T k) (stamp / 2 ^ 32)).p
        (F.STP_LATCH_ARM k) 0).p (F.STP_LATCH_LATCHED k) 1
      match s.g (F.STP_LATCH_LACT k) with
      | 1 => done (s2.stpStop k true)
      | 2 => done (s2.stpHalt k true)
      | _ => done s2
    else done s1
  else .next s

/-! ### The choppers (R243, R244) -/

/-- A coil's chopper: when its bridge turns (or turned) on, and the consecutive cycles that missed the target. -/
def State.chopOf (s : State) (k coil : Nat) : Nat × Nat := if coil = 0 then (s.stpOf k).chopA else (s.stpOf k).chopB

def State.setChop (s : State) (k coil : Nat) (c : Nat × Nat) : State :=
  s.modStp k (fun x => if coil = 0 then { x with chopA := c } else { x with chopB := c })

/-- The target of a coil in mA (R244, R250): the current the coils carry, times the cosine (A) or sine (B) of the position's angle, from a table of 1,024 points. -/
def State.coilTarget (s : State) (k coil : Nat) : Int :=
  let i := match (s.stpOf k).coils with | .run => s.g (F.STP_CURR_IRUN k) | .hold => s.g (F.STP_CURR_IHOLD k) | _ => 0
  let point := ((s.stpPos k * (2 ^ (8 - s.g (F.STP_CTRL_MSTEP k)) : Nat)) % 1024).toNat
  quantise 114 (i * (if coil = 0 then cos48 (192 * point) else sin48 (192 * point))) (2 ^ 48)

/-- TOFF in ticks, and BLANK. -/
def State.toff (s : State) (k : Nat) : Nat := 25 * s.g (F.STP_CHOP_TOFF k)
def State.blankTicks (s : State) (k : Nat) : Nat := 5 * s.g (F.STP_CHOP_BLANK k)

/-- What a coil's bridge does. -/
inductive Drive where
  | off
  | forward
  | reverse
  | slow
  deriving DecidableEq, Repr, Inhabited

/-- What the bridge of a coil does now (R243, R250): it drives the coil from the turn-on to the target, then decays fast for FAST/256 of TOFF and slowly for the
rest; off, or shorted, in a standstill that asks for it. -/
def State.coilDrive (s : State) (k coil : Nat) : Drive :=
  let on := (s.chopOf k coil).1
  match (s.stpOf k).coils with
  | .off => .off
  | .short => .slow
  | _ => if on ≤ s.now then .forward else if 256 * (s.now + s.toff k - on) < s.g (F.STP_CHOP_FAST k) * s.toff k then .reverse else .slow

/-- The port runs its choppers and the coil's ADC slot is on its schedule. -/
def State.chopLive (s : State) (k coil : Nat) : Bool :=
  s.stpEn k && s.g (F.STP_CTRL_MODE k) = 0 && s.stpState k ≠ 0xF && coil < 2 && s.adcLive [40 + 2 * k + coil]

/-- STP_OPEN (R243): the comparator of a coil with its current in mA, while the bridge drives the coil.  After BLANK, a current at the target ends the on-time; TONMAX
without it ends a cycle that missed, and the sixteenth in a row is STP_OPEN. -/
def execStpOpen (k coil cur : Nat) (s : State) : Host.Outcome State Fault Refusal :=
  let c := s.chopOf k coil
  if s.chopLive k coil && s.coilDrive k coil = .forward then
    if c.1 + s.blankTicks k ≤ s.now && (s.coilTarget k coil).natAbs ≤ cur then done (s.setChop k coil (s.now + s.toff k, 0))
    else if c.1 + s.g (F.STP_CHOP_TONMAX k) * usTicks ≤ s.now then
      done (if 15 ≤ c.2 then s.stpFault k cSTP_OPEN else s.setChop k coil (s.now + s.toff k, c.2 + 1))
    else .next s
  else .next s

/-- A coil's current, in mA, is above 1.5 x 4,095 mA, or above twice the target during blanking (R243). -/
def State.coilOver (s : State) (k coil cur : Nat) : Bool :=
  let on := (s.chopOf k coil).1
  3 * 4095 < 2 * cur || (s.coilDrive k coil = .forward && s.now < on + s.blankTicks k && 2 * (s.coilTarget k coil).natAbs < cur)

/-- STP_SHORT (R243): an over-current of a coil. -/
def execStpShort (k coil cur : Nat) (s : State) : Host.Outcome State Fault Refusal :=
  if s.chopLive k coil && s.coilOver k coil cur then done (s.stpFault k cSTP_SHORT) else .next s

/-! ### Register writes of the ports (R215, R235 and the maps) -/

def stpSlices (k : Nat) : List Nat := [24 + 2 * k, 25 + 2 * k]

/-- A unit reset of MOTn (R37, R38): every register to its reset value, the bridge off. -/
def State.motReset (s : State) (n : Nat) : State :=
  let s1 := (s.portPads (motPads n) 0).resetBlock .MOT n
  { s1 with mot := vmod s1.mot n (fun _ => {}) }.dropCommits (.MOT, n)

/-- A write of MOTn.CTRL: its fields but EN only in OFF or FAULT; EN sets only with the port's resources owned and its bus watched (R215, R235). -/
def State.motCtrlWrite (s : State) (q : Requester) (n v : Nat) : State :=
  let was := s.on (F.MOT_CTRL_EN n)
  let old := s.word .MOT_CTRL n 0
  if bit v 31 then s.motReset n
  else if bits v 30 29 = 3 || bits v 28 27 = 3 || s.blockCount .STP ≤ bits v 20 17 then s.unitFault .MOT n q cRESERVED_ENC
  else if bits v 30 17 ≠ bits old 30 17 && s.motState n ≠ mOFF && s.motState n ≠ mFAULT then s.unitFault .MOT n q cSTATE_REFUSED
  else if bit v 0 && !was && !(s.ownsAll q (motSlices n) (motSlots n) (motPads n) && s.isBusmon (bits v 20 17)) then
    s.unitFault .MOT n q cSTATE_REFUSED
  else
    let s1 := s.setWord .MOT_CTRL n 0 (bits v 30 17 * 2 ^ 17 + v % 2)
    if bit v 0 && !was then ((s1.portPads (motPads n) 3).adcOn (motSlots n)).modMot n (fun m => { m with ofsDone := false, indexed := false })
    else if !bit v 0 && was then
      let s2 := (s1.portPads (motPads n) 0).modMot n (fun m => { m with desat := false })
      if s.motState n = mOFF then s2 else s2.setMotState n mOFF
    else s1

/-- The reserved encodings of MOTn's other words. -/
def State.motReserved (s : State) (n : Nat) (r : Reg) (v : Nat) : Bool :=
  match r with
  | .MOT_CFG => bits v 31 26 == 0 || bits v 15 0 < 16
  | .MOT_PWM => bits v 31 16 < 3125 || 62500 < bits v 31 16 || bits v 7 2 < 24 || 60 < bits v 7 2 || bits v 1 0 == 3
  | .MOT_PHOFS => s.g (F.MOT_PWM_PERIOD n) ≤ bits v 15 0
  | .MOT_RATED => bits v 15 8 < 1 || 100 < bits v 15 8 || bits v 7 0 < 1 || 100 < bits v 7 0
  | .MOT_ALIGN => bits v 19 12 == 0
  | .MOT_RAMP => bits v 19 12 == 0
  | .MOT_LIM => bits v 31 16 == 0 || bits v 15 8 == 0
  | _ => false

/-- The words that may be written only in OFF or FAULT: CFG and the parameter words. -/
def motParam : Reg → Bool
  | .MOT_CFG => true
  | .MOT_RATED => true
  | .MOT_ALIGN => true
  | .MOT_RAMP => true
  | .MOT_SREG => true
  | .MOT_MODEL => true
  | .MOT_MODEL2 => true
  | .MOT_GEAR => true
  | .MOT_LIM => true
  | _ => false

/-- A unit reset of STPk (R37, R38). -/
def State.stpReset (s : State) (k : Nat) : State :=
  let s1 := (s.portPads (stpPads k) 0).resetBlock .STP k
  { s1 with stp := vmod s1.stp k (fun _ => {}) }.dropCommits (.STP, k)

/-- BUSMON's thresholds are in order (R235). -/
def State.busOk (s : State) (k : Nat) : Bool :=
  s.g (F.STP_BUS0_VBRAKE k) < s.g (F.STP_BUS1_VOV1 k) && s.g (F.STP_BUS1_VOV1 k) < s.g (F.STP_BUS1_VOV2 k) && 0 < s.g (F.STP_BUS0_HYST k)

/-- A write of STPk.CTRL (R215, R235). -/
def State.stpCtrlWrite (s : State) (q : Requester) (k v : Nat) : State :=
  let was := s.on (F.STP_CTRL_EN k)
  let old := s.word .STP_CTRL k 0
  if bit v 31 then s.stpReset k
  else if 2 ≤ bits v 30 29 || bits v 23 22 = 3 || 8 < bits v 21 18 || (bit v 0 && !was && bits v 30 29 = 1 && !s.busOk k) then
    s.unitFault .STP k q cRESERVED_ENC
  else if bits v 30 18 ≠ bits old 30 18 && was then s.unitFault .STP k q cSTATE_REFUSED
  else if bit v 0 && !was && !s.ownsAll q (stpSlices k) (stpSlots k) (stpPads k) then s.unitFault .STP k q cSTATE_REFUSED
  else
    let s1 := s.setWord .STP_CTRL k 0 (bits v 30 18 * 2 ^ 18 + v % 2)
    if bit v 0 && !was then ((s1.portPads (stpPads k) 3).adcOn (stpSlots k)).setStpState k (if bits v 30 29 = 1 then 7 else 0)
    else if !bit v 0 && was then
      (((((s1.portPads (stpPads k) 0).setStpState k 0).p (F.STP_BUSSTAT_CHOP_BAD k) 0).p (F.STP_BUSSTAT_CHOP_ON k) 0).p (F.STP_SPEED_V k) 0).modStp k (fun x =>
        { x with vel := 0, frac := 0, coils := .off, stopping := none, hard := none, lowSince := none, wrongSince := none, wrongDone := false, ov2Done := false, divOpen := false })
    else s1

/-- The reserved encodings of STPk's other words. -/
def stpReserved (r : Reg) (v : Nat) : Bool :=
  match r with
  | .STP_CHOP => bits v 31 24 < 5 || bits v 23 16 < 10 || bits v 7 0 == 0
  | .STP_CURR => bits v 31 20 < bits v 19 8
  | .STP_VSTART => bits v 23 0 == 0
  | .STP_VSTOP => bits v 23 0 == 0
  | .STP_LATCH => bits v 28 27 == 3
  | _ => false

/-- The words that may be written only while EN is 0: CHOP, CURR and the BUS registers. -/
def stpIdleOnly : Reg → Bool
  | .STP_CHOP => true
  | .STP_CURR => true
  | .STP_BUS0 => true
  | .STP_BUS1 => true
  | .STP_BUS2 => true
  | _ => false

end Sys2Proof.Machine
end

