-- ==== Sys2Proof/Machine/Loops.lean ====
section
/-! DEFINITION. The high-voltage ports and the fuser ports (R255 to R279). -/

namespace Sys2Proof.Machine

/-! ### High voltage (R270 to R275) -/

/-- The states of HVk.STAT.STATE. -/
def hvOFF : Nat := 0
def hvRUN : Nat := 1
def hvHOLD : Nat := 2
def hvFAULT : Nat := 3

/-- The codes of R279. -/
def cHV_CMD : Nat := 0x41
def cHV_BAND : Nat := 0x42
def cHV_ARC : Nat := 0x43
def cHV_SHORT : Nat := 0x44
def cHV_OPEN : Nat := 0x45
def cHV_STALE : Nat := 0x46
def cFUS_ZVS : Nat := 0x51
def cFUS_RES : Nat := 0x52
def cFUS_OC : Nat := 0x53
def cFUS_OT : Nat := 0x54
def cFUS_TH : Nat := 0x55
def cFUS_BAND : Nat := 0x56
def cFUS_STALE : Nat := 0x57

def State.hvOf (s : State) (k : Nat) : Hv := vget s.hv k
def State.modHv (s : State) (k : Nat) (f : Hv → Hv) : State := { s with hv := vmod s.hv k f }
def State.hvEn (s : State) (k : Nat) : Bool := k < s.blockCount .HV && s.on (F.HV_CTRL_EN k)
def State.hvState (s : State) (k : Nat) : Nat := s.g (F.HV_STAT_STATE k)
def State.hvBank (s : State) (k : Nat) : Nat := s.g (F.HV_STAT_BANK k)

/-- REF takes the values of a bank, of the SETA and SETB in effect (R271). -/
def State.hvRef (s : State) (k bank : Nat) : State :=
  s.setWord .HV_REF k 0 (match bank with | 1 => s.active .HV_SETA k 0 | 2 => s.active .HV_SETB k 0 | _ => 0)

/-- The folios whose STATIONS mask selects the port's station (R274). -/
def State.hvFolios (s : State) (k : Nat) (f : Folio) : Bool := f.inPath && f.usesStation (s.g (F.HV_CTRL_STN k))

/-- The output is off: APPLIED reads zero, and no DRIVE waits. -/
def State.hvOff (s : State) (k : Nat) : State := (s.modHv k (fun h => { h with next := none })).setWord .HV_APPLIED k 0 0

/-- A class-A fault of an HV port, with its code in STAT.FAULT. -/
def State.hvFaultA (s : State) (k code : Nat) : State := (s.p (F.HV_STAT_FAULT k) code).raise (102 + k) code 0 .a 7

/-- A class-A fault that spoils the station's folios (R274, R275). -/
def State.hvSpoilA (s : State) (k code : Nat) : State :=
  (s.p (F.HV_STAT_FAULT k) code).raiseSpoil (102 + k) code 0 .a (s.hvFolios k) 7

/-- A class-B fault: FAULT, output off, and the station's folios spoiled (R275). -/
def State.hvFaultB (s : State) (k code : Nat) : State :=
  ((((s.p (F.HV_STAT_FAULT k) code).p (F.HV_STAT_STATE k) hvFAULT).p (F.HV_STAT_INBAND k) 0).hvOff k).raiseSpoil (102 + k) code 0 .b (s.hvFolios k) 7

/-- DRIVE (R271): resets the watchdog; in RUN with a bank selected it waits for the next carrier period. -/
def State.hvDrive (s : State) (k dc ac : Nat) : State :=
  let s1 := s.modHv k (fun h => { h with age := 0, driven := some (s.now, dc, ac) })
  if s.hvState k = hvRUN && s.hvBank k ≠ 0 && !s.on F.FCL_STAT_KETTLE then s1.modHv k (fun h => { h with next := some (dc, ac) }) else s1

/-- LEVEL (R271): REF takes the bank's values; a DRIVE of the same tick takes effect after it.  The counts without DRIVE and of a short run on between A and B
(R275).  In the kettle state every bank stays 0 (R275). -/
def State.hvLevel (s : State) (k bank : Nat) : State :=
  if s.on F.FCL_STAT_KETTLE then s
  else
    let fresh : Bool := s.hvBank k = 0
    let s1 := (((s.p (F.HV_STAT_BANK k) bank).hvRef k bank).p (F.HV_STAT_INBAND k) 0).modHv k (fun h =>
      { h with lastLevel := s.now, bandDone := false, age := if fresh then 0 else h.age
               shortSince := if fresh || bank = 0 then none else h.shortSince
               outSince := if bank = 0 then none else some (s.now + s.ga (F.HV_ARC_SETTLE k) * usTicks) })
    let s2 := if bank = 0 then s1.hvOff k else s1
    match (s.hvOf k).driven with
    | some (t, dc, ac) => if t = s.now then s2.hvDrive k dc ac else s2
    | none => s2

/-- A word to slice 48 + k (R271): a reserved one is refused with HV_CMD; a port that is not enabled takes no command (log 20). -/
def State.hvWord (s : State) (k v : Nat) : State :=
  if bits v 31 28 = 1 && bits v 27 2 = 0 && bits v 1 0 ≠ 3 then (if s.hvEn k then s.hvLevel k (bits v 1 0) else s)
  else if bits v 31 28 = 2 then (if s.hvEn k then s.hvDrive k (bits v 27 14) (bits v 13 0) else s)
  else s.hvFaultA k cHV_CMD

/-! ### The carrier and the duty (R271, R272) -/

/-- The carrier's phase in 1/125,000 period, and the angle of the AC term in 1/196,608 turn, both counted from cord time 0 (log 71). -/
def State.carrier (s : State) (k : Nat) : Nat := s.now * s.g (F.HV_CFG_FCAR k) % 125000
def State.acAngle (s : State) (k : Nat) : Nat := s.g (F.HV_CFG_FAC k) * s.now * 196608 / 250000000

/-- The AC duty that counts: with FAC = 0 the AC term is absent (R272). -/
def State.acDuty (s : State) (k : Nat) : Nat := if s.g (F.HV_CFG_FAC k) = 0 then 0 else s.g (F.HV_APPLIED_AC k)

/-- The instantaneous duty in 2^-70 (R272): DMAX/256 x (DC + AC sin) / 16,384, held between 0 and DMAX. -/
def State.hvDuty (s : State) (k : Nat) : Int :=
  let dmax : Int := (s.g (F.HV_CFG_DMAX k) : Nat)
  clampI 0 (dmax * 2 ^ 62) (dmax * ((s.g (F.HV_APPLIED_DC k) * 2 ^ 48 : Nat) + (s.acDuty k : Nat) * sin48 (s.acAngle k)))

/-- The level of the transformer drive (R272): high for the duty's share of each carrier period. -/
def State.hvDrv (s : State) (k : Nat) : Bool :=
  s.hvState k = hvRUN && s.hvBank k ≠ 0 && (s.carrier k : Int) * 2 ^ 70 < s.hvDuty k * 125000

/-- A carrier period begins in this tick: a DRIVE that waits is applied (R271). -/
def State.hvCarrier (s : State) (k : Nat) : State :=
  match (s.hvOf k).next with
  | some (dc, ac) =>
    if s.carrier k < s.g (F.HV_CFG_FCAR k) then
      ((s.modHv k (fun h => { h with next := none })).p (F.HV_APPLIED_DC k) dc).p (F.HV_APPLIED_AC k) ac
    else s
  | none => s

/-- HV_LEVEL (R271): bits [27:0] of a LEVEL event. -/
def execHvLevel (k v : Nat) (s : State) : Host.Outcome State Fault Refusal := done (s.hvWord k (2 ^ 28 + v % 2 ^ 28))

/-- HV_DRIVE (R271): bits [27:14] and [13:0] of a DRIVE event. -/
def execHvDrive (k dc ac : Nat) (s : State) : Host.Outcome State Fault Refusal :=
  done (s.hvWord k (2 * 2 ^ 28 + dc % 2 ^ 14 * 2 ^ 14 + ac % 2 ^ 14))

/-- HV_BAND (R274). -/
def execHvBand (k : Nat) (s : State) : Host.Outcome State Fault Refusal :=
  match (s.hvOf k).outSince with
  | some t =>
    if s.hvEn k && s.hvBank k ≠ 0 && !s.on (F.HV_STAT_INBAND k) && t + s.ga (F.HV_LIMIT_BANDT k) * 25000 ≤ s.now then
      done ((s.modHv k (fun h => { h with outSince := none, bandDone := true })).hvSpoilA k cHV_BAND)
    else .next s
  | none => .next s

/-- HV_ARC (R275): an instantaneous current at or above the IARC in effect. -/
def execHvArc (k : Nat) (idc : Int) (s : State) : Host.Outcome State Fault Refusal :=
  if s.hvEn k && s.hvState k = hvRUN && s.ga (F.HV_ARC_IARC k) ≤ idc.natAbs then
    let s1 := (((s.p (F.HV_STAT_STATE k) hvHOLD).hvOff k).inc (F.HV_STAT_ARCS k)).modHv k (fun h => { h with holdAt := s.now })
    done (if s.hvBank k ≠ 0 then s1.hvSpoilA k cHV_ARC else s1.hvFaultA k cHV_ARC)
  else .next s

/-- HV_ARC_HOLD_END (R275): 1 ms after the arc the output resumes at zero drive. -/
def execHvArcHoldEnd (k : Nat) (s : State) : Host.Outcome State Fault Refusal :=
  if s.hvEn k && s.hvState k = hvHOLD && (s.hvOf k).holdAt + msTicks ≤ s.now then done ((s.p (F.HV_STAT_STATE k) hvRUN).hvOff k) else .next s

/-- HV_SHORT (R275): below 10 % of the reference with the duty at DMAX for 10 ms. -/
def execHvShort (k : Nat) (s : State) : Host.Outcome State Fault Refusal :=
  match (s.hvOf k).shortSince with
  | some t => if s.hvEn k && s.hvState k = hvRUN && t + 10 * msTicks ≤ s.now then done (s.hvFaultB k cHV_SHORT) else .next s
  | none => .next s

/-- HV_OPEN (R275): VDC at full scale for 1 ms. -/
def execHvOpen (k : Nat) (s : State) : Host.Outcome State Fault Refusal :=
  match (s.hvOf k).openSince with
  | some t => if s.hvEn k && s.hvState k = hvRUN && t + msTicks ≤ s.now then done (s.hvFaultB k cHV_OPEN) else .next s
  | none => .next s

/-- Since when a condition has held. -/
def since (now : Nat) (was : Option Nat) (b : Bool) : Option Nat := if b then some (was.getD now) else none

/-- The band and the times of an HV port at a result instant (R273 to R275). -/
def State.hvChecks (s : State) (k : Nat) (x : HvSample) : State :=
  let h := s.hvOf k
  let pol : Int := if s.on (F.HV_CTRL_POL k) then -1 else 1
  let v := pol * x.vdc
  let q := if s.g (F.HV_CTRL_KIND k) = 2 then pol * x.idc else v
  let ref := pol * s.gi (F.HV_REF_DC k)
  let settled : Bool := s.hvBank k ≠ 0 && decide (h.lastLevel + s.ga (F.HV_ARC_SETTLE k) * usTicks ≤ s.now)
  let inb : Bool := settled && decide ((q - ref).natAbs ≤ 128 * s.ga (F.HV_LIMIT_BAND k))
  let full : Bool := decide (16383 ≤ s.g (F.HV_APPLIED_DC k) + s.acDuty k)
  (s.p (F.HV_STAT_INBAND k) inb.toNat).modHv k (fun h =>
    { h with outSince := if inb || s.hvBank k = 0 then none else if h.bandDone then none else some (h.outSince.getD s.now)
             bandDone := h.bandDone && !inb
             shortSince := since s.now h.shortSince (s.hvState k = hvRUN && full && decide (10 * v.natAbs < ref.natAbs))
             openSince := since s.now h.openSince (decide (32767 ≤ v)) })

/-- The watchdog of an HV port (R275): results without DRIVE while the bank is not 0. -/
def State.hvAge (s : State) (k : Nat) : State :=
  if s.hvBank k = 0 || s.hvState k = hvFAULT then s
  else if s.g (F.HV_CFG_CMDWD k) ≤ (s.hvOf k).age + 1 then s.hvFaultB k cHV_STALE
  else s.modHv k (fun h => { h with age := h.age + 1 })

/-! ### Results (R257) -/

/-- Results of a unit to be readable 500 ticks after their instant. -/
def State.later (s : State) (src : Nat) (l : List (FieldRef × Int)) : State :=
  { s with results := s.results ++ l.map (fun x => (src, x.1, x.2)), resultsAt := s.now + 500 }

/-- A unit that stops or is reset publishes nothing more. -/
def State.dropResults (s : State) (src : Nat) : State := { s with results := s.results.filter (fun x => x.1 != src) }

/-- The results of the last instant become readable. -/
def State.publish (s : State) : State :=
  if s.results ≠ [] && s.resultsAt ≤ s.now then s.results.foldl (fun a x => a.pi x.2.1 x.2.2) { s with results := [] } else s

/-- A result of an HV port (R257): SETA, SETB, LIMIT and ARC take effect, and the measurements follow. -/
def State.hvResult (s : State) (k : Nat) (x : HvSample) : State :=
  let s1 := ((((s.setActive .HV_SETA k 0 (s.word .HV_SETA k 0)).setActive .HV_SETB k 0 (s.word .HV_SETB k 0)).setActive .HV_LIMIT k 0
    (s.word .HV_LIMIT k 0)).setActive .HV_ARC k 0 (s.word .HV_ARC k 0)).hvRef k (s.hvBank k)
  ((s1.later (102 + k) [(F.HV_MEAS_VDC k, x.vdc), (F.HV_MEAS_IDC k, x.idc), (F.HV_MEAS2_VPP k, (x.vpp : Nat))]).hvChecks k x).hvAge k

/-! ### The fuser (R261 to R269) -/

/-- The states of R262. -/
def fuOFF : Nat := 0
def fuIDLE : Nat := 1
def fuRUN : Nat := 2
def fuCUT : Nat := 3
def fuFAULT : Nat := 4

def State.fusOf (s : State) (f : Nat) : Fus := vget s.fus f
def State.modFus (s : State) (f : Nat) (g : Fus → Fus) : State := { s with fus := vmod s.fus f g }
def State.fusEn (s : State) (f : Nat) : Bool := f < s.blockCount .FUS && s.on (F.FUS_CTRL_EN f)
def State.fusState (s : State) (f : Nat) : Nat := s.g (F.FUS_STAT_STATE f)

/-- The switching frequency for a drive, in 100 Hz (R261; log 10): FLOOR where that is higher. -/
def State.fusFreq (s : State) (f d : Nat) : Nat :=
  let hi := s.g (F.FUS_CFG_FMAX f)
  let lo := s.g (F.FUS_CFG_FMIN f)
  max (hi - d * (hi - lo) / 32768) (lo + (s.fusOf f).floor)

/-- The bridge is stopped. -/
def State.fusStop (s : State) (f : Nat) : State := (s.p (F.FUS_STAT_DRIVE f) 0).p (F.FUS_STAT_FREQ f) 0

/-- A drive is applied. -/
def State.fusApply (s : State) (f d : Nat) : State := (s.p (F.FUS_STAT_DRIVE f) d).p (F.FUS_STAT_FREQ f) (s.fusFreq f d)

/-- A class-B fault of a fuser port (R266): the bridge stops, CUT for FUS_OT and FAULT for the others; every folio in the path is spoiled, by
FUS_OT always and by the others with GATE. -/
def State.fusFault (s : State) (f code : Nat) : State :=
  let s1 := ((s.fusStop f).p (F.FUS_STAT_STATE f) (if code = cFUS_OT then fuCUT else fuFAULT)).p (F.FUS_FLT_FAULT f) code
  s1.raiseSpoil (114 + f) code 0 .b (fun x => x.inPath && (code == cFUS_OT || s.on (F.FUS_CTRL_GATE f))) 8

/-- A word to slice 60 + f (R261, R262, R269). -/
def State.fusWord (s : State) (f v : Nat) : State :=
  if !s.fusEn f then s
  else
    let d := if bit v 15 then 0 else bits v 14 0
    let s1 := s.modFus f (fun x => { x with lastCmd := s.now })
    if s.on F.FCL_STAT_KETTLE then s1
    else if s.fusState f = fuIDLE then if d = 0 then s1 else (s1.p (F.FUS_STAT_STATE f) fuRUN).fusApply f d
    else if s.fusState f = fuRUN then if d = 0 then (s1.p (F.FUS_STAT_STATE f) fuIDLE).fusStop f else s1.fusApply f d
    else s1

/-- FUS_DRIVE (R261). -/
def execFusDrive (f v : Nat) (s : State) : Host.Outcome State Fault Refusal := done (s.fusWord f v)

/-- FLOOR as the register shows it, in 500 Hz units, and the frequency that follows it. -/
def State.setFloor (s : State) (f x : Nat) : State :=
  let s1 := (s.modFus f (fun y => { y with floor := x })).p (F.FUS_FLT_FLOOR f) (x / 5)
  if s1.g (F.FUS_STAT_FREQ f) = 0 then s1 else s1.p (F.FUS_STAT_FREQ f) (s1.fusFreq f (s1.g (F.FUS_STAT_DRIVE f)))

/-- FUS_ZVS (R263): a capacitive turn-off; next tells that the cycle before was capacitive as well. -/
def execFusZvs (f : Nat) (next : Bool) (s : State) : Host.Outcome State Fault Refusal :=
  if s.fusEn f && s.g (F.FUS_STAT_FREQ f) ≠ 0 then
    let top := s.g (F.FUS_CFG_FMAX f) - s.g (F.FUS_CFG_FMIN f)
    let x := s.fusOf f
    let n := if top ≤ x.floor then (if next then x.atMax + 1 else 1) else 0
    let s1 := if s.g (F.FUS_FLT_ZVS f) = 0 then (s.p (F.FUS_FLT_FAULT f) cFUS_ZVS).raise (114 + f) cFUS_ZVS 0 .a 8 else s
    let s2 := ((s1.inc (F.FUS_FLT_ZVS f)).modFus f (fun y => { y with atMax := n, decayAt := if y.floor = 0 then s.now else y.decayAt })).setFloor f
      (min (x.floor + 5) top)
    done (if 16 ≤ n then s2.fusFault f cFUS_RES else s2)
  else .next s

/-- FLOOR_DECAY (R263): 100 Hz each second. -/
def execFloorDecay (f : Nat) (s : State) : Host.Outcome State Fault Refusal :=
  let x := s.fusOf f
  if f < s.blockCount .FUS && 0 < x.floor && x.decayAt + 1000 * msTicks ≤ s.now then
    done ((s.modFus f (fun y => { y with decayAt := s.now })).setFloor f (x.floor - 1))
  else .next s

/-- FUS_OC (R264): a resonant current, in mA, above IPKMAX. -/
def execFusOc (f ma : Nat) (s : State) : Host.Outcome State Fault Refusal :=
  if s.fusEn f && (s.fusState f = fuIDLE || s.fusState f = fuRUN) && s.g (F.FUS_LIM_IPKMAX f) < ma then done (s.fusFault f cFUS_OC) else .next s

/-- FUS_BAND (R268): INBAND 0 for BANDT with folios in the path. -/
def execFusBand (f : Nat) (s : State) : Host.Outcome State Fault Refusal :=
  match (s.fusOf f).outSince with
  | some t =>
    if s.fusEn f && s.on (F.FUS_CTRL_GATE f) && !s.on (F.FUS_STAT_INBAND f) && s.gath.folios.any Folio.inPath
        && t + s.g (F.FUS_BAND_BANDT f) * msTicks ≤ s.now then
      done (((s.modFus f (fun x => { x with outSince := none })).p (F.FUS_FLT_FAULT f) cFUS_BAND).raiseSpoil (114 + f) cFUS_BAND 0 .a Folio.inPath 8)
    else .next s
  | none => .next s

/-- FUS_STALE (R269): no drive command in RUN for CMDWD. -/
def execFusStale (f : Nat) (s : State) : Host.Outcome State Fault Refusal :=
  if s.fusEn f && s.fusState f = fuRUN && (s.fusOf f).lastCmd + s.g (F.FUS_CFG_CMDWD f) * 25000 ≤ s.now then done (s.fusFault f cFUS_STALE)
  else .next s

/-- A bias voltage above 97 % or below 3 % of the reference marks a thermistor open or shorted (R265, R302). -/
def thermBad (raw : Nat) : Bool := 97 * 65536 < 100 * raw || 100 * raw < 3 * 65536

/-- The temperature of a thermistor by the beta model, in 0.01 C (R265): a converted value (log 2). -/
def thermTemp (raw beta rnom : Nat) : Int := clampI (-32768) 32767 (Config.convert 120 [raw, beta, rnom])

/-- The centre temperature (R265): the mean of the valid centre thermistors. -/
def centre (a b : Option Int) : Option Int :=
  match a, b with
  | some x, some y => some ((x + y) / 2)
  | some x, none => some x
  | none, some y => some y
  | none, none => none

/-- STAT.INBAND (R267), and how long it has been 0 with folios in the path (R268). -/
def State.fusBand (s : State) (f : Nat) (ctr : Int) : State :=
  let near : Bool := decide ((ctr - (s.g (F.FUS_BAND_SETPT f) : Nat)).natAbs ≤ 50 * s.g (F.FUS_BAND_BANDW f))
  let bs := since s.now (s.fusOf f).bandSince near
  let inb : Bool := match bs with | some t => decide (t + s.g (F.FUS_BAND_BANDT f) * msTicks ≤ s.now) | none => false
  (s.p (F.FUS_STAT_INBAND f) inb.toNat).modFus f (fun x =>
    { x with bandSince := bs, outSince := since s.now x.outSince (!inb && s.gath.folios.any Folio.inPath) })

/-- A result of a fuser port (R257, R264 to R267). -/
def State.fusResult (s : State) (f : Nat) (x : FusSample) : State :=
  let one := fun (j raw : Nat) => thermTemp raw (s.g (F.FUS_THCFG_BETA f j)) (s.g (F.FUS_THCFG_RNOM f j))
  let ok := fun (j raw : Nat) => !thermBad raw && !(j < 2 && bit (s.g F.THM_PAIRCFG_FUSBRK) (2 * f + j))
  let val := fun (j raw : Nat) => if ok j raw then some (one j raw) else none
  let s1 := s.later (114 + f) [(F.FUS_TH01_TH0 f, one 0 x.th0), (F.FUS_TH01_TH1 f, one 1 x.th1), (F.FUS_ICUR_IPK f, (x.ipk : Nat)), (F.FUS_ICUR_I f, (x.icur : Nat)),
    (F.FUS_POWER_P f, (x.icur * s.g (F.FUS_SCALE_ICUR_FS f) * s.g (F.FUS_SCALE_VDC f) / 32768 : Nat)), (F.FUS_TEMP_EDGE f, one 2 x.th2)]
  let c := centre (val 0 x.th0) (val 1 x.th1)
  let s2 := s1.modFus f (fun y => { y with pairOk := !thermBad x.th0 && !thermBad x.th1 })
  let s3 := match c with | some t => (s2.later (114 + f) [(F.FUS_TEMP_CTR f, t)]).fusBand f t | none => s2
  let live : Bool := s3.fusState f = fuIDLE || s3.fusState f = fuRUN
  let hot := [val 0 x.th0, val 1 x.th1, val 2 x.th2].any (fun v => match v with | some t => decide ((s.g (F.FUS_LIM_OTLIM f) : Int) ≤ t) | none => false)
  if live && hot then s3.fusFault f cFUS_OT
  else if live && (c.isNone || thermBad x.th2) then s3.fusFault f cFUS_TH
  else s3

def hvSlots (k : Nat) : List Nat := [64 + 2 * k, 65 + 2 * k]
def fusSlots (f : Nat) : List Nat := (List.range 4).map (fun i => 88 + 4 * f + i)

/-- PORT_RESULT (R257): at every multiple of 25,000 ticks each enabled port's results and checks, while its ADC slots are on its schedule (R32). -/
def execPortResult (hv : Vector HvSample 12) (fus : Vector FusSample 2) (s : State) : Host.Outcome State Fault Refusal :=
  if s.now % 25000 = 0 then
    let s1 := forRange 0 12 (fun k a => if a.hvEn k && a.adcLive (hvSlots k) then a.hvResult k (vget hv k) else a) s
    done (forRange 0 2 (fun f a => if a.fusEn f && a.adcLive (fusSlots f) then a.fusResult f (vget fus f) else a) s1)
  else .next s

/-! ### Register writes (R256, R267, R270 and the maps) -/

/-- A block reset keeps the kettle gating of X13 (R343). -/
def State.gateKettle (s : State) (f : FieldRef) : State := if s.on F.FCL_STAT_KETTLE then s.p f 1 else s

/-- A unit reset of HVk (R37, R38). -/
def State.hvReset (s : State) (k : Nat) : State :=
  let s1 := ((s.portPads (hvPads k) 0).resetBlock .HV k).gateKettle (F.HV_STAT_KETTLE k)
  { s1 with hv := vmod s1.hv k (fun _ => {}) }.dropResults (102 + k)

/-- A KIND and STN pair that another enabled port holds, or a station that is absent (R270). -/
def State.hvPairTaken (s : State) (k kind stn : Nat) : Bool :=
  s.blockCount .STR ≤ stn || (List.range 12).any (fun j => j != k && s.hvEn j && s.g (F.HV_CTRL_KIND j) == kind && s.g (F.HV_CTRL_STN j) == stn)

/-- A write of HVk.CTRL (R256, R270). -/
def State.hvCtrlWrite (s : State) (q : Requester) (k v : Nat) : State :=
  let was := s.on (F.HV_CTRL_EN k)
  if bit v 31 then s.hvReset k
  else if bits v 30 29 = 3 || (bit v 0 && s.hvPairTaken k (bits v 30 29) (bits v 28 27)) then s.unitFault .HV k q cRESERVED_ENC
  else if bit v 0 && !was && !s.ownsAll q [48 + k] (hvSlots k) (hvPads k) then s.unitFault .HV k q cSTATE_REFUSED
  else
    let s1 := s.setWord .HV_CTRL k 0 (bits v 30 26 * 2 ^ 26 + v % 2)
    if bit v 0 && !was then (((s1.portPads (hvPads k) 3).adcOn (hvSlots k)).p (F.HV_STAT_STATE k) hvRUN).modHv k (fun _ => { lastLevel := s.now })
    else if !bit v 0 && was then
      (((((s1.portPads (hvPads k) 0).p (F.HV_STAT_STATE k) hvOFF).p (F.HV_STAT_BANK k) 0).p (F.HV_STAT_INBAND k) 0).hvRef k 0).hvOff k |>.modHv k (fun _ => {}) |>.dropResults (102 + k)
    else s1

/-- The reserved encodings of HVk's other words. -/
def hvReserved (r : Reg) (v : Nat) : Bool :=
  match r with
  | .HV_CFG => bits v 31 24 < 25 || 125 < bits v 31 24 || (bits v 23 12 ≠ 0 && bits v 23 12 < 500) || 4000 < bits v 23 12 || bits v 11 4 == 0 || bits v 3 0 == 0
  | .HV_SCALE => bits v 31 16 == 0 || bits v 15 0 == 0
  | .HV_LIMIT => bits v 15 8 == 0 || bits v 7 0 == 0
  | _ => false

/-- The words that may be written only while EN is 0 (R256). -/
def loopIdleOnly : Reg → Bool
  | .HV_CFG => true
  | .HV_SCALE => true
  | .FUS_CFG => true
  | .FUS_SCALE => true
  | .FUS_THCFG => true
  | _ => false

/-- The FUSBRK bits of a port clear with EN. -/
def State.clearFusbrk (s : State) (f : Nat) : State :=
  s.p F.THM_PAIRCFG_FUSBRK (setBits (s.g F.THM_PAIRCFG_FUSBRK) (2 * f + 1) (2 * f) 0)

/-- A unit reset of FUSf (R37, R38). -/
def State.fusReset (s : State) (f : Nat) : State :=
  let s1 := (((s.portPads (fusPads f) 0).resetBlock .FUS f).gateKettle (F.FUS_STAT_KETTLE f)).clearFusbrk f
  { s1 with fus := vmod s1.fus f (fun _ => {}) }.dropResults (114 + f)

/-- A write of FUSf.CTRL (R256, R262). -/
def State.fusCtrlWrite (s : State) (q : Requester) (f v : Nat) : State :=
  let was := s.on (F.FUS_CTRL_EN f)
  if bit v 31 then s.fusReset f
  else if bit v 0 && !was && !s.ownsAll q [60 + f] (fusSlots f) (fusPads f) then s.unitFault .FUS f q cSTATE_REFUSED
  else
    let s1 := s.setWord .FUS_CTRL f 0 (v % 4)
    if bit v 0 && !was then (((s1.portPads (fusPads f) 3).adcOn (fusSlots f)).p (F.FUS_STAT_STATE f) fuIDLE).modFus f (fun x => { x with lastCmd := s.now, bandSince := none, outSince := none })
    else if !bit v 0 && was then
      (((((s1.portPads (fusPads f) 0).p (F.FUS_STAT_STATE f) fuOFF).p (F.FUS_STAT_INBAND f) 0).fusStop f).clearFusbrk f).modFus f (fun x =>
        { x with bandSince := none, outSince := none }) |>.dropResults (114 + f)
    else s1

/-- The reserved encodings of FUSf's other words. -/
def fusReserved (r : Reg) (v : Nat) : Bool :=
  match r with
  | .FUS_CFG =>
    bits v 31 22 < 200 || 600 < bits v 31 22 || bits v 21 12 < 200 || 600 < bits v 21 12 || bits v 21 12 ≤ bits v 31 22 || bits v 7 0 == 0
  | .FUS_LIM => 0x7FFF < bits v 31 16
  | .FUS_SCALE => bits v 31 16 == 0
  | .FUS_THCFG => bits v 31 16 == 0 || bits v 15 0 == 0
  | .FUS_BAND => 0x7FFF < bits v 31 16 || bits v 15 8 == 0 || bits v 7 0 == 0
  | _ => false

/-- A write of FUSf.BAND is refused under a sheet (R267). -/
def State.fusBandLocked (s : State) (f : Nat) : Bool := s.on (F.FUS_CTRL_GATE f) && s.anyInPath

/-- A unit reset of LCE clears the APC results and affects no core. -/
def State.lceReset (s : State) : State := s.resetBlock .LCE 0

end Sys2Proof.Machine
end

