-- ==== Sys2Proof/Machine/Heat.lean ====
section
/-! DEFINITION. Temperature sensing and thermal levels (R299 to R306). -/

namespace Sys2Proof.Machine

/-- The codes of THM (R325, R333). -/
def cTHM_TS : Nat := 1
def cTHM_TS2 : Nat := 2
def cTHM_TX : Nat := 3
def cTHM_PAIR : Nat := 4
def cTHM_WARN : Nat := 5
def cTHM_TXWARN : Nat := 6
def cTHM_CRIT : Nat := 7
def cTHM_TXCRIT : Nat := 8
def cTHM_SHUT : Nat := 9

/-- THM raises a fault; SHUT's reason is 0x02 (R325, R333). -/
def State.thmFault (s : State) (code detail : Nat) (cls : Cls) : State := s.raise 7 code detail cls 2

def State.modThm (s : State) (f : Thm → Thm) : State := { s with thm := f s.thm }

/-! ### The grid of sensors (R299 to R301) -/

/-- The sensors directly above, below, left and right of TSk. -/
def neighbours (k : Nat) : List Nat :=
  (if 8 ≤ k then [k - 8] else []) ++ (if k < 24 then [k + 8] else []) ++ (if k % 8 = 0 then [] else [k - 1]) ++ (if k % 8 = 7 then [] else [k + 1])

/-- Inserts into a rising list. -/
def insertI (x : Int) : List Int → List Int
  | [] => [x]
  | y :: t => if x ≤ y then x :: y :: t else y :: insertI x t

/-- A list in rising order. -/
def sortI (l : List Int) : List Int := l.foldr insertI []

/-- Twice the median of two, three or four values (R300). -/
def median2 (l : List Int) : Int :=
  match sortI l with
  | [a, b] => a + b
  | [_, b, _] => 2 * b
  | [_, b, c, _] => b + c
  | _ => 0

/-- The largest value minus the smallest. -/
def spread (l : List Int) : Int :=
  match sortI l with
  | [] => 0
  | a :: t => (t.getLast?.getD a) - a

/-- The greatest of a list of values; d for none. -/
def maxI (d : Int) (l : List Int) : Int := match l with | [] => d | a :: t => t.foldl max a

/-- What the check of R300 and R301 gives for one sensor: its value in use (none where a broken sensor takes the hottest), and its consecutive
failures. -/
def sensorCheck (xs : Nat → Int) (broken : Nat) (fails k : Nat) : Option Int × Nat :=
  let ns := ((neighbours k).filter (fun j => !bit broken j)).map xs
  if bit broken k then (if 2 ≤ ns.length then some (median2 ns / 2) else none, fails)
  else if ns.length < 2 then (some (xs k), 0)
  else if 1600 < (2 * xs k - median2 ns).natAbs && spread ns ≤ 300 then (some (median2 ns / 2), fails + 1)
  else (some (xs k), 0)

/-- A sensor fails its sixteenth consecutive sample (R301): its bit of BROKEN, THM_TS, and THM_TS2 for a second declaration in one epoch. -/
def State.declareBroken (s : State) (k : Nat) : State :=
  let ep := s.g F.JRN_EPOCH_EPOCH
  let n := if s.thm.epoch = ep then s.thm.declared + 1 else 1
  let s1 := ((s.p F.THM_BROKEN_TS (setBit (s.g F.THM_BROKEN_TS) k true)).modThm (fun t => { t with declared := n, epoch := ep })).thmFault cTHM_TS k .a
  if 2 ≤ n then s1.thmFault cTHM_TS2 k .b else s1

/-- One sensor's sample. -/
def State.sensorStep (s : State) (xs : Nat → Int) (broken : Nat) (hot : Int) (k : Nat) : State :=
  let r := sensorCheck xs broken (vget s.thm.fails k) k
  let s1 := ((s.pi (F.THM_TS_RAW k) (xs k)).pi (F.THM_TS_VALUE k) (r.1.getD hot)).modThm (fun t => { t with fails := vmod t.fails k (fun _ => r.2) })
  if r.2 = 16 && !bit broken k then s1.declareBroken k else s1

/-- Every sensor's sample; a broken sensor with fewer than two valid neighbours takes the hottest value among the valid ones. -/
def State.sensorSteps (s : State) (v : Vector Int 32) : State :=
  let xs : Nat → Int := fun k => vget v k
  let broken := s.g F.THM_BROKEN_TS
  let vals := ((List.range 32).filter (fun k => !bit broken k)).map (fun k => ((sensorCheck xs broken 0 k).1).getD 0)
  forRange 0 32 (fun k a => a.sensorStep xs broken (maxI 0 vals) k) s

/-- The hottest VALUE and the first sensor that has it. -/
def State.hottest (s : State) : Nat × Int :=
  (List.range 32).foldl (fun b k => if b.2 < s.gi (F.THM_TS_VALUE k) then (k, s.gi (F.THM_TS_VALUE k)) else b) (0, s.gi (F.THM_TS_VALUE 0))

/-- STAT.CRIT: the die's CRIT, or that of an enabled TX channel with GATE (R304). -/
def State.critLevel (s : State) : State :=
  let tx := (List.range 8).any (fun k => s.on (F.THM_TXLIM_EN k) && s.on (F.THM_TXLIM_GATE k) && bit (s.word .THM_TXSTAT 0 0) (4 * k + 3))
  s.p F.THM_STAT_CRIT (s.thm.dieCrit || tx).toNat

/-- A level with hysteresis: set at its value, clear below it less the hysteresis, in degrees (R304). -/
def level (was : Bool) (t : Int) (at_ hyst : Nat) : Bool :=
  if (100 * at_ : Nat) ≤ t then true else if t < (100 * at_ : Nat) - (100 * hyst : Nat) then false else was

/-- THM_SHUT (R305, R306): counted, with the third within 600 s of the first withholding the restart. -/
def State.thmShut (s : State) : State :=
  let recent := s.thm.shuts.filter (fun t => s.aon ≤ t + 600000 * msTicks) ++ [s.aon]
  let s1 := (s.inc F.THM_STAT_SHUTCNT).modThm (fun t => { t with shutAt := some s.aon, shuts := recent, coolSince := none })
  (if 3 ≤ recent.length then s1.p F.THM_STAT_NORESTART 1 else s1).thmFault cTHM_SHUT (s.g F.THM_STAT_HOT) .c

/-- The die levels after a sample (R304, R305). -/
def State.dieLevels (s : State) : State :=
  let h := s.hottest
  let s1 := (s.p F.THM_STAT_HOT h.1).pi F.THM_STAT_HOTTEMP h.2
  let shutT : Int := (100 * s.g F.THM_LEVELS_SHUT : Nat)
  let run := if shutT ≤ h.2 then s.thm.hotRun + 1 else 0
  let warn := level (s.on F.THM_STAT_WARN) h.2 (s.g F.THM_LEVELS_WARN) 2
  let crit := level s.thm.dieCrit h.2 (s.g F.THM_LEVELS_CRIT) 5
  let shut : Bool := decide (4 ≤ run) && s.thm.shutAt.isNone
  let s2 := ((s1.p F.THM_STAT_WARN warn.toNat).modThm (fun t =>
    { t with hotRun := run, dieCrit := crit, coolSince := since s.aon t.coolSince (decide (h.2 < shutT - 2000)) })).critLevel
  let s3 := if warn && !s.on F.THM_STAT_WARN then s2.thmFault cTHM_WARN h.1 .a else s2
  let s4 := if crit && !s.thm.dieCrit && !shut then s3.thmFault cTHM_CRIT h.1 .a else s3
  if shut then s4.thmShut else s4

/-- A period of the AON clock has passed since the last sample. -/
def dueSince (last : Option Nat) (period now : Nat) : Bool := match last with | none => true | some t => decide (t + period ≤ now)

/-- THM_SAMPLE (R299 to R301, R304, R305): the 32 results, in 0.01 C, every 100 us. -/
def execThmSample (v : Vector Int 32) (s : State) : Host.Outcome State Fault Refusal :=
  if dueSince s.thm.dieAt 25000 s.aon then done ((s.modThm (fun t => { t with dieAt := some s.aon })).sensorSteps v).dieLevels else .next s

/-- A core is held in reset (R305): its pipeline, general registers, vector state and status word reset (R38, R177); SW.MAPPED stays, and so do
EPC, ECAUSE, EVAL and the scratch registers, which R177 does not list (log 47). -/
def State.coreReset (s : State) (i : Nat) : State :=
  (s.modCore i (fun c =>
    { sw := 0x80000000 ||| (c.sw &&& 0x200000), epc := c.epc, ecause := c.ecause, eval := c.eval, scratch0 := c.scratch0
      scratch1 := c.scratch1, eccWords := c.eccWords, resetAt := c.resetAt, kick := s.now, cycles0 := s.coreCycles.toNat
      lastPc := c.lastPc })).p (F.TCE_CSTAT_STATE i) 0

/-- THM_SHUT_HOLD (R305): after the flush, or 2 ms, the cores are held in reset, SYN2 to SYN5 stop, and the page store is in self-refresh. -/
def execThmShutHold (s : State) : Host.Outcome State Fault Refusal :=
  match s.thm.shutAt with
  | some t =>
    if !s.on F.THM_STAT_SHUT && (s.on F.JRN_STAT_FLUSHED || t + 2 * msTicks ≤ s.aon) then
      let s1 := forRange 0 24 (fun i a => if a.hasCore i then a.coreReset i else a) s
      let s2 := forRange 2 4 (fun n a => if n < a.blockCount .SYN && a.synState n ≠ syOFF then a.synStop n else a) s1
      done ({ s2 with selfRefresh := true }.p F.THM_STAT_SHUT 1)
    else .next s
  | none => .next s

/-! ### External thermistors and pairs (R302, R303) -/

/-- A flag of TXSTAT: 0 FAULTY, 1 BROKEN, 2 WARN, 3 CRIT of channel k. -/
def State.txFlag (s : State) (k i : Nat) : Bool := bit (s.word .THM_TXSTAT 0 0) (4 * k + i)
def State.setTxFlag (s : State) (k i : Nat) (b : Bool) : State := s.setWord .THM_TXSTAT 0 0 (setBit (s.word .THM_TXSTAT 0 0) (4 * k + i) b)

/-- The station whose laser a channel guards acts on its CRIT (R127). -/
def State.txLaser (s : State) (k : Nat) (crit : Bool) : State :=
  forRange 0 (s.blockCount .STR) (fun n a =>
    if a.on (F.STR_CTRL_LDTXEN n) && a.g (F.STR_CTRL_LDTX n) = k then
      if crit then a.ldTherm n else a.modStr n (fun x => { x with thermal := false })
    else a) s

/-- One channel's result and levels (R302, R304). -/
def State.txStep (s : State) (k raw : Nat) : State :=
  if !s.on (F.THM_TXLIM_EN k) then s
  else
    let bad := thermBad raw
    let t := thermTemp raw (s.g (F.THM_TXCFG_BETA k)) (s.g (F.THM_TXCFG_RNOM k))
    let live := !s.txFlag k 1
    let warn := live && !bad && level (s.txFlag k 2) t (s.g (F.THM_TXLIM_WARN k)) 2
    let crit := live && (bad || level (s.txFlag k 3) t (s.g (F.THM_TXLIM_CRIT k)) 5)
    let s1 := (((s.pi (F.THM_TX_TEMP k) t).setTxFlag k 0 bad).setTxFlag k 2 warn).setTxFlag k 3 crit
    let s2 := if bad && !s.txFlag k 0 then s1.thmFault cTHM_TX k .a else s1
    let s3 := if warn && !s.txFlag k 2 then s2.thmFault cTHM_TXWARN k .a else s2
    let s4 := if crit && !s.txFlag k 3 then s3.thmFault cTHM_TXCRIT k .a else s3
    s4.txLaser k crit

/-- The members of pair p: channels p and its partner for p below 8, TH0 and TH1 of FUS(p - 8) above; none where p is no pair with both members
valid. -/
def State.pairOf (s : State) (p : Nat) : Option (Int × Int) :=
  if p < 8 then
    let j := s.g (F.THM_TXLIM_PAIR p)
    if p < j && s.on (F.THM_TXLIM_PAIREN p) && s.on (F.THM_TXLIM_PAIREN j) && s.g (F.THM_TXLIM_PAIR j) = p
        && [p, j].all (fun c => s.on (F.THM_TXLIM_EN c) && !s.txFlag c 0 && !s.txFlag c 1) then
      some (s.gi (F.THM_TX_TEMP p), s.gi (F.THM_TX_TEMP j))
    else none
  else
    let f := p - 8
    if p < 10 && s.fusEn f && bits (s.g F.THM_PAIRCFG_FUSBRK) (2 * f + 1) (2 * f) = 0 && (s.fusOf f).pairOk then
      some (s.gi (F.FUS_TH01_TH0 f), s.gi (F.FUS_TH01_TH1 f))
    else none

/-- Whether a pair disagrees beyond PAIRTOL. -/
def State.pairOff (s : State) (p : Nat) : Bool :=
  match s.pairOf p with
  | some (a, b) => decide (50 * s.g F.THM_PAIRCFG_PAIRTOL < (a - b).natAbs)
  | none => false

/-- Since when each pair disagrees. -/
def State.pairWatch (s : State) : State :=
  forRange 0 10 (fun p a => a.modThm (fun t => { t with pairSince := vmod t.pairSince p (fun w => since s.aon w (s.pairOff p)) })) s

/-- TX_SAMPLE (R302 to R304): the bias voltages of the channels, in 1/65,536 of the reference, every 1 ms. -/
def execTxSample (v : Vector Nat 8) (s : State) : Host.Outcome State Fault Refusal :=
  if dueSince s.thm.txAt msTicks s.aon then
    done ((forRange 0 8 (fun k a => a.txStep k (vget v k)) (s.modThm (fun t => { t with txAt := some s.aon }))).critLevel.pairWatch)
  else .next s

/-- THM_PAIR (R303): after 1 s the member that reads lower is broken. -/
def execThmPair (p : Nat) (s : State) : Host.Outcome State Fault Refusal :=
  match s.pairOf p, (vget s.thm.pairSince p) with
  | some (a, b), some t =>
    if t + 1000 * msTicks ≤ s.aon && s.pairOff p then
      let s1 := s.modThm (fun t => { t with pairSince := vmod t.pairSince p (fun _ => none) })
      if p < 8 then
        let c := if a < b then p else s.g (F.THM_TXLIM_PAIR p)
        done ((((s1.setTxFlag c 1 true).setTxFlag c 2 false).setTxFlag c 3 false).critLevel.thmFault cTHM_PAIR c .a)
      else
        let i := 2 * (p - 8) + (if a < b then 0 else 1)
        let d := s1.draw
        done ((d.2.p F.THM_PAIRCFG_FUSBRK (setBit (s.g F.THM_PAIRCFG_FUSBRK) i true)).thmFault cTHM_PAIR (d.1.toNat % 256) .a)
    else .next s
  | _, _ => .next s

/-! ### Register writes -/

/-- The reserved encodings of THM's words: levels in order and at most the OTP ceiling (R304); with PAIREN, a partner that
names the channel (R303).  The map gives the last no condition; it could then never be met, since either channel of a pair is written first, so that a write that
leaves PAIREN clear is not judged for PAIR (DESIGN CHOICE, log 56). -/
def State.thmReserved (s : State) (r : Reg) (k v : Nat) : Bool :=
  match r with
  | .THM_LEVELS => bits v 23 16 ≤ bits v 31 24 || bits v 15 8 ≤ bits v 23 16 || s.wires.ceil < bits v 15 8
  | .THM_TXCFG => bits v 31 16 == 0 || bits v 15 0 == 0
  | .THM_TXLIM => bits v 23 16 ≤ bits v 31 24 || (bit v 13 && s.g (F.THM_TXLIM_PAIR (bits v 12 10)) != k)
  | .THM_PAIRCFG => bits v 15 8 == 0
  | _ => false

/-- A write of TXLIMk: a channel no longer measured has no flags but BROKEN. -/
def State.txlimWrite (s : State) (k v : Nat) : State :=
  let s1 := s.setWord .THM_TXLIM 0 k (bits v 31 10 * 2 ^ 10)
  (if bit v 15 then s1 else ((s1.setTxFlag k 0 false).setTxFlag k 2 false).setTxFlag k 3 false).critLevel

end Sys2Proof.Machine
end

