-- ==== Sys2Proof/Machine/Supply.lean ====
section
/-! DEFINITION. The power sequencer PSQ and the power states (R307 to R324, R438).  Its times are counted on the AON clock, in 4 ns. -/

namespace Sys2Proof.Machine

/-- The states of PSQ.STAT.STATE. -/
def pqOFF : Nat := 0
def pqRUNNING : Nat := 1
def pqON : Nat := 2
def pqFAILSHUT : Nat := 3
def pqFAILED : Nat := 4
def pqMINOFF : Nat := 5
def pqVINFAIL : Nat := 6

/-- The programs of PSQ.STAT.PROG. -/
def pgUP : Nat := 1
def pgDOWN : Nat := 2
def pgSLEEP : Nat := 3
def pgWAKE : Nat := 4
def pgRUNAT : Nat := 5

/-- The codes of PSQ (R325, R333). -/
def cPSQ_RAIL : Nat := 1
def cPSQ_VIN : Nat := 2
def cPSQ_SYNC : Nat := 3
def cPSQ_REMOTE : Nat := 4
def cPSQ_PROG : Nat := 5
def cPSQ_DISCHARGE : Nat := 6
def cPSQ_PGEARLY : Nat := 7
def cPSQ_PMBUS : Nat := 8
def cPSQ_CMD : Nat := 9

def State.modPsq (s : State) (f : Psq → Psq) : State := { s with psq := f s.psq }
def State.psqState (s : State) : Nat := s.g F.PSQ_STAT_STATE
def State.setPsq (s : State) (st : Nat) : State := s.p F.PSQ_STAT_STATE st
def State.psqProg (s : State) : Nat := s.g F.PSQ_STAT_PROG
def State.psqPc (s : State) : Nat := s.g F.PSQ_STAT_PC
def State.coop (s : State) : Nat := s.g F.PSQ_CTRL_COOP
def State.railOn (s : State) (r : Nat) : Bool := bit (s.g F.PSQ_ENSTAT_RAILS) r
def State.railGood (s : State) (r : Nat) : Bool := bit (s.g F.PSQ_PGSTAT_RAILS) r

/-- PSQ raises a fault about a rail. -/
def State.psqFault (s : State) (code rail : Nat) (cls : Cls) : State := s.raise 8 code rail cls 0x0B

/-- PSQ raises a fault about no rail: the detail, which R333 gives as the rail, takes a free value (log 1). -/
def State.psqFaultFree (s : State) (code : Nat) (cls : Cls) : State := s.draw.2.psqFault code (s.draw.1.toNat % 256) cls

/-! ### Rails (R307, R311, R320) -/

/-- The margin byte of a rail: ACTIVE, DIR, PATH and PCT. -/
def State.setMargin (s : State) (r : Nat) (dir path : Bool) (pct : Nat) : State :=
  let w := if pct = 0 then 0 else 0x80 + 0x40 * dir.toNat + 0x20 * path.toNat + pct % 16
  s.setWord .PSQ_MRG 0 (r / 4) (setBits (s.word .PSQ_MRG 0 (r / 4)) (8 * (r % 4) + 7) (8 * (r % 4)) w)

/-- The margin in force on a rail over its margin output: up or down, and PCT (R320). -/
def State.mrgShift (s : State) (r : Nat) : Int :=
  let b := bits (s.word .PSQ_MRG 0 (r / 4)) (8 * (r % 4) + 7) (8 * (r % 4))
  if bit b 7 && !bit b 5 then (if bit b 6 then -1 else 1) * (bits b 3 0 * s.g (F.PSQ_RAILCFG_MSTEP r) : Nat) else 0

/-- The duty of the 1 MHz output MRGn, in 1/1,024: that of the rail whose margin output it is; none where no rail names it (R320). -/
def State.mrgDuty (s : State) (n : Nat) : Option Int :=
  ((List.range 24).find? (fun r => s.on (F.PSQ_RAILCFG_MRGOK r) && s.g (F.PSQ_RAILCFG_MRGOUT r) == n)).map (fun r => 512 + s.mrgShift r)

/-- A rail's enable is driven active. -/
def State.railEnable (s : State) (r : Nat) : State :=
  if s.railOn r then s
  else (s.p F.PSQ_ENSTAT_RAILS (setBit (s.g F.PSQ_ENSTAT_RAILS) r true)).modPsq (fun x => { x with order := x.order ++ [r] })

/-- A rail's enable is released, and its margin returns to nominal (R320). -/
def State.railRelease (s : State) (r : Nat) : State :=
  if s.railOn r then
    ((s.p F.PSQ_ENSTAT_RAILS (setBit (s.g F.PSQ_ENSTAT_RAILS) r false)).setMargin r false false 0).modPsq (fun x =>
      { x with order := x.order.filter (· != r), offAt := some s.aon })
  else s

/-- Every enable is released. -/
def State.railsRelease (s : State) : State := s.psq.order.foldl (fun a r => a.railRelease r) s

/-- A rail marked DEV has its enable driven. -/
def State.devOn (s : State) : Bool := (List.range 24).any (fun r => s.on (F.PSQ_RAILCFG_DEV r) && s.railOn r)

/-! ### Programs (R310, R316 to R318) -/

/-- A program starts at a step, with the rails then enabled as its starting set. -/
def State.psqStart (s : State) (prog entry : Nat) : State :=
  ((((((s.setPsq pqRUNNING).p F.PSQ_STAT_PROG prog).p F.PSQ_STAT_PC entry).p F.PSQ_STAT_SYNCST 0).p F.PSQ_STAT_PEND 0)).modPsq (fun x =>
    { x with starting := s.g F.PSQ_ENSTAT_RAILS, noWait := 0, wait := none, flushed := false, next := 0, passed := none, trans := 0
             woke := x.woke || ((prog == pgUP || prog == pgWAKE) && !s.devOn) })

def State.psqEntry (s : State) (prog : Nat) : Nat :=
  match prog with
  | 1 => s.g F.PSQ_ENTRY_UP
  | 2 => s.g F.PSQ_ENTRY_DOWN
  | 3 => s.g F.PSQ_ENTRY_SLEEP
  | _ => s.g F.PSQ_ENTRY_WAKE

/-- UP or WAKE is to run: at least 50 ms after the release of the last enable, counted in MINOFF (R316). -/
def State.psqUpAfter (s : State) (prog : Nat) : State :=
  match s.psq.offAt with
  | some t => if t + 50 * msTicks ≤ s.aon then s.psqStart prog (s.psqEntry prog) else (s.setPsq pqMINOFF).modPsq (fun x => { x with next := prog })
  | none => s.psqStart prog (s.psqEntry prog)

/-- The program ends (R310): ON after UP, WAKE and RUNAT; OFF after DOWN and SLEEP, or through MINOFF into UP where ON is pending (R317); after
SLEEP the device sleeps with every synthesiser OFF (R283), and in SHELF the retention mirror is lost (R323, R324). -/
def State.psqHalt (s : State) : State :=
  let prog := s.psqProg
  let s1 := (s.p F.PSQ_STAT_PROG 0).modPsq (fun x => { x with wait := none })
  if prog = pgDOWN || prog = pgSLEEP then
    if s.g F.PSQ_STAT_PEND = 1 then ((s1.p F.PSQ_STAT_PEND 0).modPsq (fun x => { x with sleepReq := 0 })).psqUpAfter pgUP
    else if prog = pgSLEEP then
      let s2 := (s1.synsOff.setPsq pqOFF).modPsq (fun x => { x with asleep := x.sleepReq, sleepReq := 0, sleepAt := s.aon })
      if s.psq.sleepReq = 2 then { s2 with mem := s2.mem.filter (fun c => c.1 < mirrorBase || localBase ≤ c.1) } else s2
    else s1.setPsq pqOFF
  else s1.setPsq pqON

/-- The program halts at a reserved encoding or a loop (R310, R311). -/
def State.psqBad (s : State) : State := s.psqHalt.psqFaultFree cPSQ_PROG .b

/-- A step has completed: PC goes to a step; a pending OFF starts DOWN (R317); 1,024 steps in a row that neither wait nor act on a rail halt the
program (R310). -/
def State.psqGoto (s : State) (target : Nat) (counts : Bool) : State :=
  let n := if counts then s.psq.noWait + 1 else 0
  let s1 := (s.p F.PSQ_STAT_PC target).modPsq (fun x => { x with wait := none, noWait := n })
  if 1024 ≤ n then s1.psqBad
  else if s.g F.PSQ_STAT_PEND = 2 && s.psqProg ≠ pgDOWN && s.psqProg ≠ pgSLEEP then s1.psqStart pgDOWN (s1.psqEntry pgDOWN)
  else s1

def State.psqNext (s : State) (counts : Bool) : State := s.psqGoto ((s.psqPc + 1) % 256) counts

/-- JRN holds an open journal whose flush is not complete. -/
def State.flushing (s : State) : Bool := s.g F.JRN_STAT_STATE == jOPEN && !s.on F.JRN_STAT_FLUSHED

/-- A rail failure (R313): recorded, PSQ_RAIL, and the failure shutdown after the flush or FAILHOLD. -/
def State.railFail (s : State) (cause rail : Nat) : State :=
  if s.psqState = pqFAILSHUT || s.psqState = pqFAILED || s.psqState = pqVINFAIL || s.psq.vinAt.isSome then s
  else
    let s1 := ((s.p F.PSQ_CAUSE_FCAUSE cause).p F.PSQ_CAUSE_FRAIL rail).p F.PSQ_CAUSE_FSTEP s.psqPc
    let s2 := ((s1.setPsq pqFAILSHUT).p F.PSQ_STAT_PROG 0).p F.PSQ_STAT_PEND 0
    (s2.modPsq (fun x =>
      { x with wait := none, next := 0, sleepReq := 0, lastRel := none
               failHold := some (s.aon + (if s.g F.JRN_STAT_STATE = jOPEN then s.g F.PSQ_PGCFG_FAILHOLD * 10 * usTicks else 0)) })).psqFault cPSQ_RAIL rail .c

/-- A rail failure about no rail: FRAIL takes a free value (log 1). -/
def State.syncFail (s : State) (code cause : Nat) : State :=
  let d := (s.psqFaultFree code .c).draw
  d.2.railFail cause (d.1.toNat % 32)

/-! ### Steps (R311, R312, R318, R320) -/

/-- A RAIL of an enable, power-good or margin step. -/
def railField (w : Nat) : Nat := bits w 4 0

/-- A margin that is a reserved encoding (R320). -/
def State.marginBad (s : State) (rail : Nat) (path : Bool) (pct : Nat) : Bool :=
  24 ≤ rail || 10 < pct ||
    (!path && (!s.on (F.PSQ_RAILCFG_MRGOK rail) || 46080 < pct * s.g (F.PSQ_RAILCFG_MSTEP rail) * 100 ||
      (List.range 24).any (fun r => r != rail && s.on (F.PSQ_RAILCFG_MRGOK r) && s.g (F.PSQ_RAILCFG_MRGOUT r) == s.g (F.PSQ_RAILCFG_MRGOUT rail))))

/-- A step's word is a reserved encoding (R311). -/
def State.stepBad (s : State) (w : Nat) : Bool :=
  match bits w 31 28 with
  | 0 => bits w 27 0 != 0
  | 1 => bits w 27 5 != 0 || 24 ≤ railField w
  | 2 => bits w 27 5 != 0 || 24 ≤ railField w
  | 3 => bits w 7 5 != 0 || (24 ≤ railField w && railField w != 31)
  | 4 => bits w 26 24 != 0 || bits w 7 5 != 0 || bits w 15 8 == 0 || 24 ≤ railField w
  | 5 => bits w 23 5 != 0 || 3 < bits w 27 24 || (bits w 27 24 == 0 && 24 ≤ railField w) || (bits w 27 24 == 3 && 8 ≤ railField w)
  | 6 => bits w 27 8 != 0
  | 7 => bits w 27 9 != 0
  | 8 => bits w 27 8 != 0 || bits w 7 0 == 0
  | 9 => bits w 27 14 != 0 || bits w 7 5 != 0 || s.marginBad (railField w) (bit w 13) (bits w 11 8)
  | _ => true

/-- The wait that lets a step execute: none, or a flush that is complete or whose time is over. -/
def State.stepFree (s : State) : Bool :=
  match s.psq.wait with
  | none => true
  | some (.flush limit) => !s.flushing || (match limit with | some t => decide (t ≤ s.aon) | none => false)
  | some _ => false

/-- Executes the step at PC where it is of a type, by a given meaning; a reserved encoding halts the program there. -/
def State.psqStep (s : State) (type : Nat) (f : Nat → State → State) : State :=
  let w := s.word .PSQ_PROG 0 s.psqPc
  if s.psqState = pqRUNNING && s.psq.vinAt.isNone && s.stepFree && (bits w 31 28 = type || 10 ≤ bits w 31 28) then
    let s1 := (s.modPsq (fun x => { x with wait := none })).traceEv 8 6 s.psqPc w
    if s.stepBad w then s1.psqBad else f w s1
  else s

/-- HALT (R311). -/
def execHalt (s : State) : Host.Outcome State Fault Refusal := done (s.psqStep 0 (fun _ a => a.psqHalt))

/-- A PMBus transaction that failed three retries (R319). -/
def State.pmbus (s : State) (ack : Bool) (rail : Nat) : State := if ack then s else s.psqFault cPSQ_PMBUS rail .a

/-- EN (R311): ack tells how the PMBus write of OPERATION ends where PMEN asks for one. -/
def execEn (ack : Bool) (s : State) : Host.Outcome State Fault Refusal :=
  done (s.psqStep 1 (fun w a =>
    let r := railField w
    let a1 := if a.railGood r && !a.railOn r then a.psqFault cPSQ_PGEARLY r .a else a
    let a2 := a1.railEnable r
    (if a.on (F.PSQ_RAILCFG_PMEN r) then a2.pmbus ack r else a2).psqNext false))

/-- DIS (R311): before the first DIS of a DEV rail PSQ waits for the flush, at most FAILHOLD (R313). -/
def execDis (ack : Bool) (s : State) : Host.Outcome State Fault Refusal :=
  done (s.psqStep 2 (fun w a =>
    let r := railField w
    let go := fun (b : State) => (if b.on (F.PSQ_RAILCFG_PMEN r) && b.railOn r then (b.railRelease r).pmbus ack r else b.railRelease r).psqNext false
    if a.on (F.PSQ_RAILCFG_DEV r) && !a.psq.flushed then
      let b := (if a.g F.JRN_STAT_STATE = jOPEN then a.flushStart else a).modPsq (fun x => { x with flushed := true })
      if b.flushing then b.modPsq (fun x => { x with wait := some (.flush (some (a.aon + a.g F.PSQ_PGCFG_FAILHOLD * 10 * usTicks))) }) else go b
    else go a))

/-- WAIT (R311). -/
def execWait (s : State) : Host.Outcome State Fault Refusal :=
  done (s.psqStep 3 (fun w a =>
    if railField w ≠ 31 && !bit a.psq.starting (railField w) then a.psqNext false
    else a.modPsq (fun x => { x with wait := some (.until (a.aon + bits w 27 8 * 10 * usTicks)) })))

/-- WAITPG (R311, R312). -/
def execWaitpg (s : State) : Host.Outcome State Fault Refusal :=
  done (s.psqStep 4 (fun w a =>
    if !bit w 27 && !bit a.psq.starting (railField w) then a.psqNext false
    else a.modPsq (fun x =>
      { x with trans := 0, wait := some (.pg (railField w) (bit w 27) (bits w 23 16 * 100 * usTicks) (a.aon + bits w 15 8 * msTicks)) })))

/-- VIN_SENSE is above THRESH. -/
def State.vinAbove (s : State) : Bool := s.g F.PSQ_VIN_THRESH < s.psq.vin

/-- CHECK (R311). -/
def execCheck (s : State) : Host.Outcome State Fault Refusal :=
  done (s.psqStep 5 (fun w a =>
    let b := match bits w 27 24 with
      | 0 => a.railGood (railField w)
      | 1 => a.vinAbove
      | 2 => decide (a.gi F.THM_STAT_HOTTEMP < (100 * a.g F.THM_LEVELS_WARN : Nat))
      | _ => bit (a.g F.PSQ_CTRL_USER) (railField w)
    (a.p F.PSQ_STAT_FLAG b.toNat).psqNext true))

/-- JMP (R311). -/
def execJmp (s : State) : Host.Outcome State Fault Refusal := done (s.psqStep 6 (fun w a => a.psqGoto (bits w 7 0) true))

/-- JMPIF (R311). -/
def execJmpif (s : State) : Host.Outcome State Fault Refusal :=
  done (s.psqStep 7 (fun w a => if a.on F.PSQ_STAT_FLAG == bit w 8 then a.psqGoto (bits w 7 0) true else a.psqNext true))

/-- SYNC (R318): standalone it completes at once; else its state must follow SYNCST. -/
def execSync (s : State) : Host.Outcome State Fault Refusal :=
  done (s.psqStep 8 (fun w a =>
    if a.coop = 0 then a.psqNext false
    else if bits w 7 0 ≠ a.g F.PSQ_STAT_SYNCST + 1 then a.syncFail cPSQ_SYNC 4
    else a.modPsq (fun x => { x with wait := some (.sync (bits w 7 0) (a.aon + a.g F.PSQ_COOP_SYNCTO * msTicks)), polledAt := a.aon })))

/-- A margin that is no reserved encoding (R320): refused on a DEV rail outside MAKER and RETURNED; over PMBus the regulator must acknowledge and
use the linear format. -/
def State.marginSet (s : State) (rail : Nat) (path dir : Bool) (pct : Nat) (linear ack : Bool) : State :=
  if pct ≠ 0 && s.on (F.PSQ_RAILCFG_DEV rail) && s.lifecycle ≠ lcMAKER && s.lifecycle ≠ lcRETURNED then s.psqFault cPSQ_CMD rail .a
  else if path && !(linear && ack) then s.psqFault cPSQ_PMBUS rail .a
  else s.setMargin rail dir path pct

/-- MARGIN (R311, R320). -/
def execMargin (linear ack : Bool) (s : State) : Host.Outcome State Fault Refusal :=
  done (s.psqStep 9 (fun w a => (a.marginSet (railField w) (bit w 13) (bit w 12) (bits w 11 8) linear ack).psqNext true))

/-! ### The ends of waits -/

/-- PSQ_WAIT_DONE (R311). -/
def execPsqWaitDone (s : State) : Host.Outcome State Fault Refusal :=
  match s.psq.wait with
  | some (.until t) => if t ≤ s.aon then done (s.psqNext false) else .next s
  | _ => .next s

/-- WAITPG_DONE (R312): the deglitched input has held its level for DWELL. -/
def execWaitpgDone (s : State) : Host.Outcome State Fault Refusal :=
  match s.psq.wait with
  | some (.pg r level dwell _) => if s.railGood r == level && vget s.psq.pgAt r + dwell ≤ s.aon then done (s.psqNext false) else .next s
  | _ => .next s

/-- WAITPG_FAIL (R312): chatter or timeout: a rail failure, or PSQ_DISCHARGE where a rail will not go off in DOWN or SLEEP. -/
def execWaitpgFail (s : State) : Host.Outcome State Fault Refusal :=
  match s.psq.wait with
  | some (.pg r level _ limit) =>
    let chatter : Bool := decide (s.g F.PSQ_PGCFG_CHATMAX < s.psq.trans)
    if chatter || limit ≤ s.aon then
      if level || (s.psqProg ≠ pgDOWN && s.psqProg ≠ pgSLEEP) then done (s.railFail (if chatter then 2 else 1) r)
      else done ((s.psqFault cPSQ_DISCHARGE r .a).psqNext false)
    else .next s
  | _ => .next s

/-- Every slave enabled in the master has reported a state (R319). -/
def State.slavesAt (s : State) (n : Nat) : Bool :=
  (List.range 8).all (fun k => !s.on (F.PSQ_SLAVE_EN k) || bits (vget s.psq.reached k) 7 0 == n)

/-- SYNC_DONE (R318, R319): the line has been high for 2 us, all slaves have reached the state, or the master has passed it. -/
def execSyncDone (line : Bool) (s : State) : Host.Outcome State Fault Refusal :=
  match s.psq.wait with
  | some (.sync n _) =>
    if (s.coop = 3 && line) || (s.coop = 1 && s.slavesAt n) || (s.coop = 2 && s.psq.passed = some n) then
      done (((s.p F.PSQ_STAT_SYNCST n).modPsq (fun x => { x with passed := none, highUntil := s.aon + 10 * usTicks })).psqNext false)
    else .next s
  | _ => .next s

/-- PSQ_SYNC (R318): not completed within SYNCTO. -/
def execPsqSync (s : State) : Host.Outcome State Fault Refusal :=
  match s.psq.wait with
  | some (.sync _ limit) => if limit ≤ s.aon then done (s.syncFail cPSQ_SYNC 4) else .next s
  | _ => .next s

/-- The SEQSYNC ball is pulled low (R318): at all times in sync-line mode, except while PSQ waits at a SYNC and 10 us after. -/
def State.seqsyncLow (s : State) : Bool :=
  s.coop == 3 && !(match s.psq.wait with | some (.sync _ _) => true | _ => false) && decide (s.psq.highUntil ≤ s.aon)

/-! ### Power-good, failures and VIN (R307, R313 to R316) -/

/-- PG_CHANGE (R307): a deglitched change.  An enabled rail that goes off fails (R313), but for the rail a WAITPG for good judges. -/
def execPgChange (r : Nat) (good : Bool) (s : State) : Host.Outcome State Fault Refusal :=
  if r < 24 && s.railGood r != good then
    let mine : Bool := match s.psq.wait with | some (.pg q _ _ _) => q == r | _ => false
    let s1 := (s.p F.PSQ_PGSTAT_RAILS (setBit (s.g F.PSQ_PGSTAT_RAILS) r good)).modPsq (fun x =>
      { x with pgAt := vmod x.pgAt r (fun _ => s.aon), trans := if mine then x.trans + 1 else x.trans })
    done (if !good && s.railOn r && !mine then s1.railFail 3 r else s1)
  else .next s

/-- Releases the enable that was driven last. -/
def State.releaseLast (s : State) : State :=
  match s.psq.order.getLast? with
  | some r =>
    let s1 := (s.railRelease r).modPsq (fun x => { x with lastRel := some s.aon })
    if s1.psq.order.isEmpty then s1.setPsq pqFAILED else s1
  | none => s.setPsq pqFAILED

/-- FAILHOLD_EXPIRE (R313, R319): the flush is complete or FAILHOLD is over; the master tells every slave that has not failed to switch off, then
the first enable is released.  acks: whether each slave acknowledged. -/
def execFailholdExpire (acks : Nat) (s : State) : Host.Outcome State Fault Refusal :=
  match s.psq.failHold with
  | some t =>
    if s.psqState = pqFAILSHUT && s.psq.lastRel.isNone && (!s.flushing || t ≤ s.aon) then
      let s1 := if s.coop = 1 then
          forRange 0 8 (fun k a =>
            if a.on (F.PSQ_SLAVE_EN k) && !bit (vget a.psq.reached k) 8 && !bit acks k then a.psqFaultFree cPSQ_PMBUS .a else a) s
        else s
      done (s1.modPsq (fun x => { x with failHold := none })).releaseLast
    else .next s
  | none => .next s

/-- FAILGAP_RELEASE (R313): the next release, FAILGAP after the last. -/
def execFailgapRelease (s : State) : Host.Outcome State Fault Refusal :=
  match s.psq.lastRel with
  | some t =>
    if s.psqState = pqFAILSHUT && t + s.g F.PSQ_PGCFG_FAILGAP * msTicks ≤ s.aon then done s.releaseLast else .next s
  | none => .next s

/-- PSQ_VIN (R315): VIN_SENSE, in mV, has been below THRESH for 2 us.  Asleep, with the device rails off, only the state changes. -/
def execPsqVin (mv : Nat) (s : State) : Host.Outcome State Fault Refusal :=
  if mv < s.g F.PSQ_VIN_THRESH && s.psq.vinAt.isNone && s.psqState ≠ pqVINFAIL && s.psq.asleep ≠ 2 && !s.psq.upWaits then
    let s1 := ((s.p F.PSQ_STAT_PROG 0).p F.PSQ_STAT_PEND 0).modPsq (fun x =>
      { x with vin := mv, wait := none, next := 0, sleepReq := 0, failHold := none, lastRel := none, vinAt := some s.aon })
    if s.psq.asleep = 1 then done ((s1.setPsq pqVINFAIL).modPsq (fun x => { x with vinAt := none }))
    else
      let d := ((s1.p F.PSQ_CAUSE_FCAUSE 6).p F.PSQ_CAUSE_FSTEP s.psqPc).draw
      done ((d.2.p F.PSQ_CAUSE_FRAIL (d.1.toNat % 32)).psqFaultFree cPSQ_VIN .c)
  else done (s.modPsq (fun x => { x with vin := mv }))

/-- VINHOLD_EXPIRE (R315): every enable is released once the flush is complete, or VINHOLD after the crossing. -/
def execVinholdExpire (s : State) : Host.Outcome State Fault Refusal :=
  match s.psq.vinAt with
  | some t =>
    if !s.flushing || t + s.g F.PSQ_VIN_VINHOLD * 10 * usTicks ≤ s.aon then
      done ((s.railsRelease.setPsq pqVINFAIL).modPsq (fun x => { x with vinAt := none, offAt := some s.aon }))
    else .next s
  | none => .next s

/-- VIN_RECOVERY (R315, R323, R438): VIN_SENSE has stayed above THRESH + HYST for 100 ms. -/
def execVinRecovery (mv : Nat) (s : State) : Host.Outcome State Fault Refusal :=
  let s1 := s.modPsq (fun x => { x with vin := mv })
  if s.g F.PSQ_VIN_THRESH + s.g F.PSQ_VIN_HYST < mv then
    if s.psq.upWaits then done (((s1.modPsq (fun x => { x with upWaits := false })).psqUpAfter pgUP).modPsq (fun x => { x with woke := false }))
    else if s.psqState = pqVINFAIL then
      if s.on F.PSQ_CTRL_AUTORESTART || s.psq.asleep = 1 then
        done (((s1.p F.PSQ_CAUSE_WAKE 3).modPsq (fun x => { x with asleep := 0 })).psqUpAfter pgWAKE)
      else done (s1.setPsq pqOFF)
    else done s1
  else done s1

/-- MINOFF_END (R316). -/
def execMinoffEnd (s : State) : Host.Outcome State Fault Refusal :=
  let past : Bool := match s.psq.offAt with | some t => decide (t + 50 * msTicks ≤ s.aon) | none => true
  if s.psqState = pqMINOFF && past then
    if s.psq.next = 0 then done (s.setPsq pqOFF) else done (s.psqStart s.psq.next (s.psqEntry s.psq.next))
  else .next s

/-- PSQ.WAKE's sources start the WAKE program (R314, R315, R323). -/
def State.psqWake (s : State) (source : Nat) : State :=
  ((s.p F.PSQ_CAUSE_WAKE source).modPsq (fun x => { x with asleep := 0 })).psqUpAfter pgWAKE

/-- WAKE_ALARM (R323): ALARM seconds after SLEEP was entered. -/
def execWakeAlarm (s : State) : Host.Outcome State Fault Refusal :=
  if s.psq.asleep = 1 && s.psqState = pqOFF && s.on F.PSQ_WAKE_ALARMEN && s.psq.sleepAt + s.g F.PSQ_WAKE_ALARM * 1000 * msTicks ≤ s.aon then
    done (s.psqWake 2)
  else .next s

/-! ### Requests (R314, R317, R319 to R324) -/

/-- ON or OFF reaches PSQ (R317): act 1 is ON, 2 is OFF. -/
def State.psqRequest (s : State) (act : Nat) : State :=
  let st := s.psqState
  let prog := s.psqProg
  if st = pqFAILED || st = pqVINFAIL then s.psqFaultFree cPSQ_CMD .a
  else if st = pqFAILSHUT || s.psq.vinAt.isSome then s
  else if act = 1 then
    if st = pqRUNNING then if prog = pgDOWN || prog = pgSLEEP then s.p F.PSQ_STAT_PEND 1 else s
    else if st = pqOFF then s.psqUpAfter pgUP
    else if st = pqMINOFF then s.modPsq (fun x => { x with next := if x.next = 0 then pgUP else x.next })
    else s
  else
    if st = pqRUNNING then
      if prog = pgDOWN then s
      else if prog = pgSLEEP then s.p F.PSQ_STAT_PEND 0
      else if s.psq.wait.isSome then s.p F.PSQ_STAT_PEND 2
      else s.psqStart pgDOWN (s.psqEntry pgDOWN)
    else if st = pqON then s.psqStart pgDOWN (s.psqEntry pgDOWN)
    else if st = pqMINOFF then s.modPsq (fun x => { x with next := 0 })
    else s

/-- The conditions of IDLE (R322). -/
def State.mayIdle (s : State) : Bool :=
  !s.anyInPath && (List.range 8).all (fun n => s.ctxState n != ctxRUNNING) && (List.range 16).all (fun c => s.g (F.DMA_CHSTAT_STATE c) != dACTIVE)
    && (List.range 4).all (fun k => !s.on (F.STR_CTRL_EN k)) && (List.range 4).all (fun k => !s.on (F.SYN_CTRL_EN (k + 2)))

/-- IDLE is entered (R322). -/
def State.psqIdle (s : State) : State :=
  if !s.mayIdle then s.psqFaultFree cPSQ_CMD .a
  else if s.g F.PSQ_STAT_PSTATE = 1 then s
  else
    let s1 := { (s.modPsq (fun x => { x with idleDiv := s.ga (F.SYN_DIV_CORE 0) })) with selfRefresh := true }
    (s1.setActive .SYN_DIV 0 0 (setBits (s1.active .SYN_DIV 0 0) 31 30 1)).p F.PSQ_STAT_PSTATE 1

/-- The device returns from IDLE (R322). -/
def State.psqRun (s : State) : State :=
  if s.g F.PSQ_STAT_PSTATE = 1 then
    ({ s with selfRefresh := false }.setActive .SYN_DIV 0 0 (setBits (s.active .SYN_DIV 0 0) 31 30 s.psq.idleDiv)).p F.PSQ_STAT_PSTATE 0
  else s

/-- SLEEP or SHELF (R323, R324): the journal is flushed, the page store's contents are lost, and SLEEP runs. -/
def State.psqSleep (s : State) (kind : Nat) : State :=
  if !s.mayIdle || s.anyLive || s.psqState ≠ pqON then s.psqFaultFree cPSQ_CMD .a
  else
    let s1 := { s.flushStart with memChans := 0 }
    let s2 := { s1 with mem := s1.mem.filter (fun c => c.1 < pageBase) }
    (s2.psqStart pgSLEEP (s2.psqEntry pgSLEEP)).modPsq (fun x => { x with sleepReq := kind, wait := some (.flush none) })

/-- A write of PSQ.CMD; linear and ack tell how a PMBus margin ends. -/
def State.psqCmd (s : State) (q : Requester) (v : Nat) (linear ack : Bool) : State :=
  let act := bits v 31 28
  if bits v 27 20 ≠ 0xA6 then s.psqFaultFree cPSQ_CMD .a
  else
    match act with
    | 1 => if s.coop = 2 then s.psqFaultFree cPSQ_CMD .a else s.psqRequest 1
    | 2 => if s.coop = 2 then s.psqFaultFree cPSQ_CMD .a else s.psqRequest 2
    | 3 => if s.psqState = pqON then s.psqStart pgRUNAT (bits v 7 0) else s.psqFaultFree cPSQ_CMD .a
    | 4 => if s.psqState = pqFAILED then (s.setPsq pqMINOFF).modPsq (fun x => { x with next := 0 }) else s.psqFaultFree cPSQ_CMD .a
    | 5 => s.psqIdle
    | 6 => s.psqRun
    | 7 => s.psqSleep 1
    | 8 => s.psqSleep 2
    | 9 =>
      if s.marginBad (bits v 19 15) (bit v 14) (bits v 12 9) then s.unitFault .PSQ 0 q cRESERVED_ENC
      else s.marginSet (bits v 19 15) (bit v 14) (bit v 13) (bits v 12 9) linear ack
    | _ => s.unitFault .PSQ 0 q cRESERVED_ENC

/-- A write of PSQ.CMD with a given ACTION and the word's other bits. -/
def State.psqAct (s : State) (q : Requester) (act v : Nat) (linear ack : Bool) : State := s.psqCmd q (act * 2 ^ 28 + v % 2 ^ 28) linear ack

/-- ON (R317): bits [27:0] of the write hold the key. -/
def execOn (q : Requester) (v : Nat) (s : State) : Host.Outcome State Fault Refusal := s.gate q (done (s.psqAct q 1 v true true))
/-- OFF (R317). -/
def execOff (q : Requester) (v : Nat) (s : State) : Host.Outcome State Fault Refusal := s.gate q (done (s.psqAct q 2 v true true))
/-- RUNAT (R310). -/
def execRunat (q : Requester) (v : Nat) (s : State) : Host.Outcome State Fault Refusal := s.gate q (done (s.psqAct q 3 v true true))
/-- CLEAR (R314). -/
def execClear (q : Requester) (v : Nat) (s : State) : Host.Outcome State Fault Refusal := s.gate q (done (s.psqAct q 4 v true true))
/-- IDLE (R322). -/
def execIdle (q : Requester) (v : Nat) (s : State) : Host.Outcome State Fault Refusal := s.gate q (done (s.psqAct q 5 v true true))
/-- RUN (R322). -/
def execRun (q : Requester) (v : Nat) (s : State) : Host.Outcome State Fault Refusal := s.gate q (done (s.psqAct q 6 v true true))
/-- SLEEP (R323). -/
def execSleep (q : Requester) (v : Nat) (s : State) : Host.Outcome State Fault Refusal := s.gate q (done (s.psqAct q 7 v true true))
/-- SHELF (R324). -/
def execShelf (q : Requester) (v : Nat) (s : State) : Host.Outcome State Fault Refusal := s.gate q (done (s.psqAct q 8 v true true))
/-- PSQ_CMD_MARGIN (R320). -/
def execPsqCmdMargin (q : Requester) (v : Nat) (linear ack : Bool) (s : State) : Host.Outcome State Fault Refusal :=
  s.gate q (done (s.psqAct q 9 v linear ack))

/-! ### PMBus (R319) -/

/-- PSQ_STATE (R319): in a slave the master passes SYNC n; in the master a write to a slave that was not acknowledged. -/
def execPsqState (n : Nat) (ack : Bool) (s : State) : Host.Outcome State Fault Refusal :=
  if s.coop = 2 then if ack then done (s.modPsq (fun x => { x with passed := some (n % 256) })) else .next s
  else if s.coop = 1 && !ack then done (s.psqFaultFree cPSQ_PMBUS .a)
  else .next s

/-- The word a slave answers PSQ_REACHED with (R319). -/
def State.reachedWord (s : State) : Nat :=
  (match s.psq.wait with | some (.sync n _) => n | _ => s.g F.PSQ_STAT_SYNCST) + 256 * (s.psqState = pqFAILED : Bool).toNat + 512 * (s.psqState = pqON : Bool).toNat

/-- What the master does with slave k's answer (R319): none where three retries failed; a slave that has failed while the master is ON makes a rail failure. -/
def State.slaveWord (s : State) (k : Nat) (w : Option Nat) : State :=
  match w with
  | none => s.psqFaultFree cPSQ_PMBUS .a
  | some v =>
    let s1 := s.modPsq (fun x => { x with reached := vmod x.reached k (fun _ => v % 0x10000) })
    if bit v 8 && s.psqState = pqON then s1.syncFail cPSQ_REMOTE 5 else s1

/-- PSQ_REACHED (R319): a slave answers its master; the master takes slave k's answer. -/
def execPsqReached (k : Nat) (w : Option Nat) (s : State) : Host.Outcome State Fault Refusal :=
  if s.coop = 2 then done { s with busData := some (.hw, s.reachedWord) }
  else if s.coop = 1 && k < 8 && s.on (F.PSQ_SLAVE_EN k) then done (s.slaveWord k w)
  else .next s

/-- PSQ_REQUEST (R319): in a slave, 1 is ON and 2 is OFF, other values are not acknowledged; in the master, a write not acknowledged. -/
def execPsqRequest (code : Nat) (ack : Bool) (s : State) : Host.Outcome State Fault Refusal :=
  if s.coop = 2 then if ack && (code = 1 || code = 2) then done (s.psqRequest code) else .next s
  else if s.coop = 1 && !ack then done (s.psqFaultFree cPSQ_PMBUS .a)
  else .next s

/-- PMBUS_POLL (R319): the master reads every enabled slave in ascending k, each 100 us at a SYNC and each 1 ms in ON. -/
def execPmbusPoll (ws : Vector (Option Nat) 8) (s : State) : Host.Outcome State Fault Refusal :=
  let sync : Bool := match s.psq.wait with | some (.sync _ _) => true | _ => false
  let period := if sync then 100 * usTicks else msTicks
  if s.coop = 1 && (sync || s.psqState = pqON) && s.psq.polledAt + period ≤ s.aon then
    done (forRange 0 8 (fun k a => if a.on (F.PSQ_SLAVE_EN k) then a.slaveWord k (vget ws k) else a) (s.modPsq (fun x => { x with polledAt := s.aon })))
  else .next s

/-! ### Register writes and loading (R308, R310, and the map) -/

/-- PROG and ENTRY are locked while a program runs (R310); RAILCFGk while its rail is enabled. -/
def State.psqLocked (s : State) (r : Reg) (k : Nat) : Bool :=
  match r with
  | .PSQ_PROG => s.psqState == pqRUNNING
  | .PSQ_ENTRY => s.psqState == pqRUNNING
  | .PSQ_RAILCFG => s.railOn k
  | _ => false

/-- The reserved encodings of PSQ's words. -/
def psqReserved (r : Reg) (v : Nat) : Bool :=
  match r with
  | .PSQ_PGCFG => bits v 31 24 == 0 || bits v 15 8 == 0 || bits v 7 0 == 0 || 200 < bits v 7 0
  | .PSQ_VIN => bits v 31 20 < 300 || 1200 < bits v 31 20 || bits v 11 4 == 0 || 200 < bits v 11 4
  | .PSQ_COOP => bits v 31 24 == 0
  | _ => false

/-- The default program (R308). -/
def defaultProg : List Nat :=
  [0x10000000, 0x480A0A00, 0x10000001, 0x480A0A01, 0x10000002, 0x480A0A02, 0x10000003, 0x480A0A03, 0,
   0x20000003, 0x20000002, 0x20000001, 0x20000000, 0]

/-- Stores a list of words from repetition k on. -/
def State.setWords (s : State) (r : Reg) (k : Nat) : List Nat → State
  | [] => s
  | w :: t => (s.setWord r 0 k (w &&& fieldMask r.row.fields)).setWords r (k + 1) t

/-- PSQ loads its image: PROG0 to PROG63, ENTRY, PGCFG, VIN and RAILCFG0 to RAILCFG23 (R308, R368); the default where it is blank. -/
def State.psqLoad (s : State) (img : List Nat) : State :=
  if img.isEmpty then
    (((((s.setWords .PSQ_PROG 0 defaultProg).setWord .PSQ_ENTRY 0 0 0x00090900).setWord .PSQ_PGCFG 0 0 0x400801C8).setWord .PSQ_VIN 0 0
      (0x3E8 * 2 ^ 20 + 0x32 * 2 ^ 12 + 0xB4 * 16)).setWords .PSQ_RAILCFG 0 (List.replicate 4 0x80000000))
  else
    ((((s.setWords .PSQ_PROG 0 (img.take 64)).setWords .PSQ_ENTRY 0 [img.getD 64 0]).setWords .PSQ_PGCFG 0 [img.getD 65 0]).setWords .PSQ_VIN 0
      [img.getD 66 0]).setWords .PSQ_RAILCFG 0 ((img.drop 67).take 24)

end Sys2Proof.Machine
end

