-- ==== Sys2Proof/Machine/Fuses.lean ====
section
/-! DEFINITION. The antifuse array and the lifecycle (R364 to R388, R400). -/

namespace Sys2Proof.Machine

/-- The codes of R403. -/
def cOTP_MARGINAL : Nat := 1
def cOTP_SAFE : Nat := 2
def cOTP_ECC : Nat := 3
def cOTP_DIGEST : Nat := 4
def cOTP_DRIFT : Nat := 5
def cOTP_WINDOW : Nat := 6
def cOTP_PROG : Nat := 7
def cOTP_LOCKED : Nat := 8
def cOTP_INCOMPLETE : Nat := 9
def cOTP_IMAGE : Nat := 0x0A
def cOTP_STATE : Nat := 0x0B
def cLCS_REFUSED : Nat := 1

def State.otpFault (s : State) (code detail : Nat) : State := s.raise 9 code detail .a
def State.modOtp (s : State) (f : Otp → Otp) : State := { s with otp := f s.otp }

/-! ### Regions and words (R364 to R367, R381) -/

/-- The region of a word, 0 to 6 in the order of R366. -/
def otpRegion (a : Nat) : Nat :=
  if a < 0x40 then 0 else if a < 0x60 then 1 else if a < 0x140 then 2 else if a < 0x300 then 3 else if a < 0x500 then 4 else if a < 0x7E0 then 5 else 6

/-- First word and length of a lockable region, and its digest words. -/
def lockRange (region : Nat) : Nat × Nat × Nat :=
  match region with
  | 0 => (0x000, 0x40, 0x3E)
  | 1 => (0x060, 0xE0, 0x13E)
  | 2 => (0x140, 0x1C0, 0x2FE)
  | 3 => (0x300, 0x200, 0x4FE)
  | _ => (0x500, 0x2E0, 0x7DE)

/-- The region number of R366 of lockable region r. -/
def lockRegion (r : Nat) : Nat := if r = 0 then 0 else r + 1

def isSecver (a : Nat) : Bool := 0x38 ≤ a && a < 0x3E
def isCk (a : Nat) : Bool := 0x88 ≤ a && a < 0x108
/-- A bit-wise word (R365). -/
def bitWise (a : Nat) : Bool := otpRegion a == 1 || otpRegion a == 6 || isSecver a
/-- An open word (R381). -/
def openWord (a : Nat) : Bool := isSecver a || isCk a

/-- The twin of a bit-wise word. -/
def otpTwin (a : Nat) : Nat :=
  if isSecver a then (if a < 0x3B then a + 3 else a - 3)
  else if otpRegion a = 1 then (if a < 0x50 then a + 0x10 else a - 0x10)
  else if a < 0x7F0 then a + 0x10 else a - 0x10

def State.fuse (s : State) (a : Nat) : Nat := (Cells.get 0 a s.otp.array).toNat
def State.setFuse (s : State) (a v : Nat) : State := s.modOtp (fun o => { o with array := Cells.put 0 a (BitVec.ofNat 32 v) o.array })
def State.shadowRaw (s : State) (a : Nat) : Nat := (Cells.get 0 a s.otp.shadow).toNat

/-- A word as its consumers read it: the shadow, for a bit-wise word the OR of its two copies (R365, R370). -/
def State.otpWord (s : State) (a : Nat) : Nat := if bitWise a then s.shadowRaw a ||| s.shadowRaw (otpTwin a) else s.shadowRaw a

/-- OTP.RDATA (R367, R370): zero for customer key slots. -/
def State.otpRdata (s : State) (a : Nat) : Nat := if isCk a then 0 else s.otpWord a

/-- Copies a fuse word, both copies of a bit-wise one, into the shadow. -/
def State.otpRefresh (s : State) (a : Nat) : State :=
  let put := fun (x : State) (b : Nat) => x.modOtp (fun o => { o with shadow := Cells.put 0 b (Cells.get 0 b o.array) o.shadow })
  if bitWise a then put (put s a) (otpTwin a) else put s a

/-- The words of a customer key slot as 32 bytes, byte 0 in [7:0] of the first word. -/
def State.otpBytes (s : State) (a words : Nat) : List Nat := (List.range words).flatMap (fun i => leBytes 4 (s.otpWord (a + i)))

/-! ### Reading the array (R370 to R373) -/

/-- Enters a word in MLIST, in the order found. -/
def State.mlist (s : State) (a : Nat) : State :=
  let i := s.otp.listed
  if 16 ≤ i then s
  else
    let s1 := s.modOtp (fun o => { o with listed := i + 1 })
    if i % 2 = 0 then (s1.p (F.OTP_MLIST_VL (i / 2)) 1).p (F.OTP_MLIST_AL (i / 2)) a
    else (s1.p (F.OTP_MLIST_VH (i / 2)) 1).p (F.OTP_MLIST_AH (i / 2)) a

/-- A marginal word (R370), with the bits whose three results differ. -/
def State.otpMarginal (s : State) (x : Nat × Nat) : State :=
  ((((s.modOtp (fun o => { o with marg := o.marg ++ [x] })).mlist x.1).inc F.OTP_STAT_MARGCNT).otpFault cOTP_MARGINAL (otpRegion x.1))

/-- An uncorrectable word (R372) reads zero. -/
def State.otpBad (s : State) (a : Nat) : State :=
  (s.modOtp (fun o => { o with bad := o.bad ++ [a], shadow := Cells.put 0 a 0 o.shadow })).otpFault cOTP_ECC (otpRegion a)

/-- The digest of a lockable region (R379). -/
def State.otpDigest (s : State) (region : Nat) : List Nat :=
  let r := lockRange region
  (sha256 (((List.range r.2.1).map (r.1 + ·)).flatMap (fun a =>
    if a = r.2.2 || a = r.2.2 + 1 || openWord a then [] else leBytes 4 (s.otpWord a)))).take 8

/-- The digest words of a region, as 8 bytes. -/
def State.digestWords (s : State) (region : Nat) : List Nat := s.otpBytes (lockRange region).2.2 2

/-- The check of a locked region (R373). -/
def State.otpCheck (s : State) (region : Nat) : State :=
  if bit (s.otpWord 0x41) region && s.otpDigest region != s.digestWords region then
    (s.p F.OTP_STAT_DIGFAIL (setBit (s.g F.OTP_STAT_DIGFAIL) region true)).otpFault cOTP_DIGEST (lockRegion region)
  else s

/-- The array read into the shadow, and the locked regions checked (R370, R372, R373). -/
def State.otpReadAll (s : State) (marg : List (Nat × Nat)) (corr : Nat) (bad : List Nat) : State :=
  let s1 := ((s.modOtp (fun o => { o with read := true, shadow := o.array, marg := [], bad := [] })).inc F.OTP_STAT_MARGCNT corr)
  let s2 := (marg.filter (fun x => x.1 < 2048)).foldl State.otpMarginal s1
  let s3 := (bad.filter (fun a => a < 2048 && !bitWise a)).foldl State.otpBad s2
  forRange 0 5 (fun r a => a.otpCheck r) (s3.modOtp (fun o => { o with lastTemp := s.gi F.THM_STAT_HOTTEMP }))
    |>.pi F.OTP_SCRUB_LASTTEMP (s.gi F.THM_STAT_HOTTEMP / 100)

/-- A word read marginal, or uncorrectable. -/
def State.otpUnsure (s : State) (a : Nat) : Bool := s.otp.marg.any (fun x => x.1 == a) || s.otp.bad.contains a

/-- A bit-wise word with every marginal bit taken as 1 (R371). -/
def State.otpSafeBits (s : State) (a : Nat) : Nat :=
  s.otp.marg.foldl (fun v x => if x.1 = a || x.1 = otpTwin a then v ||| x.2 else v) (s.otpWord a)

/-- Either copy of a bit-wise word is marginal. -/
def State.otpUnsureBits (s : State) (a : Nat) : Bool := s.otpUnsure a || s.otpUnsure (otpTwin a)

/-- The lifecycle state that L0 gives (R383): its highest bit set. -/
def lcOf (l0 : Nat) : Nat :=
  if l0 = 0 then lcBLANK
  else if l0 = 1 then lcMAKER
  else if 2 ^ 30 ≤ l0 then lcSCRAPPED
  else if Nat.log2 l0 % 2 = 1 then lcFIELD
  else lcRETURNED

/-- The number of returns (R383). -/
def lcReturns (l0 : Nat) : Nat := ((List.range 14).filter (fun k => bit l0 (2 * k + 2))).length

/-- The dedicated wires and what they feed take their values (R371, R373). -/
def State.setWires (s : State) : State :=
  let dig := bit (s.g F.OTP_STAT_DIGFAIL) 0
  let keys := bit (s.g F.OTP_STAT_DIGFAIL) 1
  let cfgBad := dig || s.otpUnsure 1
  let cfg := s.otpWord 1
  let l0 := s.otpSafeBits 0x40
  let trimBad := dig || (s.otpUnsure 4 || (List.range 8).any (fun i => s.otpUnsure (5 + i)))
  let w : Wires :=
    { l0 := l0, ftrace := !cfgBad && bit cfg 4, noObs := cfgBad || s.otpUnsureBits 0x40
      bootsrc := if cfgBad then 0 else bits cfg 1 0, coop := if cfgBad then 0 else bits cfg 3 2
      revoked := if keys then 0xF else bits (s.otpSafeBits 0x7E0) 3 0
      killed := if keys then 0xFFFF else bits (s.otpSafeBits 0x7E1) 15 0
      secver := ((List.range 3).map (fun i => popcount (s.otpSafeBits (0x38 + i)) 32)).foldl (· + ·) 0
      locks := bits (s.otpSafeBits 0x41) 4 0
      ceil := if trimBad then 125 else bits (s.otpWord 4) 7 0 }
  let devBad := dig || s.otpUnsure 0
  let dev := if devBad then 0x48202100 else s.otpWord 0
  let n := lcReturns l0
  let s1 := ({ s with wires := w }.setWord .OTP_DEVID 0 0 dev).p F.PSQ_CTRL_COOP w.coop
  (((((s1.p F.LCS_STATE_STATE (lcOf l0)).p F.LCS_STATE_RETURNS n).p F.LCS_STATE_CONSENT (bit (s.otpWord 0x42) n).toNat).p
    F.LCS_CHIPID_LO_ID (s.otpWord 2)).p F.LCS_CHIPID_HI_ID (s.otpWord 3))

/-- The wire groups that take their safe default for a marginal or uncorrectable word (R370 to R372). -/
def State.safeGroups (s : State) : List Nat :=
  (if s.otpUnsureBits 0x40 then [0, 1] else []) ++ (if s.otpUnsure 1 then [1, 6, 7] else [])
    ++ (if s.otpUnsureBits 0x7E0 || s.otpUnsureBits 0x7E1 then [2] else [])
    ++ (if (List.range 3).any (fun i => s.otpUnsureBits (0x38 + i)) then [3] else [])
    ++ (if s.otpUnsure 4 || (List.range 8).any (fun i => s.otpUnsure (5 + i)) then [4] else [])
    ++ (if s.otpUnsure 0 then [5] else []) ++ (if s.otpUnsureBits 0x41 then [8] else [])

/-- The wires take their values, with OTP_SAFE for each group that takes its safe default (R370 to R373). -/
def State.otpDeliver (s : State) : State := s.safeGroups.foldl (fun a g => a.otpFault cOTP_SAFE g) s.setWires

/-- OTP_ARRAY_READ (R370, R372, R373): every word read into the shadow.  marg: the words whose three results differ, with those bits;
corr: the number of words whose single-bit error was corrected; bad: the uncorrectable words.  Where the wires are already valid, a critical word so found
moves its group to its safe default (DEDUCED, log 58). -/
def execOtpArrayRead (marg : List (Nat × Nat)) (corr : Nat) (bad : List Nat) (s : State) : Host.Outcome State Fault Refusal :=
  if s.otp.read then .next s
  else
    let s1 := s.otpReadAll marg corr bad
    done (if s.otp.sensed then s1.otpDeliver else s1)

/-- The PSQ image (R368): PROG, ENTRY, PGCFG, VIN and RAILCFG; none where it is blank. -/
def State.psqImage (s : State) : List Nat :=
  if s.otpWord 0x300 = 0x51505351 && !bit (s.g F.OTP_STAT_DIGFAIL) 3 then (List.range 91).map (fun i => s.otpWord (0x301 + i)) else []

/-- PSQ's load at power-on (R308, R368). -/
def State.psqBoot (s : State) : State :=
  let s1 := s.psqLoad s.psqImage
  if s.otpWord 0x300 ≠ 0 && s.otpWord 0x300 ≠ 0x51505351 then s1.otpFault cOTP_IMAGE 0 else s1

/-! ### Scrubs (R374) -/

/-- OTP_SCRUB (R374): HOTTEMP has moved by 30 C or more since the last full read. -/
def execOtpScrub (s : State) : Host.Outcome State Fault Refusal :=
  if !s.on F.OTP_STAT_SCRUB && s.otp.read && 3000 ≤ (s.gi F.THM_STAT_HOTTEMP - s.otp.lastTemp).natAbs then
    done ((s.p F.OTP_STAT_SCRUB 1).modOtp (fun o => { o with scrubAt := s.aon }))
  else .next s

/-- A word that a scrub found changed. -/
def State.otpDrift (s : State) (a : Nat) : State :=
  let s1 := if s.on F.OTP_SCRUB_DRIFT then s else (s.p F.OTP_SCRUB_DRIFT 1).p F.OTP_SCRUB_FIRST a
  (s1.mlist a).otpFault cOTP_DRIFT (otpRegion a)

/-- OTP_SCRUB_DONE (R374): after 6 ms, and not while a program command runs.  drift: the words marginal or different from their shadow. -/
def execOtpScrubDone (drift : List Nat) (s : State) : Host.Outcome State Fault Refusal :=
  if s.on F.OTP_STAT_SCRUB && s.otp.burn.isNone && s.otp.scrubAt + 6 * msTicks ≤ s.aon then
    let t := s.gi F.THM_STAT_HOTTEMP
    let s1 := ((s.p F.OTP_STAT_SCRUB 0).modOtp (fun o => { o with lastTemp := t })).pi F.OTP_SCRUB_LASTTEMP (t / 100)
    done ((drift.filter (· < 2048)).foldl State.otpDrift s1)
  else .next s

/-! ### Programming, locking and repair (R375 to R382) -/

/-- The programming window at a VDD_OTP in mV (R375). -/
def State.setVotp (s : State) (mv : Nat) : State :=
  let cool := (List.range 32).all (fun k => 0 ≤ s.gi (F.THM_TS_VALUE k) && s.gi (F.THM_TS_VALUE k) ≤ 8500)
  (s.p F.OTP_STAT_VOTP mv).p F.OTP_STAT_WINOK (decide (1740 ≤ mv) && decide (mv ≤ 1860) && cool).toNat

/-- The lifecycle states in which a word may be programmed (R366). -/
def otpPermits (a lc : Nat) : Bool :=
  let field := lc == lcMAKER || lc == lcFIELD || lc == lcRETURNED
  match otpRegion a with
  | 0 => lc == lcBLANK || lc == lcMAKER || (isSecver a && (lc == lcFIELD || lc == lcRETURNED))
  | 1 => false
  | 2 => lc == lcMAKER || (isCk a && lc == lcRETURNED)
  | 3 => lc == lcMAKER
  | 4 => field
  | 5 => field
  | _ => (a == 0x7E0 || a == 0x7F0 || a == 0x7E1 || a == 0x7F1) && field

/-- The lock bit of R371 that covers a word. -/
def State.otpLocked (s : State) (a : Nat) : Bool :=
  match otpRegion a with
  | 0 => bit s.wires.locks 0
  | 1 => false
  | 6 => false
  | r => bit s.wires.locks (r - 1)

/-- A customer key slot is killed (R371, R375). -/
def State.ckKilled (s : State) (j : Nat) : Bool := bit (s.wires.killed ||| s.otpWord 0x7E1) j

/-- A refusal or failure of an OTP command: PSTAT and the fault. -/
def State.otpRefuse (s : State) (code detail addr : Nat) : State :=
  ((((s.p F.OTP_PSTAT_DONE 1).p F.OTP_PSTAT_OK 0).p F.OTP_PSTAT_CODE code).p F.OTP_PSTAT_ADDR addr).otpFault code detail

/-- A burn starts. -/
def State.otpBurn (s : State) (b : Burn) : State := (s.p F.OTP_STAT_BUSY 1).modOtp (fun o => { o with burn := some b })

/-- PROGRAM (R375). -/
def State.otpProgram (s : State) : State :=
  let a := s.g F.OTP_PADDR_ADDR
  let v := s.g F.OTP_PDATA_D
  if s.otpLocked a && !openWord a then s.otpRefuse cOTP_LOCKED (otpRegion a) a
  else if !otpPermits a s.lifecycle then s.otpRefuse cOTP_STATE (otpRegion a) a
  else if (!bitWise a && s.fuse a ≠ 0) || (isCk a && s.ckKilled ((a - 0x88) / 8)) then s.otpRefuse cOTP_PROG 1 a
  else if !s.on F.OTP_STAT_WINOK then s.otpRefuse cOTP_WINDOW 1 a
  else s.otpBurn { words := [(a, v)], addr := a }

/-- A required group of R378 has no non-blank word. -/
def State.lockBlank (s : State) (region : Nat) : Bool :=
  let blank := fun (l : List Nat) => l.all (fun a => s.otpWord a == 0)
  match region with
  | 0 => blank [0] || blank [2, 3] || blank [4]
  | 1 => blank ((List.range 8).map (0x60 + ·)) || blank ((List.range 8).map (0x80 + ·))
  | 2 => blank [0x140] || blank [0x174]
  | _ => false

/-- LOCK (R378, R379): the digest words, low 4 bytes first, then the region's bit of L1. -/
def State.otpLock (s : State) (region : Nat) : State :=
  let d := s.otpDigest region
  let a := (lockRange region).2.2
  let have_ := s.digestWords region
  if !otpPermits a s.lifecycle then s.otpRefuse cOTP_STATE (lockRegion region) a
  else if s.lockBlank region then s.otpRefuse cOTP_INCOMPLETE (lockRegion region) a
  else if have_ != d && have_ != List.replicate 8 0 then s.otpRefuse cOTP_PROG 3 a
  else if !s.on F.OTP_STAT_WINOK then s.otpRefuse cOTP_WINDOW 1 a
  else s.otpBurn { words := (if have_ == d then [] else [(a, leNat (d.take 4)), (a + 1, leNat (d.drop 4))]) ++ [(0x41, 2 ^ region)], addr := 0x41 }

/-- REPAIR (R377): the row of PADDR's word moves to a spare, with the value the interrupted burn was to leave. -/
def State.otpRepair (s : State) : State :=
  let a := s.g F.OTP_PADDR_ADDR
  let v := match s.otp.half.find? (fun x => x.1 == a) with | some x => x.2 | none => s.fuse a
  if s.g F.OTP_STAT_SPARES = 0 then s.otpRefuse cOTP_PROG 2 a
  else if !s.on F.OTP_STAT_WINOK then s.otpRefuse cOTP_WINDOW 1 a
  else s.otpBurn { words := [(a, v)], repair := true, addr := a }

/-- A write of OTP.PCMD (R375, R377, R378). -/
def State.pcmdWrite (s : State) (q : Requester) (v : Nat) : State :=
  if bits v 31 24 ≠ 0xB7 || s.on F.OTP_STAT_BUSY || s.on F.LCS_STATE_BUSY then s.unitFault .OTP 0 q cSTATE_REFUSED
  else
    let s1 := s.setWord .OTP_PSTAT 0 0 0
    match bits v 3 0 with
    | 1 => s1.otpProgram
    | 2 => if 5 ≤ bits v 6 4 then s.unitFault .OTP 0 q cRESERVED_ENC else s1.otpLock (bits v 6 4)
    | 3 => s1.otpRepair
    | _ => s.unitFault .OTP 0 q cRESERVED_ENC

/-- PROGRAM (R375): a write of OTP.PCMD with a key, while VDD_OTP is at a value in mV. -/
def execProgram (q : Requester) (key votp : Nat) (s : State) : Host.Outcome State Fault Refusal :=
  s.gate q (done ((s.setVotp votp).pcmdWrite q (key % 256 * 2 ^ 24 + 1)))

/-- LOCK (R378, R379). -/
def execLock (q : Requester) (key region votp : Nat) (s : State) : Host.Outcome State Fault Refusal :=
  s.gate q (done ((s.setVotp votp).pcmdWrite q (key % 256 * 2 ^ 24 + region % 8 * 16 + 2)))

/-- REPAIR (R377). -/
def execRepair (q : Requester) (key votp : Nat) (s : State) : Host.Outcome State Fault Refusal :=
  s.gate q (done ((s.setVotp votp).pcmdWrite q (key % 256 * 2 ^ 24 + 3)))

/-- Sets a word's fuses: a bit-wise word in both copies, bits already set staying set (R365). -/
def State.burnWord (s : State) (a v : Nat) : State :=
  if bitWise a then (s.setFuse a (s.fuse a ||| v)).setFuse (otpTwin a) (s.fuse (otpTwin a) ||| v) else s.setFuse a (s.fuse a ||| v)

/-- A burn that did not succeed: an unknown part of the bits asked for is set (log 1). -/
def State.burnPart (s : State) (a v : Nat) : State := (s.draw.2).burnWord a (v &&& s.draw.1.toNat)

/-- The end of a burn without success. -/
def State.burnFail (s : State) (b : Burn) (code detail a : Nat) : State :=
  let s1 := ((s.p F.OTP_STAT_BUSY 0).p F.LCS_STATE_BUSY 0).modOtp (fun o => { o with burn := none })
  let s2 := if b.lcs = 0 then s1 else (s1.p F.LCS_RESULT_DONE 1).p F.LCS_RESULT_OK 0
  s2.otpRefuse code detail a

/-- OTP_WINDOW (R377): the programming window is lost during a burn, which stops after the current bit. -/
def execOtpWindow (votp : Nat) (s : State) : Host.Outcome State Fault Refusal :=
  let s0 := s.setVotp votp
  match s.otp.burn with
  | some b =>
    if s0.on F.OTP_STAT_WINOK then done s0
    else
      match b.words with
      | (a, v) :: _ =>
        let s1 := (s0.burnPart a v).modOtp (fun o => { o with half := (a, v) :: o.half.filter (fun x => x.1 != a) })
        done (s1.burnFail b cOTP_WINDOW 2 a)
      | [] => done s0
  | none => done s0

/-! ### Lifecycle commands (R384 to R387) -/

/-- A lifecycle command is refused with a code of LCS.RESULT. -/
def State.lcRefuse (s : State) (code : Nat) : State :=
  (((s.p F.LCS_RESULT_DONE 1).p F.LCS_RESULT_OK 0).p F.LCS_RESULT_CODE code).raise 10 cLCS_REFUSED code .a

/-- The burns of a lifecycle command start; each bit-wise word is named by its first copy. -/
def State.lcBurn (s : State) (action : Nat) (ws : List (Nat × Nat)) : State :=
  (s.p F.LCS_STATE_BUSY 1).otpBurn { words := ws, addr := 0x40, lcs := action }

/-- The bits of K1 that a return kills: every programmed customer key slot (R384). -/
def State.ckProgrammed (s : State) : Nat :=
  (List.range 16).foldl (fun v j => if (List.range 8).any (fun i => s.otpWord (0x88 + 8 * j + i) != 0) then v + 2 ^ j else v) 0

/-- The token as 160 bytes (R386). -/
def State.tokenBytes (s : State) : List Nat := (List.range 40).flatMap (fun k => leBytes 4 (s.word .LCS_TOKEN 0 k))

/-- n bytes of a list from o on, big-endian. -/
def beNat (bs : List Nat) (o n : Nat) : Nat := leNat ((bs.drop o).take n).reverse

/-- The checks of R387, in order: 0 where all hold, else the code of LCS.RESULT. -/
def State.tokenCheck (s : State) : Nat :=
  let b := s.tokenBytes
  let w := fun o n => leNat ((b.drop o).take n)
  let purpose := w 4 1
  let lc := s.lifecycle
  let k := s.g F.LCS_STATE_RETURNS
  if w 0 4 ≠ 0x4E4B4F54 || w 5 3 ≠ 0 || purpose = 0 || 3 < purpose then 1
  else if w 8 8 ≠ s.otpWord 2 + 2 ^ 32 * s.otpWord 3 then 2
  else if !s.on F.LCS_STATE_NONCEV || (List.range 4).any (fun i => w (0x10 + 4 * i) 4 != s.g (F.LCS_NONCE_N i)) then 3
  else if sha256 ((b.drop 0x20).take 64) != s.otpBytes 0x80 8 then 4
  else if !Config.ecdsaP256Verify (beNat b 0x20 32) (beNat b 0x40 32) (beNat (sha256 (b.take 0x20)) 0 32) (beNat b 0x60 32) (beNat b 0x80 32) then 5
  else if !(if purpose = 1 then lc == lcFIELD else if purpose = 2 then lc == lcRETURNED else lc == lcFIELD || lc == lcRETURNED) then 6
  else if purpose = 1 && 14 ≤ k then 8
  else if purpose = 1 && !bit (s.otpWord 0x42) k then 7
  else if !s.on F.OTP_STAT_WINOK then 9
  else 0

/-- TOKEN (R384, R386, R387): the nonce is consumed whatever the outcome; leaving RETURNED for FIELD seals the journal first (R361). -/
def State.lcToken (s : State) : State :=
  let code := s.tokenCheck
  let purpose := bits (s.word .LCS_TOKEN 0 1) 7 0
  let n := s.g F.LCS_STATE_RETURNS
  let s1 := s.p F.LCS_STATE_NONCEV 0
  if code ≠ 0 then s1.lcRefuse code
  else if purpose = 1 then s1.lcBurn 5 ((if s.ckProgrammed = 0 then [] else [(0x7E1, s.ckProgrammed)]) ++ [(0x40, 2 ^ (2 * n + 2))])
  else if purpose = 2 then s1.jrnSeal.lcBurn 5 [(0x40, 2 ^ (2 * n + 1))]
  else s1.lcBurn 5 [(0x7E1, 0xFFFFFFFF), (0x40, 2 ^ 31)]

/-- A burn without a token needs its state, its conditions and the programming window. -/
def State.lcBurnIf (s : State) (action state : Nat) (cond : Bool) (ws : List (Nat × Nat)) : State :=
  if s.lifecycle ≠ state then s.lcRefuse 6
  else if !cond then s.lcRefuse 8
  else if !s.on F.OTP_STAT_WINOK then s.lcRefuse 9
  else s.lcBurn action ws

/-- NONCE (R387): 128 bits of the entropy source (log 1). -/
def State.lcNonce (s : State) : State :=
  let s1 := forRange 0 4 (fun i a => a.draw.2.p (F.LCS_NONCE_N i) a.draw.1.toNat) s
  ((s1.p F.LCS_STATE_NONCEV 1).p F.LCS_RESULT_DONE 1).p F.LCS_RESULT_OK 1

/-- A write of LCS.LCCMD (R384, R385, R387). -/
def State.lccmdWrite (s : State) (q : Requester) (v : Nat) : State :=
  if bits v 31 24 ≠ 0x3D || s.on F.OTP_STAT_BUSY || s.on F.LCS_STATE_BUSY then s.unitFault .LCS 0 q cSTATE_REFUSED
  else
    let s1 := s.setWord .LCS_RESULT 0 0 0
    match bits v 3 0 with
    | 1 => s1.lcNonce
    | 2 => s1.lcBurnIf 2 lcBLANK true [(0x40, 1)]
    | 3 => s1.lcBurnIf 3 lcMAKER (bits (s.otpWord 0x41) 2 0 = 7) [(0x40, 2)]
    | 4 => s1.lcBurnIf 4 lcFIELD (s.g F.LCS_STATE_RETURNS < 14) [(0x42, 2 ^ s.g F.LCS_STATE_RETURNS)]
    | 5 => s1.lcToken
    | 6 => s1.lcBurnIf 6 lcMAKER true [(0x7E1, 0xFFFFFFFF), (0x40, 2 ^ 31)]
    | _ => s.unitFault .LCS 0 q cRESERVED_ENC

/-- A write of LCS.LCCMD with a key and an ACTION, while VDD_OTP is at a value in mV. -/
def State.lcAct (s : State) (q : Requester) (key action votp : Nat) : State :=
  (s.setVotp votp).lccmdWrite q (key % 256 * 2 ^ 24 + action)

/-- NONCE (R387). -/
def execNonce (q : Requester) (key : Nat) (s : State) : Host.Outcome State Fault Refusal := s.gate q (done (s.lccmdWrite q (key % 256 * 2 ^ 24 + 1)))
/-- ENTER_MAKER (R384). -/
def execEnterMaker (q : Requester) (key votp : Nat) (s : State) : Host.Outcome State Fault Refusal := s.gate q (done (s.lcAct q key 2 votp))
/-- ENTER_FIELD (R382, R384). -/
def execEnterField (q : Requester) (key votp : Nat) (s : State) : Host.Outcome State Fault Refusal := s.gate q (done (s.lcAct q key 3 votp))
/-- CONSENT (R385). -/
def execConsent (q : Requester) (key votp : Nat) (s : State) : Host.Outcome State Fault Refusal := s.gate q (done (s.lcAct q key 4 votp))
/-- TOKEN (R384, R387). -/
def execToken (q : Requester) (key votp : Nat) (s : State) : Host.Outcome State Fault Refusal := s.gate q (done (s.lcAct q key 5 votp))
/-- SCRAP (R384). -/
def execScrap (q : Requester) (key votp : Nat) (s : State) : Host.Outcome State Fault Refusal := s.gate q (done (s.lcAct q key 6 votp))

/-- ROSC_COUNT (R400): each domain's oscillator over 4,000 ticks, every 1 ms. -/
def execRoscCount (v : Vector Nat 7) (s : State) : Host.Outcome State Fault Refusal :=
  if dueSince s.roscAt msTicks s.now then
    done (forRange 0 7 (fun d a => (a.pi (F.LCS_ROSC_TEMP d) (s.gi F.THM_STAT_HOTTEMP / 100)).p (F.LCS_ROSC_COUNT d) (vget v d)) { s with roscAt := some s.now })
  else .next s

end Sys2Proof.Machine
end

