-- ==== Sys2Proof/Machine/Hyler.lean ====
section
/-! DEFINITION. Consumables on the Hyler wire (R389 to R399). -/

namespace Sys2Proof.Machine

/-- The states of R394. -/
def hyOFF : Nat := 0
def hyABSENT : Nat := 1
def hyIDENT : Nat := 2
def hyOK : Nat := 3
def hyLOW : Nat := 4
def hyEOL : Nat := 5
def hyREJECTED : Nat := 6
def hyLINEFAULT : Nat := 7

/-- The codes of R403. -/
def cHYW_LINE : Nat := 1
def cHYW_COMM : Nat := 2
def cHYW_AUTH : Nat := 3
def cHYW_TYPE : Nat := 4
def cHYW_METER : Nat := 5
def cHYW_EOL : Nat := 6
def cHYW_REMOVED : Nat := 7

/-- The commands of R391. -/
def hcIDENT : Nat := 1
def hcAUTH : Nat := 2
def hcADD : Nat := 3
def hcREAD : Nat := 4

def State.hywOf (s : State) (n : Nat) : Hyw := vget s.hyw n
def State.modHyw (s : State) (n : Nat) (f : Hyw → Hyw) : State := { s with hyw := vmod s.hyw n f }
def State.hywState (s : State) (n : Nat) : Nat := s.g (F.HYW_STAT_STATE n)
def State.hywEn (s : State) (n : Nat) : Bool := n < s.blockCount .HYW && s.on (F.HYW_CTRL_EN n)

/-- A fitted and authenticated consumable: OK, LOW or EOL. -/
def State.hywFitted (s : State) (n : Nat) : Bool := s.hywState n == hyOK || s.hywState n == hyLOW || s.hywState n == hyEOL

/-- The port enters a state (R394), with a trace record (R414); PERMIT is 1 in OK and LOW, and in EOL as R398 says. -/
def State.setHyw (s : State) (n st : Nat) : State :=
  let s1 := if s.hywState n = st then s else (s.p (F.HYW_STAT_STATE n) st).traceEv (74 + n) 9 st 0
  if st = hyEOL then s1
  else (s1.p (F.HYW_STAT_PERMIT n) (st = hyOK || st = hyLOW : Bool).toNat).modHyw n (fun h => { h with eolWait := false })

/-- A class-A fault of a port that spoils the folios it serves (R397). -/
def State.hywSpoil (s : State) (n code detail : Nat) : State :=
  (s.p (F.HYW_STAT_FAULT n) code).raiseSpoil (74 + n) code detail .a
    (fun f => f.inPath && (s.on (F.HYW_CFG_PATH n) || s.g (F.HYW_CFG_STN n) &&& f.desc.stations != 0)) 0x0A

/-- A class-A fault that spoils nothing. -/
def State.hywFault (s : State) (n code : Nat) : State := (s.p (F.HYW_STAT_FAULT n) code).raise (74 + n) code 0 .a 0x0A

/-- The port becomes REJECTED with a fault. -/
def State.hywReject (s : State) (n code detail : Nat) : State :=
  ((s.setHyw n hyREJECTED).modHyw n (fun h => { h with phase := .idle, recheck := false })).hywSpoil n code detail

/-- The consumable is gone (R395). -/
def State.hywGone (s : State) (n : Nat) : State :=
  ((s.setHyw n hyABSENT).modHyw n (fun h => { h with phase := .idle, recheck := false, ident := none })).hywSpoil n cHYW_REMOVED 0

/-- Entry to EOL (R398): PERMIT stays while a signature that is open now stays open. -/
def State.hywEol (s : State) (n : Nat) : State :=
  if s.hywState n = hyEOL then s
  else
    let hold : Bool := s.gath.sigOpen.isSome && s.on (F.HYW_STAT_PERMIT n)
    (((s.setHyw n hyEOL).p (F.HYW_STAT_PERMIT n) hold.toNat).modHyw n (fun h => { h with eolWait := hold, eolAt := none })).hywFault n cHYW_EOL

/-- The thresholds of R395 on a LIFE. -/
def State.hywLife (s : State) (n life : Nat) : State :=
  let s1 := s.p (F.HYW_LIFE_L n) life
  let rated := s.g (F.HYW_RATED_R n)
  if rated ≤ life then s1.hywEol n
  else if rated * s.g (F.HYW_CFG_WARNPCT n) ≤ 100 * life then s1.setHyw n hyLOW
  else s1.setHyw n hyOK

/-- The tick in which a consumable at its end of life that waited for its signature no longer permits sewing (R398). -/
def State.eolTick (s : State) (n : Nat) : State :=
  match (s.hywOf n).eolAt with
  | some t => if (s.hywOf n).eolWait && t ≤ s.now then (s.modHyw n (fun h => { h with eolWait := false, eolAt := none })).p (F.HYW_STAT_PERMIT n) 0 else s
  | none => s

/-- The device holds the line low for a break, 120 us of the 320 us that end with the time for an announce (R389). -/
def State.hywLow (s : State) (n : Nat) : Bool := match (s.hywOf n).phase with | .listen limit => decide (s.now + 200 * usTicks < limit) | _ => false

/-! ### Transactions (R389, R390) -/

/-- An AUTH is due: in IDENT once IDENT has answered, later when asked for or after CFG2.REAUTH sewn folios (R394). -/
def State.authDue (s : State) (n : Nat) : Bool :=
  (s.hywState n == hyIDENT && (s.hywOf n).ident.isSome)
    || (s.hywFitted n && ((s.hywOf n).reauth || s.g (F.HYW_CFG2_REAUTH n) ≤ (s.hywOf n).sewn))

/-- A request waits for its slot: a break may be sent before the 100 ms timer. -/
def State.hywUrgent (s : State) (n : Nat) : Bool := s.hywState n == hyIDENT || (s.hywOf n).recheck || s.authDue n || !(s.hywOf n).queue.isEmpty

/-- HYW_BREAK (R389, R394): the line is held low for 120 us and an announce is awaited until 200 us after. -/
def execHywBreak (n : Nat) (s : State) : Host.Outcome State Fault Refusal :=
  let h := s.hywOf n
  if s.hywEn n && h.phase == .idle && s.hywState n ≠ hyLINEFAULT && (dueSince h.breakAt (100 * msTicks) s.now || (s.hywFitted n || s.hywState n = hyIDENT) && s.hywUrgent n) then
    done (s.modHyw n (fun x => { x with phase := .listen (s.now + 320 * usTicks), breakAt := some s.now }))
  else .next s

/-- No announce follows a break (R394, R395). -/
def State.noAnnounce (s : State) (n : Nat) : State :=
  let s1 := s.modHyw n (fun x => { x with phase := .idle })
  let st := s.hywState n
  if st = hyREJECTED then s1.setHyw n hyABSENT
  else if (s.hywOf n).recheck || s.hywFitted n then s1.hywGone n
  else if st = hyIDENT then (s1.setHyw n hyABSENT).modHyw n (fun x => { x with ident := none })
  else s1

/-- An announce follows a break. -/
def State.announced (s : State) (n : Nat) : State :=
  let st := s.hywState n
  if (s.hywOf n).recheck then
    ((s.modHyw n (fun x => { x with phase := .ready, recheck := false, ident := none })).setHyw n hyIDENT).hywFault n cHYW_COMM
  else if st = hyABSENT then (s.setHyw n hyIDENT).modHyw n (fun x => { x with phase := .ready, ident := none })
  else if st = hyREJECTED then s.modHyw n (fun x => { x with phase := .idle })
  else s.modHyw n (fun x => { x with phase := .ready })

/-- HYW_ANNOUNCE (R389): a byte received while an announce is awaited, with its stop bit; any but 0x6E, well stopped, is no announce. -/
def execHywAnnounce (n byte : Nat) (stop : Bool) (s : State) : Host.Outcome State Fault Refusal :=
  match (s.hywOf n).phase with
  | .listen limit => if s.hywEn n && s.now ≤ limit then done (if byte = 0x6E && stop then s.announced n else s.noAnnounce n) else .next s
  | _ => .next s

/-- HYW_ANNOUNCE_TIMEOUT (R389). -/
def execHywAnnounceTimeout (n : Nat) (s : State) : Host.Outcome State Fault Refusal :=
  match (s.hywOf n).phase with
  | .listen limit => if s.hywEn n && limit < s.now then done (s.noAnnounce n) else .next s
  | _ => .next s

/-- A request is sent, and its response awaited for 2 ms. -/
def State.hywSend (s : State) (n cmd tries : Nat) : State := s.modHyw n (fun x => { x with phase := .wait cmd (s.now + 2 * msTicks) tries })

/-- IDENT (R391, R394). -/
def execIdent (n : Nat) (s : State) : Host.Outcome State Fault Refusal :=
  if s.hywEn n && s.hywState n = hyIDENT && (s.hywOf n).ident.isNone && (s.hywOf n).phase == .ready then done (s.hywSend n hcIDENT 0) else .next s

/-- The customer key of a port, 32 bytes; none where its slot is blank or killed (R393). -/
def State.hywKey (s : State) (n : Nat) : Option (List Nat) :=
  let j := s.g (F.HYW_CFG_KEY n)
  let k := s.otpBytes (0x88 + 8 * j) 8
  if s.ckKilled j || k.all (· == 0) then none else some k

/-- A fresh challenge of 16 bytes (R387, R393; log 1). -/
def State.challenge (s : State) (n : Nat) : State :=
  (List.range 4).foldl (fun a _ => a.draw.2.modHyw n (fun x => { x with challenge := x.challenge ++ leBytes 4 a.draw.1.toNat }))
    (s.modHyw n (fun x => { x with challenge := [] }))

/-- AUTH (R393, R394): with a blank or killed key it fails without a transaction. -/
def execAuth (n : Nat) (s : State) : Host.Outcome State Fault Refusal :=
  if s.hywEn n && s.authDue n then
    match s.hywKey n with
    | none => done (s.hywReject n cHYW_AUTH 2)
    | some _ => if (s.hywOf n).phase == .ready then done ((s.challenge n).hywSend n hcAUTH 0) else .next s
  else .next s

/-- HYW_ADD (R396): the queued ADD, with EXPECT the last LIFE known. -/
def execHywAdd (n : Nat) (s : State) : Host.Outcome State Fault Refusal :=
  if s.hywEn n && s.hywFitted n && !(s.hywOf n).queue.isEmpty && (s.hywOf n).phase == .ready then done (s.hywSend n hcADD 0) else .next s

/-- READ (R391, R394): every 100 ms. -/
def execRead (n : Nat) (s : State) : Host.Outcome State Fault Refusal :=
  if s.hywEn n && s.hywFitted n && (s.hywOf n).phase == .ready && (s.hywOf n).readAt + 100 * msTicks ≤ s.now then
    done ((s.hywSend n hcREAD 0).modHyw n (fun x => { x with readAt := s.now }))
  else .next s

/-- CRC-16/CCITT, the preset 0x2 (R327, R390). -/
def crc16 (bs : List Nat) : Nat := crcOut 16 false false (bs.foldl (crcByte 16 0x1021 false) 0xFFFF)

/-- The length of a command's answer. -/
def answerLen (cmd : Nat) : Nat := if cmd = hcIDENT then 18 else if cmd = hcAUTH then 32 else 4

/-- STATUS and payload of a response frame (R390); none where it is malformed or its CRC is wrong. -/
def hywFrame (cmd : Nat) (bs : List Nat) : Option (Nat × List Nat) :=
  let len := bs.getD 2 0
  let status := bs.getD 1 0
  let want := if status = 0 || (cmd = hcADD && (status = 3 || status = 4)) then answerLen cmd else len
  if bs.getD 0 0 = 0xA5 && len ≤ 48 && bs.length = 5 + len && bs.all (· < 256) && status ≤ 4 && len = want
      && leNat (bs.drop (3 + len)) = crc16 ((bs.drop 1).take (2 + len)) then
    some (status, (bs.drop 3).take len)
  else none

/-- A request has failed (R395, R396): an ADD rejects the consumable; any other is followed by a break. -/
def State.hywFailed (s : State) (n cmd : Nat) : State :=
  if cmd = hcADD then s.hywReject n cHYW_METER 0 else s.modHyw n (fun x => { x with phase := .idle, recheck := true })

/-- The request is repeated, up to 3 times (R390). -/
def State.hywRepeat (s : State) (n cmd tries : Nat) : State :=
  if tries < 3 then (s.inc (F.HYW_STAT_RETRIES n)).hywSend n cmd (tries + 1) else s.hywFailed n cmd

/-- The MAC of R393. -/
def State.hywMac (s : State) (n : Nat) (id type rated life : Nat) : List Nat :=
  let it := leBytes 8 id ++ leBytes 2 type
  hmac (hmac ((s.hywKey n).getD []) it) ((s.hywOf n).challenge ++ it ++ leBytes 4 rated ++ leBytes 4 life)

/-- The answer to IDENT (R395): the type is judged; the rest waits for AUTH. -/
def State.identAnswer (s : State) (n : Nat) (b : List Nat) : State :=
  let type := leNat ((b.drop 8).take 2)
  if type ≠ s.g (F.HYW_CFG_TYPE n) || type = 0 || 5 ≤ type then s.hywReject n cHYW_TYPE 0
  else s.modHyw n (fun x => { x with phase := .idle, ident := some (leNat (b.take 8), type, leNat ((b.drop 10).take 4), leNat ((b.drop 14).take 4)) })

/-- The answer to AUTH (R393, R395). -/
def State.authAnswer (s : State) (n : Nat) (b : List Nat) : State :=
  let h := s.hywOf n
  let s1 := s.modHyw n (fun x => { x with phase := .idle, reauth := false, sewn := 0 })
  match h.ident with
  | some (id, type, rated, life) =>
    if b != s.hywMac n id type rated life then s1.hywReject n cHYW_AUTH 1
    else
      let s2 := s1.modHyw n (fun x => { x with ident := none, id := id, type := type, readAt := s.now })
      (((s2.p (F.HYW_ID_LO_ID n) id).p (F.HYW_ID_HI_ID n) (id / 2 ^ 32)).p (F.HYW_RATED_R n) rated).hywLife n life
  | none =>
    if b != s.hywMac n h.id h.type (s.g (F.HYW_RATED_R n)) (s.g (F.HYW_LIFE_L n)) then s1.hywReject n cHYW_AUTH 1 else s1

/-- The answer to ADD (R396): success where LIFE is EXPECT + INC, by OK or by STATUS 0x04. -/
def State.addAnswer (s : State) (n status : Nat) (b : List Nat) : State :=
  let life := leNat b
  match (s.hywOf n).queue with
  | inc :: rest =>
    if (status = 0 || status = 4) && life = s.g (F.HYW_LIFE_L n) + inc then
      ((s.modHyw n (fun x => { x with phase := .idle, queue := rest })).p (F.HYW_STAT_QUEUE n) rest.length).hywLife n life
    else s.hywReject n cHYW_METER 0
  | [] => s.modHyw n (fun x => { x with phase := .idle })

/-- The answer to READ: a LIFE lower than the last known rejects the consumable (R396). -/
def State.readAnswer (s : State) (n : Nat) (b : List Nat) : State :=
  if leNat b < s.g (F.HYW_LIFE_L n) then s.hywReject n cHYW_METER 0
  else (s.modHyw n (fun x => { x with phase := .idle })).hywLife n (leNat b)

/-- HYW_RESPONSE (R390, R395, R396): the bytes of a response frame. -/
def execHywResponse (n : Nat) (bs : List Nat) (s : State) : Host.Outcome State Fault Refusal :=
  match (s.hywOf n).phase with
  | .wait cmd limit tries =>
    if s.hywEn n && s.now ≤ limit then
      match hywFrame cmd bs with
      | none => done (s.hywRepeat n cmd tries)
      | some (status, b) =>
        if status = 1 then done (s.hywRepeat n cmd tries)
        else if cmd = hcADD then done (s.addAnswer n status b)
        else if status ≠ 0 then done (s.hywFailed n cmd)
        else if cmd = hcIDENT then done (s.identAnswer n b)
        else if cmd = hcAUTH then done (s.authAnswer n b)
        else done (s.readAnswer n b)
    else .next s
  | _ => .next s

/-- HYW_RESPONSE_TIMEOUT (R389, R390): no response within 2 ms. -/
def execHywResponseTimeout (n : Nat) (s : State) : Host.Outcome State Fault Refusal :=
  match (s.hywOf n).phase with
  | .wait cmd limit tries => if s.hywEn n && limit ≤ s.now then done (s.hywRepeat n cmd tries) else .next s
  | _ => .next s

/-! ### The line (R399) -/

/-- HYW_LINE (R399): detail 1, low for 1 ms unpulled; detail 2, not falling within 2 us of a pull. -/
def execHywLine (n detail : Nat) (s : State) : Host.Outcome State Fault Refusal :=
  if s.hywEn n && s.hywState n ≠ hyLINEFAULT && (detail = 1 || detail = 2) then
    done ((((s.setHyw n hyLINEFAULT).p (F.HYW_STAT_LINE n) (detail - 1)).modHyw n (fun x =>
      { x with phase := .idle, recheck := false, ident := none, testAt := s.now })).hywSpoil n cHYW_LINE detail)
  else .next s

/-- LINE_TEST (R394): every 1 s in LINEFAULT. -/
def execLineTest (n : Nat) (normal : Bool) (s : State) : Host.Outcome State Fault Refusal :=
  if s.hywEn n && s.hywState n = hyLINEFAULT && (s.hywOf n).testAt + 1000 * msTicks ≤ s.now then
    let s1 := s.modHyw n (fun x => { x with testAt := s.now })
    if normal then done ((s1.p (F.HYW_STAT_LINE n) 1).setHyw n hyABSENT) else done s1
  else .next s

/-! ### Register writes -/

/-- A write of METER (R396). -/
def State.meterWrite (s : State) (q : Requester) (n v : Nat) : State :=
  let inc := v % 2 ^ 24
  if inc = 0 then s.unitFault .HYW n q cRESERVED_ENC
  else if 4 ≤ (s.hywOf n).queue.length then s.unitFault .HYW n q cSTATE_REFUSED
  else (s.modHyw n (fun x => { x with queue := x.queue ++ [inc] })).p (F.HYW_STAT_QUEUE n) ((s.hywOf n).queue.length + 1)

/-- METER (R396). -/
def execMeter (q : Requester) (n v : Nat) (s : State) : Host.Outcome State Fault Refusal :=
  s.gate q (if n < s.blockCount .HYW then done (s.meterWrite q n v) else .next s)

/-- A unit reset of HYWn (R37, R38). -/
def State.hywReset (s : State) (n : Nat) : State :=
  let s1 := if s.hywState n = hyOFF then s else s.setHyw n hyOFF
  ((s1.portPads [conPad n] 0).resetBlock .HYW n).modHyw n (fun _ => {})

/-- A write of HYWn.CTRL (R389, R394). -/
def State.hywCtrlWrite (s : State) (q : Requester) (n v : Nat) : State :=
  let was := s.on (F.HYW_CTRL_EN n)
  if bit v 31 then s.hywReset n
  else if bit v 0 && !was && !s.owns q (padRid (conPad n)) then s.unitFault .HYW n q cSTATE_REFUSED
  else
    let s1 := s.p (F.HYW_CTRL_EN n) (v % 2)
    let s2 :=
      if bit v 0 && !was then (s1.portPads [conPad n] 3).setHyw n hyABSENT
      else if !bit v 0 && was then
        (((s1.portPads [conPad n] 0).setHyw n hyOFF).p (F.HYW_STAT_QUEUE n) 0).modHyw n (fun _ => {})
      else s1
    if bit v 1 && s2.hywFitted n then s2.modHyw n (fun x => { x with reauth := true }) else s2

/-- HYW_ENABLE (R389): a write of HYWn.CTRL.EN. -/
def execHywEnable (q : Requester) (n : Nat) (on : Bool) (s : State) : Host.Outcome State Fault Refusal :=
  s.gate q (if n < s.blockCount .HYW then done (s.hywCtrlWrite q n on.toNat) else .next s)

/-- REAUTH (R394): a write of REAUTH = 1 that leaves EN as it is. -/
def execReauth (q : Requester) (n : Nat) (s : State) : Host.Outcome State Fault Refusal :=
  s.gate q (if n < s.blockCount .HYW then done (s.hywCtrlWrite q n (2 + s.g (F.HYW_CTRL_EN n))) else .next s)

/-- The reserved encodings of HYWn's words. -/
def State.hywReserved (s : State) (r : Reg) (v : Nat) : Bool :=
  match r with
  | .HYW_CFG =>
    bits v 31 16 == 0 || 5 ≤ bits v 31 16 || bits v 6 0 == 0 || 100 < bits v 6 0
      || (List.range 4).any (fun k => bit v (8 + k) && s.blockCount .STR ≤ k)
  | .HYW_CFG2 => bits v 31 16 == 0
  | _ => false

end Sys2Proof.Machine
end

