-- ==== Sys2Proof/Machine/Reset.lean ====
section
/-! DEFINITION. The reset kinds of R38, core reset and the spare (R208, R211 to R213), and CORD.STAT's followers (R19). -/

namespace Sys2Proof.Machine

/-! ### Device resets (R38) -/

/-- A record being written to FRAM when the device is reset or loses power may be left torn (R352): its bytes are written from offset 0
upwards with COMMIT 0x00, COMMIT last; how far is an open value (log 1). -/
def State.tornCommit (s : State) : State :=
  match s.jrn.queue with
  | [] => s
  | r :: _ =>
    if s.g F.JRN_STAT_STATE = jOPEN && s.on F.JRN_STAT_FRAMOK then
      let n := s.draw.1.toNat % 34
      s.draw.2.framWr (framSlot r.seq) ((r.bytes (if n = 33 then 0xC3 else 0)).take n)
    else s

/-- A burn in progress at a reset stops where it is (R364, R377). -/
def State.tornBurn (s : State) : State :=
  match s.otp.burn with
  | some b =>
    match b.words with
    | (a, v) :: _ => (s.burnPart a v).modOtp (fun o => { o with half := (a, v) :: o.half.filter (fun x => x.1 != a) })
    | [] => s
  | none => s

/-- OTP as a reset leaves it: the fuses, and what the device must still know of them. -/
def Otp.kept (o : Otp) : Otp := { array := o.array, half := o.half }

/-- TCE.SPARE.EN resets to OTP.DEVID.SPARE_OK. -/
def State.spareDefault (s : State) : State := s.p F.TCE_SPARE_EN (if s.g F.OTP_DEVID_SPARE_OK = 0 then 0 else 1)

/-- What the device still knows of its folios after a reset: those whose sheets had reached the diverter, exit confirmed or not, so that none of
them is sewn a second time unless the operator has removed the sheet (R88, R90; DEDUCED, log 68). -/
def State.gathKept (s : State) : Gath :=
  { pastGate := s.gath.pastGate ++ (s.gath.folios.filter (fun f => f.inPath && s.divPass f ≤ s.now)).map (fun f => (f.desc.stream, f.desc.fsn)) }

/-- Power-on reset (R38): all logic and all SRAM; OTP, FRAM and what lies outside the device are not altered. -/
def State.powerOn (s0 : State) : State :=
  let s := s0.tornCommit.tornBurn
  { State.reset with
    pending := s.pending
    free := s.free
    regs := [(0x180000, BitVec.ofNat 32 (s.word .OTP_DEVID 0 0)), (0x180004, BitVec.ofNat 32 (s.g F.OTP_STAT_SPARES * 2 ^ 24))].filter (fun c => c.2 != 0)
    fram := s.fram
    hostMem := s.hostMem
    padIns := s.padIns
    gath := s.gathKept
    otp := s.otp.kept }.spareDefault

/-- The register words that a warm reset keeps whole (R38): PSQ in the AON domain; OBS.FIXk (R410); CORD.STAT and SYN0 with SYN1 while SYN0 is locked,
less their shadowed set (R37); what OTP and its wires deliver until they are read again (R371). -/
def warmKeeps (locked : Bool) (a : Nat) : Bool :=
  (Block.PSQ.base ≤ a && a < Block.PSQ.base + 0x40000)
    || (List.range 8).any (fun i => a == Reg.addr .OBS_FIX_LO 0 i || a == Reg.addr .OBS_FIX_HI 0 i)
    || a == Reg.addr .OTP_DEVID 0 0 || a == Reg.addr .LCS_CHIPID_LO 0 0 || a == Reg.addr .LCS_CHIPID_HI 0 0
    || a == Reg.addr .OTP_STAT 0 0 || a == Reg.addr .LCS_STATE 0 0 || a == Reg.addr .THM_STAT 0 0
    || (locked && (a == Reg.addr .CORD_STAT 0 0
          || (Block.SYN.base ≤ a && a < Block.SYN.base + 0x80000
                && !(a % 0x40000 == Reg.addr .SYN_DIV 0 0 % 0x40000 || a % 0x40000 == Reg.addr .SYN_DCOMMIT 0 0 % 0x40000
                      || (List.range 2).any (fun k => a % 0x40000 == Reg.addr .SYN_CKO 0 k % 0x40000) || 0x8000 ≤ a % 0x40000))))

/-- The registers after a warm reset: of the words kept, OTP.STAT keeps SPARES, LCS.STATE the lifecycle, THM.STAT its SHUTCNT, CORD.STAT what SYN0
drives; TCE.CSTATn.RESETS and SYNn.STAT.LOSSCNT count since power-on. -/
def State.warmRegs (s : State) (locked : Bool) : State :=
  let s1 := { s with regs := s.regs.filter (fun c => warmKeeps locked c.1) }
  let s2 := ((s1.setWord .OTP_STAT 0 0 (s.g F.OTP_STAT_SPARES * 2 ^ 24)).setWord .THM_STAT 0 0 (s.g F.THM_STAT_SHUTCNT * 2 ^ 24)).setWord .LCS_STATE 0 0
    (s.g F.LCS_STATE_STATE * 2 ^ 28 + s.g F.LCS_STATE_RETURNS * 2 ^ 24 + s.g F.LCS_STATE_CONSENT * 2 ^ 23)
  let s3 := if locked then s2.p F.CORD_STAT_VID_OK 0 else s2
  let s4 := forRange 0 6 (fun n a => a.p (F.SYN_STAT_LOSSCNT n) (s.g (F.SYN_STAT_LOSSCNT n))) s3
  forRange 0 24 (fun i a => a.p (F.TCE_CSTAT_RESETS i) (s.g (F.TCE_CSTAT_RESETS i))) s4.spareDefault

/-- What warm reset and wake from SLEEP have in common (R38): CORE, MEM, VIDn and CTL logic, SRAM and the page store are reset; kept are the RWS fields, the
retention SRAM and the AON domain, and with SYN0 locked also SYN0, SYN1 and cord time; the board clocks go on under their reset dividers. -/
def State.logicReset (s0 : State) (locked : Bool) : State :=
  let s := s0.tornCommit.tornBurn
  let t := (({ s with mem := s.mem.filter (fun c => mirrorBase ≤ c.1 && c.1 < localBase) } : State)).warmRegs locked
  let r := { State.reset with
    pending := t.pending
    free := t.free
    cord := if locked then t.cord else 0
    regs := t.regs
    mem := t.mem
    fram := t.fram
    hostMem := t.hostMem
    padIns := t.padIns
    gath := t.gathKept
    wires := t.wires
    psq := t.psq
    aon := t.aon
    otp := t.otp.kept
    thm := { shuts := t.thm.shuts }
    syn := if locked then (vmod (vmod State.reset.syn 0 (fun _ => t.synOf 0)) 1 (fun _ => t.synOf 1)) else State.reset.syn }
  if locked then (r.ckoReschedule 0).ckoReschedule 1 else r

/-- Warm reset (R38): where SYN0 had lost its lock the cord counter restarts, and CORD.STAT.RESTARTED tells so. -/
def State.warmReset (s : State) : State :=
  let locked : Bool := s.synState 0 == syLOCKED
  let s1 := s.logicReset locked
  if s.synState 0 == syHOLD then s1.p F.CORD_STAT_RESTARTED 1 else s1

/-- POWER_ON_RESET (R38): PONRST_N, the detection of VDD_AON, or wake from SHELF. -/
def execPowerOnReset (s : State) : Host.Outcome State Fault Refusal := done s.powerOn

/-- WARM_RESET (R38). -/
def execWarmReset (s : State) : Host.Outcome State Fault Refusal := done s.warmReset

/-- The logic restarts after the device rails have been down (R38, R314, R315, R323): as warm reset, and SYN0 and cord time too. -/
def State.wake (s : State) : State := (s.logicReset false).modPsq (fun x => { x with woke := false })

/-- WAKE_FROM_SLEEP (R38, R323): PSQ has begun to bring the device rails up again. -/
def execWakeFromSleep (s : State) : Host.Outcome State Fault Refusal := if s.psq.woke then done s.wake else .next s

/-- THM_RESTART (R306): HOTTEMP below SHUT - 20 C for 2 s after THM_SHUT, with NORESTART clear. -/
def execThmRestart (s : State) : Host.Outcome State Fault Refusal :=
  match s.thm.coolSince with
  | some t =>
    if s.on F.THM_STAT_SHUT && !s.on F.THM_STAT_NORESTART && t + 2000 * msTicks ≤ s.aon then done s.warmReset else .next s
  | none => .next s

/-- WAKE_EDGE (R314, R323, R324): from SHELF a power-on reset; from FAILED, OFF or SLEEP the WAKE program. -/
def execWakeEdge (s : State) : Host.Outcome State Fault Refusal :=
  if s.psq.asleep = 2 then done s.powerOn
  else if s.psqState = pqFAILED || s.psqState = pqOFF then done (s.psqWake 1)
  else .next s

/-! ### Cores: reset and the spare (R38, R208, R211 to R213) -/

def csRESET : Nat := 0
def csRUN : Nat := 1
def csWAIT : Nat := 2
def csHANDLER : Nat := 3
def csFAILED : Nat := 4
def csSPARE : Nat := 5

def State.coreState (s : State) (i : Nat) : Nat := s.g (F.TCE_CSTAT_STATE i)
def State.setCoreState (s : State) (i st : Nat) : State := s.p (F.TCE_CSTAT_STATE i) st

/-- A core reset; a core that runs starts again at the restart code (R38, R212). -/
def State.coreRestart (s : State) (i : Nat) : State :=
  let st := s.coreState i
  let s1 := s.coreReset i
  if st = csRESET || st = csFAILED || st = csSPARE then s1.setCoreState i st else s1.setCoreState i csRUN

/-- A spare can stand in for core i (R212, R213): it is held in reserve and unused, is not the core itself, and is a loop core where i is. -/
def State.spareFits (s : State) (i : Nat) : Bool :=
  !s.is4820 && s.on F.TCE_SPARE_EN && !s.on F.TCE_SPARE_MAPPED && s.mapping.isNone && s.g F.TCE_SPARE_CORE != i
    && (16 ≤ s.g F.TCE_SPARE_CORE || i < 16) && s.g F.TCE_SPARE_CORE < 24 && s.coreState (s.g F.TCE_SPARE_CORE) != csFAILED

/-- TCE declares a core failed (R211): it stops; it is mapped out to the spare, with the folios in the path spoiled 0x04 at once (R212), or the kettle
state is entered through CORE_FAIL of class C (R213). -/
def State.coreFail (s : State) (i cause : Nat) : State :=
  let s1 := (((s.setCoreState i csFAILED).p (F.TCE_CSTAT_LASTCAUSE i) cause)).modCore i (fun c => { c with wait := none })
  if s.spareFits i then { (s1.spoilWhere Folio.inPath 4) with mapping := some i }
  else s1.raise 4 1 i .c 4

/-- A core reset under R208: counted, CORE_RESET raised, and a third within 1 s fails the core (R211). -/
def State.coreCrash (s : State) (i cause : Nat) : State :=
  let recent := (s.coreOf i).resetAt.filter (fun t => s.now ≤ t + 1000 * msTicks) ++ [s.now]
  let s1 := ((s.coreRestart i).modCore i (fun c => { c with resetAt := recent })).inc (F.TCE_CSTAT_RESETS i)
  let s2 := (s1.p (F.TCE_CSTAT_LASTCAUSE i) cause).raise (40 + i) 2 cause .b 4
  if 3 ≤ recent.length then s2.coreFail i cause else s2

/-- A core in RUN, WAIT or HANDLER. -/
def State.inService (s : State) (i : Nat) : Bool := s.coreState i == csRUN || s.coreState i == csWAIT || s.coreState i == csHANDLER

/-- A core that executes: present, in service, with its clock (R281, R283). -/
def State.coreLive (s : State) (i : Nat) : Bool := s.hasCore i && s.synState 0 != syOFF && s.inService i

/-- WATCHDOG_EXPIRE (R208): TIMEOUT microseconds without WDKICK. -/
def execWatchdogExpire (i : Nat) (s : State) : Host.Outcome State Fault Refusal :=
  let t := s.g (F.TCE_WDOG_TIMEOUT i)
  if s.coreLive i && t ≠ 0 && (s.coreOf i).kick + t * usTicks ≤ s.now then done (s.coreCrash i 0x21) else .next s

/-- The spare takes core i's index and memory (R212): it starts from core reset with SW.MAPPED, and runs no longer under its own index. -/
def State.spareMap (s : State) (i : Nat) : State :=
  let s0 := ({ s with mapping := none }.setCoreState (s.g F.TCE_SPARE_CORE) csSPARE).modCore (s.g F.TCE_SPARE_CORE) (fun c => { c with wait := none })
  let s1 := (((s0.setCoreState i csRESET).coreReset i).setCoreState i csRUN).modCore i (fun c =>
    { c with sw := c.sw ||| 0x200000, eccWords := [], resetAt := [] })
  ((s1.p F.TCE_SPARE_MAPPED 1).p F.TCE_SPARE_FAILED i).raise 4 1 i .b 4

/-- SPARE_MAP_COMPLETE (R212). -/
def execSpareMapComplete (s : State) : Host.Outcome State Fault Refusal :=
  match s.mapping with
  | some i => done (s.spareMap i)
  | none => .next s

/-- A write of TCE.CORERST (R38): a wrong key is discarded, an absent core is a reserved encoding. -/
def State.corerstWrite (s : State) (q : Requester) (v : Nat) : State :=
  if bits v 31 24 ≠ 0x5A then s.unitFault .TCE 0 q cSTATE_REFUSED
  else if !s.hasCore (bits v 4 0) then s.unitFault .TCE 0 q cRESERVED_ENC
  else s.coreRestart (bits v 4 0)

/-- CORE_RESET (R38). -/
def execCoreReset (q : Requester) (key i : Nat) (s : State) : Host.Outcome State Fault Refusal :=
  s.gate q (done (s.corerstWrite q (key % 256 * 2 ^ 24 + i % 32)))

/-! ### Followers (R19, R296) -/

/-- A cord-time instruction that runs while CORE_OK is 0 sets CSLIP (R191). -/
def State.slip (s : State) (i : Nat) : State := if s.on F.CORD_STAT_CORE_OK then s else s.modCore i (fun c => { c with sw := c.sw ||| 0x400000 })

/-- A WAITC or WEDGE in progress acts on the follower as it slips (R191). -/
def State.slipWait (s : State) (i : Nat) : State :=
  match (s.coreOf i).wait with
  | some (.cord _) => s.slip i
  | some (.edge _ _ _ _ _ _) => s.slip i
  | _ => s

/-- CORD_SLIP (R19): a follower, 1 CORE or 2 + k for station k, leaves its tolerance. -/
def execCordSlip (d : Nat) (s : State) : Host.Outcome State Fault Refusal :=
  if d = 1 && s.on F.CORD_STAT_CORE_OK then
    done ((forRange 0 24 (fun i a => a.slipWait i) (s.p F.CORD_STAT_CORE_OK 0)).raiseSpoil 1 1 d .b Folio.inPath 3)
  else if 2 ≤ d && d < 2 + s.blockCount .STR && s.vidOk (d - 2) then
    done (((s.setVid (d - 2) false).dark (d - 2)).raiseSpoil 1 1 d .b Folio.inPath 3)
  else .next s

/-- FOLLOWER_RESTORED (R19): a follower is within its tolerance again, while its clock is synthesised (R295, R296). -/
def execFollowerRestored (d : Nat) (s : State) : Host.Outcome State Fault Refusal :=
  if d = 1 && s.synState 0 ≠ syOFF then done (s.p F.CORD_STAT_CORE_OK 1)
  else if 2 ≤ d && d < 2 + s.blockCount .STR && s.synState d = syLOCKED && s.on (F.SYN_ALIGN_VALID d) then
    done (s.setVid (d - 2) true)
  else .next s

end Sys2Proof.Machine
end

