-- ==== Sys2Proof/Machine/Boot.lean ====
section
/-! DEFINITION. The boot sequence (R41 to R45), the end of an OTP burn (R376, R377, R384), and faults of links, memory channels and
stale epochs (R40, R333). -/

namespace Sys2Proof.Machine

def bsSENSE : Nat := 0
def bsPOWERUP : Nat := 1
def bsROM : Nat := 2
def bsVERIFIED : Nat := 3
def bsTRAIN : Nat := 4
def bsREPLAY : Nat := 5
def bsREADY : Nat := 6
def bsWAITHOST : Nat := 7
def bsHALTED : Nat := 8

def State.stage (s : State) : Nat := s.g F.LCS_BOOTSTAT_STAGE
def State.setStage (s : State) (n : Nat) : State := s.p F.LCS_BOOTSTAT_STAGE n

/-! ### Steps 1 to 5 -/

/-- PSQ's start at power-on (R41 step 3, R308, R438): it loads its image and runs UP, unless VIN_SENSE lies below THRESH. -/
def State.psqPowerOn (s : State) (vin : Nat) : State :=
  if s.psq.loaded then s
  else
    let s1 := s.psqBoot.modPsq (fun x => { x with loaded := true, vin := vin })
    if vin < s1.g F.PSQ_VIN_THRESH then s1.modPsq (fun x => { x with upWaits := true })
    else (s1.psqUpAfter pgUP).modPsq (fun x => { x with woke := false })

/-- OTP_SENSE_DONE (R41 step 2, R370 to R373): the dedicated wires take their values; vin is VIN_SENSE in mV. -/
def execOtpSenseDone (vin : Nat) (s : State) : Host.Outcome State Fault Refusal :=
  if s.stage = bsSENSE && !s.otp.sensed then
    let s1 := if s.otp.read then s else s.modOtp (fun o => { o with shadow := o.array })
    done ((((s1.otpDeliver.spareDefault).modOtp (fun o => { o with sensed := true })).setStage bsPOWERUP).psqPowerOn vin)
  else .next s

/-- Every rail marked DEV reads good (R309). -/
def State.devGood (s : State) : Bool := (List.range 24).all (fun r => !s.on (F.PSQ_RAILCFG_DEV r) || s.railGood r)

/-- CORE_RAILS_GOOD (R41 step 4, R281, R309): SYN0 and SYN1 start. -/
def execCoreRailsGood (s : State) : Host.Outcome State Fault Refusal :=
  if s.stage = bsPOWERUP && s.devGood && s.synState 0 = syOFF then done ((s.synStart 0).synStart 1) else .next s

/-- A core is the spare held in reserve: it runs no firmware, and the ROM loads nothing into it (R212). -/
def State.isSpare (s : State) (i : Nat) : Bool := !s.is4820 && s.on F.TCE_SPARE_EN && !s.on F.TCE_SPARE_MAPPED && s.g F.TCE_SPARE_CORE == i

/-- Cores that fail their memory test at boot (R211); T0 is mapped out before step 6 where a spare allows it (R41). -/
def State.bootTests (s : State) (failed : Nat) : State :=
  let s1 := forRange 0 24 (fun i a => if a.hasCore i && bit failed i then a.coreFail i 0x23 else a) s
  if s1.mapping = some 0 then (s1.spareMap 0).setCoreState 0 csRESET else s1

/-- BOOT_ROM_START (R41 step 5, R44): the ROM runs on T0, or on T1 of a CGB-4880 where T0 has failed its memory test; in SCRAPPED it halts.
failed: the cores that fail their memory test. -/
def execBootRomStart (failed : Nat) (s : State) : Host.Outcome State Fault Refusal :=
  if s.stage = bsPOWERUP && s.synState 0 = syLOCKED then
    let s1 := s.bootTests failed
    if bit failed 0 && s.is4820 then done s1
    else if s.lifecycle = lcSCRAPPED then done (s1.setStage bsHALTED)
    else done ((s1.setCoreState (bit failed 0).toNat csRUN).setStage bsROM)
  else .next s

/-! ### Images (R42 to R44) -/

/-- A 256-bit integer as 32 bytes, most significant first. -/
def be32 (v : Nat) : List Nat := (leBytes 32 v).reverse

/-- The error of R42 that an image of at most limit bytes shows, 0 where it is accepted; in BLANK the key is the one fixed in ROM (R44). -/
def State.imageError (s : State) (limit : Nat) (img : Option BootImage) : Nat :=
  match img with
  | none => 1
  | some i =>
    let d := sha256 (be32 i.x ++ be32 i.y)
    let keyOk := if s.lifecycle = lcBLANK then leNat d.reverse == Config.romKeyDigest else d == s.otpBytes (0x60 + 8 * (i.slot % 4)) 8
    if limit < i.body.length || 4 ≤ i.slot then 1
    else if !keyOk then 2
    else if bit s.wires.revoked i.slot then 3
    else if i.secver < s.wires.secver then 4
    else if !Config.ecdsaP256Verify i.x i.y (leNat (sha256 i.header).reverse) i.r i.s then 5
    else if sha256 i.body != i.digest then 6
    else 0

/-- The ROM loads the image into core-local memory (R41 step 7); nothing goes into the spare. -/
def State.loadImage (s : State) (i : BootImage) : State :=
  i.place.foldl (fun a p =>
    if a.hasCore p.1 && !a.isSpare p.1 then a.wrBytes (localBase + 0x100000 * p.1) (((i.body.drop p.2.1).take p.2.2).take 0x40000) else a) s

/-- The ROM starts firmware on every core (R41 step 8). -/
def State.startCores (s : State) : State :=
  forRange 0 24 (fun i a =>
    if !a.hasCore i || a.coreState i = csFAILED then a
    else if a.isSpare i then (a.coreReset i).setCoreState i csSPARE
    else (a.coreReset i).setCoreState i csRUN) s

/-- The image from a source is accepted and started, or its error is recorded. -/
def State.tryImage (s : State) (source limit : Nat) (img : Option BootImage) : State :=
  let e := s.imageError limit img
  let s1 := s.p F.LCS_BOOTSTAT_SLOT source
  match img with
  | some i => if e = 0 then ((s1.loadImage i).startCores).setStage bsVERIFIED else s1.p F.LCS_BOOTSTAT_ERROR e
  | none => s1.p F.LCS_BOOTSTAT_ERROR e

/-- An image in a QSPI slot is at most 6 MiB, one in the shared window at most 2 MiB (R42, R43). -/
def slotLimit : Nat := 6 * 2 ^ 20
def sharedLimit : Nat := 2 * 2 ^ 20

/-- Waiting for a host image (R43). -/
def State.waitHost (s : State) : State := if s.stage = bsVERIFIED then s else s.setStage bsWAITHOST

/-- IMAGE_VERIFY (R41 steps 6 to 8, R42): the slots in the order of the boot-source wires; a and b are what slots A and B hold. -/
def execImageVerify (a b : Option BootImage) (s : State) : Host.Outcome State Fault Refusal :=
  if s.stage = bsROM then
    match s.wires.bootsrc with
    | 0 =>
      let s1 := s.tryImage 0 slotLimit a
      done (if s1.stage = bsVERIFIED then s1 else (s1.tryImage 1 slotLimit b).waitHost)
    | 1 =>
      let s1 := s.tryImage 1 slotLimit b
      done (if s1.stage = bsVERIFIED then s1 else (s1.tryImage 0 slotLimit a).waitHost)
    | _ => done s.waitHost
  else .next s

/-- The shared pages owned by HOST flip to DEV (R167). -/
def State.flipAll (s : State) : State :=
  forRange 0 256 (fun k a => if a.g (F.SHW_PAGE_OWNER k) = 0 then (a.p (F.SHW_PAGE_OWNER k) 1).incWrap (F.SHW_PAGE_SEQ k) else a) s

/-- The image that the shared window holds, as its bytes spell it; the layout of an image is open (R42, log 9). -/
def State.sharedImage (s : State) : Option BootImage :=
  Config.bootImage ((s.mem.filter (fun c => sharedBase ≤ c.1 && c.1 < sharedBase + 0x200000)).map (fun c => (c.1 - sharedBase, c.2)))

/-- A write of LCS.BOOTCMD while the ROM waits for a host image: the shared pages flip to the device, and the image in the shared window is verified
and started, or its failure recorded; the host may try again (R43, R167). -/
def State.bootcmdWrite (s : State) (q : Requester) (v : Nat) : State :=
  if q.isHost && v = 1 && s.stage = bsWAITHOST then (s.flipAll.tryImage 2 sharedLimit s.sharedImage).waitHost else s

/-- BOOTCMD (R43). -/
def execBootcmd (q : Requester) (v : Nat) (s : State) : Host.Outcome State Fault Refusal := s.gate q (done (s.bootcmdWrite q (v % 2 ^ 32)))

/-! ### Memory training (R41 step 9, R45) -/

/-- LPDDR5_TRAINING_DONE (R45): per channel, whether its training succeeded. -/
def execLpddr5TrainingDone (ok0 ok1 : Bool) (s : State) : Host.Outcome State Fault Refusal :=
  if s.stage = bsVERIFIED || s.stage = bsTRAIN then
    let good := ok0.toNat + 2 * (ok1 && !s.is4820).toNat
    if good = 0 then done (((s.p F.LCS_BOOTSTAT_ERROR 7).setStage bsHALTED).kettleHalt)
    else
      let s1 := { s with memChans := good, selfRefresh := false }.setStage bsREPLAY
      done (if good = 3 || s.is4820 then s1 else s1.p F.LCS_BOOTSTAT_ERROR 7)
  else .next s

/-! ### Stale epochs, links and memory channels (R40, R333) -/

/-- EPOCH_STALE (R40): the unit of source i still does not report the epoch 10 ms after replay. -/
def execEpochStale (i : Nat) (s : State) : Host.Outcome State Fault Refusal :=
  match s.jrn.endAt with
  | some t =>
    if epochUnits.contains i && !s.unitAbsent i && !bit (s.word .JRN_UNITEP 0 (i / 32)) (i % 32) && t + 10 * msTicks ≤ s.now then
      done (s.raise i cEPOCH_STALE 0xFF .b 1)
    else .next s
  | none => .next s

/-- LINK_DOWN (R333): the PCIe link of P-HOSTn goes down. -/
def execLinkDown (n : Nat) (s : State) : Host.Outcome State Fault Refusal := if n < s.hosts then done (s.raise (30 + n) 1 0 .a) else .next s

/-- MEM_CHAN (R333): an LPDDR5 channel in service fails. -/
def execMemChan (n : Nat) (s : State) : Host.Outcome State Fault Refusal :=
  if n < 2 && bit s.memChans n then done (s.raise (32 + n) 2 0 .c 1) else .next s

/-! ### The end of a burn (R376, R377, R384) -/

/-- The last word of a burn is good: PSTAT, or LCS.RESULT and the warm reset that follows a transition; a consent resets nothing (R385). -/
def State.burnEnd (s : State) (b : Burn) : State :=
  let s1 := (s.p F.OTP_STAT_BUSY 0).modOtp (fun o => { o with burn := none })
  if b.lcs = 0 then ((s1.p F.OTP_PSTAT_DONE 1).p F.OTP_PSTAT_OK 1).p F.OTP_PSTAT_ADDR b.addr
  else
    let s2 := ((s1.p F.LCS_STATE_BUSY 0).p F.LCS_RESULT_DONE 1).p F.LCS_RESULT_OK 1
    if b.lcs = 4 then s2.p F.LCS_STATE_CONSENT 1 else s2.warmReset

/-- A word stands as intended: its shadow follows, and the burn goes on or ends. -/
def State.burnNext (s : State) (b : Burn) (a : Nat) (rest : List (Nat × Nat)) : State :=
  let s1 := (s.otpRefresh a).modOtp (fun o => { o with half := o.half.filter (fun x => x.1 != a) })
  match rest with
  | [] => s1.burnEnd b
  | _ => s1.modOtp (fun o => { o with burn := some { b with words := rest } })

/-- A row is moved to a spare, which then holds the word as intended (R376). -/
def State.toSpare (s : State) (a v : Nat) : State :=
  let s1 := s.p F.OTP_STAT_SPARES (s.g F.OTP_STAT_SPARES - 1)
  if bitWise a then (s1.setFuse a (s1.fuse a ||| v)).setFuse (otpTwin a) (s1.fuse (otpTwin a) ||| v) else s1.setFuse a v

/-- OTP_BURN_DONE (R376): the word in hand has been burnt and read at the three references.  good: it reads as intended; spareGood: so does the spare
row, where one is needed. -/
def execOtpBurnDone (good spareGood : Bool) (s : State) : Host.Outcome State Fault Refusal :=
  match s.otp.burn with
  | none => .next s
  | some b =>
    match b.words with
    | [] => .next s
    | (a, v) :: rest =>
      let n := s.g F.OTP_STAT_SPARES
      if b.repair then
        if good then done ((s.toSpare a v).burnNext b a rest)
        else done ((s.p F.OTP_STAT_SPARES (n - 1)).burnFail b cOTP_PROG 2 a)
      else if good then done ((s.burnWord a v).burnNext b a rest)
      else
        let s1 := s.burnPart a v
        if n ≠ 0 && spareGood then done ((s1.toSpare a v).burnNext b a rest)
        else done (((s1.p F.OTP_STAT_SPARES (n - 1)).otpRefresh a).burnFail b cOTP_PROG 2 a)

end Sys2Proof.Machine
end

