-- ==== Sys2Proof/Machine/Rings.lean ====
section
/-! DEFINITION. Hardware rings as requesters use them (R27 to R29), claims (R30 to R33), pads (R430, R441, R442) and the events that actuators
take (R21, R192, R193). -/

namespace Sys2Proof.Machine

/-! ### Rings (R27 to R29) -/

/-- An owner tag and core that a ring may name (R27). -/
def State.tagOk (s : State) (tag core : Nat) : Bool := tag < 8 && (tag != 3 || s.hasCore core)

/-- The producer, consumer and entry size that a ring's allocation accepts (R27). -/
def ringAlloc (q prod cons esize : Nat) : Bool :=
  let host := fun (t : Nat) => t == 1 || t == 2
  let hostCore := fun (t : Nat) => host t || t == 3
  if q < 8 then host prod && cons == 5 && esize == 2
  else if q < 10 then prod == q - 7 && cons == 3 && esize == 2
  else if q < 16 then prod == 0 && cons == 0
  else if q < 24 then prod == 5 && host cons && esize == 0
  else if q < 26 then prod == 3 && cons == q - 23 && esize == 0
  else if q < 32 then prod == 0 && cons == 0
  else if q < 48 then hostCore prod && cons == 4 && esize == 1
  else if q < 64 then prod == 4 && hostCore cons && esize == 0
  else if q < 96 then true
  else if q < 112 then (prod == 6 || prod == 7) && hostCore cons && esize == 0
  else true

/-- A QCFG word that is no reserved encoding (R27 and the map). -/
def State.qcfgOk (s : State) (q v : Nat) : Bool :=
  s.tagOk (bits v 31 28) (bits v 23 19) && s.tagOk (bits v 27 24) (bits v 18 14) && bits v 13 12 < 3 && 4 ≤ bits v 11 8 && bits v 11 8 ≤ 12
    && ringAlloc q (bits v 31 28) (bits v 27 24) (bits v 13 12)

/-- A refusal under R28 or R29. -/
def State.ringRefused (s : State) (q : Requester) : State := s.unitFault .TCE 0 q cRING_REFUSED

/-- A write of TCE.QCFG (R29). -/
def State.qcfgWrite (s : State) (q : Requester) (r v : Nat) : State :=
  if s.ringEn r && bit v 0 then s.ringRefused q
  else if !s.qcfgOk r v then s.unitFault .TCE 0 q cRESERVED_ENC
  else
    let w := bits v 31 8 * 256 + v % 2
    let s1 := s.setWord .TCE_QCFG 0 r w
    if s.ringEn r then s1.p (F.TCE_QHEAD_INDEX r) (s.qtail r)
    else if bit v 0 && !s1.regionOk r then s.ringRefused q
    else s1

/-- A write of TCE.QBASE (R29). -/
def State.qbaseWrite (s : State) (q : Requester) (r v : Nat) : State :=
  if s.ringEn r then s.ringRefused q else s.p (F.TCE_QBASE_OFFSET r) (bits v 19 6)

/-- A write of TCE.QHEAD (R28): only by the consumer, and never past QTAIL. -/
def State.qheadWrite (s : State) (q : Requester) (r v : Nat) : State :=
  let i := v % 4096
  if s.ringCons r != q.owner then s.ringRefused q
  else if s.ringLen r ≤ i then s.unitFault .TCE 0 q cRESERVED_ENC
  else if s.ringCount r < (i + s.ringLen r - s.qhead r % s.ringLen r) % s.ringLen r then s.ringRefused q
  else s.p (F.TCE_QHEAD_INDEX r) i

/-- A write of TCE.QTAIL (R28): only by the producer, and never past QHEAD; a host's doorbell of Q0 to Q63 ends IDLE (R322). -/
def State.qtailWrite (s : State) (q : Requester) (r v : Nat) : State :=
  let i := v % 4096
  let n := (i + s.ringLen r - s.qtail r % s.ringLen r) % s.ringLen r
  if s.ringProd r != q.owner then s.ringRefused q
  else if s.ringLen r ≤ i then s.unitFault .TCE 0 q cRESERVED_ENC
  else if s.ringFree r < n then (s.count 0x11 r 1).ringRefused q
  else
    let s1 := (s.p (F.TCE_QTAIL_INDEX r) i).count 0x10 r n
    if q.isEndpoint && r < 64 then s1.psqRun else s1

/-- QTAIL_WRITE (R28). -/
def execQtailWrite (q : Requester) (r v : Nat) (s : State) : Host.Outcome State Fault Refusal :=
  s.gate q (if r < 128 then done (s.qtailWrite q r v) else .next s)

/-- QHEAD_WRITE (R28). -/
def execQheadWrite (q : Requester) (r v : Nat) (s : State) : Host.Outcome State Fault Refusal :=
  s.gate q (if r < 128 then done (s.qheadWrite q r v) else .next s)

/-- QCFG_WRITE (R29). -/
def execQcfgWrite (q : Requester) (r v : Nat) (s : State) : Host.Outcome State Fault Refusal :=
  s.gate q (if r < 128 then done (s.qcfgWrite q r v) else .next s)

/-- QBASE_WRITE (R29). -/
def execQbaseWrite (q : Requester) (r v : Nat) (s : State) : Host.Outcome State Fault Refusal :=
  s.gate q (if r < 128 then done (s.qbaseWrite q r v) else .next s)

/-! ### Claims (R30 to R33) -/

/-- A port's output stops because its PWM slice is switched off (R32). -/
def State.sliceOff (s : State) (i : Nat) : State :=
  match sliceOwner i with
  | some (.MOT, n) => if s.motState n = mOFF || s.motState n = mFAULT then s else s.setMotState n mOFF
  | some (.STP, k) => s.modStp k (fun x => { x with vel := 0, coils := .off })
  | some (.HV, k) => s.hvOff k
  | some (.FUS, f) => s.fusStop f
  | _ => s

/-- A freed granule leaves its station's ring: EN clears, and 0x01 for the folios still to image there (R32, R168). -/
def State.granuleOff (s : State) (g : Nat) : State :=
  forRange 0 4 (fun n a =>
    if a.on (F.QST_QRING_EN n) && a.g (F.QST_QRING_BASE n) ≤ g && g < a.g (F.QST_QRING_BASE n) + a.g (F.QST_QRING_COUNT n) then
      (a.p (F.QST_QRING_EN n) 0).spoilWhere (Folio.toImage n) 1
    else a) s

/-- FREE returns a resource to its reset configuration, then releases it (R32). -/
def State.release (s : State) (rid : Nat) : State :=
  let s1 := match ridClass rid with
    | 1 => s.padReset (ridIndex rid)
    | 2 => s.sliceOff (ridIndex rid)
    | 3 => { s with adcOff := ridIndex rid :: s.adcOff.filter (· != ridIndex rid) }
    | 4 => s.granuleOff (ridIndex rid)
    | _ => s
  (s1.setActQueue rid []).setOwner rid {}

/-- A claim or a free, judged by the arbiter (R30, R32), with its result; a claim leaves a trace record (R414). -/
def State.judgeClaim (s : State) (q : Requester) (rid : Nat) (free : Bool) : State × Bool :=
  if free then
    if !s.ridExists rid then (s.accessFault q cCLAIM_REFUSED, false)
    else if !s.owns q rid then (s.accessFault q cNOT_OWNER, false)
    else (s.release rid, true)
  else
    let rec_ := fun (a : State) (ok : Bool) => a.traceEv 6 0x0B ok.toNat (q.detail * 65536 + rid)
    if s.ridExists rid && !s.owned rid then (rec_ (s.setOwner rid q.owner) true, true)
    else (rec_ (s.accessFault q cCLAIM_REFUSED) false, false)

/-- A write of PMX.CLAIMREQ (R30, R33): an endpoint's request is judged and CLAIMRES shows it; any other writer is refused. -/
def State.claimreqWrite (s : State) (q : Requester) (v : Nat) : State :=
  match q with
  | .host n =>
    let rid := bits v 15 0
    let r := s.judgeClaim q rid (bit v 31)
    let o := r.1.ownerOf rid
    r.1.setWord .PMX_CLAIMRES 0 n (2 ^ 31 + r.2.toNat * 2 ^ 30 + o.tag * 2 ^ 26 + o.idx * 2 ^ 21 + rid)
  | _ => s.accessFault q cNOT_OWNER

/-- PMX_CLAIM (R30). -/
def execPmxClaim (q : Requester) (rid : Nat) (s : State) : Host.Outcome State Fault Refusal := s.gate q (done (s.claimreqWrite q (rid % 65536)))

/-- PMX_FREE (R32). -/
def execPmxFree (q : Requester) (rid : Nat) (s : State) : Host.Outcome State Fault Refusal :=
  s.gate q (done (s.claimreqWrite q (2 ^ 31 + rid % 65536)))

/-! ### Pads (R430, R441, R442, R447) -/

/-- The unit whose EN governs a pad, if any, is enabled (R430). -/
def State.padUnitOn (s : State) (i : Nat) : Bool :=
  match padUse i with
  | .vid n _ => s.on (F.STR_CTRL_EN n)
  | .mot n _ => s.on (F.MOT_CTRL_EN n)
  | .stp k _ => s.on (F.STP_CTRL_EN k)
  | .hv k _ => s.on (F.HV_CTRL_EN k)
  | .fus f _ => s.on (F.FUS_CTRL_EN f)
  | .con n => s.on (F.HYW_CTRL_EN n)
  | _ => false

/-- A write of PMX.PADCFGi (R430, R447). -/
def State.padcfgWrite (s : State) (q : Requester) (i v : Nat) : State :=
  let func := bits v 19 16
  if s.padNC i then s
  else if !padClaimable i || !s.owns q (padRid i) then s.accessFault q cNOT_OWNER
  else if s.padUnitOn i && func != s.padFunc i then s.unitFault .PMX 0 q cSTATE_REFUSED
  else if 3 < func || bits v 15 14 = 3 || (func = 3 && s.padFunc i ≠ 3) || (padType i ≠ 0 && func ≠ 3 && func ≠ s.padFunc i) then
    s.unitFault .PMX 0 q cRESERVED_ENC
  else s.setWord .PMX_PADCFG 0 i (bits v 19 8 * 256)

/-- PADCFG_WRITE (R430). -/
def execPadcfgWrite (q : Requester) (i v : Nat) (s : State) : Host.Outcome State Fault Refusal :=
  s.gate q (if i < 1444 then done (s.padcfgWrite q i v) else .next s)

/-- The level of a stepper port's bridge output, A1, A2, B1 or B2 (R243): the coil is driven in the direction of its target, reversed for the fast decay, and both
ends low for the slow one; coil A of a bus monitor is the brake chopper (R236). -/
def State.bridgeLevel (s : State) (k g : Nat) : Bool :=
  if s.g (F.STP_CTRL_MODE k) = 1 then g == 0 && s.on (F.STP_BUSSTAT_CHOP_ON k)
  else
    let fwd : Bool := 0 ≤ s.coilTarget k (g / 2)
    match s.coilDrive k (g / 2) with
    | .forward => (g % 2 == 0) == fwd
    | .reverse => (g % 2 == 1) == fwd
    | _ => false

/-- The level a unit gives its own pad (R430): a lane pair rests at differential low (R434); the six gates of an FOC port in the order AH, AL, BH, BL, CH, CL
(PRESUMED, log 70); the carrier of an HV port; of a fuser's half-bridge, which the spec times no further than its frequency, a free level while it runs. -/
def State.portLevel (s : State) (i : Nat) : Nat :=
  match padUse i with
  | .vid n g => if g < 8 then (s.laneHigh n g).toNat else if g < 16 then (!s.laneHigh n (g - 8)).toNat else 0
  | .mot n g => if g < 6 then (if g % 2 = 0 then s.gateHigh n (g / 2) else s.gateLow n (g / 2)).toNat else 0
  | .stp k g => if g < 4 then (s.bridgeLevel k g).toNat else 0
  | .hv k g => if g = 0 then (s.hvDrv k).toNat else 0
  | .fus f g => if s.g (F.FUS_STAT_FREQ f) = 0 then 0 else (Config.convert 122 [f, g, s.now]).toNat % 2
  | _ => 0

/-- A pad that its unit releases: an output of a stepper bridge that is off (R240, R243, R250), a Hyler line that is not pulled low (R389). -/
def State.portReleases (s : State) (i : Nat) : Bool :=
  match padUse i with
  | .stp k g => g < 4 && s.g (F.STP_CTRL_MODE k) ≠ 1 && s.coilDrive k (g / 2) = .off
  | .con n => !s.hywLow n
  | _ => false

/-- What a claimable pad drives (R430, R432, R423); none at high impedance, where the pads of the 1.8 V and 3.3 V banks are held until every device supply
reads good, or where its unit releases it. -/
def State.padDrives (s : State) (i : Nat) : Option Nat :=
  if !s.devGood then none
  else if s.fcl.kpadHeld.any (fun x => x.1 == i) then some (s.padOut i % 2)
  else
    match s.padFunc i with
    | 0 => none
    | 1 => some (s.padOut i % 2)
    | 2 => if s.padOut i % 2 = 0 then some 0 else none
    | _ => if s.portReleases i then none else some (s.portLevel i)

/-- PADCFG.OUT, the output level in force: that of the unit, or as set; a pad held at high impedance shows none (R423, R447; log 46). -/
def State.padShows (s : State) (i : Nat) : Nat :=
  if !s.devGood then 0 else match s.padDrives i with | some l => l | none => s.padOut i % 2

/-- PMX.PADCFGi as it reads (R430, R447). -/
def State.padcfgRead (s : State) (i : Nat) : Nat :=
  if s.padNC i then 0
  else if padClaimable i then
    let o := s.ownerOf (padRid i)
    o.tag * 2 ^ 28 + o.idx * 2 ^ 23 + 2 ^ 22 + padType i * 2 ^ 20 + bits (s.word .PMX_PADCFG 0 i) 19 8 * 256 + padBank i * 64
      + Cells.get 0 i s.padIns % 2 * 2 + s.padShows i
  else padType i * 2 ^ 20 + padBank i * 64

/-- The timings of SNSk's wire check start at this moment (R441). -/
def State.snsStart (s : State) (k : Nat) : State := { s with snsAt := vmod s.snsAt k (fun _ => s.now) }

/-- A write of PMX.SNSWIRE (R441): each bit of a pad the writer owns takes its value; clearing it clears the SNSSTAT bit, and setting it starts the
timings of the check afresh; other bits that would change raise NOT_OWNER once. -/
def State.snswireWrite (s : State) (q : Requester) (v : Nat) : State :=
  let mine := fun (k : Nat) => s.owns q (padRid (snsPad k))
  let s1 := forRange 0 32 (fun k a =>
    if mine k then
      let b := a.p F.PMX_SNSWIRE_EN (setBit (a.g F.PMX_SNSWIRE_EN) k (bit v k))
      if bit v k then (if bit (a.g F.PMX_SNSWIRE_EN) k then b else b.snsStart k) else b.p F.PMX_SNSSTAT_FAULTY (setBit (b.g F.PMX_SNSSTAT_FAULTY) k false)
    else a) s
  if (List.range 32).any (fun k => !mine k && bit v k != bit (s.g F.PMX_SNSWIRE_EN) k) then s1.accessFault q cNOT_OWNER else s1

/-- SNSWIRE_WRITE (R441). -/
def execSnswireWrite (q : Requester) (v : Nat) (s : State) : Host.Outcome State Fault Refusal := s.gate q (done (s.snswireWrite q v))

/-- SNS_WIRE (R441, R442): input k has been outside its windows for 1 ms, which the check must have run (log 12). -/
def execSnsWire (k : Nat) (s : State) : Host.Outcome State Fault Refusal :=
  if k < 32 && bit (s.g F.PMX_SNSWIRE_EN) k && !bit (s.g F.PMX_SNSSTAT_FAULTY) k && decide (vget s.snsAt k + msTicks ≤ s.now) then
    done (((s.snsStart k).p F.PMX_SNSSTAT_FAULTY (setBit (s.g F.PMX_SNSSTAT_FAULTY) k true)).raise 6 1 k .a)
  else .next s

/-- SNS_WIRE_CLEAR (R441): FAULTY input k has been between its windows for 100 ms, which must have passed since it became FAULTY (log 12). -/
def execSnsWireClear (k : Nat) (s : State) : Host.Outcome State Fault Refusal :=
  if k < 32 && bit (s.g F.PMX_SNSWIRE_EN) k && bit (s.g F.PMX_SNSSTAT_FAULTY) k && decide (vget s.snsAt k + 100 * msTicks ≤ s.now) then
    done ((s.snsStart k).p F.PMX_SNSSTAT_FAULTY (setBit (s.g F.PMX_SNSSTAT_FAULTY) k false)) else .next s

/-! ### Events at actuators (R20, R21, R192, R193, R216) -/

/-- A value takes effect at an actuator (R192): a word to a port's slice, or the level of a pad; a slice with no events of its own refuses. -/
def State.actuate (s : State) (id v : Nat) : State :=
  if ridClass id = 1 then s.padSet (ridIndex id) v
  else
    let i := ridIndex id
    match sliceOwner i with
    | some (.MOT, n) => if i % 3 = 0 then s.motWord n v else if i % 3 = 1 then s.motVcmd n v else s.motFault n cMOT_CMD 0 .a
    | some (.STP, k) => if i % 2 = 0 then s.stpWord k v else s.stpCmdRefused k
    | some (.HV, k) => s.hvWord k v
    | some (.FUS, f) => s.fusWord f v
    | _ => s

/-- The folio an event at cord time t serves: the first one past its sewing commit that has an event of its path at that time (R71; DEDUCED,
log 25). -/
def State.servedBy (s : State) (t : Nat) : Option (Nat × Nat) :=
  (s.gath.folios.find? (fun f => (f.inPath || f.armedUnsewn) && f.armed.any (fun e => e.2 == t))).map (fun f => (f.desc.stream, f.desc.fsn))

/-- An event posted to an actuator (R192): of a resource the requester does not own it is lost with NOT_OWNER, else judged under R21. -/
def State.postEvent (s : State) (q : Requester) (id t v : Nat) : State :=
  if s.owns q id then s.actArrive id { t := t, kind := ridClass id, value := v % 2 ^ 32, folio := s.servedBy t } q.detail
  else s.accessFault q cNOT_OWNER

/-- ACT_EVENT_ARRIVE (R21). -/
def execActEventArrive (q : Requester) (id t v : Nat) (s : State) : Host.Outcome State Fault Refusal :=
  if ridClass id = 1 || ridClass id = 2 then done (s.postEvent q id (t % 2 ^ 64) v) else .next s

/-- ACT_EVENT_FIRE (R20, R21): the first event of an actuator's queue takes effect once its tick has come. -/
def execActEventFire (id : Nat) (s : State) : Host.Outcome State Fault Refusal :=
  match s.actQueue id with
  | e :: t =>
    if e.t ≤ s.now then
      let s1 := s.setActQueue id t
      done ({ s1 with fired := (id, s.now, e.value) :: s1.fired.filter (fun x => x.2.1 == s.now && x.1 != id) }.actuate id e.value)
    else .next s
  | [] => .next s

/-- An EMIT gives way to the event whose queue fired in this tick (R193), but at an HV slice a LEVEL and a DRIVE both take effect (R271). -/
def State.outdone (s : State) (id v : Nat) : Bool :=
  s.fired.any (fun x => x.1 == id && x.2.1 == s.now
    && !(ridClass id == 2 && 48 ≤ ridIndex id && ridIndex id < 60 && bits x.2.2 31 28 != bits v 31 28))

/-- EMIT at an actuator (R193): it takes effect at once; in the tick of a queued event, that event's value stands. -/
def State.emitTo (s : State) (q : Requester) (id v : Nat) : State :=
  if !s.owns q id then s.accessFault q cNOT_OWNER
  else if s.outdone id v then s
  else s.actuate id (v % 2 ^ 32)

end Sys2Proof.Machine
end

