-- ==== Sys2Proof/Machine/Bus.lean ====
section
/-! DEFINITION. The device address space and what its reads and writes do (R10 to R14, R23 to R26, R34, R36, R165, R166): the place an address names,
the value a register reads, the effect of a register write, and accesses by any requester. -/

namespace Sys2Proof.Machine

/-! ### Places (R23, R24) -/

/-- What a device address names.  quiet: a register declared to read zero and ignore writes; copy: a shadowed register's active copy; bank: a word of
a SYN bank window; bytes: ring memory, the shared window, quire store, tables, local memory, the page store, with retention SRAM apart. -/
inductive Place where
  | reg (r : Reg) (n k : Nat)
  | copy (r : Reg) (n k : Nat)
  | quiet
  | bank (n i : Nat)
  | ring
  | shared (page : Nat)
  | ram
  | mirror
  | store
  | none
  deriving DecidableEq, Repr

/-- The page of the shared window that a device address lies in (R165). -/
def pageOf (a : Nat) : Nat := (a - sharedBase) / 8192

/-- The register of a block that stands at an offset of its slot, with its repetition. -/
def regAt (b : Block) (o : Nat) : Option (Reg × Nat) :=
  b.rows.findSome? (fun x =>
    if x.2.off ≤ o && (o - x.2.off) / x.2.stride < x.2.count && (o - x.2.off) % x.2.stride < 4 then some (x.1, (o - x.2.off) / x.2.stride) else Option.none)

/-- The block slot an address lies in: block, instance, offset (R24). -/
def slotAt (a : Nat) : Option (Block × Nat × Nat) :=
  Block.all.findSome? (fun b =>
    if b.base ≤ a && a < b.base + 0x40000 * b.count then some (b, (a - b.base) / 0x40000, (a - b.base) % 0x40000) else Option.none)

/-- Registers that exist in some instances only: none where the chapter lists no register there, quiet where it says so (STR, SYN maps). -/
def existsIn (r : Reg) (n : Nat) : Option Bool :=
  match r with
  | .STR_GLOBAL => some (n == 0)
  | .STR_GCOMMIT => some (n == 0)
  | .STR_SPEED => some (n == 0)
  | .SYN_ALIGN => some (2 ≤ n)
  | .SYN_RAMP => some (2 ≤ n)
  | .SYN_KVAL => some (2 ≤ n)
  | .SYN_FNOW => some (2 ≤ n)
  | .SYN_RANGE => some (2 ≤ n)
  | .SYN_DIV => if n = 0 then some true else none
  | .SYN_CKO => if n = 0 then some true else none
  | .SYN_DCOMMIT => if n = 0 then some true else none
  | .SYN_CKOEN => if n = 0 then some true else none
  | _ => some true

/-- A repeated register that belongs to an absent resource (R2, R447). -/
def State.absentReg (s : State) (r : Reg) (k : Nat) : Bool :=
  match r with
  | .QST_QRING => s.blockCount .STR ≤ k
  | .QST_QSTAT => s.blockCount .STR ≤ k
  | .LCS_ROSC => s.blockCount .STR + 3 ≤ k
  | .TCE_CSTAT => !s.hasCore k
  | .TCE_WDOG => !s.hasCore k
  | .LCE_APCRES => s.blockCount .STR ≤ k / 8
  | .LCE_APCSTAMP_LO => s.blockCount .STR ≤ k
  | .LCE_APCSTAMP_HI => s.blockCount .STR ≤ k
  | .PMX_PADCFG => s.padNC k
  | .PMX_CLAIMRES => s.hosts ≤ k
  | .DMA_APER_BASE_LO => s.hosts ≤ k
  | .DMA_APER_BASE_HI => s.hosts ≤ k
  | .OBS_SAMP_PC => !s.hasCore k
  | .OBS_SAMP_INFO => !s.hasCore k
  | _ => false

/-- The place of a word of the control window's block slots. -/
def State.regPlace (s : State) (a : Nat) : Place :=
  match slotAt a with
  | Option.none => .none
  | some (b, n, o) =>
    if b = .SYN && 0x2000 ≤ o && o < 0x6000 then (if n < 2 || s.blockCount .SYN ≤ n then .quiet else .bank n ((o - 0x2000) / 4))
    else
      match regAt b o with
      | some (r, k) =>
        match existsIn r n with
        | Option.none => .none
        | some ok => if !ok || s.blockCount b ≤ n || s.absentReg r k then .quiet else .reg r n k
      | Option.none =>
        match (if 0x8000 ≤ o then regAt b (o - 0x8000) else Option.none) with
        | some (r, k) => if (shadowSetOf r n).isSome then (if s.blockCount b ≤ n then .quiet else .copy r n k) else .none
        | Option.none => .none

/-- The place of a device address (R23). -/
def State.place (s : State) (a : Nat) : Place :=
  if a < ringMemBase then s.regPlace (a / 4 * 4)
  else if a < ringMemBase + ringMemSize then .ring
  else if sharedBase ≤ a && a < sharedBase + 0x200000 then .shared (pageOf a)
  else if quireBase ≤ a && a < quireBase + 0x10000 * s.granules then .ram
  else if tableBase ≤ a && a < tableBase + 0x100000 then .ram
  else if mirrorBase ≤ a && a < mirrorBase + 0x10000 then .mirror
  else if localBase ≤ a && a < localBase + 24 * 0x100000 then
    if (a - localBase) % 0x100000 < 0x40000 && s.hasCore ((a - localBase) / 0x100000) then .ram else .none
  else if pageBase ≤ a && a < pageBase + s.pageSize then .store
  else .none

/-! ### What a register reads (R11) -/

/-- The mask of fields that read as zero because they are write-only. -/
def woMask : List FieldRow → Nat
  | [] => 0
  | f :: t => (if f.acc = .WO then (2 ^ (f.hi + 1 - f.lo) - 1) * 2 ^ f.lo else 0) + woMask t

/-- A history entry's STATE word (R336, R338). -/
def HistRec.stateWord (r : HistRec) : Nat :=
  r.valid.toNat * 2 ^ 31 + r.outstanding.toNat * 2 ^ 30 + r.escalated.toNat * 2 ^ 29 + r.repeats % 256 * 256 + r.seq % 256

/-- The words that show what the machine holds elsewhere than in the word itself. -/
def State.liveWord (s : State) (r : Reg) (n k w : Nat) : Nat :=
  let h := vget s.fcl.hist k
  match r with
  | .CORD_NOW_LO => s.now % 2 ^ 32
  | .CORD_NOW_HI => s.now / 2 ^ 32
  | .FCL_HIST_STAMP_LO => h.stamp % 2 ^ 32
  | .FCL_HIST_STAMP_HI => h.stamp / 2 ^ 32 % 2 ^ 32
  | .FCL_HIST_INFO => h.info
  | .FCL_HIST_FSN => h.fsn
  | .FCL_HIST_EPOCH => h.epoch
  | .FCL_HIST_STATE => h.stateWord
  | .FCL_STAT => setBits (setBits w 30 29 (s.copyA.toNat * 2 + s.copyB.toNat)) 28 24 s.outstanding
  | .GATH_SSTAT =>
    let mine := s.gath.folios.filter (fun f => f.desc.stream == k)
    setBits (setBits (setBits w 31 28 (s.streamShown k)) 22 16 (mine.filter Folio.inPath).length) 14 0
      (min 0x7FFF ((mine.filter Folio.undelivered).length + (s.stream k).awaiting.length + (s.stream k).stranded.length))
  | .JRN_STAT => setBits w 10 0 s.span
  | .STR_STAT => setBits (setBits w 27 27 (s.stationOk n).toNat) 25 25 (n == s.pace && s.on (F.STR_CTRL_EN n)).toNat
  | .QST_QSTAT => setBits (setBits w 31 24 (s.slotCount k)) 23 16 (s.slotsAhead k)
  | .CKU_CFG => setBits w 31 28 (s.ckuPresetNow n)
  | .CKU_OUT_LO => s.ckuOut n % 2 ^ 32
  | .CKU_OUT_HI => s.ckuOut n / 2 ^ 32
  | .OBS_STAT => setBits w 31 30 s.obsLevel
  | .HYW_STAT => if s.hywLow n then setBits w 19 19 0 else w
  | .OTP_RDATA => s.otpRdata (s.g F.OTP_RADDR_ADDR)
  | .PMX_PADCFG => s.padcfgRead k
  | .SYN_CTRL => if n < 2 then setBits w 0 0 1 else w
  | .SYN_RAMP =>
    let x := s.rampNow n
    setBits (setBits (setBits w 31 30 x.1) 24 16 x.2.1) 12 0 x.2.2.1
  | .SYN_FNOW => (s.rampNow n).2.2.2
  | _ => w

/-- A register as it reads: write-only fields read zero; while LEVEL is 0 OBS shows STAT and HOSTEN alone (R405). -/
def State.regValue (s : State) (r : Reg) (n k : Nat) : Nat :=
  if r.block = .OBS && s.obsLevel = 0 && r ≠ .OBS_STAT && r ≠ .OBS_HOSTEN then 0
  else
    let v := s.liveWord r n k (s.word r n k) % 2 ^ 32
    v - (v &&& woMask r.row.fields)

/-- The key under which a requester's captured and staged halves of the pair at an address are kept (R14). -/
def Requester.key (q : Requester) (lo : Nat) : Nat := q.slot * 2 ^ 26 + lo

/-- A read of a register (R14): _LO captures the high half for this requester, and the next read of _HI returns what it captured. -/
def State.regRead (s : State) (q : Requester) (r : Reg) (n k : Nat) : Nat × State :=
  match r.row.half with
  | .none => (s.regValue r n k, s)
  | .lo =>
    let a := r.addr n k
    let hi := match s.regPlace (a + 4) with | .reg h m j => s.regValue h m j | _ => 0
    (s.regValue r n k, { s with captured := Cells.put Option.none (q.key a) (some hi) s.captured })
  | .hi =>
    let key := q.key (r.addr n k - 4)
    match Cells.get Option.none key s.captured with
    | some v => (v, { s with captured := Cells.put Option.none key Option.none s.captured })
    | Option.none => (s.regValue r n k, s)

/-! ### What a register write does (R11 to R13, R34, R36) -/

/-- One field of a written word by its access code (R11). -/
def writeField (old v : Nat) (f : FieldRow) : Nat :=
  match f.acc with
  | .RW => setBits old f.hi f.lo (bits v f.hi f.lo)
  | .RWS => setBits old f.hi f.lo (bits v f.hi f.lo)
  | .W1C => setBits old f.hi f.lo (bits old f.hi f.lo - (bits old f.hi f.lo &&& bits v f.hi f.lo))
  | .W1S => setBits old f.hi f.lo (bits old f.hi f.lo ||| bits v f.hi f.lo)
  | .RO => old
  | .WO => old

/-- A register write as the access codes state it (R11, R12). -/
def State.genWrite (s : State) (r : Reg) (n k v : Nat) : State := s.setWord r n k (r.row.fields.foldl (fun a f => writeField a v f) (s.word r n k))

/-- The set a COMMIT register commits (R34). -/
def commitSetOf (r : Reg) (n : Nat) : Option ShadowSet :=
  match r with
  | .GATH_GCOMMIT => some .gathGeom
  | .STR_GCOMMIT => some .strGlobal
  | .STR_PCOMMIT => some (.strPhase n)
  | .STR_COMMIT => some (.strImaging n)
  | .MOT_COMMIT => some (.motPwm n)
  | .MOT_ADVCOMMIT => some (.motAdv n)
  | .STP_PCOMMIT => some (.stpProfile n)
  | .SYN_DCOMMIT => some .synDiv
  | _ => none

/-- A port's registers are written only by the owner of its first slice (R32, R215, R256). -/
def State.mayWrite (s : State) (q : Requester) (r : Reg) (n : Nat) : Bool :=
  match r.block with
  | .MOT => s.ownsPort q (3 * n)
  | .STP => s.ownsPort q (24 + 2 * n)
  | .HV => s.ownsPort q (48 + n)
  | .FUS => s.ownsPort q (60 + n)
  | _ => true

/-- Writes that the present state of the unit refuses (R150, R250, R256, R267, R310, R389 and the maps' own words). -/
def State.stateLocked (s : State) (r : Reg) (n k v : Nat) : Bool :=
  match r.block with
  | .MOT => motParam r && s.motState n != mOFF && s.motState n != mFAULT
  | .STP => stpIdleOnly r && s.on (F.STP_CTRL_EN n)
  | .HV => loopIdleOnly r && s.on (F.HV_CTRL_EN n)
  | .FUS => (loopIdleOnly r && s.on (F.FUS_CTRL_EN n)) || (r == .FUS_BAND && s.fusBandLocked n)
  | .PSQ => s.psqLocked r k
  | .HYW => (r == .HYW_CFG || r == .HYW_CFG2) && s.on (F.HYW_CTRL_EN n)
  | .THM => r == .THM_TXCFG && s.on (F.THM_TXLIM_EN k)
  | .ING => (r == .ING_CTX_CFG || r == .ING_CTX_NB || r == .ING_CTX_LOC_LO) && s.ctxState k == ctxRUNNING
  | .OBS => r == .OBS_CNT_LO && s.on (F.OBS_EVSEL_EN k)
  | .TCE => r == .TCE_SPARE && ((s.is4820 && bit v 31) || (s.on F.TCE_SPARE_EN && bits v 4 0 != s.g F.TCE_SPARE_CORE))
  | _ => false

/-- Reserved encodings of the words that have no rule in their unit's own file (R13 and the maps). -/
def State.mapReserved (s : State) (q : Requester) (r : Reg) (n v : Nat) : Bool :=
  match r with
  | .GATH_TIMING => bits v 31 24 < 2
  | .GATH_FEED => bits v 15 8 == 0
  | .GATH_SCFG => bits v 19 16 == 0
  | .GATH_MEDIA_B => bit v 0 && bits v 23 16 == 0
  | .TCE_EDGESEL => bit v 31 && (ridClass (bits v 15 0) != 1 || 1443 < ridIndex (bits v 15 0) || s.padNC (ridIndex (bits v 15 0)))
  | .FCL_CTRL => bits v 15 8 == 0 || 0x0C < bits v 15 8 || bits v 1 0 == 3
  | .FCL_CLASSB => bits v 19 0 < 10 || 1000000 < bits v 19 0
  | .FCL_SRCCFG => 0xF0 ≤ bits v 31 24 || bits v 1 0 == 3 || bits v 15 8 == 0 || 0x0C < bits v 15 8
  | .STR_SCAN => bits v 31 20 < 2400 || 3600 < bits v 31 20 || bits v 19 12 == 0 || bits v 11 4 == 0
  | .STR_APC => bits v 23 16 == 0 || bits v 23 16 < bits v 15 8
  | .STR_POLY => bits v 28 25 < 2 || bits v 15 0 < 64
  | .STR_POLYF => bits v 31 0 < 16 * 70000000 || 16 * 170000000 < bits v 31 0
  | .STR_WINDOW => bits v 31 18 == 0 || 15591 < bits v 31 18 || bits v 10 0 < 1024
  | .STR_CALBUF => !s.calbufOk q n v
  | .STR_CALN => bits v 15 0 == 0
  | .STR_GLOBAL => s.blockCount .STR ≤ bits v 18 16 || bits v 11 8 == 0 || 8 < bits v 11 8
  | .SYN_DIV => 1 < bits v 31 30
  | .SYN_CKO => bits v 27 16 < 8
  | .DMA_CHCFG => bits v 27 24 == 0 || bits v 23 16 == 0
  | .ING_CTX_CFG => bits v 23 16 == 0 || bits v 6 0 < 112
  | .ING_CTX_NB => bits v 12 0 == 0 || 7676 < bits v 12 0
  | .PSQ_CAUSE => 6 < bits v 27 24
  | .OBS_EVSEL => !s.evselOk v
  | .OBS_BUFSIZE => (bits v 15 0 == 0 && s.on F.OBS_TRCCFG_MEM) || s.pageSize < s.bufBase + 4096 * bits v 15 0
  | .OBS_TRCCFG => bit v 30 && s.g F.OBS_BUFSIZE_PAGES == 0
  | _ => false

/-- A reserved encoding in a written word (R13). -/
def State.isReserved (s : State) (q : Requester) (r : Reg) (n k v : Nat) : Bool :=
  match r.block with
  | .MOT => s.motReserved n r v
  | .STP => stpReserved r v
  | .HV => hvReserved r v
  | .FUS => fusReserved r v
  | .PSQ => psqReserved r v || s.mapReserved q r n v
  | .HYW => s.hywReserved r v
  | .THM => s.thmReserved r k v
  | _ => s.mapReserved q r n v

/-- What an accepted write does beyond its fields: counts that any 1 clears, or that clear with a flag; a DMA channel's byte count; TXLIM's flags. -/
def State.afterWrite (s : State) (r : Reg) (n k v : Nat) : State :=
  let g := s.genWrite r n k v
  match r with
  | .FCL_STAT => if bits v 7 0 = 0 then s else s.p F.FCL_STAT_DROPPED 0
  | .OBS_STAT => if bits v 15 0 = 0 then s else s.p F.OBS_STAT_LOST 0
  | .OBS_BWPEAK => if v = 0 then s else s.setWord .OBS_BWPEAK 0 k 0
  | .FUS_FLT => if bits v 31 16 = 0 then s else s.p (F.FUS_FLT_ZVS n) 0
  | .STR_BDSTAT => if bit v 31 then g.p (F.STR_BDSTAT_MISSCNT n) 0 else g
  | .THM_TXLIM => s.txlimWrite k v
  | .DMA_CHCFG => if bit v 31 && !s.on (F.DMA_CHCFG_EN k) then g.setWord .DMA_CHBYTES 0 k 0 else g
  | .LCS_TOKEN => s.setWord .LCS_TOKEN 0 k v
  | _ => g

/-- Writes that a unit judges itself. -/
def State.unitWrite (s : State) (q : Requester) (r : Reg) (n k v : Nat) : Option State :=
  match r with
  | .TCE_QCFG => some (s.qcfgWrite q k v)
  | .TCE_QBASE => some (s.qbaseWrite q k v)
  | .TCE_QHEAD => some (s.qheadWrite q k v)
  | .TCE_QTAIL => some (s.qtailWrite q k v)
  | .TCE_CORERST => some (s.corerstWrite q v)
  | .PMX_CLAIMREQ => some (s.claimreqWrite q v)
  | .PMX_PADCFG => some (s.padcfgWrite q k v)
  | .PMX_SNSWIRE => some (s.snswireWrite q v)
  | .LCS_BOOTCMD => some (s.bootcmdWrite q v)
  | .SYN_CKOEN => if n = 0 then some (s.ckoenWrite v) else none
  | .LCS_WARMRST => some (if v = 0xA5 then s.warmReset else s)
  | .LCS_LCCMD => some (s.lccmdWrite q v)
  | .OTP_PCMD => some (s.pcmdWrite q v)
  | .GATH_CTRL => some (s.gathCtrlWrite q v)
  | .GATH_SCMD => some (s.scmd q (bits v 31 28) (bits v 2 0))
  | .LCE_CTRL => some (if bit v 31 then s.lceReset else s)
  | .FCL_KCMD => some (s.kcmdWrite v)
  | .FCL_ACK => some (s.ack (bits v 3 0) (bits v 15 8))
  | .FCL_FORCE => some (s.forceWrite q k v)
  | .FCL_RINGCFG => some (s.ringcfgWrite q v)
  | .FCL_KPAD => some (s.kpadWrite q k v)
  | .JRN_CMD => some (s.jrnCmd q v)
  | .JRN_RIDX => some (s.ridxWrite q v)
  | .PSQ_CMD => some (s.psqCmd q v true true)
  | .OBS_HOSTEN => some (s.hostenWrite q v)
  | .OBS_MARK => some (s.markWrite q v)
  | .OBS_BWCFG => some (s.bwcfgWrite q v)
  | .OBS_TRCCFG => if s.obsLevel = 1 && bits v 23 0 &&& s.g F.OBS_TRCCFG_ICORES ≠ bits v 23 0 then some (s.obsDenied q) else none
  | .ING_CTRL => some (if bit v 31 then s.ingReset else s)
  | .ING_CTX_JOB => some (s.ctxJobWrite q k v)
  | .DMA_CHCTRL => some (if bit v 30 then s.dmaStop q k else if bit v 31 then s.dmaRestart q k else s)
  | .SHW_PAGE => some (s.shwFlip q k v)
  | .QST_QRING => some (s.qringWrite q k v)
  | .CMP_CTRL => some (if bit v 31 then s.cmpReset n else s)
  | .DCP_CTRL => if bit v 31 then some (s.dcpReset n) else none
  | .STR_CTRL => some (s.strCtrlWrite q n v)
  | .STR_STAT => some (if bit v 26 then s.laserDisClear n else s)
  | .STR_LDCMD => some (s.ldcmdWrite q n k v)
  | .SYN_CTRL => some (s.synCtrlWrite q n v)
  | .CKU_CTRL => some (s.ckuCtrlWrite n v)
  | .CKU_CFG => some (s.ckuCfgWrite q n v)
  | .CKU_DIN32 => some (s.ckuDin q n (leBytes 4 v))
  | .CKU_DIN8 => some (s.ckuDin q n [v % 256])
  | .CKU_BIND => some (s.ckuBindWrite q n v)
  | .HYW_CTRL => some (s.hywCtrlWrite q n v)
  | .HYW_METER => some (s.meterWrite q n v)
  | .MOT_CTRL => some (s.motCtrlWrite q n v)
  | .STP_CTRL => some (s.stpCtrlWrite q n v)
  | .STP_POS => some (s.posWrite q n v)
  | .HV_CTRL => some (s.hvCtrlWrite q n v)
  | .FUS_CTRL => some (s.fusCtrlWrite q n v)
  | r => (commitSetOf r n).map (fun x => s.commitWrite q x v)

/-- A write of 32 bits to a register that is no half of a pair (R10 to R13, R32, R36, R405). -/
def State.wordWrite (s : State) (q : Requester) (r : Reg) (n k v : Nat) : State :=
  if r.block = .OBS && s.obsLevel = 0 && r ≠ .OBS_STAT && r ≠ .OBS_HOSTEN then s.obsDenied q
  else if !s.mayWrite q r n then s.accessFault q cNOT_OWNER
  else
    match s.unitWrite q r n k v with
    | some t => t
    | none =>
      match (shadowSetOf r n).filter (fun x => s.pendNow x) with
      | some x => s.lateWrite x q
      | none =>
        if s.stateLocked r n k v then s.unitFault r.block n q cSTATE_REFUSED
        else if s.isReserved q r n k v then s.unitFault r.block n q cRESERVED_ENC
        else s.afterWrite r n k v

/-- The commit of a pair by its write of _HI, judged as one register (R14). -/
def State.pairWrite (s : State) (q : Requester) (lo hi : Reg) (n k l h : Nat) : State :=
  let both := (s.genWrite lo n k l).genWrite hi n k h
  if lo.block = .OBS && s.obsLevel = 0 then s.obsDenied q
  else if s.stateLocked lo n k l then s.unitFault lo.block n q cSTATE_REFUSED
  else
    match lo with
    | .OBS_BUFBASE_LO =>
      if l % 4096 ≠ 0 || s.pageSize < l + 2 ^ 32 * (h % 8) + 4096 * s.g F.OBS_BUFSIZE_PAGES then s.unitFault .OBS 0 q cRESERVED_ENC else both
    | .ING_CTX_LOC_LO => if l % 64 ≠ 0 then s.unitFault .ING 0 q cRESERVED_ENC else both
    | .DMA_APER_BASE_LO => if l % 2 ^ 28 ≠ 0 then s.unitFault .DMA 0 q cRESERVED_ENC else both
    | .DCP_JOB_LO => s.dcpPush q n l h (s.nextSide n)
    | .STR_CALT_LO => s.caltArm q n (l + 2 ^ 32 * h)
    | .CKU_POLY_LO => s.ckuPairWrite q n (F.CKU_POLY_HI_P n) (F.CKU_POLY_LO_P n) (l + 2 ^ 32 * h) true
    | .CKU_INIT_LO => s.ckuPairWrite q n (F.CKU_INIT_HI_V n) (F.CKU_INIT_LO_V n) (l + 2 ^ 32 * h) true
    | .CKU_RUN_LO => s.ckuPairWrite q n (F.CKU_RUN_HI_R n) (F.CKU_RUN_LO_R n) (l + 2 ^ 32 * h) false
    | _ => both

/-- A write of 32 bits to a register (R14): _LO stages its value for the requester, _HI commits it with what was staged, or with the present low half. -/
def State.regWrite (s : State) (q : Requester) (r : Reg) (n k v : Nat) : State :=
  match r.row.half with
  | .none => s.wordWrite q r n k v
  | .lo => { s with staged := Cells.put Option.none (q.key (r.addr n k)) (some v) s.staged }
  | .hi =>
    let key := q.key (r.addr n k - 4)
    match s.regPlace (r.addr n k - 4) with
    | .reg lo m j =>
      let l := match Cells.get Option.none key s.staged with | some x => x | Option.none => s.word lo m j
      { s with staged := Cells.put Option.none key Option.none s.staged }.pairWrite q lo r m j l v
    | _ => s

/-! ### Accesses (R10, R14, R23 to R26, R166) -/

/-- How an access is answered: the value read; whether with an error (uncorrectable data, or a page store that does not answer: R189, R295); whether a page's
owner forbade it (R166); and the state after it. -/
structure Answer where
  val : Nat
  err : Bool := false
  denied : Bool := false
  st : State

/-- The value of w bytes with every bit 1. -/
def allOnes (w : Nat) : Nat := 2 ^ (8 * w) - 1

/-- BAR0 maps 64 MiB (R26). -/
def bar0Size : Nat := 0x04000000

/-- While a warm reset is in progress the BARs are closed but for reads of LCS (R26); while SYN0 is OFF afterwards the device stands (R283; log 72). -/
def State.barClosed (s : State) (q : Requester) (a : Nat) (write : Bool) : Bool :=
  q.isHost && (if s.stage < bsROM then write || !(Block.LCS.base ≤ a && a < Block.LCS.base + 0x40000) else s.g (F.SYN_STAT_STATE 0) == 0)

/-- Bytes that pass a host port (R413): port 2n to the device, 2n + 1 from it. -/
def State.bwHost (s : State) (q : Requester) (toDevice : Bool) (w : Nat) : State :=
  match q with
  | .host n => s.bwAdd (2 * n + (!toDevice).toNat) w
  | _ => s

/-- A naturally aligned access of one of the given widths. -/
def aligned (a w : Nat) (ws : List Nat) : Bool := ws.contains w && a % w == 0

/-- Bytes stored in a memory; words wholly rewritten hold correct data again. -/
def State.store (s : State) (a w v : Nat) : State :=
  { s.wr a w v with poison := s.poison.filter (fun p => !(a ≤ p && p + 4 ≤ a + w)) }

/-- Register words are 32 bits, ring memory takes 4 and 8 aligned bytes (R10, R25). -/
def Place.widthOk (p : Place) (a w : Nat) : Bool :=
  match p with
  | .reg _ _ _ => aligned a w [4]
  | .copy _ _ _ => aligned a w [4]
  | .quiet => aligned a w [4]
  | .bank _ _ => aligned a w [4]
  | .ring => aligned a w [4, 8]
  | _ => true

/-- Bytes of a memory as an answer. -/
def State.memAnswer (s : State) (a w : Nat) : Answer := { val := s.rd a w, err := s.poisoned a w, st := s }

/-- A read of w bytes of the device by a requester; while a warm reset is in progress BAR0, of 64 MiB, reads all ones but for LCS (R26). -/
def State.busRead (s : State) (q : Requester) (a w : Nat) : Answer :=
  if a < bar0Size && s.barClosed q a false then { val := allOnes w, st := s }
  else if !(s.place a).widthOk a w then { val := 0, st := s.accessFault q cREG_ACCESS }
  else
    match s.place a with
    | .reg r n k => let x := s.regRead q r n k; { val := x.1, st := x.2 }
    | .copy r n k => { val := s.active r n k, st := s }
    | .quiet => { val := 0, st := s }
    | .bank n i => { val := s.bankWord n i, st := s }
    | .shared p =>
      if s.shwDenied q p || s.shwDenied q (pageOf (a + w - 1)) then { val := if q.isHost then allOnes w else 0, denied := true, st := s.unitFault .SHW 0 q cSTATE_REFUSED } else s.memAnswer a w
    | .store => if s.pageUp then { s.memAnswer a w with st := s.bwMem false (a - pageBase) w } else { val := allOnes w, err := true, st := s }
    | .none => { val := 0, st := s.accessFault q cUNMAPPED }
    | _ => s.memAnswer a w

/-- A write of w bytes of the device by a requester; retention SRAM is written only by JRN (R23). -/
def State.busWrite (s : State) (q : Requester) (a w v : Nat) : Answer :=
  let ok := fun (t : State) => ({ val := 0, st := t } : Answer)
  if s.barClosed q a true then ok s
  else if !(s.place a).widthOk a w then ok (s.accessFault q cREG_ACCESS)
  else
    match s.place a with
    | .reg r n k => ok (s.regWrite q r n k (v % 2 ^ 32))
    | .copy _ _ _ => ok s
    | .quiet => ok s
    | .bank _ _ => ok s
    | .shared p => if s.shwDenied q p || s.shwDenied q (pageOf (a + w - 1)) then { val := 0, denied := true, st := s.unitFault .SHW 0 q cSTATE_REFUSED } else ok (s.store a w v)
    | .store => if s.pageUp then ok ((s.store a w v).bwMem true (a - pageBase) w) else { val := 0, err := true, st := s }
    | .none => ok (s.accessFault q cUNMAPPED)
    | .mirror => ok (s.accessFault q cUNMAPPED)
    | _ => ok (s.store a w v)

/-- Where BAR4 of endpoint n starts in the page store (R26). -/
def State.bar4Base (s : State) (n : Nat) : Nat := pageBase + s.g (F.DMA_APER_BASE_LO_BASE n) + 2 ^ 32 * s.g (F.DMA_APER_BASE_HI_BASE n)

/-- An address that a requester's own path reaches: an endpoint has the windows of its BARs alone (R26), and the cores stand with SYN0 OFF (R283). -/
def State.reaches (s : State) (q : Requester) (a : Nat) : Bool :=
  match q with
  | .host n =>
    let base := s.bar4Base n
    n < s.hosts && (a < bar0Size || (sharedBase ≤ a && a < sharedBase + 0x200000) || (base ≤ a && a < base + 2 ^ 28))
  | .core i => s.hasCore i && s.g (F.SYN_STAT_STATE 0) != 0
  | _ => true

/-- A read as a command: the value goes to its requester (log 5). -/
def State.readCmd (s : State) (q : Requester) (a w : Nat) : State :=
  let x := s.busRead q a w
  { x.st.bwHost q false w with busData := some (q, x.val) }

/-- A write as a command. -/
def State.writeCmd (s : State) (q : Requester) (a w v : Nat) : State := (s.busWrite q a w v).st.bwHost q true w

/-- The width of an access in bytes. -/
def widthIs (w : Nat) : Bool := w == 1 || w == 2 || w == 4 || w == 8

def Place.isControl : Place → Bool
  | .reg _ _ _ => true
  | .copy _ _ _ => true
  | .quiet => true
  | .bank _ _ => true
  | _ => false

/-- An access of a host that lies in its BAR4 (R26). -/
def State.inBar4 (s : State) (q : Requester) (a w : Nat) : Bool :=
  match q with
  | .host n =>
    let base := s.bar4Base n
    n < s.hosts && base ≤ a && a + w ≤ base + 2 ^ 28
  | _ => false

/-- REGISTER_READ (R10, R11, R26): a read of a control register; an endpoint's read through BAR4, which is always served, is the same command. -/
def execRegisterRead (q : Requester) (a w : Nat) (s : State) : Host.Outcome State Fault Refusal :=
  if widthIs w && s.reaches q a && ((s.place a).isControl || s.inBar4 q a w) then done (s.readCmd q a w) else .next s

/-- REGISTER_WRITE (R11): a write of a control register. -/
def execRegisterWrite (q : Requester) (a w v : Nat) (s : State) : Host.Outcome State Fault Refusal :=
  if widthIs w && s.reaches q a && (s.place a).isControl then done (s.writeCmd q a w v) else .next s

/-- Whether a control address is a given half of a pair. -/
def State.halfAt (s : State) (h : Half) (a : Nat) : Bool := match s.place a with | .reg r _ _ => r.row.half == h | _ => false

/-- PAIR_LO_READ (R14). -/
def execPairLoRead (q : Requester) (a : Nat) (s : State) : Host.Outcome State Fault Refusal :=
  if s.reaches q a && s.halfAt .lo a then done (s.readCmd q a 4) else .next s

/-- PAIR_HI_READ (R14). -/
def execPairHiRead (q : Requester) (a : Nat) (s : State) : Host.Outcome State Fault Refusal :=
  if s.reaches q a && s.halfAt .hi a then done (s.readCmd q a 4) else .next s

/-- PAIR_LO_WRITE (R14). -/
def execPairLoWrite (q : Requester) (a v : Nat) (s : State) : Host.Outcome State Fault Refusal :=
  if s.reaches q a && s.halfAt .lo a then done (s.writeCmd q a 4 v) else .next s

/-- PAIR_HI_WRITE (R14). -/
def execPairHiWrite (q : Requester) (a v : Nat) (s : State) : Host.Outcome State Fault Refusal :=
  if s.reaches q a && s.halfAt .hi a then done (s.writeCmd q a 4 v) else .next s

/-- UNMAPPED (R23, R24): an access outside every window, slot and register. -/
def execUnmapped (q : Requester) (write : Bool) (a w v : Nat) (s : State) : Host.Outcome State Fault Refusal :=
  if widthIs w && s.reaches q a && (s.place a == .none || (write && s.place a == .mirror)) then
    done (if write then s.writeCmd q a w v else s.readCmd q a w)
  else .next s

/-- RING_MEMORY_WRITE (R25). -/
def execRingMemoryWrite (q : Requester) (a w v : Nat) (s : State) : Host.Outcome State Fault Refusal :=
  if widthIs w && s.reaches q a && s.place a == .ring then done (s.writeCmd q a w v) else .next s

/-- SHW_ACCESS (R166): an access to a shared page by either side. -/
def execShwAccess (q : Requester) (write : Bool) (page off w v : Nat) (s : State) : Host.Outcome State Fault Refusal :=
  if widthIs w && page < 256 && off + w ≤ 8192 && s.reaches q sharedBase then
    let a := sharedBase + 8192 * page + off
    done (if write then s.writeCmd q a w v else s.readCmd q a w)
  else .next s

/-- BAR4_WRITE (R26): endpoint n writes its aperture; outside MAKER and RETURNED the write is discarded with LIFECYCLE. -/
def execBar4Write (n off w v : Nat) (s : State) : Host.Outcome State Fault Refusal :=
  let q := Requester.host n
  let a := s.bar4Base n + off
  if widthIs w && n < s.hosts && off + w ≤ 2 ^ 28 then
    if s.barClosed q a true then .next s
    else if s.lifecycle ≠ lcMAKER && s.lifecycle ≠ lcRETURNED then done ((s.accessFault q cLIFECYCLE).bwHost q true w)
    else done (s.writeCmd q a w v)
  else .next s

/-- CALT_ARM (R132): the write of CALT_HI, with the run's start. -/
def execCaltArm (q : Requester) (k t : Nat) (s : State) : Host.Outcome State Fault Refusal :=
  s.gate q (if k < s.blockCount .STR then done (s.caltArm q k (t % 2 ^ 64)) else .next s)

/-- COMMIT_GO (R35): a write of GO = 1 to a set's COMMIT register. -/
def execCommitGo (q : Requester) (x : ShadowSet) (s : State) : Host.Outcome State Fault Refusal :=
  s.gate q (if s.setExists x then done (s.regWrite q x.commitReg x.unit.2 0 1) else .next s)

/-- POS_WRITE (R250): a write of STPk.POS. -/
def execPosWrite (q : Requester) (k v : Nat) (s : State) : Host.Outcome State Fault Refusal :=
  s.gate q (if k < s.blockCount .STP then done (s.regWrite q .STP_POS k 0 v) else .next s)

/-- The register that holds a block's UNIT_RST. -/
def Block.ctrlReg : Block → Option Reg
  | .GATH => some .GATH_CTRL
  | .LCE => some .LCE_CTRL
  | .ING => some .ING_CTRL
  | .CMP => some .CMP_CTRL
  | .DCP => some .DCP_CTRL
  | .STR => some .STR_CTRL
  | .SYN => some .SYN_CTRL
  | .CKU => some .CKU_CTRL
  | .HYW => some .HYW_CTRL
  | .MOT => some .MOT_CTRL
  | .STP => some .STP_CTRL
  | .HV => some .HV_CTRL
  | .FUS => some .FUS_CTRL
  | _ => none

/-- UNIT_RESET (R38): a write of UNIT_RST = 1 to a unit's CTRL. -/
def execUnitReset (q : Requester) (b : Block) (n : Nat) (s : State) : Host.Outcome State Fault Refusal :=
  s.gate q (
    match b.ctrlReg with
    | some r => if n < s.blockCount b then done (s.regWrite q r n 0 (2 ^ 31)) else .next s
    | none => .next s)

end Sys2Proof.Machine
end

