-- ==== Sys2Proof/Machine/Dma.lean ====
section
/-! DEFINITION. The DMA engine (R157 to R164) with the check units bound to its channels (R330): fetching and judging a descriptor, moving its
bytes, the ways it ends; and PERST# (R38). -/

namespace Sys2Proof.Machine

/-! ### The descriptor (R157 to R159) -/

/-- A descriptor as its 32 bytes give it (R157). -/
structure DmaDesc where
  own : Bool
  cmpl : Bool
  mode : Nat
  sspace : Nat
  dspace : Nat
  tag : Nat
  len : Nat
  src : Nat
  dst : Nat
  rows : Nat
  pitch : Nat
  crcOk : Bool
  deriving DecidableEq, Repr

/-- The check value of a descriptor's first 28 bytes with OWN taken as 1 (R157). -/
def dmaCrc (bs : List Nat) : Nat := crc32c ((bs.take 3) ++ [((bs[3]?).getD 0) ||| 0x80] ++ (bs.drop 4).take 24)

/-- The ING context that a descriptor names (R157). -/
def DmaDesc.ctx (d : DmaDesc) : Option Nat := if d.mode = 1 then some (d.dst % 8) else none

def dmaDecode (bs : List Nat) : DmaDesc :=
  let ctrl := leNat (bs.take 4)
  let geom := leNat ((bs.drop 24).take 4)
  { own := bit ctrl 31, cmpl := bit ctrl 30, mode := bits ctrl 29 27, sspace := bits ctrl 26 25, dspace := bits ctrl 24 23, tag := bits ctrl 15 0,
    len := leNat ((bs.drop 4).take 3), src := leNat ((bs.drop 8).take 8), dst := leNat ((bs.drop 16).take 8), rows := geom / 65536,
    pitch := geom % 65536, crcOk := dmaCrc bs == leNat ((bs.drop 28).take 4) }

/-- The entry at QHEAD of a channel's descriptor ring. -/
def State.dmaEntry (s : State) (c : Nat) : DmaDesc := dmaDecode (s.rdBytes (s.ringAddr (32 + c) (s.qhead (32 + c))) 32)

/-- A reserved encoding in a defined field (R157), an address space of an absent endpoint among them; reserved fields are not judged (log 48). -/
def State.dmaFieldBad (s : State) (d : DmaDesc) : Bool :=
  1 < d.mode || s.hosts < d.sspace || s.hosts < d.dspace || d.len == 0 || d.rows == 0 || (1 < d.rows && d.pitch < ceilDiv d.len 4)
    || (d.mode == 1 && d.dspace != 0)

/-- The windows that device-space addresses of a descriptor may lie in (R159), as base and size. -/
def State.dmaWindows (s : State) (endpoint source : Bool) : List (Nat × Nat) :=
  if endpoint then (sharedBase, 0x200000) :: (if source then [(pageBase, s.pageSize)] else [])
  else
    [(0, 0x04000000), (sharedBase, 0x200000), (quireBase, 0x10000 * s.granules), (tableBase, 0x100000), (pageBase, s.pageSize)]
      ++ ((List.range 24).filter s.hasCore).map (fun i => (localBase + 0x100000 * i, 0x40000))

/-- n bytes at a lie in a space without crossing the end of a window (R159). -/
def State.dmaFits (s : State) (endpoint source : Bool) (space a n : Nat) : Bool :=
  if space = 0 then (s.dmaWindows endpoint source).any (fun w => w.1 ≤ a && a + n ≤ w.1 + w.2) else a + n ≤ 2 ^ 64

/-! ### A bound check unit (R330) -/

/-- The check unit bound to a channel. -/
def State.boundCku (s : State) (c : Nat) : Option Nat := (List.range 8).find? (fun n => s.ckuBound n && s.g (F.CKU_BIND_CHANNEL n) == c)

/-- Bytes of an output value. -/
def State.ckuLen (s : State) (n : Nat) : Nat := ceilDiv (s.ckuW n) 8

/-- The bytes a COPY of n source bytes writes on a channel: with those a bound unit appends, without those it strips (R330). -/
def State.dmaOut (s : State) (c n : Nat) : Nat :=
  match s.boundCku c with
  | some k => if s.on (F.CKU_BIND_MODE k) then n - s.ckuLen k else n + s.ckuLen k
  | none => n

/-- The end of a bound descriptor whose bytes have all moved: the unit's count, and in check mode its judgement of the stripped bytes. -/
def State.ckuJudge (s : State) (c k : Nat) (tail : List Nat) : State :=
  let s1 := s.inc (F.CKU_STAT_CHECKS k)
  if s.on (F.CKU_BIND_MODE k) then
    if leNat tail = s.ckuOut k then s1.p (F.CKU_STAT_LASTOK k) 1
    else ((s1.p (F.CKU_STAT_LASTOK k) 0).p (F.CKU_STAT_MISMATCH k) 1).raise (22 + k) 1 c .a
  else s1

/-! ### Starting a descriptor -/

/-- A descriptor whose OWN reads 1 is judged before any byte moves (R158, R159), and then its transfer starts. -/
def State.dmaJudge (s : State) (c : Nat) (d : DmaDesc) : State :=
  let endpoint := s.g (F.TCE_QCFG_PROD (32 + c)) != 3
  let span := 4 * d.pitch * (d.rows - 1) + d.len
  let ctx := d.ctx
  let fail := fun code a => s.dmaEnd c d.tag d.cmpl ctx code false 0 a
  if !d.crcOk then fail 3 0
  else if s.dmaFieldBad d then fail 4 0
  else if (endpoint && d.mode = 1) || !s.dmaFits endpoint true d.sspace d.src span then fail 6 d.src
  else if d.mode = 0 && !s.dmaFits endpoint false d.dspace d.dst (s.dmaOut c (d.len * d.rows)) then fail 6 d.dst
  else
    (s.modDma c (fun _ =>
      { xfer := some { tag := d.tag, cmpl := d.cmpl, ctx := ctx, sspace := d.sspace, dspace := d.dspace, src := d.src, len := d.len,
                       pitch := 4 * d.pitch, rows := d.rows, dst := d.dst } })).p (F.DMA_CHSTAT_STATE c) dACTIVE

/-- The descriptor ring of a channel has an entry for it. -/
def State.dmaHas (s : State) (c : Nat) : Bool := s.ringEn (32 + c) && s.g (F.TCE_QCFG_CONS (32 + c)) == 4 && !s.ringEmpty (32 + c)

/-- DMA_DESC_FETCH (R158, R163, R164): an enabled channel that is neither halted nor at work fetches the entry at QHEAD. -/
def execDmaDescFetch (c : Nat) (s : State) : Host.Outcome State Fault Refusal :=
  if c < 16 && s.on (F.DMA_CHCFG_EN c) && s.g (F.DMA_CHSTAT_STATE c) = dIDLE && s.dmaHas c then
    let d := s.dmaEntry c
    if d.own then done (s.dmaJudge c d)
    else done ((s.modDma c (fun _ => { waitSince := some s.now })).p (F.DMA_CHSTAT_STATE c) dACTIVE)
  else .next s

/-- OWN_POLL (R158): the channel reads the entry again; where its ring was disabled meanwhile the entry is gone (R29). -/
def execOwnPoll (c : Nat) (s : State) : Host.Outcome State Fault Refusal :=
  if c < 16 && (s.chan c).waitSince.isSome then
    if !s.dmaHas c then done (s.dmaRelease c false)
    else
      let d := s.dmaEntry c
      if d.own then done (s.dmaJudge c d) else .next s
  else .next s

/-- NOT_OWNED (R158): OWN still reads 0 after OWNWAIT. -/
def execNotOwned (c : Nat) (s : State) : Host.Outcome State Fault Refusal :=
  match (s.chan c).waitSince with
  | some t =>
    let d := s.dmaEntry c
    if c < 16 && s.dmaHas c && !d.own && t + s.g (F.DMA_CHCFG_OWNWAIT c) * usTicks ≤ s.now then done (s.dmaEnd c d.tag d.cmpl d.ctx 5 false 0 0)
    else .next s
  | none => .next s

/-! ### Moving bytes -/

/-- The answer to a DMA access as a completion code, err where it is an error (R160, R166). -/
def Answer.dmaCode (x : Answer) (err : Nat) : Nat := if x.denied then 7 else if x.err then err else 0

/-- Reads n bytes of the device address space in pieces that cross no 4-byte boundary; the first error answer ends the read. -/
def State.dmaReadDev (s : State) : (fuel a n : Nat) → List Nat × Nat × State
  | 0, _, _ => ([], 0, s)
  | f + 1, a, n =>
    if n = 0 then ([], 0, s)
    else
      let w := min n (4 - a % 4)
      let x := s.busRead .dma a w
      if x.dmaCode 1 ≠ 0 then ([], x.dmaCode 1, x.st)
      else
        let r := x.st.dmaReadDev f (a + w) (n - w)
        (leBytes w x.val ++ r.1, r.2)

/-- Writes bytes to the device address space in such pieces; the code is that of the first piece answered with an error. -/
def State.dmaWriteDev (s : State) : (fuel a : Nat) → List Nat → Nat × State
  | 0, _, _ => (0, s)
  | f + 1, a, bs =>
    if bs.isEmpty then (0, s)
    else
      let w := min bs.length (4 - a % 4)
      let x := s.busWrite .dma a w (leNat (bs.take w))
      let r := x.st.dmaWriteDev f (a + w) (bs.drop w)
      (if x.dmaCode 2 ≠ 0 then x.dmaCode 2 else r.1, r.2)

/-- A read beat in an address space: the bytes, the completion code of its answer, the state. -/
def State.dmaRead (s : State) (space a n : Nat) : List Nat × Nat × State :=
  if space = 0 then s.dmaReadDev n a n
  else (Cells.bytesAt 0 (2 ^ 64 * (space - 1) + a) s.hostMem n, 0, s.bwHost (.host (space - 1)) true n)

/-- A write beat in an address space. -/
def State.dmaWrite (s : State) (space a : Nat) (bs : List Nat) : Nat × State :=
  if space = 0 then s.dmaWriteDev bs.length a bs
  else (0, { s with hostMem := Cells.putBytes 0 (2 ^ 64 * (space - 1) + a) bs s.hostMem }.bwHost (.host (space - 1)) false bs.length)

/-- A descriptor under way: source bytes done, where it stops, the line in hand for a line format, the bytes a check unit strips, the error
that ends it (code, address, whether it is of a write). -/
structure Mv where
  st : State
  off : Nat := 0
  limit : Nat
  row : List Nat := []
  tail : List Nat := []
  err : Option (Nat × Nat × Bool) := none

/-- The address of the 64-byte beat that holds a, in a transfer from lo on (log 48). -/
def beatAt (lo a : Nat) : Nat := max lo (a / 64 * 64)

/-- The source address of byte off of a transfer. -/
def Xfer.srcAt (x : Xfer) (off : Nat) : Nat := x.src + x.pitch * (off / x.len) + off % x.len

/-- The source bytes of a transfer. -/
def Xfer.total (x : Xfer) : Nat := x.len * x.rows

/-- How many source bytes the transfer writes: all but those a check unit strips (R330). -/
def State.dmaKept (s : State) (c : Nat) (x : Xfer) : Nat := if x.ctx.isSome then x.total else min x.total (s.dmaOut c x.total)

/-- The bytes issued when the answer to a write beat that ends at e arrives: which of the later beats are out by then is open, a free value (log 48). -/
def Mv.afterWrite (m : Mv) (e : Nat) : Mv :=
  let r := m.st.draw
  { m with st := r.2, limit := e + r.1.toNat % (m.limit - e + 1) }

/-- A beat's bytes reach an ING context (R151). -/
def Mv.ingest (m : Mv) (x : Xfer) (n : Nat) (bs : List Nat) : Mv :=
  let row := m.row ++ bs
  if m.st.ctxFormat n = 3 then { m with st := m.st.ctxRow n bs, off := m.off + bs.length }
  else if (m.off + bs.length) % x.len = 0 then { m with st := m.st.ctxRow n row, off := m.off + bs.length, row := [] }
  else { m with off := m.off + bs.length, row := row }

/-- A beat's bytes reach the destination of a COPY: those beyond the kept ones go to the check unit.  lost: the beat is answered with an error
from outside, and whether it landed is open, a free value (log 48). -/
def Mv.copy (m : Mv) (c : Nat) (x : Xfer) (bs : List Nat) (lost : Bool) : Mv :=
  let keep := bs.take (m.st.dmaKept c x - m.off)
  let s1 := match m.st.boundCku c with | some k => m.st.ckuBytes k keep | none => m.st
  let d := if lost then s1.draw else (1, s1)
  let w := if lost && d.1 &&& 1 = 0 then (2, d.2) else d.2.dmaWrite x.dspace (x.dst + m.off) keep
  let code := if lost then 2 else w.1
  let m1 := { m with st := w.2, off := m.off + bs.length, tail := m.tail ++ bs.drop keep.length }
  if code ≠ 0 && m.err.isNone then { m1 with err := some (code, beatAt x.dst (x.dst + m.off), true) }.afterWrite m1.off else m1

/-- One beat: a read that crosses no 64-byte boundary and stays within a row, and its write.  bad: the beat that holds this source byte is answered
with an error from outside, its write (true) or its read. -/
def Mv.beat (m : Mv) (c : Nat) (x : Xfer) (bad : Option (Bool × Nat)) : Mv :=
  let a := x.srcAt m.off
  let n := min (64 - a % 64) (min (x.len - m.off % x.len) (m.limit - m.off))
  let hit := fun (write : Bool) => match bad with | some (w, o) => w == write && m.off ≤ o && o < m.off + n | none => false
  if hit false then { m with err := some (m.err.getD (1, a, false)), limit := m.off }
  else
    let r := m.st.dmaRead x.sspace a n
    if r.2.1 ≠ 0 then { m with st := r.2.2, err := some (m.err.getD (r.2.1, a, false)), limit := m.off }
    else
      let m1 := { m with st := r.2.2 }
      match x.ctx with
      | some k => if m1.st.ctxState k = ctxRUNNING then m1.ingest x k r.1 else { m1 with err := some (9, 0, false), limit := m.off }
      | none => m1.copy c x r.1 (hit true)

def Mv.run (c : Nat) (x : Xfer) (bad : Option (Bool × Nat)) : (fuel : Nat) → Mv → Mv
  | 0, m => m
  | f + 1, m => if m.limit ≤ m.off then m else Mv.run c x bad f (m.beat c x bad)

/-- The line size a context's format asks of LEN (R149, R151). -/
def State.lineSize (s : State) (n : Nat) : Nat := lineBytes (s.ctxFormat n) (s.ctxNpix n)

/-- R151 or the context's state forbids the descriptor. -/
def State.ingestBad (s : State) (x : Xfer) : Bool :=
  match x.ctx with
  | some n => s.ctxState n != ctxRUNNING || (s.ctxFormat n != 3 && x.len != s.lineSize n)
  | none => false

/-- A descriptor ends whose bytes have moved: what a bound check unit appends or judges, and the completion (R160 to R162, R330). -/
def Mv.finish (m : Mv) (c : Nat) (x : Xfer) : State :=
  match m.err with
  | some (code, a, w) => m.st.dmaEnd c x.tag x.cmpl x.ctx code w m.off a
  | none =>
    if m.limit < x.total then m.st.dmaEnd c x.tag x.cmpl x.ctx 8 false m.off 0
    else
      match (if x.ctx.isSome then none else m.st.boundCku c) with
      | none => m.st.dmaEnd c x.tag x.cmpl x.ctx 0 false m.off 0
      | some k =>
        if m.st.on (F.CKU_BIND_MODE k) then (m.st.ckuJudge c k m.tail).dmaEnd c x.tag x.cmpl none 0 false m.off 0
        else
          let w := m.st.dmaWrite x.dspace (x.dst + m.off) (leBytes (m.st.ckuLen k) (m.st.ckuOut k))
          let bytes := m.off + m.st.ckuLen k
          (w.2.ckuJudge c k []).dmaEnd c x.tag x.cmpl none w.1 (w.1 != 0) bytes (if w.1 = 0 then 0 else beatAt x.dst (x.dst + m.off))

/-- Moves a transfer's bytes up to a limit and ends it; bad as for Mv.beat. -/
def State.dmaMove (s : State) (c : Nat) (x : Xfer) (limit : Nat) (bad : Option (Bool × Nat)) : State :=
  if s.ingestBad x then s.dmaEnd c x.tag x.cmpl x.ctx 9 false 0 0
  else
    let s1 := match (if x.ctx.isSome then none else s.boundCku c) with | some k => s.ckuStart k | none => s
    (Mv.run c x bad limit { st := s1, limit := limit }).finish c x

/-- A transfer that STOP ends: how many bytes were issued by then is open, a free value (R163, log 48). -/
def State.dmaStopped (s : State) (c : Nat) (x : Xfer) : State :=
  let r := s.draw
  let m := Mv.run c x none x.total { st := r.2, limit := r.1.toNat % (x.total + 1) }
  match m.err with
  | some _ => m.finish c x
  | none => m.st.dmaEnd c x.tag x.cmpl x.ctx 8 false m.off 0

/-- DMA_COMPLETE (R161, R164): the transfer's bytes are moved and answered and its completion posted; or a completion that waited for room in its
ring is posted. -/
def execDmaComplete (c : Nat) (s : State) : Host.Outcome State Fault Refusal :=
  if c < 16 then
    match (s.chan c).xfer, (s.chan c).ready with
    | some x, _ => done (if x.stop then s.dmaStopped c x else s.dmaMove c x x.total none)
    | none, some r => done (s.dmaPost c r)
    | none, none => .next s
  else .next s

/-- DMA_BEAT_ERROR (R162): the beat that holds source byte off of the transfer is answered with an error, its write or its read. -/
def execDmaBeatError (c : Nat) (write : Bool) (off : Nat) (s : State) : Host.Outcome State Fault Refusal :=
  if c < 16 then
    match (s.chan c).xfer with
    | some x => if off < (if write then s.dmaKept c x else x.total) && (!write || x.ctx.isNone) then done (s.dmaMove c x x.total (some (write, off))) else .next s
    | none => .next s
  else .next s

/-! ### PERST# (R38, R163) -/

/-- What PERST# of endpoint n does to channel c: an outstanding read of its host memory is answered with an error, which one being open, a free value;
where the descriptor writes to that memory, the outstanding read is the one that confirms the last beat (R161, R162). -/
def State.perstChannel (s : State) (n c : Nat) : State :=
  match (s.chan c).xfer with
  | some x =>
    if x.sspace = n + 1 then
      let r := s.draw
      r.2.dmaMove c x x.total (some (false, r.1.toNat % x.total))
    else if x.dspace = n + 1 && x.ctx.isNone then s.dmaMove c x x.total (some (true, s.dmaKept c x - 1))
    else s
  | none => s

/-- PERST (R38): PERST# of endpoint n resets that endpoint alone: its captured and staged halves go (log 48), and its outstanding reads are answered
with errors. -/
def execPerst (n : Nat) (s : State) : Host.Outcome State Fault Refusal :=
  if n < s.hosts then
    let other := fun (x : Nat × Option Nat) => x.1 / 2 ^ 26 != (Requester.host n).slot
    done (forRange 0 16 (fun c a => a.perstChannel n c) { s with captured := s.captured.filter other, staged := s.staged.filter other })
  else .next s

end Sys2Proof.Machine
end

