-- ==== Sys2Proof/Machine/Gotum.lean ====
section
/-! DEFINITION. The Gotum cores (R176 to R198, R207 to R210): taking a fault, instruction issue and retirement, and the scalar and timeline
instructions.  A row of the opcode table is core i issuing the instruction with the fields of its format (R184) at its PC (log 49). -/

namespace Sys2Proof.Machine

/-! ### Registers and formats (R177 to R179, R184) -/

/-- A general register; g0 reads as zero (R177). -/
def Core.get (c : Core) (r : BitVec 5) : Word := if r = 0 then 0 else vget c.g r.toNat

/-- Writes a general register; a write to g0 is discarded (R177). -/
def Core.set (c : Core) (r : BitVec 5) (v : Word) : Core := if r = 0 then c else { c with g := vmod c.g r.toNat (fun _ => v) }

/-- The 64-bit value of a pair (R178). -/
def Core.pair (c : Core) (r : BitVec 5) : Nat := (c.get r).toNat + 2 ^ 32 * (c.get (r + 1)).toNat

/-- Writes a pair (R178). -/
def Core.setPair (c : Core) (r : BitVec 5) (lo hi : Word) : Core := (c.set r lo).set (r + 1) hi

/-- A register number that names a pair: even, and not g0 (R178). -/
def pairOk (r : BitVec 5) : Bool := r != 0 && r.toNat % 2 == 0

/-- Bits of SW (R177). -/
def swSYS : Nat := 31
def swIE : Nat := 30
def swINFAULT : Nat := 29
def swPSYS : Nat := 28
def swPIE : Nat := 27
def swVOV : Nat := 23
def swCSLIP : Nat := 22
def swMAPPED : Nat := 21
def swDSAT : Nat := 20

def Core.swOn (c : Core) (b : Nat) : Bool := bit c.sw.toNat b
def Core.setSw (c : Core) (b : Nat) (x : Bool) : Core := { c with sw := BitVec.ofNat 32 (setBit c.sw.toNat b x) }

/-- The encodings of the formats (R184). -/
def encA (op : BitVec 6) (rd ra rb : BitVec 5) (func : BitVec 11) : Word := op ++ rd ++ ra ++ rb ++ func
def encB (op : BitVec 6) (rd ra : BitVec 5) (imm : BitVec 16) : Word := op ++ rd ++ ra ++ imm
def encL (op : BitVec 6) (rd : BitVec 5) (disp : BitVec 21) : Word := op ++ rd ++ disp
def encV (op : BitVec 6) (vd va vb : BitVec 4) (g : BitVec 5) (func : BitVec 9) : Word := op ++ vd ++ va ++ vb ++ g ++ func
def encM (op : BitVec 6) (vd : BitVec 4) (ga : BitVec 5) (n1 : BitVec 3) (off : BitVec 14) : Word := op ++ vd ++ ga ++ n1 ++ off

/-- A loop core (R176). -/
def isLoop (i : Nat) : Bool := 16 ≤ i

/-- The local memory of core i (R23). -/
def localOf (i : Nat) : Nat := localBase + 0x100000 * i

/-- Own local memory as effective addresses (R181, R182). -/
def ownBase : Nat := 0xE0000000
def ownSize : Nat := 0x40000

/-- A PC the core can fetch from (R182). -/
def pcOk (pc : Nat) : Bool := ownBase ≤ pc && pc < ownBase + ownSize && pc % 4 == 0

/-! ### The instruction trace (R416) -/

/-- The core's follower (R20, R191): cord time or one tick behind it; as it stands, and so free, while CORE_OK is 0 (log 1). -/
def State.follower (s : State) : Nat × State :=
  let r := s.draw
  if s.on F.CORD_STAT_CORE_OK then (s.now - r.1.toNat % 2, r.2)
  else (r.1.toNat + 2 ^ 32 * r.2.draw.1.toNat, r.2.draw.2)

/-- One record of a core's instruction trace (R414, R416). -/
def State.insRecord (s : State) (i code aux type data : Nat) : State :=
  let r := s.follower
  (r.2.tracePush (traceBytes r.1 (40 + i) code aux type data)).modCore i (fun c => { c with sinceRec := 0 })

/-- A BRANCH record of the outcomes in hand. -/
def State.insFlush (s : State) (i : Nat) : State :=
  let c := s.coreOf i
  if c.branchN = 0 then s
  else (s.insRecord i c.branchN c.sinceRec 1 c.branches).modCore i (fun c => { c with branches := 0, branchN := 0 })

/-- A TARGET record, after the branches in hand: 1 Indirect, 2 Handler, 3 Sync. -/
def State.insTarget (s : State) (i code aux data : Nat) : State :=
  if s.insTraced i then (s.insFlush i).insRecord i code aux 2 data else s

/-- The outcome of a conditional branch. -/
def State.insBranch (s : State) (i : Nat) (taken : Bool) : State :=
  if s.insTraced i then
    let s1 := s.modCore i (fun c => { c with branches := c.branches + taken.toNat * 2 ^ c.branchN, branchN := c.branchN + 1 })
    if 32 ≤ (s1.coreOf i).branchN then s1.insFlush i else s1
  else s

/-! ### Faults (R207 to R211) -/

/-- A core that runs shows RUN, or HANDLER while INFAULT is 1. -/
def State.showRun (s : State) (i : Nat) : State := s.setCoreState i (if (s.coreOf i).swOn swINFAULT then csHANDLER else csRUN)

/-- Steps 1 to 5 of R207 on the registers of a core, with the handler's offset from VBASE (R209). -/
def Core.enter (c : Core) (epc cause val off : Nat) : Core :=
  let c1 := ((c.setSw swPSYS (c.swOn swSYS)).setSw swPIE (c.swOn swIE)).setSw swSYS true
  { (c1.setSw swIE false).setSw swINFAULT true with
      epc := BitVec.ofNat 32 epc, ecause := BitVec.ofNat 32 cause, eval := BitVec.ofNat 32 val
      pc := c.vbase + BitVec.ofNat 32 off, wait := none }

/-- The core enters a handler: its registers, its state, LASTCAUSE, the trace record. -/
def State.enterHandler (s : State) (i epc cause val off : Nat) : State :=
  (((s.modCore i (fun c => c.enter epc cause val off)).showRun i).p (F.TCE_CSTAT_LASTCAUSE i) cause).insTarget i 2 cause (epc % 2 ^ 32)

/-- The word in which an access to own local memory meets its uncorrectable error: the first one marked from the access's word on (R211). -/
def State.badWord (s : State) (i ea : Nat) : Nat :=
  let w := localOf i + ea % ownSize / 4 * 4
  ((s.poison.filter (fun p => w ≤ p)).foldl (fun a p => some (match a with | some q => min p q | none => p)) none).getD w

/-- A fault (R207), a double fault (R208), or a second ECC_LOCAL at one word within an epoch (R211). -/
def State.coreFault (s : State) (i epc cause val : Nat) : State :=
  let c := s.coreOf i
  let at' := s.badWord i val
  let s1 := if cause = 6 then s.modCore i (fun c => { c with eccWords := at' :: c.eccWords }) else s
  if cause = 6 && c.eccWords.contains at' then s1.coreFail i 0x22
  else if c.swOn swINFAULT then s1.coreCrash i 0x20
  else ((s1.enterHandler i epc cause val 0).count 0x05 i 1).raise (40 + i) 1 cause (if cause = 6 then .b else .a) 4

/-! ### Issue and retirement -/

/-- How an instruction ends: with the next PC; waiting; with a fault, its cause and EVAL (R207); or retired, and what follows done with it. -/
inductive Ends where
  | fin (s : State)
  | next (s : State) (pc : Nat)
  | wait (s : State) (w : Wait)
  | trap (s : State) (cause val : Nat)

/-- An instruction retires: the counts of R179 and R409, the Sync record of R416, and the next PC. -/
def State.retire (s : State) (i pc : Nat) : State :=
  let s1 := (s.modCore i (fun c =>
    { c with pc := BitVec.ofNat 32 pc, lastPc := c.pc, wait := none, instret := (c.instret + 1) % 2 ^ 64, sinceRec := satAdd c.sinceRec 1 255,
             sinceSync := (c.sinceSync + 1) % 4096 })).showRun i
  let s2 := s1.count 0x02 i 1
  if (s1.coreOf i).sinceSync = 0 then s2.insTarget i 3 0 pc else s2

/-- An instruction ends; going on past the last word of local memory is a FETCH fault of the instruction that did so (R182; log 49).  One whose own
effect reset its core or took it out of service (R212) leaves the core so. -/
def State.conclude (s : State) (i : Nat) : Ends → State
  | .fin t => t
  | .next t pc =>
    let old := (s.coreOf i).pc.toNat
    if !t.inService i then t else if pcOk pc then t.retire i pc else (t.retire i old).coreFault i old 7 pc
  | .wait t w => (t.modCore i (fun c => { c with wait := some w })).setCoreState i csWAIT
  | .trap t cause val => t.coreFault i (s.coreOf i).pc.toNat cause val

/-- A core that can issue an instruction: present, running with its clock (R283), and not waiting. -/
def State.coreReady (s : State) (i : Nat) : Bool :=
  s.hasCore i && s.synState 0 != syOFF && (s.coreState i == csRUN || s.coreState i == csHANDLER) && (s.coreOf i).wait.isNone

/-- The device address of the word at the PC. -/
def State.fetchAddr (s : State) (i : Nat) : Nat := localOf i + (s.coreOf i).pc.toNat % ownSize

/-- Core i issues an instruction; a word with uncorrectable data is ECC_LOCAL at its fetch (R207).  A core that cannot issue does nothing. -/
def State.issue (s : State) (i : Nat) (f : State → Core → Ends) : Host.Outcome State Fault Refusal :=
  if s.coreReady i then
    if s.poisoned (s.fetchAddr i) 4 then done (s.coreFault i (s.coreOf i).pc.toNat 6 (s.coreOf i).pc.toNat)
    else done (s.conclude i (f s (s.coreOf i)))
  else .next s

/-- The next instruction in sequence. -/
def Core.seq (c : Core) : Nat := c.pc.toNat + 4

/-- Ends with a changed core and the next instruction. -/
def State.with (s : State) (i : Nat) (c : Core) : Ends := .next (s.modCore i (fun _ => c)) c.seq

/-- An ILLEGAL fault (R185) where a constraint of the instruction is broken. -/
def State.legal (s : State) (ok : Bool) (word : Word) (k : Ends) : Ends := if ok then k else .trap s 1 word.toNat

/-- A PRIV fault in user mode (R180). -/
def State.priv (s : State) (c : Core) (word : Word) (k : Ends) : Ends := if c.swOn swSYS then k else .trap s 2 word.toNat

/-! ### Arithmetic (R186, R187) -/

/-- A format-A operation on two registers. -/
def State.opA (s : State) (i : Nat) (rd ra rb : BitVec 5) (f : Word → Word → Word) : Host.Outcome State Fault Refusal :=
  s.issue i (fun t c => t.with i (c.set rd (f (c.get ra) (c.get rb))))

/-- A format-B operation on a register and an immediate. -/
def State.opB (s : State) (i : Nat) (rd ra : BitVec 5) (f : Word → Word) : Host.Outcome State Fault Refusal :=
  s.issue i (fun t c => t.with i (c.set rd (f (c.get ra))))

def wordLt (a b : Word) : Word := if a.toInt < b.toInt then 1 else 0
def wordLtu (a b : Word) : Word := if a.toNat < b.toNat then 1 else 0
def wordSll (a : Word) (n : Nat) : Word := a <<< (n % 32)
def wordSrl (a : Word) (n : Nat) : Word := a >>> (n % 32)
def wordSra (a : Word) (n : Nat) : Word := a.sshiftRight (n % 32)
def mulHigh (a b : Int) : Word := BitVec.ofInt 32 (a * b / 2 ^ 32)
def signed16 (imm : BitVec 16) : Word := imm.signExtend 32
def zero16 (imm : BitVec 16) : Word := imm.setWidth 32

def execAdd (i : Nat) (rd ra rb : BitVec 5) (s : State) : Host.Outcome State Fault Refusal := s.opA i rd ra rb (· + ·)
def execSub (i : Nat) (rd ra rb : BitVec 5) (s : State) : Host.Outcome State Fault Refusal := s.opA i rd ra rb (· - ·)
def execAnd (i : Nat) (rd ra rb : BitVec 5) (s : State) : Host.Outcome State Fault Refusal := s.opA i rd ra rb (· &&& ·)
def execOr (i : Nat) (rd ra rb : BitVec 5) (s : State) : Host.Outcome State Fault Refusal := s.opA i rd ra rb (· ||| ·)
def execXor (i : Nat) (rd ra rb : BitVec 5) (s : State) : Host.Outcome State Fault Refusal := s.opA i rd ra rb (· ^^^ ·)
def execSll (i : Nat) (rd ra rb : BitVec 5) (s : State) : Host.Outcome State Fault Refusal := s.opA i rd ra rb (fun a b => wordSll a b.toNat)
def execSrl (i : Nat) (rd ra rb : BitVec 5) (s : State) : Host.Outcome State Fault Refusal := s.opA i rd ra rb (fun a b => wordSrl a b.toNat)
def execSra (i : Nat) (rd ra rb : BitVec 5) (s : State) : Host.Outcome State Fault Refusal := s.opA i rd ra rb (fun a b => wordSra a b.toNat)
def execSlt (i : Nat) (rd ra rb : BitVec 5) (s : State) : Host.Outcome State Fault Refusal := s.opA i rd ra rb wordLt
def execSltu (i : Nat) (rd ra rb : BitVec 5) (s : State) : Host.Outcome State Fault Refusal := s.opA i rd ra rb wordLtu
def execMul (i : Nat) (rd ra rb : BitVec 5) (s : State) : Host.Outcome State Fault Refusal := s.opA i rd ra rb (· * ·)
def execMulh (i : Nat) (rd ra rb : BitVec 5) (s : State) : Host.Outcome State Fault Refusal :=
  s.opA i rd ra rb (fun a b => mulHigh a.toInt b.toInt)
def execMulhu (i : Nat) (rd ra rb : BitVec 5) (s : State) : Host.Outcome State Fault Refusal :=
  s.opA i rd ra rb (fun a b => mulHigh a.toNat b.toNat)
def execMin (i : Nat) (rd ra rb : BitVec 5) (s : State) : Host.Outcome State Fault Refusal :=
  s.opA i rd ra rb (fun a b => if a.toInt < b.toInt then a else b)
def execMax (i : Nat) (rd ra rb : BitVec 5) (s : State) : Host.Outcome State Fault Refusal :=
  s.opA i rd ra rb (fun a b => if a.toInt < b.toInt then b else a)

def execAddi (i : Nat) (rd ra : BitVec 5) (imm : BitVec 16) (s : State) : Host.Outcome State Fault Refusal := s.opB i rd ra (· + signed16 imm)
def execAndi (i : Nat) (rd ra : BitVec 5) (imm : BitVec 16) (s : State) : Host.Outcome State Fault Refusal := s.opB i rd ra (· &&& zero16 imm)
def execOri (i : Nat) (rd ra : BitVec 5) (imm : BitVec 16) (s : State) : Host.Outcome State Fault Refusal := s.opB i rd ra (· ||| zero16 imm)
def execXori (i : Nat) (rd ra : BitVec 5) (imm : BitVec 16) (s : State) : Host.Outcome State Fault Refusal := s.opB i rd ra (· ^^^ zero16 imm)
def execSlti (i : Nat) (rd ra : BitVec 5) (imm : BitVec 16) (s : State) : Host.Outcome State Fault Refusal :=
  s.opB i rd ra (fun a => wordLt a (signed16 imm))
def execSltiu (i : Nat) (rd ra : BitVec 5) (imm : BitVec 16) (s : State) : Host.Outcome State Fault Refusal :=
  s.opB i rd ra (fun a => wordLtu a (signed16 imm))

/-- A shift by an immediate: a count above 31 is ILLEGAL (R187). -/
def State.shiftImm (s : State) (i : Nat) (op : BitVec 6) (rd ra : BitVec 5) (imm : BitVec 16) (f : Word → Nat → Word) :
    Host.Outcome State Fault Refusal :=
  s.issue i (fun t c => t.legal (imm.toNat < 32) (encB op rd ra imm) (t.with i (c.set rd (f (c.get ra) imm.toNat))))

def execSlli (i : Nat) (rd ra : BitVec 5) (imm : BitVec 16) (s : State) : Host.Outcome State Fault Refusal := s.shiftImm i 0x07 rd ra imm wordSll
def execSrli (i : Nat) (rd ra : BitVec 5) (imm : BitVec 16) (s : State) : Host.Outcome State Fault Refusal := s.shiftImm i 0x08 rd ra imm wordSrl
def execSrai (i : Nat) (rd ra : BitVec 5) (imm : BitVec 16) (s : State) : Host.Outcome State Fault Refusal := s.shiftImm i 0x09 rd ra imm wordSra

/-- LUI (R186): ra must be 0. -/
def execLui (i : Nat) (rd ra : BitVec 5) (imm : BitVec 16) (s : State) : Host.Outcome State Fault Refusal :=
  s.issue i (fun t c => t.legal (ra == 0) (encB 0x0A rd ra imm) (t.with i (c.set rd (imm ++ (0 : BitVec 16)))))

/-- Quotient, remainder and saturation of DVS (R187). -/
def divSigned (a b : Word) : Word × Word × Bool :=
  if b = 0 then (if a.toInt < 0 then 0x80000000 else 0x7FFFFFFF, a, true)
  else if a = 0x80000000 ∧ b = 0xFFFFFFFF then (0x7FFFFFFF, 0, true)
  else (BitVec.ofInt 32 (a.toInt.fdiv b.toInt), BitVec.ofInt 32 (a.toInt.fmod b.toInt), false)

/-- Quotient, remainder and saturation of DVU (R187). -/
def divUnsigned (a b : Word) : Word × Word × Bool :=
  if b = 0 then (0xFFFFFFFF, a, true) else (BitVec.ofNat 32 (a.toNat / b.toNat), BitVec.ofNat 32 (a.toNat % b.toNat), false)

/-- A division into a pair (R187): DSAT is sticky. -/
def State.divide (s : State) (i : Nat) (func : BitVec 11) (rd ra rb : BitVec 5) (f : Word → Word → Word × Word × Bool) :
    Host.Outcome State Fault Refusal :=
  s.issue i (fun t c =>
    let r := f (c.get ra) (c.get rb)
    let c1 := c.setPair rd r.1 r.2.1
    t.legal (pairOk rd) (encA 0 rd ra rb func) (t.with i (if r.2.2 then c1.setSw swDSAT true else c1)))

def execDvs (i : Nat) (rd ra rb : BitVec 5) (s : State) : Host.Outcome State Fault Refusal := s.divide i 0x00D rd ra rb divSigned
def execDvu (i : Nat) (rd ra rb : BitVec 5) (s : State) : Host.Outcome State Fault Refusal := s.divide i 0x00E rd ra rb divUnsigned

/-! ### Control flow (R182, R186, R188) -/

/-- Control goes to a target, where the core can fetch from it (R182). -/
def State.goTo (s : State) (target : Nat) (t : State) : Ends := if pcOk target then .next t target else .trap s 7 target

/-- The target of a displacement in words (R188). -/
def Core.target (c : Core) (disp : Int) : Nat := ofSigned 32 ((c.pc.toNat : Int) + 4 * disp)

/-- A compare branch (R188). -/
def State.branch (s : State) (i : Nat) (ra rb : BitVec 5) (disp : BitVec 16) (cond : Word → Word → Bool) : Host.Outcome State Fault Refusal :=
  s.issue i (fun t c =>
    if cond (c.get ra) (c.get rb) then t.goTo (c.target disp.toInt) (t.insBranch i true) else .next (t.insBranch i false) c.seq)

def execBeq (i : Nat) (ra rb : BitVec 5) (disp : BitVec 16) (s : State) : Host.Outcome State Fault Refusal :=
  s.branch i ra rb disp (fun a b => a == b)
def execBne (i : Nat) (ra rb : BitVec 5) (disp : BitVec 16) (s : State) : Host.Outcome State Fault Refusal :=
  s.branch i ra rb disp (fun a b => a != b)
def execBlt (i : Nat) (ra rb : BitVec 5) (disp : BitVec 16) (s : State) : Host.Outcome State Fault Refusal :=
  s.branch i ra rb disp (fun a b => decide (a.toInt < b.toInt))
def execBge (i : Nat) (ra rb : BitVec 5) (disp : BitVec 16) (s : State) : Host.Outcome State Fault Refusal :=
  s.branch i ra rb disp (fun a b => decide (b.toInt ≤ a.toInt))
def execBltu (i : Nat) (ra rb : BitVec 5) (disp : BitVec 16) (s : State) : Host.Outcome State Fault Refusal :=
  s.branch i ra rb disp (fun a b => decide (a.toNat < b.toNat))
def execBgeu (i : Nat) (ra rb : BitVec 5) (disp : BitVec 16) (s : State) : Host.Outcome State Fault Refusal :=
  s.branch i ra rb disp (fun a b => decide (b.toNat ≤ a.toNat))

/-- The address after the instruction, as a link. -/
def Core.link (c : Core) : Word := BitVec.ofNat 32 c.seq

/-- JAL (R188). -/
def execJal (i : Nat) (rd : BitVec 5) (disp : BitVec 21) (s : State) : Host.Outcome State Fault Refusal :=
  s.issue i (fun t c => t.goTo (c.target disp.toInt) (t.modCore i (fun x => x.set rd c.link)))

/-- JALR (R186): the target is read before the link is written; rb must be 0. -/
def execJalr (i : Nat) (rd ra rb : BitVec 5) (s : State) : Host.Outcome State Fault Refusal :=
  s.issue i (fun t c =>
    let target := (c.get ra).toNat
    t.legal (rb == 0) (encA 0 rd ra rb 0x013) (t.goTo target ((t.modCore i (fun x => x.set rd c.link)).insTarget i 1 0 target)))

/-! ### System registers and modes (R179, R180, R210) -/

/-- A core's CYCLES and INSTRET (R179). -/
def State.coreCyclesOf (s : State) (c : Core) : Nat := (s.coreCycles.toNat + 2 ^ 64 - c.cycles0 % 2 ^ 64) % 2 ^ 64

/-- COREID (R179). -/
def Core.coreid (c : Core) (i : Nat) : Nat := i + 32 * (isLoop i).toNat + 64 * (c.swOn swMAPPED).toNat

/-- User mode may read the counters of core i (R407). -/
def State.userCounts (s : State) (i : Nat) : Bool := bit (s.word .OBS_UACC 0 0) i

/-- A read of a system register (R179), with the core after it; none where the table permits no such read. -/
def State.sysRead (s : State) (i : Nat) (c : Core) (n : Nat) : Option (Word × Core) :=
  let sys := c.swOn swSYS
  let counts := sys || s.userCounts i
  let only := fun (v : Word) => if sys then some (v, c) else none
  let high := fun (v : Nat) => BitVec.ofNat 32 (v / 2 ^ 32)
  match n with
  | 0x00 => some (c.sw, c)
  | 0x01 => only c.epc
  | 0x02 => only c.ecause
  | 0x03 => only c.eval
  | 0x04 => only c.vbase
  | 0x05 => some (BitVec.ofNat 32 (c.coreid i), c)
  | 0x06 => only c.pwin
  | 0x08 => only c.scratch0
  | 0x09 => only c.scratch1
  | 0x10 => if counts then some (BitVec.ofNat 32 (s.coreCyclesOf c), { c with cycHi := some (high (s.coreCyclesOf c)) }) else none
  | 0x11 => if counts then some (c.cycHi.getD (high (s.coreCyclesOf c)), { c with cycHi := none }) else none
  | 0x12 => if counts then some (BitVec.ofNat 32 c.instret, { c with insHi := some (high c.instret) }) else none
  | 0x13 => if counts then some (c.insHi.getD (high c.instret), { c with insHi := none }) else none
  | _ => none

/-- The bits of SW that MTS writes: all that are RW, VOV on loop cores only (R177). -/
def swMask (i : Nat) : Word := if isLoop i then 0xF8D00000 else 0xF8500000

/-- A write of a system register in system mode (R179); none where the table permits none. -/
def State.sysWrite (s : State) (i : Nat) (c : Core) (n : Nat) (v : Word) : Option Core :=
  match n with
  | 0x00 => some { c with sw := (c.sw &&& ~~~(swMask i)) ||| (v &&& swMask i) }
  | 0x01 => some { c with epc := v }
  | 0x02 => some { c with ecause := v }
  | 0x03 => some { c with eval := v }
  | 0x04 => some { c with vbase := 0xE0000000 ||| (v &&& 0x3FF00) }
  | 0x06 => some { c with pwin := v &&& 0x7F }
  | 0x07 => some { c with kick := s.now }
  | 0x08 => some { c with scratch0 := v }
  | 0x09 => some { c with scratch1 := v }
  | _ => none

/-- MFS (R179): rb is the register number; ra must be 0. -/
def execMfs (i : Nat) (rd ra rb : BitVec 5) (s : State) : Host.Outcome State Fault Refusal :=
  s.issue i (fun t c =>
    let word := encA 0 rd ra rb 0x020
    t.legal (ra == 0) word
      (match t.sysRead i c rb.toNat with
       | some (v, c1) => t.with i (c1.set rd v)
       | none => .trap t (if c.swOn swSYS then 1 else 2) word.toNat))

/-- MTS (R179, R180): rb is the register number; rd must be 0. -/
def execMts (i : Nat) (rd ra rb : BitVec 5) (s : State) : Host.Outcome State Fault Refusal :=
  s.issue i (fun t c =>
    let word := encA 0 rd ra rb 0x021
    t.legal (rd == 0) word (t.priv c word
      (match t.sysWrite i c rb.toNat (c.get ra) with
       | some c1 => t.with i c1
       | none => .trap t 1 word.toNat)))

/-- ERET (R210): every register field must be 0. -/
def execEret (i : Nat) (rd ra rb : BitVec 5) (s : State) : Host.Outcome State Fault Refusal :=
  s.issue i (fun t c =>
    let word := encA 0 rd ra rb 0x022
    let c1 := ((c.setSw swSYS (c.swOn swPSYS)).setSw swIE (c.swOn swPIE)).setSw swINFAULT false
    t.legal (rd == 0 && ra == 0 && rb == 0) word (t.priv c word
      (t.goTo c.epc.toNat ((t.modCore i (fun _ => c1)).insTarget i 1 0 c.epc.toNat))))

/-- The error of an answered store is reported (R189): BUS_ERROR with EPC at the next instruction. -/
def State.storeFault (s : State) (i a : Nat) : State :=
  (s.modCore i (fun c => { c with storeErr := none })).coreFault i (s.coreOf i).pc.toNat 5 a

/-- FENCE (R183): every register field must be 0.  Once it completes every store has been answered, so an error is reported at the next
instruction (R189). -/
def execFence (i : Nat) (rd ra rb : BitVec 5) (s : State) : Host.Outcome State Fault Refusal :=
  s.issue i (fun t c =>
    t.legal (rd == 0 && ra == 0 && rb == 0) (encA 0 rd ra rb 0x023)
      (match c.storeErr with
       | none => .next t c.seq
       | some a => if pcOk c.seq then .fin ((t.retire i c.seq).storeFault i a) else .next t c.seq))

/-- STORE_ERROR (R189, R198): the answer to a store at a has come with an error; the core takes it at the next instruction it issues, which a
wait in progress is again. -/
def execStoreError (i a : Nat) (s : State) : Host.Outcome State Fault Refusal :=
  if s.coreLive i then done (s.storeFault i ((s.coreOf i).storeErr.getD (a % 2 ^ 32))) else .next s

/-- SAMPLE_INTERRUPT (R198, R209, R411): taken between two instructions, ending a wait, while IE is 1 and INFAULT is 0; PEND clears. -/
def execSampleInterrupt (i : Nat) (s : State) : Host.Outcome State Fault Refusal :=
  let c := s.coreOf i
  if s.coreLive i && s.on (F.OBS_SAMP_INFO_PEND i) && c.swOn swIE && !c.swOn swINFAULT then
    done ((s.p (F.OBS_SAMP_INFO_PEND i) 0).enterHandler i c.pc.toNat 0x10 0 0x40)
  else .next s

/-! ### Loads and stores (R180, R181, R189) -/

/-- The device address of an effective address, and whether it is the core's own local memory (R181); none is an UNMAPPED fault. -/
def State.eaMap (s : State) (i : Nat) (pwin : Nat) (ea : Nat) (write : Bool) : Option (Nat × Bool) :=
  if ea < 0x04000000 then some (ea, false)
  else if sharedBase ≤ ea && ea < sharedBase + 0x200000 then some (ea, false)
  else if quireBase ≤ ea && ea < quireBase + 0x10000 * s.granules then some (ea, false)
  else if tableBase ≤ ea && ea < tableBase + 0x100000 then some (ea, false)
  else if mirrorBase ≤ ea && ea < mirrorBase + 0x10000 then (if write then none else some (ea, false))
  else if 0xD0000000 ≤ ea && ea < 0xE0000000 then
    let a := pageBase + pwin * 0x10000000 + (ea - 0xD0000000)
    if a < pageBase + s.pageSize then some (a, false) else none
  else if ownBase ≤ ea && ea < ownBase + ownSize then some (localOf i + (ea - ownBase), true)
  else if 0xF0000000 ≤ ea then
    let k := (ea - 0xF0000000) / 0x100000
    if k < 24 && s.hasCore k && (ea - 0xF0000000) % 0x100000 < 0x40000 then some (localBase + (ea - 0xF0000000), k == i) else none
  else none

/-- The addresses that user mode reaches (R180): the core's own local memory, by either of its windows, and ring memory. -/
def eaOpen (i ea : Nat) : Bool :=
  (ownBase ≤ ea && ea < ownBase + ownSize) || (0xF0000000 + 0x100000 * i ≤ ea && ea < 0xF0000000 + 0x100000 * i + ownSize)
    || (ringMemBase ≤ ea && ea < ringMemBase + ringMemSize)

/-- The judgement of an access of n bytes: PRIV, ALIGN, UNMAPPED, or the device address (R180, R181, R189; their order: log 49). -/
def State.eaJudge (s : State) (i : Nat) (c : Core) (word : Word) (ea n align : Nat) (write : Bool) : Except (State × Nat × Nat) (Nat × Bool) :=
  if !c.swOn swSYS && !(eaOpen i ea && eaOpen i (ea + n - 1)) then .error (s, 2, word.toNat)
  else if ea % align ≠ 0 then .error (s, 3, ea)
  else
    match s.eaMap i c.pwin.toNat ea write, s.eaMap i c.pwin.toNat (ea + n - 1) write with
    | some (a, own), some (b, _) => if b = a + (n - 1) then .ok (a, own) else .error (s, 4, ea)
    | _, _ => .error (s, 4, ea)

/-- A word whose data its memory marks uncorrectable. -/
def State.mark (s : State) (a : Nat) : State := if s.poison.contains (a / 4 * 4) then s else { s with poison := (a / 4 * 4) :: s.poison }

/-- A read of w bytes by core i: ECC_LOCAL in its own local memory, BUS_ERROR on an error answer (R189, R207). -/
def State.coreRead (s : State) (i a w ea : Nat) (own : Bool) : Except (State × Nat × Nat) (Nat × State) :=
  if own then (if s.poisoned a w then .error (s, 6, ea) else .ok (s.rd a w, s))
  else
    let x := s.busRead (.core i) a w
    if x.err then .error (x.st, 5, ea) else .ok (x.val, x.st)

/-- A write of w bytes by core i: an error answer is kept until it is reported (R189). -/
def State.coreWrite (s : State) (i a w v ea : Nat) (own : Bool) : State :=
  if own then s.store a w v
  else
    let x := s.busWrite (.core i) a w v
    if x.err then x.st.modCore i (fun c => { c with storeErr := some (c.storeErr.getD ea) }) else x.st

/-- bad: the memory finds the data of this read uncorrectable (R189, R207, R410); a register's word has no such mark. -/
def State.badData (s : State) (a : Nat) (bad : Bool) : State :=
  if bad && !(s.place a).isControl then (if pageBase ≤ a then s.mark a else (s.mark a).fixed 5) else s

/-- The effective address of a format-B access. -/
def Core.ea (c : Core) (ra : BitVec 5) (imm : BitVec 16) : Nat := (c.get ra + signed16 imm).toNat

/-- A load of w bytes (R189): put places what was read. -/
def State.load (s : State) (i : Nat) (op : BitVec 6) (rd ra : BitVec 5) (imm : BitVec 16) (bad : Bool) (w : Nat) (ok : Bool)
    (put : Core → Nat → Core) : Host.Outcome State Fault Refusal :=
  s.issue i (fun t c =>
    let word := encB op rd ra imm
    let ea := c.ea ra imm
    t.legal ok word
      (match t.eaJudge i c word ea w w false with
       | .error e => .trap e.1 e.2.1 e.2.2
       | .ok x =>
         match (t.badData x.1 bad).coreRead i x.1 w ea x.2 with
         | .error e => .trap e.1 e.2.1 e.2.2
         | .ok r => .next (r.2.modCore i (fun k => put k r.1)) c.seq))

/-- A store of w bytes (R189). -/
def State.storeOp (s : State) (i : Nat) (op : BitVec 6) (rd ra : BitVec 5) (imm : BitVec 16) (w : Nat) (ok : Bool) (v : Core → Nat) :
    Host.Outcome State Fault Refusal :=
  s.issue i (fun t c =>
    let word := encB op rd ra imm
    let ea := c.ea ra imm
    t.legal ok word
      (match t.eaJudge i c word ea w w true with
       | .error e => .trap e.1 e.2.1 e.2.2
       | .ok x => .next (t.coreWrite i x.1 w (v c) ea x.2) c.seq))

def execLw (i : Nat) (rd ra : BitVec 5) (imm : BitVec 16) (bad : Bool) (s : State) : Host.Outcome State Fault Refusal :=
  s.load i 0x10 rd ra imm bad 4 true (fun c v => c.set rd (BitVec.ofNat 32 v))
def execLh (i : Nat) (rd ra : BitVec 5) (imm : BitVec 16) (bad : Bool) (s : State) : Host.Outcome State Fault Refusal :=
  s.load i 0x11 rd ra imm bad 2 true (fun c v => c.set rd (BitVec.ofInt 32 (toSigned 16 v)))
def execLhu (i : Nat) (rd ra : BitVec 5) (imm : BitVec 16) (bad : Bool) (s : State) : Host.Outcome State Fault Refusal :=
  s.load i 0x12 rd ra imm bad 2 true (fun c v => c.set rd (BitVec.ofNat 32 (v % 2 ^ 16)))
def execLb (i : Nat) (rd ra : BitVec 5) (imm : BitVec 16) (bad : Bool) (s : State) : Host.Outcome State Fault Refusal :=
  s.load i 0x13 rd ra imm bad 1 true (fun c v => c.set rd (BitVec.ofInt 32 (toSigned 8 v)))
def execLbu (i : Nat) (rd ra : BitVec 5) (imm : BitVec 16) (bad : Bool) (s : State) : Host.Outcome State Fault Refusal :=
  s.load i 0x14 rd ra imm bad 1 true (fun c v => c.set rd (BitVec.ofNat 32 (v % 2 ^ 8)))
def execLd (i : Nat) (rd ra : BitVec 5) (imm : BitVec 16) (bad : Bool) (s : State) : Host.Outcome State Fault Refusal :=
  s.load i 0x1B rd ra imm bad 8 (pairOk rd) (fun c v => c.setPair rd (BitVec.ofNat 32 v) (BitVec.ofNat 32 (v / 2 ^ 32)))
def execSw (i : Nat) (rd ra : BitVec 5) (imm : BitVec 16) (s : State) : Host.Outcome State Fault Refusal :=
  s.storeOp i 0x18 rd ra imm 4 true (fun c => (c.get rd).toNat)
def execSh (i : Nat) (rd ra : BitVec 5) (imm : BitVec 16) (s : State) : Host.Outcome State Fault Refusal :=
  s.storeOp i 0x19 rd ra imm 2 true (fun c => (c.get rd).toNat % 2 ^ 16)
def execSb (i : Nat) (rd ra : BitVec 5) (imm : BitVec 16) (s : State) : Host.Outcome State Fault Refusal :=
  s.storeOp i 0x1A rd ra imm 1 true (fun c => (c.get rd).toNat % 2 ^ 8)
def execSd (i : Nat) (rd ra : BitVec 5) (imm : BitVec 16) (s : State) : Host.Outcome State Fault Refusal :=
  s.storeOp i 0x1C rd ra imm 8 (pairOk rd) (fun c => c.pair rd)

/-! ### Timeline instructions (R190 to R198) -/

/-- An identifier of an actuator: a pad or a PWM slice (R192). -/
def actuatorOk (id : Nat) : Bool := ridClass id == 1 || ridClass id == 2

/-- AT (R192). -/
def execAt (i : Nat) (rt rs : BitVec 5) (imm : BitVec 16) (s : State) : Host.Outcome State Fault Refusal :=
  s.issue i (fun t c =>
    t.legal (pairOk rt && actuatorOk imm.toNat) (encB 0x30 rt rs imm)
      (.next (t.postEvent (.core i) imm.toNat (c.pair rt) (c.get rs).toNat) c.seq))

/-- EMIT (R193): rt must be 0. -/
def execEmit (i : Nat) (rt rs : BitVec 5) (imm : BitVec 16) (s : State) : Host.Outcome State Fault Refusal :=
  s.issue i (fun t c =>
    t.legal (rt == 0 && actuatorOk imm.toNat) (encB 0x34 rt rs imm) (.next (t.emitTo (.core i) imm.toNat (c.get rs).toNat) c.seq))

/-- SNAP (R191): rs and imm16 must be 0. -/
def execSnap (i : Nat) (rt rs : BitVec 5) (imm : BitVec 16) (s : State) : Host.Outcome State Fault Refusal :=
  s.issue i (fun t c =>
    let r := (t.slip i).follower
    t.legal (pairOk rt && rs == 0 && imm == 0) (encB 0x33 rt rs imm)
      (.next (r.2.modCore i (fun k => k.setPair rt (BitVec.ofNat 32 r.1) (BitVec.ofNat 32 (r.1 / 2 ^ 32)))) c.seq))

/-- WAITC (R191): rs and imm16 must be 0. -/
def execWaitc (i : Nat) (rt rs : BitVec 5) (imm : BitVec 16) (s : State) : Host.Outcome State Fault Refusal :=
  s.issue i (fun t c =>
    let r := (t.slip i).follower
    t.legal (pairOk rt && rs == 0 && imm == 0) (encB 0x31 rt rs imm)
      (if c.pair rt ≤ r.1 then .next r.2 c.seq else .wait r.2 (.cord (c.pair rt))))

/-- WAITC_COMPLETE (R191): the follower reads the awaited time or more. -/
def execWaitcComplete (i : Nat) (s : State) : Host.Outcome State Fault Refusal :=
  match (s.coreOf i).wait with
  | some (.cord t) =>
    let r := s.follower
    if s.coreLive i && t ≤ r.1 then done (r.2.conclude i (.next r.2 (s.coreOf i).seq)) else .next s
  | _ => .next s

/-- An edge source exists (R195). -/
def State.edgeExists (s : State) (src : Nat) : Bool :=
  if src < 32 then !s.padNC (snsPad src) else src < 64 && s.on (F.TCE_EDGESEL_EN (src - 32))

/-- The earliest of some stamps that lies in a window, both limits included (R194). -/
def earliestIn (a b : Nat) : List Nat → Option Nat
  | [] => none
  | t :: l =>
    match earliestIn a b l with
    | none => if a ≤ t && t ≤ b then some t else none
    | some u => if a ≤ t && t ≤ b && t < u then some t else some u

/-- The place of a source's stamps of one polarity. -/
def edgeSlot (src : Nat) (falling : Bool) : Nat := 2 * src + falling.toNat

/-- WEDGE falls through with its stamp (R194). -/
def State.wedgeHit (s : State) (i : Nat) (rs : BitVec 5) (stamp : Nat) (pc : Nat) : Ends :=
  .next (s.modCore i (fun k => k.setPair rs (BitVec.ofNat 32 stamp) (BitVec.ofNat 32 (stamp / 2 ^ 32)))) pc

/-- WEDGE (R194, R195): the quad rt is a multiple of 4. -/
def execWedge (i : Nat) (rt rs : BitVec 5) (imm : BitVec 16) (s : State) : Host.Outcome State Fault Refusal :=
  s.issue i (fun t0 c =>
    let src := bits imm.toNat 15 10
    let falling := bit imm.toNat 9
    let disp := toSigned 9 imm.toNat
    let a := c.pair rt
    let b := c.pair (rt + 2)
    let t := t0.slip i
    let r := t.follower
    t0.legal (rt != 0 && rt.toNat % 4 == 0 && pairOk rs) (encB 0x32 rt rs imm)
      (if !t.edgeExists src || b < a then t0.goTo (c.target disp) t
       else
         match earliestIn a b (vget t.edges (edgeSlot src falling)) with
         | some x => t.wedgeHit i rs x c.seq
         | none => if b + 4 < r.1 then t0.goTo (c.target disp) r.2 else .wait r.2 (.edge a b src falling rs.toNat disp)))

/-- The pad of an edge source (R195). -/
def State.edgePad (s : State) (src : Nat) : Nat := if src < 32 then snsPad src else ridIndex (s.g (F.TCE_EDGESEL_RID (src - 32)))

/-- A new stamp completes the WEDGE a core waits in, where it qualifies (R194). -/
def State.edgeFor (s : State) (i src : Nat) (falling : Bool) (t : Nat) : State :=
  match (s.coreOf i).wait with
  | some (.edge a b src' f' rs _) =>
    if src' = src && f' == falling && a ≤ t && t ≤ b then s.conclude i (s.wedgeHit i (BitVec.ofNat 5 rs) t (s.coreOf i).seq) else s
  | _ => s

/-- WEDGE_EDGE (R20, R194): an edge of a source is stamped in this tick; its pad takes the level, and waiting WEDGEs see the stamp. -/
def execWedgeEdge (src : Nat) (falling : Bool) (s : State) : Host.Outcome State Fault Refusal :=
  if s.edgeExists src then
    let s0 := { s with edges := vmod s.edges (edgeSlot src falling) (fun l => (s.now :: l).take 4) }
    let s1 := if src < 32 then s0.sensorLevel src (!falling) else { s0 with padIns := Cells.put 0 (s.edgePad src) (!falling).toNat s.padIns }
    done (forRange 0 24 (fun i a => a.edgeFor i src falling s.now) s1)
  else .next s

/-- WEDGE_TIMEOUT (R194): the follower exceeds the closing time by more than 4 ticks. -/
def execWedgeTimeout (i : Nat) (s : State) : Host.Outcome State Fault Refusal :=
  match (s.coreOf i).wait with
  | some (.edge _ b _ _ _ disp) =>
    let r := s.follower
    if s.coreLive i && b + 4 < r.1 then done (r.2.conclude i (r.2.goTo ((s.coreOf i).target disp) r.2)) else .next s
  | _ => .next s

/-- The class-A fault of R28 or R29 for a core's ring access. -/
def State.ringDenied (s : State) (i r : Nat) (push : Bool) : Bool := !s.ringEn r || (if push then s.ringProd r else s.ringCons r) != ⟨3, i⟩

/-- n bytes of core i's own local memory at an effective address, by either of its windows (R181, R196); none for any other memory. -/
def ownLocal (i ea n : Nat) : Option Nat :=
  let b := 0xF0000000 + 0x100000 * i
  if ownBase ≤ ea && ea + n ≤ ownBase + ownSize then some (localOf i + (ea - ownBase))
  else if b ≤ ea && ea + n ≤ b + ownSize then some (localOf i + (ea - b)) else none

/-- RPUSH has room, or RPOP an entry (R196). -/
def State.ringReady (s : State) (r : Nat) (push : Bool) : Bool := if push then !s.ringFull r else !s.ringEmpty r

/-- The copy of RPUSH or RPOP, the move of the pointer, and 1 in rt (R196). -/
def State.ringCopy (s : State) (i : Nat) (rt : BitVec 5) (ea r : Nat) (push : Bool) (pc : Nat) : Ends :=
  let n := s.ringEsize r
  let a := (ownLocal i ea n).getD 0
  let one := fun (c : Core) => c.set rt 1
  if push then
    if s.poisoned a n then .trap s 6 ea else .next ((s.ringPutC r (s.rdBytes a n)).modCore i one) pc
  else
    let e := s.ringAddr r (s.qhead r)
    if s.poisoned e n then .trap s 5 ea else .next (((s.store a n (s.rd e n)).ringPop r).modCore i one) pc

/-- RPUSH and RPOP (R196): imm16 is WAIT in [15] and the ring in [6:0]. -/
def State.ringOp (s : State) (i : Nat) (op : BitVec 6) (rt rs : BitVec 5) (imm : BitVec 16) (push : Bool) : Host.Outcome State Fault Refusal :=
  s.issue i (fun t c =>
    let r := bits imm.toNat 6 0
    let ea := (c.get rs).toNat
    let zero := fun (u : State) => Ends.next (u.modCore i (fun k => k.set rt 0)) c.seq
    t.legal (bits imm.toNat 14 7 == 0) (encB op rt rs imm)
      (if ea % 16 ≠ 0 then .trap t 3 ea
       else if (ownLocal i ea (t.ringEsize r)).isNone then .trap t 4 ea
       else if t.ringDenied i r push then zero (t.ringRefused (.core i))
       else if t.ringReady r push then t.ringCopy i rt ea r push c.seq
       else
         let u := if push then t.count 0x11 r 1 else t
         if bit imm.toNat 15 then .wait u (if push then .push rt.toNat ea r else .pop rt.toNat ea r) else zero u))

def execRpush (i : Nat) (rt rs : BitVec 5) (imm : BitVec 16) (s : State) : Host.Outcome State Fault Refusal := s.ringOp i 0x35 rt rs imm true
def execRpop (i : Nat) (rt rs : BitVec 5) (imm : BitVec 16) (s : State) : Host.Outcome State Fault Refusal := s.ringOp i 0x36 rt rs imm false

/-- A waiting RPUSH or RPOP looks at its ring again: it proceeds, is refused where the ring is the core's no longer, or goes on waiting. -/
def State.ringRetry (s : State) (i : Nat) (rt : BitVec 5) (ea r : Nat) (push : Bool) : State :=
  let pc := (s.coreOf i).seq
  if s.ringDenied i r push then s.conclude i (.next ((s.ringRefused (.core i)).modCore i (fun k => k.set rt 0)) pc)
  else if s.ringReady r push then s.conclude i (s.ringCopy i rt ea r push pc)
  else s

/-- RING_WAIT_COMPLETE (R196). -/
def execRingWaitComplete (i : Nat) (s : State) : Host.Outcome State Fault Refusal :=
  if s.coreLive i then
    match (s.coreOf i).wait with
    | some (.push rt ea r) => done (s.ringRetry i (BitVec.ofNat 5 rt) ea r true)
    | some (.pop rt ea r) => done (s.ringRetry i (BitVec.ofNat 5 rt) ea r false)
    | _ => .next s
  else .next s

/-- CLAIM and FREE (R180, R197): the identifier is imm16, or where that is 0 bits [15:0] of rs. -/
def State.claimOp (s : State) (i : Nat) (op : BitVec 6) (rt rs : BitVec 5) (imm : BitVec 16) (free : Bool) : Host.Outcome State Fault Refusal :=
  s.issue i (fun t c =>
    let word := encB op rt rs imm
    let rid := if imm = 0 then (c.get rs).toNat % 65536 else imm.toNat
    t.legal (imm == 0 || rs == 0) word (t.priv c word
      (let r := t.judgeClaim (.core i) rid free
       .next (r.1.modCore i (fun k => k.set rt (if r.2 then 1 else 0))) c.seq)))

def execClaim (i : Nat) (rt rs : BitVec 5) (imm : BitVec 16) (s : State) : Host.Outcome State Fault Refusal := s.claimOp i 0x37 rt rs imm false
def execFree (i : Nat) (rt rs : BitVec 5) (imm : BitVec 16) (s : State) : Host.Outcome State Fault Refusal := s.claimOp i 0x38 rt rs imm true

end Sys2Proof.Machine
end

