-- ==== Sys2Proof/Machine/GotumVec.lean ====
section
/-! DEFINITION. The vector instructions of the loop cores (R199 to R206): block floating point. -/

namespace Sys2Proof.Machine

/-! ### Rounding and saturation (R200) -/

/-- A right shift by n that rounds to nearest, ties away from zero. -/
def roundShift (x : Int) (n : Nat) : Int :=
  if n = 0 then x
  else if x < 0 then -(((-x) + 2 ^ (n - 1)) / 2 ^ n)
  else (x + 2 ^ (n - 1)) / 2 ^ n

/-- A shift by s bits: left where s is positive, right with rounding where it is negative. -/
def scale (x s : Int) : Int := if 0 ≤ s then x * 2 ^ s.toNat else roundShift x (-s).toNat

/-- A result limited to ±m, with whether it saturated. -/
def saturate (m x : Int) : Int × Bool := if x < -m then (-m, true) else if m < x then (m, true) else (x, false)

/-- The limits of a mantissa and of an accumulator lane. -/
def satM (x : Int) : Int × Bool := saturate 32767 x
def satA (x : Int) : Int × Bool := saturate (2 ^ 39 - 1) x

/-- A mantissa aligned from exponent ex to exponent e. -/
def alignM (m : Int) (ex e : Nat) : Int × Bool := satM (scale m ((ex : Int) - e))

/-! ### Vector state (R199) -/

def Core.vreg (c : Core) (v : BitVec 4) : VReg := vget c.v v.toNat
def Core.acc (c : Core) (a : Nat) : AReg := vget c.a a
def VReg.lane (v : VReg) (i : Nat) : Int := (vget v.m i).toInt
def VReg.exp (v : VReg) : Nat := v.e.toNat
def AReg.lane (a : AReg) (i : Nat) : Int := (vget a.l i).toInt

/-- Eight lanes from a function of the lane. -/
def lanes {α : Type} (f : Nat → α) : Vector α 8 := Vector.ofFn (fun k => f k.val)

/-- A lane of the first n saturated. -/
def anyLane (n : Nat) (f : Nat → Bool) : Bool := (List.range n).any f

/-- Writes a vector register from its lanes and exponent; VOV is sticky (R200). -/
def Core.setV (c : Core) (v : BitVec 4) (f : Nat → Int) (e : BitVec 6) (vov : Bool) : Core :=
  let c1 := { c with v := vmod c.v v.toNat (fun _ => { m := lanes (fun k => BitVec.ofInt 16 (f k)), e := e }) }
  if vov then c1.setSw swVOV true else c1

/-- Writes an accumulator. -/
def Core.setA (c : Core) (a : Nat) (f : Nat → Int) (e : BitVec 6) (vov : Bool) : Core :=
  let c1 := { c with a := vmod c.a a (fun _ => { l := lanes (fun k => BitVec.ofInt 40 (f k)), e := e }) }
  if vov then c1.setSw swVOV true else c1

/-- A format-V instruction: on a timeline core, or where a constraint is broken, ILLEGAL (R176, R185). -/
def State.vecOp (s : State) (i : Nat) (word : Word) (ok : Bool) (f : Core → Core) : Host.Outcome State Fault Refusal :=
  s.issue i (fun t c => t.legal (isLoop i && ok) word (t.with i (f c)))

/-! ### Accumulators (R202, R203) -/

/-- BFCLR (R202): the accumulator is in [23:22], e in func[5:0]. -/
def execBfclr (i : Nat) (vd va vb : BitVec 4) (g : BitVec 5) (func : BitVec 9) (s : State) : Host.Outcome State Fault Refusal :=
  s.vecOp i (encV 0x28 vd va vb g func) (vd.toNat < 4 && va == 0 && vb == 0 && g == 0 && func.toNat < 64)
    (fun c => c.setA vd.toNat (fun _ => 0) (func.setWidth 6) false)

/-- A lane after BFMAC, with whether it saturated. -/
def macLane (a va vb : Int) (sh : Int) (neg : Bool) : Int × Bool :=
  let p := scale (va * vb) sh
  satA (if neg then a - p else a + p)

/-- BFMAC (R202): n - 1 in func[2:0], the broadcast lane in func[6:4] with BCAST in func[7], NEG in func[8]; func[3], and func[6:4] without
BCAST, must be 0. -/
def execBfmac (i : Nat) (vd va vb : BitVec 4) (g : BitVec 5) (func : BitVec 9) (s : State) : Host.Outcome State Fault Refusal :=
  let f := func.toNat
  let n := bits f 2 0 + 1
  s.vecOp i (encV 0x3B vd va vb g func) (vd.toNat < 4 && g == 0 && !bit f 3 && (bit f 7 || bits f 6 4 == 0))
    (fun c =>
      let a := c.acc vd.toNat
      let sh : Int := (c.vreg va).exp + (c.vreg vb).exp - a.e.toNat - 32
      let r := fun (k : Nat) => macLane (a.lane k) ((c.vreg va).lane k) ((c.vreg vb).lane (if bit f 7 then bits f 6 4 else k)) sh (bit f 8)
      c.setA vd.toNat (fun k => if k < n then (r k).1 else a.lane k) a.e (anyLane n (fun k => (r k).2)))

/-- A mantissa that BFNORM writes at exponent e, with whether it saturated (R203). -/
def normLane (a : AReg) (e k : Nat) : Int × Bool := satM (scale (a.lane k) ((a.e.toNat : Int) - e - 15))

/-- The least exponent of e, e + 1, … 63 at which no lane saturates, else 63 (R203). -/
def autoExp (a : AReg) : (fuel e : Nat) → Nat
  | 0, e => e
  | k + 1, e => if anyLane 8 (fun j => (normLane a e j).2) then autoExp a k (e + 1) else e

/-- BFNORM (R203): the accumulator in [19:18], AUTO in func[8], e in func[5:0]. -/
def execBfnorm (i : Nat) (vd va vb : BitVec 4) (g : BitVec 5) (func : BitVec 9) (s : State) : Host.Outcome State Fault Refusal :=
  let f := func.toNat
  s.vecOp i (encV 0x3C vd va vb g func) (va.toNat < 4 && vb == 0 && g == 0 && bits f 7 6 == 0)
    (fun c =>
      let a := c.acc va.toNat
      let e0 := bits f 5 0
      let e := if bit f 8 then autoExp a (63 - e0) e0 else e0
      c.setV vd (fun k => (normLane a e k).1) (BitVec.ofNat 6 e) (anyLane 8 (fun k => (normLane a e k).2)))

/-! ### SLEW and MINSEL (R204, R205) -/

/-- A lane after SLEW, with whether anything saturated (R204). -/
def slewLane (d va vb : Int) (ea eb e : Nat) : Int × Bool :=
  let target := alignM va ea e
  let step := alignM vb eb e
  let st := if step.1 < 0 then 0 else step.1
  let r := satM (d + clampI (-st) st (target.1 - d))
  (r.1, target.2 || step.2 || r.2)

/-- SLEW (R204): n - 1 in func[2:0]. -/
def execSlew (i : Nat) (vd va vb : BitVec 4) (g : BitVec 5) (func : BitVec 9) (s : State) : Host.Outcome State Fault Refusal :=
  let n := bits func.toNat 2 0 + 1
  s.vecOp i (encV 0x3D vd va vb g func) (g == 0 && func.toNat < 8)
    (fun c =>
      let d := c.vreg vd
      let r := fun (k : Nat) => slewLane (d.lane k) ((c.vreg va).lane k) ((c.vreg vb).lane k) (c.vreg va).exp (c.vreg vb).exp d.exp
      c.setV vd (fun k => if k < n then (r k).1 else d.lane k) d.e (anyLane n (fun k => (r k).2)))

/-- The lowest of the first n lanes, the lowest index on a tie. -/
def lowest (v : VReg) : (n : Nat) → Nat
  | 0 => 0
  | n + 1 => if v.lane n < v.lane (lowest v n) then n else lowest v n

/-- MINSEL (R205): n - 2 in func[1:0], gd in the g field. -/
def execMinsel (i : Nat) (vd va vb : BitVec 4) (g : BitVec 5) (func : BitVec 9) (s : State) : Host.Outcome State Fault Refusal :=
  let n := func.toNat + 2
  s.vecOp i (encV 0x3E vd va vb g func) (vb == 0 && func.toNat < 3)
    (fun c =>
      let a := c.vreg va
      let w := lowest a n
      let err := fun (k : Nat) => satM (a.lane w - a.lane k)
      (c.set g (BitVec.ofNat 32 w)).setV vd (fun k => if k < n then (err k).1 else if k = 4 then a.lane w else 0) a.e
        (anyLane n (fun k => (err k).2)))

/-! ### Vectors in memory (R199, R201) -/

/-- n bytes read in order by core i, in pieces of w bytes. -/
def State.readPieces (s : State) (i w : Nat) (own : Bool) : (count a ea : Nat) → Except (State × Nat × Nat) (Nat × State)
  | 0, _, _ => .ok (0, s)
  | k + 1, a, ea =>
    match s.coreRead i a w ea own with
    | .error e => .error e
    | .ok r =>
      match r.2.readPieces i w own k (a + w) (ea + w) with
      | .error e => .error e
      | .ok q => .ok (r.1 % 2 ^ (8 * w) + 2 ^ (8 * w) * q.1, q.2)

/-- The address of a vector: the base and a signed count of words (R201). -/
def Core.vecEa (c : Core) (ga : BitVec 5) (off : BitVec 14) : Nat := (c.get ga + (off.signExtend 32) * 4).toNat

/-- BFLD (R201): one access of the 20 bytes of a vector (R199); an exponent byte with [7:6] non-zero is ILLEGAL. -/
def execBfld (i : Nat) (vd : BitVec 4) (ga : BitVec 5) (n1 : BitVec 3) (off : BitVec 14) (bad : Bool) (s : State) :
    Host.Outcome State Fault Refusal :=
  s.issue i (fun t c =>
    let word := encM 0x39 vd ga n1 off
    let ea := c.vecEa ga off
    t.legal (isLoop i) word
      (match t.eaJudge i c word ea 20 4 false with
       | .error e => .trap e.1 e.2.1 e.2.2
       | .ok x =>
         match (t.badData x.1 bad).coreRead i x.1 20 ea x.2 with
         | .error e => .trap e.1 e.2.1 e.2.2
         | .ok r =>
           t.legal (bits r.1 135 134 == 0) word
             (.next (r.2.modCore i (fun k =>
               k.setV vd (fun j => if j ≤ n1.toNat then toSigned 16 (r.1 >>> (16 * j)) else 0) (BitVec.ofNat 6 (bits r.1 133 128)) false)) c.seq)))

/-- The mantissas of the first lanes of a vector, then its exponent byte, stored in a memory. -/
def State.writeLanes (s : State) (a : Nat) (v : VReg) : (n k : Nat) → State
  | 0, _ => s.store (a + 16) 1 v.exp
  | n + 1, k => (s.store (a + 2 * k) 2 (ofSigned 16 (v.lane k))).writeLanes a v n (k + 1)

/-- An access of n bytes by core i reaches a memory that takes vectors. -/
def State.takesVector (s : State) (i a n : Nat) : Bool :=
  match s.place a with
  | .shared p => !s.shwDenied (.core i) p && !s.shwDenied (.core i) (pageOf (a + n - 1))
  | .ram => true
  | .store => s.pageUp
  | _ => false

/-- The one access of BFST (R201): what its memory takes is the mantissas and byte 16 alone; where it takes none, the access is answered as any of 20 bytes
is. -/
def State.writeVector (s : State) (i a ea : Nat) (own : Bool) (v : VReg) (n : Nat) : State :=
  if own || s.takesVector i a 20 then
    let t := s.writeLanes a v n 0
    if s.place a = .store then t.bwMem true (a - pageBase) (2 * n + 1) else t
  else s.coreWrite i a 20 0 ea own

/-- BFST (R201). -/
def execBfst (i : Nat) (vd : BitVec 4) (ga : BitVec 5) (n1 : BitVec 3) (off : BitVec 14) (s : State) : Host.Outcome State Fault Refusal :=
  s.issue i (fun t c =>
    let word := encM 0x3A vd ga n1 off
    let ea := c.vecEa ga off
    t.legal (isLoop i) word
      (match t.eaJudge i c word ea 20 4 true with
       | .error e => .trap e.1 e.2.1 e.2.2
       | .ok x => .next (t.writeVector i x.1 ea x.2 (c.vreg vd) (n1.toNat + 1)) c.seq))

/-! ### TBL (R206) -/

/-- One entry of a table. -/
def State.tblEntry (s : State) (i : Nat) (own : Bool) (a ea k : Nat) : Except (State × Nat × Nat) (Int × State) :=
  match s.coreRead i (a + 8 + 2 * k) 2 (ea + 8 + 2 * k) own with
  | .error e => .error e
  | .ok r => .ok (toSigned 16 r.1, r.2)

/-- The interpolated value of one lane (R206 steps 1 to 5), with whether it saturated. -/
def State.tblLane (s : State) (i : Nat) (own : Bool) (a ea n : Nat) (wrap : Bool) (u : Nat) :
    Except (State × Nat × Nat) ((Int × Bool) × State) :=
  let x := u * (if wrap then n else n - 1)
  let k := x / 65536
  match s.tblEntry i own a ea k with
  | .error e => .error e
  | .ok p =>
    match p.2.tblEntry i own a ea (if wrap then (k + 1) % n else min (k + 1) (n - 1)) with
    | .error e => .error e
    | .ok q => .ok (satM (roundShift (p.1 * 65536 + (q.1 - p.1) * (x % 65536 : Nat)) 16), q.2)

/-- The lanes k, k + 1, … of a look-up. -/
def State.tblLanes (s : State) (i : Nat) (own : Bool) (a ea n : Nat) (wrap : Bool) (v : VReg) :
    (count k : Nat) → Except (State × Nat × Nat) (List Int × Bool × State)
  | 0, _ => .ok ([], false, s)
  | m + 1, k =>
    match s.tblLane i own a ea n wrap (ofSigned 16 (v.lane k)) with
    | .error e => .error e
    | .ok r =>
      match r.2.tblLanes i own a ea n wrap v m (k + 1) with
      | .error e => .error e
      | .ok q => .ok (r.1.1 :: q.1, r.1.2 || q.2.1, q.2.2)

/-- A table header is well formed (R206). -/
def tblHeaderOk (h : Nat) : Bool := bits h 63 24 == 0 && !bit h 23 && 2 ≤ bits h 15 0 && bits h 15 0 ≤ 1024

/-- TBL (R206): the table's address is in the general register that the g field names; n - 1 in func[2:0]. -/
def execTbl (i : Nat) (vd va vb : BitVec 4) (g : BitVec 5) (func : BitVec 9) (bad : Bool) (s : State) : Host.Outcome State Fault Refusal :=
  s.issue i (fun t c =>
    let word := encV 0x3F vd va vb g func
    let ea := (c.get g).toNat
    t.legal (isLoop i && vb == 0 && func.toNat < 8) word
      (match t.eaJudge i c word ea 8 4 false with
       | .error e => .trap e.1 e.2.1 e.2.2
       | .ok x =>
         match (t.badData x.1 bad).readPieces i 4 x.2 2 x.1 ea with
         | .error e => .trap e.1 e.2.1 e.2.2
         | .ok h =>
           let n := bits h.1 15 0
           if !tblHeaderOk h.1 then .trap t 1 ea
           else
             match h.2.eaJudge i c word ea (8 + 2 * n) 4 false with
             | .error e => .trap e.1 e.2.1 e.2.2
             | .ok _ =>
               match h.2.tblLanes i x.2 x.1 ea n (bit h.1 22) (c.vreg va) (func.toNat + 1) 0 with
               | .error e => .trap e.1 e.2.1 e.2.2
               | .ok r =>
                 .next (r.2.2.modCore i (fun k => k.setV vd (fun j => (r.1[j]?).getD 0) (BitVec.ofNat 6 (bits h.1 21 16)) r.2.1)) c.seq))

end Sys2Proof.Machine
end

