-- ==== Sys2Proof/Machine/Tick.lean ====
section
/-! DEFINITION. What one tick of the CTL clock does when no command waits (R17, R179, R409, R41; log 11). -/

namespace Sys2Proof.Machine

/-- SYN0 gives the CORE and CTL clocks: LOCKED, or holding over (R17, R282). -/
def State.clocked (s : State) : Bool := s.synState 0 == syLOCKED || s.synState 0 == syHOLD

/-- CORE cycles in a tick of 4 ns: four at 1.0 GHz, two at 500 MHz (R281, R286). -/
def State.coreRate (s : State) : Nat := if s.ga (F.SYN_DIV_CORE 0) = 0 then 4 else 2

/-- The CYCLE and WAIT events of a core in a tick (R409). -/
def State.coreTick (s : State) (i : Nat) : State :=
  if s.coreLive i then
    let s1 := s.count 0x01 i s.coreRate
    if s1.coreState i = csWAIT then s1.count 0x04 i s.coreRate else s1
  else s

/-- How long before a stroke's start its buffer is read, in 1/64 tick: from the outbound edge, half the crossing interval before the turn point, to the
first imaged pixel (R97, R106, R115, R120). -/
def State.readLead (s : State) (k : Nat) : Nat :=
  (s.st k).interval / 2 + s.ga (F.STR_WINDOW_WSTART k) * s.tEst k / 16384 + (s.genOf k false (s.tEst k)).leadTime

/-- A folio's side has still to begin on STRk and its first stroke's read-out deadline has come (R114). -/
def State.deadlineOver (s : State) (k : Nat) (f : Folio) : Bool :=
  f.inPath && f.armed.any (fun e =>
    (e.1 == .stroke k false && f.st == .sewn && !bit f.rectoDone k || e.1 == .stroke k true && f.st != .sewn && !bit f.versoDone k)
      && 64 * e.2 ≤ 64 * s.now + s.readLead k)

/-- Strokes assigned to folios reach their deadlines on a station that is not LOCKED, whether or not it sees edges: those folios are spoiled with 0x06 (R114). -/
def State.missedDeadlines (s : State) (k : Nat) : State :=
  if s.scan k = scLOCKED || s.on (F.STR_CTRL_CALRUN k) then s else s.spoilWhere (s.deadlineOver k) 6

/-- What the tick does in the ports and in OBS: carrier periods begin (R271), results become readable (R257, R413), permissions end (R398). -/
def State.portTick (s : State) : State := (forRange 0 8 (fun n a => a.eolTick n) (forRange 0 12 (fun k a => a.hvCarrier k) s)).publish.bwPublish

/-- One tick: cord time and CORE cycles while SYN0 gives their clocks, the AON clock always (log 35) but in SHELF (R324); strokes
that miss their deadlines (R114); the HV carriers and the port results; the cores' cycle counts; and the ROM goes from a
verified image to memory training (R41). -/
def State.tick (s : State) : State :=
  let s1 := { s with aon := if s.psq.asleep = 2 then s.aon else s.aon + 1, fired := [] }
  let s2 := if s1.clocked then
      let t := { s1 with cord := s1.cord + 1, coreCycles := s1.coreCycles + BitVec.ofNat 64 s1.coreRate }
      let u := (forRange 0 (t.blockCount .STR) (fun k a => a.missedDeadlines k) t).portTick
      if u.on F.OBS_CTRL_RUN then forRange 0 24 (fun i a => a.coreTick i) u else u
    else s1
  if s2.stage = bsVERIFIED then s2.setStage bsTRAIN else s2

end Sys2Proof.Machine
end

