-- ==== Sys2Proof/Machine/Dispatch.lean ====
section
/-! DEFINITION. The dispatcher: each command's meaning on everything but the queue. -/

namespace Sys2Proof.Machine

/-- The effect of a command on everything but the queue. -/
def exec (i : Instr) (s : State) : Host.Outcome State Fault Refusal :=
  match i with
  | .registerWrite q a w v => Sys2Proof.Machine.execRegisterWrite q a w v s
  | .pairLoRead q a => Sys2Proof.Machine.execPairLoRead q a s
  | .pairHiRead q a => Sys2Proof.Machine.execPairHiRead q a s
  | .pairLoWrite q a v => Sys2Proof.Machine.execPairLoWrite q a v s
  | .pairHiWrite q a v => Sys2Proof.Machine.execPairHiWrite q a v s
  | .unmapped q write a w v => Sys2Proof.Machine.execUnmapped q write a w v s
  | .cordSlip d => Sys2Proof.Machine.execCordSlip d s
  | .followerRestored d => Sys2Proof.Machine.execFollowerRestored d s
  | .actEventArrive q id t v => Sys2Proof.Machine.execActEventArrive q id t v s
  | .actEventFire id => Sys2Proof.Machine.execActEventFire id s
  | .qtailWrite q r v => Sys2Proof.Machine.execQtailWrite q r v s
  | .qheadWrite q r v => Sys2Proof.Machine.execQheadWrite q r v s
  | .qcfgWrite q r v => Sys2Proof.Machine.execQcfgWrite q r v s
  | .qbaseWrite q r v => Sys2Proof.Machine.execQbaseWrite q r v s
  | .pmxClaim q rid => Sys2Proof.Machine.execPmxClaim q rid s
  | .pmxFree q rid => Sys2Proof.Machine.execPmxFree q rid s
  | .commitGo q x => Sys2Proof.Machine.execCommitGo q x s
  | .shadowCopy x => Sys2Proof.Machine.execShadowCopy x s
  | .shadowCopyStopped x => Sys2Proof.Machine.execShadowCopyStopped x s
  | .powerOnReset => Sys2Proof.Machine.execPowerOnReset s
  | .warmReset => Sys2Proof.Machine.execWarmReset s
  | .wakeFromSleep => Sys2Proof.Machine.execWakeFromSleep s
  | .coreReset q key ix => Sys2Proof.Machine.execCoreReset q key ix s
  | .unitReset q b n => Sys2Proof.Machine.execUnitReset q b n s
  | .perst n => Sys2Proof.Machine.execPerst n s
  | .epochStale ix => Sys2Proof.Machine.execEpochStale ix s
  | .otpSenseDone vin => Sys2Proof.Machine.execOtpSenseDone vin s
  | .coreRailsGood => Sys2Proof.Machine.execCoreRailsGood s
  | .bootRomStart failed => Sys2Proof.Machine.execBootRomStart failed s
  | .imageVerify a b => Sys2Proof.Machine.execImageVerify a b s
  | .bootcmd q v => Sys2Proof.Machine.execBootcmd q v s
  | .lpddr5TrainingDone ok0 ok1 => Sys2Proof.Machine.execLpddr5TrainingDone ok0 ok1 s
  | .bar4Write n off w v => Sys2Proof.Machine.execBar4Write n off w v s
  | .descriptorConsume n => Sys2Proof.Machine.execDescriptorConsume n s
  | .heldRecordRelease n => Sys2Proof.Machine.execHeldRecordRelease n s
  | .bucketUpdate => Sys2Proof.Machine.execBucketUpdate s
  | .gathChoice => Sys2Proof.Machine.execGathChoice s
  | .preregEdge stamp => Sys2Proof.Machine.execPreregEdge stamp s
  | .sewPointFix st fsn purgeOk => Sys2Proof.Machine.execSewPointFix st fsn purgeOk s
  | .sewnWithdraw st fsn => Sys2Proof.Machine.execSewnWithdraw st fsn s
  | .sewingPointReached st fsn => Sys2Proof.Machine.execSewingPointReached st fsn s
  | .regWindowExpire st fsn verso => Sys2Proof.Machine.execRegWindowExpire st fsn verso s
  | .sideImaged st fsn k => Sys2Proof.Machine.execSideImaged st fsn k s
  | .sheetEdge sensor stamp => Sys2Proof.Machine.execSheetEdge sensor stamp s
  | .edgeWindowExpire st fsn trailing => Sys2Proof.Machine.execEdgeWindowExpire st fsn trailing s
  | .exitConfirmed st fsn => Sys2Proof.Machine.execExitConfirmed st fsn s
  | .purgeConfirm => Sys2Proof.Machine.execPurgeConfirm s
  | .purgeFail binFull => Sys2Proof.Machine.execPurgeFail binFull s
  | .purgePathRun => Sys2Proof.Machine.execPurgePathRun s
  | .purgePathRunEnd => Sys2Proof.Machine.execPurgePathRunEnd s
  | .scmdContinue q n => Sys2Proof.Machine.execScmdContinue q n s
  | .scmdRetry q n => Sys2Proof.Machine.execScmdRetry q n s
  | .scmdAbort q n => Sys2Proof.Machine.execScmdAbort q n s
  | .scmdOperatorDelivered q n => Sys2Proof.Machine.execScmdOperatorDelivered q n s
  | .scmdOperatorRemoved q n => Sys2Proof.Machine.execScmdOperatorRemoved q n s
  | .gathCtrlWrite q v => Sys2Proof.Machine.execGathCtrlWrite q v s
  | .gathUnitReset q => Sys2Proof.Machine.execGathUnitReset q s
  | .webIndexEdge stamp => Sys2Proof.Machine.execWebIndexEdge stamp s
  | .webStop blank => Sys2Proof.Machine.execWebStop blank s
  | .webRestart => Sys2Proof.Machine.execWebRestart s
  | .stationEnable q k v => Sys2Proof.Machine.execStationEnable q k v s
  | .bdEdge k farEnd rising stamp => Sys2Proof.Machine.execBdEdge k farEnd rising stamp s
  | .bdWindowExpire k farEnd => Sys2Proof.Machine.execBdWindowExpire k farEnd s
  | .ampLoopUpdate k => Sys2Proof.Machine.execAmpLoopUpdate k s
  | .scanSweepEnd k => Sys2Proof.Machine.execScanSweepEnd k s
  | .scanCaptureTimeout k => Sys2Proof.Machine.execScanCaptureTimeout k s
  | .scanCoil k icoil => Sys2Proof.Machine.execScanCoil k icoil s
  | .rampRestart k => Sys2Proof.Machine.execRampRestart k s
  | .leadOutEnd k => Sys2Proof.Machine.execLeadOutEnd k s
  | .apcSlot n k result => Sys2Proof.Machine.execApcSlot n k result s
  | .ldcmdWrite q n k v => Sys2Proof.Machine.execLdcmdWrite q n k v s
  | .laneFrameSend n => Sys2Proof.Machine.execLaneFrameSend n s
  | .ldFault k asserted => Sys2Proof.Machine.execLdFault k asserted s
  | .laserDisClear k => Sys2Proof.Machine.execLaserDisClear k s
  | .calrunWrite q k on => Sys2Proof.Machine.execCalrunWrite q k on s
  | .caltArm q k t => Sys2Proof.Machine.execCaltArm q k t s
  | .calRunEnd k => Sys2Proof.Machine.execCalRunEnd k s
  | .facetBd k stamp => Sys2Proof.Machine.execFacetBd k stamp s
  | .dmaDescFetch c => Sys2Proof.Machine.execDmaDescFetch c s
  | .ownPoll c => Sys2Proof.Machine.execOwnPoll c s
  | .notOwned c => Sys2Proof.Machine.execNotOwned c s
  | .dmaBeatError c write off => Sys2Proof.Machine.execDmaBeatError c write off s
  | .dmaComplete c => Sys2Proof.Machine.execDmaComplete c s
  | .dmaRestart q c => Sys2Proof.Machine.execDmaRestart q c s
  | .dmaStop q c => Sys2Proof.Machine.execDmaStop q c s
  | .dmaUnitReset => Sys2Proof.Machine.execDmaUnitReset s
  | .ingGo q n v => Sys2Proof.Machine.execIngGo q n v s
  | .compressorHandoff m ecc => Sys2Proof.Machine.execCompressorHandoff m ecc s
  | .blockStored n => Sys2Proof.Machine.execBlockStored n s
  | .runTake n => Sys2Proof.Machine.execRunTake n s
  | .runwaitExpire n => Sys2Proof.Machine.execRunwaitExpire n s
  | .sideIngestDone n => Sys2Proof.Machine.execSideIngestDone n s
  | .shwFlip q k v => Sys2Proof.Machine.execShwFlip q k v s
  | .shwAccess q write page off w v => Sys2Proof.Machine.execShwAccess q write page off w v s
  | .qringWrite q n v => Sys2Proof.Machine.execQringWrite q n v s
  | .dcpJobPush q n lo hi st fsn verso => Sys2Proof.Machine.execDcpJobPush q n lo hi st fsn verso s
  | .dcpBlockDecode n ecc => Sys2Proof.Machine.execDcpBlockDecode n ecc s
  | .qstEcc n uncorrectable => Sys2Proof.Machine.execQstEcc n uncorrectable s
  | .dcpUnitReset n => Sys2Proof.Machine.execDcpUnitReset n s
  | .add ix rd ra rb => Sys2Proof.Machine.execAdd ix rd ra rb s
  | .sub ix rd ra rb => Sys2Proof.Machine.execSub ix rd ra rb s
  | .and ix rd ra rb => Sys2Proof.Machine.execAnd ix rd ra rb s
  | .or ix rd ra rb => Sys2Proof.Machine.execOr ix rd ra rb s
  | .xor ix rd ra rb => Sys2Proof.Machine.execXor ix rd ra rb s
  | .sll ix rd ra rb => Sys2Proof.Machine.execSll ix rd ra rb s
  | .srl ix rd ra rb => Sys2Proof.Machine.execSrl ix rd ra rb s
  | .sra ix rd ra rb => Sys2Proof.Machine.execSra ix rd ra rb s
  | .slt ix rd ra rb => Sys2Proof.Machine.execSlt ix rd ra rb s
  | .sltu ix rd ra rb => Sys2Proof.Machine.execSltu ix rd ra rb s
  | .mul ix rd ra rb => Sys2Proof.Machine.execMul ix rd ra rb s
  | .mulh ix rd ra rb => Sys2Proof.Machine.execMulh ix rd ra rb s
  | .mulhu ix rd ra rb => Sys2Proof.Machine.execMulhu ix rd ra rb s
  | .dvs ix rd ra rb => Sys2Proof.Machine.execDvs ix rd ra rb s
  | .dvu ix rd ra rb => Sys2Proof.Machine.execDvu ix rd ra rb s
  | .min ix rd ra rb => Sys2Proof.Machine.execMin ix rd ra rb s
  | .max ix rd ra rb => Sys2Proof.Machine.execMax ix rd ra rb s
  | .jalr ix rd ra rb => Sys2Proof.Machine.execJalr ix rd ra rb s
  | .mfs ix rd ra rb => Sys2Proof.Machine.execMfs ix rd ra rb s
  | .mts ix rd ra rb => Sys2Proof.Machine.execMts ix rd ra rb s
  | .eret ix rd ra rb => Sys2Proof.Machine.execEret ix rd ra rb s
  | .fence ix rd ra rb => Sys2Proof.Machine.execFence ix rd ra rb s
  | .addi ix rd ra imm => Sys2Proof.Machine.execAddi ix rd ra imm s
  | .andi ix rd ra imm => Sys2Proof.Machine.execAndi ix rd ra imm s
  | .ori ix rd ra imm => Sys2Proof.Machine.execOri ix rd ra imm s
  | .xori ix rd ra imm => Sys2Proof.Machine.execXori ix rd ra imm s
  | .slti ix rd ra imm => Sys2Proof.Machine.execSlti ix rd ra imm s
  | .sltiu ix rd ra imm => Sys2Proof.Machine.execSltiu ix rd ra imm s
  | .slli ix rd ra imm => Sys2Proof.Machine.execSlli ix rd ra imm s
  | .srli ix rd ra imm => Sys2Proof.Machine.execSrli ix rd ra imm s
  | .srai ix rd ra imm => Sys2Proof.Machine.execSrai ix rd ra imm s
  | .lui ix rd ra imm => Sys2Proof.Machine.execLui ix rd ra imm s
  | .lw ix rd ra imm bad => Sys2Proof.Machine.execLw ix rd ra imm bad s
  | .lh ix rd ra imm bad => Sys2Proof.Machine.execLh ix rd ra imm bad s
  | .lhu ix rd ra imm bad => Sys2Proof.Machine.execLhu ix rd ra imm bad s
  | .lb ix rd ra imm bad => Sys2Proof.Machine.execLb ix rd ra imm bad s
  | .lbu ix rd ra imm bad => Sys2Proof.Machine.execLbu ix rd ra imm bad s
  | .sw ix rd ra imm => Sys2Proof.Machine.execSw ix rd ra imm s
  | .sh ix rd ra imm => Sys2Proof.Machine.execSh ix rd ra imm s
  | .sb ix rd ra imm => Sys2Proof.Machine.execSb ix rd ra imm s
  | .ld ix rd ra imm bad => Sys2Proof.Machine.execLd ix rd ra imm bad s
  | .sd ix rd ra imm => Sys2Proof.Machine.execSd ix rd ra imm s
  | .beq ix ra rb disp => Sys2Proof.Machine.execBeq ix ra rb disp s
  | .bne ix ra rb disp => Sys2Proof.Machine.execBne ix ra rb disp s
  | .blt ix ra rb disp => Sys2Proof.Machine.execBlt ix ra rb disp s
  | .bge ix ra rb disp => Sys2Proof.Machine.execBge ix ra rb disp s
  | .bltu ix ra rb disp => Sys2Proof.Machine.execBltu ix ra rb disp s
  | .bgeu ix ra rb disp => Sys2Proof.Machine.execBgeu ix ra rb disp s
  | .jal ix rd disp => Sys2Proof.Machine.execJal ix rd disp s
  | .atTime ix rt rs imm => Sys2Proof.Machine.execAt ix rt rs imm s
  | .waitc ix rt rs imm => Sys2Proof.Machine.execWaitc ix rt rs imm s
  | .waitcComplete ix => Sys2Proof.Machine.execWaitcComplete ix s
  | .wedge ix rt rs imm => Sys2Proof.Machine.execWedge ix rt rs imm s
  | .wedgeEdge src falling => Sys2Proof.Machine.execWedgeEdge src falling s
  | .wedgeTimeout ix => Sys2Proof.Machine.execWedgeTimeout ix s
  | .snap ix rt rs imm => Sys2Proof.Machine.execSnap ix rt rs imm s
  | .emit ix rt rs imm => Sys2Proof.Machine.execEmit ix rt rs imm s
  | .rpush ix rt rs imm => Sys2Proof.Machine.execRpush ix rt rs imm s
  | .rpop ix rt rs imm => Sys2Proof.Machine.execRpop ix rt rs imm s
  | .ringWaitComplete ix => Sys2Proof.Machine.execRingWaitComplete ix s
  | .claim ix rt rs imm => Sys2Proof.Machine.execClaim ix rt rs imm s
  | .free ix rt rs imm => Sys2Proof.Machine.execFree ix rt rs imm s
  | .bfclr ix vd va vb g func => Sys2Proof.Machine.execBfclr ix vd va vb g func s
  | .bfld ix vd ga n1 off bad => Sys2Proof.Machine.execBfld ix vd ga n1 off bad s
  | .bfst ix vd ga n1 off => Sys2Proof.Machine.execBfst ix vd ga n1 off s
  | .bfmac ix vd va vb g func => Sys2Proof.Machine.execBfmac ix vd va vb g func s
  | .bfnorm ix vd va vb g func => Sys2Proof.Machine.execBfnorm ix vd va vb g func s
  | .slew ix vd va vb g func => Sys2Proof.Machine.execSlew ix vd va vb g func s
  | .minsel ix vd va vb g func => Sys2Proof.Machine.execMinsel ix vd va vb g func s
  | .tbl ix vd va vb g func bad => Sys2Proof.Machine.execTbl ix vd va vb g func bad s
  | .storeError ix a => Sys2Proof.Machine.execStoreError ix a s
  | .sampleInterrupt ix => Sys2Proof.Machine.execSampleInterrupt ix s
  | .watchdogExpire ix => Sys2Proof.Machine.execWatchdogExpire ix s
  | .spareMapComplete => Sys2Proof.Machine.execSpareMapComplete s
  | .motRun n dir => Sys2Proof.Machine.execMotRun n dir s
  | .motSpeed n v => Sys2Proof.Machine.execMotSpeed n v s
  | .motGear n on => Sys2Proof.Machine.execMotGear n on s
  | .motCoast n => Sys2Proof.Machine.execMotCoast n s
  | .motVcmd n v => Sys2Proof.Machine.execMotVcmd n v s
  | .motOffsetDone n a b => Sys2Proof.Machine.execMotOffsetDone n a b s
  | .pwmPeriodStart n x => Sys2Proof.Machine.execPwmPeriodStart n x s
  | .motHall n code => Sys2Proof.Machine.execMotHall n code s
  | .motEnc n count => Sys2Proof.Machine.execMotEnc n count s
  | .catchWindowEnd n vs speed angle => Sys2Proof.Machine.execCatchWindowEnd n vs speed angle s
  | .motOverspeed n peak => Sys2Proof.Machine.execMotOverspeed n peak s
  | .brakeDone n speed => Sys2Proof.Machine.execBrakeDone n speed s
  | .motCatch n => Sys2Proof.Machine.execMotCatch n s
  | .alignDwellEnd n => Sys2Proof.Machine.execAlignDwellEnd n s
  | .motOpen n phase cur => Sys2Proof.Machine.execMotOpen n phase cur s
  | .motStart n => Sys2Proof.Machine.execMotStart n s
  | .busSample k adc cur => Sys2Proof.Machine.execBusSample k adc cur s
  | .busChop k => Sys2Proof.Machine.execBusChop k s
  | .busOv2 k => Sys2Proof.Machine.execBusOv2 k s
  | .ztExit n => Sys2Proof.Machine.execZtExit n s
  | .ascExit n speed => Sys2Proof.Machine.execAscExit n speed s
  | .motDesat n => Sys2Proof.Machine.execMotDesat n s
  | .stpGo k => Sys2Proof.Machine.execStpGo k s
  | .stpStop k => Sys2Proof.Machine.execStpStop k s
  | .stpHalt k => Sys2Proof.Machine.execStpHalt k s
  | .profileUpdate k => Sys2Proof.Machine.execProfileUpdate k s
  | .holdtExpire k => Sys2Proof.Machine.execHoldtExpire k s
  | .posWrite q k v => Sys2Proof.Machine.execPosWrite q k v s
  | .latchEdge k falling stamp => Sys2Proof.Machine.execLatchEdge k falling stamp s
  | .stpOpen k coil cur => Sys2Proof.Machine.execStpOpen k coil cur s
  | .stpShort k coil cur => Sys2Proof.Machine.execStpShort k coil cur s
  | .portResult hv fus => Sys2Proof.Machine.execPortResult hv fus s
  | .fusDrive f v => Sys2Proof.Machine.execFusDrive f v s
  | .fusZvs f next => Sys2Proof.Machine.execFusZvs f next s
  | .floorDecay f => Sys2Proof.Machine.execFloorDecay f s
  | .fusOc f ma => Sys2Proof.Machine.execFusOc f ma s
  | .fusBand f => Sys2Proof.Machine.execFusBand f s
  | .fusStale f => Sys2Proof.Machine.execFusStale f s
  | .hvLevel k v => Sys2Proof.Machine.execHvLevel k v s
  | .hvDrive k dc ac => Sys2Proof.Machine.execHvDrive k dc ac s
  | .hvBand k => Sys2Proof.Machine.execHvBand k s
  | .hvArc k idc => Sys2Proof.Machine.execHvArc k idc s
  | .hvArcHoldEnd k => Sys2Proof.Machine.execHvArcHoldEnd k s
  | .hvShort k => Sys2Proof.Machine.execHvShort k s
  | .hvOpen k => Sys2Proof.Machine.execHvOpen k s
  | .synEnable q n on => Sys2Proof.Machine.execSynEnable q n on s
  | .synLocked n => Sys2Proof.Machine.execSynLocked n s
  | .synLock n cause => Sys2Proof.Machine.execSynLock n cause s
  | .alignMeasure n ofs => Sys2Proof.Machine.execAlignMeasure n ofs s
  | .alignValid n ofs => Sys2Proof.Machine.execAlignValid n ofs s
  | .profileCopyDone n => Sys2Proof.Machine.execProfileCopyDone n s
  | .ckoenWrite v => Sys2Proof.Machine.execCkoenWrite v s
  | .thmSample v => Sys2Proof.Machine.execThmSample v s
  | .thmShutHold => Sys2Proof.Machine.execThmShutHold s
  | .thmRestart => Sys2Proof.Machine.execThmRestart s
  | .txSample v => Sys2Proof.Machine.execTxSample v s
  | .thmPair p => Sys2Proof.Machine.execThmPair p s
  | .pgChange r good => Sys2Proof.Machine.execPgChange r good s
  | .failholdExpire acks => Sys2Proof.Machine.execFailholdExpire acks s
  | .failgapRelease => Sys2Proof.Machine.execFailgapRelease s
  | .halt => Sys2Proof.Machine.execHalt s
  | .en ack => Sys2Proof.Machine.execEn ack s
  | .dis ack => Sys2Proof.Machine.execDis ack s
  | .wait => Sys2Proof.Machine.execWait s
  | .waitpg => Sys2Proof.Machine.execWaitpg s
  | .check => Sys2Proof.Machine.execCheck s
  | .jmp => Sys2Proof.Machine.execJmp s
  | .jmpif => Sys2Proof.Machine.execJmpif s
  | .sync => Sys2Proof.Machine.execSync s
  | .margin linear ack => Sys2Proof.Machine.execMargin linear ack s
  | .psqWaitDone => Sys2Proof.Machine.execPsqWaitDone s
  | .waitpgDone => Sys2Proof.Machine.execWaitpgDone s
  | .waitpgFail => Sys2Proof.Machine.execWaitpgFail s
  | .syncDone line => Sys2Proof.Machine.execSyncDone line s
  | .psqSync => Sys2Proof.Machine.execPsqSync s
  | .psqVin mv => Sys2Proof.Machine.execPsqVin mv s
  | .vinholdExpire => Sys2Proof.Machine.execVinholdExpire s
  | .vinRecovery mv => Sys2Proof.Machine.execVinRecovery mv s
  | .minoffEnd => Sys2Proof.Machine.execMinoffEnd s
  | .wakeEdge => Sys2Proof.Machine.execWakeEdge s
  | .wakeAlarm => Sys2Proof.Machine.execWakeAlarm s
  | .on q v => Sys2Proof.Machine.execOn q v s
  | .off q v => Sys2Proof.Machine.execOff q v s
  | .runat q v => Sys2Proof.Machine.execRunat q v s
  | .clear q v => Sys2Proof.Machine.execClear q v s
  | .idle q v => Sys2Proof.Machine.execIdle q v s
  | .run q v => Sys2Proof.Machine.execRun q v s
  | .sleep q v => Sys2Proof.Machine.execSleep q v s
  | .shelf q v => Sys2Proof.Machine.execShelf q v s
  | .psqCmdMargin q v linear ack => Sys2Proof.Machine.execPsqCmdMargin q v linear ack s
  | .psqState n ack => Sys2Proof.Machine.execPsqState n ack s
  | .psqReached k w => Sys2Proof.Machine.execPsqReached k w s
  | .psqRequest code ack => Sys2Proof.Machine.execPsqRequest code ack s
  | .pmbusPoll ws => Sys2Proof.Machine.execPmbusPoll ws s
  | .start n => Sys2Proof.Machine.execStart n s
  | .din32 q n v => Sys2Proof.Machine.execDin32 q n v s
  | .din8 q n v => Sys2Proof.Machine.execDin8 q n v s
  | .ckuCfgWrite q n v => Sys2Proof.Machine.execCkuCfgWrite q n v s
  | .faultEvent source code detail cls reason folios => Sys2Proof.Machine.execFaultEvent source code detail cls reason folios s
  | .classbDeadline k => Sys2Proof.Machine.execClassbDeadline k s
  | .fclAck index seq => Sys2Proof.Machine.execFclAck index seq s
  | .fclForce q k v => Sys2Proof.Machine.execFclForce q k v s
  | .ringcfgWrite q v => Sys2Proof.Machine.execRingcfgWrite q v s
  | .fclSelf copy => Sys2Proof.Machine.execFclSelf copy s
  | .leave key => Sys2Proof.Machine.execLeave key s
  | .jrnRecordRequest type stream try_ stranded operator fsn stamp aux => Sys2Proof.Machine.execJrnRecordRequest type stream try_ stranded operator fsn stamp aux s
  | .jrnCommitComplete b => Sys2Proof.Machine.execJrnCommitComplete b s
  | .jrnMirror => Sys2Proof.Machine.execJrnMirror s
  | .flushComplete => Sys2Proof.Machine.execFlushComplete s
  | .flush q => Sys2Proof.Machine.execFlush q s
  | .init q => Sys2Proof.Machine.execInit q s
  | .release q => Sys2Proof.Machine.execRelease q s
  | .journalReplay present => Sys2Proof.Machine.execJournalReplay present s
  | .replayComplete => Sys2Proof.Machine.execReplayComplete s
  | .reportPost => Sys2Proof.Machine.execReportPost s
  | .ridxWrite q v => Sys2Proof.Machine.execRidxWrite q v s
  | .ridxFetchDone => Sys2Proof.Machine.execRidxFetchDone s
  | .otpArrayRead marg corr bad => Sys2Proof.Machine.execOtpArrayRead marg corr bad s
  | .otpScrub => Sys2Proof.Machine.execOtpScrub s
  | .otpScrubDone drift => Sys2Proof.Machine.execOtpScrubDone drift s
  | .program q key votp => Sys2Proof.Machine.execProgram q key votp s
  | .lock q key region votp => Sys2Proof.Machine.execLock q key region votp s
  | .repair q key votp => Sys2Proof.Machine.execRepair q key votp s
  | .otpBurnDone good spareGood => Sys2Proof.Machine.execOtpBurnDone good spareGood s
  | .otpWindow votp => Sys2Proof.Machine.execOtpWindow votp s
  | .nonce q key => Sys2Proof.Machine.execNonce q key s
  | .enterMaker q key votp => Sys2Proof.Machine.execEnterMaker q key votp s
  | .enterField q key votp => Sys2Proof.Machine.execEnterField q key votp s
  | .consent q key votp => Sys2Proof.Machine.execConsent q key votp s
  | .token q key votp => Sys2Proof.Machine.execToken q key votp s
  | .scrap q key votp => Sys2Proof.Machine.execScrap q key votp s
  | .hywEnable q n on => Sys2Proof.Machine.execHywEnable q n on s
  | .hywBreak n => Sys2Proof.Machine.execHywBreak n s
  | .hywAnnounce n byte stop => Sys2Proof.Machine.execHywAnnounce n byte stop s
  | .hywAnnounceTimeout n => Sys2Proof.Machine.execHywAnnounceTimeout n s
  | .ident n => Sys2Proof.Machine.execIdent n s
  | .auth n => Sys2Proof.Machine.execAuth n s
  | .hywAdd n => Sys2Proof.Machine.execHywAdd n s
  | .read n => Sys2Proof.Machine.execRead n s
  | .hywResponse n bs => Sys2Proof.Machine.execHywResponse n bs s
  | .hywResponseTimeout n => Sys2Proof.Machine.execHywResponseTimeout n s
  | .meter q n v => Sys2Proof.Machine.execMeter q n v s
  | .reauth q n => Sys2Proof.Machine.execReauth q n s
  | .hywLine n detail => Sys2Proof.Machine.execHywLine n detail s
  | .lineTest n normal => Sys2Proof.Machine.execLineTest n normal s
  | .roscCount v => Sys2Proof.Machine.execRoscCount v s
  | .hostenWrite q v => Sys2Proof.Machine.execHostenWrite q v s
  | .obsRunWrite q run => Sys2Proof.Machine.execObsRunWrite q run s
  | .counterWrap k => Sys2Proof.Machine.execCounterWrap k s
  | .bwWindowEdge => Sys2Proof.Machine.execBwWindowEdge s
  | .traceRecord stamp origin code aux type data => Sys2Proof.Machine.execTraceRecord stamp origin code aux type data s
  | .traceOut err => Sys2Proof.Machine.execTraceOut err s
  | .mark q v => Sys2Proof.Machine.execMark q v s
  | .padcfgWrite q ix v => Sys2Proof.Machine.execPadcfgWrite q ix v s
  | .snswireWrite q v => Sys2Proof.Machine.execSnswireWrite q v s
  | .snsWire k => Sys2Proof.Machine.execSnsWire k s
  | .snsWireClear k => Sys2Proof.Machine.execSnsWireClear k s
  | .linkDown n => Sys2Proof.Machine.execLinkDown n s
  | .memChan n => Sys2Proof.Machine.execMemChan n s
  | .ringMemoryWrite q a w v => Sys2Proof.Machine.execRingMemoryWrite q a w v s
  | .registerRead q a w => Sys2Proof.Machine.execRegisterRead q a w s

end Sys2Proof.Machine
end

