-- ==== Sys2Proof/Machine/Run.lean ====
section
/-! DEFINITION. Core instructions as words (R184 to R186): the word of each command that is one, and what core i does with a word it fetches. -/

namespace Sys2Proof.Machine

/-- The word of a core instruction (R184, R186), with the core that issues it; none for any other command. -/
def gotumWord (c : Instr) : Option (Nat × Word) :=
  match c with
  | .add i rd ra rb => some (i, encA 0 rd ra rb 0x000)
  | .sub i rd ra rb => some (i, encA 0 rd ra rb 0x001)
  | .and i rd ra rb => some (i, encA 0 rd ra rb 0x002)
  | .or i rd ra rb => some (i, encA 0 rd ra rb 0x003)
  | .xor i rd ra rb => some (i, encA 0 rd ra rb 0x004)
  | .sll i rd ra rb => some (i, encA 0 rd ra rb 0x005)
  | .srl i rd ra rb => some (i, encA 0 rd ra rb 0x006)
  | .sra i rd ra rb => some (i, encA 0 rd ra rb 0x007)
  | .slt i rd ra rb => some (i, encA 0 rd ra rb 0x008)
  | .sltu i rd ra rb => some (i, encA 0 rd ra rb 0x009)
  | .mul i rd ra rb => some (i, encA 0 rd ra rb 0x00A)
  | .mulh i rd ra rb => some (i, encA 0 rd ra rb 0x00B)
  | .mulhu i rd ra rb => some (i, encA 0 rd ra rb 0x00C)
  | .dvs i rd ra rb => some (i, encA 0 rd ra rb 0x00D)
  | .dvu i rd ra rb => some (i, encA 0 rd ra rb 0x00E)
  | .min i rd ra rb => some (i, encA 0 rd ra rb 0x011)
  | .max i rd ra rb => some (i, encA 0 rd ra rb 0x012)
  | .jalr i rd ra rb => some (i, encA 0 rd ra rb 0x013)
  | .mfs i rd ra rb => some (i, encA 0 rd ra rb 0x020)
  | .mts i rd ra rb => some (i, encA 0 rd ra rb 0x021)
  | .eret i rd ra rb => some (i, encA 0 rd ra rb 0x022)
  | .fence i rd ra rb => some (i, encA 0 rd ra rb 0x023)
  | .addi i a b x => some (i, encB 0x01 a b x)
  | .andi i a b x => some (i, encB 0x02 a b x)
  | .ori i a b x => some (i, encB 0x03 a b x)
  | .xori i a b x => some (i, encB 0x04 a b x)
  | .slti i a b x => some (i, encB 0x05 a b x)
  | .sltiu i a b x => some (i, encB 0x06 a b x)
  | .slli i a b x => some (i, encB 0x07 a b x)
  | .srli i a b x => some (i, encB 0x08 a b x)
  | .srai i a b x => some (i, encB 0x09 a b x)
  | .lui i a b x => some (i, encB 0x0A a b x)
  | .sw i a b x => some (i, encB 0x18 a b x)
  | .sh i a b x => some (i, encB 0x19 a b x)
  | .sb i a b x => some (i, encB 0x1A a b x)
  | .sd i a b x => some (i, encB 0x1C a b x)
  | .beq i a b x => some (i, encB 0x20 a b x)
  | .bne i a b x => some (i, encB 0x21 a b x)
  | .blt i a b x => some (i, encB 0x22 a b x)
  | .bge i a b x => some (i, encB 0x23 a b x)
  | .bltu i a b x => some (i, encB 0x24 a b x)
  | .bgeu i a b x => some (i, encB 0x25 a b x)
  | .atTime i a b x => some (i, encB 0x30 a b x)
  | .waitc i a b x => some (i, encB 0x31 a b x)
  | .wedge i a b x => some (i, encB 0x32 a b x)
  | .snap i a b x => some (i, encB 0x33 a b x)
  | .emit i a b x => some (i, encB 0x34 a b x)
  | .rpush i a b x => some (i, encB 0x35 a b x)
  | .rpop i a b x => some (i, encB 0x36 a b x)
  | .claim i a b x => some (i, encB 0x37 a b x)
  | .free i a b x => some (i, encB 0x38 a b x)
  | .lw i a b x _ => some (i, encB 0x10 a b x)
  | .lh i a b x _ => some (i, encB 0x11 a b x)
  | .lhu i a b x _ => some (i, encB 0x12 a b x)
  | .lb i a b x _ => some (i, encB 0x13 a b x)
  | .lbu i a b x _ => some (i, encB 0x14 a b x)
  | .ld i a b x _ => some (i, encB 0x1B a b x)
  | .jal i rd d => some (i, encL 0x26 rd d)
  | .bfclr i vd va vb g f => some (i, encV 0x28 vd va vb g f)
  | .bfmac i vd va vb g f => some (i, encV 0x3B vd va vb g f)
  | .bfnorm i vd va vb g f => some (i, encV 0x3C vd va vb g f)
  | .slew i vd va vb g f => some (i, encV 0x3D vd va vb g f)
  | .minsel i vd va vb g f => some (i, encV 0x3E vd va vb g f)
  | .tbl i vd va vb g f _ => some (i, encV 0x3F vd va vb g f)
  | .bfld i vd ga n o _ => some (i, encM 0x39 vd ga n o)
  | .bfst i vd ga n o => some (i, encM 0x3A vd ga n o)
  | _ => none

/-- Core i issues the word w: the instruction it spells, or ILLEGAL where its opcode or func is reserved (R185, R186). -/
def State.runWord (s : State) (i : Nat) (w : Word) : Host.Outcome State Fault Refusal :=
  match decodeGotum i w with
  | some c => exec c s
  | none => s.issue i (fun t _ => .trap t 1 w.toNat)

/-- Core i fetches and issues the word at its PC (R182, R184).  A command of the table that is a core instruction stands for this issue (log 49). -/
def State.runCore (s : State) (i : Nat) : Host.Outcome State Fault Refusal := s.runWord i (BitVec.ofNat 32 (s.rd (s.fetchAddr i) 4))

end Sys2Proof.Machine
end

