-- ==== Sys2Proof/Safety.lean ====
section
/-! DEFINITION. What a safe run is, in the terms claims use: the memories in their one canonical form, and the reachable states. -/

namespace Sys2Proof.Machine

/-- The device's memories, the journal FRAM and host memory stand in their one canonical form: addresses strictly rising, and no entry equal to what
an unlisted address reads as (zero; 0xFF in FRAM). -/
def Memory.wf (s : State) : Bool := Cells.wf 0 s.mem && Cells.wf 0xFF s.fram && Cells.wf 0 s.hostMem

/-- A step runs on: neither a fault nor a refusal. -/
def State.goesOn (s : State) : Prop := ∃ t, step s = .next t

/-- The command completes from s: exec answers a next state, and P holds of it. -/
def Runs (c : Instr) (s : State) (P : State → Prop) : Prop := ∃ t, exec c s = .next t ∧ P t

/-- Nothing that an earlier command caused is still due: no kettle entry and no OBS_LOST. -/
abbrev State.settled (s : State) : Prop := s.fcl.due = none ∧ s.obs.lostDue = false

/-- Nothing is due, and the observability unit records nothing (LEVEL 0, R405). -/
abbrev State.calm (s : State) : Prop := s.settled ∧ s.obsLevel = 0

/-- The fault history holds an event of this source, code and detail (R334, R338). -/
def State.reported (s : State) (source code detail : Nat) : Prop :=
  ∃ i, i < 16 ∧ (vget s.fcl.hist i).valid = true ∧ (vget s.fcl.hist i).source = source ∧ (vget s.fcl.hist i).code = code
    ∧ (vget s.fcl.hist i).detail = detail

/-- The history has an entry for a new record (R336). -/
abbrev State.histRoom (s : State) : Prop := s.freeHist.isSome = true

/-- No folio is past its sewing point and still on its way, none waits for a sewing point whose record is committed, and none was spoiled in this
very tick (R74). -/
abbrev State.pathClear (s : State) : Prop :=
  ∀ f, f ∈ s.gath.folios → f.inPath = false ∧ f.armedUnsewn = false ∧ f.spoiledAt ≠ some s.now

/-- A calm state with room for a fault record and no folio in the path: a fault of class A or B then does nothing but leave its record. -/
abbrev State.plain (s : State) : Prop := s.calm ∧ s.histRoom ∧ s.pathClear

/-- The journal is OPEN and takes a record at once: its queue has room, no request waits, and the span lies below its limit (R347, R350). -/
abbrev State.jrnRoom (s : State) : Prop :=
  s.g F.JRN_STAT_STATE = 1 ∧ s.jrn.queue.length < 16 ∧ s.jrn.waiting = [] ∧ s.span + 1 < 2040

/-- The journal's queue has one record more, of this type, stream, FSN and AUX (R346, R347). -/
def State.queued (s t : State) (type stream fsn aux : Nat) : Prop :=
  ∃ r : JRec, t.jrn.queue = s.jrn.queue ++ [r] ∧ r.type = type ∧ r.stream = stream ∧ r.fsn = fsn ∧ r.aux = aux

/-- A requester that takes part: a core of the variant (R2), or an endpoint while its BARs are open (R26), and SYN0 not OFF (R283). -/
abbrev State.present (s : State) (q : Requester) : Prop :=
  s.synState 0 ≠ syOFF ∧ match q with
  | .core i => s.hasCore i = true
  | .host n => n < s.hosts ∧ 2 ≤ s.g F.LCS_BOOTSTAT_STAGE
  | _ => False

/-- Every register outside the block instances listed reads as before, both copies (R24, R34). -/
def State.regsKept (s t : State) (slots : List (Block × Nat)) : Prop :=
  ∀ (a : Nat) (d : Word), (∀ x, x ∈ slots → a < x.1.base + 0x40000 * x.2 ∨ x.1.base + 0x40000 * (x.2 + 1) ≤ a) →
    Cells.get d a t.regs = Cells.get d a s.regs

/-- Of the registers only the word at address a may differ. -/
def State.onlyReg (s t : State) (a : Nat) : Prop := ∀ (b : Nat) (d : Word), b ≠ a → Cells.get d b t.regs = Cells.get d b s.regs

/-- The fields of a register after a write of v over old, by their access codes (R11): w is the word written. -/
def fieldsWritten (r : Reg) (old v w : Nat) : Prop :=
  ∀ f ∈ r.row.fields, bits w f.hi f.lo = (match f.acc with
    | .RW => bits v f.hi f.lo
    | .RWS => bits v f.hi f.lo
    | .W1C => bits old f.hi f.lo - (bits old f.hi f.lo &&& bits v f.hi f.lo)
    | .W1S => bits old f.hi f.lo ||| bits v f.hi f.lo
    | .RO => bits old f.hi f.lo
    | .WO => bits old f.hi f.lo)

/-- A control register stands at its address on this variant (R2, R24). -/
abbrev State.stands (s : State) (r : Reg) (n k : Nat) : Prop := s.place (r.addr n k) = .reg r n k

/-- A register that no rule gives an effect beyond its fields, open to a write of v by q: its owner writes, no COMMIT of its set is pending, its unit does
not refuse the write in its present state, and v places no reserved encoding (R11, R13, R32, R36, R405). -/
abbrev State.plainWrite (s : State) (q : Requester) (r : Reg) (n k v : Nat) : Prop :=
  s.stands r n k ∧ r.row.half = .none ∧ (r.block = .OBS → s.obsLevel ≠ 0) ∧ s.mayWrite q r n = true ∧ s.unitWrite q r n k v = none
    ∧ (∀ x, shadowSetOf r n = some x → s.pendNow x = false) ∧ s.stateLocked r n k v = false ∧ s.isReserved q r n k v = false
    ∧ r ∉ [.FCL_STAT, .OBS_STAT, .OBS_BWPEAK, .FUS_FLT, .STR_BDSTAT, .THM_TXLIM, .DMA_CHCFG, .LCS_TOKEN]

/-- A pair of registers (R14) whose commit only sets its fields. -/
abbrev State.plainPair (s : State) (lo hi : Reg) (n k : Nat) : Prop :=
  s.stands lo n k ∧ s.place (lo.addr n k + 4) = .reg hi n k ∧ hi.addr n k = lo.addr n k + 4 ∧ lo.row.half = .lo ∧ hi.row.half = .hi

/-- The commit of l and h to the pair at lo is open to it, and only sets its fields (R14): not that of a job, a calibration run or a check-value unit. -/
abbrev State.pairOpen (s : State) (lo : Reg) (n k l h : Nat) : Prop :=
  (lo.block = .OBS → s.obsLevel ≠ 0) ∧ s.stateLocked lo n k l = false
    ∧ (lo = .OBS_BUFBASE_LO → l % 4096 = 0 ∧ l + 2 ^ 32 * (h % 8) + 4096 * s.g F.OBS_BUFSIZE_PAGES ≤ s.pageSize)
    ∧ (lo = .ING_CTX_LOC_LO → l % 64 = 0) ∧ (lo = .DMA_APER_BASE_LO → l % 2 ^ 28 = 0)
    ∧ lo ∉ [.DCP_JOB_LO, .STR_CALT_LO, .CKU_POLY_LO, .CKU_INIT_LO, .CKU_RUN_LO]

/-- What writes find at a place that ignores them: an absent resource (R2), an active copy (R34), a word of a profile bank (R292). -/
def Place.ignoresWrites : Place → Bool
  | .quiet => true
  | .copy _ _ _ => true
  | .bank _ _ => true
  | _ => false

/-- s as it is when a fault has been recorded or a record of observation made: the history, the fault ring's entry, and the registers of FCL, TCE and OBS
are t's (R336, R339). -/
def State.noted (s t : State) : State := { s with regs := t.regs, obs := t.obs, fcl := t.fcl, mem := t.mem }

/-- Core i issues the instruction at its PC: it is present, runs and does not wait (R191), the word is good (R207), and it can fetch the next (R182). -/
abbrev State.issues (s : State) (i : Nat) : Prop :=
  s.coreReady i = true ∧ s.poisoned (s.fetchAddr i) 4 = false ∧ pcOk (s.coreOf i).seq = true

/-- Of the cores only core i differs, and of the registers only TCE's (R24). -/
def State.onlyCore (s t : State) (i : Nat) : Prop :=
  s.regsKept t [(.TCE, 0)] ∧ ∀ j, j ≠ i → t.coreOf j = s.coreOf j

/-- What a read of n bytes at an effective address gives core i, and the state after it: the instruction may reach the address, which is aligned and lies in
a memory or register of the device, and the read is answered without error (R180, R181, R189).  bad: the memory finds the data uncorrectable. -/
def State.coreReads (s : State) (i : Nat) (word : Word) (ea n align : Nat) (bad : Bool) : Option (Nat × State) :=
  match s.eaJudge i (s.coreOf i) word ea n align false with
  | .ok d => ((s.badData d.1 bad).coreRead i d.1 n ea d.2).toOption
  | .error _ => none

/-- The device address at which core i's write of n bytes arrives, and whether it is its own local memory (R180, R181). -/
def State.coreReaches (s : State) (i : Nat) (word : Word) (ea n align : Nat) : Option (Nat × Bool) :=
  (s.eaJudge i (s.coreOf i) word ea n align true).toOption

/-- Core i goes on in state u: nothing is due there, and its own effect has not stopped it (R212). -/
abbrev State.runsOn (u : State) (i : Nat) : Prop := u.calm ∧ u.inService i = true

/-- Core i has retired an instruction that left it as c and goes on at pc (R177, R179): INSTRET has counted it, and its state shows RUN or HANDLER. -/
def State.retired (s t : State) (i : Nat) (c : Core) (pc : Nat) : Prop :=
  s.onlyCore t i ∧ t.coreState i = (if c.swOn swINFAULT then csHANDLER else csRUN)
    ∧ t.coreOf i = { c with pc := BitVec.ofNat 32 pc, lastPc := (s.coreOf i).pc, wait := none, instret := ((s.coreOf i).instret + 1) % 2 ^ 64,
                            sinceRec := (t.coreOf i).sinceRec, sinceSync := (t.coreOf i).sinceSync }

/-- Nothing but the cores and the registers differs. -/
def State.coresOnly (s t : State) : Prop := t = { s with regs := t.regs, cores := t.cores }

/-- Core i waits in its instruction (R191, R194, R196): its PC stays, and its state shows WAIT. -/
def State.waits (s t : State) (i : Nat) (w : Wait) : Prop :=
  s.onlyCore t i ∧ t.coreState i = csWAIT ∧ t.coreOf i = { s.coreOf i with wait := some w }

/-- Core i has entered a handler by R207: EPC, ECAUSE and EVAL, the mode saved and left, the handler's address in PC, and every other register kept. -/
def State.entered (s t : State) (i epc cause val pc : Nat) : Prop :=
  t.coreOf i = { s.coreOf i with sw := (t.coreOf i).sw, epc := BitVec.ofNat 32 epc, ecause := BitVec.ofNat 32 cause, eval := BitVec.ofNat 32 val,
                                 pc := BitVec.ofNat 32 pc, wait := none }
    ∧ (t.coreOf i).swOn swSYS = true ∧ (t.coreOf i).swOn swIE = false ∧ (t.coreOf i).swOn swINFAULT = true
    ∧ (t.coreOf i).swOn swPSYS = (s.coreOf i).swOn swSYS ∧ (t.coreOf i).swOn swPIE = (s.coreOf i).swOn swIE
    ∧ (∀ b, b < 27 → (t.coreOf i).swOn b = (s.coreOf i).swOn b)
    ∧ t.g (F.TCE_CSTAT_LASTCAUSE i) = cause ∧ t.coreState i = csHANDLER ∧ ∀ j, j ≠ i → t.coreOf j = s.coreOf j

/-- The instruction at core i's PC has faulted (R207): its handler at VBASE, CORE_TRAP on its source, and nothing else. -/
def State.trapped (s t : State) (i cause val : Nat) : Prop :=
  s.entered t i (s.coreOf i).pc.toNat cause val (s.coreOf i).vbase.toNat ∧ t.reported (40 + i) 1 cause
    ∧ t = { s with regs := t.regs, cores := t.cores, fcl := t.fcl, mem := t.mem } ∧ s.regsKept t [(.FCL, 0), (.TCE, 0)]

/-- The states that runs from reset reach, with any commands put on the queue between steps. -/
inductive Reachable : State → Prop
  | reset : Reachable State.reset
  | command (s : State) (c : Instr) : Reachable s → Reachable { s with pending := s.pending ++ [c] }
  | step (s t : State) : Reachable s → step s = .next t → Reachable t

end Sys2Proof.Machine
end

