-- ==== Sys2Proof/WellFormed.lean ====
section
/-! DEFINITION. Which commands are well formed: every operand within the range that the spec's tables give it. -/

namespace Sys2Proof

open Machine

/-- The widths of an access in bytes. -/
def widthOk (w : Nat) : Bool := w == 1 || w == 2 || w == 4 || w == 8

/-- A requester that exists on some variant (R23, R26). -/
def Machine.Requester.ok : Requester → Bool
  | .core i => decide (i < 24)
  | .host n => decide (n < 2)
  | .dma => true
  | .hw => true

/-- A shadowed set of an instance that exists (R34). -/
def Machine.ShadowSet.ok : ShadowSet → Bool
  | .gathGeom => true
  | .strGlobal => true
  | .strPhase n => decide (n < 4)
  | .strImaging n => decide (n < 4)
  | .motPwm n => decide (n < 8)
  | .motAdv n => decide (n < 8)
  | .stpProfile k => decide (k < 12)
  | .synDiv => true

/-- Every operand lies in its range: indices of cores, units, rings, streams and pages; addresses, widths and values; time stamps. -/
def wellFormed : Instr → Bool
  | .registerWrite q a w v => q.ok && decide (a < 2 ^ 40) && widthOk w && decide (v < 2 ^ 64)
  | .pairLoRead q a => q.ok && decide (a < 2 ^ 40)
  | .pairHiRead q a => q.ok && decide (a < 2 ^ 40)
  | .pairLoWrite q a v => q.ok && decide (a < 2 ^ 40) && decide (v < 2 ^ 32)
  | .pairHiWrite q a v => q.ok && decide (a < 2 ^ 40) && decide (v < 2 ^ 32)
  | .unmapped q _ a w v => q.ok && decide (a < 2 ^ 40) && widthOk w && decide (v < 2 ^ 64)
  | .cordSlip d => decide (d < 6)
  | .followerRestored d => decide (d < 6)
  | .actEventArrive q id t v => q.ok && decide (id < 65536) && decide (t < 2 ^ 64) && decide (v < 2 ^ 32)
  | .actEventFire id => decide (id < 65536)
  | .qtailWrite q r v => q.ok && decide (r < 128) && decide (v < 2 ^ 32)
  | .qheadWrite q r v => q.ok && decide (r < 128) && decide (v < 2 ^ 32)
  | .qcfgWrite q r v => q.ok && decide (r < 128) && decide (v < 2 ^ 32)
  | .qbaseWrite q r v => q.ok && decide (r < 128) && decide (v < 2 ^ 32)
  | .pmxClaim q rid => q.ok && decide (rid < 65536)
  | .pmxFree q rid => q.ok && decide (rid < 65536)
  | .commitGo q x => q.ok && x.ok
  | .shadowCopy x => x.ok
  | .shadowCopyStopped x => x.ok
  | .powerOnReset => true
  | .warmReset => true
  | .wakeFromSleep => true
  | .coreReset q key i => q.ok && decide (key < 256) && decide (i < 24)
  | .unitReset q b n => q.ok && decide (n < b.count)
  | .perst n => decide (n < 2)
  | .epochStale i => decide (i < 256)
  | .otpSenseDone vin => decide (vin < 2 ^ 16)
  | .coreRailsGood => true
  | .bootRomStart failed => decide (failed < 2 ^ 24)
  | .imageVerify _ _ => true
  | .bootcmd q v => q.ok && decide (v < 2 ^ 32)
  | .lpddr5TrainingDone _ _ => true
  | .bar4Write n off w v => decide (n < 2) && decide (off < 2 ^ 28) && widthOk w && decide (v < 2 ^ 64)
  | .descriptorConsume n => decide (n < 8)
  | .heldRecordRelease n => decide (n < 8)
  | .bucketUpdate => true
  | .gathChoice => true
  | .preregEdge stamp => decide (stamp < 2 ^ 64)
  | .sewPointFix st fsn _ => decide (st < 8) && decide (fsn < 2 ^ 32)
  | .sewnWithdraw st fsn => decide (st < 8) && decide (fsn < 2 ^ 32)
  | .sewingPointReached st fsn => decide (st < 8) && decide (fsn < 2 ^ 32)
  | .regWindowExpire st fsn _ => decide (st < 8) && decide (fsn < 2 ^ 32)
  | .sideImaged st fsn k => decide (st < 8) && decide (fsn < 2 ^ 32) && decide (k < 4)
  | .sheetEdge _ stamp => decide (stamp < 2 ^ 64)
  | .edgeWindowExpire st fsn _ => decide (st < 8) && decide (fsn < 2 ^ 32)
  | .exitConfirmed st fsn => decide (st < 8) && decide (fsn < 2 ^ 32)
  | .purgeConfirm => true
  | .purgeFail _ => true
  | .purgePathRun => true
  | .purgePathRunEnd => true
  | .scmdContinue q n => q.ok && decide (n < 8)
  | .scmdRetry q n => q.ok && decide (n < 8)
  | .scmdAbort q n => q.ok && decide (n < 8)
  | .scmdOperatorDelivered q n => q.ok && decide (n < 8)
  | .scmdOperatorRemoved q n => q.ok && decide (n < 8)
  | .gathCtrlWrite q v => q.ok && decide (v < 2 ^ 32)
  | .gathUnitReset q => q.ok
  | .webIndexEdge stamp => decide (stamp < 2 ^ 64)
  | .webStop _ => true
  | .webRestart => true
  | .stationEnable q k v => q.ok && decide (k < 4) && decide (v < 2 ^ 32)
  | .bdEdge k _ _ stamp => decide (k < 4) && decide (stamp < 2 ^ 70)
  | .bdWindowExpire k _ => decide (k < 4)
  | .ampLoopUpdate k => decide (k < 4)
  | .scanSweepEnd k => decide (k < 4)
  | .scanCaptureTimeout k => decide (k < 4)
  | .scanCoil k icoil => decide (k < 4) && decide (icoil < 2 ^ 16)
  | .rampRestart k => decide (k < 4)
  | .leadOutEnd k => decide (k < 4)
  | .apcSlot n k result => decide (n < 4) && decide (k < 8) && decide (result < 2 ^ 16)
  | .ldcmdWrite q n k v => q.ok && decide (n < 4) && decide (k < 8) && decide (v < 2 ^ 32)
  | .laneFrameSend n => decide (n < 4)
  | .ldFault k _ => decide (k < 4)
  | .laserDisClear k => decide (k < 4)
  | .calrunWrite q k _ => q.ok && decide (k < 4)
  | .caltArm q k t => q.ok && decide (k < 4) && decide (t < 2 ^ 64)
  | .calRunEnd k => decide (k < 4)
  | .facetBd k stamp => decide (k < 4) && decide (stamp < 2 ^ 70)
  | .dmaDescFetch c => decide (c < 16)
  | .ownPoll c => decide (c < 16)
  | .notOwned c => decide (c < 16)
  | .dmaBeatError c _ _ => decide (c < 16)
  | .dmaComplete c => decide (c < 16)
  | .dmaRestart q c => q.ok && decide (c < 16)
  | .dmaStop q c => q.ok && decide (c < 16)
  | .dmaUnitReset => true
  | .ingGo q n v => q.ok && decide (n < 8) && decide (v < 2 ^ 32)
  | .compressorHandoff m _ => decide (m < 2)
  | .blockStored n => decide (n < 8)
  | .runTake n => decide (n < 8)
  | .runwaitExpire n => decide (n < 8)
  | .sideIngestDone n => decide (n < 8)
  | .shwFlip q k v => q.ok && decide (k < 256) && decide (v < 2 ^ 32)
  | .shwAccess q _ page off w v => q.ok && decide (page < 256) && decide (off < 8192) && widthOk w && decide (v < 2 ^ 64)
  | .qringWrite q n v => q.ok && decide (n < 4) && decide (v < 2 ^ 32)
  | .dcpJobPush q n lo hi st fsn _ => q.ok && decide (n < 4) && decide (lo < 2 ^ 32) && decide (hi < 2 ^ 32) && decide (st < 8) && decide (fsn < 2 ^ 32)
  | .dcpBlockDecode n _ => decide (n < 4)
  | .qstEcc n _ => decide (n < 4)
  | .dcpUnitReset n => (match n with | some k => decide (k < 4) | none => true)
  | .add i _ _ _ => decide (i < 24)
  | .sub i _ _ _ => decide (i < 24)
  | .and i _ _ _ => decide (i < 24)
  | .or i _ _ _ => decide (i < 24)
  | .xor i _ _ _ => decide (i < 24)
  | .sll i _ _ _ => decide (i < 24)
  | .srl i _ _ _ => decide (i < 24)
  | .sra i _ _ _ => decide (i < 24)
  | .slt i _ _ _ => decide (i < 24)
  | .sltu i _ _ _ => decide (i < 24)
  | .mul i _ _ _ => decide (i < 24)
  | .mulh i _ _ _ => decide (i < 24)
  | .mulhu i _ _ _ => decide (i < 24)
  | .dvs i _ _ _ => decide (i < 24)
  | .dvu i _ _ _ => decide (i < 24)
  | .min i _ _ _ => decide (i < 24)
  | .max i _ _ _ => decide (i < 24)
  | .jalr i _ _ _ => decide (i < 24)
  | .mfs i _ _ _ => decide (i < 24)
  | .mts i _ _ _ => decide (i < 24)
  | .eret i _ _ _ => decide (i < 24)
  | .fence i _ _ _ => decide (i < 24)
  | .addi i _ _ _ => decide (i < 24)
  | .andi i _ _ _ => decide (i < 24)
  | .ori i _ _ _ => decide (i < 24)
  | .xori i _ _ _ => decide (i < 24)
  | .slti i _ _ _ => decide (i < 24)
  | .sltiu i _ _ _ => decide (i < 24)
  | .slli i _ _ _ => decide (i < 24)
  | .srli i _ _ _ => decide (i < 24)
  | .srai i _ _ _ => decide (i < 24)
  | .lui i _ _ _ => decide (i < 24)
  | .lw i _ _ _ _ => decide (i < 24)
  | .lh i _ _ _ _ => decide (i < 24)
  | .lhu i _ _ _ _ => decide (i < 24)
  | .lb i _ _ _ _ => decide (i < 24)
  | .lbu i _ _ _ _ => decide (i < 24)
  | .sw i _ _ _ => decide (i < 24)
  | .sh i _ _ _ => decide (i < 24)
  | .sb i _ _ _ => decide (i < 24)
  | .ld i _ _ _ _ => decide (i < 24)
  | .sd i _ _ _ => decide (i < 24)
  | .beq i _ _ _ => decide (i < 24)
  | .bne i _ _ _ => decide (i < 24)
  | .blt i _ _ _ => decide (i < 24)
  | .bge i _ _ _ => decide (i < 24)
  | .bltu i _ _ _ => decide (i < 24)
  | .bgeu i _ _ _ => decide (i < 24)
  | .jal i _ _ => decide (i < 24)
  | .atTime i _ _ _ => decide (i < 24)
  | .waitc i _ _ _ => decide (i < 24)
  | .waitcComplete i => decide (i < 24)
  | .wedge i _ _ _ => decide (i < 24)
  | .wedgeEdge src _ => decide (src < 64)
  | .wedgeTimeout i => decide (i < 24)
  | .snap i _ _ _ => decide (i < 24)
  | .emit i _ _ _ => decide (i < 24)
  | .rpush i _ _ _ => decide (i < 24)
  | .rpop i _ _ _ => decide (i < 24)
  | .ringWaitComplete i => decide (i < 24)
  | .claim i _ _ _ => decide (i < 24)
  | .free i _ _ _ => decide (i < 24)
  | .bfclr i _ _ _ _ _ => decide (i < 24)
  | .bfld i _ _ _ _ _ => decide (i < 24)
  | .bfst i _ _ _ _ => decide (i < 24)
  | .bfmac i _ _ _ _ _ => decide (i < 24)
  | .bfnorm i _ _ _ _ _ => decide (i < 24)
  | .slew i _ _ _ _ _ => decide (i < 24)
  | .minsel i _ _ _ _ _ => decide (i < 24)
  | .tbl i _ _ _ _ _ _ => decide (i < 24)
  | .storeError i a => decide (i < 24) && decide (a < 2 ^ 32)
  | .sampleInterrupt i => decide (i < 24)
  | .watchdogExpire i => decide (i < 24)
  | .spareMapComplete => true
  | .motRun n _ => decide (n < 8)
  | .motSpeed n v => decide (n < 8) && decide (v < 2 ^ 32)
  | .motGear n _ => decide (n < 8)
  | .motCoast n => decide (n < 8)
  | .motVcmd n v => decide (n < 8) && decide (v < 2 ^ 32)
  | .motOffsetDone n _ _ => decide (n < 8)
  | .pwmPeriodStart n _ => decide (n < 8)
  | .motHall n code => decide (n < 8) && decide (code < 8)
  | .motEnc n _ => decide (n < 8)
  | .catchWindowEnd n _ _ angle => decide (n < 8) && decide (angle < 65536)
  | .motOverspeed n _ => decide (n < 8)
  | .brakeDone n _ => decide (n < 8)
  | .motCatch n => decide (n < 8)
  | .alignDwellEnd n => decide (n < 8)
  | .motOpen n phase _ => decide (n < 8) && decide (phase < 3)
  | .motStart n => decide (n < 8)
  | .busSample k _ _ => decide (k < 12)
  | .busChop k => decide (k < 12)
  | .busOv2 k => decide (k < 12)
  | .ztExit n => decide (n < 8)
  | .ascExit n _ => decide (n < 8)
  | .motDesat n => decide (n < 8)
  | .stpGo k => decide (k < 12)
  | .stpStop k => decide (k < 12)
  | .stpHalt k => decide (k < 12)
  | .profileUpdate k => decide (k < 12)
  | .holdtExpire k => decide (k < 12)
  | .posWrite q k v => q.ok && decide (k < 12) && decide (v < 2 ^ 32)
  | .latchEdge k _ stamp => decide (k < 12) && decide (stamp < 2 ^ 64)
  | .stpOpen k coil _ => decide (k < 12) && decide (coil < 2)
  | .stpShort k coil _ => decide (k < 12) && decide (coil < 2)
  | .portResult _ _ => true
  | .fusDrive f v => decide (f < 2) && decide (v < 2 ^ 32)
  | .fusZvs f _ => decide (f < 2)
  | .floorDecay f => decide (f < 2)
  | .fusOc f _ => decide (f < 2)
  | .fusBand f => decide (f < 2)
  | .fusStale f => decide (f < 2)
  | .hvLevel k v => decide (k < 12) && decide (v < 2 ^ 32)
  | .hvDrive k _ _ => decide (k < 12)
  | .hvBand k => decide (k < 12)
  | .hvArc k _ => decide (k < 12)
  | .hvArcHoldEnd k => decide (k < 12)
  | .hvShort k => decide (k < 12)
  | .hvOpen k => decide (k < 12)
  | .synEnable q n _ => q.ok && decide (n < 6)
  | .synLocked n => decide (n < 6)
  | .synLock n cause => decide (n < 6) && decide (cause < 256)
  | .alignMeasure n ofs => decide (n < 6) && decide (ofs < 160)
  | .alignValid n ofs => decide (n < 6) && decide (ofs < 160)
  | .profileCopyDone n => decide (n < 6)
  | .ckoenWrite v => decide (v < 2 ^ 32)
  | .thmSample _ => true
  | .thmShutHold => true
  | .thmRestart => true
  | .txSample _ => true
  | .thmPair p => decide (p < 10)
  | .pgChange r _ => decide (r < 24)
  | .failholdExpire _ => true
  | .failgapRelease => true
  | .halt => true
  | .en _ => true
  | .dis _ => true
  | .wait => true
  | .waitpg => true
  | .check => true
  | .jmp => true
  | .jmpif => true
  | .sync => true
  | .margin _ _ => true
  | .psqWaitDone => true
  | .waitpgDone => true
  | .waitpgFail => true
  | .syncDone _ => true
  | .psqSync => true
  | .psqVin mv => decide (mv < 2 ^ 16)
  | .vinholdExpire => true
  | .vinRecovery mv => decide (mv < 2 ^ 16)
  | .minoffEnd => true
  | .wakeEdge => true
  | .wakeAlarm => true
  | .on q v => q.ok && decide (v < 2 ^ 32)
  | .off q v => q.ok && decide (v < 2 ^ 32)
  | .runat q v => q.ok && decide (v < 2 ^ 32)
  | .clear q v => q.ok && decide (v < 2 ^ 32)
  | .idle q v => q.ok && decide (v < 2 ^ 32)
  | .run q v => q.ok && decide (v < 2 ^ 32)
  | .sleep q v => q.ok && decide (v < 2 ^ 32)
  | .shelf q v => q.ok && decide (v < 2 ^ 32)
  | .psqCmdMargin q v _ _ => q.ok && decide (v < 2 ^ 32)
  | .psqState n _ => decide (n < 16)
  | .psqReached k _ => decide (k < 8)
  | .psqRequest code _ => decide (code < 16)
  | .pmbusPoll _ => true
  | .start n => decide (n < 8)
  | .din32 q n v => q.ok && decide (n < 8) && decide (v < 2 ^ 32)
  | .din8 q n v => q.ok && decide (n < 8) && decide (v < 2 ^ 32)
  | .ckuCfgWrite q n v => q.ok && decide (n < 8) && decide (v < 2 ^ 32)
  | .faultEvent source code detail _ reason _ => decide (source < 256) && decide (code < 256) && decide (detail < 256) && decide (reason < 16)
  | .classbDeadline k => decide (k < 16)
  | .fclAck index seq => decide (index < 16) && decide (seq < 256)
  | .fclForce q k v => q.ok && decide (k < 256) && decide (v < 2 ^ 32)
  | .ringcfgWrite q v => q.ok && decide (v < 2 ^ 32)
  | .fclSelf copy => decide (copy < 2)
  | .leave key => decide (key < 256)
  | .jrnRecordRequest type stream try_ _ _ fsn stamp aux => decide (type < 16) && decide (stream < 8) && decide (try_ < 16) && decide (fsn < 2 ^ 32) && decide (stamp < 2 ^ 64) && decide (aux < 2 ^ 32)
  | .jrnCommitComplete _ => true
  | .jrnMirror => true
  | .flushComplete => true
  | .flush q => q.ok
  | .init q => q.ok
  | .release q => q.ok
  | .journalReplay _ => true
  | .replayComplete => true
  | .reportPost => true
  | .ridxWrite q v => q.ok && decide (v < 2 ^ 32)
  | .ridxFetchDone => true
  | .otpArrayRead _ _ _ => true
  | .otpScrub => true
  | .otpScrubDone _ => true
  | .program q key votp => q.ok && decide (key < 256) && decide (votp < 2 ^ 16)
  | .lock q key region votp => q.ok && decide (key < 256) && decide (region < 16) && decide (votp < 2 ^ 16)
  | .repair q key votp => q.ok && decide (key < 256) && decide (votp < 2 ^ 16)
  | .otpBurnDone _ _ => true
  | .otpWindow votp => decide (votp < 2 ^ 16)
  | .nonce q key => q.ok && decide (key < 256)
  | .enterMaker q key votp => q.ok && decide (key < 256) && decide (votp < 2 ^ 16)
  | .enterField q key votp => q.ok && decide (key < 256) && decide (votp < 2 ^ 16)
  | .consent q key votp => q.ok && decide (key < 256) && decide (votp < 2 ^ 16)
  | .token q key votp => q.ok && decide (key < 256) && decide (votp < 2 ^ 16)
  | .scrap q key votp => q.ok && decide (key < 256) && decide (votp < 2 ^ 16)
  | .hywEnable q n _ => q.ok && decide (n < 8)
  | .hywBreak n => decide (n < 8)
  | .hywAnnounce n byte _ => decide (n < 8) && decide (byte < 256)
  | .hywAnnounceTimeout n => decide (n < 8)
  | .ident n => decide (n < 8)
  | .auth n => decide (n < 8)
  | .hywAdd n => decide (n < 8)
  | .read n => decide (n < 8)
  | .hywResponse n bs => decide (n < 8) && bs.all (fun b => decide (b < 256))
  | .hywResponseTimeout n => decide (n < 8)
  | .meter q n v => q.ok && decide (n < 8) && decide (v < 2 ^ 32)
  | .reauth q n => q.ok && decide (n < 8)
  | .hywLine n detail => decide (n < 8) && decide (detail < 256)
  | .lineTest n _ => decide (n < 8)
  | .roscCount _ => true
  | .hostenWrite q v => q.ok && decide (v < 2 ^ 32)
  | .obsRunWrite q _ => q.ok
  | .counterWrap k => decide (k < 64)
  | .bwWindowEdge => true
  | .traceRecord stamp origin code aux type data => decide (stamp < 2 ^ 64) && decide (origin < 256) && decide (code < 256) && decide (aux < 256) && decide (type < 4) && decide (data < 2 ^ 32)
  | .traceOut _ => true
  | .mark q v => q.ok && decide (v < 2 ^ 32)
  | .padcfgWrite q i v => q.ok && decide (i < 1444) && decide (v < 2 ^ 32)
  | .snswireWrite q v => q.ok && decide (v < 2 ^ 32)
  | .snsWire k => decide (k < 32)
  | .snsWireClear k => decide (k < 32)
  | .linkDown n => decide (n < 2)
  | .memChan n => decide (n < 2)
  | .ringMemoryWrite q a w v => q.ok && decide (a < 2 ^ 40) && widthOk w && decide (v < 2 ^ 64)
  | .registerRead q a w => q.ok && decide (a < 2 ^ 40) && widthOk w

end Sys2Proof
end

