-- ==== Sys2Proof/Certificates/Slice0/Obligations.lean ====
section
/-! DEFINITION. The statements for the provers. -/

open Sys2Proof Sys2Proof.Machine

/-- A step runs the command at the front of the queue on the state with the queue's rest. In part this rests on choices of the model: log 60. -/
def Obligations.StepRunsFront : Prop :=
  ∀ (s : State) (c : Instr) (rest : List Instr), s.pending = c :: rest → step s = exec c { s with pending := rest }

/-- k idle steps advance the AON clock by k, and cord time by k modulo 2^64 while SYN0 stays locked (R17). In part this rests on choices of the model: log 11,
35 and 72. -/
def Obligations.IdleTicksCount : Prop :=
  ∀ (k : Nat) (s : State), s.pending = [] → s.settled → s.clocked = true →
    ∃ t, Sys2Proof.core.run k s = .next t ∧ t.aon = s.aon + k ∧ t.cord = s.cord + BitVec.ofNat 64 k ∧ t.pending = [] ∧ t.gath = s.gath

/-- No command and no tick leaves a kettle entry or an OBS_LOST that it has caused undone: in every state in which nothing is due, nothing is due after a step
(R335, R417). In part this rests on choices of the model: log 42. -/
def Obligations.NothingLeftDue : Prop :=
  ∀ s t : State, s.settled → step s = .next t → t.settled

/-- The memories keep their canonical form over every step. In part this rests on choices of the model: log 4. -/
def Obligations.MemoryFormKept : Prop :=
  ∀ s t : State, Memory.wf s = true → step s = .next t → Memory.wf t = true

/-- Every command completes and touches no waiting command: exec answers a next state, neither a fault nor a refusal, whose queue is the one it was given. In
part this rests on choices of the model: log 12. -/
def Obligations.EveryCommandCompletes : Prop :=
  ∀ (c : Instr) (s : State), Runs c s (fun t => t.pending = s.pending)

/-- What holds right after power-on reset: the memories in canonical form, nothing due, cord time 0 (R38), no claim (R33), no folio, boot stage 0. Registers
at reset: every register of every map reads its reset column in both copies (R37, R38), but for the three words that OTP and test set (log 8). In part this
rests on choices of the model: log 8 and 50. -/
def Obligations.ResetState : Prop :=
  (Memory.wf State.reset = true ∧ State.reset.settled ∧ State.reset.cord = 0 ∧ State.reset.pending = [] ∧ (∀ rid, State.reset.owned rid = false)
    ∧ State.reset.gath.folios = [] ∧ State.reset.g F.LCS_BOOTSTAT_STAGE = 0)
  ∧ (∀ (r : Reg) (n k : Nat), r ≠ .TCE_SPARE → r ≠ .OTP_DEVID → r ≠ .OTP_STAT → n < r.block.count → k < r.row.count →
    State.reset.word r n k = r.resetWord.toNat ∧ State.reset.active r n k = r.resetWord.toNat)

/-- A register write of 32 bits acts by the access codes (R11): FCL.CLASSB.TIMER takes a value its map allows, and CORD.STAT.RESTARTED is cleared by a 1 and
kept by a 0; memory and every other unit stay. So does a write of any register without an effect of its own, field by field; a word of an absent resource and
an active copy (R34) ignore writes. A register write that places a reserved encoding leaves the register unchanged and is a class-A fault of the unit (R13),
and one of another width or alignment is discarded with a fault of the requester (R10). In part this rests on choices of the model: log 27. -/
def Obligations.RegisterWrites : Prop :=
  (∀ (s : State) (q : Requester) (v : Nat), s.settled → s.present q →
    (10 ≤ bits v 19 0 → bits v 19 0 ≤ 1000000 →
      Runs (.registerWrite q (Reg.addr .FCL_CLASSB 0 0) 4 v) s (fun t => t.g F.FCL_CLASSB_TIMER = bits v 19 0 ∧ t.mem = s.mem ∧ t.gath = s.gath
        ∧ t.g F.CORD_STAT_RESTARTED = s.g F.CORD_STAT_RESTARTED))
    ∧ Runs (.registerWrite q (Reg.addr .CORD_STAT 0 0) 4 v) s (fun t =>
        t.g F.CORD_STAT_RESTARTED = (if bit v 31 then 0 else s.g F.CORD_STAT_RESTARTED) ∧ t.g F.CORD_STAT_RUN = s.g F.CORD_STAT_RUN
          ∧ t.g F.CORD_STAT_VID_OK = s.g F.CORD_STAT_VID_OK ∧ t.mem = s.mem ∧ t.gath = s.gath)
    ∧ (∀ (r : Reg) (n k : Nat), s.plainWrite q r n k v → v < 2 ^ 32 → Runs (.registerWrite q (r.addr n k) 4 v) s (fun t =>
        fieldsWritten r (s.word r n k) v (t.word r n k) ∧ s.onlyReg t (r.addr n k) ∧ t = { s with regs := t.regs, obs := t.obs }))
    ∧ (∀ a, a < ringMemBase → a % 4 = 0 → (s.place a).ignoresWrites = true → Runs (.registerWrite q a 4 v) s (fun t => t = { s with obs := t.obs })))
  ∧ (∀ (s : State) (i v : Nat), s.calm → s.histRoom → s.present (.core i) →
    (bits v 19 0 < 10 → Runs (.registerWrite (.core i) (Reg.addr .FCL_CLASSB 0 0) 4 v) s (fun t =>
      t.word .FCL_CLASSB 0 0 = s.word .FCL_CLASSB 0 0 ∧ t.reported 0 0xF2 i ∧ t.gath = s.gath))
    ∧ ∀ w, (w = 1 ∨ w = 2 ∨ w = 8) → Runs (.registerWrite (.core i) (Reg.addr .FCL_CLASSB 0 0) w v) s (fun t =>
      t.word .FCL_CLASSB 0 0 = s.word .FCL_CLASSB 0 0 ∧ t.reported (40 + i) 0xF0 i ∧ t.gath = s.gath))

/-- A register read of 32 bits gives the requester the register's value and changes no register; one of another width returns zero with a fault (R10). An
access outside every window returns zero and is a class-A fault of the requester (R23, R24); a write of retention SRAM, which JRN alone writes (R23), is one
too. Cord time is read coherently (R14): a read of NOW_LO captures the high half for the requester, and its next read of NOW_HI returns what was captured,
however far the counter has gone meanwhile. A pair is written coherently (R14): a write of _LO is staged and leaves the register, and the write of _HI by the
same requester commits both halves; a write of _HI alone commits with the present low half. In part this rests on choices of the model: log 5 and 27. -/
def Obligations.RegisterReads : Prop :=
  (∀ (s : State) (q : Requester), s.settled → s.present q →
    Runs (.registerRead q (Reg.addr .FCL_CLASSB 0 0) 4) s (fun t =>
      t.busData = some (q, s.word .FCL_CLASSB 0 0) ∧ t.regs = s.regs ∧ t.mem = s.mem ∧ t.captured = s.captured ∧ t.staged = s.staged ∧ t.gath = s.gath)
    ∧ (∀ r n k, s.stands r n k → r.row.half = .none → Runs (.registerRead q (r.addr n k) 4) s (fun t =>
        t = { s with busData := some (q, s.regValue r n k), obs := t.obs }))
    ∧ (∀ a, a < ringMemBase → a % 4 = 0 → s.place a = .quiet → Runs (.registerRead q a 4) s (fun t => t = { s with busData := some (q, 0), obs := t.obs }))
    ∧ (s.calm → s.histRoom → ∀ i, q = .core i → Runs (.registerRead q (Reg.addr .FCL_CLASSB 0 0) 2) s (fun t =>
        t.busData = some (q, 0) ∧ t.reported (40 + i) 0xF0 i)))
  ∧ (∀ (s : State) (q : Requester) (a w v : Nat), s.calm → s.histRoom → s.present q → s.reaches q a = true → (w = 1 ∨ w = 2 ∨ w = 4 ∨ w = 8) →
    (s.place a = .none → Runs (.unmapped q false a w v) s (fun t => t.busData = some (q, 0) ∧ t.reported q.source 0xF1 q.detail
        ∧ t = { s.noted t with busData := t.busData } ∧ s.regsKept t [(.FCL, 0), (.TCE, 0)]))
    ∧ (s.place a = .none ∨ s.place a = .mirror → Runs (.unmapped q true a w v) s (fun t => t.reported q.source 0xF1 q.detail
        ∧ t = s.noted t ∧ s.regsKept t [(.FCL, 0), (.TCE, 0)]))
    ∧ (0x480000 ≤ a → a < 0x500000 → s.place a = .none))
  ∧ (∀ (s : State) (q : Requester), s.settled → s.present q →
    Runs (.pairLoRead q (Reg.addr .CORD_NOW_LO 0 0)) s (fun t => t.busData = some (q, s.now % 2 ^ 32) ∧ t.mem = s.mem ∧ t.regs = s.regs
      ∧ ∀ c : DWord, Runs (.pairHiRead q (Reg.addr .CORD_NOW_HI 0 0)) { t with cord := c } (fun u =>
          u.busData = some (q, s.now / 2 ^ 32) ∧ u.mem = s.mem ∧ u.regs = s.regs))
    ∧ ∀ lo hi n k, s.plainPair lo hi n k →
        Runs (.pairLoRead q (lo.addr n k)) s (fun t => t.busData = some (q, s.regValue lo n k) ∧ t.regs = s.regs ∧ t.mem = s.mem
          ∧ Runs (.pairHiRead q (hi.addr n k)) t (fun u => u.busData = some (q, s.regValue hi n k) ∧ u.regs = s.regs ∧ u.mem = s.mem))
        ∧ (Cells.get none (q.key (lo.addr n k)) s.captured = none → Runs (.pairHiRead q (hi.addr n k)) s (fun t =>
            t = { s with busData := some (q, s.regValue hi n k), obs := t.obs })))
  ∧ ((∀ (s : State) (q : Requester) (n l h : Nat), s.settled → s.present q → n < 2 → n < s.hosts → l % 2 ^ 28 = 0 → l < 2 ^ 32 → h < 8 →
    Runs (.pairLoWrite q (Reg.addr .DMA_APER_BASE_LO 0 n) l) s (fun t =>
      t.word .DMA_APER_BASE_LO 0 n = s.word .DMA_APER_BASE_LO 0 n ∧ t.word .DMA_APER_BASE_HI 0 n = s.word .DMA_APER_BASE_HI 0 n ∧ t.mem = s.mem
      ∧ Runs (.pairHiWrite q (Reg.addr .DMA_APER_BASE_HI 0 n) h) t (fun u =>
          u.g (F.DMA_APER_BASE_LO_BASE n) = l ∧ u.g (F.DMA_APER_BASE_HI_BASE n) = h ∧ u.mem = s.mem)))
  ∧ (∀ (s : State) (q : Requester) (lo hi : Reg) (n k v : Nat), s.settled → s.present q → s.plainPair lo hi n k → v < 2 ^ 32 →
    let l := (Cells.get none (q.key (lo.addr n k)) s.staged).getD (s.word lo n k)
    Runs (.pairLoWrite q (lo.addr n k) v) s (fun t => t = { s with staged := Cells.put none (q.key (lo.addr n k)) (some v) s.staged, obs := t.obs })
    ∧ (s.pairOpen lo n k l v → Runs (.pairHiWrite q (hi.addr n k) v) s (fun t =>
        fieldsWritten lo (s.word lo n k) l (t.word lo n k) ∧ fieldsWritten hi (s.word hi n k) v (t.word hi n k)
          ∧ t = { s with regs := t.regs, obs := t.obs, staged := Cells.put none (q.key (lo.addr n k)) none s.staged }))))

/-- Ring memory takes aligned writes of 4 and 8 bytes (R25): the bytes read back, and no other byte of memory changes; any other width or alignment is
discarded with a fault of the requester. A shared page is open to the side that owns it alone (R166): the owner's write lands and its read gives the bytes, at
any width; the other side's write is discarded, and its read gives zero or, to an endpoint, all ones, with a fault on SHW. BAR4 writes land in MAKER and
RETURNED only (R26): there the aperture's bytes change, and in FIELD and SCRAP the write is discarded with LIFECYCLE. In part this rests on choices of the
model: log 18, 26, 30 and 31. -/
def Obligations.MemoryWindows : Prop :=
  (∀ (s : State) (q : Requester) (a w v : Nat), s.settled → s.present q → ringMemBase ≤ a → a + w ≤ ringMemBase + ringMemSize →
    ((w = 4 ∨ w = 8) → a % w = 0 → Runs (.ringMemoryWrite q a w v) s (fun t => t.rd a w = v % 256 ^ w ∧ (∀ b, b < a ∨ a + w ≤ b → t.rd b 1 = s.rd b 1) ∧ t.claims = s.claims
      ∧ t.gath = s.gath ∧ t.g F.CORD_STAT_RUN = s.g F.CORD_STAT_RUN))
    ∧ ((w = 1 ∨ w = 2 ∨ ((w = 4 ∨ w = 8) ∧ a % w ≠ 0)) → s.calm → s.histRoom → Runs (.ringMemoryWrite q a w v) s (fun t =>
        t.reported q.source 0xF0 q.detail ∧ t = s.noted t)))
  ∧ (∀ (s : State) (q : Requester) (page off w v : Nat), s.calm → s.histRoom → s.present q → page < 256 → (w = 1 ∨ w = 2 ∨ w = 4 ∨ w = 8) → off + w ≤ 8192 →
    (s.g (F.SHW_PAGE_OWNER page) = (if q.isHost then 0 else 1) →
      Runs (.shwAccess q true page off w v) s (fun t => t.rd (sharedBase + 8192 * page + off) w = v % 256 ^ w ∧ t.regs = s.regs
        ∧ ∀ b, b < sharedBase + 8192 * page + off ∨ sharedBase + 8192 * page + off + w ≤ b → t.rd b 1 = s.rd b 1)
      ∧ Runs (.shwAccess q false page off w v) s (fun t =>
        t = { s with busData := some (q, s.rd (sharedBase + 8192 * page + off) w), obs := t.obs }))
    ∧ (s.g (F.SHW_PAGE_OWNER page) = (if q.isHost then 1 else 0) →
      Runs (.shwAccess q true page off w v) s (fun t =>
        t.rd (sharedBase + 8192 * page + off) w = s.rd (sharedBase + 8192 * page + off) w ∧ t.reported 14 0xF8 q.detail)
      ∧ Runs (.shwAccess q false page off w v) s (fun t =>
        t.busData = some (q, if q.isHost then 2 ^ (8 * w) - 1 else 0) ∧ t.reported 14 0xF8 q.detail)))
  ∧ (∀ (s : State) (n off w v : Nat), s.settled → s.present (.host n) → (w = 1 ∨ w = 2 ∨ w = 4 ∨ w = 8) → off + w ≤ 2 ^ 28 → s.pageUp = true →
    s.g (F.DMA_APER_BASE_LO_BASE n) + 2 ^ 32 * s.g (F.DMA_APER_BASE_HI_BASE n) + off + w ≤ s.pageSize →
    ((s.lifecycle = lcMAKER ∨ s.lifecycle = lcRETURNED) → Runs (.bar4Write n off w v) s (fun t =>
      t.rd (pageBase + s.g (F.DMA_APER_BASE_LO_BASE n) + 2 ^ 32 * s.g (F.DMA_APER_BASE_HI_BASE n) + off) w = v % 256 ^ w ∧ t.regs = s.regs ∧ t.claims = s.claims))
    ∧ (s.lifecycle ≠ lcMAKER → s.lifecycle ≠ lcRETURNED → s.calm → s.histRoom → Runs (.bar4Write n off w v) s (fun t =>
        t.reported (30 + n) 0xF7 (0x40 + n) ∧ t.gath = s.gath)))

/-- Ring pointers (R28): the producer moves QTAIL and the consumer QHEAD where there is room; a write by another requester, or one that would pass the other
pointer, is refused and leaves the pointer. Ring configuration (R29): a ring that is disabled takes any configuration, and EN where its region is free;
clearing EN sets QHEAD equal to QTAIL and takes the written configuration; a write of QCFG while EN stays 1, and EN for a region that is not free, are
refused; QBASE takes an offset while EN is 0, and is refused while it is 1. Claims by an endpoint (R30, R32, R33): a claim of a resource that has no owner is
granted; a claim of an owned one, or of none, is refused and leaves its owner; a free by the owner releases it, whatever its class, and one by another
requester is refused. In part this rests on choices of the model: log 23, 24 and 28. -/
def Obligations.RingsAndClaims : Prop :=
  (∀ (s : State) (q : Requester) (r n : Nat), s.settled → s.present q → r < 128 → n < 2 ^ s.g (F.TCE_QCFG_LOG2N r) → s.g (F.TCE_QCFG_LOG2N r) ≤ 12 →
    s.qhead r < s.ringLen r → s.qtail r < s.ringLen r →
    (s.ringProd r = q.owner → n ≤ s.ringFree r → Runs (.qtailWrite q r ((s.qtail r + n) % s.ringLen r)) s (fun t =>
      t.qtail r = (s.qtail r + n) % s.ringLen r ∧ t.qhead r = s.qhead r ∧ t.claims = s.claims ∧ (∀ i, q = .core i → t.mem = s.mem)))
    ∧ (s.ringProd r = q.owner → s.ringFree r < n → s.obsLevel = 0 → s.histRoom → r ≠ s.g F.FCL_RINGCFG_RING →
      Runs (.qtailWrite q r ((s.qtail r + n) % s.ringLen r)) s (fun t => t.qtail r = s.qtail r ∧ t.reported 4 0xF6 q.detail))
    ∧ (s.ringCons r = q.owner → n ≤ s.ringCount r → Runs (.qheadWrite q r ((s.qhead r + n) % s.ringLen r)) s (fun t =>
      t.qhead r = (s.qhead r + n) % s.ringLen r ∧ t.qtail r = s.qtail r ∧ t.mem = s.mem ∧ t.claims = s.claims))
    ∧ (s.ringCons r = q.owner → s.ringCount r < n → s.obsLevel = 0 → s.histRoom →
      Runs (.qheadWrite q r ((s.qhead r + n) % s.ringLen r)) s (fun t => t.qhead r = s.qhead r ∧ t.reported 4 0xF6 q.detail))
    ∧ (s.ringProd r ≠ q.owner → s.obsLevel = 0 → s.histRoom → r ≠ s.g F.FCL_RINGCFG_RING → Runs (.qtailWrite q r n) s (fun t =>
        t.qtail r = s.qtail r ∧ t.reported 4 0xF6 q.detail))
    ∧ (s.ringCons r ≠ q.owner → s.obsLevel = 0 → s.histRoom → Runs (.qheadWrite q r n) s (fun t => t.qhead r = s.qhead r ∧ t.reported 4 0xF6 q.detail)))
  ∧ (∀ (s : State) (q : Requester) (r v : Nat), s.settled → s.present q → r < 128 →
    let s1 := s.setWord .TCE_QCFG 0 r (bits v 31 8 * 256 + v % 2)
    (s.ringEn r = true → bit v 0 = false → s.qcfgOk r v = true → Runs (.qcfgWrite q r v) s (fun t =>
      t.ringEn r = false ∧ t.qhead r = s.qtail r ∧ t.qtail r = s.qtail r ∧ t.g (F.TCE_QCFG_LOG2N r) = bits v 11 8 ∧ t.g (F.TCE_QCFG_PROD r) = bits v 31 28
        ∧ t.mem = s.mem))
    ∧ (s.ringEn r = false → s.qcfgOk r v = true → bit v 0 = false ∨ s1.regionOk r = true → Runs (.qcfgWrite q r v) s (fun t => t = s1))
    ∧ (s.ringEn r = true ∧ bit v 0 = true ∨ s.ringEn r = false ∧ bit v 0 = true ∧ s.qcfgOk r v = true ∧ s1.regionOk r = false → s.calm → s.histRoom →
      Runs (.qcfgWrite q r v) s (fun t => t.word .TCE_QCFG 0 r = s.word .TCE_QCFG 0 r ∧ t.reported 4 0xF6 q.detail))
    ∧ (s.ringEn r = false → Runs (.qbaseWrite q r v) s (fun t => t.g (F.TCE_QBASE_OFFSET r) = bits v 19 6 ∧ t.mem = s.mem))
    ∧ (s.ringEn r = true → s.calm → s.histRoom → Runs (.qbaseWrite q r v) s (fun t => t.g (F.TCE_QBASE_OFFSET r) = s.g (F.TCE_QBASE_OFFSET r)
        ∧ t.reported 4 0xF6 q.detail)))
  ∧ (∀ (s : State) (n rid : Nat), s.settled → s.present (.host n) → rid < 65536 →
    (s.ridExists rid = true → s.owned rid = false → Runs (.pmxClaim (.host n) rid) s (fun t =>
      t.ownerOf rid = ⟨1 + n, 0⟩ ∧ t.g (F.PMX_CLAIMRES_GRANTED n) = 1 ∧ t.g (F.PMX_CLAIMRES_RID n) = rid ∧ ∀ r', r' ≠ rid → t.ownerOf r' = s.ownerOf r'))
    ∧ (s.owned rid = true ∨ s.ridExists rid = false → s.obsLevel = 0 → s.histRoom → Runs (.pmxClaim (.host n) rid) s (fun t =>
      t.ownerOf rid = s.ownerOf rid ∧ t.g (F.PMX_CLAIMRES_GRANTED n) = 0 ∧ t.reported (30 + n) 0xF3 (0x40 + n)))
    ∧ (s.ridExists rid = true → s.owns (.host n) rid = true →
      Runs (.pmxFree (.host n) rid) s (fun t => t.owned rid = false ∧ t.g (F.PMX_CLAIMRES_GRANTED n) = 1 ∧ ∀ r', r' ≠ rid → t.ownerOf r' = s.ownerOf r'))
    ∧ (s.ridExists rid = true → s.owns (.host n) rid = false → s.obsLevel = 0 → s.histRoom → Runs (.pmxFree (.host n) rid) s (fun t =>
      t.ownerOf rid = s.ownerOf rid ∧ t.g (F.PMX_CLAIMRES_GRANTED n) = 0 ∧ t.reported (30 + n) 0xF4 (0x40 + n)))
    ∧ (∀ i, s.present (.core i) → s.obsLevel = 0 → s.histRoom → Runs (.pmxClaim (.core i) rid) s (fun t => t.claims = s.claims ∧ t.reported (40 + i) 0xF4 i)
        ∧ Runs (.pmxFree (.core i) rid) s (fun t => t.claims = s.claims ∧ t.reported (40 + i) 0xF4 i)))

/-- A COMMIT (R34 to R36): GO by a requester that may write the set sets PEND and leaves both copies, and reaches the unit in its domain's time; the copy,
made at the set's update event once the COMMIT has reached the unit, or in the eighth cycle where the source of that event is stopped, takes the shadows to
the active copies and clears PEND. A write while PEND is 1 is rejected (R36): the shadow stays, LATE_CNT counts up to 0xFFFF, LATE_WR sets, and the first one
is a class-A fault. In part this rests on choices of the model: log 12 and 66. -/
def Obligations.CommitProtocol : Prop :=
  (∀ (s : State) (q : Requester) (x : ShadowSet), s.settled → s.setExists x = true →
    let copied := fun (t : State) => t.on x.pend = false ∧ ∀ rc ∈ x.regs, ∀ j, j < rc.2 →
      t.active rc.1 x.unit.2 j = s.word rc.1 x.unit.2 j ∧ t.word rc.1 x.unit.2 j = s.word rc.1 x.unit.2 j
    (s.present q → s.mayWrite q x.commitReg x.unit.2 = true → s.pendNow x = false → s.commitOf x = none → s.commitOk x = true →
      Runs (.commitGo q x) s (fun t => t.on x.pend = true ∧ s.onlyReg t (x.commitReg.addr x.unit.2 0) ∧ t.mem = s.mem
        ∧ t.commitOf x = some { set := x, go := s.now, reach := (match x.home with | .core => some s.now | .ctl => some (s.now + 3) | .vid => none) }))
    ∧ (s.reached x = true → s.updateNow x = true → Runs (.shadowCopy x) s (fun t => copied t))
    ∧ (∀ c r, s.commitOf x = some c → c.reach = some r → r + s.eightCycles x ≤ s.now → s.sourceStopped x = true →
        Runs (.shadowCopyStopped x) s (fun t => copied t ∧ t.mem = s.mem)))
  ∧ (∀ (s : State) (i n v : Nat), s.calm → s.histRoom → n < s.blockCount .STP → s.present (.core i) → s.ownsPort (.core i) (24 + 2 * n) = true →
    s.on (ShadowSet.stpProfile n).pend = true →
    Runs (.registerWrite (.core i) (Reg.addr .STP_VMAX n 0) 4 v) s (fun t =>
      t.word .STP_VMAX n 0 = s.word .STP_VMAX n 0 ∧ t.on (ShadowSet.stpProfile n).lateWr = true
        ∧ t.g (ShadowSet.stpProfile n).lateCnt = min (s.g (ShadowSet.stpProfile n).lateCnt + 1) 0xFFFF
        ∧ (s.on (ShadowSet.stpProfile n).lateWr = false → t.reported (90 + n) 0xF5 i) ∧ t.gath = s.gath))

/-- A follower out of its tolerance (R19): its bit of CORD.STAT clears and CORD_SLIP is raised with the domain's number; within it again, the bit sets and
nothing but CORD's register changes. Faults of links and memory channels, a unit that does not report the epoch, and PERST# (R38, R40, R333): a link down is a
class-A fault, a lost channel in service one of class C that enters the kettle state, a stale epoch one of class B; PERST# of an endpoint leaves claims, cord
time and folios. In part this rests on choices of the model: log 39, 40 and 42. -/
def Obligations.FollowersAndLinks : Prop :=
  (∀ s : State, s.plain →
    (s.on F.CORD_STAT_CORE_OK = true → Runs (.cordSlip 1) s (fun t => t.on F.CORD_STAT_CORE_OK = false ∧ t.reported 1 1 1
        ∧ t = s.noted t ∧ s.regsKept t [(.CORD, 0), (.FCL, 0), (.TCE, 0)]))
    ∧ (∀ k, k < s.blockCount .STR → s.vidOk k = true → Runs (.cordSlip (2 + k)) s (fun t => t.vidOk k = false ∧ t.reported 1 1 (2 + k)
        ∧ t = s.noted t ∧ s.regsKept t [(.CORD, 0), (.FCL, 0), (.TCE, 0)]))
    ∧ (s.synState 0 ≠ syOFF → Runs (.followerRestored 1) s (fun t => t.on F.CORD_STAT_CORE_OK = true ∧ t = { s with regs := t.regs }
        ∧ s.regsKept t [(.CORD, 0)]))
    ∧ (∀ k, k < s.blockCount .STR → s.synState (2 + k) = syLOCKED → s.on (F.SYN_ALIGN_VALID (2 + k)) = true →
        Runs (.followerRestored (2 + k)) s (fun t => t.vidOk k = true ∧ t = { s with regs := t.regs } ∧ s.regsKept t [(.CORD, 0)])))
  ∧ (∀ (s : State) (n : Nat), s.plain →
    (n < s.hosts → Runs (.linkDown n) s (fun t => t.reported (30 + n) 1 0 ∧ t = s.noted t ∧ s.regsKept t [(.FCL, 0), (.TCE, 0)]))
    ∧ (n < 2 → bit s.memChans n = true → Runs (.memChan n) s (fun t => t.reported (32 + n) 2 0 ∧ t.on F.FCL_STAT_KETTLE = true
      ∧ (s.on F.FCL_STAT_KETTLE = false → t.g F.FCL_STAT_KSRC = 32 + n ∧ t.g F.FCL_STAT_KCODE = 2)))
    ∧ (∀ x, s.jrn.endAt = some x → x + 10 * msTicks ≤ s.now → epochUnits.contains n = true → s.unitAbsent n = false →
        bit (s.word .JRN_UNITEP 0 (n / 32)) (n % 32) = false → Runs (.epochStale n) s (fun t => t.reported n 0xF9 0xFF ∧ t = s.noted t
          ∧ s.regsKept t [(.FCL, 0), (.TCE, 0)])))

/-- Events at actuators (R20, R21, R192): the owner's event, 16 ticks ahead or more, joins the queue in cord-time order; a later one is lost with ACT_LATE,
one at a taken time or at a full queue with ACT_REFUSED, one of another requester with NOT_OWNER; and once its tick has come the first event leaves the queue
and takes effect: a pad that is a cord-timed output takes its level, an HV port's DRIVE waits for the next carrier period (R271). In part this rests on
choices of the model: log 25. -/
def Obligations.ActuatorEvents : Prop :=
  ∀ (s : State) (q : Requester) (id t v : Nat), s.plain → (ridClass id = 1 ∨ ridClass id = 2) → t < 2 ^ 64 →
    (s.owns q id = true → s.now + 16 ≤ t → (∀ e ∈ s.actQueue id, e.t ≠ t) → (s.actQueue id).length < 32 → Runs (.actEventArrive q id t v) s (fun u =>
      u.actQueue id = insertEvent { t := t, kind := ridClass id, value := v % 2 ^ 32, folio := s.servedBy t } (s.actQueue id) ∧ u = { s with acts := u.acts }
        ∧ ∀ j, j ≠ id → u.actQueue j = s.actQueue j))
    ∧ (s.owns q id = true → t < s.now + 16 → Runs (.actEventArrive q id t v) s (fun u => u.acts = s.acts ∧ u.reported (actSource id) 0xFA q.detail
        ∧ u = s.noted u ∧ s.regsKept u [(.FCL, 0), (.TCE, 0)]))
    ∧ (s.owns q id = true → s.now + 16 ≤ t → ((∃ e ∈ s.actQueue id, e.t = t) ∨ 32 ≤ (s.actQueue id).length) →
        Runs (.actEventArrive q id t v) s (fun u => u.acts = s.acts ∧ u.reported (actSource id) 0xFB q.detail ∧ u = s.noted u
          ∧ s.regsKept u [(.FCL, 0), (.TCE, 0)]))
    ∧ (s.owns q id = false → Runs (.actEventArrive q id t v) s (fun u => u.acts = s.acts ∧ u.reported q.source 0xF4 q.detail ∧ u = s.noted u
        ∧ s.regsKept u [(.FCL, 0), (.TCE, 0)]))
    ∧ ∀ e rest, s.actQueue id = e :: rest → e.t ≤ s.now → ridClass id = 1 → (s.padFunc (ridIndex id) = 1 ∨ s.padFunc (ridIndex id) = 2) →
        s.on F.FCL_STAT_KETTLE = false → Runs (.actEventFire id) s (fun u => u.actQueue id = rest ∧ u.padOut (ridIndex id) = e.value % 2
          ∧ (∀ j, j ≠ ridIndex id → u.padOut j = s.padOut j) ∧ (∀ j, j ≠ id → u.actQueue j = s.actQueue j) ∧ u.regs = s.regs ∧ u.mem = s.mem)
    ∧ (∀ e rest, s.actQueue id = e :: rest → e.t ≤ s.now → Runs (.actEventFire id) s (fun u => u.actQueue id = rest ∧ (id, s.now, e.value) ∈ u.fired
        ∧ ∀ j, j ≠ id → u.actQueue j = s.actQueue j))
    ∧ (∀ k e rest, id = sliceRid (48 + k) → k < 12 → s.actQueue id = e :: rest → e.t ≤ s.now → bits e.value 31 28 = 2 → s.hvEn k = true → s.hvState k = hvRUN →
        s.hvBank k ≠ 0 → s.on F.FCL_STAT_KETTLE = false → Runs (.actEventFire id) s (fun u =>
          u.hvOf k = { s.hvOf k with age := 0, driven := some (s.now, bits e.value 27 14, bits e.value 13 0), next := some (bits e.value 27 14, bits e.value 13 0) }
            ∧ u = { s with acts := u.acts, fired := u.fired, hv := u.hv }))

/-- A pad's configuration (R430): the owner of a pad whose unit is off writes FUNC, pull, drive and the other writable fields; another requester is refused
with NOT_OWNER and the pad keeps its word. Sensor wiring (R441, R442): the owner of an input's pad says whether it is wired, and clearing that clears its
fault; a wired input outside its windows for 1 ms of the check is marked faulty and SNS_WIRE names it; between them again for 100 ms the mark clears. In part
this rests on choices of the model: log 12, 46 and 61. -/
def Obligations.PadsAndSensors : Prop :=
  (∀ (s : State) (q : Requester) (i v : Nat), s.plain → s.present q → i < 1444 → padClaimable i = true → s.padNC i = false →
    (s.owns q (padRid i) = true → s.padUnitOn i = false → padType i = 0 → bits v 19 16 ≤ 2 → bits v 15 14 ≠ 3 → Runs (.padcfgWrite q i v) s (fun t =>
      t.word .PMX_PADCFG 0 i = 256 * bits v 19 8 ∧ t = { s with regs := t.regs } ∧ s.regsKept t [(.PMX, 0)]
        ∧ ∀ j, j ≠ i → t.word .PMX_PADCFG 0 j = s.word .PMX_PADCFG 0 j))
    ∧ (s.owns q (padRid i) = true → bits v 19 16 ≤ 3 → bits v 15 14 ≠ 3 →
        (bits v 19 16 = s.padFunc i ∨ bits v 19 16 ≤ 2 ∧ padType i = 0 ∧ s.padUnitOn i = false) → Runs (.padcfgWrite q i v) s (fun t =>
          t.word .PMX_PADCFG 0 i = 256 * bits v 19 8 ∧ t = { s with regs := t.regs } ∧ s.regsKept t [(.PMX, 0)]))
    ∧ (s.owns q (padRid i) = true → s.padUnitOn i = true → bits v 19 16 ≠ s.padFunc i → Runs (.padcfgWrite q i v) s (fun t => t.reported 6 0xF8 q.detail
        ∧ t = s.noted t ∧ s.regsKept t [(.FCL, 0), (.TCE, 0)]))
    ∧ (s.owns q (padRid i) = false → Runs (.padcfgWrite q i v) s (fun t => t.reported q.source 0xF4 q.detail ∧ t = s.noted t
        ∧ s.regsKept t [(.FCL, 0), (.TCE, 0)])))
  ∧ (∀ (s : State) (q : Requester) (k v : Nat), s.plain → s.present q → k < 32 →
    Runs (.snswireWrite q v) s (fun t =>
        (s.owns q (padRid (snsPad k)) = true → bit (t.g F.PMX_SNSWIRE_EN) k = bit v k
          ∧ bit (t.g F.PMX_SNSSTAT_FAULTY) k = (bit v k && bit (s.g F.PMX_SNSSTAT_FAULTY) k))
        ∧ (s.owns q (padRid (snsPad k)) = false → bit (t.g F.PMX_SNSWIRE_EN) k = bit (s.g F.PMX_SNSWIRE_EN) k
          ∧ bit (t.g F.PMX_SNSSTAT_FAULTY) k = bit (s.g F.PMX_SNSSTAT_FAULTY) k
          ∧ (bit v k ≠ bit (s.g F.PMX_SNSWIRE_EN) k → t.reported q.source 0xF4 q.detail))
        ∧ t = { s.noted t with snsAt := t.snsAt } ∧ s.regsKept t [(.PMX, 0), (.FCL, 0), (.TCE, 0)])
    ∧ (bit (s.g F.PMX_SNSWIRE_EN) k = true → bit (s.g F.PMX_SNSSTAT_FAULTY) k = false → vget s.snsAt k + msTicks ≤ s.now → Runs (.snsWire k) s (fun t =>
        bit (t.g F.PMX_SNSSTAT_FAULTY) k = true ∧ t.reported 6 1 k ∧ (∀ j, j ≠ k → bit (t.g F.PMX_SNSSTAT_FAULTY) j = bit (s.g F.PMX_SNSSTAT_FAULTY) j)
          ∧ t = { s.noted t with snsAt := t.snsAt } ∧ s.regsKept t [(.PMX, 0), (.FCL, 0), (.TCE, 0)]))
    ∧ (bit (s.g F.PMX_SNSWIRE_EN) k = true → bit (s.g F.PMX_SNSSTAT_FAULTY) k = true → vget s.snsAt k + 100 * msTicks ≤ s.now → Runs (.snsWireClear k) s (fun t => bit (t.g F.PMX_SNSSTAT_FAULTY) k = false
        ∧ (∀ j, j ≠ k → bit (t.g F.PMX_SNSSTAT_FAULTY) j = bit (s.g F.PMX_SNSSTAT_FAULTY) j) ∧ t = { s with regs := t.regs, snsAt := t.snsAt } ∧ s.regsKept t [(.PMX, 0)])))

/-- Power-on reset and wake from SHELF (R38, R324): cord time restarts, memory, claims, folios and pins' queues go; FRAM, host memory and the fuses stay but
for a record or a burn in the making. Warm reset, by WRST_N or by the restart after thermal SHUT (R38, R306), and wake from SLEEP (R38, R323): the logic and
all memory but the retention SRAM are reset; PSQ, FRAM, host memory and the fuses stay; cord time and SYN0 continue over a warm reset while SYN0 is locked,
and restart otherwise. In part this rests on choices of the model: log 46. -/
def Obligations.Resets : Prop :=
  (∀ (s : State) (c : Instr), (c = .powerOnReset ∨ (c = .wakeEdge ∧ s.psq.asleep = 2)) → Runs c s (fun t =>
    t.cord = 0 ∧ t.mem = [] ∧ t.claims = [] ∧ t.gath.folios = [] ∧ t.acts = [] ∧ t.commits = [] ∧ t.psq = {} ∧ t.cores = State.reset.cores
      ∧ t.g F.LCS_BOOTSTAT_STAGE = 0 ∧ t.hostMem = s.hostMem ∧ (s.jrn.queue = [] → t.fram = s.fram) ∧ (s.otp.burn = none → t.otp.array = s.otp.array)
      ∧ t.word .OTP_DEVID 0 0 = s.word .OTP_DEVID 0 0 ∧ t.pending = s.pending))
  ∧ (∀ (s : State) (c : Instr), s.jrn.queue = [] → s.otp.burn = none →
    ((c = .warmReset ∨ (c = .thmRestart ∧ s.on F.THM_STAT_SHUT = true ∧ s.on F.THM_STAT_NORESTART = false
        ∧ ∃ x, s.thm.coolSince = some x ∧ x + 2000 * msTicks ≤ s.aon)) → Runs c s (fun t =>
      t.cord = (if s.synState 0 = syLOCKED then s.cord else 0) ∧ (s.synState 0 = syLOCKED → t.synState 0 = syLOCKED)
        ∧ (s.synState 0 = syHOLD → t.on F.CORD_STAT_RESTARTED = true) ∧ t.psq = s.psq ∧ t.psqState = s.psqState))
    ∧ (c = .wakeFromSleep → s.psq.woke = true → Runs c s (fun t => t.cord = 0 ∧ t.synState 0 = syOFF ∧ t.psqState = s.psqState))
    ∧ ((c = .warmReset ∨ c = .wakeFromSleep ∧ s.psq.woke = true) → Runs c s (fun t => t.claims = [] ∧ t.gath.folios = [] ∧ t.cores = State.reset.cores
        ∧ t.g F.LCS_BOOTSTAT_STAGE = 0 ∧ t.fram = s.fram ∧ t.hostMem = s.hostMem ∧ t.otp.array = s.otp.array ∧ t.pending = s.pending
        ∧ ∀ a, t.rd a 1 = (if mirrorBase ≤ a ∧ a < localBase then s.rd a 1 else 0))))

/-- A core reset (R38): with the key, the core starts again with general registers and vectors zero, and runs again if it ran, keeping its memory and claims;
of an absent core it is a reserved encoding, and with another key nothing but the fault STATE_REFUSED happens. A unit reset (R37, R38) puts every register of
the unit to its reset value in both copies and ends the pending commits of its sets; the claims, cord time and the epoch stay. The watchdog resets a core and
CORE_RESET names the cause 0x21 (R208); the spare, once its mapping is complete, runs as the failed core with SW.MAPPED set and the failure is reported
(R212). In part this rests on choices of the model: log 24, 47, 49 and 62. -/
def Obligations.CoreResets : Prop :=
  (∀ (s : State) (q : Requester) (key i : Nat), s.plain → s.present q → i < 32 → key < 256 →
    (∀ b n r, n < s.blockCount b → b.ctrlReg = some r → b ≠ .GATH → b ≠ .SYN → s.mayWrite q r n = true → s.on F.FCL_STAT_KETTLE = false → Runs (.unitReset q b n) s (fun t =>
      (∀ x k, x.block = b → k < x.row.count → t.word x n k = x.resetWord.toNat ∧ t.active x n k = x.resetWord.toNat)
      ∧ (∀ c ∈ t.commits, c.set.unit ≠ (b, n))
      ∧ t.claims = s.claims ∧ t.cord = s.cord ∧ t.g F.JRN_EPOCH_EPOCH = s.g F.JRN_EPOCH_EPOCH))
    ∧ (∀ n, 2 ≤ n → n < s.blockCount .SYN → s.on (F.STR_CTRL_EN (n - 2)) = false → Runs (.unitReset q .SYN n) s (fun t => t.synState n = syOFF ∧ t.on (F.SYN_CTRL_EN n) = false
        ∧ (∀ x k, x.block = .SYN → k < x.row.count → t.word x n k = x.resetWord.toNat) ∧ t.claims = s.claims ∧ t.cord = s.cord))
    ∧ (∀ n, n < 2 → Runs (.unitReset q .SYN n) s (fun t => t.reported (68 + n) 0xF8 q.detail ∧ t = s.noted t ∧ s.regsKept t [(.FCL, 0), (.TCE, 0)]))
    ∧ exec (.unitReset q .GATH 0) s = exec (.gathUnitReset q) s
    ∧ (key = 0x5A → s.hasCore i = true → Runs (.coreReset q key i) s (fun t =>
      t.coreState i = (if s.coreState i = csRESET ∨ s.coreState i = csFAILED ∨ s.coreState i = csSPARE then s.coreState i else csRUN)
      ∧ (∀ r, vget (vget t.cores i).g r = 0) ∧ (vget t.cores i).pc = 0xE0000000 ∧ (∀ j, j ≠ i → vget t.cores j = vget s.cores j)
      ∧ t = { s with regs := t.regs, cores := t.cores } ∧ s.regsKept t [(.TCE, 0)]))
    ∧ (key = 0x5A → s.hasCore i = false → Runs (.coreReset q key i) s (fun t => t.cores = s.cores ∧ t.reported 4 0xF2 q.detail ∧ t = s.noted t
        ∧ s.regsKept t [(.FCL, 0), (.TCE, 0)]))
    ∧ (key ≠ 0x5A → Runs (.coreReset q key i) s (fun t => t.cores = s.cores ∧ t.reported 4 0xF8 q.detail ∧ t = s.noted t
        ∧ s.regsKept t [(.FCL, 0), (.TCE, 0)])))
  ∧ (∀ (s : State) (i : Nat), s.plain →
    (s.coreLive i = true → s.g (F.TCE_WDOG_TIMEOUT i) ≠ 0 → (s.coreOf i).kick + s.g (F.TCE_WDOG_TIMEOUT i) * usTicks ≤ s.now → (s.coreOf i).resetAt = [] →
      Runs (.watchdogExpire i) s (fun t => t.coreState i = csRUN ∧ t.g (F.TCE_CSTAT_LASTCAUSE i) = 0x21 ∧ (t.coreOf i).pc = 0xE0000000 ∧ t.reported (40 + i) 2 0x21
        ∧ t.g (F.TCE_CSTAT_RESETS i) = min (s.g (F.TCE_CSTAT_RESETS i) + 1) 255 ∧ t.claims = s.claims ∧ ∀ j, j ≠ i → vget t.cores j = vget s.cores j))
    ∧ (s.mapping = some i → i < 24 → Runs .spareMapComplete s (fun t => t.mapping = none ∧ t.on F.TCE_SPARE_MAPPED = true ∧ t.g F.TCE_SPARE_FAILED = i
        ∧ t.coreState i = csRUN ∧ (t.coreOf i).sw &&& 0x200000 = 0x200000 ∧ t.reported 4 1 i ∧ t.claims = s.claims
        ∧ (s.g F.TCE_SPARE_CORE ≠ i → s.g F.TCE_SPARE_CORE < 24 → t.coreState (s.g F.TCE_SPARE_CORE) = csSPARE)
        ∧ ∀ j, j ≠ i → j ≠ s.g F.TCE_SPARE_CORE → vget t.cores j = vget s.cores j)))

/-- Boot (R41 to R45): the wires become valid and PSQ powers up; good core rails start SYN0 and SYN1; the ROM runs on T0, or halts in SCRAPPED; with no image
anywhere it waits for the host, and a host image with no header leaves it waiting with error 1; trained memory leads to replay, and memory that cannot be
trained halts the device in the kettle state. In part this rests on choices of the model: log 9, 41 and 45. -/
def Obligations.BootSequence : Prop :=
  ∀ s : State, s.plain →
    (∀ vin, s.stage = bsSENSE → s.otp.sensed = false → (if s.otp.read then s else s.modOtp (fun o => { o with shadow := o.array })).safeGroups = [] →
      Runs (.otpSenseDone vin) s (fun t =>
      t.stage = bsPOWERUP ∧ t.otp.sensed = true ∧ t.psq.loaded = true ∧ t.gath = s.gath ∧ t.cord = s.cord
        ∧ (s.psq.loaded = true → t = { s with regs := t.regs, otp := t.otp, wires := t.wires })))
    ∧ (s.stage = bsPOWERUP → s.devGood = true → s.synState 0 = syOFF → Runs .coreRailsGood s (fun t => t.synState 0 = syACQUIRE ∧ t.synState 1 = syACQUIRE
      ∧ t = { s with regs := t.regs } ∧ s.regsKept t [(.SYN, 0), (.SYN, 1)]))
    ∧ (∀ failed, s.stage = bsPOWERUP → s.synState 0 = syLOCKED → s.mapping = none → (∀ i, i < 24 → s.hasCore i = true → bit failed i = false) →
        Runs (.bootRomStart failed) s (fun t => t.stage = (if s.lifecycle = lcSCRAPPED then bsHALTED else bsROM) ∧ (s.lifecycle ≠ lcSCRAPPED → t.coreState 0 = csRUN)
          ∧ t = { s with regs := t.regs } ∧ s.regsKept t [(.LCS, 0), (.TCE, 0)]))
    ∧ (s.stage = bsROM → s.wires.bootsrc < 4 → Runs (.imageVerify none none) s (fun t => t.stage = bsWAITHOST
        ∧ (s.wires.bootsrc < 2 → t.g F.LCS_BOOTSTAT_ERROR = 1) ∧ t = { s with regs := t.regs } ∧ s.regsKept t [(.LCS, 0)]))
    ∧ (∀ a b, s.stage = bsROM → Runs (.imageVerify a b) s (fun t =>
        let e1 := s.imageError slotLimit (if s.wires.bootsrc = 0 then a else b)
        let e2 := s.imageError slotLimit (if s.wires.bootsrc = 0 then b else a)
        let ok : Bool := s.wires.bootsrc < 2 && (e1 = 0 || e2 = 0)
        t.stage = (if ok then bsVERIFIED else bsWAITHOST)
          ∧ (s.wires.bootsrc < 2 → t.g F.LCS_BOOTSTAT_SLOT = (if e1 = 0 then s.wires.bootsrc else 1 - s.wires.bootsrc)
              ∧ (e1 ≠ 0 → t.g F.LCS_BOOTSTAT_ERROR = if e2 = 0 then e1 else e2))
          ∧ (ok = true → ∀ i, i < 24 → s.hasCore i = true → s.coreState i ≠ csFAILED → t.coreState i = (if s.isSpare i then csSPARE else csRUN)
              ∧ (t.coreOf i).pc = 0xE0000000)
          ∧ (ok = false → t = { s with regs := t.regs })))
    ∧ (∀ n, s.present (.host n) → s.stage = bsWAITHOST → Runs (.bootcmd (.host n) 1) s (fun t =>
        let e := s.imageError sharedLimit s.sharedImage
        t.stage = (if e = 0 then bsVERIFIED else bsWAITHOST) ∧ (e ≠ 0 → t.g F.LCS_BOOTSTAT_ERROR = e ∧ t = { s with regs := t.regs } ∧ s.regsKept t [(.LCS, 0), (.SHW, 0)])
          ∧ t.g F.LCS_BOOTSTAT_SLOT = 2 ∧ (∀ k, k < 256 → t.g (F.SHW_PAGE_OWNER k) = 1)))
    ∧ (∀ q v, s.present q → v < 2 ^ 32 → (q.isHost = false ∨ v ≠ 1 ∨ s.stage ≠ bsWAITHOST) → Runs (.bootcmd q v) s (fun t => t = s))
    ∧ (∀ a b, (s.stage = bsVERIFIED ∨ s.stage = bsTRAIN) → (a = true ∨ b = true ∧ s.is4820 = false) → Runs (.lpddr5TrainingDone a b) s (fun t => t.stage = bsREPLAY
        ∧ t.memChans = (if a then 1 else 0) + (if b ∧ s.is4820 = false then 2 else 0)
        ∧ (s.is4820 = false → (a && b) = false → t.g F.LCS_BOOTSTAT_ERROR = 7) ∧ ((a && b) = true ∨ s.is4820 = true → t.g F.LCS_BOOTSTAT_ERROR = s.g F.LCS_BOOTSTAT_ERROR)
        ∧ t.selfRefresh = false ∧ t = { s with regs := t.regs, memChans := t.memChans, selfRefresh := false } ∧ s.regsKept t [(.LCS, 0)]))
    ∧ ((s.stage = bsVERIFIED ∨ s.stage = bsTRAIN) → s.on F.FCL_STAT_KETTLE = false → Runs (.lpddr5TrainingDone false false) s (fun t => t.stage = bsHALTED
        ∧ t.g F.LCS_BOOTSTAT_ERROR = 7 ∧ t.on F.FCL_STAT_KETTLE = true))

/-- GATH takes a descriptor of a stream (R54): the ring's entry is released; a folio in INGEST is held where no refusal code applies, and a refusal puts the
stream into BLOCKED, or sets REFPEND while it is halted, with LASTREF. A held completion record moves to its ring as space returns (R58), and every 1 ms the
budget buckets gain what the registers say, up to their depths (R63). A choice admits the head folio of the stream that R62 chooses, with FEED as it then
stands, and its pass-overs return to zero; a waiting waste sheet takes the slot first (R61); the leading edge at the pre-registration sensor moves the folio
from ADMITTED to HELD with its stamp (R60, R68). In part this rests on choices of the model: log 10, 15, 34, 36 and 67. -/
def Obligations.Admission : Prop :=
  (∀ (s : State) (n : Nat), s.calm → s.mayConsume n = true →
    (s.refusalCode n (s.rdBytes (s.ringAddr n (s.qhead n)) 64) (Desc.ofBytes (s.rdBytes (s.ringAddr n (s.qhead n)) 64)) = 0 →
      Runs (.descriptorConsume n) s (fun t => t.qhead n = (s.qhead n + 1) % s.ringLen n ∧ t.qtail n = s.qtail n
        ∧ (∃ f ∈ t.gath.folios, f.st = .ingest ∧ f.desc = { Desc.ofBytes (s.rdBytes (s.ringAddr n (s.qhead n)) 64) with stream := n })
        ∧ t = { s with regs := t.regs, gath := t.gath } ∧ s.regsKept t [(.TCE, 0)]))
    ∧ (∀ c, c ≠ 0 → s.refusalCode n (s.rdBytes (s.ringAddr n (s.qhead n)) 64) (Desc.ofBytes (s.rdBytes (s.ringAddr n (s.qhead n)) 64)) = c →
      Runs (.descriptorConsume n) s (fun t => t.qhead n = (s.qhead n + 1) % s.ringLen n ∧ t.g (F.GATH_SSTAT_LASTREF n) = c % 16
        ∧ (s.streamState n ≠ stEXHAUST → s.streamState n ≠ stSTRAND → t.streamState n = stBLOCKED)
        ∧ (s.streamState n = stEXHAUST ∨ s.streamState n = stSTRAND → t.streamState n = s.streamState n ∧ t.on (F.GATH_SSTAT_REFPEND n) = true)
        ∧ t.gath.folios = s.gath.folios ∧ s.regsKept t [(.TCE, 0), (.GATH, 0)])))
  ∧ (∀ (s : State) (n : Nat), s.calm → n < 8 →
    (∀ c rest, (s.stream n).held = c :: rest → (s.stream n).marks = [] → s.canPost (16 + n) 5 = true → Runs (.heldRecordRelease n) s (fun t =>
      (t.stream n).held = rest ∧ t.qtail (16 + n) = (s.qtail (16 + n) + 1) % s.ringLen (16 + n) ∧ t.qhead (16 + n) = s.qhead (16 + n)
        ∧ t.rd (s.ringAddr (16 + n) (s.qtail (16 + n))) 4 = c.fsn % 2 ^ 32 ∧ s.regsKept t [(.TCE, 0)] ∧ t.gath.folios = s.gath.folios))
    ∧ (∀ c rest, (s.stream n).marks = c :: rest → (s.stream n).held.length < 64 → s.canPost (16 + n) 5 = false → Runs (.heldRecordRelease n) s (fun t =>
        (t.stream n).held = (s.stream n).held ++ [c] ∧ (t.stream n).marks = rest ∧ t = { s with gath := t.gath }))
    ∧ (s.gath.bucketAt + msTicks ≤ s.now → Runs .bucketUpdate s (fun t =>
        t.gath.fuserUj = min (s.gath.fuserUj + s.g F.GATH_FUS_RATE_RATE) (1000 * s.g F.GATH_FUS_DEPTH_DEPTH)
        ∧ t.gath.siteUj = min (s.gath.siteUj + (s.g F.GATH_SITE_W_POWER - s.g F.GATH_BASE_W_POWER)) (1000 * s.g F.GATH_SITE_DEPTH_DEPTH)
        ∧ t.g F.GATH_FUS_LEVEL_LEVEL = t.gath.fuserUj / 1000 % 2 ^ 32 ∧ t.g F.GATH_SITE_LEVEL_LEVEL = t.gath.siteUj / 1000 % 2 ^ 32
        ∧ t.gath.bucketAt = s.now ∧ t = { s with regs := t.regs, gath := t.gath } ∧ t.gath.folios = s.gath.folios ∧ s.regsKept t [(.GATH, 0)])))
  ∧ (∀ s : State, s.calm →
    (∀ s0, s.mayChoose = true → s0 = (s.setActive .GATH_FEED 0 0 (s.word .GATH_FEED 0 0)).sigJudge →
      (∀ c f, s.gath.waste = [] → c < 8 → s0.choose = some c → s0.eligible c = some f →
        Runs .gathChoice s (fun t => (∃ g, t.folio? c f.desc.fsn = some g ∧ g.st = .admitted) ∧ t.gath.lastChosen = c ∧ (t.stream c).passes = 0
          ∧ t = { s with regs := t.regs, gath := t.gath, hyw := t.hyw }
          ∧ s.regsKept t [(.GATH, 0), (.HYW, 0), (.HYW, 1), (.HYW, 2), (.HYW, 3), (.HYW, 4), (.HYW, 5), (.HYW, 6), (.HYW, 7)]))
      ∧ (s.gath.waste ≠ [] → Runs .gathChoice s (fun t => t.gath.folios = s.gath.folios ∧ (s.speed = 0 → t.gath.waste = s.gath.waste)
          ∧ (s.speed ≠ 0 → t.gath.waste = s.gath.waste.tail ∧ ∃ r ∈ t.gath.wasteRuns, s.now ≤ r.start)
          ∧ t = { s with regs := t.regs, gath := t.gath, hyw := t.hyw }))
      ∧ (s.gath.waste = [] → s0.choose = none → Runs .gathChoice s (fun t => t.gath.folios = s.gath.folios
          ∧ t = { s with regs := t.regs, gath := t.gath, hyw := t.hyw })))
    ∧ (∀ f stamp, s.gath.folios.find? (fun g => g.st == .admitted && !g.desc.web) = some f → s.folio? f.desc.stream f.desc.fsn = some f →
        Runs (.preregEdge stamp) s (fun t => t.folio? f.desc.stream f.desc.fsn = some { f with st := .held, arrival := some stamp }
          ∧ t = { s with gath := t.gath })))

/-- A sewing point is never fixed earlier than SEW_LEAD from now, nor, for a cut sheet, than DESKEW after its arrival (R66). Sewing (R60, R65, R66, R69): GATH
fixes the earliest permitted sewing point and requests the SEWN record, or fixes none where there is none; unconfirmed 1 ms before t_s the point is withdrawn;
at t_s the folio enters SEWN, counts the attempt, and its costs leave the buckets, and the signature opens or ends; and one that an abort (R82) or another
spoil cause reached after its SEWN commit is spoiled then, which for another cause is the model's reading (log 36). In part this rests on choices of the
model: log 10, 36 and 67. -/
def Obligations.SewingSteps : Prop :=
  (∀ (s : State) (f : Folio) (ts : Nat), s.earliestSew f = some ts →
    s.now + s.ga F.GATH_TIMING_SEW_LEAD * msTicks ≤ ts
      ∧ (f.desc.web = false → ∀ a, f.arrival = some a → a + s.ga F.GATH_FEED_DESKEW * msTicks ≤ ts))
  ∧ (∀ (s : State) (st fsn : Nat) (f : Folio), s.calm → s.jrnRoom → s.folio? st fsn = some f →
    (∀ p ts, s.mayFix f p = true → s.adjustGap.earliestSew f = some ts → Runs (.sewPointFix st fsn p) s (fun t =>
      (∃ g w, t.folio? st fsn = some g ∧ g.st = f.st ∧ g.sewing = some w ∧ w.ts = ts ∧ w.confirmed = false)
        ∧ s.queued t 2 st fsn (f.desc.stations + 16 * f.desc.duplex.toNat) ∧ t = { s with regs := t.regs, gath := t.gath, jrn := t.jrn }
        ∧ s.regsKept t [(.GATH, 0), (.JRN, 0)]))
    ∧ (∀ p, s.mayFix f p = true → s.adjustGap.earliestSew f = none → Runs (.sewPointFix st fsn p) s (fun t =>
        t.gath.folios = s.gath.folios ∧ t.jrn = s.jrn ∧ (f.desc.web = true → t.gath.webMark = none) ∧ t = { s with regs := t.regs, gath := t.gath }
          ∧ s.regsKept t [(.GATH, 0)]))
    ∧ (∀ w, f.sewing = some w → w.confirmed = false → (f.st = .held ∨ f.st = .admitted) → w.ts ≤ s.now + msTicks →
        Runs (.sewnWithdraw st fsn) s (fun t => (∃ g, t.folio? st fsn = some g ∧ g.st = f.st ∧ g.sewing = none) ∧ t = { s with gath := t.gath }))
    ∧ (∀ w, f.sewing = some w → w.confirmed = true → w.ts ≤ s.now → (f.st = .held ∨ f.st = .admitted ∧ f.desc.web = true) → f.abortAfter = false → f.late = 0 →
        Runs (.sewingPointReached st fsn) s (fun t => (∃ g, t.folio? st fsn = some g ∧ g.st = .sewn ∧ g.sewings = f.sewings + 1)
          ∧ t.gath.sigOpen = (if f.desc.lastInSig then none else some (st, f.desc.sig))
          ∧ t.gath.fuserUj = (if s.ga F.GATH_FUS_DEPTH_DEPTH = 0 then s.gath.fuserUj else s.gath.fuserUj - 1000 * f.costF)
          ∧ t.gath.siteUj = (if s.ga F.GATH_SITE_DEPTH_DEPTH = 0 then s.gath.siteUj else s.gath.siteUj - 1000 * f.costS)
          ∧ (f.desc.web = true → t.gath.webMark = none)
          ∧ t = { s with regs := t.regs, gath := t.gath, hyw := t.hyw } ∧ s.regsKept t [(.GATH, 0)]))
    ∧ (∀ w, st < 8 → s.span + 17 < 2040 → f.sewing = some w → w.confirmed = true → w.ts ≤ s.now → (f.st = .held ∨ f.st = .admitted ∧ f.desc.web = true) →
        (f.late ≠ 0 ∨ f.abortAfter = true) → Runs (.sewingPointReached st fsn) s (fun t =>
          (s.now < s.divPass f → ∃ g, t.folio? st fsn = some g ∧ g.st = .spoiled ∧ g.desc = f.desc ∧ g.sewings = f.sewings + 1
            ∧ g.reason = (if f.late = 0 then 0x0C else f.late))
          ∧ (s.now < s.divPass f → ∃ r ∈ t.jrn.queue, r.type = 6 ∧ r.stream = st ∧ r.fsn = fsn ∧ r.aux = (if f.late = 0 then 0x0C else f.late)))))

/-- A folio in the path (R60, R68, R74, R83): without a registration edge of a side in its window it is spoiled with 0x05 and its record requested; a side
whose last station has imaged its last stroke moves it on; its sensor edges are taken in their windows, a missing exit edge spoils it, or past the gate
strands it; and its confirmed exit requests the colophon. In part this rests on choices of the model: log 37 and 67. -/
def Obligations.FolioInPath : Prop :=
  ∀ (s : State) (st fsn : Nat) (f : Folio) (w : Sewing), s.calm → s.jrnRoom → s.span + 17 < 2040 → s.folio? st fsn = some f → f.sewing = some w → f.exitOk = false →
      st < 8 →
    (∀ verso, f.inPath = true → f.desc.web = false → (verso = true → f.desc.duplex = true) → bit f.regSeen verso.toNat = false →
      s.tSide f.desc w.speed w.ts verso + s.regTol < s.now → s.now < s.divPass f → Runs (.regWindowExpire st fsn verso) s (fun t =>
        (∃ g, t.folio? st fsn = some g ∧ g.st = .spoiled ∧ g.reason = 5 ∧ g.desc = f.desc)
          ∧ (∃ r ∈ t.jrn.queue, r.type = 6 ∧ r.stream = st ∧ r.fsn = fsn ∧ r.aux = 5) ∧ t.mem = s.mem ∧ t.cores = s.cores))
    ∧ (∀ k, f.st = .sewn → bit f.desc.stations k = true → s.strokesOver f k false = true → Runs (.sideImaged st fsn k) s (fun t =>
        (∃ g, t.folio? st fsn = some g ∧ g.rectoDone = setBit f.rectoDone k true
            ∧ g.st = (if setBit f.rectoDone k true = f.desc.stations then .rectoDone else .sewn))
          ∧ (setBit f.rectoDone k true = f.desc.stations → s.queued t 3 st fsn 0) ∧ t = { s with regs := t.regs, gath := t.gath, jrn := t.jrn }))
    ∧ (∀ k, f.st = .rectoDone → f.desc.duplex = true → bit f.desc.stations k = true → s.strokesOver f k true = true → Runs (.sideImaged st fsn k) s (fun t =>
        (∃ g, t.folio? st fsn = some g ∧ g.versoDone = setBit f.versoDone k true
            ∧ g.st = (if setBit f.versoDone k true = f.desc.stations then .versoDone else .rectoDone))
          ∧ (setBit f.versoDone k true = f.desc.stations → s.queued t 4 st fsn 0) ∧ t = { s with regs := t.regs, gath := t.gath, jrn := t.jrn }))
    ∧ (∀ x, oldestWhere (fun g => g.inPath && g.sewing.isSome && !g.leadSeen && nearTo x (s.exitLead g) s.edgeTol) s.gath.folios = some f →
        Runs (.sheetEdge .exitLead x) s (fun t => t.folio? st fsn = some { f with leadSeen := true } ∧ t = { s with gath := t.gath }))
    ∧ (∀ x, oldestWhere (fun g => g.inPath && g.sewing.isSome && !g.trailSeen && nearTo x (s.exitTrail g) s.edgeTol) s.gath.folios = some f →
        Runs (.sheetEdge .exitTrail x) s (fun t => t.folio? st fsn = some { f with trailSeen := true } ∧ t = { s with gath := t.gath }))
    ∧ (∀ x, (∀ g ∈ s.gath.folios, g = f ∨ g.inPath = false) → f.inPath = true → f.desc.web = false →
        (bit f.regSeen 0 = false → w.ts ≤ x → x ≤ w.ts + s.regTol → Runs (.sheetEdge .registration x) s (fun t =>
          t.folio? st fsn = some { f with regSeen := setBit f.regSeen 0 true } ∧ t = { s with gath := t.gath }))
        ∧ (f.desc.duplex = true → bit f.regSeen 0 = true → bit f.regSeen 1 = false → nearTo x (s.tSide f.desc w.speed w.ts true) s.regTol = true →
          Runs (.sheetEdge .registration x) s (fun t => t.folio? st fsn = some { f with regSeen := setBit f.regSeen 1 true } ∧ t = { s with gath := t.gath })))
    ∧ (∀ trailing, f.inPath = true → (if trailing then f.trailSeen else f.leadSeen) = false →
        (if trailing then s.exitTrail f else s.exitLead f) + s.edgeTol < s.now → Runs (.edgeWindowExpire st fsn trailing) s (fun t =>
          (∃ g, t.folio? st fsn = some g ∧ (g.st = .spoiled ∨ g.st = .stranded) ∧ g.reason = 5 ∧ g.jam = true
              ∧ ((∀ h ∈ s.gath.folios, h.is st fsn = true → h = f) → g.st = (if s.now < s.divPass f then .spoiled else .stranded)))
            ∧ (s.divPass f ≤ s.now → t.streamState st = stSTRAND) ∧ (∃ r ∈ t.jrn.queue, r.type = 6 ∧ r.stream = st ∧ r.fsn = fsn ∧ r.aux = 5)))
    ∧ (f.st = (if f.desc.duplex then .versoDone else .rectoDone) → f.leadSeen = true → f.trailSeen = true → f.jam = false → s.exitConfirm f ≤ s.now →
        Runs (.exitConfirmed st fsn) s (fun t => t.folio? st fsn = some { f with exitOk := true }
          ∧ s.queued t 5 st fsn f.desc.outbin ∧ t = { s with regs := t.regs, gath := t.gath, jrn := t.jrn }))

/-- The purge of a spoiled sheet (R79, R82): the oldest one's folio is ACCEPTED again with attempts left, with none left it is EXHAUSTED and its stream halts,
and one that the host has aborted ends ABORTED; after the kettle state GATH runs the path, for the longest path time at v (R80). No confirmation of a purge in
its time, or a full purge bin, is PURGE_FAIL of class C and enters the kettle state (R78, R343). No confirmation of a purge, or a full purge bin, is
PURGE_FAIL of class C and enters the kettle state (R78, R343). In part this rests on choices of the model: log 37, 65 and 67. -/
def Obligations.PurgeAndPathRun : Prop :=
  (∀ s : State, s.calm →
    (∀ f, oldestWhere (fun g => g.st == .spoiled) s.gath.folios = some f → s.folio? f.desc.stream f.desc.fsn = some f → f.desc.stream < 8 → s.jrnRoom →
      Runs .purgeConfirm s (fun t =>
        (∃ g, t.folio? f.desc.stream f.desc.fsn = some g ∧ g.desc = f.desc ∧ g.sewing = none
          ∧ g.st = (if f.reason = 0x0C ∨ f.abortAfter = true then .aborted
              else if f.attempts < 1 + s.g (F.GATH_SCFG_MAXTRY f.desc.stream) then .accepted else .exhausted))
        ∧ t.streamState f.desc.stream = (if f.reason = 0x0C ∨ f.abortAfter = true ∨ f.attempts < 1 + s.g (F.GATH_SCFG_MAXTRY f.desc.stream)
            then s.streamState f.desc.stream else stEXHAUST)
        ∧ (f.reason ≠ 0x0C → f.abortAfter = true → s.queued t 6 f.desc.stream f.desc.fsn 0x0C)
        ∧ s.regsKept t [(.TCE, 0), (.GATH, 0), (.JRN, 0), (.HYW, 0), (.HYW, 1), (.HYW, 2), (.HYW, 3), (.HYW, 4), (.HYW, 5), (.HYW, 6), (.HYW, 7)]))
    ∧ (s.gath.runPending = true → s.inKettle = false → s.speed ≠ 0 → Runs .purgePathRun s (fun t =>
        t.gath.runUntil = some (s.now + travel (s.dEXIT + s.dDUP + s.dRET + 13000) s.speed) ∧ t.gath.runPending = false ∧ t = { s with gath := t.gath }))
    ∧ (∀ x, s.gath.runUntil = some x → x ≤ s.now → Runs .purgePathRunEnd s (fun t => t.gath.runUntil = none ∧ t = { s with gath := t.gath })))
  ∧ (∀ (s : State) (full : Bool), s.settled →
    (full = true ∨ s.on F.FCL_STAT_KETTLE = false ∧ ∃ f, oldestWhere (fun g => g.st == .spoiled) s.gath.folios = some f ∧ s.exitTrail f + s.exitSettle < s.now) →
      Runs (.purgeFail full) s (fun t => t.on F.FCL_STAT_KETTLE = true
        ∧ (s.on F.FCL_STAT_KETTLE = false → t.g F.FCL_STAT_KSRC = 2 ∧ t.g F.FCL_STAT_KCODE = 1)))

/-- Stream commands (R54, R55, R81, R82): CONTINUE sets SNEXT and RUN; RETRY gives the exhausted folios a fresh attempt count; ABORT ends the accepted folios
it names, spoils those in the path, and blocks the stream; the OPERATOR commands settle the stranded FSN; a command whose precondition does not hold is
refused and SCMDRES says so. In part this rests on choices of the model: log 32, 60 and 67. -/
def Obligations.StreamCommands : Prop :=
  ∀ (s : State) (q : Requester) (n : Nat), s.calm → s.histRoom → s.jrnRoom → s.present q → n < 8 →
    (s.streamState n = stBLOCKED → precedes (s.g F.GATH_SCMDFSN_FSN) (s.g (F.GATH_SNEXT_FSN n)) = false →
      Runs (.scmdContinue q n) s (fun t => t.streamState n = stRUN ∧ t.g (F.GATH_SNEXT_FSN n) = s.g F.GATH_SCMDFSN_FSN ∧ t.on (F.GATH_SSTAT_VALID n) = true
        ∧ t.on F.GATH_SCMDRES_DONE = true ∧ t.on F.GATH_SCMDRES_OK = true ∧ t = { s with regs := t.regs } ∧ s.regsKept t [(.GATH, 0)]))
    ∧ (s.streamState n = stEXHAUST → Runs (.scmdRetry q n) s (fun t =>
        (∀ f ∈ s.gath.folios, f.desc.stream = n → f.st = .exhausted → ∃ g ∈ t.folio? n f.desc.fsn, g.st = .accepted ∧ g.attempts = 0)
          ∧ t.streamState n = (if s.on (F.GATH_SSTAT_REFPEND n) then stBLOCKED else stRUN) ∧ t.on (F.GATH_SSTAT_REFPEND n) = false
          ∧ t.on F.GATH_SCMDRES_DONE = true ∧ t.on F.GATH_SCMDRES_OK = true ∧ t = { s with regs := t.regs, gath := t.gath } ∧ s.regsKept t [(.GATH, 0)]))
    ∧ (s.span + 17 < 2040 → ((∃ f ∈ s.gath.folios, f.desc.stream = n ∧ f.undelivered = true ∧ f.desc.fsn = s.g F.GATH_SCMDFSN_FSN)
          ∨ s.g F.GATH_SCMDFSN_FSN ∈ (s.stream n).awaiting) → Runs (.scmdAbort q n) s (fun t =>
        t.streamState n = stBLOCKED ∧ t.on (F.GATH_SSTAT_REFPEND n) = false ∧ t.on F.GATH_SCMDRES_DONE = true ∧ t.on F.GATH_SCMDRES_OK = true
          ∧ (∀ x ∈ (t.stream n).awaiting, precedes x (s.g F.GATH_SCMDFSN_FSN) = true)
          ∧ (∀ f ∈ s.folio? n (s.g F.GATH_SCMDFSN_FSN), (∀ h ∈ s.gath.folios, h.is n f.desc.fsn = true → h = f) →
              (f.st = .accepted ∨ f.st = .exhausted → ∃ g ∈ t.folio? n f.desc.fsn, g.st = .aborted)
              ∧ (f.inPath = true → f.exitOk = false → s.now < s.divPass f → ∃ g ∈ t.folio? n f.desc.fsn, g.st = .spoiled ∧ g.reason = 0x0C)
              ∧ (f.st = .spoiled → ∃ g ∈ t.folio? n f.desc.fsn, g.abortAfter = true))))
    ∧ (∀ f, s.gath.folios = [f] → f.desc.stream = n → f.st = .accepted → s.g F.GATH_SCMDFSN_FSN = f.desc.fsn → (s.stream n).awaiting = [] →
        Runs (.scmdAbort q n) s (fun t => (∃ g, t.gath.folios = [g] ∧ g.st = .aborted) ∧ t.streamState n = stBLOCKED ∧ s.queued t 6 n f.desc.fsn 0x0C
          ∧ t.on F.GATH_SCMDRES_OK = true ∧ t.g F.GATH_SCMDRES_COUNT = 1))
    ∧ (s.streamState n = stSTRAND → s.strandedFsn n = some (s.g F.GATH_SCMDFSN_FSN) →
        Runs (.scmdOperatorDelivered q n) s (fun t => t.g (F.GATH_SDEL_FSN n) = s.g F.GATH_SCMDFSN_FSN
          ∧ (∀ f ∈ s.folio? n (s.g F.GATH_SCMDFSN_FSN), f.st = .stranded → (∃ g ∈ t.folio? n f.desc.fsn, g.st = .delivered) ∧ s.queued t 5 n f.desc.fsn f.desc.outbin)
          ∧ (∃ r ∈ t.jrn.queue, r.type = 5 ∧ r.stream = n ∧ r.fsn = s.g F.GATH_SCMDFSN_FSN ∧ r.operator = true)
          ∧ t.streamState n = (if (t.strandedFsn n).isSome then stSTRAND else if s.on (F.GATH_SSTAT_REFPEND n) then stBLOCKED else stRUN)
          ∧ t.on F.GATH_SCMDRES_DONE = true ∧ t.on F.GATH_SCMDRES_OK = true)
        ∧ Runs (.scmdOperatorRemoved q n) s (fun t => t.g (F.GATH_SDEL_FSN n) = s.g (F.GATH_SDEL_FSN n)
          ∧ (∀ f ∈ s.folio? n (s.g F.GATH_SCMDFSN_FSN), f.st = .stranded → (∃ g ∈ t.folio? n f.desc.fsn, g.st = .accepted) ∧ s.queued t 6 n f.desc.fsn f.reason)
          ∧ (∃ r ∈ t.jrn.queue, r.type = 6 ∧ r.stream = n ∧ r.fsn = s.g F.GATH_SCMDFSN_FSN)
          ∧ t.streamState n = (if (t.strandedFsn n).isSome then stSTRAND else if s.on (F.GATH_SSTAT_REFPEND n) then stBLOCKED else stRUN)
          ∧ t.on F.GATH_SCMDRES_DONE = true ∧ t.on F.GATH_SCMDRES_OK = true))
    ∧ (∀ c, (c = .scmdContinue q n ∧ (s.streamState n ≠ stBLOCKED ∨ precedes (s.g F.GATH_SCMDFSN_FSN) (s.g (F.GATH_SNEXT_FSN n)) = true)
          ∨ c = .scmdRetry q n ∧ s.streamState n ≠ stEXHAUST
          ∨ (c = .scmdOperatorDelivered q n ∨ c = .scmdOperatorRemoved q n) ∧ (s.streamState n ≠ stSTRAND ∨ s.strandedFsn n ≠ some (s.g F.GATH_SCMDFSN_FSN))) →
        Runs c s (fun t => t.streamState n = s.streamState n ∧ t.g (F.GATH_SNEXT_FSN n) = s.g (F.GATH_SNEXT_FSN n)
          ∧ t.on F.GATH_SCMDRES_DONE = true ∧ t.on F.GATH_SCMDRES_OK = false ∧ t.reported 2 0xF8 q.detail ∧ t.gath = s.gath))

/-- GATH.CTRL (R89, R446): a write with a legal NBINS sets its fields, one that would change WEB while a folio is live is refused whole; a unit reset of an
idle GATH keeps SNEXTn, SDELn and VALID and puts every stream into RUN. Web mode (R84, R85): the index edge marks the label; a pause longer than BLANKMAX with
no label on its way stops the web; and the restart holds the next sewing point back by RESTART. In part this rests on choices of the model: log 22 and 27. -/
def Obligations.GathControlAndWeb : Prop :=
  (∀ (s : State) (q : Requester) (v : Nat), s.calm → s.histRoom → s.present q →
    (v < 2 ^ 31 → bits v 6 4 ≠ 0 → (bit v 1 = s.on F.GATH_CTRL_WEB ∨ s.anyLive = false) → Runs (.gathCtrlWrite q v) s (fun t =>
      t.g F.GATH_CTRL_NBINS = bits v 6 4 ∧ t.on F.GATH_CTRL_WEB = bit v 1 ∧ t.on F.GATH_CTRL_EN = bit v 0 ∧ t = { s with regs := t.regs }
        ∧ s.regsKept t [(.GATH, 0)]))
    ∧ (v < 2 ^ 31 → bits v 6 4 ≠ 0 → bit v 1 ≠ s.on F.GATH_CTRL_WEB → s.anyLive = true → Runs (.gathCtrlWrite q v) s (fun t =>
      t.word .GATH_CTRL 0 0 = s.word .GATH_CTRL 0 0 ∧ t.reported 2 0xF8 q.detail ∧ t = s.noted t ∧ s.regsKept t [(.FCL, 0), (.TCE, 0)]))
    ∧ (v < 2 ^ 31 → bits v 6 4 = 0 → Runs (.gathCtrlWrite q v) s (fun t => t.word .GATH_CTRL 0 0 = s.word .GATH_CTRL 0 0 ∧ t.reported 2 0xF2 q.detail ∧ t = s.noted t
        ∧ s.regsKept t [(.FCL, 0), (.TCE, 0)]))
    ∧ (bit v 31 = true → exec (.gathCtrlWrite q v) s = exec (.gathUnitReset q) s)
    ∧ (s.gathIdle = false → Runs (.gathUnitReset q) s (fun t => t.reported 2 0xF8 q.detail ∧ t = s.noted t ∧ s.regsKept t [(.FCL, 0), (.TCE, 0)]))
    ∧ (s.gathIdle = true → Runs (.gathUnitReset q) s (fun t => (∀ n, n < 8 → t.streamState n = stRUN ∧ t.g (F.GATH_SNEXT_FSN n) = s.g (F.GATH_SNEXT_FSN n)
        ∧ t.g (F.GATH_SDEL_FSN n) = s.g (F.GATH_SDEL_FSN n) ∧ t.g (F.GATH_SSTAT_VALID n) = s.g (F.GATH_SSTAT_VALID n))
      ∧ t.gath.fuserUj = 0 ∧ t.gath.siteUj = 0 ∧ t.word .GATH_TIMING 0 0 = (Reg.resetWord .GATH_TIMING).toNat ∧ t.active .GATH_GEOM0 0 0 = 0
      ∧ t = { s with regs := t.regs, gath := t.gath, commits := t.commits } ∧ s.regsKept t [(.GATH, 0)])))
  ∧ (∀ s : State, s.settled →
    (∀ x, s.on F.GATH_CTRL_WEB = true → Runs (.webIndexEdge x) s (fun t => t.gath.webMark = some x ∧ t = { s with gath := t.gath }))
    ∧ (∀ b, s.on F.GATH_CTRL_WEB = true → s.g F.GATH_WEB_BLANKMAX < b →
        (∀ f ∈ s.gath.folios, (f.inPath = true → f.exitOk = true) ∧ ¬(f.desc.web = true ∧ f.sewing.isSome = true ∧ f.st = .admitted)) → Runs (.webStop b) s (fun t => t.gath.webStopped = true
        ∧ t.gath.webMark = none ∧ t = { s with gath := t.gath }))
    ∧ (s.gath.webStopped = true → Runs .webRestart s (fun t => t.gath.webStopped = false
        ∧ t.gath.webRestartAt = s.now + s.g F.GATH_WEB_RESTART * msTicks ∧ t = { s with gath := t.gath })))

/-- A station is enabled (R94, R112, R133, R134): its pads go to it and its scanner starts as R112 and R134 say; a sweep or a capture that ends without lock,
and a coil open or shorted, put it into FAULT with their fault. In part this rests on choices of the model: log 64 and 69. -/
def Obligations.ScannerStartAndFaults : Prop :=
  ∀ (s : State) (k : Nat), s.plain → k < s.blockCount .STR →
    (∀ q v, s.present q → s.on (F.STR_CTRL_EN k) = false → bits v 31 30 = 0
      → (bit v 29 = true → s.ownsAll q (motSlices (s.g (F.STR_POLY_MOT k))) (motSlots (s.g (F.STR_POLY_MOT k))) (motPads (s.g (F.STR_POLY_MOT k))) = true)
      → (bit v 2 = true → ∀ f ∈ s.gath.folios, f.st ≠ .spoiled) → (bit v 20 = true → s.on (F.STR_CTRL_LDFLTEN k) = true)
      → (∀ i ∈ vidPads k, s.owned (padRid i) = true → s.owns q (padRid i) = true) → Runs (.stationEnable q k v) s (fun t =>
        t.scan k = (if s.synState (k + 2) ≠ syLOCKED then s.scan k else if s.on (F.STR_STAT_LASER_DIS k) = true then scCOAST
            else if bit v 29 = true then (if s.on (F.MOT_STAT_SLOCK (s.g (F.STR_POLY_MOT k))) = true then scCAPTURE else s.scan k)
            else if k = s.pace then scSWEEP else if s.scan s.pace = scLOCKED then scCAPTURE else s.scan k)
          ∧ t.on (F.STR_CTRL_EN k) = true ∧ t.polygon k = bit v 29 ∧ t.g (F.STR_CTRL_BEAMSTART k) = bits v 28 26
          ∧ (∀ i ∈ vidPads k, t.padFunc i = 3) ∧ t = { s with regs := t.regs, str := t.str, free := t.free } ∧ s.regsKept t [(.STR, k), (.STR, 0), (.PMX, 0)]))
    ∧ (s.scan k = scSWEEP → s.sweepFreq k ≤ 1000 * (s.g (F.STR_SCAN_FSWEEP k) - s.g (F.STR_SCAN_SWSPAN k)) → Runs (.scanSweepEnd k) s (fun t =>
        t.scan k = scFAULT ∧ t.reported (64 + k) 3 0
          ∧ ((∀ n, n < 4 → n ≠ k → s.scan n ≠ scLOCKED) → s.regsKept t [(.STR, k), (.STR, 0), (.FCL, 0), (.TCE, 0)])))
    ∧ (s.scan k = scCAPTURE → (s.st k).since + 500000000 ≤ s.now → Runs (.scanCaptureTimeout k) s (fun t => t.scan k = scFAULT
        ∧ t.reported (64 + k) 3 0 ∧ ((∀ n, n < 4 → n ≠ k → s.scan n ≠ scLOCKED) → s.regsKept t [(.STR, k), (.STR, 0), (.FCL, 0), (.TCE, 0)])))
    ∧ (∀ ma, ma < 4096 → s.on (F.STR_CTRL_EN k) = true →
        (s.scan k ≠ scFAULT → ((ma < 20 ∧ 16 < s.g (F.STR_DRIVE_LEVEL k)) ∨ 3000 < ma) → Runs (.scanCoil k ma) s (fun t => t.scan k = scFAULT
          ∧ t.reported (64 + k) 5 0 ∧ t.g (F.STR_DRIVE_ICOIL k) = ma))
        ∧ (s.scan k = scFAULT ∨ (20 ≤ ma ∨ s.g (F.STR_DRIVE_LEVEL k) ≤ 16) ∧ ma ≤ 3000 → Runs (.scanCoil k ma) s (fun t => t.scan k = s.scan k
          ∧ t.g (F.STR_DRIVE_ICOIL k) = ma ∧ t = { s with regs := t.regs } ∧ s.regsKept t [(.STR, k)])))

/-- Beam detect (R107 to R112): an outbound edge begins a turn; an inbound edge gives its turn point and moves T_est by an eighth of the difference; an edge
missing from its window is counted and raises BD_MISS, the stroke runs on the predicted edge, and the second miss in a row takes the station out of LOCKED;
the amplitude loop sets LEVEL by R111 once per half-cycle, and a scanner locks after 64 clean ones. In part this rests on choices of the model: log 1, 16 and
69. -/
def Obligations.BeamDetectAndLock : Prop :=
  ∀ (s : State) (k : Nat), s.plain → k < s.blockCount .STR → s.on (F.STR_CTRL_EN k) = true →
    (k = s.pace → ∀ n, n < 4 → n ≠ k → s.scan n ≠ scLOCKED) →
    (∀ far c, s.polygon k = false → s.apcMasked k (c + s.g (F.STR_BD_BDLAT k)) = false →
      (s.scan k = scSWEEP ∨ s.scan k = scCAPTURE ∧ (∀ p ∈ s.predEdge k far true, distN c p ≤ s.bdTol k)
        ∨ s.scan k = scLOCKED ∧ s.nextTurn k = (far, true) ∧ ∃ p ∈ s.predEdge k far true, distN c p ≤ s.bdTol k ∧ distN c p ≤ s.bdWin k) →
      Runs (.bdEdge k far true (c + s.g (F.STR_BD_BDLAT k))) s (fun t => (t.st k).outEdge = some c ∧ (t.st k).turning = true ∧ (t.st k).farEnd = far
        ∧ (t.st k).apcFrom = some c ∧ t.tEst k = s.tEst k))
    ∧ (∀ far o c te, s.polygon k = false → s.apcMasked k (c + s.g (F.STR_BD_BDLAT k)) = false → (s.st k).turning = true → (s.st k).farEnd = far
        → (s.st k).missed = false → (s.st k).outEdge = some o → o < c →
        (s.scan k = scSWEEP ∨ s.scan k = scCAPTURE ∧ (∀ p ∈ s.predEdge k far false, distN c p ≤ s.bdTol k)
          ∨ s.scan k = scLOCKED ∧ ∃ p ∈ s.predEdge k far false, distN c p ≤ s.bdTol k ∧ distN c p ≤ s.bdWin k) →
        te = (match (if far then (s.st k).turnB else (s.st k).turnA) with
          | some t0 => if t0 < (o + c) / 2 then
              (if s.tEst k = 0 then (o + c) / 2 - t0 else ((s.tEst k : Int) + (((o + c) / 2 - t0 : Nat) - (s.tEst k : Int)) / 8).toNat) else s.tEst k
          | none => s.tEst k) →
        (if far then (s.st k).turnB else (s.st k).turnA) = none ∨ te * 2400 ≤ 16000000000 ∧ 16000000000 ≤ te * 3600 →
        Runs (.bdEdge k far false (c + s.g (F.STR_BD_BDLAT k))) s (fun t =>
          (if far then (t.st k).turnB else (t.st k).turnA) = some ((o + c) / 2) ∧ t.tEst k = te ∧ t.g (F.STR_BDSTAT_CONSEC k) = 0
            ∧ (t.st k).turning = false ∧ (t.st k).ampDue = true ∧ (k ≠ s.pace → t = { s with regs := t.regs, str := t.str } ∧ s.regsKept t [(.STR, k)])))
    ∧ (∀ far, (s.nextTurn k).1 = far → s.windowOver k = true → (s.st k).missed = false → (s.st k).side = none →
        s.scan k = scCAPTURE ∨ s.scan k = scLOCKED → s.polygon k = false → Runs (.bdWindowExpire k far) s (fun t =>
          t.g (F.STR_BDSTAT_MISSCNT k) = min (s.g (F.STR_BDSTAT_MISSCNT k) + 1) 0xFFFF
            ∧ t.scan k = (if s.scan k = scLOCKED ∧ 1 ≤ s.g (F.STR_BDSTAT_CONSEC k) then scCAPTURE else s.scan k)
            ∧ (s.scan k = scLOCKED → 1 ≤ s.g (F.STR_BDSTAT_CONSEC k) → t.on (F.STR_BDSTAT_TWOMISS k) = true ∧ t.reported (64 + k) 2 0)
            ∧ (s.g (F.STR_BDSTAT_CONSEC k) = 0 → t.g (F.STR_BDSTAT_CONSEC k) = 1 ∧ t.reported (64 + k) 1 0)
            ∧ ((s.nextTurn k).2 = true → (t.st k).turning = true ∧ (t.st k).outEdge = s.predEdge k far true)
            ∧ ((s.nextTurn k).2 = false → (t.st k).turning = false ∧ (if far then (t.st k).turnB else (t.st k).turnA) = s.predTurn k far)))
    ∧ (∀ far, (s.nextTurn k).1 = far → s.windowOver k = true → s.scan k = scCOAST → s.polygon k = false → Runs (.bdWindowExpire k far) s (fun t =>
        t.g (F.STR_BDSTAT_MISSCNT k) = s.g (F.STR_BDSTAT_MISSCNT k) ∧ t.scan k = scCOAST))
    ∧ (s.polygon k = false → (s.scan k = scCAPTURE ∨ s.scan k = scLOCKED) → (s.st k).ampDue = true → (s.st k).pull < 63 → Runs (.ampLoopUpdate k) s (fun t =>
        t.gi (F.STR_DRIVE_PHERR k) = s.phaseError k ∧ (t.st k).acc = (s.st k).acc + ((s.g (F.STR_AMP_RHO_SET k) : Int) - (s.st k).rho)
          ∧ t.g (F.STR_DRIVE_LEVEL k) = (clampI 0 (s.g (F.STR_AMP_DRVMAX k) : Int)
              (((s.st k).acc + 17 * ((s.g (F.STR_AMP_RHO_SET k) : Int) - (s.st k).rho)) / 64)).toNat ∧ (t.st k).ampDue = false
          ∧ (s.scan k = scCAPTURE → s.g (F.STR_BDSTAT_CONSEC k) = 0 → distN (s.g (F.STR_AMP_RHO_SET k)) (s.st k).rho ≤ s.g (F.STR_AMP_RHOTOL k) →
              (k ≠ s.pace → -16 ≤ s.phaseError k ∧ s.phaseError k ≤ 16 ∧ (s.st k).slew = s.ga (F.STR_PHASE_PHASE k)) →
              t.scan k = (if 63 ≤ (s.st k).clean then scLOCKED else scCAPTURE))))
    ∧ (s.polygon k = false → (s.scan k = scCAPTURE ∨ s.scan k = scLOCKED) → (s.st k).ampDue = true → k ≠ s.pace → 63 ≤ (s.st k).pull →
        clampI 0 (s.g (F.STR_AMP_DRVMAX k) : Int) (((s.st k).acc + 17 * ((s.g (F.STR_AMP_RHO_SET k) : Int) - (s.st k).rho)) / 64) = (s.g (F.STR_AMP_DRVMAX k) : Int) →
        (s.st k).rho + s.g (F.STR_AMP_RHOTOL k) < s.g (F.STR_AMP_RHO_SET k) → Runs (.ampLoopUpdate k) s (fun t => t.scan k = scFAULT ∧ t.reported (64 + k) 4 0))

/-- Laser power and lanes (R125, R126, R276): the slots of a turnaround run one after another, one that fits gives its LCE word, one that does not is skipped
with APC_SKIP; a lane command waits with PEND and one while it waits is refused; and once in the turnaround, 200 ns after its last slot, every waiting lane
sends its frame. Laser faults and calibration runs (R128, R129, R131, R132): the driver's fault, where it is watched, holds the lanes off and the scanner
coasts; with the cause gone a 1 to LASER_DIS brings them back; CALRUN is set while no folio in the path uses the station, CALT_HI arms a run of COUNT strokes,
and its end clears BUSY. In part this rests on choices of the model: log 12 and 69. -/
def Obligations.Lasers : Prop :=
  (∀ (s : State) (n k : Nat), s.plain → n < s.blockCount .STR → k < 8 →
    (∀ x a b, x < 4096 → bit (s.g (F.STR_APC_ENMASK n)) k = true → s.on (F.STR_CTRL_EN n) = true → (s.st n).apcDone = apcOrder (s.g (F.STR_APC_ENMASK n)) k →
      s.apcSpan n k = some (a, b) →
      (s.apcFits n k = true → b ≤ 64 * s.now → Runs (.apcSlot n k x) s (fun t => t.g (F.LCE_APCRES_VALUE (8 * n + k)) = x
        ∧ t.g (F.LCE_APCRES_SEQ (8 * n + k)) = (s.g (F.LCE_APCRES_SEQ (8 * n + k)) + 1) % 256
        ∧ t.g (F.LCE_APCRES_TEST (8 * n + k)) = Cells.get 0 k (s.st n).test % 4096 ∧ (t.st n).apcDone = (s.st n).apcDone + 1
        ∧ t = { s with regs := t.regs, str := t.str } ∧ s.regsKept t [(.LCE, 0)]))
      ∧ (s.apcFits n k = false → a ≤ 64 * s.now → Runs (.apcSlot n k x) s (fun t => t.reported (64 + n) 11 0 ∧ (t.st n).apcDone = (s.st n).apcDone + 1
        ∧ t = { s.noted t with str := t.str } ∧ s.regsKept t [(.FCL, 0), (.TCE, 0)])))
    ∧ (∀ q v, s.present q →
        (1 ≤ bits v 27 24 → bits v 27 24 ≤ 3 → s.on (F.STR_LDCMD_PEND n k) = false → Runs (.ldcmdWrite q n k v) s (fun t => t.on (F.STR_LDCMD_PEND n k) = true
          ∧ t.g (F.STR_LDCMD_CMD n k) = bits v 27 24 ∧ t.g (F.STR_LDCMD_VALUE n k) = bits v 23 12 ∧ t = { s with regs := t.regs } ∧ s.regsKept t [(.STR, n)]))
        ∧ (1 ≤ bits v 27 24 → bits v 27 24 ≤ 3 → s.on (F.STR_LDCMD_PEND n k) = true → Runs (.ldcmdWrite q n k v) s (fun t =>
          t.word .STR_LDCMD n k = s.word .STR_LDCMD n k ∧ t.reported (64 + n) 12 0 ∧ t = s.noted t))
        ∧ (bits v 27 24 = 0 ∨ 4 ≤ bits v 27 24 → Runs (.ldcmdWrite q n k v) s (fun t =>
          t.word .STR_LDCMD n k = s.word .STR_LDCMD n k ∧ t.reported (64 + n) 0xF2 q.detail ∧ t = s.noted t)))
    ∧ (s.frameTime n = true → (s.st n).framed = false → Runs (.laneFrameSend n) s (fun t => t.on (F.STR_LDCMD_PEND n k) = false ∧ (t.st n).framed = true
        ∧ (s.on (F.STR_LDCMD_PEND n k) = true → Cells.get 0 k (t.st n).frames = s.laneFrame n k)
        ∧ (s.on (F.STR_LDCMD_PEND n k) = false → Cells.get 0 k (t.st n).frames = Cells.get 0 k (s.st n).frames)
        ∧ (s.on (F.STR_LDCMD_PEND n k) = true → s.g (F.STR_LDCMD_CMD n k) = 3 → Cells.get 0 k (t.st n).test = s.g (F.STR_LDCMD_VALUE n k))
        ∧ t = { s with regs := t.regs, str := t.str } ∧ s.regsKept t [(.STR, n)])))
  ∧ (∀ (s : State) (k : Nat), s.plain → k < s.blockCount .STR →
    (s.on (F.STR_CTRL_LDFLTEN k) = true → s.driverFault k = false → Runs (.ldFault k true) s (fun t =>
      t.on (F.STR_STAT_LASER_DIS k) = true ∧ t.driverFault k = true
        ∧ t.scan k = (if s.scan k = scOFF ∨ s.scan k = scFAULT then s.scan k else scCOAST)
        ∧ ((∀ n, n < 4 → s.scan n ≠ scLOCKED ∧ (n ≠ k → s.on (F.STR_CTRL_LDFLTEN n) = false)) →
            t.g (F.STR_STAT_DISCAUSE k) = 2 ∧ (t.st k).lanesOff = true ∧ t.reported (64 + k) 14 0)))
    ∧ (∀ b, b = false ∨ (∀ n, n < 4 → s.on (F.STR_CTRL_LDFLTEN n) = false) → Runs (.ldFault k b) s (fun t => t.driverFault k = b ∧ t = { s with padIns := t.padIns }))
    ∧ (s.on (F.STR_STAT_LASER_DIS k) = true → (s.st k).thermal = false → s.driverFault k = false → s.on F.FCL_STAT_KETTLE = false →
        Runs (.laserDisClear k) s (fun t => t.on (F.STR_STAT_LASER_DIS k) = false ∧ t.g (F.STR_STAT_DISCAUSE k) = 0 ∧ (t.st k).lanesOff = false
          ∧ t.scan k = (if s.scan k = scCOAST then scCAPTURE else s.scan k) ∧ t = { s with regs := t.regs, str := t.str } ∧ s.regsKept t [(.STR, k)]))
    ∧ ((s.st k).thermal = true ∨ s.driverFault k = true ∨ s.on F.FCL_STAT_KETTLE = true → Runs (.laserDisClear k) s (fun t => t = s))
    ∧ (∀ q, s.present q →
        (∀ on, bits (s.word .STR_CTRL k 0) 31 30 = 0 → (on = true → ∀ f ∈ s.gath.folios, f.st ≠ .spoiled) → Runs (.calrunWrite q k on) s (fun t =>
          t.on (F.STR_CTRL_CALRUN k) = on ∧ t.on (F.STR_CTRL_EN k) = s.on (F.STR_CTRL_EN k) ∧ t.scan k = s.scan k ∧ t = { s with regs := t.regs, str := t.str }
            ∧ s.regsKept t [(.STR, k)]))
        ∧ (∀ x, x < 2 ^ 64 → s.on (F.STR_CALN_BUSY k) = false → s.on (F.STR_CTRL_CALRUN k) = true → Runs (.caltArm q k x) s (fun t =>
          t.on (F.STR_CALN_BUSY k) = true ∧ (t.st k).calAt = some x ∧ (t.st k).calLeft = s.g (F.STR_CALN_COUNT k)
            ∧ t = { s with regs := t.regs, str := t.str } ∧ s.regsKept t [(.STR, k)]))
        ∧ (s.on (F.STR_CTRL_CALRUN k) = false ∨ s.on (F.STR_CALN_BUSY k) = true → ∀ x, Runs (.caltArm q k x) s (fun t => t.str = s.str
          ∧ t.reported (64 + k) 0xF8 q.detail)))
    ∧ (s.on (F.STR_CALN_BUSY k) = true → (s.st k).calLeft = 0 → Runs (.calRunEnd k) s (fun t => t.on (F.STR_CALN_BUSY k) = false
        ∧ (t.st k).calAt = none ∧ t = { s with regs := t.regs, str := t.str } ∧ s.regsKept t [(.STR, k)])))

/-- Synthesisers (R281 to R285, R289, R294, R295): EN starts and stops a station's, and not SYN0's or SYN1's; SYN0's lock starts the cord counter at 0,
another's lock lets it run; a phase error takes one to HOLD with SYN_LOCK, its cause and count, a reference fault every running one, and a station's VID_OK
bit clears, to set again with ALIGN.VALID; a later measurement more than 4 taps away waits for the restart; and CKOEN takes its bits, a board clock beginning
with the next edge of its schedule. In part this rests on choices of the model: log 19, 64 and 72. -/
def Obligations.Synthesisers : Prop :=
  ∀ (s : State) (n : Nat), s.plain → n < s.blockCount .SYN →
    (∀ q, s.present q → 2 ≤ n → Runs (.synEnable q n true) s (fun t => t.synState n = (if s.synState n = syOFF then syACQUIRE else s.synState n)
      ∧ t.on (F.SYN_CTRL_EN n) = true ∧ t = { s with regs := t.regs } ∧ s.regsKept t [(.SYN, n)]))
    ∧ (∀ q, s.present q → 2 ≤ n → s.on (F.STR_CTRL_EN (n - 2)) = false → Runs (.synEnable q n false) s (fun t => t.synState n = syOFF
        ∧ t.on (F.SYN_CTRL_EN n) = false ∧ t.vidOk (n - 2) = false ∧ t = { s with regs := t.regs, syn := t.syn } ∧ s.regsKept t [(.SYN, n), (.CORD, 0)]))
    ∧ (∀ q, s.present q → 2 ≤ n → s.on (F.STR_CTRL_EN (n - 2)) = true → Runs (.synEnable q n false) s (fun t => t.synState n = s.synState n
        ∧ t.reported (68 + n) 0xF8 q.detail ∧ t = s.noted t))
    ∧ (∀ q b, s.present q → n < 2 → Runs (.synEnable q n b) s (fun t => t = s))
    ∧ (s.synState 0 = syACQUIRE → Runs (.synLocked 0) s (fun t => t.synState 0 = syLOCKED ∧ t.cord = 0 ∧ t.on F.CORD_STAT_RUN = true
        ∧ t.on F.CORD_STAT_CORE_OK = true ∧ t = { s with regs := t.regs, cord := 0 } ∧ s.regsKept t [(.SYN, 0), (.CORD, 0)]))
    ∧ (1 ≤ n → s.synState n = syACQUIRE ∨ s.synState n = syHOLD → Runs (.synLocked n) s (fun t => t.synState n = syLOCKED ∧ t.on (F.SYN_STAT_REFOK n) = true
        ∧ (2 ≤ n → t.on (F.SYN_ALIGN_VALID n) = false) ∧ (n = 1 → (t.synOf 1).readyAt = s.now + 50 * usTicks)
        ∧ t = { s with regs := t.regs, syn := t.syn, str := t.str, free := t.free }))
    ∧ (s.synState n = syLOCKED → Runs (.synLock n 1) s (fun t => t.synState n = syHOLD ∧ t.on (F.SYN_STAT_LOSS n) = true ∧ t.g (F.SYN_STAT_CAUSE n) = 1
        ∧ t.g (F.SYN_STAT_LOSSCNT n) = min (s.g (F.SYN_STAT_LOSSCNT n) + 1) 255 ∧ (2 ≤ n → t.vidOk (n - 2) = false) ∧ t.reported (68 + n) 1 1
        ∧ (n = 0 → t.on F.CORD_STAT_RUN = false ∧ t.on F.FCL_STAT_KETTLE = true)))
    ∧ (∀ m cause, cause = 2 ∨ cause = 3 → s.synState n = syLOCKED → Runs (.synLock m cause) s (fun t => t.synState n = syHOLD
        ∧ t.on (F.SYN_STAT_LOSS n) = true ∧ t.g (F.SYN_STAT_CAUSE n) = cause ∧ t.on (F.SYN_STAT_REFOK n) = false))
    ∧ (∀ x, x < 160 → 2 ≤ n → s.synState n = syLOCKED →
        (s.on (F.SYN_ALIGN_VALID n) = false → Runs (.alignValid n x) s (fun t => t.on (F.SYN_ALIGN_VALID n) = true ∧ t.g (F.SYN_ALIGN_OFS n) = x
          ∧ t.vidOk (n - 2) = true ∧ t = { s with regs := t.regs, syn := t.syn, str := t.str } ∧ s.regsKept t [(.SYN, n), (.CORD, 0), (.STR, n - 2)]))
        ∧ (s.on (F.SYN_ALIGN_VALID n) = true → Runs (.alignMeasure n x) s (fun t =>
          (t.synOf n).nextOfs = (if 4 < tapDist x (s.g (F.SYN_ALIGN_OFS n)) then some x else (s.synOf n).nextOfs) ∧ t = { s with syn := t.syn })))
    ∧ ∀ v, Runs (.ckoenWrite v) s (fun t => t.g (F.SYN_CKOEN_EN0 0) = v % 2 ∧ t.g (F.SYN_CKOEN_EN1 0) = v / 2 % 2 ∧ t = { s with regs := t.regs, syn := t.syn }
        ∧ (∀ k, k < 2 → bit v k = bit (s.word .SYN_CKOEN 0 0) k → t.ckoOf k = s.ckoOf k)
        ∧ (∀ k, k < 2 → bit v k = true → bit (s.word .SYN_CKOEN 0 0) k = false → s.ckoOf k = [] →
            t.ckoOf k = [{ start := s.ckoEdge k (32 * s.now), period := s.ckoPeriod k }])
        ∧ s.regsKept t [(.SYN, 0)])

/-- Strokes (R115, R118, R133, R285, R290 to R293): at a restart the generator loads K by R115, takes the waiting offset and runs, and a profile out of range
blanks the stroke with PROF_RANGE; the lead-out's end stops the clock; an accepted imaging set's profiles reach the idle bank; and in polygon mode a facet's
edge starts a fore stroke at POLYF with K 1. In part this rests on choices of the model: log 10, 64 and 69. -/
def Obligations.StrokeRamps : Prop :=
  ∀ (s : State) (k : Nat), s.plain → k < s.blockCount .STR → s.on (F.STR_CTRL_EN k) = true → s.synState (k + 2) = syLOCKED →
    s.reached (.strImaging k) = false →
    (∀ far x, s.polygon k = false → (s.scan k = scLOCKED ∨ s.scan k = scCOAST) → s.tEst k ≠ 0 → (s.st k).farEnd = far →
      (if far then (s.st k).turnB else (s.st k).turnA) = some x → (s.st k).rampDue = true → (s.synOf (k + 2)).pixelClock = false → s.restartTime k x ≤ 64 * s.now →
      ((s.profOf k far).inRange (s.ga (F.STR_WINDOW_NPIX k)) (s.tEst k) = true → Runs (.rampRestart k) s (fun t =>
        t.g (F.SYN_KVAL_K (k + 2)) = kVal (s.profOf k far).fref (s.tEst k) % 2 ^ 32 ∧ t.g (F.SYN_RAMP_PHASE (k + 2)) = 1
          ∧ t.g (F.SYN_RAMP_DIR (k + 2)) = far.toNat ∧ t.g (F.STR_STAT_STROKES k) = (s.g (F.STR_STAT_STROKES k) + 1) % 2 ^ 22
          ∧ (t.synOf (k + 2)).pixelClock = true ∧ (t.synOf (k + 2)).restart = s.restartTime k x
          ∧ (t.st k).strokeStart = s.restartTime k x + (s.genOf k far (s.tEst k)).leadTime
          ∧ (∀ o, (s.synOf (k + 2)).nextOfs = some o → o < 160 → t.g (F.SYN_ALIGN_OFS (k + 2)) = o)
          ∧ t = { s with regs := t.regs, str := t.str, syn := t.syn } ∧ s.regsKept t [(.STR, k), (.SYN, k + 2)]))
      ∧ ((s.profOf k far).inRange (s.ga (F.STR_WINDOW_NPIX k)) (s.tEst k) = false → Runs (.rampRestart k) s (fun t =>
          (t.synOf (k + 2)).pixelClock = true ∧ (t.st k).lit = false ∧ (t.st k).pulses = [] ∧ t.reported (64 + k) 9 0)))
    ∧ ((s.synOf (k + 2)).pixelClock = true → (s.genNow (k + 2)).span * 2 ^ 32 ≤ (s.genNow (k + 2)).phase (s.sinceRestart (k + 2)) → Runs (.leadOutEnd k) s (fun t =>
        (t.synOf (k + 2)).pixelClock = false ∧ t.g (F.SYN_RAMP_PHASE (k + 2)) = 0 ∧ t.g (F.SYN_FNOW_FREQ (k + 2)) = 0 ∧ (t.st k).lit = false
          ∧ (t.st k).pulses = [] ∧ t = { s with regs := t.regs, str := t.str, syn := t.syn } ∧ s.regsKept t [(.SYN, k + 2)]))
    ∧ ((s.synOf (k + 2)).copying = true → Runs (.profileCopyDone (k + 2)) s (fun t =>
        (if s.g (F.SYN_RAMP_BANK (k + 2)) = 0 then (t.synOf (k + 2)).fore1 = s.readProf (s.g (F.STR_PROF_FORE k))
            ∧ (t.synOf (k + 2)).back1 = s.readProf (s.g (F.STR_PROF_BACK k)) ∧ (t.synOf (k + 2)).fore0 = (s.synOf (k + 2)).fore0
          else (t.synOf (k + 2)).fore0 = s.readProf (s.g (F.STR_PROF_FORE k)) ∧ (t.synOf (k + 2)).back0 = s.readProf (s.g (F.STR_PROF_BACK k))
            ∧ (t.synOf (k + 2)).fore1 = (s.synOf (k + 2)).fore1)
          ∧ (t.synOf (k + 2)).copying = false ∧ t = { s with syn := t.syn, commits := t.commits }))
    ∧ (∀ c te, s.polygon k = true → (s.scan k = scCAPTURE ∨ s.scan k = scLOCKED) → s.bdLit k c = true →
        s.apcMasked k (c + s.g (F.STR_BD_BDLAT k)) = false → (∀ p ∈ s.predTurn k false, distN c p ≤ s.bdTol k) →
        te = (match (s.st k).turnA with
          | some t0 => if t0 < c then (if s.tEst k = 0 then c - t0 else ((s.tEst k : Int) + ((c - t0 : Nat) - (s.tEst k : Int)) / 8).toNat) else s.tEst k
          | none => s.tEst k) → (s.st k).turnA = none ∨ te * 500 ≤ 16000000000 ∧ 16000000000 ≤ te * 6000 →
        Runs (.facetBd k (c + s.g (F.STR_BD_BDLAT k))) s (fun t => (t.st k).turnA = some c ∧ t.tEst k = te ∧ t.g (F.SYN_KVAL_K (k + 2)) = 0x40000000
          ∧ t.g (F.SYN_FNOW_FREQ (k + 2)) = t.g (F.STR_POLYF_FREQ k) ∧ t.g (F.SYN_RAMP_PHASE (k + 2)) = 1 ∧ (t.synOf (k + 2)).pixelClock = true
          ∧ (t.st k).strokeStart = c + (t.genOf k false te).leadTime))

/-- Arithmetic on registers (R177, R178, R186, R187): each operation of format A writes its result to rd, where g0 takes none, and changes nothing else; the
divisions write quotient and remainder into the pair, and set SW.DSAT where they saturate. Arithmetic with an immediate (R186, R187): imm16 is sign-extended
for addi and the comparisons and zero-extended for the bitwise operations; a shift takes a count below 32, and a greater one is an ILLEGAL fault that writes
nothing (R185). In part this rests on choices of the model: log 49. -/
def Obligations.ArithmeticInstructions : Prop :=
  (∀ (s : State) (i : Nat) (rd ra rb : BitVec 5), s.calm → s.issues i →
    let c := s.coreOf i
    let a := c.get ra
    let b := c.get rb
    let puts := fun (v : Word) (t : State) => s.retired t i (c.set rd v) c.seq ∧ s.coresOnly t
    let pair := fun (q r : Word) (sat : Bool) (t : State) =>
      s.retired t i (if sat then (c.setPair rd q r).setSw swDSAT true else c.setPair rd q r) c.seq ∧ s.coresOnly t
    (∀ v, c.set 0 v = c ∧ (rd ≠ 0 → (c.set rd v).get rd = v) ∧ (∀ r, r ≠ rd → (c.set rd v).get r = c.get r))
    ∧ Runs (.add i rd ra rb) s (puts (a + b))
    ∧ Runs (.sub i rd ra rb) s (puts (a - b))
    ∧ Runs (.and i rd ra rb) s (puts (a &&& b))
    ∧ Runs (.or i rd ra rb) s (puts (a ||| b))
    ∧ Runs (.xor i rd ra rb) s (puts (a ^^^ b))
    ∧ Runs (.sll i rd ra rb) s (puts (a <<< (b.toNat % 32)))
    ∧ Runs (.srl i rd ra rb) s (puts (a >>> (b.toNat % 32)))
    ∧ Runs (.sra i rd ra rb) s (puts (BitVec.ofInt 32 (a.toInt / 2 ^ (b.toNat % 32))))
    ∧ Runs (.slt i rd ra rb) s (puts (if a.toInt < b.toInt then 1 else 0))
    ∧ Runs (.sltu i rd ra rb) s (puts (if a.toNat < b.toNat then 1 else 0))
    ∧ Runs (.mul i rd ra rb) s (puts (a * b))
    ∧ Runs (.mulh i rd ra rb) s (puts (BitVec.ofInt 32 (a.toInt * b.toInt / 2 ^ 32)))
    ∧ Runs (.mulhu i rd ra rb) s (puts (BitVec.ofNat 32 (a.toNat * b.toNat / 2 ^ 32)))
    ∧ Runs (.min i rd ra rb) s (puts (if a.toInt ≤ b.toInt then a else b))
    ∧ Runs (.max i rd ra rb) s (puts (if a.toInt ≤ b.toInt then b else a))
    ∧ (rd ≠ 0 → rd.toNat % 2 = 0 →
        (b ≠ 0 → (a ≠ 0x80000000 ∨ b ≠ 0xFFFFFFFF) → Runs (.dvs i rd ra rb) s (fun t => ∃ q r : Word, pair q r false t
          ∧ a.toInt = q.toInt * b.toInt + r.toInt ∧ (0 < b.toInt → 0 ≤ r.toInt ∧ r.toInt < b.toInt) ∧ (b.toInt < 0 → b.toInt < r.toInt ∧ r.toInt ≤ 0)))
        ∧ (a = 0x80000000 → b = 0xFFFFFFFF → Runs (.dvs i rd ra rb) s (pair 0x7FFFFFFF 0 true))
        ∧ (b = 0 → Runs (.dvs i rd ra rb) s (pair (if a.toInt < 0 then 0x80000000 else 0x7FFFFFFF) a true) ∧ Runs (.dvu i rd ra rb) s (pair 0xFFFFFFFF a true))
        ∧ (b ≠ 0 → Runs (.dvu i rd ra rb) s (pair (BitVec.ofNat 32 (a.toNat / b.toNat)) (BitVec.ofNat 32 (a.toNat % b.toNat)) false))))
  ∧ (∀ (s : State) (i : Nat) (rd ra : BitVec 5) (imm : BitVec 16), s.calm → s.issues i →
    let c := s.coreOf i
    let a := c.get ra
    let puts := fun (v : Word) (t : State) => s.retired t i (c.set rd v) c.seq ∧ s.coresOnly t
    Runs (.addi i rd ra imm) s (puts (a + imm.signExtend 32))
    ∧ Runs (.andi i rd ra imm) s (puts (a &&& imm.setWidth 32))
    ∧ Runs (.ori i rd ra imm) s (puts (a ||| imm.setWidth 32))
    ∧ Runs (.xori i rd ra imm) s (puts (a ^^^ imm.setWidth 32))
    ∧ Runs (.slti i rd ra imm) s (puts (if a.toInt < imm.toInt then 1 else 0))
    ∧ Runs (.sltiu i rd ra imm) s (puts (if a.toNat < (imm.signExtend 32).toNat then 1 else 0))
    ∧ Runs (.lui i rd 0 imm) s (puts (BitVec.ofNat 32 (imm.toNat * 2 ^ 16)))
    ∧ (imm.toNat < 32 → Runs (.slli i rd ra imm) s (puts (a <<< imm.toNat)) ∧ Runs (.srli i rd ra imm) s (puts (a >>> imm.toNat))
        ∧ Runs (.srai i rd ra imm) s (puts (BitVec.ofInt 32 (a.toInt / 2 ^ imm.toNat))))
    ∧ (32 ≤ imm.toNat → s.histRoom → c.swOn swINFAULT = false →
        Runs (.slli i rd ra imm) s (fun t => s.trapped t i 1 ((0x07 : BitVec 6) ++ rd ++ ra ++ imm).toNat)
        ∧ Runs (.srli i rd ra imm) s (fun t => s.trapped t i 1 ((0x08 : BitVec 6) ++ rd ++ ra ++ imm).toNat)
        ∧ Runs (.srai i rd ra imm) s (fun t => s.trapped t i 1 ((0x09 : BitVec 6) ++ rd ++ ra ++ imm).toNat)))

/-- Branches and jumps (R182, R186, R188): a compare branch whose condition holds goes to its displacement from its own address, in words, and otherwise to
the next instruction; jal and jalr write the address after themselves to rd; a target outside own local memory, or no multiple of 4, is a FETCH fault of the
instruction that transferred control. In part this rests on choices of the model: log 49. -/
def Obligations.BranchesAndJumps : Prop :=
  ∀ (s : State) (i : Nat) (rd ra rb : BitVec 5) (disp : BitVec 16) (far : BitVec 21), s.calm → s.issues i →
    let c := s.coreOf i
    let a := c.get ra
    let b := c.get rb
    let near := (BitVec.ofInt 32 (c.pc.toNat + 4 * disp.toInt)).toNat
    let link := (BitVec.ofInt 32 (c.pc.toNat + 4 * far.toInt)).toNat
    let inside := fun (x : Nat) => 0xE0000000 ≤ x ∧ x ≤ 0xE003FFFC ∧ x % 4 = 0
    let goes := fun (p : Prop) (cmd : Instr) =>
      (p → inside near → Runs cmd s (fun t => s.retired t i c near ∧ s.coresOnly t))
      ∧ (¬p → Runs cmd s (fun t => s.retired t i c c.seq ∧ s.coresOnly t))
      ∧ (p → ¬inside near → s.histRoom → c.swOn swINFAULT = false → Runs cmd s (fun t => s.trapped t i 7 near))
    goes (a = b) (.beq i ra rb disp) ∧ goes (a ≠ b) (.bne i ra rb disp)
    ∧ goes (a.toInt < b.toInt) (.blt i ra rb disp) ∧ goes (b.toInt ≤ a.toInt) (.bge i ra rb disp)
    ∧ goes (a.toNat < b.toNat) (.bltu i ra rb disp) ∧ goes (b.toNat ≤ a.toNat) (.bgeu i ra rb disp)
    ∧ (inside link → Runs (.jal i rd far) s (fun t => s.retired t i (c.set rd (c.pc + 4)) link ∧ s.coresOnly t))
    ∧ (¬inside link → s.histRoom → c.swOn swINFAULT = false → Runs (.jal i rd far) s (fun t => s.trapped t i 7 link))
    ∧ (inside a.toNat → Runs (.jalr i rd ra 0) s (fun t => s.retired t i (c.set rd (c.pc + 4)) a.toNat ∧ s.coresOnly t))
    ∧ (¬inside a.toNat → s.histRoom → c.swOn swINFAULT = false → Runs (.jalr i rd ra 0) s (fun t => s.trapped t i 7 a.toNat))

/-- Loads and stores (R181, R184, R186, R189): a load writes what lies at the address, signed or unsigned by its kind, and a store puts the low bytes of rd
there and changes no other byte; wherever else the address leads, the load writes what the read gives, and the store acts as the write there does; a
misaligned address is an ALIGN fault, and an address that user mode may not reach a PRIV fault (R180). In part this rests on choices of the model: log 4 and
49. -/
def Obligations.LoadsAndStores : Prop :=
  ∀ (s : State) (i : Nat) (rd ra : BitVec 5) (imm : BitVec 16), s.calm → s.issues i →
    let c := s.coreOf i
    let ea := (c.get ra + imm.signExtend 32).toNat
    let a := 0x100000000 + 0x100000 * i + (ea - 0xE0000000)
    let fits := fun (w : Nat) => 0xE0000000 ≤ ea ∧ ea < 0xE0040000 ∧ ea % w = 0
    let loads := fun (w : Nat) (cmd : Instr) (k : Core) =>
      fits w → s.poisoned a w = false → Runs cmd s (fun t => s.retired t i k c.seq ∧ s.coresOnly t)
    let stores := fun (w : Nat) (cmd : Instr) (v : Nat) => fits w → Runs cmd s (fun t => s.retired t i c c.seq ∧ t.rd a w = v
      ∧ (∀ x, x < a ∨ a + w ≤ x → t.rd x 1 = s.rd x 1) ∧ t = { s with regs := t.regs, cores := t.cores, mem := t.mem, poison := t.poison })
    let loadsAny := fun (op : BitVec 6) (w : Nat) (cmd : Bool → Instr) (put : Core → Nat → Core) =>
      ∀ bad, ∀ r ∈ s.coreReads i (op ++ rd ++ ra ++ imm) ea w w bad, r.2.runsOn i →
        Runs (cmd bad) s (fun t => r.2.retired t i (put (r.2.coreOf i) r.1) c.seq ∧ r.2.coresOnly t)
    let storesAny := fun (op : BitVec 6) (w : Nat) (cmd : Instr) (v : Nat) =>
      ∀ d ∈ s.coreReaches i (op ++ rd ++ ra ++ imm) ea w w, let u := s.coreWrite i d.1 w v ea d.2
        u.runsOn i → Runs cmd s (fun t => u.retired t i (u.coreOf i) c.seq ∧ u.coresOnly t
          ∧ ((d.2 = true ∨ s.takesVector i d.1 w = true ∨ (s.place d.1 = .ring ∧ 4 ≤ w)) →
              t.rd d.1 w = v ∧ ∀ x, x < d.1 ∨ d.1 + w ≤ x → t.rd x 1 = s.rd x 1))
    loadsAny 0x10 4 (.lw i rd ra imm) (fun k v => k.set rd (BitVec.ofNat 32 v))
    ∧ loadsAny 0x11 2 (.lh i rd ra imm) (fun k v => k.set rd ((BitVec.ofNat 16 v).signExtend 32))
    ∧ loadsAny 0x12 2 (.lhu i rd ra imm) (fun k v => k.set rd ((BitVec.ofNat 16 v).setWidth 32))
    ∧ loadsAny 0x13 1 (.lb i rd ra imm) (fun k v => k.set rd ((BitVec.ofNat 8 v).signExtend 32))
    ∧ loadsAny 0x14 1 (.lbu i rd ra imm) (fun k v => k.set rd ((BitVec.ofNat 8 v).setWidth 32))
    ∧ (rd ≠ 0 → rd.toNat % 2 = 0 → loadsAny 0x1B 8 (.ld i rd ra imm) (fun k v => k.setPair rd (BitVec.ofNat 32 v) (BitVec.ofNat 32 (v / 2 ^ 32)))
        ∧ storesAny 0x1C 8 (.sd i rd ra imm) ((c.get rd).toNat + 2 ^ 32 * (c.get (rd + 1)).toNat))
    ∧ storesAny 0x18 4 (.sw i rd ra imm) (c.get rd).toNat
    ∧ storesAny 0x19 2 (.sh i rd ra imm) ((c.get rd).toNat % 2 ^ 16)
    ∧ storesAny 0x1A 1 (.sb i rd ra imm) ((c.get rd).toNat % 2 ^ 8)
    ∧ loads 4 (.lw i rd ra imm false) (c.set rd (BitVec.ofNat 32 (s.rd a 4)))
    ∧ loads 2 (.lh i rd ra imm false) (c.set rd ((BitVec.ofNat 16 (s.rd a 2)).signExtend 32))
    ∧ loads 2 (.lhu i rd ra imm false) (c.set rd (BitVec.ofNat 32 (s.rd a 2)))
    ∧ loads 1 (.lb i rd ra imm false) (c.set rd ((BitVec.ofNat 8 (s.rd a 1)).signExtend 32))
    ∧ loads 1 (.lbu i rd ra imm false) (c.set rd (BitVec.ofNat 32 (s.rd a 1)))
    ∧ (rd ≠ 0 → rd.toNat % 2 = 0 → loads 8 (.ld i rd ra imm false) (c.setPair rd (BitVec.ofNat 32 (s.rd a 4)) (BitVec.ofNat 32 (s.rd (a + 4) 4))))
    ∧ stores 4 (.sw i rd ra imm) (c.get rd).toNat
    ∧ stores 2 (.sh i rd ra imm) ((c.get rd).toNat % 2 ^ 16)
    ∧ stores 1 (.sb i rd ra imm) ((c.get rd).toNat % 2 ^ 8)
    ∧ (rd ≠ 0 → rd.toNat % 2 = 0 → stores 8 (.sd i rd ra imm) ((c.get rd).toNat + 2 ^ 32 * (c.get (rd + 1)).toNat))
    ∧ (s.histRoom → c.swOn swINFAULT = false → ea % 4 ≠ 0 → 0xE0000000 ≤ ea → ea < 0xE0040000 - 4 →
        Runs (.lw i rd ra imm false) s (fun t => s.trapped t i 3 ea) ∧ Runs (.sw i rd ra imm) s (fun t => s.trapped t i 3 ea))
    ∧ (s.histRoom → c.swOn swINFAULT = false → c.swOn swSYS = false → 0xC0000000 ≤ ea → ea < 0xE0000000 - 4 →
        Runs (.lw i rd ra imm false) s (fun t => s.trapped t i 2 ((0x10 : BitVec 6) ++ rd ++ ra ++ imm).toNat)
        ∧ Runs (.sw i rd ra imm) s (fun t => s.trapped t i 2 ((0x18 : BitVec 6) ++ rd ++ ra ++ imm).toNat))

/-- System registers, ERET, FENCE and what interrupts a core (R179, R180, R183, R189, R209, R210): in system mode mfs reads and mts writes the registers of
R179, and eret goes to EPC with the mode restored; in user mode mts and eret are PRIV faults; the answer to a failed store, and the sampling interrupt, enter
the handler. The word of every core instruction (R184, R186) is read back as that instruction, whatever its operands, and a word of a reserved opcode or func
is an ILLEGAL fault (R185). -/
def Obligations.SystemInstructions : Prop :=
  ∀ (s : State) (i : Nat) (rd ra n : BitVec 5), s.calm → i < 24 →
    let c := s.coreOf i
    let a := c.get ra
    let puts := fun (k : Core) (t : State) => s.retired t i k c.seq ∧ s.coresOnly t
    (s.issues i → c.swOn swSYS = true →
      (∀ x v, (x, v) ∈ [(0x00, c.sw), (0x01, c.epc), (0x02, c.ecause), (0x03, c.eval), (0x04, c.vbase),
          (0x05, BitVec.ofNat 32 (i + (if 16 ≤ i then 32 else 0) + (if c.swOn swMAPPED then 64 else 0))), (0x06, c.pwin), (0x08, c.scratch0), (0x09, c.scratch1)] →
          Runs (.mfs i rd 0 x) s (puts (c.set rd v)))
      ∧ Runs (.mfs i rd 0 0x10) s (puts ({ c with cycHi := some (BitVec.ofNat 32 (s.coreCyclesOf c / 2 ^ 32)) }.set rd (BitVec.ofNat 32 (s.coreCyclesOf c))))
      ∧ Runs (.mfs i rd 0 0x11) s (puts ({ c with cycHi := none }.set rd (c.cycHi.getD (BitVec.ofNat 32 (s.coreCyclesOf c / 2 ^ 32)))))
      ∧ Runs (.mfs i rd 0 0x13) s (puts ({ c with insHi := none }.set rd (c.insHi.getD (BitVec.ofNat 32 (c.instret / 2 ^ 32)))))
      ∧ Runs (.mfs i rd 0 0x12) s (puts ({ c with insHi := some (BitVec.ofNat 32 (c.instret / 2 ^ 32)) }.set rd (BitVec.ofNat 32 c.instret)))
      ∧ (∀ x k, (x, k) ∈ [(0x01, { c with epc := a }), (0x02, { c with ecause := a }), (0x03, { c with eval := a }), (0x06, { c with pwin := a &&& 0x7F }),
          (0x07, { c with kick := s.now }), (0x08, { c with scratch0 := a }), (0x09, { c with scratch1 := a }),
          (0x04, { c with vbase := 0xE0000000 ||| (a &&& 0x3FF00) })] → Runs (.mts i 0 ra x) s (puts k))
      ∧ Runs (.mts i 0 ra 0x00) s (fun t => s.coresOnly t ∧ (t.coreOf i).g = c.g ∧ (t.coreOf i).pc = BitVec.ofNat 32 c.seq
          ∧ ∀ b, (t.coreOf i).swOn b = (if b = 31 ∨ b = 30 ∨ b = 29 ∨ b = 28 ∨ b = 27 ∨ (b = 23 ∧ 16 ≤ i) ∨ b = 22 ∨ b = 20 then bit a.toNat b else c.swOn b))
      ∧ (pcOk c.epc.toNat = true → Runs (.eret i 0 0 0) s (fun t => s.coresOnly t ∧ s.onlyCore t i ∧ t.coreState i = csRUN ∧ (t.coreOf i).g = c.g
          ∧ (t.coreOf i).pc = c.epc ∧ (t.coreOf i).swOn swSYS = c.swOn swPSYS ∧ (t.coreOf i).swOn swIE = c.swOn swPIE
          ∧ (t.coreOf i).swOn swINFAULT = false ∧ ∀ b, b < 29 → (t.coreOf i).swOn b = c.swOn b))
      ∧ (c.storeErr = none → Runs (.fence i 0 0 0) s (puts c)))
    ∧ (s.issues i → c.swOn swSYS = false → Runs (.mfs i rd 0 0x00) s (puts (c.set rd c.sw))
        ∧ Runs (.mfs i rd 0 0x05) s (puts (c.set rd (BitVec.ofNat 32 (i + (if 16 ≤ i then 32 else 0) + (if c.swOn swMAPPED then 64 else 0))))))
    ∧ (s.issues i → c.swOn swSYS = false → s.histRoom → c.swOn swINFAULT = false →
        Runs (.mts i 0 ra n) s (fun t => s.trapped t i 2 ((0 : BitVec 6) ++ (0 : BitVec 5) ++ ra ++ n ++ (0x021 : BitVec 11)).toNat)
        ∧ Runs (.eret i 0 0 0) s (fun t => s.trapped t i 2 0x022))
    ∧ (s.coreLive i = true → c.storeErr = none → s.histRoom → c.swOn swINFAULT = false → ∀ x, x < 2 ^ 32 → Runs (.storeError i x) s (fun t =>
        s.entered t i c.pc.toNat 5 x c.vbase.toNat ∧ t.reported (40 + i) 1 5 ∧ s.regsKept t [(.FCL, 0), (.TCE, 0)]))
    ∧ (s.coreLive i = true → s.on (F.OBS_SAMP_INFO_PEND i) = true → c.swOn swIE = true → c.swOn swINFAULT = false → Runs (.sampleInterrupt i) s (fun t =>
        s.entered t i c.pc.toNat 0x10 0 (c.vbase + 0x40).toNat ∧ t.on (F.OBS_SAMP_INFO_PEND i) = false ∧ s.coresOnly t
          ∧ s.regsKept t [(.OBS, 0), (.TCE, 0)]))
    ∧ (∀ x w, gotumWord x = some (i, w) → (match x with | .lw _ _ _ _ b => b | .lh _ _ _ _ b => b | .lhu _ _ _ _ b => b | .lb _ _ _ _ b => b | .lbu _ _ _ _ b => b | .ld _ _ _ _ b => b | .tbl _ _ _ _ _ _ b => b | .bfld _ _ _ _ _ b => b | _ => false) = false → decodeGotum i w = some x ∧ s.runWord i w = exec x s)
    ∧ (∀ w : Word, s.issues i → s.histRoom → c.swOn swINFAULT = false →
        (let op := w.toNat / 2 ^ 26
         let func := w.toNat % 2 ^ 11
         0x0B ≤ op ∧ op ≤ 0x0F ∨ 0x15 ≤ op ∧ op ≤ 0x17 ∨ 0x1D ≤ op ∧ op ≤ 0x1F ∨ op = 0x27 ∨ 0x29 ≤ op ∧ op ≤ 0x2F
          ∨ op = 0 ∧ (func = 0x00F ∨ func = 0x010 ∨ 0x014 ≤ func ∧ func ≤ 0x01F ∨ 0x024 ≤ func)) →
        ∃ t, s.runWord i w = .next t ∧ s.trapped t i 1 w.toNat)

/-- Timeline instructions (R191 to R195): AT queues its event at an actuator the core owns, EMIT sets one at once; SNAP reads the core's follower, which is
cord time or a tick behind it (R20), and as it slips sets SW.CSLIP (R191); WAITC goes on once its time has passed and waits before; WEDGE writes the earliest
stamp of its window and falls through, branches where the source does not exist or the window has passed, and waits otherwise. What ends a wait for time or an
edge (R191, R194): the cord time awaited, a new edge within the window, or the window's end; each edge source keeps its last four stamps of each polarity. In
part this rests on choices of the model: log 1, 25 and 49. -/
def Obligations.TimelineInstructions : Prop :=
  (∀ (s : State) (i : Nat) (rt rs : BitVec 5) (imm : BitVec 16), s.calm → s.issues i → s.on F.CORD_STAT_CORE_OK = true → rt ≠ 0 → rt.toNat % 4 = 0 →
    let c := s.coreOf i
    let x := (c.get rt).toNat + 2 ^ 32 * (c.get (rt + 1)).toNat
    let y := (c.get (rt + 2)).toNat + 2 ^ 32 * (c.get (rt + 3)).toNat
    let v := (c.get rs).toNat
    let words := fun (z : Nat) => (BitVec.ofNat 32 z, BitVec.ofNat 32 (z / 2 ^ 32))
    let id := imm.toNat
    ((ridClass id = 1 ∨ ridClass id = 2) → s.owns (.core i) id = true → s.now + 16 ≤ x → (∀ e ∈ s.actQueue id, e.t ≠ x) → (s.actQueue id).length < 32 →
      Runs (.atTime i rt rs imm) s (fun t => t.actQueue id = insertEvent { t := x, kind := ridClass id, value := v, folio := s.servedBy x } (s.actQueue id)
        ∧ (∀ j, j ≠ id → t.actQueue j = s.actQueue j) ∧ s.retired t i c c.seq ∧ t = { s with regs := t.regs, cores := t.cores, acts := t.acts }))
    ∧ (ridClass id = 1 → s.owns (.core i) id = true → (s.padFunc (ridIndex id) = 1 ∨ s.padFunc (ridIndex id) = 2) → s.fired = [] →
        s.on F.FCL_STAT_KETTLE = false → Runs (.emit i 0 rs imm) s (fun t => t.padOut (ridIndex id) = v % 2
          ∧ (∀ j, j ≠ ridIndex id → t.padOut j = s.padOut j) ∧ s.retired t i c c.seq
          ∧ t = { s with regs := t.regs, cores := t.cores, padOuts := t.padOuts, fcl := t.fcl }))
    ∧ (actuatorOk id = true → s.owns (.core i) id = true → s.outdone id v = true → Runs (.emit i 0 rs imm) s (fun t => s.retired t i c c.seq ∧ s.coresOnly t))
    ∧ (actuatorOk id = true → s.owns (.core i) id = true → s.outdone id v = false → (s.actuate id v).runsOn i → Runs (.emit i 0 rs imm) s (fun t =>
        (s.actuate id v).retired t i ((s.actuate id v).coreOf i) c.seq ∧ (s.actuate id v).coresOnly t))
    ∧ Runs (.snap i rt 0 0) s (fun t => ∃ z, z ≤ s.now ∧ s.now ≤ z + 1 ∧ s.retired t i (c.setPair rt (words z).1 (words z).2) c.seq
        ∧ t = { s with regs := t.regs, cores := t.cores, free := t.free })
    ∧ (x < s.now → Runs (.waitc i rt 0 0) s (fun t => s.retired t i c c.seq ∧ t = { s with regs := t.regs, cores := t.cores, free := t.free }))
    ∧ (x = s.now → Runs (.waitc i rt 0 0) s (fun t => (s.retired t i c c.seq ∨ s.waits t i (.cord x)) ∧ t = { s with regs := t.regs, cores := t.cores, free := t.free }))
    ∧ (s.now < x → Runs (.waitc i rt 0 0) s (fun t => s.waits t i (.cord x) ∧ t = { s with regs := t.regs, cores := t.cores, free := t.free }))
    ∧ (rs ≠ 0 → rs.toNat % 2 = 0 →
        let src := imm.toNat / 1024
        let falling := imm.toNat / 512 % 2 = 1
        let stamps := vget s.edges (2 * src + imm.toNat / 512 % 2)
        let target := (BitVec.ofInt 32 (c.pc.toNat + 4 * toSigned 9 imm.toNat)).toNat
        (∀ z, s.edgeExists src = true → z ∈ stamps → x ≤ z → z ≤ y → (∀ u ∈ stamps, x ≤ u → u ≤ y → z ≤ u) → Runs (.wedge i rt rs imm) s (fun t =>
          s.retired t i (c.setPair rs (words z).1 (words z).2) c.seq ∧ s.coresOnly t))
        ∧ ((s.edgeExists src = false ∨ y < x) → pcOk target = true → Runs (.wedge i rt rs imm) s (fun t => s.retired t i c target ∧ s.coresOnly t))
        ∧ (s.edgeExists src = true → x ≤ y → (∀ u ∈ stamps, u < x ∨ y < u) →
            (s.now ≤ y + 4 → Runs (.wedge i rt rs imm) s (fun t => s.waits t i (.edge x y src falling rs.toNat (toSigned 9 imm.toNat))
              ∧ t = { s with regs := t.regs, cores := t.cores, free := t.free }))
            ∧ (y + 5 < s.now → pcOk target = true → Runs (.wedge i rt rs imm) s (fun t => s.retired t i c target
              ∧ t = { s with regs := t.regs, cores := t.cores, free := t.free }))))
    ∧ ∀ q : State, q = s.p F.CORD_STAT_CORE_OK 0 → q.calm →
        Runs (.snap i rt 0 0) q (fun t => (t.coreOf i).swOn swCSLIP = true ∧ (t.coreOf i).pc.toNat = c.seq ∧ q.onlyCore t i)
        ∧ Runs (.waitc i rt 0 0) q (fun t => (t.coreOf i).swOn swCSLIP = true ∧ q.onlyCore t i))
  ∧ (∀ (s : State) (i : Nat), s.calm → s.coreLive i = true → s.on F.CORD_STAT_CORE_OK = true → pcOk (s.coreOf i).seq = true →
    let c := s.coreOf i
    (∀ x, c.wait = some (.cord x) → x < s.now → Runs (.waitcComplete i) s (fun t => s.retired t i c c.seq
      ∧ t = { s with regs := t.regs, cores := t.cores, free := t.free }))
    ∧ (∀ x y src falling rs disp, c.wait = some (.edge x y src falling rs disp) →
        (y + 5 < s.now → pcOk (c.target disp) = true → Runs (.wedgeTimeout i) s (fun t => s.retired t i c (c.target disp)
          ∧ t = { s with regs := t.regs, cores := t.cores, free := t.free }))
        ∧ (src < 64 → s.edgeExists src = true → (∀ k, ¬(s.on (F.STR_CTRL_LDFLTEN k) = true ∧ s.g (F.STR_CTRL_LDFLT k) = src)) → x ≤ s.now → s.now ≤ y → (∀ j, j ≠ i → (s.coreOf j).wait = none) → Runs (.wedgeEdge src falling) s (fun t =>
          s.retired t i (c.setPair (BitVec.ofNat 5 rs) (BitVec.ofNat 32 s.now) (BitVec.ofNat 32 (s.now / 2 ^ 32))) c.seq
            ∧ vget t.edges (2 * src + falling.toNat) = (s.now :: vget s.edges (2 * src + falling.toNat)).take 4
            ∧ (∀ j, j ≠ 2 * src + falling.toNat → vget t.edges j = vget s.edges j) ∧ Cells.get 0 (s.edgePad src) t.padIns = (if falling then 0 else 1)
            ∧ t = { s with regs := t.regs, cores := t.cores, edges := t.edges, padIns := t.padIns }))))

/-- Rings and claims of a core (R180, R196, R197): RPUSH copies an entry from own local memory to QTAIL's place, RPOP the entry at QHEAD to it, each with its
pointer moved by one and 1 in rt; without room or entry, rt takes 0 or the core waits; a ring that is not its own is refused; CLAIM and FREE write 1 where
they are granted. In part this rests on choices of the model: log 49. -/
def Obligations.CoreRingsAndClaims : Prop :=
  ∀ (s : State) (i r ea a : Nat) (rt rs : BitVec 5) (w : Bool), s.calm → i < 24 → r < 128 →
    let c := s.coreOf i
    let n := s.ringEsize r
    let imm := BitVec.ofNat 16 (r + (if w then 2 ^ 15 else 0))
    let one := fun (k : Core) => k.set rt 1
    let fits := ownLocal i ea n = some a ∧ ea % 16 = 0
    let same := fun (t : State) => t = { s with regs := t.regs, cores := t.cores, mem := t.mem, poison := t.poison, claims := t.claims }
    let pushed := fun (t : State) => t.qtail r = (s.qtail r + 1) % s.ringLen r ∧ t.qhead r = s.qhead r
      ∧ t.rdBytes (s.ringAddr r (s.qtail r)) n = s.rdBytes a n
      ∧ (∀ x, x < s.ringAddr r (s.qtail r) ∨ s.ringAddr r (s.qtail r) + n ≤ x → t.rd x 1 = s.rd x 1) ∧ s.retired t i (one c) c.seq ∧ same t
    let popped := fun (t : State) => t.qhead r = (s.qhead r + 1) % s.ringLen r ∧ t.qtail r = s.qtail r
      ∧ t.rdBytes a n = s.rdBytes (s.ringAddr r (s.qhead r)) n ∧ (∀ x, x < a ∨ a + n ≤ x → t.rd x 1 = s.rd x 1) ∧ s.retired t i (one c) c.seq ∧ same t
    (s.issues i → (c.get rs).toNat = ea → fits → s.ringLen r ≤ 4096 →
      (s.ringEn r = true → s.ringProd r = ⟨3, i⟩ →
        (s.ringFull r = false → s.poisoned a n = false → Runs (.rpush i rt rs imm) s pushed)
        ∧ (s.ringFull r = true → w = false → Runs (.rpush i rt rs imm) s (fun t => s.retired t i (c.set rt 0) c.seq ∧ s.coresOnly t))
        ∧ (s.ringFull r = true → w = true → Runs (.rpush i rt rs imm) s (fun t => s.waits t i (.push rt.toNat ea r) ∧ s.coresOnly t)))
      ∧ (s.ringEn r = true → s.ringCons r = ⟨3, i⟩ →
        (s.ringEmpty r = false → s.poisoned (s.ringAddr r (s.qhead r)) n = false → Runs (.rpop i rt rs imm) s popped)
        ∧ (s.ringEmpty r = true → w = false → Runs (.rpop i rt rs imm) s (fun t => s.retired t i (c.set rt 0) c.seq ∧ s.coresOnly t))
        ∧ (s.ringEmpty r = true → w = true → Runs (.rpop i rt rs imm) s (fun t => s.waits t i (.pop rt.toNat ea r) ∧ s.coresOnly t)))
      ∧ (s.histRoom → (s.ringEn r = false ∨ s.ringProd r ≠ ⟨3, i⟩) → Runs (.rpush i rt rs imm) s (fun t => t.reported 4 0xF6 i
          ∧ (t.coreOf i).get rt = 0 ∧ (t.coreOf i).wait = none ∧ (t.coreOf i).pc.toNat = c.seq))
      ∧ (s.histRoom → (s.ringEn r = false ∨ s.ringCons r ≠ ⟨3, i⟩) → Runs (.rpop i rt rs imm) s (fun t => t.reported 4 0xF6 i
          ∧ (t.coreOf i).get rt = 0 ∧ (t.coreOf i).wait = none ∧ (t.coreOf i).pc.toNat = c.seq)))
    ∧ (s.coreLive i = true → pcOk c.seq = true → s.ringEn r = true → fits → s.ringLen r ≤ 4096 →
        (c.wait = some (.push rt.toNat ea r) → s.ringProd r = ⟨3, i⟩ → s.ringFull r = false → s.poisoned a n = false →
          Runs (.ringWaitComplete i) s pushed)
        ∧ (c.wait = some (.pop rt.toNat ea r) → s.ringCons r = ⟨3, i⟩ → s.ringEmpty r = false → s.poisoned (s.ringAddr r (s.qhead r)) n = false →
          Runs (.ringWaitComplete i) s popped))
    ∧ ∀ (id : BitVec 16) (x : BitVec 5), (id = 0 ∨ x = 0) → s.issues i → c.swOn swSYS = true →
        let rid := if id = 0 then (c.get x).toNat % 65536 else id.toNat
        (s.ridExists rid = true → s.owned rid = false → Runs (.claim i rt x id) s (fun t => t.ownerOf rid = ⟨3, i⟩
          ∧ (∀ j, j ≠ rid → t.ownerOf j = s.ownerOf j) ∧ s.retired t i (one c) c.seq ∧ same t))
        ∧ (s.owned rid = true → s.histRoom → Runs (.claim i rt x id) s (fun t => t.reported (40 + i) 0xF3 i ∧ t.claims = s.claims
          ∧ (t.coreOf i).get rt = 0 ∧ (t.coreOf i).pc.toNat = c.seq))
        ∧ (s.ridExists rid = true → s.owns (.core i) rid = true → ridClass rid = 3 → Runs (.free i rt x id) s (fun t =>
          t.owned rid = false ∧ (∀ j, j ≠ rid → t.ownerOf j = s.ownerOf j) ∧ s.retired t i (one c) c.seq
            ∧ t = { s with regs := t.regs, cores := t.cores, claims := t.claims, acts := t.acts, adcOff := t.adcOff }))
        ∧ (s.ridExists rid = true → s.owns (.core i) rid = true → let u := s.release rid
            u.runsOn i → Runs (.free i rt x id) s (fun t => t.owned rid = false ∧ u.retired t i (one (u.coreOf i)) c.seq ∧ u.coresOnly t))
        ∧ (s.ridExists rid = true → s.owns (.core i) rid = false → s.histRoom → Runs (.free i rt x id) s (fun t => t.reported (40 + i) 0xF4 i
            ∧ t.claims = s.claims ∧ (t.coreOf i).get rt = 0 ∧ (t.coreOf i).pc.toNat = c.seq))

/-- The arithmetic of the vector unit (R199 to R205): a right shift rounds to the nearest value, a tie away from zero, and each result lane holds its rule's
value, saturated, with SW.VOV set where one saturates; the other lanes and registers stay as their rules say. -/
def Obligations.VectorArithmetic : Prop :=
  (∀ (x : Int) (k : Nat), 2 * (x - roundShift x k * 2 ^ k).natAbs ≤ 2 ^ k ∧ (2 * (x - roundShift x k * 2 ^ k).natAbs = 2 ^ k → x.natAbs ≤ (roundShift x k * 2 ^ k).natAbs))
  ∧ ∀ (s : State) (i : Nat) (vd va vb : BitVec 4) (g : BitVec 5) (func : BitVec 9), s.calm → s.issues i → 16 ≤ i →
    let c := s.coreOf i
    let f := func.toNat
    let n := f % 8 + 1
    let clampM := clampI (-32767) 32767
    let align := fun (m : Int) (ex e : Nat) => clampM (scale m ((ex : Int) - e))
    let outM := fun (x : Int) => x < -32767 ∨ 32767 < x
    let kept := fun (t : State) => s.onlyCore t i ∧ s.coresOnly t ∧ (t.coreOf i).pc.toNat = c.seq ∧ ∀ b, b ≠ swVOV → (t.coreOf i).swOn b = c.swOn b
    let keptV := fun (t : State) => kept t ∧ (t.coreOf i).a = c.a ∧ ∀ j, j ≠ vd → (t.coreOf i).vreg j = c.vreg j
    let keptA := fun (t : State) => kept t ∧ (t.coreOf i).g = c.g ∧ (t.coreOf i).v = c.v ∧ ∀ j, j ≠ vd.toNat → (t.coreOf i).acc j = c.acc j
    (vd.toNat < 4 → f < 64 → Runs (.bfclr i vd 0 0 0 func) s (fun t => ((t.coreOf i).acc vd.toNat).e.toNat = f
      ∧ (∀ k, k < 8 → ((t.coreOf i).acc vd.toNat).lane k = 0) ∧ (t.coreOf i).swOn swVOV = c.swOn swVOV ∧ keptA t))
    ∧ (vd.toNat < 4 → f / 8 % 2 = 0 → (f / 128 % 2 = 1 ∨ f / 16 % 8 = 0) →
        let a := c.acc vd.toNat
        let p := fun (k : Nat) => scale ((c.vreg va).lane k * (c.vreg vb).lane (if f / 128 % 2 = 1 then f / 16 % 8 else k))
          (((c.vreg va).exp : Int) + (c.vreg vb).exp - a.e.toNat - 32)
        let x := fun (k : Nat) => if f / 256 = 1 then a.lane k - p k else a.lane k + p k
        Runs (.bfmac i vd va vb 0 func) s (fun t => ((t.coreOf i).acc vd.toNat).e = a.e
          ∧ (∀ k, k < n → ((t.coreOf i).acc vd.toNat).lane k = clampI (-(2 ^ 39 - 1)) (2 ^ 39 - 1) (x k))
          ∧ (∀ k, n ≤ k → k < 8 → ((t.coreOf i).acc vd.toNat).lane k = a.lane k)
          ∧ ((t.coreOf i).swOn swVOV = true ↔ c.swOn swVOV = true ∨ ∃ k, k < n ∧ (x k < -(2 ^ 39 - 1) ∨ 2 ^ 39 - 1 < x k)) ∧ keptA t))
    ∧ (va.toNat < 4 → f / 64 % 4 = 0 →
        let a := c.acc va.toNat
        let x := fun (e k : Nat) => scale (a.lane k) ((a.e.toNat : Int) - e - 15)
        Runs (.bfnorm i vd va 0 0 func) s (fun t =>
          let e := ((t.coreOf i).vreg vd).exp
          (∀ k, k < 8 → ((t.coreOf i).vreg vd).lane k = clampM (x e k))
            ∧ (f / 256 = 0 → e = f % 64)
            ∧ (f / 256 = 1 → f % 64 ≤ e ∧ (∀ e', f % 64 ≤ e' → e' < e → ∃ k, k < 8 ∧ outM (x e' k)) ∧ (e = 63 ∨ ∀ k, k < 8 → ¬outM (x e k)))
            ∧ ((t.coreOf i).swOn swVOV = true ↔ c.swOn swVOV = true ∨ ∃ k, k < 8 ∧ outM (x e k)) ∧ keptV t ∧ (t.coreOf i).g = c.g))
    ∧ (f < 8 →
        let d := c.vreg vd
        let target := fun (k : Nat) => align ((c.vreg va).lane k) (c.vreg va).exp d.exp
        let step := fun (k : Nat) => max 0 (align ((c.vreg vb).lane k) (c.vreg vb).exp d.exp)
        Runs (.slew i vd va vb 0 func) s (fun t => ((t.coreOf i).vreg vd).e = d.e
          ∧ (∀ k, k < n → ((t.coreOf i).vreg vd).lane k = clampM (d.lane k + clampI (-(step k)) (step k) (target k - d.lane k)))
          ∧ (∀ k, n ≤ k → k < 8 → ((t.coreOf i).vreg vd).lane k = d.lane k) ∧ keptV t ∧ (t.coreOf i).g = c.g))
    ∧ (f < 3 →
        let a := c.vreg va
        Runs (.minsel i vd va 0 g func) s (fun t => ∃ w, w < f + 2 ∧ (∀ k, k < f + 2 → a.lane w ≤ a.lane k) ∧ (∀ k, k < w → a.lane w < a.lane k)
          ∧ (g ≠ 0 → (t.coreOf i).get g = BitVec.ofNat 32 w) ∧ (∀ r, r ≠ g → (t.coreOf i).get r = c.get r) ∧ ((t.coreOf i).vreg vd).e = a.e
          ∧ (∀ k, k < 8 → ((t.coreOf i).vreg vd).lane k = (if k < f + 2 then clampM (a.lane w - a.lane k) else if k = 4 then a.lane w else 0)) ∧ keptV t))

/-- Vectors and tables in memory (R199, R201, R206): bfld takes n mantissas and the exponent and clears the other lanes, bfst stores n mantissas and the
exponent byte and no other byte, and tbl interpolates between two entries of its table by R206; on a timeline core each is an ILLEGAL fault (R176). In part
this rests on choices of the model: log 4 and 49. -/
def Obligations.VectorMemory : Prop :=
  ∀ (s : State) (i : Nat) (vd va : BitVec 4) (ga : BitVec 5) (n1 : BitVec 3) (off : BitVec 14) (func : BitVec 9), s.calm → s.issues i →
    let c := s.coreOf i
    let own := fun (ea : Nat) => 0x100000000 + 0x100000 * i + (ea - 0xE0000000)
    let fits := fun (ea len : Nat) => 0xE0000000 ≤ ea ∧ ea + len ≤ 0xE0040000 ∧ ea % 4 = 0
    let ea := (c.get ga + off.signExtend 32 * 4).toNat
    let a := own ea
    let kept := fun (t : State) => s.onlyCore t i ∧ (t.coreOf i).pc.toNat = c.seq ∧ (t.coreOf i).g = c.g ∧ (t.coreOf i).a = c.a
    (∀ bad, ∀ r ∈ s.coreReads i ((0x39 : BitVec 6) ++ vd ++ ga ++ n1 ++ off) ea 20 4 bad, 16 ≤ i → r.1 / 2 ^ 134 % 4 = 0 → r.2.runsOn i →
      Runs (.bfld i vd ga n1 off bad) s (fun t => ((t.coreOf i).vreg vd).exp = r.1 / 2 ^ 128 % 64
        ∧ (∀ k, k < 8 → ((t.coreOf i).vreg vd).lane k = (if k ≤ n1.toNat then toSigned 16 (r.1 / 2 ^ (16 * k)) else 0))
        ∧ (∀ j, j ≠ vd → (t.coreOf i).vreg j = (r.2.coreOf i).vreg j) ∧ r.2.onlyCore t i ∧ (t.coreOf i).pc.toNat = c.seq ∧ r.2.coresOnly t))
    ∧ (∀ d ∈ s.coreReaches i ((0x3A : BitVec 6) ++ vd ++ ga ++ n1 ++ off) ea 20 4, 16 ≤ i → (d.2 = true ∨ s.takesVector i d.1 20 = true) →
        Runs (.bfst i vd ga n1 off) s (fun t =>
          (∀ k, k ≤ n1.toNat → toSigned 16 (t.rd (d.1 + 2 * k) 2) = (c.vreg vd).lane k) ∧ t.rd (d.1 + 16) 1 = (c.vreg vd).exp
            ∧ (∀ x, (x < d.1 ∨ (d.1 + 2 * (n1.toNat + 1) ≤ x ∧ x ≠ d.1 + 16)) → t.rd x 1 = s.rd x 1) ∧ s.retired t i c c.seq
            ∧ t = { s with regs := t.regs, cores := t.cores, mem := t.mem, poison := t.poison }))
    ∧ (16 ≤ i → fits ea 20 → s.poisoned a 20 = false → s.rd (a + 16) 1 < 64 → Runs (.bfld i vd ga n1 off false) s (fun t =>
      ((t.coreOf i).vreg vd).exp = s.rd (a + 16) 1 ∧ (∀ k, k < 8 → ((t.coreOf i).vreg vd).lane k = (if k ≤ n1.toNat then toSigned 16 (s.rd (a + 2 * k) 2) else 0))
        ∧ (∀ j, j ≠ vd → (t.coreOf i).vreg j = c.vreg j) ∧ kept t ∧ (t.coreOf i).sw = c.sw ∧ s.coresOnly t))
    ∧ (16 ≤ i → fits ea 20 → Runs (.bfst i vd ga n1 off) s (fun t =>
        (∀ k, k ≤ n1.toNat → toSigned 16 (t.rd (a + 2 * k) 2) = (c.vreg vd).lane k) ∧ t.rd (a + 16) 1 = (c.vreg vd).exp
          ∧ (∀ x, (x < a ∨ (a + 2 * (n1.toNat + 1) ≤ x ∧ x ≠ a + 16)) → t.rd x 1 = s.rd x 1) ∧ s.retired t i c c.seq
          ∧ t = { s with regs := t.regs, cores := t.cores, mem := t.mem, poison := t.poison }))
    ∧ (∀ (N : Nat) (wrap : Bool), 16 ≤ i → func.toNat < 8 → 2 ≤ N → N ≤ 1024 →
        ∀ b, (b = own (c.get ga).toNat ∧ fits (c.get ga).toNat (8 + 2 * N)) ∨ (b = (c.get ga).toNat ∧ 0xC0000000 ≤ b ∧ b + 8 + 2 * N ≤ 0xC0100000 ∧ b % 4 = 0 ∧ c.swOn swSYS = true) →
        let entry := fun (k : Nat) => toSigned 16 (s.rd (b + 8 + 2 * k) 2)
        let u := fun (k : Nat) => ofSigned 16 ((c.vreg va).lane k) * (if wrap then N else N - 1)
        let next := fun (j : Nat) => if wrap then (j + 1) % N else min (j + 1) (N - 1)
        s.poisoned b (8 + 2 * N) = false → s.rd b 2 = N → s.rd (b + 2) 1 / 64 = wrap.toNat → s.rd (b + 3) 4 = 0 →
        s.rd (b + 7) 1 = 0 → Runs (.tbl i vd va 0 ga func false) s (fun t => ((t.coreOf i).vreg vd).exp = s.rd (b + 2) 1 % 64
          ∧ (∀ k, k < 8 → ((t.coreOf i).vreg vd).lane k = (if k ≤ func.toNat then
              clampI (-32767) 32767 (roundShift (entry (u k / 65536) * 65536 + (entry (next (u k / 65536)) - entry (u k / 65536)) * (u k % 65536 : Nat)) 16) else 0))
          ∧ (∀ j, j ≠ vd → (t.coreOf i).vreg j = c.vreg j) ∧ kept t ∧ s.coresOnly t))
    ∧ (i < 16 → s.histRoom → c.swOn swINFAULT = false →
        Runs (.bfld i vd ga n1 off false) s (fun t => s.trapped t i 1 ((0x39 : BitVec 6) ++ vd ++ ga ++ n1 ++ off).toNat)
        ∧ Runs (.bfst i vd ga n1 off) s (fun t => s.trapped t i 1 ((0x3A : BitVec 6) ++ vd ++ ga ++ n1 ++ off).toNat)
        ∧ Runs (.bfclr i vd 0 0 0 func) s (fun t => s.trapped t i 1 ((0x28 : BitVec 6) ++ vd ++ (0 : BitVec 13) ++ func).toNat))

/-- Ingest (R150 to R156): GO starts a side; a free compressor takes the next staged block in the cyclic order of contexts; the context takes a run from its
ring, and a bad entry is discarded with RUN_BAD; a finished block is stored whole at the next 64-byte-aligned address of its run, with its locator, and one
that does not fit closes the run; no run within RUNWAIT fails the context; and a side received and stored is DONE with its CRC, which GATH compares. In part
this rests on choices of the model: log 7, 15 and 17. -/
def Obligations.RasterIngest : Prop :=
  ∀ (s : State) (n : Nat), s.calm → n < 8 →
    let c := s.ctxOf n
    let r := s.g (F.ING_CTX_CFG_RING n)
    let entry := s.ringAddr r (s.qhead r)
    let onlyCtx := fun (t : State) => t = { s with regs := t.regs, ctx := t.ctx } ∧ ∀ j, j ≠ n → t.ctxOf j = s.ctxOf j
    (∀ q v, s.present q →
      let fits := 1 ≤ bits v 27 24 ∧ bits v 27 24 < 2 ^ s.blockCount .STR ∧ 1 ≤ bits v 23 10 ∧ bits v 23 10 ≤ 15591
      let job := fun (t : State) => t.g (F.ING_CTX_JOB_SIDE n) = bits v 30 30 ∧ t.ctxFormat n = bits v 29 28 ∧ t.ctxNpix n = bits v 23 10
        ∧ t.g (F.ING_CTX_JOB_STATIONS n) = bits v 27 24 ∧ s.regsKept t [(.ING, 0), (.GATH, 0), (.TCE, 0)]
      let runs := fun (t : State) => job t ∧ t.ctxState n = ctxRUNNING ∧ t.g (F.ING_CTX_STAT_RUNS n) = 0 ∧ s.regsKept t [(.ING, 0)] ∧ ∀ j, j ≠ n → t.ctxOf j = s.ctxOf j
      (s.ctxState n ≠ ctxRUNNING → fits →
        (s.ingestDesc n = none → Runs (.ingGo q n v) s (fun t => runs t ∧ (∃ p, t.ctxOf n = { pitch := p } ∧ p.length = 4)
          ∧ t = { s with regs := t.regs, ctx := t.ctx, free := t.free }))
        ∧ (∀ d, s.ingestDesc n = some d →
            (∀ p, s.planePitches n d (bit v 30) = some p → Runs (.ingGo q n v) s (fun t => runs t ∧ t.ctxOf n = { fsn := some d.fsn, pitch := p }
              ∧ t = { s with regs := t.regs, ctx := t.ctx }))
            ∧ (s.planePitches n d (bit v 30) = none → Runs (.ingGo q n v) s (fun t => job t ∧ t.ctxState n = 3 ∧ t.g (F.ING_CTX_STAT_CODE n) = 9
              ∧ ∀ f, s.folio? n d.fsn = some f → f.st = .ingest → t.g (F.GATH_SSTAT_LASTREF n) = 9 ∧ ∃ g, t.folio? n d.fsn = some g ∧ g.st = .refused))))
      ∧ (s.histRoom → (s.ctxState n = ctxRUNNING → Runs (.ingGo q n v) s (fun t => t.reported 12 0xF8 q.detail ∧ t = s.noted t
            ∧ s.regsKept t [(.FCL, 0), (.TCE, 0)]))
          ∧ (s.ctxState n ≠ ctxRUNNING → ¬fits → Runs (.ingGo q n v) s (fun t => t.reported 12 0xF2 q.detail ∧ t = s.noted t ∧ s.regsKept t [(.FCL, 0), (.TCE, 0)]))))
    ∧ (∀ m p k bs rest, m < 2 → (vget s.cmp m).out.length < 2 → s.ctxState n = ctxRUNNING → c.staged = (p, k, bs) :: rest → s.lastHanded < 8 →
        (∀ d, d < (n + 7 - s.lastHanded) % 8 → s.ctxState ((s.lastHanded + 1 + d) % 8) ≠ ctxRUNNING ∨ (s.ctxOf ((s.lastHanded + 1 + d) % 8)).staged = []) →
        Runs (.compressorHandoff m false) s (fun t =>
          (vget t.cmp m).out = (vget s.cmp m).out ++ [(n, p, k, (storeBlock bs).1, (storeBlock bs).2)] ∧ t.lastHanded = n
            ∧ t.ctxOf n = { c with staged := rest, bands := c.bands ++ [(p * s.ctxNb n + k, crc32c bs, bs.length)] }
            ∧ t = { s with ctx := t.ctx, cmp := t.cmp, lastHanded := n } ∧ ∀ j, j ≠ n → t.ctxOf j = s.ctxOf j)
        ∧ (s.histRoom → Runs (.compressorHandoff m true) s (fun t => t.reported (16 + m) 1 0 ∧ t.ctxState n = 3 ∧ t.g (F.ING_CTX_STAT_CODE n) = 0x0B
            ∧ t.lastHanded = n ∧ ∀ j, j ≠ n → t.ctxOf j = s.ctxOf j)))
    ∧ (s.ctxState n = ctxRUNNING → c.run = none → s.ringEn r = true → s.ringEmpty r = false → s.g (F.TCE_QCFG_CONS r) = 5 →
        (16 ≤ s.rd (entry + 4) 4 → s.rd (entry + 8) 8 = 0 → 4096 * (s.rd entry 4 + s.rd (entry + 4) 4) ≤ s.pageSize → Runs (.runTake n) s (fun t =>
          t.ctxOf n = { c with run := some (s.rd entry 4, s.rd (entry + 4) 4, 0), waitSince := none } ∧ t.g (F.ING_CTX_STAT_RUNS n) = min (s.g (F.ING_CTX_STAT_RUNS n) + 1) 255
            ∧ t.qhead r = (s.qhead r + 1) % s.ringLen r % 4096 ∧ onlyCtx t ∧ s.regsKept t [(.ING, 0), (.TCE, 0)]))
        ∧ ((s.rd (entry + 4) 4 < 16 ∨ s.rd (entry + 8) 8 ≠ 0 ∨ s.pageSize < 4096 * (s.rd entry 4 + s.rd (entry + 4) 4)) → s.histRoom →
            Runs (.runTake n) s (fun t => t.reported 12 1 n ∧ t.ctxOf n = { c with waitSince := some s.now } ∧ (∀ j, j ≠ n → t.ctxOf j = s.ctxOf j)
              ∧ t.qhead r = (s.qhead r + 1) % s.ringLen r % 4096 ∧ s.regsKept t [(.FCL, 0), (.TCE, 0)])))
    ∧ (∀ m p k raw b start count used, s.ctxState n = ctxRUNNING → s.pageUp = true → s.nextFinished n = some (m, p, k, raw, b) → c.run = some (start, count, used) →
        (∀ x, m = some x → x < 2) → b.length ≤ 62380 → (∀ x ∈ b, x < 256) →
        let off := 4096 * start + 64 * used
        let loc := s.ctxLoc n + 8 * (p * s.ctxNb n + k)
        (used + (b.length + 63) / 64 ≤ 64 * count → off < 2 ^ 35 → (loc + 8 ≤ off ∨ off + b.length ≤ loc) → Runs (.blockStored n) s (fun t =>
          t.rdBytes (pageBase + off) b.length = b ∧ t.rd (pageBase + loc) 8 = off / 64 + b.length * 2 ^ 32 ∧ (t.ctxOf n).stored = c.stored + 1
            ∧ (t.ctxOf n).run = some (start, count, used + (b.length + 63) / 64)
            ∧ (∀ x, (x < pageBase + off ∨ pageBase + off + b.length ≤ x) → (x < pageBase + loc ∨ pageBase + loc + 8 ≤ x) → t.rd x 1 = s.rd x 1)
            ∧ t = { s with regs := t.regs, mem := t.mem, ctx := t.ctx, cmp := t.cmp } ∧ s.regsKept t [(.CMP, 0), (.CMP, 1)]))
        ∧ (64 * count < used + (b.length + 63) / 64 → Runs (.blockStored n) s (fun t => t.ctxOf n = { c with run := none, waitSince := some s.now } ∧ t.regs = s.regs
            ∧ onlyCtx t)))
    ∧ (∀ y, s.ctxState n = ctxRUNNING → s.pageUp = true → s.nextFinished n = some y → c.run = none → Runs (.blockStored n) s (fun t =>
        t.ctxOf n = { c with waitSince := some (c.waitSince.getD s.now) } ∧ t.regs = s.regs ∧ onlyCtx t))
    ∧ (∀ x, s.ctxState n = ctxRUNNING → c.run = none → (s.ringEn r = false ∨ s.ringEmpty r = true) → c.waitSince = some x →
        x + s.g (F.ING_CTX_CFG_RUNWAIT n) * 2500 ≤ s.now → Runs (.runwaitExpire n) s (fun t => t.ctxState n = 3 ∧ t.g (F.ING_CTX_STAT_CODE n) = 0x0A
          ∧ (∀ fsn f, c.fsn = some fsn → s.folio? n fsn = some f → f.st = .ingest → t.g (F.GATH_SSTAT_LASTREF n) = 0x0A ∧ ∃ g, t.folio? n fsn = some g ∧ g.st = .refused)
          ∧ (c.fsn = none → t = { s with regs := t.regs, ctx := t.ctx, cmp := t.cmp } ∧ s.regsKept t [(.ING, 0)])))
    ∧ (s.ctxState n = ctxRUNNING → s.ctxPlanes n ≤ c.plane → c.stored = s.ctxNb n * (s.ctxStations n).length →
        let crc := sideCrc (bandOrder c.bands c.stored)
        let verso := s.on (F.ING_CTX_JOB_SIDE n)
        let done := fun (t : State) => t.ctxState n = 2 ∧ t.g (F.ING_CTX_CRC_V n) = crc % 2 ^ 32
        (c.fsn = none → Runs (.sideIngestDone n) s (fun t => done t ∧ t = { s with regs := t.regs } ∧ s.regsKept t [(.ING, 0)]))
        ∧ (∀ fsn f, c.fsn = some fsn → s.folio? n fsn = some f → f.st = .ingest → f.stored = false →
          let sides := setBit f.sideOk verso.toNat true
          (crc = (if verso then f.desc.versoCrc else f.desc.rectoCrc) → sides ≠ (if f.desc.duplex then 3 else 1) → Runs (.sideIngestDone n) s (fun t =>
            done t ∧ (∃ g, t.folio? n fsn = some g ∧ g.st = .ingest ∧ g.sideOk = sides)
              ∧ t = { s with regs := t.regs, gath := t.gath } ∧ s.regsKept t [(.ING, 0)]))
          ∧ (crc = (if verso then f.desc.versoCrc else f.desc.rectoCrc) → sides = (if f.desc.duplex then 3 else 1) →
              (s.jrnRoom → Runs (.sideIngestDone n) s (fun t => done t ∧ s.queued t 1 f.desc.stream f.desc.fsn f.desc.sig
                ∧ t = { s with regs := t.regs, gath := t.gath, jrn := t.jrn } ∧ s.regsKept t [(.ING, 0), (.JRN, 0)]))
              ∧ (s.g F.JRN_STAT_STATE ≠ 1 → Runs (.sideIngestDone n) s (fun t => done t ∧ t.g (F.GATH_SSTAT_LASTREF n) = 0x0C
                ∧ ∃ g, t.folio? n fsn = some g ∧ g.st = .refused)))
          ∧ (crc ≠ (if verso then f.desc.versoCrc else f.desc.rectoCrc) → Runs (.sideIngestDone n) s (fun t =>
            done t ∧ t.g (F.GATH_SSTAT_LASTREF n) = 0x0B ∧ (∃ g, t.folio? n fsn = some g ∧ g.st = .refused)))))

/-- Decompression and the shared window (R165, R168 to R174): the owner of its granules sets a station's ring; a job joins a queue of eight; a block that
passes its checks fills a slot VERIFIED, and at B = 8 a block is a slot (R171), while one that fails makes it BAD with DCP_BLOCK; a read-out error is counted,
and an uncorrectable one holds the pixels off; a unit reset empties the slots and the job queue; and a flip by the owner's side changes a page's owner. In
part this rests on choices of the model: log 14. -/
def Obligations.QuireStoreAndWindow : Prop :=
  ∀ (s : State) (n : Nat), s.plain → n < s.blockCount .STR → n < s.blockCount .DCP →
    let qu := vget s.quire n
    (∀ q v, s.present q →
      let clears := bit v 31 = false ∧ bits v 15 8 = s.g (F.QST_QRING_COUNT n) ∧ bits v 7 0 = s.g (F.QST_QRING_BASE n)
      let fits := bits v 15 8 ≤ 128 ∧ (bit v 31 = true → 1 ≤ bits v 15 8) ∧ bits v 7 0 + bits v 15 8 ≤ s.granules
      let mine := ∀ i, i < bits v 15 8 → s.owns q (granRid (bits v 7 0 + i)) = true
      let set := fun (t : State) => t.on (F.QST_QRING_EN n) = bit v 31 ∧ t.g (F.QST_QRING_COUNT n) = bits v 15 8 ∧ t.g (F.QST_QRING_BASE n) = bits v 7 0
        ∧ (∀ j, j ≠ n → vget t.quire j = vget s.quire j) ∧ t = { s with regs := t.regs, quire := t.quire } ∧ s.regsKept t [(.QST, 0)]
      (fits → mine → s.on (F.STR_CTRL_EN n) = false → ¬clears → Runs (.qringWrite q n v) s (fun t => set t ∧ vget t.quire n = {}))
      ∧ (fits → mine → clears → Runs (.qringWrite q n v) s (fun t => set t ∧ vget t.quire n = qu))
      ∧ (fits → (¬mine ∨ (s.on (F.STR_CTRL_EN n) = true ∧ ¬clears)) → Runs (.qringWrite q n v) s (fun t => t.reported 15 0xF8 q.detail
          ∧ t = s.noted t ∧ s.regsKept t [(.FCL, 0), (.TCE, 0)]))
      ∧ (¬fits → Runs (.qringWrite q n v) s (fun t => t.reported 15 0xF2 q.detail ∧ t = s.noted t ∧ s.regsKept t [(.FCL, 0), (.TCE, 0)])))
    ∧ (∀ q lo hi st fsn verso, s.present q → (bits hi 31 16 = 0 ∨ bits hi 12 0 = 0 ∨ 7676 < bits hi 12 0) → Runs (.dcpJobPush q n lo hi st fsn verso) s (fun t =>
        t.reported (18 + n) 0xF2 q.detail ∧ t = s.noted t))
    ∧ (∀ q lo hi st fsn verso, s.present q → 1 ≤ bits hi 31 16 → 1 ≤ bits hi 12 0 → bits hi 12 0 ≤ 7676 →
        ((vget s.jobs n).length < 8 → Runs (.dcpJobPush q n lo hi st fsn verso) s (fun t =>
          vget t.jobs n = vget s.jobs n ++ [{ loc := lo, nb := bits hi 12 0, strokes := bits hi 31 16, side := (st, fsn, verso) }]
            ∧ (∀ j, j ≠ n → vget t.jobs j = vget s.jobs j) ∧ t.g (F.DCP_STAT_JOBS n) = (vget s.jobs n).length + 1
            ∧ t = { s with regs := t.regs, jobs := t.jobs } ∧ s.regsKept t [(.DCP, n)]))
        ∧ (8 ≤ (vget s.jobs n).length → Runs (.dcpJobPush q n lo hi st fsn verso) s (fun t => t.reported (18 + n) 0xF8 q.detail ∧ t = s.noted t)))
    ∧ (∀ j rest, s.on (F.DCP_CTRL_EN n) = true → s.on (F.QST_QRING_EN n) = true → vget s.jobs n = j :: rest → j.dead = false → j.lines = [] →
        j.block + 1 < j.nb → j.stroke + 1 < j.strokes → s.ga (F.STR_GLOBAL_B 0) = 8 → qu.slots.length < s.slotCount n → s.slotFilling n = false →
        let npix := s.ga (F.STR_WINDOW_NPIX n)
        let a := quireBase + 0x10000 * s.g (F.QST_QRING_BASE n) + qu.next * ((4 * npix + 63) / 64 * 64)
        let next := if qu.next + 1 < s.slotCount n then qu.next + 1 else 0
        (∀ o, s.dcpFetch n j false = .ok o → Runs (.dcpBlockDecode n false) s (fun t =>
          vget t.quire n = { slots := qu.slots ++ [{ st := .verified, addr := a, side := j.side }], next := next }
            ∧ t.rdBytes a (4 * npix) = slotBytes npix ((List.range 8).map (fun i => blockLine i o))
            ∧ (∀ x, x < a ∨ a + 4 * npix ≤ x → t.rd x 1 = s.rd x 1) ∧ vget t.jobs n = { j with block := j.block + 1, stroke := j.stroke + 1 } :: rest
            ∧ t.g (F.DCP_STAT_BLOCKS n) = (s.g (F.DCP_STAT_BLOCKS n) + 1) % 65536 ∧ t = { s with regs := t.regs, mem := t.mem, quire := t.quire, jobs := t.jobs }
            ∧ s.regsKept t [(.DCP, n)]))
        ∧ (∀ ecc e, s.dcpFetch n j ecc = .error e → Runs (.dcpBlockDecode n ecc) s (fun t =>
          vget t.quire n = { slots := qu.slots ++ [{ st := .bad, addr := a, side := j.side }], next := next }
            ∧ vget t.jobs n = { j with block := j.block + 1, stroke := j.stroke + 1 } :: rest ∧ t.g (F.DCP_STAT_LASTERR n) = e ∧ t.reported (18 + n) 1 e
            ∧ s.regsKept t [(.DCP, n), (.FCL, 0), (.TCE, 0)])))
    ∧ (∀ j rest ecc o, s.on (F.DCP_CTRL_EN n) = true → s.on (F.QST_QRING_EN n) = true → vget s.jobs n = j :: rest → j.dead = false → j.block < j.nb → j.stroke < j.strokes →
        j.lines.length < s.ga (F.STR_GLOBAL_B 0) → qu.slots.length < s.slotCount n → s.slotFilling n = false → s.dcpFetch n j ecc = .ok o →
        Runs (.dcpBlockDecode n ecc) s (fun t => t.g (F.DCP_STAT_BLOCKS n) = (s.g (F.DCP_STAT_BLOCKS n) + 1) % 65536
          ∧ (∃ new, (vget t.quire n).slots = qu.slots ++ new ∧ ∀ x ∈ new, x.side = j.side) ∧ (∀ k, k ≠ n → vget t.quire k = vget s.quire k ∧ vget t.jobs k = vget s.jobs k)
          ∧ t = { s with regs := t.regs, mem := t.mem, quire := t.quire, jobs := t.jobs } ∧ s.regsKept t [(.DCP, n)]))
    ∧ Runs (.qstEcc n false) s (fun t => t.g (F.QST_QSTAT_ECCERR n) = min (s.g (F.QST_QSTAT_ECCERR n) + 1) 0xFFFF ∧ t = { s with regs := t.regs }
        ∧ s.regsKept t [(.QST, 0)])
    ∧ Runs (.qstEcc n true) s (fun t => t.g (F.QST_QSTAT_ECCERR n) = min (s.g (F.QST_QSTAT_ECCERR n) + 1) 0xFFFF ∧ (t.st n).lit = false ∧ (t.st n).buffer = none
        ∧ t.reported 15 1 n ∧ s.regsKept t [(.QST, 0), (.FCL, 0), (.TCE, 0)] ∧ ∀ j, j ≠ n → t.st j = s.st j)
    ∧ Runs (.dcpUnitReset (some n)) s (fun t => vget t.quire n = {} ∧ vget t.jobs n = [] ∧ t.word .DCP_CTRL n 0 = 0 ∧ t.word .DCP_STAT n 0 = 0
        ∧ (∀ j, j ≠ n → vget t.quire j = vget s.quire j ∧ vget t.jobs j = vget s.jobs j) ∧ t = { s with regs := t.regs, quire := t.quire, jobs := t.jobs }
        ∧ s.regsKept t [(.DCP, n)])
    ∧ Runs (.dcpUnitReset none) s (fun t => ∀ j, j < s.blockCount .STR → vget t.quire j = {} ∧ vget t.jobs j = [] ∧ t.word .QST_QRING 0 j = 0)
    ∧ (∀ q k v, s.present q → k < 256 →
        (bits v 31 24 = 0xC5 → bits v 0 0 ≠ s.g (F.SHW_PAGE_OWNER k) → ((∃ h, q = .host h) ↔ s.g (F.SHW_PAGE_OWNER k) = 0) → Runs (.shwFlip q k v) s (fun t =>
          t.g (F.SHW_PAGE_OWNER k) = bits v 0 0 ∧ t.g (F.SHW_PAGE_SEQ k) = (s.g (F.SHW_PAGE_SEQ k) + 1) % 256 ∧ t = { s with regs := t.regs }
            ∧ s.regsKept t [(.SHW, 0)] ∧ ∀ j, j ≠ k → t.word .SHW_PAGE 0 j = s.word .SHW_PAGE 0 j))
        ∧ ((bits v 31 24 ≠ 0xC5 ∨ bits v 0 0 = s.g (F.SHW_PAGE_OWNER k) ∨ ¬((∃ h, q = .host h) ↔ s.g (F.SHW_PAGE_OWNER k) = 0)) → Runs (.shwFlip q k v) s (fun t => t.reported 14 0xF8 q.detail ∧ t = s.noted t
            ∧ s.regsKept t [(.FCL, 0), (.TCE, 0)])))

/-- DMA (R157 to R164): a fetched descriptor that passes its checks starts its transfer, one whose OWN reads 0 waits for it, and one with a wrong DCRC, or not
owned in time, ends with its code and halts the channel; a channel out of HALTED by RESTART, or stopped by STOP; a unit reset ends every descriptor without a
completion, and PERST# (R38) drops the halves its endpoint had captured or staged. A transfer (R151, R157, R160 to R164): between host memories, when its last
write is answered its bytes stand at the destination and nowhere else, counted, and its entry and, if asked for, its completion move the rings; a line reaches
the ING context the descriptor names; an error at its first read ends it before a byte moves and halts the channel, as PERST# of its endpoint does; one that
STOP ends halts with its code; a held completion is posted as room returns. In part this rests on choices of the model: log 48. -/
def Obligations.DmaTransfers : Prop :=
  (∀ (s : State) (c : Nat), s.calm → c < 16 →
    let d := s.dmaEntry c
    let chan := fun (x : State) => x.g (F.DMA_CHSTAT_STATE c)
    let started := fun (t : State) => t.chan c = { xfer := some { tag := d.tag, cmpl := d.cmpl, ctx := d.ctx, sspace := d.sspace, dspace := d.dspace, src := d.src, len := d.len, pitch := 4 * d.pitch, rows := d.rows, dst := d.dst } }
        ∧ chan t = dACTIVE ∧ (∀ j, j ≠ c → t.chan j = s.chan j)
        ∧ t = { s with regs := t.regs, dma := t.dma } ∧ s.regsKept t [(.DMA, 0)]
    let endpoint := s.g (F.TCE_QCFG_PROD (32 + c)) != 3
    let reads := s.dmaFits endpoint true d.sspace d.src (4 * d.pitch * (d.rows - 1) + d.len) = true
    let writes := d.mode ≠ 0 ∨ s.dmaFits endpoint false d.dspace d.dst (s.dmaOut c (d.len * d.rows)) = true
    let halted := fun (code : Nat) (t : State) => chan t = dHALTED ∧ t.g (F.DMA_CHSTAT_LASTCODE c) = code ∧ t.g (F.DMA_CHSTAT_FAILIDX c) = s.qhead (32 + c)
        ∧ t.qhead (32 + c) = (s.qhead (32 + c) + 1) % s.ringLen (32 + c) ∧ t.qtail (48 + c) = (s.qtail (48 + c) + 1) % s.ringLen (48 + c) ∧ t.reported 13 1 c
        ∧ t.hostMem = s.hostMem ∧ t.g (F.DMA_CHBYTES_BYTES c) = s.g (F.DMA_CHBYTES_BYTES c) ∧ s.regsKept t [(.DMA, 0), (.FCL, 0), (.TCE, 0), (.ING, 0), (.GATH, 0)]
        ∧ (∀ n, d.ctx = some n → s.ctxState n = ctxRUNNING → t.ctxState n = 3 ∧ t.g (F.ING_CTX_STAT_CODE n) = 9)
        ∧ (d.mode ≠ 1 → s.regsKept t [(.DMA, 0), (.FCL, 0), (.TCE, 0)])
    let room := s.histRoom ∧ s.canPost (48 + c) 4 = true ∧ s.ringLen (32 + c) ≤ 4096 ∧ s.ringLen (48 + c) ≤ 4096 ∧ 96 ≤ s.g F.FCL_RINGCFG_RING
    let judged := fun (cmd : Instr) => d.own = true →
      (d.crcOk = true → s.dmaFieldBad d = false → (endpoint = true → d.mode ≠ 1) → reads → writes → Runs cmd s started)
      ∧ (room → (d.crcOk = false → Runs cmd s (halted 3)) ∧ (d.crcOk = true → s.dmaFieldBad d = true → Runs cmd s (halted 4))
          ∧ (d.crcOk = true → s.dmaFieldBad d = false → ((endpoint = true ∧ d.mode = 1) ∨ ¬reads ∨ ¬writes) → Runs cmd s (halted 6)))
    (s.on (F.DMA_CHCFG_EN c) = true → chan s = dIDLE → s.dmaHas c = true →
      judged (.dmaDescFetch c)
      ∧ (d.own = false → Runs (.dmaDescFetch c) s (fun t => t.chan c = { waitSince := some s.now } ∧ chan t = dACTIVE ∧ t = { s with regs := t.regs, dma := t.dma }
          ∧ s.regsKept t [(.DMA, 0)])))
    ∧ (∀ x, (s.chan c).waitSince = some x →
        (s.dmaHas c = true → judged (.ownPoll c)
          ∧ (d.own = false → Runs (.ownPoll c) s (fun t => t = s))
          ∧ (d.own = false → x + 250 * s.g (F.DMA_CHCFG_OWNWAIT c) ≤ s.now → room → Runs (.notOwned c) s (halted 5)))
        ∧ (s.dmaHas c = false → (s.ringEn (32 + c) = false ∨ s.ringEmpty (32 + c) = true) → Runs (.ownPoll c) s (fun t => t.chan c = {} ∧ chan t = dIDLE
            ∧ t = { s with regs := t.regs, dma := t.dma })))
    ∧ (∀ q, s.present q →
        let may := ∀ h, q = .host h → s.g (F.TCE_QCFG_PROD (32 + c)) = 1 + h
        (may → chan s = dHALTED → Runs (.dmaRestart q c) s (fun t => chan t = dIDLE ∧ t = { s with regs := t.regs } ∧ s.regsKept t [(.DMA, 0)]))
        ∧ (may → chan s ≠ dHALTED → Runs (.dmaRestart q c) s (fun t => t = s))
        ∧ (may → s.chan c = {} → Runs (.dmaStop q c) s (fun t => chan t = dHALTED ∧ t = { s with regs := t.regs } ∧ s.regsKept t [(.DMA, 0)]))
        ∧ (∀ x, may → s.chan c = { xfer := some x } → Runs (.dmaStop q c) s (fun t => t.chan c = { xfer := some { x with stop := true } } ∧ t = { s with dma := t.dma }))
        ∧ (∀ x, may → s.chan c = { waitSince := some x } → s.canPost (48 + c) 4 = true → Runs (.dmaStop q c) s (fun t => t.chan c = {} ∧ chan t = dHALTED
            ∧ t.g (F.DMA_CHSTAT_LASTCODE c) = 8 ∧ t.hostMem = s.hostMem ∧ s.regsKept t [(.DMA, 0), (.TCE, 0)]))
        ∧ (∀ r, may → s.chan c = { ready := some r } → Runs (.dmaStop q c) s (fun t =>
            t.chan c = { ready := some (r.take 3 ++ [((r[3]?).getD 0) ||| 2] ++ r.drop 4) } ∧ t = { s with dma := t.dma }))
        ∧ (¬may → s.histRoom → Runs (.dmaRestart q c) s (fun t => t.reported 13 0xF8 q.detail ∧ t = s.noted t)
            ∧ Runs (.dmaStop q c) s (fun t => t.reported 13 0xF8 q.detail ∧ t = s.noted t)))
    ∧ ((∀ k, k < 16 → s.chan k = {}) → (∀ k, k < 8 → s.ctxState k ≠ ctxRUNNING ∧ s.ingesting k = none) → Runs .dmaUnitReset s (fun t => chan t = dIDLE
        ∧ t.chan c = {} ∧ t.word .DMA_CHCFG 0 c = 0x010A0000 ∧ t = { s with regs := t.regs, dma := t.dma } ∧ s.regsKept t [(.DMA, 0)]))
    ∧ Runs .dmaUnitReset s (fun t => t.chan c = {} ∧ chan t = dIDLE ∧ t.word .DMA_CHCFG 0 c = 0x010A0000 ∧ t.hostMem = s.hostMem
        ∧ (∀ k, k < 8 → t.ctxState k ≠ ctxRUNNING) ∧ s.regsKept t [(.DMA, 0), (.TCE, 0), (.ING, 0), (.GATH, 0)])
    ∧ (∀ n, n < s.hosts → (∀ k y, (s.chan k).xfer = some y → y.sspace ≠ n + 1 ∧ (y.dspace ≠ n + 1 ∨ y.ctx.isSome)) → Runs (.perst n) s (fun t =>
        t.captured = s.captured.filter (fun y => y.1 / 2 ^ 26 != 24 + n) ∧ t.staged = s.staged.filter (fun y => y.1 / 2 ^ 26 != 24 + n)
          ∧ t = { s with captured := t.captured, staged := t.staged }))
    ∧ (∀ q n, s.present q → n < 8 → Runs (.unitReset q .CKU n) s (fun t => (∀ r k, r.block = .CKU → k < r.row.count → t.word r n k = r.resetWord.toNat)
        ∧ t = { s with regs := t.regs } ∧ s.regsKept t [(.CKU, n)])))
  ∧ (∀ (s : State) (c : Nat) (x : Xfer), s.calm → c < 16 → (s.chan c).xfer = some x → s.dmaHas c = true →
    s.ringLen (32 + c) ≤ 4096 → s.ringLen (48 + c) ≤ 4096 → s.canPost (48 + c) 4 = true →
    let from_ := 2 ^ 64 * (x.sspace - 1) + x.src
    let to_ := 2 ^ 64 * (x.dspace - 1) + x.dst
    let host := fun (t : State) (a : Nat) => Cells.get 0 a t.hostMem
    let done_ := fun (t : State) => t.chan c = {} ∧ t.qhead (32 + c) = (s.qhead (32 + c) + 1) % s.ringLen (32 + c)
    let onlyDma := fun (t : State) => s.regsKept t [(.DMA, 0), (.FCL, 0), (.TCE, 0)]
    let posted := fun (t : State) => t.qtail (48 + c) = (s.qtail (48 + c) + 1) % s.ringLen (48 + c)
    let plain := x.stop = false ∧ x.ctx = none ∧ x.rows = 1 ∧ 1 ≤ x.len ∧ x.len < 2 ^ 24 ∧ s.boundCku c = none ∧ 1 ≤ x.sspace ∧ 1 ≤ x.dspace
      ∧ x.src + x.len ≤ 2 ^ 64 ∧ x.dst + x.len ≤ 2 ^ 64
    (plain → (from_ + x.len ≤ to_ ∨ to_ + x.len ≤ from_) → Runs (.dmaComplete c) s (fun t =>
      (∀ k, k < x.len → host t (to_ + k) = host s (from_ + k)) ∧ (∀ a, a < to_ ∨ to_ + x.len ≤ a → host t a = host s a)
        ∧ t.g (F.DMA_CHSTAT_STATE c) = dIDLE ∧ t.g (F.DMA_CHSTAT_LASTCODE c) = 0 ∧ t.g (F.DMA_CHBYTES_BYTES c) = (s.g (F.DMA_CHBYTES_BYTES c) + x.len) % 2 ^ 32
        ∧ t.qtail (48 + c) = (if x.cmpl then (s.qtail (48 + c) + 1) % s.ringLen (48 + c) else s.qtail (48 + c)) ∧ done_ t ∧ onlyDma t
        ∧ t = { s with regs := t.regs, mem := t.mem, hostMem := t.hostMem, dma := t.dma }))
    ∧ (∀ n, x.stop = false → x.ctx = some n → n < 8 → s.ctxState n = ctxRUNNING → s.ctxFormat n ≠ 3 → x.len = s.lineSize n → x.rows = 1 → 1 ≤ x.len → x.len < 2 ^ 24 →
        1 ≤ x.sspace → (s.ctxOf n).plane < s.ctxPlanes n →
        let bs := (List.range x.len).map (fun k => (host s (from_ + k)).toNat)
        Runs (.dmaComplete c) s (fun t => t.ctx = (s.ctxLine n bs).ctx ∧ t.hostMem = s.hostMem ∧ t.g (F.DMA_CHSTAT_STATE c) = dIDLE
          ∧ t.g (F.DMA_CHSTAT_LASTCODE c) = 0 ∧ t.g (F.DMA_CHBYTES_BYTES c) = (s.g (F.DMA_CHBYTES_BYTES c) + x.len) % 2 ^ 32 ∧ done_ t ∧ onlyDma t))
    ∧ (∀ n, x.stop = false → x.ctx = some n → s.ctxState n = 0 → s.histRoom → 96 ≤ s.g F.FCL_RINGCFG_RING → Runs (.dmaComplete c) s (fun t => t.ctx = s.ctx
        ∧ t.hostMem = s.hostMem ∧ t.g (F.DMA_CHSTAT_STATE c) = dHALTED ∧ t.g (F.DMA_CHSTAT_LASTCODE c) = 9 ∧ t.reported 13 1 c ∧ posted t ∧ done_ t ∧ onlyDma t))
    ∧ (x.stop = true → x.ctx = none → s.boundCku c = none → 1 ≤ x.sspace → 1 ≤ x.dspace →
        Runs (.dmaComplete c) s (fun t => t.g (F.DMA_CHSTAT_STATE c) = dHALTED ∧ t.g (F.DMA_CHSTAT_LASTCODE c) = 8 ∧ posted t ∧ done_ t ∧ onlyDma t))
    ∧ (∀ off, plain → off < min (64 - x.src % 64) x.len → s.histRoom → 96 ≤ s.g F.FCL_RINGCFG_RING → Runs (.dmaBeatError c false off) s (fun t => t.hostMem = s.hostMem
        ∧ t.g (F.DMA_CHSTAT_STATE c) = dHALTED ∧ t.g (F.DMA_CHSTAT_LASTCODE c) = 1 ∧ t.g (F.DMA_CHSTAT_FAILIDX c) = s.qhead (32 + c) ∧ t.reported 13 1 c
        ∧ posted t ∧ done_ t ∧ onlyDma t))
    ∧ (∀ off, plain → off < x.len → s.histRoom → 96 ≤ s.g F.FCL_RINGCFG_RING → Runs (.dmaBeatError c true off) s (fun t =>
        (∀ a, a < to_ ∨ to_ + x.len ≤ a → host t a = host s a) ∧ t.g (F.DMA_CHSTAT_STATE c) = dHALTED ∧ t.g (F.DMA_CHSTAT_LASTCODE c) = 2 ∧ t.reported 13 1 c
        ∧ posted t ∧ done_ t ∧ onlyDma t))
    ∧ (∀ rec, Runs (.dmaComplete c) { s with dma := vmod s.dma c (fun _ => { ready := some rec }) } (fun t =>
        t.chan c = {} ∧ t.qtail (48 + c) = (s.qtail (48 + c) + 1) % s.ringLen (48 + c) ∧ t.hostMem = s.hostMem))
    ∧ (∀ n, n < s.hosts →
        let gone := fun (t : State) => t.captured = s.captured.filter (fun y => y.1 / 2 ^ 26 != 24 + n) ∧ t.staged = s.staged.filter (fun y => y.1 / 2 ^ 26 != 24 + n)
        (plain → x.sspace = n + 1 → (∀ k y, k ≠ c → (s.chan k).xfer = some y → y.sspace ≠ n + 1 ∧ y.dspace ≠ n + 1) → s.histRoom → 96 ≤ s.g F.FCL_RINGCFG_RING →
            Runs (.perst n) s (fun t => gone t ∧ t.g (F.DMA_CHSTAT_STATE c) = dHALTED ∧ t.g (F.DMA_CHSTAT_LASTCODE c) = 1 ∧ t.reported 13 1 c ∧ posted t ∧ done_ t
              ∧ onlyDma t ∧ ∀ k, k ≠ c → t.chan k = s.chan k))))

/-- Check-value units (R326 to R330): START sets the running register to INIT, a byte or a word's four bytes pass through it by the program of R326, a preset
loads every parameter and leaves the running register, and its check value over "123456789" is the table's; a bound unit refuses them. -/
def Obligations.CheckValueUnits : Prop :=
  (∀ w p i ri fi x, (w, p, i, ri, fi, x) ∈ [(32, 0x1EDC6F41, 0xFFFFFFFF, true, true, 0xE3069283), (16, 0x1021, 0xFFFF, false, false, 0x29B1),
      (64, 0x42F0E1EBA9EA3693, 0, false, false, 0x6C40DF5F0B497347), (8, 0x07, 0, false, false, 0xF4)] →
    crcOut w ri fi ([0x31, 0x32, 0x33, 0x34, 0x35, 0x36, 0x37, 0x38, 0x39].foldl (crcByte w p ri) i) = x)
  ∧ ∀ (s : State) (q : Requester) (n v : Nat), s.calm → s.present q → n < 8 → 3 ≤ s.ckuW n → s.ckuW n ≤ 64 → s.ckuPoly n < 2 ^ s.ckuW n →
    let step := crcByte (s.ckuW n) (s.ckuPoly n) (s.on (F.CKU_CFG_REFIN n))
    let only := fun (t : State) => t = { s with regs := t.regs } ∧ s.regsKept t [(.CKU, n)]
    let refused := fun (t : State) => t.reported (22 + n) 0xF8 q.detail ∧ t = s.noted t ∧ s.regsKept t [(.FCL, 0), (.TCE, 0)]
    Runs (.start n) s (fun t => t.ckuRun n = s.ckuInit n ∧ t.ckuInit n = s.ckuInit n ∧ t.ckuPoly n = s.ckuPoly n ∧ only t)
    ∧ (s.on (F.CKU_BIND_EN n) = false →
        Runs (.din8 q n v) s (fun t => t.ckuRun n = step (s.ckuRun n) (v % 256) ∧ t.ckuPoly n = s.ckuPoly n ∧ t.ckuInit n = s.ckuInit n ∧ only t)
        ∧ Runs (.din32 q n v) s (fun t => t.ckuRun n = step (step (step (step (s.ckuRun n) (v % 256)) (v / 2 ^ 8 % 256)) (v / 2 ^ 16 % 256)) (v / 2 ^ 24 % 256)
            ∧ t.ckuPoly n = s.ckuPoly n ∧ t.ckuInit n = s.ckuInit n ∧ only t)
        ∧ (bits v 31 28 = 0 → 3 ≤ bits v 22 16 → bits v 22 16 ≤ 64 → Runs (.ckuCfgWrite q n v) s (fun t => t.ckuW n = bits v 22 16
            ∧ t.g (F.CKU_CFG_REFIN n) = bits v 2 2 ∧ t.g (F.CKU_CFG_REFOUT n) = bits v 1 1 ∧ t.g (F.CKU_CFG_FINV n) = bits v 0 0 ∧ t.ckuRun n = s.ckuRun n ∧ only t))
        ∧ (∀ k w p i r, (k, w, p, i, r) ∈ [(1, 32, 0x1EDC6F41, 0xFFFFFFFF, 1), (2, 16, 0x1021, 0xFFFF, 0), (3, 64, 0x42F0E1EBA9EA3693, 0, 0), (4, 8, 0x07, 0, 0)] →
            bits v 31 28 = k → Runs (.ckuCfgWrite q n v) s (fun t => t.ckuW n = w ∧ t.ckuPoly n = p ∧ t.ckuInit n = i ∧ t.g (F.CKU_CFG_REFIN n) = r
              ∧ t.g (F.CKU_CFG_REFOUT n) = r ∧ t.g (F.CKU_CFG_FINV n) = r ∧ t.ckuPresetNow n = k ∧ t.ckuRun n = s.ckuRun n ∧ only t))
        ∧ (((bits v 31 28 = 0 ∧ (bits v 22 16 < 3 ∨ 64 < bits v 22 16)) ∨ 4 < bits v 31 28) → s.histRoom → Runs (.ckuCfgWrite q n v) s (fun t =>
            t.reported (22 + n) 0xF2 q.detail ∧ t = s.noted t ∧ s.regsKept t [(.FCL, 0), (.TCE, 0)])))
    ∧ (s.on (F.CKU_BIND_EN n) = true → s.histRoom → Runs (.din8 q n v) s refused ∧ Runs (.din32 q n v) s refused ∧ Runs (.ckuCfgWrite q n v) s refused)

/-- The fault collector (R334 to R341, R345): a new event takes the next entry with its stamp, SEQ and deadline, and one identical to an outstanding record
counts as a repeat; class C, and a class-B record at its deadline, enter the kettle state; an acknowledgement ends a record's outstanding state, and one of a
record that is not outstanding, or with another SEQ, is refused (R337); firmware forces its events; the ring is set only if it is FCL's; a copy retires; and
LEAVE ends the kettle state where its conditions hold. -/
def Obligations.FaultCollector : Prop :=
  ∀ (s : State), s.plain →
    let record := fun (source code detail : Nat) (cls : Cls) (reason : Nat) => ({ valid := true, outstanding := cls != .a, cls := cls, stamp := s.now, source := source, code := code, detail := detail, epoch := s.g F.JRN_EPOCH_EPOCH, seq := s.g F.FCL_HEAD_NEXTSEQ, deadline := s.now + 250 * s.g F.FCL_CLASSB_TIMER, reason := reason } : HistRec)
    let only := fun (t : State) => t = s.noted t ∧ s.regsKept t [(.FCL, 0), (.TCE, 0)]
    let fresh := fun (i source code detail : Nat) (cls : Cls) (reason : Nat) => s.freeHist = some i
      ∧ (∀ k, k < 16 → (vget s.fcl.hist k).outstanding = true → (vget s.fcl.hist k).same ⟨source, code, detail, cls, reason, none, false⟩ = false)
      ∧ (cls = .a → (vget s.fcl.hist (s.g F.FCL_HEAD_NEWEST)).same ⟨source, code, detail, cls, reason, none, false⟩ = false)
    let taken := fun (i : Nat) (r : HistRec) (t : State) => vget t.fcl.hist i = r ∧ (∀ k, k ≠ i → vget t.fcl.hist k = vget s.fcl.hist k)
      ∧ t.g F.FCL_HEAD_NEWEST = i ∧ t.g F.FCL_HEAD_NEXTSEQ = (s.g F.FCL_HEAD_NEXTSEQ + 1) % 256
    (∀ source code detail cls reason folios i, s.sourceExists source = true → code < 256 → detail < 256 → 1 ≤ reason → reason ≤ 0x0C →
      (cls ≠ .c → fresh i source code detail cls reason → Runs (.faultEvent source code detail cls reason folios) s (fun t =>
        taken i (record source code detail cls reason) t ∧ only t))
      ∧ (cls ≠ .c → i < 16 → (vget s.fcl.hist i).outstanding = true → (vget s.fcl.hist i).same ⟨source, code, detail, cls, reason, none, false⟩ = true →
          (∀ k, k ≠ i → (vget s.fcl.hist k).outstanding = false) → Runs (.faultEvent source code detail cls reason folios) s (fun t =>
            vget t.fcl.hist i = { vget s.fcl.hist i with repeats := min ((vget s.fcl.hist i).repeats + 1) 255 } ∧ t = { s with fcl := t.fcl }
              ∧ ∀ k, k ≠ i → vget t.fcl.hist k = vget s.fcl.hist k))
      ∧ (s.on F.FCL_STAT_KETTLE = false → Runs (.faultEvent source code detail .c reason folios) s (fun t => t.on F.FCL_STAT_KETTLE = true
          ∧ t.g F.FCL_STAT_KSRC = source ∧ t.g F.FCL_STAT_KCODE = code ∧ t.reported source code detail)))
    ∧ (∀ k, k < 16 → (vget s.fcl.hist k).outstanding = true →
        (∀ r, r = vget s.fcl.hist k → r.cls = .b → r.escalated = false → r.deadline ≤ s.now → r.source < 256 → r.code < 256 → s.on F.FCL_STAT_KETTLE = false →
          Runs (.classbDeadline k) s (fun t => t.on F.FCL_STAT_KETTLE = true ∧ t.g F.FCL_STAT_KSRC = r.source ∧ t.g F.FCL_STAT_KCODE = r.code
            ∧ (vget t.fcl.hist k).escalated = true ∧ (vget t.fcl.hist k).outstanding = true))
        ∧ (∀ seq, (vget s.fcl.hist k).seq % 256 = seq % 256 → ((vget s.fcl.hist k).cls ≠ .b ∨ (vget s.fcl.hist k).escalated = true ∨ s.now < (vget s.fcl.hist k).deadline) →
          Runs (.fclAck k seq) s (fun t => vget t.fcl.hist k = { vget s.fcl.hist k with outstanding := false }
          ∧ t = { s with fcl := t.fcl } ∧ ∀ j, j ≠ k → vget t.fcl.hist j = vget s.fcl.hist j))
        ∧ (∀ r seq, r = vget s.fcl.hist k → r.seq % 256 = seq % 256 → r.cls = .b → r.escalated = false → r.deadline ≤ s.now → r.source < 256 → r.code < 256 →
            s.on F.FCL_STAT_KETTLE = false → Runs (.fclAck k seq) s (fun t => t.on F.FCL_STAT_KETTLE = true ∧ t.g F.FCL_STAT_KSRC = r.source ∧ t.g F.FCL_STAT_KCODE = r.code))
        ∧ (∀ seq, (vget s.fcl.hist k).seq % 256 ≠ seq % 256 → Runs (.fclAck k seq) s (fun t => t.reported 0 3 1 ∧ (vget t.fcl.hist k).outstanding = true ∧ only t)))
    ∧ (∀ k seq, k < 16 → (vget s.fcl.hist k).outstanding = false → Runs (.fclAck k seq) s (fun t => t.reported 0 3 1 ∧ (vget t.fcl.hist k).outstanding = false ∧ only t))
    ∧ (∀ q x i code cls reason, s.present q → x < 192 → s.sourceExists x = true → cls ≠ .c →
        ((128 ≤ x ∧ code = s.g (F.FCL_SRCCFG_CODE (x - 128)) ∧ cls = Cls.ofCode (s.g (F.FCL_SRCCFG_CLASS (x - 128))) ∧ reason = s.g (F.FCL_SRCCFG_REASON (x - 128)))
          ∨ (x < 128 ∧ code = 0xFF ∧ cls = Cls.ofCode (s.g F.FCL_CTRL_FCLASS) ∧ reason = s.g F.FCL_CTRL_FREASON)) →
        fresh i x code q.detail cls reason → Runs (.fclForce q (x / 32) (2 ^ (x % 32))) s (fun t =>
          taken i { record x code q.detail cls reason with forced := decide (x < 128) } t ∧ only t))
    ∧ (∀ q x, s.present q → 128 ≤ x → x < 192 → s.g (F.FCL_SRCCFG_CLASS (x - 128)) = 2 → s.on F.FCL_STAT_KETTLE = false → Runs (.fclForce q (x / 32) (2 ^ (x % 32))) s (fun t =>
        t.on F.FCL_STAT_KETTLE = true ∧ t.g F.FCL_STAT_KSRC = x ∧ t.reported x (s.g (F.FCL_SRCCFG_CODE (x - 128))) q.detail))
    ∧ (∀ q v, s.present q →
        let ring := bits v 22 16
        let changes := s.on F.FCL_RINGCFG_EN = false ∨ ring ≠ s.g F.FCL_RINGCFG_RING
        let its := s.ringEn ring = true ∧ s.g (F.TCE_QCFG_PROD ring) = 6
        let set := fun (t : State) => t.g F.FCL_RINGCFG_EN = bits v 31 31 ∧ t.g F.FCL_RINGCFG_RING = ring ∧ t.g F.FCL_RINGCFG_LOST = s.g F.FCL_RINGCFG_LOST
        (96 ≤ ring → ring ≤ 111 →
          ((bit v 31 = false ∨ ¬changes ∨ its) → Runs (.ringcfgWrite q v) s (fun t => set t ∧ only t
            ∧ ((s.fcl.markDue = false ∨ bit v 31 = false) → t = { s with regs := t.regs } ∧ s.regsKept t [(.FCL, 0)])
            ∧ (s.fcl.markDue = true → bit v 31 = true → s.canPost ring 6 = true → t.fcl.markDue = false ∧ t.qtail ring = (s.qtail ring + 1) % s.ringLen ring % 4096)))
          ∧ (bit v 31 = true → changes → ¬its → Runs (.ringcfgWrite q v) s (fun t => t.reported 0 0xF8 q.detail ∧ t.on F.FCL_RINGCFG_EN = s.on F.FCL_RINGCFG_EN ∧ only t)))
        ∧ ((ring < 96 ∨ 111 < ring) → Runs (.ringcfgWrite q v) s (fun t => t.reported 0 0xF2 q.detail ∧ t.on F.FCL_RINGCFG_EN = s.on F.FCL_RINGCFG_EN ∧ only t)))
    ∧ (s.copyA = true → s.copyB = true →
        (∀ k, k = 1 ∨ k = 2 →
          (s.oldestOutstanding = none → Runs (.fclSelf k) s (fun t => t.fcl.retiredA = decide (k = 1) ∧ t.fcl.retiredB = decide (k = 2) ∧ t.reported 0 1 k ∧ only t))
          ∧ (∀ i, s.oldestOutstanding = some i → Runs (.fclSelf k) s (fun t => t.fcl.retiredA = decide (k = 1) ∧ t.fcl.retiredB = decide (k = 2)
              ∧ vget t.fcl.hist i = { vget s.fcl.hist i with secondary := true } ∧ t = { s with fcl := t.fcl })))
        ∧ (s.on F.FCL_STAT_KETTLE = false → Runs (.fclSelf 3) s (fun t => t.on F.FCL_STAT_KETTLE = true ∧ t.reported 0 1 3)))
    ∧ (∀ k, (k = 1 ∧ s.copyA = true ∧ s.copyB = false) ∨ (k = 2 ∧ s.copyA = false ∧ s.copyB = true) → s.on F.FCL_STAT_KETTLE = false → Runs (.fclSelf k) s (fun t =>
        t.on F.FCL_STAT_KETTLE = true ∧ t.g F.FCL_STAT_KSRC = 0 ∧ t.g F.FCL_STAT_KCODE = 1 ∧ t.reported 0 1 k))
    ∧ (let may := (∀ k, k < 16 → (vget s.fcl.hist k).outstanding = false) ∧ s.on F.THM_STAT_SHUT = false ∧ (s.g F.PSQ_STAT_STATE = 1 ∨ s.g F.PSQ_STAT_STATE = 2)
            ∧ s.synState 0 = syLOCKED ∧ s.on F.CORD_STAT_RUN = true ∧ s.on F.JRN_STAT_FLUSHED = true
            ∧ ∀ n, n < 8 → s.g (F.MOT_STAT_STATE n) ≠ mZT ∧ s.g (F.MOT_STAT_STATE n) ≠ mASC
       (s.on F.FCL_STAT_KETTLE = true → may → Runs (.leave 0x4B) s (fun t => t.on F.FCL_STAT_KETTLE = false
            ∧ t.gath = { s.gath with runPending := true } ∧ (∀ k, k < 12 → t.on (F.HV_STAT_KETTLE k) = false) ∧ (∀ f, f < 2 → t.on (F.FUS_STAT_KETTLE f) = false)
            ∧ t = { s with regs := t.regs, gath := t.gath }))
       ∧ (s.on F.FCL_STAT_KETTLE = true → ¬may → Runs (.leave 0x4B) s (fun t => t.on F.FCL_STAT_KETTLE = true ∧ t.reported 0 3 2 ∧ only t))
       ∧ (∀ key, (key % 256 ≠ 0x4B ∨ s.on F.FCL_STAT_KETTLE = false) → Runs (.leave key) s (fun t => t = s)))

/-- Journal records (R346 to R350, R353, R363): a request takes the next SEQ and the current epoch, or waits in GATH while sixteen are queued; a commit leaves
the same 32 bytes in every copy in service and confirms the record in order; a read-back that fails twice takes FRAM out of service, and with no copy left the
journal is lost; a flush completes; and FLUSH writes a header with the next GEN to each copy in service, in OPEN only. In part this rests on choices of the
model: log 44. -/
def Obligations.JournalRecords : Prop :=
  ∀ (s : State), s.plain → s.on F.FCL_RINGCFG_EN = false →
    let only := fun (t : State) => t = { s with regs := t.regs, jrn := t.jrn } ∧ s.regsKept t [(.JRN, 0)]
    (∀ type stream try_ strd op fsn stamp aux, 1 ≤ type → type ≤ 6 → stream < 8 → fsn < 2 ^ 32 → stamp < 2 ^ 64 → aux < 2 ^ 32 →
      (s.jrnRoom → Runs (.jrnRecordRequest type stream try_ strd op fsn stamp aux) s (fun t => t.g F.JRN_SEQ_SEQ = (s.g F.JRN_SEQ_SEQ + 1) % 2 ^ 32
        ∧ t.jrn = { s.jrn with queue := s.jrn.queue ++ [{ seq := s.g F.JRN_SEQ_SEQ, type := type, stream := stream, try_ := try_ % 16, stranded := strd, operator := op, fsn := fsn, epoch := s.g F.JRN_EPOCH_EPOCH, stamp := stamp, aux := aux }] }
        ∧ only t))
      ∧ (s.g F.JRN_STAT_STATE = 1 → (16 ≤ s.jrn.queue.length ∨ s.jrn.waiting ≠ []) → Runs (.jrnRecordRequest type stream try_ strd op fsn stamp aux) s (fun t => t.g F.JRN_SEQ_SEQ = s.g F.JRN_SEQ_SEQ
        ∧ t.jrn.queue = s.jrn.queue ∧ t.jrn.waiting.length = s.jrn.waiting.length + 1 ∧ t = { s with jrn := t.jrn }))
      ∧ (s.g F.JRN_STAT_STATE = 1 → s.jrn.queue.length < 16 → s.jrn.waiting = [] → 2040 ≤ s.span + 1 → Runs (.jrnRecordRequest type stream try_ strd op fsn stamp aux) s (fun t =>
        t.reported 3 6 0 ∧ t.on F.FCL_STAT_KETTLE = true))
      ∧ (s.g F.JRN_STAT_STATE ≠ 1 →
        let lost := s.g F.JRN_STAT_STATE = 5 ∧ type ≠ 1 ∧ ¬(type = 6 ∧ s.on F.FCL_STAT_KETTLE = true)
        (lost → Runs (.jrnRecordRequest type stream try_ strd op fsn stamp aux) s (fun t => t.reported 3 3 type ∧ t.on F.FCL_STAT_KETTLE = true))
        ∧ (¬lost → Runs (.jrnRecordRequest type stream try_ strd op fsn stamp aux) s (fun t => t = s))))
    ∧ (∀ r rest, s.jrn.queue = r :: rest → s.jrn.waiting = [] → 1 ≤ r.type → r.type ≤ 6 → r.stream < 8 →
        let frame := fun (t : State) => t = { s with regs := t.regs, mem := t.mem, fram := t.fram, gath := t.gath, jrn := t.jrn }
          ∧ s.regsKept t [(.JRN, 0), (.GATH, 0), (.TCE, 0)]
        let mirrored := fun (t : State) => r.compl = 0 → t.rdBytes (mirrorSlot r.seq) 32 = r.bytes 0xC3
          ∧ ∀ a, (a < mirrorBase ∨ mirrorBase + 256 ≤ a) → (a < mirrorSlot r.seq ∨ mirrorSlot r.seq + 32 ≤ a) → t.rd a 1 = s.rd a 1
        (s.on F.JRN_STAT_MIRROK = true → s.on F.JRN_STAT_FRAMOK = true → Runs (.jrnCommitComplete .ok) s (fun t => t.framRd (framSlot r.seq) 32 = r.bytes 0xC3
          ∧ (∀ a, 0x200 ≤ a → (a < framSlot r.seq ∨ framSlot r.seq + 32 ≤ a) → t.framRd a 1 = s.framRd a 1)
          ∧ mirrored t ∧ t.jrn.queue = rest ∧ (r.type = 5 → t.g (F.GATH_SDEL_FSN r.stream) = r.fsn % 2 ^ 32)
          ∧ (r.type = 1 → s.folio? r.stream r.fsn ≠ none → t.g (F.GATH_SSTAT_VALID r.stream) = 1 ∧ ∃ f, t.folio? r.stream r.fsn = some f ∧ f.st = .accepted) ∧ frame t))
        ∧ (s.on F.JRN_STAT_MIRROK = true → s.on F.JRN_STAT_FRAMOK = false → ∀ b, Runs (.jrnCommitComplete b) s (fun t => mirrored t ∧ t.fram = s.fram ∧ t.jrn.queue = rest
          ∧ frame t))
        ∧ (s.on F.JRN_STAT_FRAMOK = true → s.jrn.retried = false → ∀ b, b ≠ ReadBack.ok → Runs (.jrnCommitComplete b) s (fun t => t.jrn.queue = s.jrn.queue ∧ t.jrn.retried = true
          ∧ t.on F.JRN_STAT_FRAMOK = true ∧ t.gath = s.gath ∧ t.regs = s.regs))
        ∧ (s.on F.JRN_STAT_FRAMOK = true → s.jrn.retried = true → ∀ b, b ≠ ReadBack.ok →
            (s.on F.JRN_STAT_MIRROK = true → Runs (.jrnCommitComplete b) s (fun t => t.on F.JRN_STAT_FRAMOK = false ∧ t.reported 3 1 b.detail ∧ t.jrn.queue = rest
              ∧ mirrored t))
            ∧ (s.on F.JRN_STAT_MIRROK = false → Runs (.jrnCommitComplete b) s (fun t => t.on F.JRN_STAT_FRAMOK = false ∧ t.reported 3 1 b.detail
              ∧ t.g F.JRN_STAT_STATE = 5 ∧ t.jrn.queue = [] ∧ t.jrn.waiting = []))))
    ∧ (s.on F.JRN_STAT_MIRROK = true →
        (s.on F.JRN_STAT_FRAMOK = true → Runs .jrnMirror s (fun t => t.on F.JRN_STAT_MIRROK = false ∧ t.g F.JRN_STAT_STATE = s.g F.JRN_STAT_STATE ∧ t.reported 3 2 0
          ∧ t = s.noted t ∧ s.regsKept t [(.JRN, 0), (.FCL, 0), (.TCE, 0)]))
        ∧ (s.on F.JRN_STAT_FRAMOK = false → s.g F.JRN_STAT_STATE = 1 → s.jrn.queue = [] → s.jrn.waiting = [] → Runs .jrnMirror s (fun t =>
            t.on F.JRN_STAT_MIRROK = false ∧ t.g F.JRN_STAT_STATE = 5 ∧ t.reported 3 2 0)))
    ∧ (s.jrn.flushLeft = some 0 → Runs .flushComplete s (fun t => t.on F.JRN_STAT_FLUSHED = true ∧ t.jrn = { s.jrn with flushLeft := none } ∧ only t))
    ∧ ∀ q, s.present q →
        (s.g F.JRN_STAT_STATE = 1 → Runs (.flush q) s (fun t => t.g F.JRN_TAILSEQ_SEQ = s.tailNow % 2 ^ 32
          ∧ (∃ h : Header, (s.on F.JRN_STAT_FRAMOK = true → t.framRd (0x100 * s.headTarget) 256 = h.bytes)
              ∧ (s.on F.JRN_STAT_MIRROK = true → t.rdBytes mirrorBase 256 = h.bytes) ∧ h.epoch = s.g F.JRN_EPOCH_EPOCH ∧ h.tail = s.tailNow
              ∧ h.sealed = false ∧ h.sealEpoch = s.g F.JRN_SEALEPOCH_EPOCH ∧ h.sdel = (List.range 8).map (fun n => s.g (F.GATH_SDEL_FSN n))
              ∧ h.valid = (List.range 8).map (fun n => (s.stream n).recorded.toNat)
              ∧ ∀ g, laterHead (laterHead (s.framHead 0) (s.framHead 1)) s.mirrorHead = some g → h.gen = (g.gen + 1) % 2 ^ 32)
          ∧ (∀ a, (a < 0x100 * s.headTarget ∨ 0x100 * s.headTarget + 256 ≤ a) → t.framRd a 1 = s.framRd a 1)
          ∧ t = { s with regs := t.regs, mem := t.mem, fram := t.fram } ∧ s.regsKept t [(.JRN, 0)]))
        ∧ (s.g F.JRN_STAT_STATE ≠ 1 → Runs (.flush q) s (fun t => t.reported 3 0xF8 q.detail ∧ t = s.noted t ∧ s.regsKept t [(.FCL, 0), (.TCE, 0)]))

/-- Replay and the report (R354 to R357), INIT and RELEASE (R357, R361), and the reading of slots (R348): the probe's word is complemented; the records from
TAILSEQ on, whole in FRAM, are the account and the next SEQ ends it; without FRAM the mirror's are; a blank journal is found as such; with no FRAM and no
mirror boot halts with ERROR 0x08; replay ends in the next epoch with the streams' last deliveries, and a fresh journal gets both headers; the report goes out
entry by entry on either ring, and boot is Ready after END. In part this rests on choices of the model: log 43, 44 and 68. -/
def Obligations.JournalReplay : Prop :=
  ∀ (s : State), s.calm → s.histRoom → s.on F.FCL_RINGCFG_EN = false →
    (s.g F.LCS_BOOTSTAT_STAGE = 5 → s.g F.JRN_STAT_STATE = 0 → s.jrn.found = none → s.jrn.endAt = none →
      let slotAt := fun (i : Nat) => s.framRd (framSlot (i % 2 ^ 32)) 32
      (∀ h k, laterHead (s.framHead 0) (s.framHead 1) = some h → s.mirrorHead = none → h.tail < 2 ^ 32 → k < 2048 →
        (∀ i, i < k → recOk (slotAt (h.tail + i)) = true ∧ recSeq (slotAt (h.tail + i)) = (h.tail + i) % 2 ^ 32) → (∀ i, i < 17 → recOk (slotAt (h.tail + k + i)) = false) →
        Runs (.journalReplay true) s (fun t => t.g F.JRN_SEQ_SEQ = (h.tail + k) % 2 ^ 32 ∧ t.g F.JRN_TAILSEQ_SEQ = h.tail ∧ t.on F.JRN_STAT_FRAMOK = true
          ∧ t.jrn.live = (List.range k).map (fun i => JRec.ofBytes (slotAt (h.tail + i))) ∧ (∃ f, t.jrn.found = some f ∧ f.epoch = h.epoch ∧ f.sealed = h.sealed ∧ f.sdel = h.sdel)
          ∧ t.on F.JRN_STAT_MIRRUSED = false ∧ t.framRd 0x200 4 = leBytes 4 (0xFFFFFFFF - leNat (s.framRd 0x200 4)) ∧ t.gath = s.gath))
      ∧ (s.framHead 0 = none → s.framHead 1 = none → (∀ i, i < 4096 → recOk (s.framRd (0x1000 + 32 * i) 32) = false) → Runs (.journalReplay true) s (fun t =>
          t.jrn.live = [] ∧ (∃ f, t.jrn.found = some f ∧ f.blank = true ∧ f.epoch = 0 ∧ (f.fresh = true ↔ (s.lifecycle = lcBLANK ∨ s.lifecycle = lcMAKER))) ∧ t.gath = s.gath))
      ∧ (let copyAt := fun (i : Nat) => s.rdBytes (mirrorSlot (i % 2 ^ 32)) 32
        ∀ h k, s.pathClear → s.mirrorHead = some h → h.tail < 2 ^ 32 → k < 2000 →
        (∀ i, i < k → recOk (copyAt (h.tail + i)) = true ∧ recSeq (copyAt (h.tail + i)) = (h.tail + i) % 2 ^ 32) → (∀ i, i < 17 → recOk (copyAt (h.tail + k + i)) = false) →
        Runs (.journalReplay false) s (fun t => t.g F.JRN_SEQ_SEQ = (h.tail + k) % 2 ^ 32 ∧ t.g F.JRN_TAILSEQ_SEQ = h.tail ∧ t.on F.JRN_STAT_FRAMOK = false
          ∧ t.reported 3 1 3 ∧ t.jrn.live = (List.range k).map (fun i => JRec.ofBytes (copyAt (h.tail + i))) ∧ t.on F.JRN_STAT_MIRRUSED = true
          ∧ ∃ f, t.jrn.found = some f ∧ f.epoch = h.epoch ∧ f.sealed = h.sealed ∧ f.sdel = h.sdel))
      ∧ (s.mirrorHead = none → Runs (.journalReplay false) s (fun t => t.stage = bsHALTED ∧ t.g F.LCS_BOOTSTAT_ERROR = 8
          ∧ t.on F.JRN_STAT_FRAMOK = false ∧ t.on F.FCL_STAT_KETTLE = true)))
    ∧ (∀ f, s.jrn.found = some f → f.epoch < 2 ^ 32 →
        (f.blank = false ∨ f.fresh = true → Runs .replayComplete s (fun t => t.g F.JRN_EPOCH_EPOCH = (f.epoch + 1) % 2 ^ 32
          ∧ t.g F.JRN_STAT_STATE = (if s.lifecycle = lcRETURNED then 3 else if f.sealed then 4 else 1)
          ∧ (∀ n, n < 8 → t.g (F.GATH_SDEL_FSN n) = sdelOf f n s.jrn.live % 2 ^ 32)
          ∧ (∃ e, t.jrn.report[0]? = some e ∧ e.a = (f.epoch + 1) % 2 ^ 32 ∧ e.b = f.epoch ∧ e.kind = 1 ∧ bit e.flags 5 = f.fresh)
          ∧ (∃ e, t.jrn.report.getLast? = some e ∧ e.a = t.jrn.report.length ∧ e.kind = 7) ∧ t.jrn.found = none ∧ t.claims = s.claims
          ∧ (s.on F.JRN_STAT_FRAMOK = true → ∃ h : Header, t.framRd (0x100 * s.headTarget) 256 = h.bytes ∧ h.epoch = (f.epoch + 1) % 2 ^ 32)
          ∧ (f.fresh = true → s.on F.JRN_STAT_FRAMOK = true → s.framHead 0 = none → s.framHead 1 = none → ∃ h g : Header, t.framRd 0 256 = h.bytes ∧ t.framRd 0x100 256 = g.bytes
              ∧ h.epoch = (f.epoch + 1) % 2 ^ 32 ∧ g.epoch = (f.epoch + 1) % 2 ^ 32)))
        ∧ (f.blank = true → f.fresh = false → Runs .replayComplete s (fun t => t.g F.JRN_EPOCH_EPOCH = 0 ∧ t.g F.JRN_STAT_STATE = 2 ∧ t.fram = s.fram ∧ t.jrn.found = none
          ∧ t.claims = s.claims)))
    ∧ (∀ n m i e, (n = 24 ∧ m = 25) ∨ (n = 25 ∧ m = 24) → s.jrn.endPosted = false → (if n = 24 then s.jrn.posted24 else s.jrn.posted25) = i → s.jrn.report[i]? = some e →
        s.ringEn n = true → s.ringEn m = false → s.ringFull n = false → s.ringLen n ≤ 4096 → s.g (F.TCE_QCFG_ESIZE n) = 0 →
        (i + 1 < s.jrn.report.length → Runs .reportPost s (fun t => t.rdBytes (s.ringAddr n (s.qtail n)) 16 = (e.bytes i).map (· % 256)
          ∧ t.qtail n = (s.qtail n + 1) % s.ringLen n ∧ t.jrn = (if n = 24 then { s.jrn with posted24 := i + 1 } else { s.jrn with posted25 := i + 1 })
          ∧ t = { s with regs := t.regs, mem := t.mem, jrn := t.jrn }
          ∧ (∀ a, (a < s.ringAddr n (s.qtail n) ∨ s.ringAddr n (s.qtail n) + 16 ≤ a) → t.rd a 1 = s.rd a 1) ∧ s.regsKept t [(.TCE, 0)]))
        ∧ (i + 1 = s.jrn.report.length → Runs .reportPost s (fun t => t.stage = 6 ∧ t.jrn.endPosted = true ∧ t.qtail n = (s.qtail n + 1) % s.ringLen n
          ∧ (∀ k, k < 8 → s.ringEn k = true → t.ringEn k = true) ∧ (s.streamRingOk 0 = true → t.ringEn 0 = true) ∧ t.gath = s.gath
          ∧ s.regsKept t [(.TCE, 0), (.LCS, 0)])))
    ∧ ∀ q, s.present q →
        (s.g F.JRN_STAT_STATE = 2 → Runs (.init q) s (fun t => t.g F.JRN_EPOCH_EPOCH = 1 ∧ t.g F.JRN_STAT_STATE = 1 ∧ (∀ n, n < 8 → t.g (F.GATH_SDEL_FSN n) = 0
          ∧ t.g (F.GATH_SNEXT_FSN n) = 0 ∧ t.g (F.GATH_SSTAT_VALID n) = 0 ∧ t.streamState n = stRUN) ∧ t.gath.folios = s.gath.folios ∧ t.claims = s.claims))
        ∧ (s.g F.JRN_STAT_STATE = 4 → Runs (.release q) s (fun t => t.g F.JRN_STAT_STATE = 1 ∧ t.g F.JRN_SEALEPOCH_EPOCH = 0 ∧ t.g F.JRN_EPOCH_EPOCH = s.g F.JRN_EPOCH_EPOCH
          ∧ (∀ n, n < 8 → t.g (F.GATH_SDEL_FSN n) = 0 ∧ t.g (F.GATH_SSTAT_VALID n) = 0) ∧ t.claims = s.claims))
        ∧ (s.g F.JRN_STAT_STATE = 1 → Runs (.init q) s (fun t => t.reported 3 0xF8 q.detail ∧ t = s.noted t ∧ s.regsKept t [(.FCL, 0), (.TCE, 0)])
          ∧ Runs (.release q) s (fun t => t.reported 3 0xF8 q.detail ∧ t = s.noted t ∧ s.regsKept t [(.FCL, 0), (.TCE, 0)]))
        ∧ ∀ v, let slot := bits v 11 0
          ((bit v 31 = true ∧ slot < 2040 ∨ bit v 31 = false ∧ s.on F.JRN_STAT_FRAMOK = true) → Runs (.ridxWrite q v) s (fun t => t.on F.JRN_RIDX_DONE = false ∧ t.g F.JRN_RIDX_SLOT = slot ∧ t.on F.JRN_RIDX_SRC = bit v 31
            ∧ t.jrn = { s.jrn with fetching := some v } ∧ t = { s with regs := t.regs, jrn := t.jrn } ∧ s.regsKept t [(.JRN, 0)]))
          ∧ (bit v 31 = false → s.on F.JRN_STAT_FRAMOK = false → Runs (.ridxWrite q v) s (fun t => t.on F.JRN_RIDX_DONE = true ∧ t.g F.JRN_RIDX_SLOT = slot
            ∧ (∀ k, k < 8 → t.g (F.JRN_RDATA_D k) = 0) ∧ t.jrn = { s.jrn with fetching := none } ∧ t = { s with regs := t.regs, jrn := t.jrn } ∧ s.regsKept t [(.JRN, 0)]))
          ∧ (bit v 31 = true → 2040 ≤ slot → Runs (.ridxWrite q v) s (fun t => t.reported 3 0xF2 q.detail ∧ t = s.noted t ∧ s.regsKept t [(.FCL, 0), (.TCE, 0)]))
          ∧ (s.jrn.fetching = some v → Runs .ridxFetchDone s (fun t => t.on F.JRN_RIDX_DONE = true ∧ t.jrn = { s.jrn with fetching := none }
            ∧ (∀ k, k < 8 → t.g (F.JRN_RDATA_D k) = (if bit v 31 then s.rd (mirrorBase + 0x100 + 32 * slot + 4 * k) 4
                else if s.on F.JRN_STAT_FRAMOK then leNat (s.framRd (0x1000 + 32 * slot + 4 * k) 4) else 0))
            ∧ t = { s with regs := t.regs, jrn := t.jrn } ∧ s.regsKept t [(.JRN, 0)]))

/-- Events of an FOC port and its PWM periods (R216 to R219, R222, R225, R227, R234): RUN leads to CATCH from OFF alone; SPEED sets SREF in the port's sense;
GEAR starts and ends the reference; COAST turns the bridge off from CATCH to RUN; a period start, or its centre, takes the sample that SPOS asks for; a
command in RUN waits for the next period start, which applies it with VQ cut to a magnitude of 1.0, and RUNWD periods without one put the port into FAULT; the
offsets of EN are kept, or raise MOT_ISENSE beyond 5 %. That a RUN starts nothing in the kettle state is the model's reading (log 70). In part this rests on
choices of the model: log 2, 20, 51 and 70. -/
def Obligations.MotorEvents : Prop :=
  ∀ (s : State) (n : Nat), s.plain → s.motEn n = true →
    let st := s.motState n
    let rev := s.on (F.MOT_CFG_REV n)
    let only := fun (t : State) => t = { s with regs := t.regs, mot := t.mot } ∧ s.regsKept t [(.MOT, n)] ∧ ∀ j, j ≠ n → t.motOf j = s.motOf j
    let failed := fun (code : Nat) (t : State) => t.motState n = 8 ∧ t.g (F.MOT_STAT_FAULT n) = code ∧ t.reported (82 + n) code 0
      ∧ t = { s.noted t with mot := t.mot } ∧ s.regsKept t [(.MOT, n), (.FCL, 0), (.TCE, 0)] ∧ ∀ j, j ≠ n → t.motOf j = s.motOf j
    (∀ dir, (st = 0 → s.on F.FCL_STAT_KETTLE = false → Runs (.motRun n dir) s (fun t => t.motState n = 1 ∧ (t.motOf n).dirCmd = (dir != rev) ∧ (t.motOf n).entered = s.now ∧ only t))
      ∧ (st = 0 → s.on F.FCL_STAT_KETTLE = true → Runs (.motRun n dir) s (fun t => t = s))
      ∧ (st ≠ 0 → Runs (.motRun n dir) s (fun t => t.motState n = st ∧ t.g (F.MOT_STAT_FAULT n) = 0x0D ∧ t.reported (82 + n) 0x0D 0 ∧ t = s.noted t
          ∧ s.regsKept t [(.MOT, n), (.FCL, 0), (.TCE, 0)])))
    ∧ (∀ v, v < 2 ^ 24 → (v ≠ 0x800000 ∨ rev = false) → Runs (.motSpeed n v) s (fun t => t.gi (F.MOT_SREF_SPEED n) = (if rev then -toSigned 24 v else toSigned 24 v)
        ∧ t = { s with regs := t.regs } ∧ s.regsKept t [(.MOT, n)]))
    ∧ (s.g (F.MOT_CTRL_MODE n) = 1 → Runs (.motGear n true) s (fun t => (t.motOf n).gear = true ∧ t.g (F.MOT_SREF_SPEED n) = s.g (F.MOT_SREF_SPEED n) ∧ t = { s with mot := t.mot }
        ∧ ∀ j, j ≠ n → t.motOf j = s.motOf j))
    ∧ (s.g (F.MOT_CTRL_MODE n) ≠ 1 → Runs (.motGear n true) s (fun t => t = s))
    ∧ Runs (.motGear n false) s (fun t => t.motOf n = { s.motOf n with gear := false } ∧ t = { s with mot := t.mot } ∧ ∀ j, j ≠ n → t.motOf j = s.motOf j)
    ∧ (1 ≤ st → st ≤ 5 → Runs (.motCoast n) s (fun t => t.motState n = 0 ∧ only t))
    ∧ (st = 0 ∨ 6 ≤ st ∧ st ≤ 8 → Runs (.motCoast n) s (fun t => t = s))
    ∧ (∀ v, (st = 5 → Runs (.motVcmd n v) s (fun t => t.motOf n = { s.motOf n with vNext := some (toSigned 16 (v / 65536), toSigned 16 v) } ∧ t = { s with mot := t.mot }
          ∧ ∀ j, j ≠ n → t.motOf j = s.motOf j))
        ∧ (st ≠ 5 → Runs (.motVcmd n v) s (fun t => t = s)))
    ∧ (∀ x,
        let speed := if s.g (F.MOT_CTRL_SENSOR n) = 2 ∧ s.on (F.MOT_CFG_ENCINV n) = true then -x.speed else x.speed
        let fits := -0x800000 ≤ speed ∧ speed < 0x800000
        let live := s.adcLive (motSlots n) = true
        let valley := s.ga (F.MOT_PWM_SPOS n) ≠ 1 ∧ live
        let taken := fun (t : State) => t.gi (F.MOT_MEAS_W_SPEED n) = speed ∧ t.on (F.MOT_STAT_DIR n) = decide (speed < 0)
        (s.atPeriod n = true → s.reached (.motPwm n) = false → s.reached (.motAdv n) = false →
          (st ≠ 5 → st ≤ 8 → Runs (.pwmPeriodStart n x) s (fun t => only t ∧ (valley → fits → taken t)
            ∧ (¬valley → t.gi (F.MOT_MEAS_W_SPEED n) = s.gi (F.MOT_MEAS_W_SPEED n))
            ∧ (valley → s.g (F.MOT_CTRL_SENSOR n) = 0 → (st = 0 ∨ st = 1) → t.g (F.MOT_MEAS_P_ANGLE n) = x.angle % 65536)
            ∧ (st ≤ 1 ∨ st = 3 ∨ 6 ≤ st → t.motState n = st)))
          ∧ (∀ vq vd, st = 5 → (s.motOf n).vNext = some (vq, vd) → -32768 ≤ vd → vd < 32768 → -32768 ≤ vq → vq < 32768 →
              (s.sensorless n = false ∨ (s.motOf n).lost < 31) → 0 < s.g (F.MOT_LIM_RUNWD n) → Runs (.pwmPeriodStart n x) s (fun t => t.gi (F.MOT_VCMD_VD n) = vd
                ∧ (vd * vd + vq * vq ≤ 2 ^ 30 → t.gi (F.MOT_VCMD_VQ n) = vq)
                ∧ (2 ^ 30 < vd * vd + vq * vq → (t.gi (F.MOT_VCMD_VQ n) = 0 ∨ (t.gi (F.MOT_VCMD_VQ n) < 0 ↔ vq < 0))
                    ∧ isqrt (2 ^ 30 - vd * vd).toNat ≤ (t.gi (F.MOT_VCMD_VQ n)).natAbs ∧ (t.gi (F.MOT_VCMD_VQ n)).natAbs ≤ isqrt (2 ^ 30 - vd * vd).toNat + 1)
                ∧ t.motState n = 5 ∧ (t.motOf n).vNext = none ∧ (t.motOf n).age = 0 ∧ (valley → fits → taken t) ∧ only t))
          ∧ (st = 5 → (s.motOf n).vNext = none → s.g (F.MOT_LIM_RUNWD n) ≤ (s.motOf n).age + 1 → Runs (.pwmPeriodStart n x) s (failed 0x0C)))
        ∧ (s.atPeriod n = false → s.atCentre n = true → s.ga (F.MOT_PWM_SPOS n) ≠ 0 → live → Runs (.pwmPeriodStart n x) s (fun t => (fits → taken t)
            ∧ (st ≠ 2 → t.motState n = st) ∧ only t)))
    ∧ (∀ a b, (s.motOf n).ofsDone = false →
        (20 * a.natAbs ≤ 32768 → 20 * b.natAbs ≤ 32768 → Runs (.motOffsetDone n a b) s (fun t => t.motOf n = { s.motOf n with ofsDone := true, ofsA := a, ofsB := b }
          ∧ t = { s with mot := t.mot } ∧ ∀ j, j ≠ n → t.motOf j = s.motOf j))
        ∧ (32768 < 20 * a.natAbs ∨ 32768 < 20 * b.natAbs → Runs (.motOffsetDone n a b) s (failed 3)))

/-- Starting and protecting a motor (R228 to R234, R241): the end of the catch window leads to RUN, RAMP, BRAKE or ALIGN by the speed its crossings or the
sensor give, and a peak at or above VBUS to FAULT; BRAKE turns the bridge off below the catch threshold and ends in ALIGN a period later; the second dwell of
ALIGN leads to RAMP or, with a sensor that moved as it should, to RUN; Hall codes and index pulses are followed; and each protection puts the port into FAULT
with its code. In part this rests on choices of the model: log 2, 21, 51 and 70. -/
def Obligations.MotorStart : Prop :=
  ∀ (s : State) (n : Nat), s.plain → s.motEn n = true →
    let st := s.motState n
    let m := s.motOf n
    let only := fun (t : State) => t = { s with regs := t.regs, mot := t.mot } ∧ s.regsKept t [(.MOT, n)] ∧ ∀ j, j ≠ n → t.motOf j = s.motOf j
    let failed := fun (code detail : Nat) (t : State) => t.motState n = 8 ∧ t.g (F.MOT_STAT_FAULT n) = code ∧ t.reported (82 + n) code detail
      ∧ t = { s.noted t with mot := t.mot } ∧ s.regsKept t [(.MOT, n), (.FCL, 0), (.TCE, 0)] ∧ ∀ j, j ≠ n → t.motOf j = s.motOf j
    (∀ vs speed angle w, st = 1 → s.windowFor n (20 * msTicks) = true →
        let l := s.windowCrossings n vs
        let mag : Int := s.crossSpeed n l
        w = (match consistent l with | none => 0 | some neg => if s.sensorless n = true then (if neg then -mag else mag) else speed) →
        let fast := consistent l ≠ none ∧ s.atCatch n w = true
        let same := (w < 0 ↔ m.dirCmd = true)
        let out := fun (o : Nat) (t : State) => t.g (F.MOT_CATCH_OUTCOME n) = o ∧ t.on (F.MOT_CATCH_DIR n) = decide (w < 0) ∧ only t
        (s.windowHigh n vs = true → Runs (.catchWindowEnd n vs speed angle) s (failed 0x0A 0))
        ∧ (s.windowHigh n vs = false →
          (¬ fast → Runs (.catchWindowEnd n vs speed angle) s (fun t => t.motState n = 3 ∧ (t.motOf n).dwell = 1 ∧ out 3 t))
          ∧ (fast → same → (s.sensorless n = false ∨ s.atHop n w = true) → Runs (.catchWindowEnd n vs speed angle) s (fun t => t.motState n = 5
              ∧ t.on (F.MOT_STAT_HANDOVER n) = true ∧ t.gi (F.MOT_VCMD_VD n) = 0
              ∧ (-32768 ≤ s.bemfAt n w → s.bemfAt n w < 32768 → t.gi (F.MOT_VCMD_VQ n) = s.bemfAt n w) ∧ out 1 t))
          ∧ (fast → same → s.sensorless n = true → s.atHop n w = false → Runs (.catchWindowEnd n vs speed angle) s (fun t => t.motState n = 4
              ∧ t.forcedAngle n = s.crossAngle n l vs.length w % 65536 ∧ out 1 t))
          ∧ (fast → ¬ same → Runs (.catchWindowEnd n vs speed angle) s (fun t => t.motState n = 2 ∧ out 2 t))))
    ∧ (∀ peak, st = 1 → s.windowFor n 0 = true →
        (100 * s.vbusOf n ≤ peak → Runs (.motOverspeed n peak) s (failed 0x0A 0)) ∧ (peak < 100 * s.vbusOf n → Runs (.motOverspeed n peak) s (fun t => t = s)))
    ∧ (∀ w, st = 2 → s.atCatch n w = false → m.offAt = none → Runs (.brakeDone n w) s (fun t => t.motOf n = { m with offAt := some s.now, brakeOn := false }
        ∧ t = { s with mot := t.mot } ∧ ∀ j, j ≠ n → t.motOf j = s.motOf j))
    ∧ (∀ x since, st = 2 → m.offAt = some since → since + s.ga (F.MOT_PWM_PERIOD n) ≤ s.now → s.atPeriod n = true → s.reached (.motPwm n) = false → s.reached (.motAdv n) = false →
        Runs (.pwmPeriodStart n x) s (fun t => t.motState n = 3 ∧ (t.motOf n).dwell = 1 ∧ only t))
    ∧ (st = 2 → m.offAt = none → m.entered + 2000 * msTicks ≤ s.now → Runs (.motCatch n) s (failed 9 0))
    ∧ (st = 3 →
        let moved := toSigned 16 (s.sensorAngle n + 65536 - m.align1 % 65536)
        (m.dwell = 1 → m.entered + s.g (F.MOT_ALIGN_ALIGNT n) * 5 * msTicks ≤ s.now → Runs (.alignDwellEnd n) s (fun t => t.motState n = 3 ∧ (t.motOf n).dwell = 2
          ∧ (t.motOf n).entered = s.now ∧ t.forcedAngle n = 16384 ∧ (t.motOf n).align1 = s.sensorAngle n ∧ t = { s with mot := t.mot }
          ∧ ∀ j, j ≠ n → t.motOf j = s.motOf j))
        ∧ (m.dwell = 2 → m.entered + s.g (F.MOT_ALIGN_ALIGNT n) * 5 * msTicks / 2 ≤ s.now →
            (s.sensorless n = true → Runs (.alignDwellEnd n) s (fun t => t.motState n = 4 ∧ t.forcedAngle n = 16384 ∧ only t))
            ∧ (s.sensorless n = false → 8192 ≤ moved → moved ≤ 24576 → Runs (.alignDwellEnd n) s (fun t => t.motState n = 5 ∧ t.on (F.MOT_STAT_HANDOVER n) = true ∧ only t))
            ∧ (s.g (F.MOT_CTRL_SENSOR n) = 2 → -24576 ≤ moved → moved ≤ -8192 → m.again = false → Runs (.alignDwellEnd n) s (fun t => t.motState n = 3
                ∧ t.g (F.MOT_CFG_ENCINV n) = 1 - s.g (F.MOT_CFG_ENCINV n) ∧ t.reported (82 + n) 6 0 ∧ (t.motOf n).again = true ∧ (t.motOf n).dwell = 1))
            ∧ (s.g (F.MOT_CTRL_SENSOR n) = 1 → -24576 ≤ moved → moved ≤ -8192 → m.again = false → Runs (.alignDwellEnd n) s (fun t => t.motState n = 3
                ∧ t.g (F.MOT_CFG_PHMAP n) = 1 - s.g (F.MOT_CFG_PHMAP n) ∧ t.reported (82 + n) 7 0 ∧ (t.motOf n).again = true ∧ (t.motOf n).dwell = 1))
            ∧ (s.sensorless n = false → (-8192 < moved ∧ moved < 8192 ∨ moved < -24576 ∨ 24576 < moved ∨ moved ≤ -8192 ∧ m.again = true) →
                Runs (.alignDwellEnd n) s (failed 8 0))))
    ∧ (∀ phase cur, phase < 3 → st = 3 → m.entered + 5 * msTicks ≤ s.now →
        2 * cur * 2 ^ 48 < 8 * s.g (F.MOT_ALIGN_IALIGN n) * (cos48 (3 * s.forcedAngle n + 196608 - s.axisOf n phase)).natAbs →
        Runs (.motOpen n phase cur) s (failed 2 phase))
    ∧ (st = 4 → m.entered + s.g (F.MOT_RAMP_RAMPT n) * 20 * msTicks ≤ s.now → Runs (.motStart n) s (failed 8 0))
    ∧ (∀ code, s.g (F.MOT_CTRL_SENSOR n) = 1 → code < 8 →
        let bad := code = 0 ∨ code = 7
        let skips := ∃ c, m.hallLast = some c ∧ 2 ≤ (hallPlace code + 6 - hallPlace c) % 6 ∧ (hallPlace code + 6 - hallPlace c) % 6 ≤ 4
        (bad → st = 5 → 2 ≤ m.hallBad → Runs (.motHall n code) s (failed 4 0))
        ∧ (bad → (st ≠ 5 ∨ m.hallBad < 2) → Runs (.motHall n code) s (fun t => t.motOf n = { m with hallBad := m.hallBad + 1 } ∧ t = { s with mot := t.mot }
            ∧ ∀ j, j ≠ n → t.motOf j = s.motOf j))
        ∧ (¬ bad → st = 5 → skips → Runs (.motHall n code) s (failed 4 0))
        ∧ (¬ bad → (st ≠ 5 ∨ ¬ skips) → Runs (.motHall n code) s (fun t =>
            t.motOf n = { m with hallBad := 0, hallLast := some code, hallAt := (if m.hallLast = some code then m.hallAt else s.now), hallNeg := (t.motOf n).hallNeg }
              ∧ t = { s with mot := t.mot } ∧ ∀ j, j ≠ n → t.motOf j = s.motOf j)))
    ∧ (∀ count, s.g (F.MOT_CTRL_SENSOR n) = 2 →
        let off := count + 4 < s.g (F.MOT_CFG_CPR n) ∨ s.g (F.MOT_CFG_CPR n) + 4 < count
        (st = 5 → m.indexed = true → off → Runs (.motEnc n count) s (failed 5 0))
        ∧ ((st ≠ 5 ∨ m.indexed = false ∨ ¬ off) → Runs (.motEnc n count) s (fun t => t.motOf n = { m with enc := 0, indexed := true } ∧ t = { s with mot := t.mot }
            ∧ ∀ j, j ≠ n → t.motOf j = s.motOf j)))
    ∧ Runs (.motDesat n) s (fun t => failed 1 0 t ∧ (t.motOf n).desat = true)

/-- The DC bus (R235 to R239, R253): a sample gives VBUS and drives the chopper with its hysteresis; V_ov1 with a sound chopper is BUS_HIGH and no more, with
a bad one ZT on every port of the bus and a class-C fault; a chopper current wrong for 20 µs, or a divider that reads nothing while a bridge is on, is
BUS_CHOP; V_ov2 puts every port of the bus into ASC; and ZT and ASC end in OFF. In part this rests on choices of the model: log 52. -/
def Obligations.DcBus : Prop :=
  ∀ (s : State) (k : Nat), s.plain → s.isBusmon k = true →
    let busPort := fun (n : Nat) => n < 8 ∧ s.motEn n = true ∧ s.g (F.MOT_CTRL_BUSSTP n) = k ∧ (s.motOf n).desat = false
    let only := fun (t : State) => t = { s with regs := t.regs, stp := t.stp } ∧ s.regsKept t [(.STP, k)] ∧ ∀ j, j ≠ k → t.stpOf j = s.stpOf j
    let vb := s.g (F.STP_BUS0_VBRAKE k)
    let hy := s.g (F.STP_BUS0_HYST k)
    let o1 := s.g (F.STP_BUS1_VOV1 k)
    (∀ adc cur v, v = min 65535 (adc * s.g (F.STP_BUS2_SCALE k) * 10 / 65536) → s.adcLive (stpSlots k) = true →
        let bridge := ∃ n, n < 8 ∧ busPort n ∧ 2 ≤ s.motState n ∧ s.motState n ≤ 7
        let gone := 100 * v < s.g (F.STP_BUS1_VOV2 k) ∧ bridge
        let sampled := fun (t : State) => t.g (F.STP_BUSSTAT_VBUS k) = v
          ∧ (vb ≤ v → t.on (F.STP_BUSSTAT_CHOP_ON k) = true) ∧ (v < vb → vb ≤ v + hy → t.on (F.STP_BUSSTAT_CHOP_ON k) = s.on (F.STP_BUSSTAT_CHOP_ON k))
          ∧ (v + hy < vb → t.on (F.STP_BUSSTAT_CHOP_ON k) = false) ∧ (t.on (F.STP_BUSSTAT_OV2 k) = true ↔ s.g (F.STP_BUS1_VOV2 k) ≤ v)
          ∧ ∀ j, j ≠ k → t.stpOf j = s.stpOf j
        ((v < o1 ∨ s.on (F.STP_BUSSTAT_OV1 k) = true) → (¬ gone ∨ (s.stpOf k).divOpen = true) → Runs (.busSample k adc cur) s (fun t => sampled t ∧ only t))
        ∧ ((v < o1 ∨ s.on (F.STP_BUSSTAT_OV1 k) = true) → gone → (s.stpOf k).divOpen = false → Runs (.busSample k adc cur) s (fun t => sampled t
            ∧ t.on (F.STP_BUSSTAT_CHOP_BAD k) = true ∧ t.g (F.STP_STAT_FAULT k) = 0x31 ∧ t.reported (90 + k) 0x31 0 ∧ (t.stpOf k).divOpen = true
            ∧ t = { s.noted t with stp := t.stp } ∧ s.regsKept t [(.STP, k), (.FCL, 0), (.TCE, 0)]))
        ∧ (o1 ≤ v → s.on (F.STP_BUSSTAT_OV1 k) = false → ¬ gone → s.on (F.STP_BUSSTAT_CHOP_BAD k) = false → Runs (.busSample k adc cur) s (fun t => t.g (F.STP_STAT_FAULT k) = 0x32
            ∧ t.reported (90 + k) 0x32 0 ∧ t.mot = s.mot ∧ t = { s.noted t with stp := t.stp } ∧ s.regsKept t [(.STP, k), (.FCL, 0), (.TCE, 0)]))
        ∧ (o1 ≤ v → s.on (F.STP_BUSSTAT_OV1 k) = false → ¬ 100 * v < s.g (F.STP_BUS1_VOV2 k) → s.on (F.STP_BUSSTAT_CHOP_BAD k) = true → Runs (.busSample k adc cur) s (fun t => t.reported (90 + k) 0x33 0
            ∧ t.on F.FCL_STAT_KETTLE = true ∧ ∀ n, busPort n → s.motState n ≠ 7 → t.motState n = 6)))
    ∧ (∀ x, (s.stpOf k).wrongSince = some x → x + 20 * usTicks ≤ s.now → (s.stpOf k).wrongDone = false → Runs (.busChop k) s (fun t =>
        t.on (F.STP_BUSSTAT_CHOP_BAD k) = true ∧ t.g (F.STP_STAT_FAULT k) = 0x31 ∧ t.reported (90 + k) 0x31 0 ∧ t.stpOf k = { s.stpOf k with wrongDone := true } ∧ t = { s.noted t with stp := t.stp }
          ∧ s.regsKept t [(.STP, k), (.FCL, 0), (.TCE, 0)]))
    ∧ (s.on (F.STP_BUSSTAT_OV2 k) = true → (s.stpOf k).ov2Done = false → Runs (.busOv2 k) s (fun t => t.reported (90 + k) 0x34 0 ∧ t.on F.FCL_STAT_KETTLE = true
        ∧ ∀ n, busPort n → t.motState n = 7))
    ∧ ∀ n x, s.motEn n = true → s.g (F.MOT_CTRL_BUSSTP n) = k → (s.stpOf k).lowSince = some x →
        let off := fun (t : State) => t.motState n = 0 ∧ t = { s with regs := t.regs, mot := t.mot } ∧ s.regsKept t [(.MOT, n)] ∧ ∀ j, j ≠ n → t.motOf j = s.motOf j
        (s.motState n = 6 → x + 10 * msTicks ≤ s.now → Runs (.ztExit n) s off)
        ∧ (∀ w, s.motState n = 7 → s.atCatch n w = false → Runs (.ascExit n w) s off)

/-- Stepper ports (R243, R245, R246, R249 to R252): GO starts the committed move from IDLE or STAND alone, one of no distance completes at once; STOP and HALT
end it; a profile update issues the microsteps its speed gives, never passes the target, and accelerates at A1 below V1; HOLDT's end leaves the coils as STAND
says; POS is written by the port's owner while the port stands; the first qualifying switch edge latches; a coil at its target ends the on-time; and a coil
that misses its target sixteen times, or carries too much, puts the port into FAULT. That a GO starts nothing in the kettle state is the model's reading (log
70). In part this rests on choices of the model: log 53 and 70. -/
def Obligations.StepperPorts : Prop :=
  ∀ (s : State) (k : Nat), s.plain → s.stpEn k = true → s.g (F.STP_CTRL_MODE k) = 0 →
    let st := s.stpState k
    let x := s.stpOf k
    let pos := s.stpPos k
    let target := s.gai (F.STP_TARGET_POS k)
    let only := fun (t : State) => t = { s with regs := t.regs, stp := t.stp } ∧ s.regsKept t [(.STP, k)] ∧ ∀ j, j ≠ k → t.stpOf j = s.stpOf j
    let failed := fun (code : Nat) (t : State) => t.stpState k = 0xF ∧ t.g (F.STP_STAT_FAULT k) = code ∧ (t.stpOf k).coils = .off ∧ t.stpPos k = pos ∧ t.reported (90 + k) code 0
      ∧ t = { s.noted t with stp := t.stp } ∧ s.regsKept t [(.STP, k), (.FCL, 0), (.TCE, 0)]
    let free := s.on F.FCL_STAT_KETTLE = false ∧ s.on (ShadowSet.stpProfile k).pend = false
    ((st = 0 ∨ st = 6) → free → target ≠ pos → Runs (.stpGo k) s (fun t => t.stpState k = 1 ∧ t.stpPos k = pos ∧ (t.stpOf k).neg = decide (target < pos)
        ∧ (s.flatMove k (target - pos).natAbs = false → (t.stpOf k).vel = s.stpV (F.STP_VSTART_V k)) ∧ only t))
    ∧ ((st = 0 ∨ st = 6) → s.on F.FCL_STAT_KETTLE = true → Runs (.stpGo k) s (fun t => t = s))
    ∧ ((st = 0 ∨ st = 6) → free → target = pos → Runs (.stpGo k) s (fun t => t.stpState k = 6 ∧ t.stpPos k = pos ∧ only t))
    ∧ (st ≠ 0 → st ≠ 6 → Runs (.stpGo k) s (fun t => t.g (F.STP_STAT_FAULT k) = 0x24 ∧ t.stpState k = st ∧ t.reported (90 + k) 0x24 0 ∧ t = s.noted t
        ∧ s.regsKept t [(.STP, k), (.FCL, 0), (.TCE, 0)]))
    ∧ (1 ≤ st → st ≤ 5 → Runs (.stpStop k) s (fun t => t.stpOf k = { x with stopping := some false } ∧ t = { s with stp := t.stp } ∧ ∀ j, j ≠ k → t.stpOf j = s.stpOf j)
        ∧ Runs (.stpHalt k) s (fun t => t.stpState k = 6 ∧ t.on (F.STP_STAT_STOPPED k) = true ∧ t.stpPos k = pos ∧ (t.stpOf k).vel = 0 ∧ only t))
    ∧ ((st = 0 ∨ 6 ≤ st) → Runs (.stpStop k) s (fun t => t = s) ∧ Runs (.stpHalt k) s (fun t => t = s))
    ∧ (1 ≤ st → st ≤ 5 → x.updatedAt + usTicks ≤ s.now → s.reached (.stpProfile k) = false → x.neg = decide (target < pos) → x.frac < 10 ^ 12 →
        let left := (target - pos).natAbs
        let steps := min left ((x.frac + x.vel) / 10 ^ 12)
        Runs (.profileUpdate k) s (fun t => t.stpPos k = (if target < pos then pos - steps else pos + steps) ∧ t.gai (F.STP_TARGET_POS k) = target
          ∧ (steps = left → t.stpState k = 6 ∧ (t.stpOf k).vel = 0) ∧ (steps < left → x.stopping = none → 1 ≤ t.stpState k ∧ t.stpState k ≤ 5)
          ∧ (steps < left → x.stopping = none → x.hard = none → x.flat = true → (t.stpOf k).vel = x.vel)
          ∧ (steps < left → x.stopping = none → x.hard = none → x.flat = false → x.decel = false → s.stopReached k x.vel (left * 10 ^ 12 - (x.frac + x.vel)) false = false →
              x.vel < s.stpV (F.STP_V1_V k) → x.vel ≤ s.stpV (F.STP_VMAX_V k) → t.stpState k = 1
                ∧ (t.stpOf k).vel = min (s.stpV (F.STP_V1_V k)) (x.vel + s.stpA (F.STP_A1_A k)))
          ∧ (t.stpOf k).updatedAt = s.now ∧ only t))
    ∧ (s.reached (.stpProfile k) = false → (st = 0 ∨ 6 ≤ st) → x.updatedAt + usTicks ≤ s.now → Runs (.profileUpdate k) s (fun t => t = { s with stp := t.stp }
        ∧ t.stpOf k = { x with updatedAt := s.now } ∧ ∀ j, j ≠ k → t.stpOf j = s.stpOf j))
    ∧ (s.now < x.updatedAt + usTicks → Runs (.profileUpdate k) s (fun t => t = s))
    ∧ (st = 6 → x.coils = .run → x.stoodAt + s.g (F.STP_CURR_HOLDT k) * 10 * msTicks ≤ s.now → Runs (.holdtExpire k) s (fun t => t = { s with stp := t.stp }
        ∧ t.stpOf k = { x with coils := if s.g (F.STP_CTRL_STAND k) = 0 then .hold else if s.g (F.STP_CTRL_STAND k) = 1 then .off else .short } ∧ ∀ j, j ≠ k → t.stpOf j = s.stpOf j))
    ∧ (∀ q v, s.present q → v < 2 ^ 32 →
        (s.ownsPort q (24 + 2 * k) = true → (st = 0 ∨ st = 6) → Runs (.posWrite q k v) s (fun t => t.stpPos k = toSigned 32 v ∧ t.stpState k = 0 ∧ only t))
        ∧ (s.ownsPort q (24 + 2 * k) = true → st ≠ 0 → st ≠ 6 → Runs (.posWrite q k v) s (fun t => t.reported (90 + k) 0xF8 q.detail ∧ t = s.noted t
            ∧ s.regsKept t [(.FCL, 0), (.TCE, 0)]))
        ∧ (s.ownsPort q (24 + 2 * k) = false → Runs (.posWrite q k v) s (fun t => t.reported q.source 0xF4 q.detail ∧ t = s.noted t ∧ s.regsKept t [(.FCL, 0), (.TCE, 0)])))
    ∧ (∀ falling stamp, stamp < 2 ^ 64 →
        let takes := s.on (F.STP_LATCH_ARM k) = true ∧ s.on (F.STP_LATCH_EDGE k) = falling ∧ s.g (F.STP_STAT_DIRST k) = s.g (F.STP_LATCH_LDIR k) ∧ pos = x.ext
        (takes → Runs (.latchEdge k falling stamp) s (fun t => t.gi (F.STP_LPOS_POS k) = pos ∧ t.g (F.STP_LTIME_LO_T k) + 2 ^ 32 * t.g (F.STP_LTIME_HI_T k) = stamp
            ∧ t.on (F.STP_LATCH_ARM k) = false ∧ t.on (F.STP_LATCH_LATCHED k) = true ∧ t.stpPos k = pos ∧ t.gai (F.STP_TARGET_POS k) = target
            ∧ (s.g (F.STP_LATCH_LACT k) = 2 → 1 ≤ st → st ≤ 5 → t.stpState k = 6 ∧ t.on (F.STP_STAT_LATCHSTOP k) = true)
            ∧ (s.g (F.STP_LATCH_LACT k) = 1 → 1 ≤ st → st ≤ 5 → t.stpState k = st ∧ (t.stpOf k).stopping = some (x.stopping != some false))
            ∧ (s.g (F.STP_LATCH_LACT k) = 0 → t.stpState k = st ∧ t.stpOf k = x) ∧ only t))
        ∧ (¬ takes → Runs (.latchEdge k falling stamp) s (fun t => t.on (F.STP_STAT_SW k) = !falling ∧ t.g (F.STP_LPOS_POS k) = s.g (F.STP_LPOS_POS k)
            ∧ t.on (F.STP_LATCH_ARM k) = s.on (F.STP_LATCH_ARM k) ∧ t.stpPos k = pos ∧ t = { s with regs := t.regs } ∧ s.regsKept t [(.STP, k)])))
    ∧ (∀ coil cur, s.chopLive k coil = true →
        let c := s.chopOf k coil
        let done := c.1 + s.blankTicks k ≤ s.now ∧ (s.coilTarget k coil).natAbs ≤ cur
        let late := c.1 + s.g (F.STP_CHOP_TONMAX k) * usTicks ≤ s.now
        let turned := fun (v : Nat × Nat) (t : State) => t.chopOf k coil = v ∧ t.chopOf k (1 - coil) = s.chopOf k (1 - coil) ∧ t = { s with stp := t.stp }
          ∧ ∀ j, j ≠ k → t.stpOf j = s.stpOf j
        (s.coilDrive k coil = .forward →
          (done → Runs (.stpOpen k coil cur) s (turned (s.now + s.toff k, 0)))
          ∧ (¬ done → late → c.2 < 15 → Runs (.stpOpen k coil cur) s (turned (s.now + s.toff k, c.2 + 1)))
          ∧ (¬ done → late → 15 ≤ c.2 → Runs (.stpOpen k coil cur) s (failed 0x21)))
        ∧ ((3 * 4095 < 2 * cur ∨ s.coilDrive k coil = .forward ∧ s.now < c.1 + s.blankTicks k ∧ 2 * (s.coilTarget k coil).natAbs < cur) →
            Runs (.stpShort k coil cur) s (failed 0x22)))

/-- High-voltage ports (R257, R271 to R275): LEVEL selects a bank and takes its reference, before a DRIVE of the same tick; a word with a reserved CMD is
HV_CMD; a DRIVE in RUN with a bank selected waits for the next carrier period, which applies it; a band missed for BANDT, an arc, a short and an open output
each raise their fault and hold or end the output; and at each result instant the measurements are taken, to be readable 500 ticks later, and the band judged,
or the port is stale. In part this rests on choices of the model: log 20, 54 and 71. -/
def Obligations.HighVoltagePorts : Prop :=
  ∀ (s : State) (k : Nat), s.plain → s.hvEn k = true →
    let st := s.hvState k
    let bank := s.hvBank k
    let h := s.hvOf k
    let others := fun (t : State) => ∀ j, j ≠ k → t.hvOf j = s.hvOf j
    let only := fun (t : State) => t = { s with regs := t.regs, hv := t.hv } ∧ s.regsKept t [(.HV, k)] ∧ others t
    let noted := fun (code : Nat) (t : State) => t.g (F.HV_STAT_FAULT k) = code ∧ t.reported (102 + k) code 0 ∧ t = { s.noted t with hv := t.hv }
      ∧ s.regsKept t [(.HV, k), (.FCL, 0), (.TCE, 0)] ∧ others t
    (∀ b, b < 3 →
        (s.on F.FCL_STAT_KETTLE = false → Runs (.hvLevel k b) s (fun t => t.hvBank k = b ∧ t.on (F.HV_STAT_INBAND k) = false
          ∧ t.word .HV_REF k 0 = (if b = 1 then s.active .HV_SETA k 0 else if b = 2 then s.active .HV_SETB k 0 else 0)
          ∧ t.word .HV_APPLIED k 0 = (if b = 0 then 0 else s.word .HV_APPLIED k 0) ∧ t.hvState k = st ∧ (t.hvOf k).lastLevel = s.now
          ∧ (bank ≠ 0 → (t.hvOf k).age = h.age ∨ ∃ dc ac, h.driven = some (s.now, dc, ac)) ∧ (bank ≠ 0 → b ≠ 0 → (t.hvOf k).shortSince = h.shortSince)
          ∧ (∀ dc ac, h.driven = some (s.now, dc, ac) → st = 1 → b ≠ 0 → (t.hvOf k).next = some (dc, ac)) ∧ only t))
        ∧ (s.on F.FCL_STAT_KETTLE = true → Runs (.hvLevel k b) s (fun t => t = s)))
    ∧ (∀ v, 3 ≤ v → v < 2 ^ 28 → Runs (.hvLevel k v) s (fun t => t.hvBank k = bank ∧ t.hvState k = st ∧ t.word .HV_APPLIED k 0 = s.word .HV_APPLIED k 0 ∧ noted 0x41 t))
    ∧ (∀ dc ac, dc < 2 ^ 14 → ac < 2 ^ 14 →
        let kept := { h with age := 0, driven := some (s.now, dc, ac) }
        (st = 1 → bank ≠ 0 → s.on F.FCL_STAT_KETTLE = false → Runs (.hvDrive k dc ac) s (fun t => t.hvOf k = { kept with next := some (dc, ac) }
          ∧ t = { s with hv := t.hv } ∧ others t))
        ∧ ((st ≠ 1 ∨ bank = 0 ∨ s.on F.FCL_STAT_KETTLE = true) → Runs (.hvDrive k dc ac) s (fun t => t.hvOf k = kept ∧ t = { s with hv := t.hv } ∧ others t))
        ∧ (h.next = some (dc, ac) →
            let t := s.hvCarrier k
            (s.carrier k < s.g (F.HV_CFG_FCAR k) → t.g (F.HV_APPLIED_DC k) = dc ∧ t.g (F.HV_APPLIED_AC k) = ac ∧ (t.hvOf k).next = none ∧ only t)
            ∧ (s.g (F.HV_CFG_FCAR k) ≤ s.carrier k → t = s)))
    ∧ (∀ x, h.outSince = some x → bank ≠ 0 → s.on (F.HV_STAT_INBAND k) = false → x + s.ga (F.HV_LIMIT_BANDT k) * 25000 ≤ s.now → Runs (.hvBand k) s (fun t =>
        t.hvState k = st ∧ t.hvBank k = bank ∧ noted 0x42 t))
    ∧ (∀ i : Int, st = 1 → s.ga (F.HV_ARC_IARC k) ≤ i.natAbs → Runs (.hvArc k i) s (fun t => t.hvState k = 2 ∧ t.word .HV_APPLIED k 0 = 0
        ∧ t.g (F.HV_STAT_ARCS k) = min (s.g (F.HV_STAT_ARCS k) + 1) 0xFFFF ∧ (t.hvOf k).holdAt = s.now ∧ noted 0x43 t))
    ∧ (st = 2 → h.holdAt + msTicks ≤ s.now → Runs (.hvArcHoldEnd k) s (fun t => t.hvState k = 1 ∧ t.word .HV_APPLIED k 0 = 0 ∧ t.hvOf k = { h with next := none } ∧ only t))
    ∧ (∀ x, st = 1 → h.shortSince = some x → x + 10 * msTicks ≤ s.now → Runs (.hvShort k) s (fun t => t.hvState k = 3 ∧ t.word .HV_APPLIED k 0 = 0 ∧ noted 0x44 t))
    ∧ (∀ x, st = 1 → h.openSince = some x → x + msTicks ≤ s.now → Runs (.hvOpen k) s (fun t => t.hvState k = 3 ∧ t.word .HV_APPLIED k 0 = 0 ∧ noted 0x45 t))
    ∧ (∀ hv fus, s.now % 25000 = 0 → (∀ j, j ≠ k → s.hvEn j = false) → (∀ f, s.fusEn f = false) → s.adcLive (hvSlots k) = true →
        let x := vget hv k
        let told := fun (t : State) => t.resultsAt = s.now + 500 ∧ others t
          ∧ t.results = s.results ++ [(102 + k, F.HV_MEAS_VDC k, x.vdc), (102 + k, F.HV_MEAS_IDC k, x.idc), (102 + k, F.HV_MEAS2_VPP k, (x.vpp : Int))]
        let onlyR := fun (t : State) => t = { s with regs := t.regs, hv := t.hv, results := t.results, resultsAt := t.resultsAt } ∧ s.regsKept t [(.HV, k)] ∧ told t
        (bank = 0 → Runs (.portResult hv fus) s (fun t => t.on (F.HV_STAT_INBAND k) = false ∧ t.hvState k = st ∧ onlyR t))
        ∧ (bank ≠ 0 → st ≠ 3 → h.age + 1 < s.g (F.HV_CFG_CMDWD k) → Runs (.portResult hv fus) s (fun t => (t.hvOf k).age = h.age + 1 ∧ t.hvState k = st
            ∧ (bank = 1 → t.word .HV_REF k 0 = s.word .HV_SETA k 0) ∧ (bank = 2 → t.word .HV_REF k 0 = s.word .HV_SETB k 0)
            ∧ (bank = 1 → x.vdc = s.gi (F.HV_SETA_DC k) → s.g (F.HV_CTRL_KIND k) = 0 →
                (t.on (F.HV_STAT_INBAND k) = true ↔ h.lastLevel + bits (s.word .HV_ARC k 0) 15 0 * usTicks ≤ s.now)) ∧ onlyR t))
        ∧ (bank ≠ 0 → st ≠ 3 → s.g (F.HV_CFG_CMDWD k) ≤ h.age + 1 → Runs (.portResult hv fus) s (fun t => t.hvState k = 3 ∧ t.word .HV_APPLIED k 0 = 0
            ∧ t.g (F.HV_STAT_FAULT k) = 0x46 ∧ t.reported (102 + k) 0x46 0 ∧ t = { s.noted t with hv := t.hv, results := t.results, resultsAt := t.resultsAt }
            ∧ s.regsKept t [(.HV, k), (.FCL, 0), (.TCE, 0)] ∧ told t)))
    ∧ (∀ v : Int, s.results = [(102 + k, F.HV_MEAS_VDC k, v)] → -32768 ≤ v → v < 32768 →
        (s.resultsAt ≤ s.now → s.publish.gi (F.HV_MEAS_VDC k) = v ∧ s.publish.results = [])
        ∧ (s.now < s.resultsAt → s.publish = s))

/-- Fuser ports (R257, R261 to R265, R268, R269): a drive above zero starts the bridge at its frequency and one of zero or less stops it; other states discard
it; a capacitive cycle raises FLOOR, which decays, and the sixteenth in a row at FMAX is FUS_RES; an over-current, a missing command and thermistors out of
range end in FAULT; a result is taken to be readable 500 ticks later; and a band missed with a sheet in the path spoils it while the heater goes on. In part
this rests on choices of the model: log 13 and 55. -/
def Obligations.FuserPorts : Prop :=
  ∀ (s : State) (f : Nat), s.calm → s.histRoom → s.fusEn f = true →
    let st := s.fusState f
    let x := s.fusOf f
    let kettle := s.on F.FCL_STAT_KETTLE
    let hi := s.g (F.FUS_CFG_FMAX f)
    let lo := s.g (F.FUS_CFG_FMIN f)
    let others := fun (t : State) => ∀ j, j ≠ f → t.fusOf j = s.fusOf j
    let only := fun (t : State) => t = { s with regs := t.regs, fus := t.fus } ∧ s.regsKept t [(.FUS, f)] ∧ others t
    let failed := fun (code : Nat) (t : State) => t.fusState f = 4 ∧ t.g (F.FUS_FLT_FAULT f) = code ∧ t.g (F.FUS_STAT_DRIVE f) = 0 ∧ t.g (F.FUS_STAT_FREQ f) = 0
      ∧ t.reported (114 + f) code 0 ∧ t = { s.noted t with fus := t.fus } ∧ s.regsKept t [(.FUS, f), (.FCL, 0), (.TCE, 0)] ∧ others t
    (∀ v, v < 2 ^ 32 →
        let d := if bit v 15 then 0 else bits v 14 0
        let kept := fun (t : State) => t.fusOf f = { x with lastCmd := s.now } ∧ t = { s with fus := t.fus } ∧ others t
        (kettle = false → (st = 1 ∨ st = 2) → 0 < d → Runs (.fusDrive f v) s (fun t => t.fusState f = 2 ∧ t.g (F.FUS_STAT_DRIVE f) = d
          ∧ t.g (F.FUS_STAT_FREQ f) = max (hi - d * (hi - lo) / 32768) (lo + x.floor) % 1024 ∧ t.fusOf f = { x with lastCmd := s.now } ∧ only t))
        ∧ (kettle = false → st = 2 → d = 0 → Runs (.fusDrive f v) s (fun t => t.fusState f = 1 ∧ t.g (F.FUS_STAT_DRIVE f) = 0 ∧ t.g (F.FUS_STAT_FREQ f) = 0 ∧ only t))
        ∧ (kettle = false → st = 1 → d = 0 → Runs (.fusDrive f v) s kept) ∧ ((kettle = true ∨ st = 3 ∨ st = 4) → Runs (.fusDrive f v) s kept))
    ∧ (∀ next, s.g (F.FUS_STAT_FREQ f) ≠ 0 → s.pathClear →
        (s.g (F.FUS_FLT_ZVS f) = 0 → x.floor + 5 ≤ hi - lo → Runs (.fusZvs f next) s (fun t => t.g (F.FUS_FLT_ZVS f) = 1 ∧ (t.fusOf f).floor = x.floor + 5
          ∧ t.fusState f = st ∧ t.reported (114 + f) 0x51 0 ∧ t = { s.noted t with fus := t.fus } ∧ s.regsKept t [(.FUS, f), (.FCL, 0), (.TCE, 0)] ∧ others t))
        ∧ (s.g (F.FUS_FLT_ZVS f) ≠ 0 → ¬(hi - lo ≤ x.floor ∧ next = true ∧ 15 ≤ x.atMax) → Runs (.fusZvs f next) s (fun t =>
            (t.fusOf f).floor = min (x.floor + 5) (hi - lo) ∧ t.fusState f = st ∧ only t))
        ∧ (s.g (F.FUS_FLT_ZVS f) ≠ 0 → hi - lo ≤ x.floor → next = true → 15 ≤ x.atMax → Runs (.fusZvs f next) s (failed 0x52)))
    ∧ (0 < x.floor → x.decayAt + 1000 * msTicks ≤ s.now → Runs (.floorDecay f) s (fun t => (t.fusOf f).floor = x.floor - 1 ∧ (t.fusOf f).decayAt = s.now ∧ t.fusState f = st ∧ only t))
    ∧ (∀ ma, s.pathClear → (st = 1 ∨ st = 2) → s.g (F.FUS_LIM_IPKMAX f) < ma → Runs (.fusOc f ma) s (failed 0x53))
    ∧ (s.pathClear → st = 2 → x.lastCmd + s.g (F.FUS_CFG_CMDWD f) * 25000 ≤ s.now → Runs (.fusStale f) s (failed 0x57))
    ∧ (∀ hv fus, s.now % 25000 = 0 → (∀ j, s.hvEn j = false) → (∀ g, g ≠ f → s.fusEn g = false) → s.adcLive (fusSlots f) = true → s.pathClear →
        let y := vget fus f
        let told := fun (t : State) => t.resultsAt = s.now + 500 ∧ (114 + f, F.FUS_ICUR_I f, (y.icur : Int)) ∈ t.results ∧ (∀ r, r ∈ s.results → r ∈ t.results) ∧ others t
        ((st = 0 ∨ st = 3 ∨ st = 4) → Runs (.portResult hv fus) s (fun t => t.fusState f = st
          ∧ t = { s with regs := t.regs, fus := t.fus, results := t.results, resultsAt := t.resultsAt } ∧ s.regsKept t [(.FUS, f)] ∧ told t))
        ∧ ((st = 1 ∨ st = 2) → thermBad y.th0 = true → thermBad y.th1 = true → thermBad y.th2 = true → Runs (.portResult hv fus) s (fun t => t.fusState f = 4
            ∧ t.g (F.FUS_FLT_FAULT f) = 0x55 ∧ t.g (F.FUS_STAT_DRIVE f) = 0 ∧ t.g (F.FUS_STAT_FREQ f) = 0 ∧ t.reported (114 + f) 0x55 0
            ∧ t = { s.noted t with fus := t.fus, results := t.results, resultsAt := t.resultsAt } ∧ s.regsKept t [(.FUS, f), (.FCL, 0), (.TCE, 0)] ∧ told t)))
    ∧ (∀ fo y, s.gath.folios = [fo] → fo.inPath = true → fo.exitOk = false → s.now < s.divPass fo → fo.desc.stream < 8 → s.jrnRoom → x.outSince = some y →
        s.on (F.FUS_CTRL_GATE f) = true → s.on (F.FUS_STAT_INBAND f) = false → y + s.g (F.FUS_BAND_BANDT f) * msTicks ≤ s.now → Runs (.fusBand f) s (fun t =>
          t.fusState f = st ∧ t.g (F.FUS_STAT_DRIVE f) = s.g (F.FUS_STAT_DRIVE f) ∧ t.g (F.FUS_FLT_FAULT f) = 0x56 ∧ t.reported (114 + f) 0x56 0
            ∧ (∃ g, t.gath.folios = [g] ∧ g.st = .spoiled ∧ g.reason = 8 ∧ g.desc = fo.desc) ∧ s.queued t 6 fo.desc.stream fo.desc.fsn 8))

/-- Temperature (R299 to R306): every sample is kept as measured; while no two sensors differ by more than 3 °C each stands and the hottest is HOTTEMP; below
the levels nothing else changes, one at CRIT raises THM_CRIT, and the fourth sample at SHUT enters the kettle state; after the flush or 2 ms the cores are
held in reset, SYN2 to SYN5 stop and the memory refreshes itself; an external channel reports its temperature, or is FAULTY and at CRIT; and of a pair that
disagrees for 1 s the member that reads lower is broken. In part this rests on choices of the model: log 56. -/
def Obligations.Temperature : Prop :=
  ∀ (s : State), s.plain →
    (∀ v : Vector Int 32, dueSince s.thm.dieAt 25000 s.aon = true → (∀ k, k < 32 → -32768 ≤ vget v k ∧ vget v k < 32768) → Runs (.thmSample v) s (fun t =>
        ∀ k, k < 32 → t.gi (F.THM_TS_RAW k) = vget v k))
    ∧ (∀ v : Vector Int 32, dueSince s.thm.dieAt 25000 s.aon = true → s.g F.THM_BROKEN_TS = 0 → (∀ j k, j < 32 → k < 32 → vget v j - vget v k ≤ 300) →
        (∀ k, k < 32 → -32768 ≤ vget v k ∧ vget v k < 32768) →
        let told := fun (t : State) => (∀ k, k < 32 → t.gi (F.THM_TS_RAW k) = vget v k ∧ t.gi (F.THM_TS_VALUE k) = vget v k) ∧ (∀ k, k < 32 → vget v k ≤ t.gi F.THM_STAT_HOTTEMP)
          ∧ ∃ k, k < 32 ∧ t.gi F.THM_STAT_HOTTEMP = vget v k
        ((∀ k, k < 32 → vget v k < 100 * s.g F.THM_LEVELS_WARN - 200 ∧ vget v k < 100 * s.g F.THM_LEVELS_CRIT - 500 ∧ vget v k < 100 * s.g F.THM_LEVELS_SHUT) →
            Runs (.thmSample v) s (fun t => told t ∧ t.on F.THM_STAT_WARN = false ∧ t.thm.dieCrit = false ∧ t.thm.hotRun = 0 ∧ t.g F.THM_BROKEN_TS = 0
              ∧ t = { s with regs := t.regs, thm := t.thm } ∧ s.regsKept t [(.THM, 0)]))
        ∧ ((∃ k, k < 32 ∧ (100 * s.g F.THM_LEVELS_CRIT : Nat) ≤ vget v k) → (∀ k, k < 32 → vget v k < 100 * s.g F.THM_LEVELS_SHUT) → s.on F.THM_STAT_WARN = true →
            s.thm.dieCrit = false → Runs (.thmSample v) s (fun t => told t ∧ t.thm.dieCrit = true ∧ t.on F.THM_STAT_CRIT = true ∧ (∃ d, t.reported 7 7 d)
              ∧ t = { s.noted t with thm := t.thm } ∧ s.regsKept t [(.THM, 0), (.FCL, 0), (.TCE, 0)]))
        ∧ ((∃ k, k < 32 ∧ (100 * s.g F.THM_LEVELS_SHUT : Nat) ≤ vget v k) → s.thm.hotRun = 3 → s.thm.shutAt = none → Runs (.thmSample v) s (fun t => told t
            ∧ t.g F.THM_STAT_SHUTCNT = min (s.g F.THM_STAT_SHUTCNT + 1) 15 ∧ t.thm.shutAt = some s.aon ∧ (∃ d, t.reported 7 9 d) ∧ t.on F.FCL_STAT_KETTLE = true)))
    ∧ (∀ x, s.thm.shutAt = some x → s.on F.THM_STAT_SHUT = false → (s.on F.JRN_STAT_FLUSHED = true ∨ x + 2 * msTicks ≤ s.aon) → Runs .thmShutHold s (fun t =>
        t.on F.THM_STAT_SHUT = true ∧ t.selfRefresh = true ∧ (∀ i, i < 24 → s.hasCore i = true → t.coreState i = csRESET ∧ ∀ r, vget (t.coreOf i).g r = 0)
          ∧ (∀ n, 2 ≤ n → n < s.blockCount .SYN → t.synState n = syOFF) ∧ t.claims = s.claims ∧ t.psq = s.psq ∧ t.fram = s.fram))
    ∧ (∀ v : Vector Nat 8, dueSince s.thm.txAt msTicks s.aon = true → Runs (.txSample v) s (fun t => ∀ k, k < 8 →
        (s.on (F.THM_TXLIM_EN k) = true → t.gi (F.THM_TX_TEMP k) = thermTemp (vget v k) (s.g (F.THM_TXCFG_BETA k)) (s.g (F.THM_TXCFG_RNOM k)) ∧ t.txFlag k 0 = thermBad (vget v k))
        ∧ (s.on (F.THM_TXLIM_EN k) = false → t.gi (F.THM_TX_TEMP k) = s.gi (F.THM_TX_TEMP k) ∧ t.txFlag k 0 = s.txFlag k 0)))
    ∧ (∀ (v : Vector Nat 8) (c : Nat), dueSince s.thm.txAt msTicks s.aon = true → c < 8 → s.on (F.THM_TXLIM_EN c) = true → (∀ k, k < 8 → k ≠ c → s.on (F.THM_TXLIM_EN k) = false) →
        (∀ n, s.on (F.STR_CTRL_LDTXEN n) = false) → s.txFlag c 1 = false →
        (thermBad (vget v c) = false → s.txFlag c 2 = true → s.txFlag c 3 = true → Runs (.txSample v) s (fun t =>
          t.gi (F.THM_TX_TEMP c) = thermTemp (vget v c) (s.g (F.THM_TXCFG_BETA c)) (s.g (F.THM_TXCFG_RNOM c)) ∧ t.txFlag c 0 = false
            ∧ t = { s with regs := t.regs, thm := t.thm } ∧ s.regsKept t [(.THM, 0)]))
        ∧ (thermBad (vget v c) = true → s.txFlag c 3 = false → Runs (.txSample v) s (fun t => t.txFlag c 0 = true ∧ t.txFlag c 3 = true ∧ t.reported 7 8 c
            ∧ (∀ k i, k < 8 → i < 4 → k ≠ c → t.txFlag k i = s.txFlag k i) ∧ t = { s.noted t with thm := t.thm } ∧ s.regsKept t [(.THM, 0), (.FCL, 0), (.TCE, 0)])))
    ∧ (∀ p a b x, s.pairOf p = some (a, b) → s.pairOff p = true → vget s.thm.pairSince p = some x → x + 1000 * msTicks ≤ s.aon →
        (p < 8 → ∀ c, c = (if a < b then p else s.g (F.THM_TXLIM_PAIR p)) → Runs (.thmPair p) s (fun t => t.txFlag c 1 = true ∧ t.reported 7 4 c
          ∧ (∀ k, k < 8 → k ≠ c → t.txFlag k 1 = s.txFlag k 1) ∧ t = { s.noted t with thm := t.thm } ∧ s.regsKept t [(.THM, 0), (.FCL, 0), (.TCE, 0)]))
        ∧ (8 ≤ p → Runs (.thmPair p) s (fun t => t.g F.THM_PAIRCFG_FUSBRK = setBit (s.g F.THM_PAIRCFG_FUSBRK) (2 * (p - 8) + (if a < b then 0 else 1)) true
          ∧ (∃ d, t.reported 7 4 d) ∧ t = { s.noted t with thm := t.thm, free := t.free } ∧ s.regsKept t [(.THM, 0), (.FCL, 0), (.TCE, 0)])))

/-- Steps of a PSQ program (R310 to R313, R318 to R320): each step that does not wait goes on to the next, a jump to its target; EN and DIS drive and release
one rail's enable; WAIT and WAITPG wait unless their rail was not in the starting set, and end as they say; a WAITPG that fails is a rail failure, or
PSQ_DISCHARGE in a shutdown; and SYNC completes at once standalone, else in step with the others or as a failure. In part this rests on choices of the model:
log 57. -/
def Obligations.SupplySteps : Prop :=
  ∀ (s : State), s.plain → s.psqState = 1 → s.psq.vinAt = none → s.g F.PSQ_STAT_PEND ≠ 2 → s.psq.noWait + 1 < 1024 →
    let pc := s.psqPc
    let w := s.word .PSQ_PROG 0 pc
    let next := (pc + 1) % 256
    let only := fun (t : State) => t = { s with regs := t.regs, psq := t.psq } ∧ s.regsKept t [(.PSQ, 0)]
    let at_ := fun (p : Nat) (t : State) => t.psqPc = p ∧ t.psqState = 1 ∧ t.psq.wait = none ∧ t.psqProg = s.psqProg
    let rails := fun (t : State) => t.g F.PSQ_ENSTAT_RAILS = s.g F.PSQ_ENSTAT_RAILS
    let goes := fun (p : Nat) (t : State) => at_ p t ∧ rails t ∧ only t
    let waits := fun (x : PsqWait) (t : State) => t.psq.wait = some x ∧ t.psqPc = pc ∧ t.psqState = 1 ∧ rails t ∧ t = { s with psq := t.psq }
    let failure := fun (cause : Nat) (t : State) => t.psqState = 3 ∧ t.psqProg = 0 ∧ t.g F.PSQ_CAUSE_FCAUSE = cause ∧ t.g F.PSQ_CAUSE_FSTEP = pc ∧ rails t
      ∧ t.on F.FCL_STAT_KETTLE = true
    (s.psq.wait = none →
        (10 * 2 ^ 28 ≤ w → s.g F.PSQ_STAT_PEND = 0 → s.psqProg ≠ 3 → Runs .halt s (fun t => t.psqProg = 0 ∧ t.psqState = (if s.psqProg = 2 then 0 else 2)
            ∧ (∃ d, t.reported 8 5 d) ∧ rails t ∧ t = { s.noted t with psq := t.psq, free := t.free } ∧ s.regsKept t [(.PSQ, 0), (.FCL, 0), (.TCE, 0)]))
        ∧ (w = 0 → s.g F.PSQ_STAT_PEND = 0 →
            ((s.psqProg = 1 ∨ s.psqProg = 4 ∨ s.psqProg = 5) → Runs .halt s (fun t => t.psqState = 2 ∧ t.psqProg = 0 ∧ rails t ∧ only t))
            ∧ (s.psqProg = 2 → Runs .halt s (fun t => t.psqState = 0 ∧ t.psqProg = 0 ∧ rails t ∧ only t))
            ∧ (s.psqProg = 3 → (s.psq.sleepReq = 1 ∨ s.psq.sleepReq = 2) → Runs .halt s (fun t => t.psqState = 0 ∧ t.psq.asleep = s.psq.sleepReq ∧ t.psq.sleepAt = s.aon ∧ rails t
              ∧ (∀ n, n < s.blockCount .SYN → t.synState n = syOFF) ∧ t.on F.CORD_STAT_RUN = false
              ∧ (∀ a, (s.psq.sleepReq = 1 ∨ a < mirrorBase ∨ localBase ≤ a) → t.rd a 1 = s.rd a 1) ∧ t.fram = s.fram ∧ t.claims = s.claims)))
        ∧ (w = 0 → s.g F.PSQ_STAT_PEND = 1 → (s.psqProg = 2 ∨ s.psqProg = 3) → (∀ x, s.psq.offAt = some x → x + 50 * msTicks ≤ s.aon) → Runs .halt s (fun t =>
            t.psqState = 1 ∧ t.psqProg = 1 ∧ t.psqPc = s.g F.PSQ_ENTRY_UP ∧ t.g F.PSQ_STAT_PEND = 0 ∧ rails t ∧ only t))
        ∧ (∀ r ack, w = 0x10000000 + r → r < 24 →
            let enabled := fun (t : State) => at_ next t ∧ t.railOn r = true ∧ ∀ j, j ≠ r → t.railOn j = s.railOn j
            let told := fun (code : Nat) (t : State) => enabled t ∧ t.reported 8 code r ∧ t = { s.noted t with psq := t.psq } ∧ s.regsKept t [(.PSQ, 0), (.FCL, 0), (.TCE, 0)]
            let acked := s.on (F.PSQ_RAILCFG_PMEN r) = false ∨ ack = true
            let early := s.railGood r = true ∧ s.railOn r = false
            (¬ early → acked → Runs (.en ack) s (fun t => enabled t ∧ only t)) ∧ (early → acked → Runs (.en ack) s (told 7)) ∧ (¬ early → ¬ acked → Runs (.en ack) s (told 8)))
        ∧ (∀ r ack, w = 0x20000000 + r → r < 24 →
            let released := fun (t : State) => at_ next t ∧ t.railOn r = false ∧ (∀ j, j ≠ r → t.railOn j = s.railOn j) ∧ (s.railOn r = true → t.psq.offAt = some s.aon)
            let acked := s.on (F.PSQ_RAILCFG_PMEN r) = false ∨ s.railOn r = false ∨ ack = true
            let free := s.on (F.PSQ_RAILCFG_DEV r) = false ∨ s.psq.flushed = true
            (free → acked → Runs (.dis ack) s (fun t => released t ∧ only t))
            ∧ (free → ¬ acked → Runs (.dis ack) s (fun t => released t ∧ t.reported 8 8 r ∧ t = { s.noted t with psq := t.psq }
                ∧ s.regsKept t [(.PSQ, 0), (.FCL, 0), (.TCE, 0)]))
            ∧ (¬ free → s.g F.JRN_STAT_STATE = 1 → 0 < s.jrn.queue.length → Runs (.dis ack) s (fun t => rails t ∧ t.psqPc = pc ∧ t.on F.JRN_STAT_FLUSHED = false
                ∧ t.psq.wait = some (.flush (some (s.aon + s.g F.PSQ_PGCFG_FAILHOLD * 10 * usTicks))) ∧ t = { s with regs := t.regs, psq := t.psq, jrn := t.jrn }
                ∧ s.regsKept t [(.JRN, 0)]))
            ∧ (¬ free → s.g F.JRN_STAT_STATE ≠ 1 → acked → Runs (.dis ack) s (fun t => released t ∧ only t)))
        ∧ (∀ n r, w = 0x30000000 + 256 * n + r → n < 2 ^ 20 → (r = 31 ∨ r < 24) →
            ((r = 31 ∨ bit s.psq.starting r = true) → Runs .wait s (waits (.until (s.aon + n * 10 * usTicks))))
            ∧ (r < 24 → bit s.psq.starting r = false → Runs .wait s (goes next)))
        ∧ (∀ (good : Bool) dwell limit r, w = 0x40000000 + 2 ^ 27 * good.toNat + 2 ^ 16 * dwell + 256 * limit + r → dwell < 256 → 1 ≤ limit → limit < 256 → r < 24 →
            ((good = true ∨ bit s.psq.starting r = true) → Runs .waitpg s (waits (.pg r good (dwell * 100 * usTicks) (s.aon + limit * msTicks))))
            ∧ (good = false → bit s.psq.starting r = false → Runs .waitpg s (goes next)))
        ∧ (∀ r, (w = 0x50000000 + r → r < 24 → Runs .check s (fun t => t.on F.PSQ_STAT_FLAG = s.railGood r ∧ goes next t))
            ∧ (w = 0x51000000 + r → r < 32 → Runs .check s (fun t => (t.on F.PSQ_STAT_FLAG = true ↔ s.g F.PSQ_VIN_THRESH < s.psq.vin) ∧ goes next t))
            ∧ (w = 0x52000000 + r → r < 32 → Runs .check s (fun t => (t.on F.PSQ_STAT_FLAG = true ↔ s.gi F.THM_STAT_HOTTEMP < 100 * s.g F.THM_LEVELS_WARN) ∧ goes next t))
            ∧ (w = 0x53000000 + r → r < 8 → Runs .check s (fun t => t.on F.PSQ_STAT_FLAG = bit (s.g F.PSQ_CTRL_USER) r ∧ goes next t)))
        ∧ (∀ target, target < 256 → (w = 0x60000000 + target → Runs .jmp s (goes target))
            ∧ ∀ (sense : Bool), w = 0x70000000 + 256 * sense.toNat + target → Runs .jmpif s (goes (if s.on F.PSQ_STAT_FLAG = sense then target else next)))
        ∧ (∀ n, w = 0x80000000 + n → 1 ≤ n → n < 256 →
            (s.coop = 0 → Runs .sync s (goes next))
            ∧ (s.coop ≠ 0 → n = s.g F.PSQ_STAT_SYNCST + 1 → Runs .sync s (waits (.sync n (s.aon + s.g F.PSQ_COOP_SYNCTO * msTicks))))
            ∧ (s.coop ≠ 0 → n ≠ s.g F.PSQ_STAT_SYNCST + 1 → Runs .sync s (fun t => failure 4 t ∧ ∃ d, t.reported 8 3 d)))
        ∧ (∀ r (dir path : Bool) pct linear ack, w = 0x90000000 + 2 ^ 13 * path.toNat + 2 ^ 12 * dir.toNat + 2 ^ 8 * pct + r → r < 24 → pct ≤ 10 →
            s.marginBad r path pct = false →
            let barred := pct ≠ 0 ∧ s.on (F.PSQ_RAILCFG_DEV r) = true ∧ s.lifecycle ≠ lcMAKER ∧ s.lifecycle ≠ lcRETURNED
            let deaf := path = true ∧ ¬(linear = true ∧ ack = true)
            let told := fun (code : Nat) (t : State) => at_ next t ∧ rails t ∧ t.reported 8 code r ∧ t.word .PSQ_MRG 0 (r / 4) = s.word .PSQ_MRG 0 (r / 4)
            (¬ barred → ¬ deaf → Runs (.margin linear ack) s (fun t =>
              bits (t.word .PSQ_MRG 0 (r / 4)) (8 * (r % 4) + 7) (8 * (r % 4)) = (if pct = 0 then 0 else 0x80 + 0x40 * dir.toNat + 0x20 * path.toNat + pct) ∧ goes next t))
            ∧ (barred → Runs (.margin linear ack) s (told 9)) ∧ (¬ barred → deaf → Runs (.margin linear ack) s (told 8))))
    ∧ (∀ x, s.psq.wait = some (.until x) → x ≤ s.aon → Runs .psqWaitDone s (goes next))
    ∧ (∀ r good dwell limit, s.psq.wait = some (.pg r good dwell limit) → r < 24 →
        (s.railGood r = good → vget s.psq.pgAt r + dwell ≤ s.aon → Runs .waitpgDone s (goes next))
        ∧ ((s.g F.PSQ_PGCFG_CHATMAX < s.psq.trans ∨ limit ≤ s.aon) →
            ((good = true ∨ s.psqProg ≠ 2 ∧ s.psqProg ≠ 3) → Runs .waitpgFail s (fun t => failure (if s.g F.PSQ_PGCFG_CHATMAX < s.psq.trans then 2 else 1) t ∧ t.g F.PSQ_CAUSE_FRAIL = r ∧ t.reported 8 1 r))
            ∧ (good = false → (s.psqProg = 2 ∨ s.psqProg = 3) → Runs .waitpgFail s (fun t => at_ next t ∧ rails t ∧ t.reported 8 6 r ∧ t = { s.noted t with psq := t.psq }
                ∧ s.regsKept t [(.PSQ, 0), (.FCL, 0), (.TCE, 0)]))))
    ∧ (∀ n limit, s.psq.wait = some (.sync n limit) → n < 256 →
        (∀ line, (s.coop = 3 ∧ line = true ∨ s.coop = 1 ∧ s.slavesAt n = true ∨ s.coop = 2 ∧ s.psq.passed = some n) → Runs (.syncDone line) s (fun t => t.g F.PSQ_STAT_SYNCST = n ∧ t.psq.highUntil = s.aon + 10 * usTicks ∧ goes next t))
        ∧ (limit ≤ s.aon → Runs .psqSync s (fun t => failure 4 t ∧ ∃ d, t.reported 8 3 d)))

/-- Power-good, failures, VIN and wake (R307, R313 to R316, R323): a change of power-good is recorded, and an enabled rail that goes off is a rail failure; a
failure shutdown releases the enables in the reverse of their order into FAILED; a fall of VIN enters the kettle state and then releases every enable; the
return of VIN, a WAKE edge and the alarm start WAKE, at least 50 ms after the last release. In part this rests on choices of the model: log 42 and 57. -/
def Obligations.SupplyFailures : Prop :=
  ∀ (s : State), s.plain →
    let st := s.psqState
    let only := fun (t : State) => t = { s with regs := t.regs, psq := t.psq } ∧ s.regsKept t [(.PSQ, 0)]
    let begun := fun (prog entry : Nat) (t : State) => t.psqState = 1 ∧ t.psqProg = prog ∧ t.psqPc = entry ∧ t.psq.starting = s.g F.PSQ_ENSTAT_RAILS ∧ only t
    let later := fun (prog : Nat) (t : State) => t.psqState = 5 ∧ t.psq.next = prog ∧ only t
    let rested := ∀ x, s.psq.offAt = some x → x + 50 * msTicks ≤ s.aon
    let early := ∃ x, s.psq.offAt = some x ∧ s.aon < x + 50 * msTicks
    (∀ r (good : Bool), r < 24 → s.railGood r ≠ good →
        ((good = true ∨ s.railOn r = false) → Runs (.pgChange r good) s (fun t => t.railGood r = good ∧ (∀ j, j ≠ r → t.railGood j = s.railGood j)
          ∧ vget t.psq.pgAt r = s.aon ∧ t.g F.PSQ_ENSTAT_RAILS = s.g F.PSQ_ENSTAT_RAILS ∧ only t))
        ∧ (∀ lv d l, s.psq.wait = some (.pg r lv d l) → Runs (.pgChange r good) s (fun t => t.railGood r = good ∧ t.psq.trans = s.psq.trans + 1 ∧ t.psq.wait = s.psq.wait
            ∧ t.psqState = st ∧ only t))
        ∧ (good = false → s.railOn r = true → (∀ lv d l, s.psq.wait ≠ some (.pg r lv d l)) → s.psq.vinAt = none → st ≠ 3 → st ≠ 4 → st ≠ 6 → Runs (.pgChange r good) s (fun t => t.railGood r = false ∧ t.psqState = 3
            ∧ t.g F.PSQ_CAUSE_FCAUSE = 3 ∧ t.g F.PSQ_CAUSE_FRAIL = r ∧ t.g F.PSQ_CAUSE_FSTEP = s.psqPc ∧ t.reported 8 1 r ∧ t.on F.FCL_STAT_KETTLE = true)))
    ∧ (st = 3 → s.coop = 0 →
        (∀ l r, s.psq.order = l ++ [r] → l.contains r = false → r < 24 → s.railOn r = true →
            let released := fun (t : State) => t.railOn r = false ∧ (∀ j, j ≠ r → t.railOn j = s.railOn j) ∧ t.psq.order = l ∧ t.psqState = (if l = [] then 4 else 3) ∧ only t
            (∀ x acks, s.psq.failHold = some x → s.psq.lastRel = none → (s.flushing = false ∨ x ≤ s.aon) → Runs (.failholdExpire acks) s released)
            ∧ (∀ x, s.psq.lastRel = some x → x + s.g F.PSQ_PGCFG_FAILGAP * msTicks ≤ s.aon → Runs .failgapRelease s released))
        ∧ (∀ x acks, s.psq.order = [] → s.psq.failHold = some x → s.psq.lastRel = none → x ≤ s.aon → Runs (.failholdExpire acks) s (fun t => t.psqState = 4 ∧ only t)))
    ∧ (∀ mv, s.psq.vinAt = none → st < 6 → s.psq.upWaits = false →
        (mv < s.g F.PSQ_VIN_THRESH → s.psq.asleep = 1 → Runs (.psqVin mv) s (fun t => t.psqState = 6 ∧ t.psq.vinAt = none ∧ t.psq.asleep = 1 ∧ only t))
        ∧ (mv < s.g F.PSQ_VIN_THRESH → s.psq.asleep = 2 → Runs (.psqVin mv) s (fun t => t = { s with psq := { s.psq with vin := mv } }))
        ∧ (mv < s.g F.PSQ_VIN_THRESH → s.psq.asleep = 0 → Runs (.psqVin mv) s (fun t => t.psq.vinAt = some s.aon ∧ t.psqProg = 0 ∧ t.g F.PSQ_CAUSE_FCAUSE = 6 ∧ (∃ d, t.reported 8 2 d)
          ∧ t.g F.PSQ_ENSTAT_RAILS = s.g F.PSQ_ENSTAT_RAILS ∧ t.on F.FCL_STAT_KETTLE = true))
        ∧ (s.g F.PSQ_VIN_THRESH ≤ mv → Runs (.psqVin mv) s (fun t => t = { s with psq := { s.psq with vin := mv } })))
    ∧ (∀ x, s.psq.vinAt = some x → (s.flushing = false ∨ x + s.g F.PSQ_VIN_VINHOLD * 10 * usTicks ≤ s.aon) → Runs .vinholdExpire s (fun t => t.psqState = 6
        ∧ (∀ r, r ∈ s.psq.order → r < 24 → t.railOn r = false) ∧ t.psq.offAt = some s.aon ∧ only t))
    ∧ (∀ mv, s.g F.PSQ_VIN_THRESH + s.g F.PSQ_VIN_HYST < mv →
        let restarts := s.on F.PSQ_CTRL_AUTORESTART = true ∨ s.psq.asleep = 1
        (st = 6 → s.psq.upWaits = false → restarts → rested → Runs (.vinRecovery mv) s (fun t => t.g F.PSQ_CAUSE_WAKE = 3 ∧ t.psq.asleep = 0 ∧ begun 4 (s.g F.PSQ_ENTRY_WAKE) t))
        ∧ (st = 6 → s.psq.upWaits = false → restarts → early → Runs (.vinRecovery mv) s (fun t => t.g F.PSQ_CAUSE_WAKE = 3 ∧ later 4 t))
        ∧ (st = 6 → s.psq.upWaits = false → ¬ restarts → Runs (.vinRecovery mv) s (fun t => t.psqState = 0 ∧ only t))
        ∧ (s.psq.upWaits = true → rested → Runs (.vinRecovery mv) s (fun t => t.psq.upWaits = false ∧ begun 1 (s.g F.PSQ_ENTRY_UP) t))
        ∧ (s.psq.upWaits = false → st ≠ 6 → Runs (.vinRecovery mv) s (fun t => t = { s with psq := { s.psq with vin := mv } })))
    ∧ (st = 5 → rested → (s.psq.next = 0 → Runs .minoffEnd s (fun t => t.psqState = 0 ∧ only t)) ∧ (s.psq.next = 1 → Runs .minoffEnd s (begun 1 (s.g F.PSQ_ENTRY_UP)))
        ∧ (s.psq.next = 4 → Runs .minoffEnd s (begun 4 (s.g F.PSQ_ENTRY_WAKE))))
    ∧ (st = 5 → early → Runs .minoffEnd s (fun t => t = s))
    ∧ (s.psq.asleep < 2 → (st = 4 ∨ st = 0) → (rested → Runs .wakeEdge s (fun t => t.g F.PSQ_CAUSE_WAKE = 1 ∧ t.psq.asleep = 0 ∧ begun 4 (s.g F.PSQ_ENTRY_WAKE) t))
        ∧ (early → Runs .wakeEdge s (fun t => t.g F.PSQ_CAUSE_WAKE = 1 ∧ later 4 t)))
    ∧ (s.psq.asleep = 1 → st = 0 → s.on F.PSQ_WAKE_ALARMEN = true → s.psq.sleepAt + s.g F.PSQ_WAKE_ALARM * 1000 * msTicks ≤ s.aon → rested → Runs .wakeAlarm s (fun t =>
        t.g F.PSQ_CAUSE_WAKE = 2 ∧ t.psq.asleep = 0 ∧ begun 4 (s.g F.PSQ_ENTRY_WAKE) t))

/-- Commands and the PMBus (R310, R314, R317, R319, R320, R322 to R324): with the key ON starts UP, OFF starts DOWN or pends, RUNAT starts at its target,
CLEAR leaves FAILED; IDLE and RUN move between the power states, SLEEP and SHELF start SLEEP where the engine rests; a margin is set; any of them out of
place, or without the key, is PSQ_CMD; a slave takes its state and requests from its master, which reads its slaves and fails with a failed one. In part this
rests on choices of the model: log 57. -/
def Obligations.SupplyCommands : Prop :=
  ∀ (s : State) (q : Requester) (v : Nat), s.plain → s.present q →
    let st := s.psqState
    let only := fun (t : State) => t = { s with regs := t.regs, psq := t.psq } ∧ s.regsKept t [(.PSQ, 0)]
    let begun := fun (prog entry : Nat) (t : State) => t.psqState = 1 ∧ t.psqProg = prog ∧ t.psqPc = entry ∧ t.psq.starting = s.g F.PSQ_ENSTAT_RAILS ∧ t.psq.wait = none ∧ only t
    let refused := fun (t : State) => (∃ d, t.reported 8 9 d) ∧ t.psq = s.psq ∧ t = { s.noted t with free := t.free } ∧ s.regsKept t [(.FCL, 0), (.TCE, 0)]
    let rested := ∀ x, s.psq.offAt = some x → x + 50 * msTicks ≤ s.aon
    let ready := s.mayIdle = true ∧ s.anyLive = false ∧ st = 2
    let asleep := fun (kind : Nat) (t : State) => t.psqState = 1 ∧ t.psqProg = 3 ∧ t.psqPc = s.g F.PSQ_ENTRY_SLEEP ∧ t.psq.sleepReq = kind ∧ t.psq.wait = some (.flush none)
      ∧ t.memChans = 0 ∧ (∀ a, a < pageBase → t.rd a 1 = s.rd a 1) ∧ (∀ a, pageBase ≤ a → t.rd a 1 = 0) ∧ s.regsKept t [(.PSQ, 0), (.JRN, 0)]
    (bits v 27 20 ≠ 0xA6 → ∀ c, c ∈ [Instr.on q v, .off q v, .runat q v, .clear q v, .idle q v, .run q v, .sleep q v, .shelf q v] → Runs c s refused)
    ∧ (bits v 27 20 = 0xA6 →
        (s.coop ≠ 2 → s.psq.vinAt = none →
            (st = 0 → rested → Runs (.on q v) s (begun 1 (s.g F.PSQ_ENTRY_UP)))
            ∧ (st = 1 → (s.psqProg = 2 ∨ s.psqProg = 3) → Runs (.on q v) s (fun t => t.g F.PSQ_STAT_PEND = 1 ∧ t.psqState = 1 ∧ t.psqPc = s.psqPc ∧ t.psq = s.psq ∧ only t))
            ∧ (st = 2 → Runs (.on q v) s (fun t => t = s) ∧ Runs (.off q v) s (begun 2 (s.g F.PSQ_ENTRY_DOWN)))
            ∧ (st = 1 → (s.psqProg = 1 ∨ s.psqProg = 4 ∨ s.psqProg = 5) → s.psq.wait ≠ none → Runs (.off q v) s (fun t => t.g F.PSQ_STAT_PEND = 2 ∧ t.psqState = 1
                ∧ t.psqPc = s.psqPc ∧ t.psq = s.psq ∧ only t))
            ∧ ((st = 4 ∨ st = 6) → Runs (.on q v) s refused ∧ Runs (.off q v) s refused))
        ∧ (s.coop = 2 → Runs (.on q v) s refused ∧ Runs (.off q v) s refused)
        ∧ (st = 2 → Runs (.runat q v) s (begun 5 (bits v 7 0))) ∧ (st ≠ 2 → Runs (.runat q v) s refused)
        ∧ (st = 4 → Runs (.clear q v) s (fun t => t.psqState = 5 ∧ t.psq.next = 0 ∧ only t)) ∧ (st ≠ 4 → Runs (.clear q v) s refused)
        ∧ (s.mayIdle = true → s.g F.PSQ_STAT_PSTATE = 0 → Runs (.idle q v) s (fun t => t.g F.PSQ_STAT_PSTATE = 1 ∧ t.selfRefresh = true ∧ t.ga (F.SYN_DIV_CORE 0) = 1
            ∧ t.psq.idleDiv = s.ga (F.SYN_DIV_CORE 0) ∧ t = { s with regs := t.regs, psq := t.psq, selfRefresh := true } ∧ s.regsKept t [(.PSQ, 0), (.SYN, 0)]))
        ∧ (s.mayIdle = true → s.g F.PSQ_STAT_PSTATE = 1 → Runs (.idle q v) s (fun t => t = s))
        ∧ (s.g F.PSQ_STAT_PSTATE ≠ 1 → Runs (.run q v) s (fun t => t = s))
        ∧ (s.mayIdle = false → Runs (.idle q v) s refused ∧ Runs (.sleep q v) s refused ∧ Runs (.shelf q v) s refused)
        ∧ (s.g F.PSQ_STAT_PSTATE = 1 → s.psq.idleDiv < 4 → Runs (.run q v) s (fun t => t.g F.PSQ_STAT_PSTATE = 0 ∧ t.selfRefresh = false ∧ t.ga (F.SYN_DIV_CORE 0) = s.psq.idleDiv
            ∧ t = { s with regs := t.regs, selfRefresh := false } ∧ s.regsKept t [(.PSQ, 0), (.SYN, 0)]))
        ∧ (ready → Runs (.sleep q v) s (asleep 1) ∧ Runs (.shelf q v) s (asleep 2))
        ∧ ∀ linear ack r, r = bits v 19 15 → r < 24 → bit v 14 = false → s.marginBad r false (bits v 12 9) = false → s.on (F.PSQ_RAILCFG_DEV r) = false →
            Runs (.psqCmdMargin q v linear ack) s (fun t => bits (t.word .PSQ_MRG 0 (r / 4)) (8 * (r % 4) + 7) (8 * (r % 4))
              = (if bits v 12 9 = 0 then 0 else 0x80 + 0x40 * bits v 13 13 + bits v 12 9) ∧ t = { s with regs := t.regs } ∧ s.regsKept t [(.PSQ, 0)]))
    ∧ (s.coop = 2 → (∀ n, n < 256 → Runs (.psqState n true) s (fun t => t = { s with psq := { s.psq with passed := some n } }))
        ∧ (∀ k w, Runs (.psqReached k w) s (fun t => t = { s with busData := some (.hw, s.reachedWord) }))
        ∧ (st = 0 → rested → s.psq.vinAt = none → Runs (.psqRequest 1 true) s (begun 1 (s.g F.PSQ_ENTRY_UP)))
        ∧ (st = 2 → s.psq.vinAt = none → Runs (.psqRequest 2 true) s (begun 2 (s.g F.PSQ_ENTRY_DOWN))))
    ∧ (s.coop = 1 →
        (∀ n, Runs (.psqState n false) s (fun t => (∃ d, t.reported 8 8 d) ∧ t.psq = s.psq) ∧ Runs (.psqRequest n false) s (fun t => (∃ d, t.reported 8 8 d) ∧ t.psq = s.psq))
        ∧ (∀ k w, k < 8 → s.on (F.PSQ_SLAVE_EN k) = true → w < 2 ^ 16 →
            (bit w 8 = false → Runs (.psqReached k (some w)) s (fun t => vget t.psq.reached k = w ∧ t = { s with psq := t.psq }))
            ∧ (bit w 8 = true → st = 2 → s.psq.vinAt = none → Runs (.psqReached k (some w)) s (fun t => t.psqState = 3 ∧ t.g F.PSQ_CAUSE_FCAUSE = 5 ∧ (∃ d, t.reported 8 4 d)
                ∧ t.on F.FCL_STAT_KETTLE = true)))
        ∧ (∀ ws : Vector (Option Nat) 8, st = 2 → s.psq.wait = none → s.psq.polledAt + msTicks ≤ s.aon → (∀ k, k < 8 → ∃ w, vget ws k = some w ∧ w < 2 ^ 16 ∧ bit w 8 = false) →
            Runs (.pmbusPoll ws) s (fun t => t.psq.polledAt = s.aon ∧ (∀ k, k < 8 → s.on (F.PSQ_SLAVE_EN k) = true → vget ws k = some (vget t.psq.reached k))
              ∧ t = { s with psq := t.psq })))

/-- Commands of OTP (R375, R377 to R379): without the key, or while a command runs, nothing is done; a PROGRAM of a locked region, in a lifecycle state that
does not permit it, of a word that is not blank or a killed slot, or outside the programming window is refused by name, and so are a LOCK and a REPAIR that
may not run; any other starts its burn. In part this rests on choices of the model: log 58. -/
def Obligations.FuseCommands : Prop :=
  ∀ (s : State) (q : Requester) (key votp : Nat), s.plain → s.present q → key < 256 → votp < 2 ^ 11 →
    let a := s.g F.OTP_PADDR_ADDR
    let v := s.g F.OTP_PDATA_D
    let window := 1740 ≤ votp ∧ votp ≤ 1860 ∧ ∀ k, k < 32 → 0 ≤ s.gi (F.THM_TS_VALUE k) ∧ s.gi (F.THM_TS_VALUE k) ≤ 8500
    let waiting := s.on F.OTP_STAT_BUSY = false ∧ s.on F.LCS_STATE_BUSY = false
    let shows := fun (t : State) => t.g F.OTP_STAT_VOTP = votp ∧ (t.on F.OTP_STAT_WINOK = true ↔ window)
    let noted := fun (t : State) => shows t ∧ t = s.noted t ∧ s.regsKept t [(.OTP, 0), (.FCL, 0), (.TCE, 0)]
    let refused := fun (code detail addr : Nat) (t : State) => t.reported 9 code detail ∧ t.on F.OTP_PSTAT_DONE = true ∧ t.on F.OTP_PSTAT_OK = false
      ∧ t.g F.OTP_PSTAT_CODE = code ∧ t.g F.OTP_PSTAT_ADDR = addr ∧ noted t
    let burns := fun (b : Burn) (t : State) => t.otp = { s.otp with burn := some b } ∧ t.on F.OTP_STAT_BUSY = true ∧ t.word .OTP_PSTAT 0 0 = 0 ∧ shows t
      ∧ t = { s with regs := t.regs, otp := t.otp } ∧ s.regsKept t [(.OTP, 0)]
    ((key ≠ 0xB7 ∨ ¬ waiting) → ∀ region, ∀ c ∈ [Instr.program q key votp, .lock q key region votp, .repair q key votp],
        Runs c s (fun t => t.reported 9 0xF8 q.detail ∧ noted t))
    ∧ (key = 0xB7 → waiting →
        (s.otpLocked a = true → openWord a = false → Runs (.program q key votp) s (refused 8 (otpRegion a) a))
        ∧ ((s.otpLocked a = false ∨ openWord a = true) →
            let used := (bitWise a = false ∧ s.fuse a ≠ 0) ∨ (isCk a = true ∧ s.ckKilled ((a - 0x88) / 8) = true)
            (otpPermits a s.lifecycle = false → Runs (.program q key votp) s (refused 0xB (otpRegion a) a))
            ∧ (otpPermits a s.lifecycle = true → used → Runs (.program q key votp) s (refused 7 1 a))
            ∧ (otpPermits a s.lifecycle = true → ¬ used → ¬ window → Runs (.program q key votp) s (refused 6 1 a))
            ∧ (otpPermits a s.lifecycle = true → ¬ used → window → Runs (.program q key votp) s (burns { words := [(a, v)], addr := a })))
        ∧ (∀ region, region < 8 →
            let r := lockRange region
            let d := s.otpDigest region
            (5 ≤ region → Runs (.lock q key region votp) s (fun t => t.reported 9 0xF2 q.detail ∧ noted t))
            ∧ (region < 5 → otpPermits r.2.2 s.lifecycle = false → Runs (.lock q key region votp) s (refused 0xB (lockRegion region) r.2.2))
            ∧ (region < 5 → otpPermits r.2.2 s.lifecycle = true →
                (s.lockBlank region = true → Runs (.lock q key region votp) s (refused 9 (lockRegion region) r.2.2))
                ∧ (s.lockBlank region = false → s.digestWords region ≠ d → s.digestWords region ≠ List.replicate 8 0 → Runs (.lock q key region votp) s (refused 7 3 r.2.2))
                ∧ (s.lockBlank region = false → (s.digestWords region = d ∨ s.digestWords region = List.replicate 8 0) → ¬ window →
                    Runs (.lock q key region votp) s (refused 6 1 r.2.2))
                ∧ (s.lockBlank region = false → s.digestWords region = List.replicate 8 0 → d ≠ List.replicate 8 0 → window → Runs (.lock q key region votp) s
                    (burns { words := [(r.2.2, leNat (d.take 4)), (r.2.2 + 1, leNat (d.drop 4)), (0x41, 2 ^ region)], addr := 0x41 }))
                ∧ (s.lockBlank region = false → s.digestWords region = d → window → Runs (.lock q key region votp) s
                    (burns { words := [(0x41, 2 ^ region)], addr := 0x41 }))))
        ∧ (s.g F.OTP_STAT_SPARES = 0 → Runs (.repair q key votp) s (refused 7 2 a))
        ∧ (s.g F.OTP_STAT_SPARES ≠ 0 → ¬ window → Runs (.repair q key votp) s (refused 6 1 a))
        ∧ (s.g F.OTP_STAT_SPARES ≠ 0 → window →
            ((∀ x ∈ s.otp.half, x.1 ≠ a) → Runs (.repair q key votp) s (burns { words := [(a, s.fuse a)], repair := true, addr := a }))
            ∧ (∀ w, (a, w) ∈ s.otp.half → (∀ x ∈ s.otp.half, x.1 = a → x.2 = w) → Runs (.repair q key votp) s (burns { words := [(a, w)], repair := true, addr := a }))))

/-- The array (R365, R370, R372 to R374, R376, R377, R384, R385, R400): a read fills the shadow and names marginal, uncorrectable and mismatched words; a
scrub starts after 30 C and names what has drifted; a burn sets fuses and clears none, the shadow follows, and its last word ends the command: with a warm
reset where it was a transition; a word that fails goes to a spare, or ends in OTP_PROG; a lost window ends in OTP_WINDOW; and every millisecond each domain's
oscillator is counted. In part this rests on choices of the model: log 1 and 58. -/
def Obligations.FuseArray : Prop :=
  ∀ (s : State), s.plain →
    let temp := s.gi F.THM_STAT_HOTTEMP
    let only := fun (t : State) => t = { s with regs := t.regs, otp := t.otp } ∧ s.regsKept t [(.OTP, 0)]
    let noted := fun (t : State) => t = { s.noted t with otp := t.otp } ∧ s.regsKept t [(.OTP, 0), (.FCL, 0), (.TCE, 0)]
    let readOtp : Otp := { s.otp with read := true, shadow := s.otp.array, marg := [], bad := [], lastTemp := temp }
    let listed := fun (a i : Nat) (t : State) => if i % 2 = 0 then t.g (F.OTP_MLIST_AL (i / 2)) = a ∧ t.on (F.OTP_MLIST_VL (i / 2)) = true
      else t.g (F.OTP_MLIST_AH (i / 2)) = a ∧ t.on (F.OTP_MLIST_VH (i / 2)) = true
    let sameBut := fun (a : Nat) (t : State) => ∀ x, x ≠ a → (x ≠ otpTwin a ∨ bitWise a = false) → t.fuse x = s.fuse x
    let ended := fun (t : State) => t.otp.burn = none ∧ t.on F.OTP_STAT_BUSY = false
    let failed := fun (code detail a : Nat) (t : State) => ended t ∧ t.reported 9 code detail ∧ t.on F.OTP_PSTAT_DONE = true ∧ t.on F.OTP_PSTAT_OK = false ∧ t.g F.OTP_PSTAT_ADDR = a
      ∧ sameBut a t
    (s.otp.read = false → ∀ marg corr bad, Runs (.otpArrayRead marg corr bad) s (fun t => t.otp.read = true ∧ t.otp.array = s.otp.array ∧ t.otp.lastTemp = temp
        ∧ t.otp.marg = marg.filter (fun x => x.1 < 2048) ∧ (∀ a, a ∉ bad → t.shadowRaw a = s.fuse a) ∧ (∀ a, a ∈ bad → a < 2048 → bitWise a = false → t.shadowRaw a = 0)
        ∧ (s.otp.sensed = false → t.wires = s.wires)
        ∧ (s.otp.sensed = true → t.wires.l0 = t.otpSafeBits 0x40 ∧ t.g F.LCS_STATE_STATE = lcOf t.wires.l0 ∧ t.g F.LCS_CHIPID_LO_ID = t.otpWord 2)))
    ∧ (s.otp.read = false → s.otp.sensed = false → s.fuse 0x41 = 0 → s.fuse 0x51 = 0 →
        (∀ corr, Runs (.otpArrayRead [] corr []) s (fun t => t.otp = readOtp ∧ t.g F.OTP_STAT_MARGCNT = min (s.g F.OTP_STAT_MARGCNT + corr) 255 ∧ only t))
        ∧ (∀ a b corr, a < 2048 → s.otp.listed < 16 → Runs (.otpArrayRead [(a, b)] corr []) s (fun t => t.otp = { readOtp with marg := [(a, b)], listed := s.otp.listed + 1 }
            ∧ t.g F.OTP_STAT_MARGCNT = min (s.g F.OTP_STAT_MARGCNT + corr + 1) 255 ∧ listed a s.otp.listed t ∧ t.reported 9 1 (otpRegion a) ∧ noted t))
        ∧ (∀ a corr, a < 2048 → bitWise a = false → Runs (.otpArrayRead [] corr [a]) s (fun t => t.otpWord a = 0 ∧ t.otp.bad = [a] ∧ (∀ x, x ≠ a → t.shadowRaw x = s.fuse x)
            ∧ t.otp.array = s.otp.array ∧ t.reported 9 3 (otpRegion a) ∧ noted t)))
    ∧ (∀ r corr, r < 5 → s.otp.read = false → s.otp.sensed = false → s.fuse 0x41 = 2 ^ r → s.fuse 0x51 = 2 ^ r → { s with otp := readOtp }.otpDigest r ≠ { s with otp := readOtp }.digestWords r →
        Runs (.otpArrayRead [] corr []) s (fun t => t.otp = readOtp ∧ bit (t.g F.OTP_STAT_DIGFAIL) r = true ∧ t.reported 9 4 (lockRegion r) ∧ noted t))
    ∧ (s.on F.OTP_STAT_SCRUB = false → s.otp.read = true → 3000 ≤ (temp - s.otp.lastTemp).natAbs → Runs .otpScrub s (fun t => t.on F.OTP_STAT_SCRUB = true
        ∧ t.otp = { s.otp with scrubAt := s.aon } ∧ only t))
    ∧ (s.on F.OTP_STAT_SCRUB = true → s.otp.burn = none → s.otp.scrubAt + 6 * msTicks ≤ s.aon →
        Runs (.otpScrubDone []) s (fun t => t.on F.OTP_STAT_SCRUB = false ∧ t.otp = { s.otp with lastTemp := temp } ∧ only t)
        ∧ (∀ drift, Runs (.otpScrubDone drift) s (fun t => t.on F.OTP_STAT_SCRUB = false ∧ t.otp = { s.otp with lastTemp := temp, listed := t.otp.listed } ∧ noted t))
        ∧ ∀ a, a < 2048 → s.otp.listed < 16 → s.on F.OTP_SCRUB_DRIFT = false → Runs (.otpScrubDone [a]) s (fun t => t.on F.OTP_STAT_SCRUB = false ∧ t.on F.OTP_SCRUB_DRIFT = true
            ∧ t.g F.OTP_SCRUB_FIRST = a ∧ listed a s.otp.listed t ∧ t.reported 9 5 (otpRegion a) ∧ t.otp.shadow = s.otp.shadow ∧ noted t))
    ∧ (∀ b a v rest, s.otp.burn = some b → b.words = (a, v) :: rest → a < 2048 → v < 2 ^ 32 →
        let set := fun (t : State) => t.fuse a = s.fuse a ||| v ∧ (bitWise a = true → t.fuse (otpTwin a) = s.fuse (otpTwin a) ||| v) ∧ t.shadowRaw a = t.fuse a ∧ sameBut a t
        (b.repair = false → rest ≠ [] → ∀ spare, Runs (.otpBurnDone true spare) s (fun t => set t ∧ t.otp.burn = some { b with words := rest }
            ∧ t = { s with otp := t.otp }))
        ∧ (b.repair = false → rest = [] → ∀ spare,
            (b.lcs = 0 → Runs (.otpBurnDone true spare) s (fun t => set t ∧ ended t ∧ t.on F.OTP_PSTAT_DONE = true ∧ t.on F.OTP_PSTAT_OK = true ∧ t.g F.OTP_PSTAT_ADDR = b.addr % 2048 ∧ only t))
            ∧ (b.lcs = 4 → Runs (.otpBurnDone true spare) s (fun t => set t ∧ ended t ∧ t.on F.LCS_STATE_BUSY = false ∧ t.on F.LCS_RESULT_DONE = true ∧ t.on F.LCS_RESULT_OK = true
                ∧ t.on F.LCS_STATE_CONSENT = true ∧ t = { s with regs := t.regs, otp := t.otp } ∧ s.regsKept t [(.OTP, 0), (.LCS, 0)]))
            ∧ (b.lcs ≠ 0 → b.lcs ≠ 4 → Runs (.otpBurnDone true spare) s (fun t => ∃ u, set u ∧ ended u ∧ u.on F.LCS_RESULT_OK = true
                ∧ u = { s with regs := u.regs, otp := u.otp } ∧ s.regsKept u [(.OTP, 0), (.LCS, 0)] ∧ exec .warmReset u = .next t)))
        ∧ (s.g F.OTP_STAT_SPARES ≠ 0 →
            (b.repair = false → bitWise a = true → rest ≠ [] → Runs (.otpBurnDone false true) s (fun t => set t ∧ t.g F.OTP_STAT_SPARES = s.g F.OTP_STAT_SPARES - 1
              ∧ t.otp.burn = some { b with words := rest } ∧ t = { s with regs := t.regs, otp := t.otp, free := t.free } ∧ s.regsKept t [(.OTP, 0)]))
            ∧ (b.repair = true → bitWise a = false → rest = [] → b.lcs = 0 → ∀ spare, Runs (.otpBurnDone true spare) s (fun t => t.fuse a = v ∧ t.shadowRaw a = v ∧ sameBut a t ∧ ended t
              ∧ t.g F.OTP_STAT_SPARES = s.g F.OTP_STAT_SPARES - 1 ∧ t.on F.OTP_PSTAT_OK = true ∧ only t))
            ∧ (b.repair = true → b.lcs = 0 → ∀ spare, Runs (.otpBurnDone false spare) s (fun t => failed 7 2 a t ∧ t.otp.array = s.otp.array
              ∧ t.g F.OTP_STAT_SPARES = s.g F.OTP_STAT_SPARES - 1 ∧ t = { s.noted t with otp := t.otp } ∧ s.regsKept t [(.OTP, 0), (.LCS, 0), (.FCL, 0), (.TCE, 0)])))
        ∧ (b.repair = false → b.lcs = 0 → ∃ part, part &&& v = part ∧
            ((∀ spare, s.g F.OTP_STAT_SPARES = 0 → Runs (.otpBurnDone false spare) s (fun t => failed 7 2 a t ∧ t.fuse a = s.fuse a ||| part))
            ∧ ∀ votp, votp < 1740 → Runs (.otpWindow votp) s (fun t => failed 6 2 a t ∧ t.fuse a = s.fuse a ||| part ∧ (a, v) ∈ t.otp.half ∧ t.g F.OTP_STAT_VOTP = votp))))
    ∧ (∀ votp, votp < 2 ^ 11 → (s.otp.burn = none ∨ 1740 ≤ votp ∧ votp ≤ 1860 ∧ ∀ k, k < 32 → 0 ≤ s.gi (F.THM_TS_VALUE k) ∧ s.gi (F.THM_TS_VALUE k) ≤ 8500) → Runs (.otpWindow votp) s (fun t => t.g F.OTP_STAT_VOTP = votp
        ∧ (t.on F.OTP_STAT_WINOK = true ↔ 1740 ≤ votp ∧ votp ≤ 1860 ∧ ∀ k, k < 32 → 0 ≤ s.gi (F.THM_TS_VALUE k) ∧ s.gi (F.THM_TS_VALUE k) ≤ 8500)
        ∧ t = { s with regs := t.regs } ∧ s.regsKept t [(.OTP, 0)]))
    ∧ (∀ v : Vector Nat 7, (∀ x, s.roscAt = some x → x + msTicks ≤ s.now) → Runs (.roscCount v) s (fun t => (∀ d, d < 7 → t.g (F.LCS_ROSC_COUNT d) = vget v d % 2 ^ 16
        ∧ (-12800 ≤ temp → temp < 12800 → t.gi (F.LCS_ROSC_TEMP d) = temp / 100)) ∧ t.roscAt = some s.now ∧ t = { s with regs := t.regs, roscAt := t.roscAt } ∧ s.regsKept t [(.LCS, 0)]))

/-- The lifecycle (R384 to R387): each command needs the key, its state, its conditions and the programming window, or is refused with its code in LCS.RESULT;
each burns its fuses in the order listed; NONCE shows a nonce, which any TOKEN consumes; and a token passes the checks in their order. In part this rests on
choices of the model: log 9 and 58. -/
def Obligations.Lifecycle : Prop :=
  ∀ (s : State) (q : Requester) (key votp : Nat), s.plain → s.present q → key < 256 → votp < 2 ^ 11 →
    let lc := s.lifecycle
    let k := s.g F.LCS_STATE_RETURNS
    let window := 1740 ≤ votp ∧ votp ≤ 1860 ∧ ∀ k, k < 32 → 0 ≤ s.gi (F.THM_TS_VALUE k) ∧ s.gi (F.THM_TS_VALUE k) ≤ 8500
    let waiting := s.on F.OTP_STAT_BUSY = false ∧ s.on F.LCS_STATE_BUSY = false
    let refused := fun (code : Nat) (t : State) => t.reported 10 1 code ∧ t.on F.LCS_RESULT_DONE = true ∧ t.on F.LCS_RESULT_OK = false ∧ t.g F.LCS_RESULT_CODE = code
      ∧ t.otp = s.otp ∧ t = s.noted t ∧ s.regsKept t [(.OTP, 0), (.LCS, 0), (.FCL, 0), (.TCE, 0)]
    let burning := fun (action : Nat) (ws : List (Nat × Nat)) (t : State) => t.otp = { s.otp with burn := some { words := ws, addr := 0x40, lcs := action } }
      ∧ t.on F.OTP_STAT_BUSY = true ∧ t.on F.LCS_STATE_BUSY = true ∧ t.word .LCS_RESULT 0 0 = 0 ∧ t.lifecycle = lc
    let burns := fun (action : Nat) (ws : List (Nat × Nat)) (t : State) => burning action ws t ∧ t = { s with regs := t.regs, otp := t.otp } ∧ s.regsKept t [(.OTP, 0), (.LCS, 0)]
    let all := (0x7E1, 0xFFFFFFFF)
    let code := (s.setVotp votp).tokenCheck
    ((key ≠ 0x3D ∨ ¬ waiting) → ∀ c ∈ [Instr.nonce q key, .enterMaker q key votp, .enterField q key votp, .consent q key votp, .token q key votp, .scrap q key votp],
        Runs c s (fun t => t.reported 10 0xF8 q.detail ∧ t.otp = s.otp ∧ t = s.noted t ∧ s.regsKept t [(.OTP, 0), (.FCL, 0), (.TCE, 0)]))
    ∧ (key = 0x3D → waiting →
        Runs (.nonce q key) s (fun t => t.on F.LCS_STATE_NONCEV = true ∧ t.on F.LCS_RESULT_DONE = true ∧ t.on F.LCS_RESULT_OK = true ∧ t.lifecycle = lc
          ∧ t = { s with regs := t.regs, free := t.free } ∧ s.regsKept t [(.LCS, 0)])
        ∧ (∀ c state action, (c, state, action) ∈ [(Instr.enterMaker q key votp, lcBLANK, 2), (.enterField q key votp, lcMAKER, 3), (.consent q key votp, lcFIELD, 4),
            (.scrap q key votp, lcMAKER, 6)] →
            let met := (action = 3 → s.otpWord 0x41 % 8 = 7) ∧ (action = 4 → k < 14)
            (lc ≠ state → Runs c s (refused 6)) ∧ (lc = state → ¬ met → Runs c s (refused 8)) ∧ (lc = state → met → ¬ window → Runs c s (refused 9))
            ∧ (lc = state → met → window → Runs c s (burns action (if action = 2 then [(0x40, 1)] else if action = 3 then [(0x40, 2)] else if action = 4 then [(0x42, 2 ^ k)]
                else [all, (0x40, 2 ^ 31)]))))
        ∧ (code ≠ 0 → Runs (.token q key votp) s (fun t => refused code t ∧ t.on F.LCS_STATE_NONCEV = false))
        ∧ (leNat (s.tokenBytes.take 4) ≠ 0x4E4B4F54 → code = 1) ∧ (code = 0 → window ∧ s.on F.LCS_STATE_NONCEV = true ∧ 1 ≤ s.word .LCS_TOKEN 0 1 ∧ s.word .LCS_TOKEN 0 1 ≤ 3)
        ∧ (code = 0 →
            (s.word .LCS_TOKEN 0 1 = 1 → Runs (.token q key votp) s (fun t => t.on F.LCS_STATE_NONCEV = false
              ∧ burns 5 ((if s.ckProgrammed = 0 then [] else [(0x7E1, s.ckProgrammed)]) ++ [(0x40, 2 ^ (2 * k + 2))]) t))
            ∧ (s.word .LCS_TOKEN 0 1 = 2 → Runs (.token q key votp) s (fun t => t.on F.LCS_STATE_NONCEV = false ∧ burning 5 [(0x40, 2 ^ (2 * k + 1))] t
              ∧ t.g F.JRN_STAT_STATE = jSEALED ∧ t.g F.JRN_SEALEPOCH_EPOCH = s.g F.JRN_EPOCH_EPOCH ∧ t.gath = s.gath))
            ∧ (s.word .LCS_TOKEN 0 1 = 3 → Runs (.token q key votp) s (fun t => t.on F.LCS_STATE_NONCEV = false ∧ burns 5 [all, (0x40, 2 ^ 31)] t))))

/-- The Hyler wire (R389, R390, R394, R395, R397, R399): EN needs the pad; a break is sent every 100 ms; the announce byte in time takes the port on, anything
else is no announce; IDENT, AUTH, ADD and READ each wait 2 ms for their answer; no answer, or a malformed one, is repeated three times, then followed by a
break, or for an ADD rejected; and a faulty line ends in LINEFAULT until a test finds it normal. In part this rests on choices of the model: log 59 and 73. -/
def Obligations.ConsumableLine : Prop :=
  ∀ (s : State) (n : Nat), s.plain → n < s.blockCount .HYW →
    let h := s.hywOf n
    let st := s.hywState n
    let others := fun (t : State) => ∀ j, j ≠ n → t.hywOf j = s.hywOf j
    let only := fun (t : State) => t = { s with regs := t.regs, hyw := t.hyw } ∧ s.regsKept t [(.HYW, n)] ∧ others t
    let ports := fun (x : Nat) (t : State) => t.hywState n = x ∧ (t.on (F.HYW_STAT_PERMIT n) = true ↔ x = 3 ∨ x = 4)
    let failed := fun (code detail : Nat) (t : State) => t.g (F.HYW_STAT_FAULT n) = code ∧ t.reported (74 + n) code detail
      ∧ t = { s.noted t with hyw := t.hyw } ∧ s.regsKept t [(.HYW, n), (.FCL, 0), (.TCE, 0)] ∧ others t
    let set := fun (x : Hyw) (t : State) => t.hywOf n = x ∧ t = { s with hyw := t.hyw } ∧ others t
    let fitted := st = 3 ∨ st = 4 ∨ st = 5
    let nothing := fun (c : Instr) =>
      (st = 6 → Runs c s (fun t => ports 1 t ∧ t.hywOf n = { h with phase := .idle, eolWait := false } ∧ only t))
      ∧ ((st ≠ 6 ∧ h.recheck = true ∨ fitted) → Runs c s (fun t => ports 1 t ∧ (t.hywOf n).phase = .idle ∧ (t.hywOf n).recheck = false ∧ (t.hywOf n).ident = none ∧ failed 7 0 t))
      ∧ (st = 2 → h.recheck = false → Runs c s (fun t => ports 1 t ∧ t.hywOf n = { h with phase := .idle, ident := none, eolWait := false } ∧ only t))
      ∧ (st = 1 → h.recheck = false → Runs c s (set { h with phase := .idle }))
    let again := fun (cmd tries : Nat) (c : Instr) =>
      (tries < 3 → Runs c s (fun t => t.hywOf n = { h with phase := .wait cmd (s.now + 2 * msTicks) (tries + 1) }
        ∧ t.g (F.HYW_STAT_RETRIES n) = min (s.g (F.HYW_STAT_RETRIES n) + 1) 255 ∧ t.hywState n = st ∧ only t))
      ∧ (3 ≤ tries → cmd ≠ 3 → Runs c s (set { h with phase := .idle, recheck := true }))
      ∧ (3 ≤ tries → cmd = 3 → Runs c s (fun t => ports 6 t ∧ failed 5 0 t))
    let frame := fun (status : Nat) (b : List Nat) => [0xA5, status, b.length] ++ b ++ leBytes 2 (crc16 ([status, b.length] ++ b))
    (∀ q, s.present q →
        (s.hywEn n = false → s.owns q (padRid (conPad n)) = true → Runs (.hywEnable q n true) s (fun t => ports 1 t ∧ t.hywEn n = true ∧ t.padFunc (conPad n) = 3
          ∧ t.hywOf n = { h with eolWait := false } ∧ t = { s with regs := t.regs, hyw := t.hyw } ∧ s.regsKept t [(.HYW, n), (.PMX, 0)] ∧ others t))
        ∧ (s.hywEn n = false → s.owns q (padRid (conPad n)) = false → Runs (.hywEnable q n true) s (fun t => t.hywEn n = false ∧ t.reported (74 + n) 0xF8 q.detail ∧ t = s.noted t
          ∧ s.regsKept t [(.FCL, 0), (.TCE, 0)]))
        ∧ (s.hywEn n = true → Runs (.hywEnable q n false) s (fun t => ports 0 t ∧ t.hywEn n = false ∧ t.padFunc (conPad n) = 0 ∧ t.g (F.HYW_STAT_QUEUE n) = 0 ∧ t.hywOf n = {}
          ∧ t = { s with regs := t.regs, hyw := t.hyw } ∧ s.regsKept t [(.HYW, n), (.PMX, 0)] ∧ others t))
        ∧ (∀ on, s.hywEn n = on → s.owns q (padRid (conPad n)) = true → Runs (.hywEnable q n on) s (fun t => t.hywOf n = h ∧ t.hywState n = st ∧ t.hywEn n = on ∧ only t))
        ∧ (s.hywEn n = true → fitted → Runs (.reauth q n) s (fun t => t.hywOf n = { h with reauth := true } ∧ t.hywState n = st ∧ t.hywEn n = true ∧ only t)))
    ∧ (s.hywEn n = true →
        (h.phase = .idle → st ≠ 7 → ((∀ x, h.breakAt = some x → x + 100 * msTicks ≤ s.now) ∨ st = 2 ∨ fitted ∧ (h.recheck = true ∨ h.reauth = true ∨ h.queue ≠ [])) → Runs (.hywBreak n) s (set { h with phase := .listen (s.now + 320 * usTicks), breakAt := some s.now }))
        ∧ (∀ limit, h.phase = .listen limit → s.now ≤ limit →
            (h.recheck = true → Runs (.hywAnnounce n 0x6E true) s (fun t => ports 2 t ∧ (t.hywOf n).phase = .ready ∧ (t.hywOf n).ident = none ∧ failed 2 0 t))
            ∧ (h.recheck = false → st = 1 → Runs (.hywAnnounce n 0x6E true) s (fun t => ports 2 t ∧ t.hywOf n = { h with phase := .ready, ident := none, eolWait := false } ∧ only t))
            ∧ (h.recheck = false → st = 6 → Runs (.hywAnnounce n 0x6E true) s (set { h with phase := .idle }))
            ∧ (h.recheck = false → (st = 2 ∨ fitted) → Runs (.hywAnnounce n 0x6E true) s (set { h with phase := .ready }))
            ∧ ∀ byte stop, (byte ≠ 0x6E ∨ stop = false) → nothing (.hywAnnounce n byte stop))
        ∧ (∀ limit, h.phase = .listen limit → limit < s.now → nothing (.hywAnnounceTimeout n))
        ∧ (st = 2 → h.ident = none → h.phase = .ready → Runs (.ident n) s (set { h with phase := .wait 1 (s.now + 2 * msTicks) 0 }))
        ∧ ((st = 2 ∧ h.ident ≠ none ∨ fitted ∧ (h.reauth = true ∨ s.g (F.HYW_CFG2_REAUTH n) ≤ h.sewn)) →
            (s.hywKey n = none → Runs (.auth n) s (fun t => ports 6 t ∧ failed 3 2 t))
            ∧ (s.hywKey n ≠ none → h.phase = .ready → Runs (.auth n) s (fun t => (t.hywOf n).challenge.length = 16
                ∧ t.hywOf n = { h with phase := .wait 2 (s.now + 2 * msTicks) 0, challenge := (t.hywOf n).challenge } ∧ t = { s with hyw := t.hyw, free := t.free } ∧ others t)))
        ∧ (fitted → h.queue ≠ [] → h.phase = .ready → Runs (.hywAdd n) s (set { h with phase := .wait 3 (s.now + 2 * msTicks) 0 }))
        ∧ (fitted → h.phase = .ready → h.readAt + 100 * msTicks ≤ s.now → Runs (.read n) s (set { h with phase := .wait 4 (s.now + 2 * msTicks) 0, readAt := s.now }))
        ∧ (∀ cmd limit tries, h.phase = .wait cmd limit tries →
            (limit ≤ s.now → again cmd tries (.hywResponseTimeout n))
            ∧ (s.now ≤ limit → cmd ≠ 3 → ∀ status b, 2 ≤ status → status ≤ 4 → b.length ≤ 48 → (∀ x ∈ b, x < 256) →
                Runs (.hywResponse n (frame status b)) s (set { h with phase := .idle, recheck := true }))
            ∧ (s.now ≤ limit → ∀ bs, ((∀ status b, bs ≠ frame status b) ∨ bs = frame 1 []) → again cmd tries (.hywResponse n bs)))
        ∧ (∀ detail, (detail = 1 ∨ detail = 2) → st ≠ 7 → Runs (.hywLine n detail) s (fun t => ports 7 t ∧ t.g (F.HYW_STAT_LINE n) = detail - 1 ∧ (t.hywOf n).phase = .idle
            ∧ (t.hywOf n).testAt = s.now ∧ failed 1 detail t))
        ∧ (st = 7 → h.testAt + 1000 * msTicks ≤ s.now →
            Runs (.lineTest n true) s (fun t => ports 1 t ∧ t.on (F.HYW_STAT_LINE n) = true ∧ only t) ∧ Runs (.lineTest n false) s (set { h with testAt := s.now })))

/-- A consumable's answers (R391, R393, R395, R396, R398): IDENT's type is judged; the right MAC enters ID, RATED and LIFE, a wrong one rejects the
consumable; an ADD succeeds where LIFE is EXPECT + INC and a READ where LIFE has not fallen, and anything else rejects it; LIFE against RATED gives OK, LOW or
EOL, with HYW_EOL on entry; and METER queues up to four ADDs. In part this rests on choices of the model: log 9 and 59. -/
def Obligations.ConsumableAnswers : Prop :=
  ∀ (s : State) (n : Nat), s.plain → n < s.blockCount .HYW →
    let h := s.hywOf n
    let st := s.hywState n
    let life := s.g (F.HYW_LIFE_L n)
    let others := fun (t : State) => ∀ j, j ≠ n → t.hywOf j = s.hywOf j
    let only := fun (t : State) => t = { s with regs := t.regs, hyw := t.hyw } ∧ s.regsKept t [(.HYW, n)] ∧ others t
    let rejected := fun (code detail : Nat) (t : State) => t.hywState n = 6 ∧ t.on (F.HYW_STAT_PERMIT n) = false ∧ (t.hywOf n).phase = .idle ∧ t.g (F.HYW_STAT_FAULT n) = code
      ∧ t.reported (74 + n) code detail ∧ t = { s.noted t with hyw := t.hyw } ∧ s.regsKept t [(.HYW, n), (.FCL, 0), (.TCE, 0)] ∧ others t
    let frame := fun (status : Nat) (b : List Nat) => [0xA5, status, b.length] ++ b ++ leBytes 2 (crc16 ([status, b.length] ++ b))
    let level := fun (rated now : Nat) => if rated ≤ now then 5 else if rated * s.g (F.HYW_CFG_WARNPCT n) ≤ 100 * now then 4 else 3
    let stands := fun (rated now : Nat) (t : State) => t.hywState n = level rated now ∧ t.g (F.HYW_LIFE_L n) = now ∧ (t.hywOf n).phase = .idle
      ∧ (level rated now ≠ 5 → (t.on (F.HYW_STAT_PERMIT n) = true) ∧ only t)
      ∧ (level rated now = 5 → st ≠ 5 → t.reported (74 + n) 6 0 ∧ t.on (F.HYW_STAT_PERMIT n) = (s.gath.sigOpen.isSome && s.on (F.HYW_STAT_PERMIT n)))
    (s.hywEn n = true → ∀ limit tries, s.now ≤ limit →
        (∀ id type rated lf, id < 2 ^ 64 → type < 2 ^ 16 → rated < 2 ^ 32 → lf < 2 ^ 32 → h.phase = .wait 1 limit tries →
            let answer := Instr.hywResponse n (frame 0 (leBytes 8 id ++ leBytes 2 type ++ leBytes 4 rated ++ leBytes 4 lf))
            ((type ≠ s.g (F.HYW_CFG_TYPE n) ∨ type = 0 ∨ 5 ≤ type) → Runs answer s (rejected 4 0))
            ∧ (type = s.g (F.HYW_CFG_TYPE n) → 1 ≤ type → type ≤ 4 → Runs answer s (fun t => t.hywOf n = { h with phase := .idle, ident := some (id, type, rated, lf) }
                ∧ t = { s with hyw := t.hyw } ∧ others t)))
        ∧ (∀ mac, mac.length = 32 → (∀ b ∈ mac, b < 256) → h.phase = .wait 2 limit tries →
            (∀ id type rated lf, h.ident = some (id, type, rated, lf) → id < 2 ^ 64 → rated < 2 ^ 32 → lf < 2 ^ 32 →
                (mac = s.hywMac n id type rated lf → st = 2 → Runs (.hywResponse n (frame 0 mac)) s (fun t => stands rated lf t ∧ t.g (F.HYW_RATED_R n) = rated
                  ∧ t.g (F.HYW_ID_LO_ID n) = id % 2 ^ 32 ∧ t.g (F.HYW_ID_HI_ID n) = id / 2 ^ 32 ∧ (t.hywOf n).ident = none ∧ (t.hywOf n).sewn = 0))
                ∧ (mac ≠ s.hywMac n id type rated lf → Runs (.hywResponse n (frame 0 mac)) s (rejected 3 1)))
            ∧ (h.ident = none → mac ≠ s.hywMac n h.id h.type (s.g (F.HYW_RATED_R n)) life → Runs (.hywResponse n (frame 0 mac)) s (rejected 3 1))
            ∧ (h.ident = none → mac = s.hywMac n h.id h.type (s.g (F.HYW_RATED_R n)) life → Runs (.hywResponse n (frame 0 mac)) s (fun t => t.hywOf n =
                { h with phase := .idle, reauth := false, sewn := 0 } ∧ t = { s with hyw := t.hyw } ∧ others t)))
        ∧ (∀ inc rest status x, h.queue = inc :: rest → h.phase = .wait 3 limit tries → x < 2 ^ 32 → (status = 0 ∨ status = 3 ∨ status = 4) →
            (x = life + inc → status ≠ 3 → Runs (.hywResponse n (frame status (leBytes 4 x))) s (fun t => stands (s.g (F.HYW_RATED_R n)) x t ∧ (t.hywOf n).queue = rest
              ∧ t.g (F.HYW_STAT_QUEUE n) = rest.length % 8))
            ∧ ((x ≠ life + inc ∨ status = 3) → Runs (.hywResponse n (frame status (leBytes 4 x))) s (rejected 5 0)))
        ∧ (∀ b, h.queue ≠ [] → h.phase = .wait 3 limit tries → b.length ≤ 48 → (∀ x ∈ b, x < 256) → Runs (.hywResponse n (frame 2 b)) s (rejected 5 0))
        ∧ (∀ x, h.phase = .wait 4 limit tries → x < 2 ^ 32 →
            (life ≤ x → Runs (.hywResponse n (frame 0 (leBytes 4 x))) s (stands (s.g (F.HYW_RATED_R n)) x))
            ∧ (x < life → Runs (.hywResponse n (frame 0 (leBytes 4 x))) s (rejected 5 0))))
    ∧ (∀ q v, s.present q →
        let inc := v % 2 ^ 24
        let refused := fun (code : Nat) (t : State) => t.reported (74 + n) code q.detail ∧ t = s.noted t ∧ s.regsKept t [(.FCL, 0), (.TCE, 0)]
        (inc = 0 → Runs (.meter q n v) s (refused 0xF2)) ∧ (inc ≠ 0 → 4 ≤ h.queue.length → Runs (.meter q n v) s (refused 0xF8))
        ∧ (inc ≠ 0 → h.queue.length < 4 → Runs (.meter q n v) s (fun t => t.hywOf n = { h with queue := h.queue ++ [inc] } ∧ t.g (F.HYW_STAT_QUEUE n) = h.queue.length + 1
            ∧ t.hywState n = st ∧ only t)))

/-- Counters, sampling and bandwidth (R405, R406, R408, R411, R413): at LEVEL 0 a write is OBS_DENIED; HOSTEN is written by an endpoint alone, and clearing it
in FIELD clears every enable, counter, result and record but the fixed counters; RUN starts and stops the counters; a wrap sets OVF and leaves a sampling
record; and a window's edge takes each port's bytes divided by 16, which an idle step makes readable, with their maximum, once 1 us has passed. In part this
rests on choices of the model: log 29 and 33. -/
def Obligations.Counters : Prop :=
  ∀ (s : State) (q : Requester) (v : Nat), s.settled → s.present q →
    let only := fun (t : State) => t = { s with regs := t.regs } ∧ s.regsKept t [(.OBS, 0)]
    let watches := fun (t : State) => t = { s with regs := t.regs, obs := t.obs } ∧ s.regsKept t [(.OBS, 0)]
    let denied := fun (t : State) => t.reported 11 1 q.detail ∧ t = s.noted t ∧ s.regsKept t [(.FCL, 0), (.TCE, 0)]
    (s.plain → (∀ i, q = .core i → Runs (.hostenWrite q v) s denied) ∧ (∀ run, Runs (.obsRunWrite q run) s denied))
    ∧ (∀ n, q = .host n →
        ((s.on F.OBS_HOSTEN_EN = false ∨ bit v 0 = true ∨ s.lifecycle ≠ lcFIELD) → Runs (.hostenWrite q v) s (fun t => t.on F.OBS_HOSTEN_EN = bit v 0 ∧ only t))
        ∧ (s.on F.OBS_HOSTEN_EN = true → bit v 0 = false → s.lifecycle = lcFIELD → Runs (.hostenWrite q v) s (fun t => t.on F.OBS_HOSTEN_EN = false ∧ t.on F.OBS_CTRL_RUN = false
            ∧ t.on F.OBS_BWCFG_EN = false ∧ t.on F.OBS_TRCCFG_PORT = false ∧ t.on F.OBS_TRCCFG_MEM = false ∧ t.obs.fifo = [] ∧ t.word .OBS_EVTMASK 0 0 = 0 ∧ t.word .OBS_UACC 0 0 = 0
            ∧ (∀ k, k < 64 → t.on (F.OBS_EVSEL_EN k) = false ∧ t.obsCount k = 0) ∧ (∀ p, p < 14 → t.word .OBS_BWLAST 0 p = 0 ∧ t.word .OBS_BWPEAK 0 p = 0)
            ∧ (∀ i, i < 24 → t.word .OBS_SAMP_PC 0 i = 0 ∧ t.word .OBS_SAMP_INFO 0 i = 0)
            ∧ (∀ i, i < 8 → t.g (F.OBS_FIX_LO_COUNT i) = s.g (F.OBS_FIX_LO_COUNT i) ∧ t.g (F.OBS_FIX_HI_COUNT i) = s.g (F.OBS_FIX_HI_COUNT i)) ∧ watches t)))
    ∧ (s.obsLevel ≠ 0 →
        (∀ run, Runs (.obsRunWrite q run) s (fun t => t.on F.OBS_CTRL_RUN = run ∧ only t))
        ∧ (∀ k, k < 64 → s.on F.OBS_CTRL_RUN = true → s.on (F.OBS_EVSEL_EN k) = true →
            let c := s.g (F.OBS_EVSEL_CORE k)
            let wrapped := fun (t : State) => t.obsCount k = 0 ∧ t.on (F.OBS_EVSEL_OVF k) = true ∧ (∀ j, j < 64 → j ≠ k → t.obsCount j = s.obsCount j) ∧ only t
            (s.on (F.OBS_EVSEL_SAMPLE k) = false → Runs (.counterWrap k) s (fun t => wrapped t ∧ ∀ i, i < 24 → t.word .OBS_SAMP_INFO 0 i = s.word .OBS_SAMP_INFO 0 i))
            ∧ (s.on (F.OBS_EVSEL_SAMPLE k) = true → c < 24 → s.on (F.OBS_SAMP_INFO_PEND c) = false → Runs (.counterWrap k) s (fun t => wrapped t
                ∧ t.word .OBS_SAMP_PC 0 c = (s.coreOf c).lastPc.toNat ∧ t.g (F.OBS_SAMP_INFO_INDEX c) = k ∧ t.on (F.OBS_SAMP_INFO_PEND c) = true ∧ t.g (F.OBS_SAMP_INFO_MERGED c) = 0))
            ∧ (s.on (F.OBS_EVSEL_SAMPLE k) = true → c < 24 → s.on (F.OBS_SAMP_INFO_PEND c) = true → Runs (.counterWrap k) s (fun t => wrapped t
                ∧ t.word .OBS_SAMP_PC 0 c = s.word .OBS_SAMP_PC 0 c ∧ t.g (F.OBS_SAMP_INFO_INDEX c) = s.g (F.OBS_SAMP_INFO_INDEX c)
                ∧ t.g (F.OBS_SAMP_INFO_MERGED c) = min (s.g (F.OBS_SAMP_INFO_MERGED c) + 1) 255)))
        ∧ (s.on F.OBS_BWCFG_EN = true → s.now % (s.g F.OBS_BWCFG_WINDOW * usTicks) = 0 → Runs .bwWindowEdge s (fun t => (∀ p, p < 14 → vget t.obs.bwUnits p = vget s.obs.bw p / 16 ∧ vget t.obs.bw p = 0)
            ∧ t.obs.bwAt = some (s.now + usTicks) ∧ t = { s with obs := { s.obs with bw := t.obs.bw, bwAt := t.obs.bwAt, bwUnits := t.obs.bwUnits } })))
    ∧ (s.pending = [] → s.pathClear → s.clocked = true → ∀ x, s.obs.bwAt = some x →
        (x ≤ s.now + 1 → ∃ t, step s = .next t ∧ t.obs.bwAt = none ∧ ∀ p, p < 14 → vget s.obs.bwUnits p < 2 ^ 32 → t.word .OBS_BWLAST 0 p = vget s.obs.bwUnits p
          ∧ t.word .OBS_BWPEAK 0 p = max (s.word .OBS_BWPEAK 0 p) (vget s.obs.bwUnits p))
        ∧ (s.now + 1 < x → ∃ t, step s = .next t ∧ t.obs.bwAt = some x ∧ ∀ p, p < 14 → t.word .OBS_BWLAST 0 p = s.word .OBS_BWLAST 0 p))

/-- Trace (R414 to R420): an enabled record enters the FIFO, a MARK with its writer's source, an instruction record of a traced core; a record that finds it
full is dropped and raises OBS_LOST; records leave in order, after a LOSS record that tells how many were dropped; on P-TRC as they are, into the buffer at
its next slot; and an error answer ends the buffer with OBS_BUF. In part this rests on choices of the model: log 29 and 33. -/
def Obligations.Trace : Prop :=
  ∀ (s : State), s.settled → s.histRoom →
    let fifo := s.obs.fifo
    let pushed := fun (rec : List Nat) (t : State) => rec.length = 16 ∧ t = { s with obs := { s.obs with fifo := fifo ++ [rec] } }
    let onlyPort := s.on F.OBS_TRCCFG_PORT = true ∧ s.on F.OBS_TRCCFG_MEM = false
    let onlyMem := s.on F.OBS_TRCCFG_PORT = false ∧ s.on F.OBS_TRCCFG_MEM = true
    let i := s.word .OBS_BUFWP 0 0
    let slot := pageBase + s.bufBase + 16 * i
    let noted := fun (t : State) => t = s.noted t ∧ s.regsKept t [(.OBS, 0), (.FCL, 0), (.TCE, 0)]
    (s.plain → ∀ q v, s.present q → Runs (.mark q v) s (fun t => t.reported 11 1 q.detail ∧ t = s.noted t ∧ s.regsKept t [(.FCL, 0), (.TCE, 0)]))
    ∧ (s.traceOn = true → fifo.length < 256 → ∀ stamp origin code aux data,
        ((code = 0 ∨ 1 ≤ code ∧ code ≤ 12 ∧ bit (s.word .OBS_EVTMASK 0 0) code = true) → Runs (.traceRecord stamp origin code aux 0 data) s (pushed (traceBytes stamp origin code aux 0 data)))
        ∧ (1 ≤ code → code ≤ 12 → bit (s.word .OBS_EVTMASK 0 0) code = false → Runs (.traceRecord stamp origin code aux 0 data) s (fun t => t = s))
        ∧ (∀ type, (type = 1 ∨ type = 2) → 40 ≤ origin → origin < 64 → s.obsLevel = 2 → bit (s.g F.OBS_TRCCFG_ICORES) (origin - 40) = true →
            Runs (.traceRecord stamp origin code aux type data) s (pushed (traceBytes stamp origin code aux type data)))
        ∧ (∀ q, s.present q → bit (s.word .OBS_EVTMASK 0 0) 12 = true → Runs (.mark q data) s (pushed (traceBytes s.now q.source 12 0 0 (data % 2 ^ 32)))))
    ∧ (s.traceOn = true → 256 ≤ fifo.length → s.obs.dropped = 0 → ∀ stamp origin aux data, Runs (.traceRecord stamp origin 0 aux 0 data) s (fun t => t.obs.fifo = fifo
        ∧ 0 < t.obs.dropped ∧ t.reported 11 2 0 ∧ noted t))
    ∧ (s.traceOn = true → s.obs.dropped = 0 → ∀ r rest err, fifo = r :: rest → fifo.length ≤ 256 →
        (onlyPort → Runs (.traceOut err) s (fun t => t = { s with obs := { s.obs with fifo := rest, port := r, portAt := s.now } }))
        ∧ (s.on F.OBS_TRCCFG_PORT = true → Runs (.traceOut err) s (fun t => t.obs.port = r ∧ t.obs.portAt = s.now))
        ∧ (onlyMem → s.pageUp = true → s.bufFull = false → err = false → r.length = 16 → (∀ b ∈ r, b < 256) → i < 2 ^ 32 - 1 → Runs (.traceOut err) s (fun t => t.obs.fifo = rest
            ∧ (∀ j, j < 16 → t.rd (slot + j) 1 = r.getD j 0) ∧ (∀ a, (a < slot ∨ slot + 16 ≤ a) → t.rd a 1 = s.rd a 1)
            ∧ t.word .OBS_BUFWP 0 0 = (if s.on F.OBS_TRCCFG_WRAP = true ∧ s.bufSlots ≤ i + 1 then 0 else i + 1)
            ∧ t = { s with regs := t.regs, mem := t.mem, obs := t.obs } ∧ s.regsKept t [(.OBS, 0)]))
        ∧ (onlyMem → s.bufFull = false → err = true → Runs (.traceOut err) s (fun t => t.on F.OBS_TRCCFG_MEM = false ∧ t.reported 11 3 0 ∧ noted t))
        ∧ (onlyMem → s.bufFull = true → fifo.length < 256 → Runs (.traceOut err) s (fun t => 0 < t.obs.dropped ∧ t.reported 11 2 0 ∧ t.word .OBS_BUFWP 0 0 = i ∧ noted t)))
    ∧ (s.traceOn = true → 0 < s.obs.dropped → onlyPort → ∀ err, Runs (.traceOut err) s (fun t =>
        t = { s with obs := { s.obs with dropped := 0, port := traceBytes s.now 11 0 0 3 s.obs.dropped, portAt := s.now } }))
end

