-- ==== Sys2Proof/Laws/Addr.lean ====
section
/-! SUPPORT. Where each register stands: the address of a register from its map row (R24), one equation a register. -/

namespace Sys2Proof.Machine

@[simp] theorem addr_CORD_NOW_LO (n k : Nat) : Reg.addr .CORD_NOW_LO n k = 0 + 262144 * n + 0 + 4 * k := rfl
@[simp] theorem addr_CORD_NOW_HI (n k : Nat) : Reg.addr .CORD_NOW_HI n k = 0 + 262144 * n + 4 + 4 * k := rfl
@[simp] theorem addr_CORD_STAT (n k : Nat) : Reg.addr .CORD_STAT n k = 0 + 262144 * n + 8 + 4 * k := rfl
@[simp] theorem addr_GATH_CTRL (n k : Nat) : Reg.addr .GATH_CTRL n k = 262144 + 262144 * n + 0 + 4 * k := rfl
@[simp] theorem addr_GATH_TIMING (n k : Nat) : Reg.addr .GATH_TIMING n k = 262144 + 262144 * n + 56 + 4 * k := rfl
@[simp] theorem addr_GATH_FEED (n k : Nat) : Reg.addr .GATH_FEED n k = 262144 + 262144 * n + 60 + 4 * k := rfl
@[simp] theorem addr_GATH_FUS_RATE (n k : Nat) : Reg.addr .GATH_FUS_RATE n k = 262144 + 262144 * n + 16 + 4 * k := rfl
@[simp] theorem addr_GATH_FUS_DEPTH (n k : Nat) : Reg.addr .GATH_FUS_DEPTH n k = 262144 + 262144 * n + 20 + 4 * k := rfl
@[simp] theorem addr_GATH_FUS_LEVEL (n k : Nat) : Reg.addr .GATH_FUS_LEVEL n k = 262144 + 262144 * n + 24 + 4 * k := rfl
@[simp] theorem addr_GATH_SITE_W (n k : Nat) : Reg.addr .GATH_SITE_W n k = 262144 + 262144 * n + 32 + 4 * k := rfl
@[simp] theorem addr_GATH_BASE_W (n k : Nat) : Reg.addr .GATH_BASE_W n k = 262144 + 262144 * n + 36 + 4 * k := rfl
@[simp] theorem addr_GATH_SITE_DEPTH (n k : Nat) : Reg.addr .GATH_SITE_DEPTH n k = 262144 + 262144 * n + 40 + 4 * k := rfl
@[simp] theorem addr_GATH_SITE_LEVEL (n k : Nat) : Reg.addr .GATH_SITE_LEVEL n k = 262144 + 262144 * n + 44 + 4 * k := rfl
@[simp] theorem addr_GATH_DIEGAP (n k : Nat) : Reg.addr .GATH_DIEGAP n k = 262144 + 262144 * n + 48 + 4 * k := rfl
@[simp] theorem addr_GATH_GAPMIN (n k : Nat) : Reg.addr .GATH_GAPMIN n k = 262144 + 262144 * n + 52 + 4 * k := rfl
@[simp] theorem addr_GATH_GEOM0 (n k : Nat) : Reg.addr .GATH_GEOM0 n k = 262144 + 262144 * n + 64 + 4 * k := rfl
@[simp] theorem addr_GATH_GEOM1 (n k : Nat) : Reg.addr .GATH_GEOM1 n k = 262144 + 262144 * n + 68 + 4 * k := rfl
@[simp] theorem addr_GATH_GEOM2 (n k : Nat) : Reg.addr .GATH_GEOM2 n k = 262144 + 262144 * n + 72 + 4 * k := rfl
@[simp] theorem addr_GATH_GEOM3 (n k : Nat) : Reg.addr .GATH_GEOM3 n k = 262144 + 262144 * n + 76 + 4 * k := rfl
@[simp] theorem addr_GATH_GEOM4 (n k : Nat) : Reg.addr .GATH_GEOM4 n k = 262144 + 262144 * n + 80 + 4 * k := rfl
@[simp] theorem addr_GATH_GCOMMIT (n k : Nat) : Reg.addr .GATH_GCOMMIT n k = 262144 + 262144 * n + 92 + 4 * k := rfl
@[simp] theorem addr_GATH_WEB (n k : Nat) : Reg.addr .GATH_WEB n k = 262144 + 262144 * n + 96 + 4 * k := rfl
@[simp] theorem addr_GATH_SCMD (n k : Nat) : Reg.addr .GATH_SCMD n k = 262144 + 262144 * n + 128 + 4 * k := rfl
@[simp] theorem addr_GATH_SCMDFSN (n k : Nat) : Reg.addr .GATH_SCMDFSN n k = 262144 + 262144 * n + 132 + 4 * k := rfl
@[simp] theorem addr_GATH_SCMDRES (n k : Nat) : Reg.addr .GATH_SCMDRES n k = 262144 + 262144 * n + 136 + 4 * k := rfl
@[simp] theorem addr_GATH_SCFG (n k : Nat) : Reg.addr .GATH_SCFG n k = 262144 + 262144 * n + 256 + 16 * k := rfl
@[simp] theorem addr_GATH_SSTAT (n k : Nat) : Reg.addr .GATH_SSTAT n k = 262144 + 262144 * n + 260 + 16 * k := rfl
@[simp] theorem addr_GATH_SNEXT (n k : Nat) : Reg.addr .GATH_SNEXT n k = 262144 + 262144 * n + 264 + 16 * k := rfl
@[simp] theorem addr_GATH_SDEL (n k : Nat) : Reg.addr .GATH_SDEL n k = 262144 + 262144 * n + 268 + 16 * k := rfl
@[simp] theorem addr_GATH_MEDIA_A (n k : Nat) : Reg.addr .GATH_MEDIA_A n k = 262144 + 262144 * n + 1024 + 8 * k := rfl
@[simp] theorem addr_GATH_MEDIA_B (n k : Nat) : Reg.addr .GATH_MEDIA_B n k = 262144 + 262144 * n + 1028 + 8 * k := rfl
@[simp] theorem addr_TCE_QCFG (n k : Nat) : Reg.addr .TCE_QCFG n k = 524288 + 262144 * n + 4096 + 16 * k := rfl
@[simp] theorem addr_TCE_QBASE (n k : Nat) : Reg.addr .TCE_QBASE n k = 524288 + 262144 * n + 4100 + 16 * k := rfl
@[simp] theorem addr_TCE_QHEAD (n k : Nat) : Reg.addr .TCE_QHEAD n k = 524288 + 262144 * n + 4104 + 16 * k := rfl
@[simp] theorem addr_TCE_QTAIL (n k : Nat) : Reg.addr .TCE_QTAIL n k = 524288 + 262144 * n + 4108 + 16 * k := rfl
@[simp] theorem addr_TCE_CORERST (n k : Nat) : Reg.addr .TCE_CORERST n k = 524288 + 262144 * n + 4 + 4 * k := rfl
@[simp] theorem addr_TCE_SPARE (n k : Nat) : Reg.addr .TCE_SPARE n k = 524288 + 262144 * n + 8 + 4 * k := rfl
@[simp] theorem addr_TCE_CSTAT (n k : Nat) : Reg.addr .TCE_CSTAT n k = 524288 + 262144 * n + 256 + 4 * k := rfl
@[simp] theorem addr_TCE_WDOG (n k : Nat) : Reg.addr .TCE_WDOG n k = 524288 + 262144 * n + 512 + 4 * k := rfl
@[simp] theorem addr_TCE_EDGESEL (n k : Nat) : Reg.addr .TCE_EDGESEL n k = 524288 + 262144 * n + 768 + 4 * k := rfl
@[simp] theorem addr_LCE_CTRL (n k : Nat) : Reg.addr .LCE_CTRL n k = 786432 + 262144 * n + 0 + 4 * k := rfl
@[simp] theorem addr_LCE_APCRES (n k : Nat) : Reg.addr .LCE_APCRES n k = 786432 + 262144 * n + 256 + 4 * k := rfl
@[simp] theorem addr_LCE_APCSTAMP_LO (n k : Nat) : Reg.addr .LCE_APCSTAMP_LO n k = 786432 + 262144 * n + 384 + 8 * k := rfl
@[simp] theorem addr_LCE_APCSTAMP_HI (n k : Nat) : Reg.addr .LCE_APCSTAMP_HI n k = 786432 + 262144 * n + 388 + 8 * k := rfl
@[simp] theorem addr_FCL_CTRL (n k : Nat) : Reg.addr .FCL_CTRL n k = 1048576 + 262144 * n + 0 + 4 * k := rfl
@[simp] theorem addr_FCL_CLASSB (n k : Nat) : Reg.addr .FCL_CLASSB n k = 1048576 + 262144 * n + 4 + 4 * k := rfl
@[simp] theorem addr_FCL_STAT (n k : Nat) : Reg.addr .FCL_STAT n k = 1048576 + 262144 * n + 8 + 4 * k := rfl
@[simp] theorem addr_FCL_KCMD (n k : Nat) : Reg.addr .FCL_KCMD n k = 1048576 + 262144 * n + 12 + 4 * k := rfl
@[simp] theorem addr_FCL_ACK (n k : Nat) : Reg.addr .FCL_ACK n k = 1048576 + 262144 * n + 16 + 4 * k := rfl
@[simp] theorem addr_FCL_HEAD (n k : Nat) : Reg.addr .FCL_HEAD n k = 1048576 + 262144 * n + 20 + 4 * k := rfl
@[simp] theorem addr_FCL_RINGCFG (n k : Nat) : Reg.addr .FCL_RINGCFG n k = 1048576 + 262144 * n + 24 + 4 * k := rfl
@[simp] theorem addr_FCL_FORCE (n k : Nat) : Reg.addr .FCL_FORCE n k = 1048576 + 262144 * n + 32 + 4 * k := rfl
@[simp] theorem addr_FCL_SRCCFG (n k : Nat) : Reg.addr .FCL_SRCCFG n k = 1048576 + 262144 * n + 256 + 4 * k := rfl
@[simp] theorem addr_FCL_KPAD (n k : Nat) : Reg.addr .FCL_KPAD n k = 1048576 + 262144 * n + 512 + 4 * k := rfl
@[simp] theorem addr_FCL_HIST_STAMP_LO (n k : Nat) : Reg.addr .FCL_HIST_STAMP_LO n k = 1048576 + 262144 * n + 1024 + 32 * k := rfl
@[simp] theorem addr_FCL_HIST_STAMP_HI (n k : Nat) : Reg.addr .FCL_HIST_STAMP_HI n k = 1048576 + 262144 * n + 1028 + 32 * k := rfl
@[simp] theorem addr_FCL_HIST_INFO (n k : Nat) : Reg.addr .FCL_HIST_INFO n k = 1048576 + 262144 * n + 1032 + 32 * k := rfl
@[simp] theorem addr_FCL_HIST_FSN (n k : Nat) : Reg.addr .FCL_HIST_FSN n k = 1048576 + 262144 * n + 1036 + 32 * k := rfl
@[simp] theorem addr_FCL_HIST_EPOCH (n k : Nat) : Reg.addr .FCL_HIST_EPOCH n k = 1048576 + 262144 * n + 1040 + 32 * k := rfl
@[simp] theorem addr_FCL_HIST_STATE (n k : Nat) : Reg.addr .FCL_HIST_STATE n k = 1048576 + 262144 * n + 1044 + 32 * k := rfl
@[simp] theorem addr_JRN_CMD (n k : Nat) : Reg.addr .JRN_CMD n k = 1310720 + 262144 * n + 0 + 4 * k := rfl
@[simp] theorem addr_JRN_EPOCH (n k : Nat) : Reg.addr .JRN_EPOCH n k = 1310720 + 262144 * n + 4 + 4 * k := rfl
@[simp] theorem addr_JRN_STAT (n k : Nat) : Reg.addr .JRN_STAT n k = 1310720 + 262144 * n + 8 + 4 * k := rfl
@[simp] theorem addr_JRN_SEQ (n k : Nat) : Reg.addr .JRN_SEQ n k = 1310720 + 262144 * n + 12 + 4 * k := rfl
@[simp] theorem addr_JRN_TAILSEQ (n k : Nat) : Reg.addr .JRN_TAILSEQ n k = 1310720 + 262144 * n + 16 + 4 * k := rfl
@[simp] theorem addr_JRN_SEALEPOCH (n k : Nat) : Reg.addr .JRN_SEALEPOCH n k = 1310720 + 262144 * n + 20 + 4 * k := rfl
@[simp] theorem addr_JRN_UNITEP (n k : Nat) : Reg.addr .JRN_UNITEP n k = 1310720 + 262144 * n + 32 + 4 * k := rfl
@[simp] theorem addr_JRN_RIDX (n k : Nat) : Reg.addr .JRN_RIDX n k = 1310720 + 262144 * n + 64 + 4 * k := rfl
@[simp] theorem addr_JRN_RDATA (n k : Nat) : Reg.addr .JRN_RDATA n k = 1310720 + 262144 * n + 80 + 4 * k := rfl
@[simp] theorem addr_OTP_DEVID (n k : Nat) : Reg.addr .OTP_DEVID n k = 1572864 + 262144 * n + 0 + 4 * k := rfl
@[simp] theorem addr_OTP_STAT (n k : Nat) : Reg.addr .OTP_STAT n k = 1572864 + 262144 * n + 4 + 4 * k := rfl
@[simp] theorem addr_OTP_RADDR (n k : Nat) : Reg.addr .OTP_RADDR n k = 1572864 + 262144 * n + 8 + 4 * k := rfl
@[simp] theorem addr_OTP_RDATA (n k : Nat) : Reg.addr .OTP_RDATA n k = 1572864 + 262144 * n + 12 + 4 * k := rfl
@[simp] theorem addr_OTP_PADDR (n k : Nat) : Reg.addr .OTP_PADDR n k = 1572864 + 262144 * n + 16 + 4 * k := rfl
@[simp] theorem addr_OTP_PDATA (n k : Nat) : Reg.addr .OTP_PDATA n k = 1572864 + 262144 * n + 20 + 4 * k := rfl
@[simp] theorem addr_OTP_PCMD (n k : Nat) : Reg.addr .OTP_PCMD n k = 1572864 + 262144 * n + 24 + 4 * k := rfl
@[simp] theorem addr_OTP_PSTAT (n k : Nat) : Reg.addr .OTP_PSTAT n k = 1572864 + 262144 * n + 28 + 4 * k := rfl
@[simp] theorem addr_OTP_SCRUB (n k : Nat) : Reg.addr .OTP_SCRUB n k = 1572864 + 262144 * n + 32 + 4 * k := rfl
@[simp] theorem addr_OTP_MLIST (n k : Nat) : Reg.addr .OTP_MLIST n k = 1572864 + 262144 * n + 64 + 4 * k := rfl
@[simp] theorem addr_LCS_BOOTSTAT (n k : Nat) : Reg.addr .LCS_BOOTSTAT n k = 1835008 + 262144 * n + 0 + 4 * k := rfl
@[simp] theorem addr_LCS_BOOTCMD (n k : Nat) : Reg.addr .LCS_BOOTCMD n k = 1835008 + 262144 * n + 4 + 4 * k := rfl
@[simp] theorem addr_LCS_WARMRST (n k : Nat) : Reg.addr .LCS_WARMRST n k = 1835008 + 262144 * n + 8 + 4 * k := rfl
@[simp] theorem addr_LCS_CHIPID_LO (n k : Nat) : Reg.addr .LCS_CHIPID_LO n k = 1835008 + 262144 * n + 48 + 4 * k := rfl
@[simp] theorem addr_LCS_CHIPID_HI (n k : Nat) : Reg.addr .LCS_CHIPID_HI n k = 1835008 + 262144 * n + 52 + 4 * k := rfl
@[simp] theorem addr_LCS_NONCE (n k : Nat) : Reg.addr .LCS_NONCE n k = 1835008 + 262144 * n + 32 + 4 * k := rfl
@[simp] theorem addr_LCS_TOKEN (n k : Nat) : Reg.addr .LCS_TOKEN n k = 1835008 + 262144 * n + 256 + 4 * k := rfl
@[simp] theorem addr_LCS_STATE (n k : Nat) : Reg.addr .LCS_STATE n k = 1835008 + 262144 * n + 12 + 4 * k := rfl
@[simp] theorem addr_LCS_LCCMD (n k : Nat) : Reg.addr .LCS_LCCMD n k = 1835008 + 262144 * n + 16 + 4 * k := rfl
@[simp] theorem addr_LCS_RESULT (n k : Nat) : Reg.addr .LCS_RESULT n k = 1835008 + 262144 * n + 20 + 4 * k := rfl
@[simp] theorem addr_LCS_ROSC (n k : Nat) : Reg.addr .LCS_ROSC n k = 1835008 + 262144 * n + 64 + 4 * k := rfl
@[simp] theorem addr_THM_LEVELS (n k : Nat) : Reg.addr .THM_LEVELS n k = 2097152 + 262144 * n + 0 + 4 * k := rfl
@[simp] theorem addr_THM_STAT (n k : Nat) : Reg.addr .THM_STAT n k = 2097152 + 262144 * n + 4 + 4 * k := rfl
@[simp] theorem addr_THM_BROKEN (n k : Nat) : Reg.addr .THM_BROKEN n k = 2097152 + 262144 * n + 8 + 4 * k := rfl
@[simp] theorem addr_THM_TS (n k : Nat) : Reg.addr .THM_TS n k = 2097152 + 262144 * n + 256 + 4 * k := rfl
@[simp] theorem addr_THM_TXCFG (n k : Nat) : Reg.addr .THM_TXCFG n k = 2097152 + 262144 * n + 512 + 4 * k := rfl
@[simp] theorem addr_THM_TXLIM (n k : Nat) : Reg.addr .THM_TXLIM n k = 2097152 + 262144 * n + 544 + 4 * k := rfl
@[simp] theorem addr_THM_TX (n k : Nat) : Reg.addr .THM_TX n k = 2097152 + 262144 * n + 576 + 4 * k := rfl
@[simp] theorem addr_THM_TXSTAT (n k : Nat) : Reg.addr .THM_TXSTAT n k = 2097152 + 262144 * n + 608 + 4 * k := rfl
@[simp] theorem addr_THM_PAIRCFG (n k : Nat) : Reg.addr .THM_PAIRCFG n k = 2097152 + 262144 * n + 612 + 4 * k := rfl
@[simp] theorem addr_PSQ_CTRL (n k : Nat) : Reg.addr .PSQ_CTRL n k = 2359296 + 262144 * n + 0 + 4 * k := rfl
@[simp] theorem addr_PSQ_CMD (n k : Nat) : Reg.addr .PSQ_CMD n k = 2359296 + 262144 * n + 4 + 4 * k := rfl
@[simp] theorem addr_PSQ_STAT (n k : Nat) : Reg.addr .PSQ_STAT n k = 2359296 + 262144 * n + 8 + 4 * k := rfl
@[simp] theorem addr_PSQ_ENTRY (n k : Nat) : Reg.addr .PSQ_ENTRY n k = 2359296 + 262144 * n + 12 + 4 * k := rfl
@[simp] theorem addr_PSQ_PGCFG (n k : Nat) : Reg.addr .PSQ_PGCFG n k = 2359296 + 262144 * n + 16 + 4 * k := rfl
@[simp] theorem addr_PSQ_VIN (n k : Nat) : Reg.addr .PSQ_VIN n k = 2359296 + 262144 * n + 20 + 4 * k := rfl
@[simp] theorem addr_PSQ_COOP (n k : Nat) : Reg.addr .PSQ_COOP n k = 2359296 + 262144 * n + 24 + 4 * k := rfl
@[simp] theorem addr_PSQ_WAKE (n k : Nat) : Reg.addr .PSQ_WAKE n k = 2359296 + 262144 * n + 28 + 4 * k := rfl
@[simp] theorem addr_PSQ_CAUSE (n k : Nat) : Reg.addr .PSQ_CAUSE n k = 2359296 + 262144 * n + 32 + 4 * k := rfl
@[simp] theorem addr_PSQ_RAILCFG (n k : Nat) : Reg.addr .PSQ_RAILCFG n k = 2359296 + 262144 * n + 256 + 4 * k := rfl
@[simp] theorem addr_PSQ_ENSTAT (n k : Nat) : Reg.addr .PSQ_ENSTAT n k = 2359296 + 262144 * n + 384 + 4 * k := rfl
@[simp] theorem addr_PSQ_PGSTAT (n k : Nat) : Reg.addr .PSQ_PGSTAT n k = 2359296 + 262144 * n + 388 + 4 * k := rfl
@[simp] theorem addr_PSQ_SLAVE (n k : Nat) : Reg.addr .PSQ_SLAVE n k = 2359296 + 262144 * n + 448 + 4 * k := rfl
@[simp] theorem addr_PSQ_PROG (n k : Nat) : Reg.addr .PSQ_PROG n k = 2359296 + 262144 * n + 1024 + 4 * k := rfl
@[simp] theorem addr_PSQ_MRG (n k : Nat) : Reg.addr .PSQ_MRG n k = 2359296 + 262144 * n + 400 + 4 * k := rfl
@[simp] theorem addr_OBS_CTRL (n k : Nat) : Reg.addr .OBS_CTRL n k = 2621440 + 262144 * n + 0 + 4 * k := rfl
@[simp] theorem addr_OBS_STAT (n k : Nat) : Reg.addr .OBS_STAT n k = 2621440 + 262144 * n + 4 + 4 * k := rfl
@[simp] theorem addr_OBS_HOSTEN (n k : Nat) : Reg.addr .OBS_HOSTEN n k = 2621440 + 262144 * n + 8 + 4 * k := rfl
@[simp] theorem addr_OBS_UACC (n k : Nat) : Reg.addr .OBS_UACC n k = 2621440 + 262144 * n + 12 + 4 * k := rfl
@[simp] theorem addr_OBS_TRCCFG (n k : Nat) : Reg.addr .OBS_TRCCFG n k = 2621440 + 262144 * n + 16 + 4 * k := rfl
@[simp] theorem addr_OBS_EVTMASK (n k : Nat) : Reg.addr .OBS_EVTMASK n k = 2621440 + 262144 * n + 20 + 4 * k := rfl
@[simp] theorem addr_OBS_BUFBASE_LO (n k : Nat) : Reg.addr .OBS_BUFBASE_LO n k = 2621440 + 262144 * n + 24 + 4 * k := rfl
@[simp] theorem addr_OBS_BUFBASE_HI (n k : Nat) : Reg.addr .OBS_BUFBASE_HI n k = 2621440 + 262144 * n + 28 + 4 * k := rfl
@[simp] theorem addr_OBS_BUFSIZE (n k : Nat) : Reg.addr .OBS_BUFSIZE n k = 2621440 + 262144 * n + 32 + 4 * k := rfl
@[simp] theorem addr_OBS_BUFWP (n k : Nat) : Reg.addr .OBS_BUFWP n k = 2621440 + 262144 * n + 36 + 4 * k := rfl
@[simp] theorem addr_OBS_MARK (n k : Nat) : Reg.addr .OBS_MARK n k = 2621440 + 262144 * n + 40 + 4 * k := rfl
@[simp] theorem addr_OBS_BWCFG (n k : Nat) : Reg.addr .OBS_BWCFG n k = 2621440 + 262144 * n + 48 + 4 * k := rfl
@[simp] theorem addr_OBS_BWLAST (n k : Nat) : Reg.addr .OBS_BWLAST n k = 2621440 + 262144 * n + 64 + 4 * k := rfl
@[simp] theorem addr_OBS_BWPEAK (n k : Nat) : Reg.addr .OBS_BWPEAK n k = 2621440 + 262144 * n + 128 + 4 * k := rfl
@[simp] theorem addr_OBS_EVSEL (n k : Nat) : Reg.addr .OBS_EVSEL n k = 2621440 + 262144 * n + 256 + 16 * k := rfl
@[simp] theorem addr_OBS_CNT_LO (n k : Nat) : Reg.addr .OBS_CNT_LO n k = 2621440 + 262144 * n + 260 + 16 * k := rfl
@[simp] theorem addr_OBS_CNT_HI (n k : Nat) : Reg.addr .OBS_CNT_HI n k = 2621440 + 262144 * n + 264 + 16 * k := rfl
@[simp] theorem addr_OBS_FIX_LO (n k : Nat) : Reg.addr .OBS_FIX_LO n k = 2621440 + 262144 * n + 1280 + 8 * k := rfl
@[simp] theorem addr_OBS_FIX_HI (n k : Nat) : Reg.addr .OBS_FIX_HI n k = 2621440 + 262144 * n + 1284 + 8 * k := rfl
@[simp] theorem addr_OBS_SAMP_PC (n k : Nat) : Reg.addr .OBS_SAMP_PC n k = 2621440 + 262144 * n + 1536 + 8 * k := rfl
@[simp] theorem addr_OBS_SAMP_INFO (n k : Nat) : Reg.addr .OBS_SAMP_INFO n k = 2621440 + 262144 * n + 1540 + 8 * k := rfl
@[simp] theorem addr_PMX_CLAIMREQ (n k : Nat) : Reg.addr .PMX_CLAIMREQ n k = 2883584 + 262144 * n + 0 + 4 * k := rfl
@[simp] theorem addr_PMX_CLAIMRES (n k : Nat) : Reg.addr .PMX_CLAIMRES n k = 2883584 + 262144 * n + 4 + 4 * k := rfl
@[simp] theorem addr_PMX_PADCFG (n k : Nat) : Reg.addr .PMX_PADCFG n k = 2883584 + 262144 * n + 4096 + 4 * k := rfl
@[simp] theorem addr_PMX_SNSWIRE (n k : Nat) : Reg.addr .PMX_SNSWIRE n k = 2883584 + 262144 * n + 16 + 4 * k := rfl
@[simp] theorem addr_PMX_SNSSTAT (n k : Nat) : Reg.addr .PMX_SNSSTAT n k = 2883584 + 262144 * n + 20 + 4 * k := rfl
@[simp] theorem addr_ING_CTRL (n k : Nat) : Reg.addr .ING_CTRL n k = 3145728 + 262144 * n + 0 + 4 * k := rfl
@[simp] theorem addr_ING_CTX_CFG (n k : Nat) : Reg.addr .ING_CTX_CFG n k = 3145728 + 262144 * n + 256 + 64 * k := rfl
@[simp] theorem addr_ING_CTX_JOB (n k : Nat) : Reg.addr .ING_CTX_JOB n k = 3145728 + 262144 * n + 260 + 64 * k := rfl
@[simp] theorem addr_ING_CTX_NB (n k : Nat) : Reg.addr .ING_CTX_NB n k = 3145728 + 262144 * n + 264 + 64 * k := rfl
@[simp] theorem addr_ING_CTX_STAT (n k : Nat) : Reg.addr .ING_CTX_STAT n k = 3145728 + 262144 * n + 268 + 64 * k := rfl
@[simp] theorem addr_ING_CTX_LOC_LO (n k : Nat) : Reg.addr .ING_CTX_LOC_LO n k = 3145728 + 262144 * n + 272 + 64 * k := rfl
@[simp] theorem addr_ING_CTX_LOC_HI (n k : Nat) : Reg.addr .ING_CTX_LOC_HI n k = 3145728 + 262144 * n + 276 + 64 * k := rfl
@[simp] theorem addr_ING_CTX_CRC (n k : Nat) : Reg.addr .ING_CTX_CRC n k = 3145728 + 262144 * n + 280 + 64 * k := rfl
@[simp] theorem addr_ING_CTX_TAIL (n k : Nat) : Reg.addr .ING_CTX_TAIL n k = 3145728 + 262144 * n + 284 + 64 * k := rfl
@[simp] theorem addr_DMA_APER_BASE_LO (n k : Nat) : Reg.addr .DMA_APER_BASE_LO n k = 3407872 + 262144 * n + 0 + 8 * k := rfl
@[simp] theorem addr_DMA_APER_BASE_HI (n k : Nat) : Reg.addr .DMA_APER_BASE_HI n k = 3407872 + 262144 * n + 4 + 8 * k := rfl
@[simp] theorem addr_DMA_CHCFG (n k : Nat) : Reg.addr .DMA_CHCFG n k = 3407872 + 262144 * n + 256 + 16 * k := rfl
@[simp] theorem addr_DMA_CHCTRL (n k : Nat) : Reg.addr .DMA_CHCTRL n k = 3407872 + 262144 * n + 260 + 16 * k := rfl
@[simp] theorem addr_DMA_CHSTAT (n k : Nat) : Reg.addr .DMA_CHSTAT n k = 3407872 + 262144 * n + 264 + 16 * k := rfl
@[simp] theorem addr_DMA_CHBYTES (n k : Nat) : Reg.addr .DMA_CHBYTES n k = 3407872 + 262144 * n + 268 + 16 * k := rfl
@[simp] theorem addr_SHW_PAGE (n k : Nat) : Reg.addr .SHW_PAGE n k = 3670016 + 262144 * n + 0 + 4 * k := rfl
@[simp] theorem addr_QST_QRING (n k : Nat) : Reg.addr .QST_QRING n k = 3932160 + 262144 * n + 0 + 4 * k := rfl
@[simp] theorem addr_QST_QSTAT (n k : Nat) : Reg.addr .QST_QSTAT n k = 3932160 + 262144 * n + 16 + 4 * k := rfl
@[simp] theorem addr_CMP_CTRL (n k : Nat) : Reg.addr .CMP_CTRL n k = 4194304 + 262144 * n + 0 + 4 * k := rfl
@[simp] theorem addr_CMP_STAT (n k : Nat) : Reg.addr .CMP_STAT n k = 4194304 + 262144 * n + 4 + 4 * k := rfl
@[simp] theorem addr_DCP_CTRL (n k : Nat) : Reg.addr .DCP_CTRL n k = 5242880 + 262144 * n + 0 + 4 * k := rfl
@[simp] theorem addr_DCP_JOB_LO (n k : Nat) : Reg.addr .DCP_JOB_LO n k = 5242880 + 262144 * n + 4 + 4 * k := rfl
@[simp] theorem addr_DCP_JOB_HI (n k : Nat) : Reg.addr .DCP_JOB_HI n k = 5242880 + 262144 * n + 8 + 4 * k := rfl
@[simp] theorem addr_DCP_STAT (n k : Nat) : Reg.addr .DCP_STAT n k = 5242880 + 262144 * n + 12 + 4 * k := rfl
@[simp] theorem addr_STR_CTRL (n k : Nat) : Reg.addr .STR_CTRL n k = 6291456 + 262144 * n + 0 + 4 * k := rfl
@[simp] theorem addr_STR_STAT (n k : Nat) : Reg.addr .STR_STAT n k = 6291456 + 262144 * n + 4 + 4 * k := rfl
@[simp] theorem addr_STR_SCAN (n k : Nat) : Reg.addr .STR_SCAN n k = 6291456 + 262144 * n + 8 + 4 * k := rfl
@[simp] theorem addr_STR_AMP (n k : Nat) : Reg.addr .STR_AMP n k = 6291456 + 262144 * n + 12 + 4 * k := rfl
@[simp] theorem addr_STR_DRIVE (n k : Nat) : Reg.addr .STR_DRIVE n k = 6291456 + 262144 * n + 16 + 4 * k := rfl
@[simp] theorem addr_STR_PERIOD (n k : Nat) : Reg.addr .STR_PERIOD n k = 6291456 + 262144 * n + 20 + 4 * k := rfl
@[simp] theorem addr_STR_BD (n k : Nat) : Reg.addr .STR_BD n k = 6291456 + 262144 * n + 24 + 4 * k := rfl
@[simp] theorem addr_STR_BDSTAT (n k : Nat) : Reg.addr .STR_BDSTAT n k = 6291456 + 262144 * n + 28 + 4 * k := rfl
@[simp] theorem addr_STR_APC (n k : Nat) : Reg.addr .STR_APC n k = 6291456 + 262144 * n + 32 + 4 * k := rfl
@[simp] theorem addr_STR_POLY (n k : Nat) : Reg.addr .STR_POLY n k = 6291456 + 262144 * n + 36 + 4 * k := rfl
@[simp] theorem addr_STR_POLYF (n k : Nat) : Reg.addr .STR_POLYF n k = 6291456 + 262144 * n + 40 + 4 * k := rfl
@[simp] theorem addr_STR_PHASE (n k : Nat) : Reg.addr .STR_PHASE n k = 6291456 + 262144 * n + 44 + 4 * k := rfl
@[simp] theorem addr_STR_WINDOW (n k : Nat) : Reg.addr .STR_WINDOW n k = 6291456 + 262144 * n + 48 + 4 * k := rfl
@[simp] theorem addr_STR_PROF (n k : Nat) : Reg.addr .STR_PROF n k = 6291456 + 262144 * n + 52 + 4 * k := rfl
@[simp] theorem addr_STR_PULSE (n k : Nat) : Reg.addr .STR_PULSE n k = 6291456 + 262144 * n + 56 + 4 * k := rfl
@[simp] theorem addr_STR_REGSCAN (n k : Nat) : Reg.addr .STR_REGSCAN n k = 6291456 + 262144 * n + 60 + 4 * k := rfl
@[simp] theorem addr_STR_DIROFS (n k : Nat) : Reg.addr .STR_DIROFS n k = 6291456 + 262144 * n + 64 + 4 * k := rfl
@[simp] theorem addr_STR_BEAMOFS (n k : Nat) : Reg.addr .STR_BEAMOFS n k = 6291456 + 262144 * n + 68 + 4 * k := rfl
@[simp] theorem addr_STR_LDCMD (n k : Nat) : Reg.addr .STR_LDCMD n k = 6291456 + 262144 * n + 128 + 4 * k := rfl
@[simp] theorem addr_STR_CALBUF (n k : Nat) : Reg.addr .STR_CALBUF n k = 6291456 + 262144 * n + 160 + 4 * k := rfl
@[simp] theorem addr_STR_CALN (n k : Nat) : Reg.addr .STR_CALN n k = 6291456 + 262144 * n + 172 + 4 * k := rfl
@[simp] theorem addr_STR_GLOBAL (n k : Nat) : Reg.addr .STR_GLOBAL n k = 6291456 + 262144 * n + 192 + 4 * k := rfl
@[simp] theorem addr_STR_SPEED (n k : Nat) : Reg.addr .STR_SPEED n k = 6291456 + 262144 * n + 200 + 4 * k := rfl
@[simp] theorem addr_STR_CALT_LO (n k : Nat) : Reg.addr .STR_CALT_LO n k = 6291456 + 262144 * n + 164 + 4 * k := rfl
@[simp] theorem addr_STR_CALT_HI (n k : Nat) : Reg.addr .STR_CALT_HI n k = 6291456 + 262144 * n + 168 + 4 * k := rfl
@[simp] theorem addr_STR_PCOMMIT (n k : Nat) : Reg.addr .STR_PCOMMIT n k = 6291456 + 262144 * n + 120 + 4 * k := rfl
@[simp] theorem addr_STR_COMMIT (n k : Nat) : Reg.addr .STR_COMMIT n k = 6291456 + 262144 * n + 124 + 4 * k := rfl
@[simp] theorem addr_STR_GCOMMIT (n k : Nat) : Reg.addr .STR_GCOMMIT n k = 6291456 + 262144 * n + 196 + 4 * k := rfl
@[simp] theorem addr_SYN_CTRL (n k : Nat) : Reg.addr .SYN_CTRL n k = 8388608 + 262144 * n + 0 + 4 * k := rfl
@[simp] theorem addr_SYN_STAT (n k : Nat) : Reg.addr .SYN_STAT n k = 8388608 + 262144 * n + 4 + 4 * k := rfl
@[simp] theorem addr_SYN_DIV (n k : Nat) : Reg.addr .SYN_DIV n k = 8388608 + 262144 * n + 16 + 4 * k := rfl
@[simp] theorem addr_SYN_CKO (n k : Nat) : Reg.addr .SYN_CKO n k = 8388608 + 262144 * n + 20 + 4 * k := rfl
@[simp] theorem addr_SYN_DCOMMIT (n k : Nat) : Reg.addr .SYN_DCOMMIT n k = 8388608 + 262144 * n + 28 + 4 * k := rfl
@[simp] theorem addr_SYN_CKOEN (n k : Nat) : Reg.addr .SYN_CKOEN n k = 8388608 + 262144 * n + 32 + 4 * k := rfl
@[simp] theorem addr_SYN_ALIGN (n k : Nat) : Reg.addr .SYN_ALIGN n k = 8388608 + 262144 * n + 48 + 4 * k := rfl
@[simp] theorem addr_SYN_RAMP (n k : Nat) : Reg.addr .SYN_RAMP n k = 8388608 + 262144 * n + 64 + 4 * k := rfl
@[simp] theorem addr_SYN_KVAL (n k : Nat) : Reg.addr .SYN_KVAL n k = 8388608 + 262144 * n + 68 + 4 * k := rfl
@[simp] theorem addr_SYN_FNOW (n k : Nat) : Reg.addr .SYN_FNOW n k = 8388608 + 262144 * n + 72 + 4 * k := rfl
@[simp] theorem addr_SYN_RANGE (n k : Nat) : Reg.addr .SYN_RANGE n k = 8388608 + 262144 * n + 76 + 4 * k := rfl
@[simp] theorem addr_CKU_CTRL (n k : Nat) : Reg.addr .CKU_CTRL n k = 10485760 + 262144 * n + 0 + 4 * k := rfl
@[simp] theorem addr_CKU_CFG (n k : Nat) : Reg.addr .CKU_CFG n k = 10485760 + 262144 * n + 4 + 4 * k := rfl
@[simp] theorem addr_CKU_POLY_LO (n k : Nat) : Reg.addr .CKU_POLY_LO n k = 10485760 + 262144 * n + 8 + 4 * k := rfl
@[simp] theorem addr_CKU_POLY_HI (n k : Nat) : Reg.addr .CKU_POLY_HI n k = 10485760 + 262144 * n + 12 + 4 * k := rfl
@[simp] theorem addr_CKU_INIT_LO (n k : Nat) : Reg.addr .CKU_INIT_LO n k = 10485760 + 262144 * n + 16 + 4 * k := rfl
@[simp] theorem addr_CKU_INIT_HI (n k : Nat) : Reg.addr .CKU_INIT_HI n k = 10485760 + 262144 * n + 20 + 4 * k := rfl
@[simp] theorem addr_CKU_RUN_LO (n k : Nat) : Reg.addr .CKU_RUN_LO n k = 10485760 + 262144 * n + 24 + 4 * k := rfl
@[simp] theorem addr_CKU_RUN_HI (n k : Nat) : Reg.addr .CKU_RUN_HI n k = 10485760 + 262144 * n + 28 + 4 * k := rfl
@[simp] theorem addr_CKU_OUT_LO (n k : Nat) : Reg.addr .CKU_OUT_LO n k = 10485760 + 262144 * n + 32 + 4 * k := rfl
@[simp] theorem addr_CKU_OUT_HI (n k : Nat) : Reg.addr .CKU_OUT_HI n k = 10485760 + 262144 * n + 36 + 4 * k := rfl
@[simp] theorem addr_CKU_DIN32 (n k : Nat) : Reg.addr .CKU_DIN32 n k = 10485760 + 262144 * n + 40 + 4 * k := rfl
@[simp] theorem addr_CKU_DIN8 (n k : Nat) : Reg.addr .CKU_DIN8 n k = 10485760 + 262144 * n + 44 + 4 * k := rfl
@[simp] theorem addr_CKU_BIND (n k : Nat) : Reg.addr .CKU_BIND n k = 10485760 + 262144 * n + 48 + 4 * k := rfl
@[simp] theorem addr_CKU_STAT (n k : Nat) : Reg.addr .CKU_STAT n k = 10485760 + 262144 * n + 52 + 4 * k := rfl
@[simp] theorem addr_HYW_CTRL (n k : Nat) : Reg.addr .HYW_CTRL n k = 12582912 + 262144 * n + 0 + 4 * k := rfl
@[simp] theorem addr_HYW_CFG (n k : Nat) : Reg.addr .HYW_CFG n k = 12582912 + 262144 * n + 4 + 4 * k := rfl
@[simp] theorem addr_HYW_CFG2 (n k : Nat) : Reg.addr .HYW_CFG2 n k = 12582912 + 262144 * n + 8 + 4 * k := rfl
@[simp] theorem addr_HYW_STAT (n k : Nat) : Reg.addr .HYW_STAT n k = 12582912 + 262144 * n + 12 + 4 * k := rfl
@[simp] theorem addr_HYW_ID_LO (n k : Nat) : Reg.addr .HYW_ID_LO n k = 12582912 + 262144 * n + 16 + 4 * k := rfl
@[simp] theorem addr_HYW_ID_HI (n k : Nat) : Reg.addr .HYW_ID_HI n k = 12582912 + 262144 * n + 20 + 4 * k := rfl
@[simp] theorem addr_HYW_RATED (n k : Nat) : Reg.addr .HYW_RATED n k = 12582912 + 262144 * n + 24 + 4 * k := rfl
@[simp] theorem addr_HYW_LIFE (n k : Nat) : Reg.addr .HYW_LIFE n k = 12582912 + 262144 * n + 28 + 4 * k := rfl
@[simp] theorem addr_HYW_METER (n k : Nat) : Reg.addr .HYW_METER n k = 12582912 + 262144 * n + 32 + 4 * k := rfl
@[simp] theorem addr_MOT_CTRL (n k : Nat) : Reg.addr .MOT_CTRL n k = 16777216 + 262144 * n + 0 + 4 * k := rfl
@[simp] theorem addr_MOT_CFG (n k : Nat) : Reg.addr .MOT_CFG n k = 16777216 + 262144 * n + 4 + 4 * k := rfl
@[simp] theorem addr_MOT_PWM (n k : Nat) : Reg.addr .MOT_PWM n k = 16777216 + 262144 * n + 8 + 4 * k := rfl
@[simp] theorem addr_MOT_PHOFS (n k : Nat) : Reg.addr .MOT_PHOFS n k = 16777216 + 262144 * n + 12 + 4 * k := rfl
@[simp] theorem addr_MOT_RATED (n k : Nat) : Reg.addr .MOT_RATED n k = 16777216 + 262144 * n + 16 + 4 * k := rfl
@[simp] theorem addr_MOT_ALIGN (n k : Nat) : Reg.addr .MOT_ALIGN n k = 16777216 + 262144 * n + 20 + 4 * k := rfl
@[simp] theorem addr_MOT_RAMP (n k : Nat) : Reg.addr .MOT_RAMP n k = 16777216 + 262144 * n + 24 + 4 * k := rfl
@[simp] theorem addr_MOT_SREG (n k : Nat) : Reg.addr .MOT_SREG n k = 16777216 + 262144 * n + 28 + 4 * k := rfl
@[simp] theorem addr_MOT_MODEL (n k : Nat) : Reg.addr .MOT_MODEL n k = 16777216 + 262144 * n + 32 + 4 * k := rfl
@[simp] theorem addr_MOT_MODEL2 (n k : Nat) : Reg.addr .MOT_MODEL2 n k = 16777216 + 262144 * n + 36 + 4 * k := rfl
@[simp] theorem addr_MOT_GEAR (n k : Nat) : Reg.addr .MOT_GEAR n k = 16777216 + 262144 * n + 40 + 4 * k := rfl
@[simp] theorem addr_MOT_LIM (n k : Nat) : Reg.addr .MOT_LIM n k = 16777216 + 262144 * n + 44 + 4 * k := rfl
@[simp] theorem addr_MOT_STAT (n k : Nat) : Reg.addr .MOT_STAT n k = 16777216 + 262144 * n + 48 + 4 * k := rfl
@[simp] theorem addr_MOT_MEAS_I (n k : Nat) : Reg.addr .MOT_MEAS_I n k = 16777216 + 262144 * n + 52 + 4 * k := rfl
@[simp] theorem addr_MOT_MEAS_W (n k : Nat) : Reg.addr .MOT_MEAS_W n k = 16777216 + 262144 * n + 56 + 4 * k := rfl
@[simp] theorem addr_MOT_MEAS_P (n k : Nat) : Reg.addr .MOT_MEAS_P n k = 16777216 + 262144 * n + 60 + 4 * k := rfl
@[simp] theorem addr_MOT_VCMD (n k : Nat) : Reg.addr .MOT_VCMD n k = 16777216 + 262144 * n + 64 + 4 * k := rfl
@[simp] theorem addr_MOT_SREF (n k : Nat) : Reg.addr .MOT_SREF n k = 16777216 + 262144 * n + 68 + 4 * k := rfl
@[simp] theorem addr_MOT_CATCH (n k : Nat) : Reg.addr .MOT_CATCH n k = 16777216 + 262144 * n + 72 + 4 * k := rfl
@[simp] theorem addr_MOT_DIAG (n k : Nat) : Reg.addr .MOT_DIAG n k = 16777216 + 262144 * n + 76 + 4 * k := rfl
@[simp] theorem addr_MOT_ADV (n k : Nat) : Reg.addr .MOT_ADV n k = 16777216 + 262144 * n + 256 + 4 * k := rfl
@[simp] theorem addr_MOT_ADVCOMMIT (n k : Nat) : Reg.addr .MOT_ADVCOMMIT n k = 16777216 + 262144 * n + 88 + 4 * k := rfl
@[simp] theorem addr_MOT_COMMIT (n k : Nat) : Reg.addr .MOT_COMMIT n k = 16777216 + 262144 * n + 92 + 4 * k := rfl
@[simp] theorem addr_STP_CTRL (n k : Nat) : Reg.addr .STP_CTRL n k = 20971520 + 262144 * n + 0 + 4 * k := rfl
@[simp] theorem addr_STP_CHOP (n k : Nat) : Reg.addr .STP_CHOP n k = 20971520 + 262144 * n + 4 + 4 * k := rfl
@[simp] theorem addr_STP_CURR (n k : Nat) : Reg.addr .STP_CURR n k = 20971520 + 262144 * n + 8 + 4 * k := rfl
@[simp] theorem addr_STP_VSTART (n k : Nat) : Reg.addr .STP_VSTART n k = 20971520 + 262144 * n + 16 + 4 * k := rfl
@[simp] theorem addr_STP_VSTOP (n k : Nat) : Reg.addr .STP_VSTOP n k = 20971520 + 262144 * n + 20 + 4 * k := rfl
@[simp] theorem addr_STP_V1 (n k : Nat) : Reg.addr .STP_V1 n k = 20971520 + 262144 * n + 24 + 4 * k := rfl
@[simp] theorem addr_STP_VMAX (n k : Nat) : Reg.addr .STP_VMAX n k = 20971520 + 262144 * n + 28 + 4 * k := rfl
@[simp] theorem addr_STP_A1 (n k : Nat) : Reg.addr .STP_A1 n k = 20971520 + 262144 * n + 32 + 4 * k := rfl
@[simp] theorem addr_STP_A2 (n k : Nat) : Reg.addr .STP_A2 n k = 20971520 + 262144 * n + 36 + 4 * k := rfl
@[simp] theorem addr_STP_TARGET (n k : Nat) : Reg.addr .STP_TARGET n k = 20971520 + 262144 * n + 40 + 4 * k := rfl
@[simp] theorem addr_STP_PCOMMIT (n k : Nat) : Reg.addr .STP_PCOMMIT n k = 20971520 + 262144 * n + 44 + 4 * k := rfl
@[simp] theorem addr_STP_POS (n k : Nat) : Reg.addr .STP_POS n k = 20971520 + 262144 * n + 48 + 4 * k := rfl
@[simp] theorem addr_STP_SPEED (n k : Nat) : Reg.addr .STP_SPEED n k = 20971520 + 262144 * n + 52 + 4 * k := rfl
@[simp] theorem addr_STP_LATCH (n k : Nat) : Reg.addr .STP_LATCH n k = 20971520 + 262144 * n + 56 + 4 * k := rfl
@[simp] theorem addr_STP_LPOS (n k : Nat) : Reg.addr .STP_LPOS n k = 20971520 + 262144 * n + 60 + 4 * k := rfl
@[simp] theorem addr_STP_LTIME_LO (n k : Nat) : Reg.addr .STP_LTIME_LO n k = 20971520 + 262144 * n + 64 + 4 * k := rfl
@[simp] theorem addr_STP_LTIME_HI (n k : Nat) : Reg.addr .STP_LTIME_HI n k = 20971520 + 262144 * n + 68 + 4 * k := rfl
@[simp] theorem addr_STP_STAT (n k : Nat) : Reg.addr .STP_STAT n k = 20971520 + 262144 * n + 72 + 4 * k := rfl
@[simp] theorem addr_STP_BUS0 (n k : Nat) : Reg.addr .STP_BUS0 n k = 20971520 + 262144 * n + 80 + 4 * k := rfl
@[simp] theorem addr_STP_BUS1 (n k : Nat) : Reg.addr .STP_BUS1 n k = 20971520 + 262144 * n + 84 + 4 * k := rfl
@[simp] theorem addr_STP_BUS2 (n k : Nat) : Reg.addr .STP_BUS2 n k = 20971520 + 262144 * n + 88 + 4 * k := rfl
@[simp] theorem addr_STP_BUSSTAT (n k : Nat) : Reg.addr .STP_BUSSTAT n k = 20971520 + 262144 * n + 92 + 4 * k := rfl
@[simp] theorem addr_HV_CTRL (n k : Nat) : Reg.addr .HV_CTRL n k = 25165824 + 262144 * n + 0 + 4 * k := rfl
@[simp] theorem addr_HV_CFG (n k : Nat) : Reg.addr .HV_CFG n k = 25165824 + 262144 * n + 4 + 4 * k := rfl
@[simp] theorem addr_HV_SCALE (n k : Nat) : Reg.addr .HV_SCALE n k = 25165824 + 262144 * n + 8 + 4 * k := rfl
@[simp] theorem addr_HV_SETA (n k : Nat) : Reg.addr .HV_SETA n k = 25165824 + 262144 * n + 12 + 4 * k := rfl
@[simp] theorem addr_HV_SETB (n k : Nat) : Reg.addr .HV_SETB n k = 25165824 + 262144 * n + 16 + 4 * k := rfl
@[simp] theorem addr_HV_LIMIT (n k : Nat) : Reg.addr .HV_LIMIT n k = 25165824 + 262144 * n + 20 + 4 * k := rfl
@[simp] theorem addr_HV_ARC (n k : Nat) : Reg.addr .HV_ARC n k = 25165824 + 262144 * n + 24 + 4 * k := rfl
@[simp] theorem addr_HV_MEAS (n k : Nat) : Reg.addr .HV_MEAS n k = 25165824 + 262144 * n + 28 + 4 * k := rfl
@[simp] theorem addr_HV_MEAS2 (n k : Nat) : Reg.addr .HV_MEAS2 n k = 25165824 + 262144 * n + 32 + 4 * k := rfl
@[simp] theorem addr_HV_REF (n k : Nat) : Reg.addr .HV_REF n k = 25165824 + 262144 * n + 36 + 4 * k := rfl
@[simp] theorem addr_HV_STAT (n k : Nat) : Reg.addr .HV_STAT n k = 25165824 + 262144 * n + 40 + 4 * k := rfl
@[simp] theorem addr_HV_APPLIED (n k : Nat) : Reg.addr .HV_APPLIED n k = 25165824 + 262144 * n + 44 + 4 * k := rfl
@[simp] theorem addr_FUS_CTRL (n k : Nat) : Reg.addr .FUS_CTRL n k = 29360128 + 262144 * n + 0 + 4 * k := rfl
@[simp] theorem addr_FUS_CFG (n k : Nat) : Reg.addr .FUS_CFG n k = 29360128 + 262144 * n + 4 + 4 * k := rfl
@[simp] theorem addr_FUS_LIM (n k : Nat) : Reg.addr .FUS_LIM n k = 29360128 + 262144 * n + 8 + 4 * k := rfl
@[simp] theorem addr_FUS_SCALE (n k : Nat) : Reg.addr .FUS_SCALE n k = 29360128 + 262144 * n + 12 + 4 * k := rfl
@[simp] theorem addr_FUS_THCFG (n k : Nat) : Reg.addr .FUS_THCFG n k = 29360128 + 262144 * n + 16 + 4 * k := rfl
@[simp] theorem addr_FUS_BAND (n k : Nat) : Reg.addr .FUS_BAND n k = 29360128 + 262144 * n + 28 + 4 * k := rfl
@[simp] theorem addr_FUS_TEMP (n k : Nat) : Reg.addr .FUS_TEMP n k = 29360128 + 262144 * n + 32 + 4 * k := rfl
@[simp] theorem addr_FUS_TH01 (n k : Nat) : Reg.addr .FUS_TH01 n k = 29360128 + 262144 * n + 36 + 4 * k := rfl
@[simp] theorem addr_FUS_ICUR (n k : Nat) : Reg.addr .FUS_ICUR n k = 29360128 + 262144 * n + 40 + 4 * k := rfl
@[simp] theorem addr_FUS_POWER (n k : Nat) : Reg.addr .FUS_POWER n k = 29360128 + 262144 * n + 44 + 4 * k := rfl
@[simp] theorem addr_FUS_STAT (n k : Nat) : Reg.addr .FUS_STAT n k = 29360128 + 262144 * n + 48 + 4 * k := rfl
@[simp] theorem addr_FUS_FLT (n k : Nat) : Reg.addr .FUS_FLT n k = 29360128 + 262144 * n + 52 + 4 * k := rfl

end Sys2Proof.Machine
end

