-- ==== Sys2Proof/Laws/Cells.lean ====
section
/-! SUPPORT. The laws of sparse cells: what a read gives after a write, and the canonical form kept (R8, R10). -/

namespace Sys2Proof.Machine

/-- A read gives what was last written there, and every other address keeps what it held. -/
theorem Cells.get_put {α : Type} [DecidableEq α] (d : α) (a b : Nat) (v : α) (m : List (Nat × α)) :
    Cells.get d b (Cells.put d a v m) = if b = a then v else Cells.get d b m := by
  induction m with
  | nil => simp only [Cells.put]; split <;> simp_all [Cells.get]
  | cons c t ih =>
    obtain ⟨k, w⟩ := c
    simp only [Cells.put]
    split
    · subst k; split <;> by_cases h : b = a <;> simp_all [Cells.get]
    · split
      · by_cases h : b = a <;> simp_all [Cells.get]
      · by_cases h : b = k
        · subst k; have : b ≠ a := fun e => by simp_all
          simp [Cells.get, this]
        · simp [Cells.get, h, ih]

@[simp] theorem Cells.get_put_same {α : Type} [DecidableEq α] (d : α) (a : Nat) (v : α) (m : List (Nat × α)) :
    Cells.get d a (Cells.put d a v m) = v := by simp [Cells.get_put]

/-- Another address keeps what it held, whatever it would read if unlisted. -/
theorem Cells.get_put_ne {α : Type} [DecidableEq α] (d e : α) {a b : Nat} (v : α) (m : List (Nat × α)) (h : b ≠ a) :
    Cells.get d b (Cells.put e a v m) = Cells.get d b m := by
  induction m with
  | nil => simp only [Cells.put]; split <;> simp [Cells.get, h]
  | cons c t ih =>
    obtain ⟨k, w⟩ := c
    simp only [Cells.put]
    split
    · subst k; split <;> simp [Cells.get, h, ih]
    · split
      · simp [Cells.get, h]
      · simp [Cells.get, ih]

theorem Cells.okFrom_put {α : Type} [DecidableEq α] (d : α) (a : Nat) (v : α) (m : List (Nat × α)) (b : Option Nat)
    (hm : Cells.okFrom d b m = true) (hb : ∀ x, b = some x → x < a) : Cells.okFrom d b (Cells.put d a v m) = true := by
  induction m generalizing b with
  | nil =>
    simp only [Cells.put]; split
    · rfl
    · cases b <;> simp_all [Cells.okFrom]
  | cons c t ih =>
    obtain ⟨k, w⟩ := c
    simp only [Cells.okFrom, Bool.and_eq_true, decide_eq_true_eq] at hm
    obtain ⟨⟨hk, hw⟩, ht⟩ := hm
    simp only [Cells.put]
    split
    · subst k
      split
      · refine ih b ?_ hb
        clear ih
        cases t with
        | nil => rfl
        | cons c' t' =>
          obtain ⟨k', w'⟩ := c'
          simp only [Cells.okFrom, Bool.and_eq_true, decide_eq_true_eq] at ht ⊢
          refine ⟨⟨?_, ht.1.2⟩, ht.2⟩
          cases b with
          | none => rfl
          | some x => simp only [decide_eq_true_eq]; have := hb x rfl; omega
      · cases b <;> simp_all [Cells.okFrom]
    · split
      · rename_i hlt
        cases b <;> simp_all [Cells.okFrom]
      · rename_i hne hlt
        simp only [Cells.okFrom, Bool.and_eq_true, decide_eq_true_eq]
        refine ⟨⟨hk, hw⟩, ?_⟩
        by_cases hv : v = d
        · -- nothing at or below k is put in: the rest only loses entries
          subst hv
          have key : ∀ (l : List (Nat × α)) (x : Nat), Cells.okFrom v (some x) l = true → Cells.okFrom v (some x) (Cells.put v a v l) = true := by
            intro l
            induction l with
            | nil => intro x _; simp [Cells.put, Cells.okFrom]
            | cons c' t' ih' =>
              intro x hx
              obtain ⟨k', w'⟩ := c'
              simp only [Cells.okFrom, Bool.and_eq_true, decide_eq_true_eq] at hx
              simp only [Cells.put, ne_eq, not_true_eq_false, and_false, if_false, if_true]
              split
              · refine ih' x ?_
                cases t' with
                | nil => rfl
                | cons c2 t2 =>
                  obtain ⟨k2, w2⟩ := c2
                  simp only [Cells.okFrom, Bool.and_eq_true, decide_eq_true_eq] at hx ⊢
                  exact ⟨⟨by omega, hx.2.1.2⟩, hx.2.2⟩
              · simp only [Cells.okFrom, Bool.and_eq_true, decide_eq_true_eq]
                exact ⟨hx.1, ih' k' hx.2⟩
          exact key t k ht
        · refine ih (some k) ht ?_
          intro x hx
          cases hx
          have : ¬ a < k := fun h => hlt ⟨h, hv⟩
          omega

/-- A write keeps the canonical form. -/
theorem Cells.wf_put {α : Type} [DecidableEq α] (d : α) (a : Nat) (v : α) (m : List (Nat × α))
    (h : Cells.wf d m = true) : Cells.wf d (Cells.put d a v m) = true :=
  Cells.okFrom_put d a v m none h (by simp)

theorem Cells.wf_writeN (d : Byte) (n : Nat) : ∀ (a v : Nat) (m : List (Nat × Byte)),
    Cells.wf d m = true → Cells.wf d (Cells.writeN d a n v m) = true := by
  induction n with
  | zero => intro a v m h; exact h
  | succ n ih => intro a v m h; exact ih _ _ _ (Cells.wf_put d a _ m h)

theorem Cells.wf_putBytes (d : Byte) (bs : List Nat) : ∀ (a : Nat) (m : List (Nat × Byte)),
    Cells.wf d m = true → Cells.wf d (Cells.putBytes d a bs m) = true := by
  induction bs with
  | nil => intro a m h; exact h
  | cons b t ih => intro a m h; exact ih _ _ (Cells.wf_put d a _ m h)

/-- Entries left out keep the form. -/
theorem Cells.wf_filter {α : Type} [DecidableEq α] (d : α) (p : Nat × α → Bool) (m : List (Nat × α))
    (h : Cells.wf d m = true) : Cells.wf d (m.filter p) = true := by
  have key : ∀ (l : List (Nat × α)) (b : Option Nat), Cells.okFrom d b l = true → Cells.okFrom d b (l.filter p) = true := by
    intro l
    induction l with
    | nil => intro b _; rfl
    | cons c t ih =>
      intro b hb
      obtain ⟨k, w⟩ := c
      simp only [Cells.okFrom, Bool.and_eq_true, decide_eq_true_eq] at hb
      by_cases hp : p (k, w) = true
      · simp only [List.filter_cons, hp, if_true, Cells.okFrom, Bool.and_eq_true, decide_eq_true_eq]
        exact ⟨hb.1, ih (some k) hb.2⟩
      · simp only [List.filter_cons, hp, Bool.false_eq_true, if_false]
        refine ih b ?_
        cases t with
        | nil => rfl
        | cons c' t' =>
          obtain ⟨k', w'⟩ := c'
          simp only [Cells.okFrom, Bool.and_eq_true, decide_eq_true_eq] at hb ⊢
          refine ⟨⟨?_, hb.2.1.2⟩, hb.2.2⟩
          cases b with
          | none => rfl
          | some x => simp only [decide_eq_true_eq] at *; omega
  exact key m none h

/-- Bytes outside a written stretch read as before. -/
theorem Cells.get_writeN_out (d : Byte) (n : Nat) : ∀ (a v b : Nat) (m : List (Nat × Byte)),
    b < a ∨ a + n ≤ b → Cells.get d b (Cells.writeN d a n v m) = Cells.get d b m := by
  induction n with
  | zero => intro a v b m _; rfl
  | succ n ih =>
    intro a v b m h
    simp only [Cells.writeN]
    rw [ih _ _ _ _ (by omega), Cells.get_put_ne d d _ _ (by omega)]

theorem Cells.get_putBytes_out (d : Byte) (bs : List Nat) : ∀ (a b : Nat) (m : List (Nat × Byte)),
    b < a ∨ a + bs.length ≤ b → Cells.get d b (Cells.putBytes d a bs m) = Cells.get d b m := by
  induction bs with
  | nil => intro a b m _; rfl
  | cons x t ih =>
    intro a b m h
    simp only [List.length_cons] at h
    simp only [Cells.putBytes]
    rw [ih _ _ _ (by omega), Cells.get_put_ne d d _ _ (by omega)]

/-- What is read from where n bytes were written is what was written, little-endian. -/
theorem Cells.readN_writeN (d : Byte) (n : Nat) : ∀ (a v : Nat) (m : List (Nat × Byte)),
    Cells.readN d a (Cells.writeN d a n v m) n = v % 256 ^ n := by
  induction n with
  | zero => intro a v m; simp [Cells.readN, Nat.mod_one]
  | succ n ih =>
    intro a v m
    simp only [Cells.readN, Cells.writeN, ih]
    rw [Cells.get_writeN_out d n (a + 1) (v / 256) a _ (Or.inl (by omega)), Cells.get_put_same, BitVec.toNat_ofNat,
      show 256 ^ (n + 1) = 256 * 256 ^ n by rw [Nat.pow_succ, Nat.mul_comm], Nat.mod_mul]

end Sys2Proof.Machine
end

