-- ==== Sys2Proof/Laws/Regs.lean ====
section
/-! SUPPORT. The laws of register words and their fields: what a field reads after a field is set, in the same register or another. -/

namespace Sys2Proof.Machine

theorem bits_lt (v hi lo : Nat) : bits v hi lo < 2 ^ (hi + 1 - lo) := Nat.mod_lt _ (Nat.two_pow_pos _)

theorem bits_testBit (v hi lo i : Nat) : (bits v hi lo).testBit i = (decide (i < hi + 1 - lo) && v.testBit (lo + i)) := by
  simp [bits, Nat.testBit_mod_two_pow, Nat.testBit_shiftRight]

theorem setBits_eq_or (v hi lo x : Nat) (h : lo ≤ hi + 1) :
    setBits v hi lo x = (v % 2 ^ lo) ||| ((x % 2 ^ (hi + 1 - lo)) <<< lo) ||| ((v >>> (hi + 1)) <<< (hi + 1)) := by
  have h1 : v % 2 ^ lo < 2 ^ lo := Nat.mod_lt _ (Nat.two_pow_pos _)
  have h2 : v % 2 ^ lo ||| ((x % 2 ^ (hi + 1 - lo)) <<< lo) = v % 2 ^ lo + (x % 2 ^ (hi + 1 - lo)) * 2 ^ lo := by
    rw [Nat.or_comm, ← Nat.shiftLeft_add_eq_or_of_lt h1, Nat.shiftLeft_eq, Nat.add_comm]
  have h3 : v % 2 ^ lo + (x % 2 ^ (hi + 1 - lo)) * 2 ^ lo < 2 ^ (hi + 1) := by
    have hx : x % 2 ^ (hi + 1 - lo) < 2 ^ (hi + 1 - lo) := Nat.mod_lt _ (Nat.two_pow_pos _)
    have e : 2 ^ (hi + 1) = 2 ^ (hi + 1 - lo) * 2 ^ lo := by rw [← Nat.pow_add, Nat.sub_add_cancel h]
    rw [e]
    calc v % 2 ^ lo + x % 2 ^ (hi + 1 - lo) * 2 ^ lo
        < 2 ^ lo + x % 2 ^ (hi + 1 - lo) * 2 ^ lo := Nat.add_lt_add_right h1 _
      _ = (x % 2 ^ (hi + 1 - lo) + 1) * 2 ^ lo := by rw [Nat.succ_mul, Nat.add_comm]
      _ ≤ 2 ^ (hi + 1 - lo) * 2 ^ lo := Nat.mul_le_mul_right _ hx
  rw [h2, Nat.or_comm, ← Nat.shiftLeft_add_eq_or_of_lt h3, Nat.shiftLeft_eq, setBits, Nat.add_comm]

theorem setBits_testBit (v hi lo x i : Nat) (h : lo ≤ hi + 1) :
    (setBits v hi lo x).testBit i = if lo ≤ i ∧ i ≤ hi then x.testBit (i - lo) else v.testBit i := by
  rw [setBits_eq_or v hi lo x h]
  simp only [Nat.testBit_or, Nat.testBit_mod_two_pow, Nat.testBit_shiftLeft, Nat.testBit_shiftRight]
  by_cases h1 : i < lo
  · have : ¬ (lo ≤ i) := by omega
    have : ¬ (hi + 1 ≤ i) := by omega
    simp [*]
  · by_cases h2 : i ≤ hi
    · have e1 : lo ≤ i := by omega
      have e2 : ¬ (hi + 1 ≤ i) := by omega
      have e3 : i - lo < hi + 1 - lo := by omega
      simp [*]
    · have e1 : lo ≤ i := by omega
      have e2 : hi + 1 ≤ i := by omega
      have e3 : ¬ (i - lo < hi + 1 - lo) := by omega
      have e4 : hi + 1 + (i - (hi + 1)) = i := by omega
      simp [*]

/-- The field just set reads what was set, cut to its width. -/
theorem bits_setBits_same (v hi lo x : Nat) (h : lo ≤ hi + 1) : bits (setBits v hi lo x) hi lo = x % 2 ^ (hi + 1 - lo) := by
  apply Nat.eq_of_testBit_eq
  intro i
  rw [bits_testBit, setBits_testBit _ _ _ _ _ h, Nat.testBit_mod_two_pow]
  by_cases hi' : i < hi + 1 - lo
  · have : lo ≤ lo + i ∧ lo + i ≤ hi := by omega
    simp [*]
  · simp [*]

/-- A field that does not meet the one set reads as before. -/
theorem bits_setBits_disj (v hi lo x hi' lo' : Nat) (h : lo ≤ hi + 1) (d : hi' < lo ∨ hi < lo') :
    bits (setBits v hi lo x) hi' lo' = bits v hi' lo' := by
  apply Nat.eq_of_testBit_eq
  intro i
  rw [bits_testBit, bits_testBit, setBits_testBit _ _ _ _ _ h]
  by_cases hi' : i < hi' + 1 - lo'
  · have : ¬ (lo ≤ lo' + i ∧ lo' + i ≤ hi) := by omega
    simp [*]
  · simp [*]

theorem bits_mod (v hi lo w : Nat) (h : hi < w) : bits (v % 2 ^ w) hi lo = bits v hi lo := by
  apply Nat.eq_of_testBit_eq
  intro i
  rw [bits_testBit, bits_testBit, Nat.testBit_mod_two_pow]
  by_cases hi' : i < hi + 1 - lo
  · have : lo + i < w := by omega
    simp [*]
  · simp [*]

theorem setBits_lt (v hi lo x w : Nat) (hv : v < 2 ^ w) (h : lo ≤ hi + 1) (hw : hi < w) : setBits v hi lo x < 2 ^ w := by
  apply Nat.lt_pow_two_of_testBit
  intro i hi'
  rw [setBits_testBit _ _ _ _ _ h]
  have : ¬ (lo ≤ i ∧ i ≤ hi) := by omega
  rw [if_neg this]
  exact Nat.testBit_lt_two_pow (Nat.lt_of_lt_of_le hv (Nat.pow_le_pow_right (by omega) hi'))

/-- The word just stored reads as stored, cut to 32 bits. -/
@[simp] theorem State.word_setWord_same (s : State) (r : Reg) (n k v : Nat) : (s.setWord r n k v).word r n k = v % 2 ^ 32 := by
  simp [State.word, State.setWord, BitVec.toNat_ofNat]

/-- A register at another address reads as before. -/
theorem State.word_setWord_ne (s : State) {r r' : Reg} {n k n' k' : Nat} (v : Nat) (h : r'.addr n' k' ≠ r.addr n k) :
    (s.setWord r n k v).word r' n' k' = s.word r' n' k' := by
  simp only [State.word, State.setWord]; rw [Cells.get_put_ne _ _ _ _ h]

@[simp] theorem State.active_setWord (s : State) {r r' : Reg} {n k n' k' : Nat} (v : Nat) (h : r'.addr n' k' + 0x8000 ≠ r.addr n k) :
    (s.setWord r n k v).active r' n' k' = s.active r' n' k' := by
  simp only [State.active, State.setWord]; rw [Cells.get_put_ne _ _ _ _ h]

theorem State.word_lt (s : State) (r : Reg) (n k : Nat) : s.word r n k < 2 ^ 32 := BitVec.isLt _

/-- The field just set reads what was set, cut to its width. -/
theorem State.g_p_same (s : State) (f : FieldRef) (x : Nat) (h : f.lo ≤ f.hi + 1) (hw : f.hi < 32) : (s.p f x).g f = x % 2 ^ (f.hi + 1 - f.lo) := by
  simp only [State.g, State.p, word_setWord_same]
  rw [bits_mod _ _ _ _ hw, bits_setBits_same _ _ _ _ h]

/-- A field of a register at another address reads as before. -/
theorem State.g_p_ne (s : State) {f f' : FieldRef} (x : Nat) (h : f'.reg.addr f'.n f'.k ≠ f.reg.addr f.n f.k) : (s.p f x).g f' = s.g f' := by
  simp only [State.g, State.p]; rw [word_setWord_ne _ _ h]

/-- A field of the same register that does not meet the one set reads as before. -/
theorem State.g_p_disj (s : State) {f f' : FieldRef} (x : Nat) (hr : f'.reg = f.reg) (hn : f'.n = f.n) (hk : f'.k = f.k) (h : f.lo ≤ f.hi + 1)
    (hw : f'.hi < 32) (d : f'.hi < f.lo ∨ f.hi < f'.lo) : (s.p f x).g f' = s.g f' := by
  simp only [State.g, State.p, hr, hn, hk, word_setWord_same]
  rw [bits_mod _ _ _ _ hw, bits_setBits_disj _ _ _ _ _ _ h d]

/-- A field reads within its width. -/
theorem State.g_lt (s : State) (f : FieldRef) : s.g f < 2 ^ (f.hi + 1 - f.lo) := bits_lt _ _ _

/-- A field of a register at another address than the one stored reads as before. -/
theorem State.g_setWord_ne (s : State) {r : Reg} {n k : Nat} {f : FieldRef} (v : Nat) (h : f.reg.addr f.n f.k ≠ r.addr n k) :
    (s.setWord r n k v).g f = s.g f := by
  simp only [State.g]; rw [word_setWord_ne _ _ h]

theorem State.word_p_ne (s : State) {f : FieldRef} {r : Reg} {n k : Nat} (x : Nat) (h : r.addr n k ≠ f.reg.addr f.n f.k) :
    (s.p f x).word r n k = s.word r n k := word_setWord_ne _ _ h

end Sys2Proof.Machine
end

