-- ==== Sys2Proof/Laws/State.lean ====
section
/-! SUPPORT. One equation per field of State and per plain update, so that no proof unfolds a record update. -/

namespace Sys2Proof.Machine

@[simp] theorem State.setWord_pending (s : State) (r : Reg) (n k v : Nat) : (s.setWord r n k v).pending = s.pending := rfl
@[simp] theorem State.setWord_free (s : State) (r : Reg) (n k v : Nat) : (s.setWord r n k v).free = s.free := rfl
@[simp] theorem State.setWord_cord (s : State) (r : Reg) (n k v : Nat) : (s.setWord r n k v).cord = s.cord := rfl
@[simp] theorem State.setWord_coreCycles (s : State) (r : Reg) (n k v : Nat) : (s.setWord r n k v).coreCycles = s.coreCycles := rfl
@[simp] theorem State.setWord_mem (s : State) (r : Reg) (n k v : Nat) : (s.setWord r n k v).mem = s.mem := rfl
@[simp] theorem State.setWord_fram (s : State) (r : Reg) (n k v : Nat) : (s.setWord r n k v).fram = s.fram := rfl
@[simp] theorem State.setWord_claims (s : State) (r : Reg) (n k v : Nat) : (s.setWord r n k v).claims = s.claims := rfl
@[simp] theorem State.setWord_adcOff (s : State) (r : Reg) (n k v : Nat) : (s.setWord r n k v).adcOff = s.adcOff := rfl
@[simp] theorem State.setWord_padOuts (s : State) (r : Reg) (n k v : Nat) : (s.setWord r n k v).padOuts = s.padOuts := rfl
@[simp] theorem State.setWord_acts (s : State) (r : Reg) (n k v : Nat) : (s.setWord r n k v).acts = s.acts := rfl
@[simp] theorem State.setWord_commits (s : State) (r : Reg) (n k v : Nat) : (s.setWord r n k v).commits = s.commits := rfl
@[simp] theorem State.setWord_copied (s : State) (r : Reg) (n k v : Nat) : (s.setWord r n k v).copied = s.copied := rfl
@[simp] theorem State.setWord_gath (s : State) (r : Reg) (n k v : Nat) : (s.setWord r n k v).gath = s.gath := rfl
@[simp] theorem State.setWord_fcl (s : State) (r : Reg) (n k v : Nat) : (s.setWord r n k v).fcl = s.fcl := rfl
@[simp] theorem State.setWord_jrn (s : State) (r : Reg) (n k v : Nat) : (s.setWord r n k v).jrn = s.jrn := rfl
@[simp] theorem State.setWord_str (s : State) (r : Reg) (n k v : Nat) : (s.setWord r n k v).str = s.str := rfl
@[simp] theorem State.setWord_syn (s : State) (r : Reg) (n k v : Nat) : (s.setWord r n k v).syn = s.syn := rfl
@[simp] theorem State.setWord_quire (s : State) (r : Reg) (n k v : Nat) : (s.setWord r n k v).quire = s.quire := rfl
@[simp] theorem State.setWord_jobs (s : State) (r : Reg) (n k v : Nat) : (s.setWord r n k v).jobs = s.jobs := rfl
@[simp] theorem State.setWord_ctx (s : State) (r : Reg) (n k v : Nat) : (s.setWord r n k v).ctx = s.ctx := rfl
@[simp] theorem State.setWord_cmp (s : State) (r : Reg) (n k v : Nat) : (s.setWord r n k v).cmp = s.cmp := rfl
@[simp] theorem State.setWord_lastHanded (s : State) (r : Reg) (n k v : Nat) : (s.setWord r n k v).lastHanded = s.lastHanded := rfl
@[simp] theorem State.setWord_dma (s : State) (r : Reg) (n k v : Nat) : (s.setWord r n k v).dma = s.dma := rfl
@[simp] theorem State.setWord_hostMem (s : State) (r : Reg) (n k v : Nat) : (s.setWord r n k v).hostMem = s.hostMem := rfl
@[simp] theorem State.setWord_poison (s : State) (r : Reg) (n k v : Nat) : (s.setWord r n k v).poison = s.poison := rfl
@[simp] theorem State.setWord_memChans (s : State) (r : Reg) (n k v : Nat) : (s.setWord r n k v).memChans = s.memChans := rfl
@[simp] theorem State.setWord_selfRefresh (s : State) (r : Reg) (n k v : Nat) : (s.setWord r n k v).selfRefresh = s.selfRefresh := rfl
@[simp] theorem State.setWord_cores (s : State) (r : Reg) (n k v : Nat) : (s.setWord r n k v).cores = s.cores := rfl
@[simp] theorem State.setWord_obs (s : State) (r : Reg) (n k v : Nat) : (s.setWord r n k v).obs = s.obs := rfl
@[simp] theorem State.setWord_wires (s : State) (r : Reg) (n k v : Nat) : (s.setWord r n k v).wires = s.wires := rfl
@[simp] theorem State.setWord_mot (s : State) (r : Reg) (n k v : Nat) : (s.setWord r n k v).mot = s.mot := rfl
@[simp] theorem State.setWord_stp (s : State) (r : Reg) (n k v : Nat) : (s.setWord r n k v).stp = s.stp := rfl
@[simp] theorem State.setWord_hv (s : State) (r : Reg) (n k v : Nat) : (s.setWord r n k v).hv = s.hv := rfl
@[simp] theorem State.setWord_fus (s : State) (r : Reg) (n k v : Nat) : (s.setWord r n k v).fus = s.fus := rfl
@[simp] theorem State.setWord_thm (s : State) (r : Reg) (n k v : Nat) : (s.setWord r n k v).thm = s.thm := rfl
@[simp] theorem State.setWord_psq (s : State) (r : Reg) (n k v : Nat) : (s.setWord r n k v).psq = s.psq := rfl
@[simp] theorem State.setWord_otp (s : State) (r : Reg) (n k v : Nat) : (s.setWord r n k v).otp = s.otp := rfl
@[simp] theorem State.setWord_roscAt (s : State) (r : Reg) (n k v : Nat) : (s.setWord r n k v).roscAt = s.roscAt := rfl
@[simp] theorem State.setWord_aon (s : State) (r : Reg) (n k v : Nat) : (s.setWord r n k v).aon = s.aon := rfl
@[simp] theorem State.setWord_busData (s : State) (r : Reg) (n k v : Nat) : (s.setWord r n k v).busData = s.busData := rfl
@[simp] theorem State.setWord_hyw (s : State) (r : Reg) (n k v : Nat) : (s.setWord r n k v).hyw = s.hyw := rfl
@[simp] theorem State.setWord_captured (s : State) (r : Reg) (n k v : Nat) : (s.setWord r n k v).captured = s.captured := rfl
@[simp] theorem State.setWord_staged (s : State) (r : Reg) (n k v : Nat) : (s.setWord r n k v).staged = s.staged := rfl
@[simp] theorem State.setWord_edges (s : State) (r : Reg) (n k v : Nat) : (s.setWord r n k v).edges = s.edges := rfl
@[simp] theorem State.setWord_padIns (s : State) (r : Reg) (n k v : Nat) : (s.setWord r n k v).padIns = s.padIns := rfl
@[simp] theorem State.setWord_mapping (s : State) (r : Reg) (n k v : Nat) : (s.setWord r n k v).mapping = s.mapping := rfl
@[simp] theorem State.setWord_fired (s : State) (r : Reg) (n k v : Nat) : (s.setWord r n k v).fired = s.fired := rfl
@[simp] theorem State.setWord_results (s : State) (r : Reg) (n k v : Nat) : (s.setWord r n k v).results = s.results := rfl
@[simp] theorem State.setWord_resultsAt (s : State) (r : Reg) (n k v : Nat) : (s.setWord r n k v).resultsAt = s.resultsAt := rfl
@[simp] theorem State.setWord_snsAt (s : State) (r : Reg) (n k v : Nat) : (s.setWord r n k v).snsAt = s.snsAt := rfl

@[simp] theorem State.setActive_pending (s : State) (r : Reg) (n k v : Nat) : (s.setActive r n k v).pending = s.pending := rfl
@[simp] theorem State.setActive_free (s : State) (r : Reg) (n k v : Nat) : (s.setActive r n k v).free = s.free := rfl
@[simp] theorem State.setActive_cord (s : State) (r : Reg) (n k v : Nat) : (s.setActive r n k v).cord = s.cord := rfl
@[simp] theorem State.setActive_coreCycles (s : State) (r : Reg) (n k v : Nat) : (s.setActive r n k v).coreCycles = s.coreCycles := rfl
@[simp] theorem State.setActive_mem (s : State) (r : Reg) (n k v : Nat) : (s.setActive r n k v).mem = s.mem := rfl
@[simp] theorem State.setActive_fram (s : State) (r : Reg) (n k v : Nat) : (s.setActive r n k v).fram = s.fram := rfl
@[simp] theorem State.setActive_claims (s : State) (r : Reg) (n k v : Nat) : (s.setActive r n k v).claims = s.claims := rfl
@[simp] theorem State.setActive_adcOff (s : State) (r : Reg) (n k v : Nat) : (s.setActive r n k v).adcOff = s.adcOff := rfl
@[simp] theorem State.setActive_padOuts (s : State) (r : Reg) (n k v : Nat) : (s.setActive r n k v).padOuts = s.padOuts := rfl
@[simp] theorem State.setActive_acts (s : State) (r : Reg) (n k v : Nat) : (s.setActive r n k v).acts = s.acts := rfl
@[simp] theorem State.setActive_commits (s : State) (r : Reg) (n k v : Nat) : (s.setActive r n k v).commits = s.commits := rfl
@[simp] theorem State.setActive_copied (s : State) (r : Reg) (n k v : Nat) : (s.setActive r n k v).copied = s.copied := rfl
@[simp] theorem State.setActive_gath (s : State) (r : Reg) (n k v : Nat) : (s.setActive r n k v).gath = s.gath := rfl
@[simp] theorem State.setActive_fcl (s : State) (r : Reg) (n k v : Nat) : (s.setActive r n k v).fcl = s.fcl := rfl
@[simp] theorem State.setActive_jrn (s : State) (r : Reg) (n k v : Nat) : (s.setActive r n k v).jrn = s.jrn := rfl
@[simp] theorem State.setActive_str (s : State) (r : Reg) (n k v : Nat) : (s.setActive r n k v).str = s.str := rfl
@[simp] theorem State.setActive_syn (s : State) (r : Reg) (n k v : Nat) : (s.setActive r n k v).syn = s.syn := rfl
@[simp] theorem State.setActive_quire (s : State) (r : Reg) (n k v : Nat) : (s.setActive r n k v).quire = s.quire := rfl
@[simp] theorem State.setActive_jobs (s : State) (r : Reg) (n k v : Nat) : (s.setActive r n k v).jobs = s.jobs := rfl
@[simp] theorem State.setActive_ctx (s : State) (r : Reg) (n k v : Nat) : (s.setActive r n k v).ctx = s.ctx := rfl
@[simp] theorem State.setActive_cmp (s : State) (r : Reg) (n k v : Nat) : (s.setActive r n k v).cmp = s.cmp := rfl
@[simp] theorem State.setActive_lastHanded (s : State) (r : Reg) (n k v : Nat) : (s.setActive r n k v).lastHanded = s.lastHanded := rfl
@[simp] theorem State.setActive_dma (s : State) (r : Reg) (n k v : Nat) : (s.setActive r n k v).dma = s.dma := rfl
@[simp] theorem State.setActive_hostMem (s : State) (r : Reg) (n k v : Nat) : (s.setActive r n k v).hostMem = s.hostMem := rfl
@[simp] theorem State.setActive_poison (s : State) (r : Reg) (n k v : Nat) : (s.setActive r n k v).poison = s.poison := rfl
@[simp] theorem State.setActive_memChans (s : State) (r : Reg) (n k v : Nat) : (s.setActive r n k v).memChans = s.memChans := rfl
@[simp] theorem State.setActive_selfRefresh (s : State) (r : Reg) (n k v : Nat) : (s.setActive r n k v).selfRefresh = s.selfRefresh := rfl
@[simp] theorem State.setActive_cores (s : State) (r : Reg) (n k v : Nat) : (s.setActive r n k v).cores = s.cores := rfl
@[simp] theorem State.setActive_obs (s : State) (r : Reg) (n k v : Nat) : (s.setActive r n k v).obs = s.obs := rfl
@[simp] theorem State.setActive_wires (s : State) (r : Reg) (n k v : Nat) : (s.setActive r n k v).wires = s.wires := rfl
@[simp] theorem State.setActive_mot (s : State) (r : Reg) (n k v : Nat) : (s.setActive r n k v).mot = s.mot := rfl
@[simp] theorem State.setActive_stp (s : State) (r : Reg) (n k v : Nat) : (s.setActive r n k v).stp = s.stp := rfl
@[simp] theorem State.setActive_hv (s : State) (r : Reg) (n k v : Nat) : (s.setActive r n k v).hv = s.hv := rfl
@[simp] theorem State.setActive_fus (s : State) (r : Reg) (n k v : Nat) : (s.setActive r n k v).fus = s.fus := rfl
@[simp] theorem State.setActive_thm (s : State) (r : Reg) (n k v : Nat) : (s.setActive r n k v).thm = s.thm := rfl
@[simp] theorem State.setActive_psq (s : State) (r : Reg) (n k v : Nat) : (s.setActive r n k v).psq = s.psq := rfl
@[simp] theorem State.setActive_otp (s : State) (r : Reg) (n k v : Nat) : (s.setActive r n k v).otp = s.otp := rfl
@[simp] theorem State.setActive_roscAt (s : State) (r : Reg) (n k v : Nat) : (s.setActive r n k v).roscAt = s.roscAt := rfl
@[simp] theorem State.setActive_aon (s : State) (r : Reg) (n k v : Nat) : (s.setActive r n k v).aon = s.aon := rfl
@[simp] theorem State.setActive_busData (s : State) (r : Reg) (n k v : Nat) : (s.setActive r n k v).busData = s.busData := rfl
@[simp] theorem State.setActive_hyw (s : State) (r : Reg) (n k v : Nat) : (s.setActive r n k v).hyw = s.hyw := rfl
@[simp] theorem State.setActive_captured (s : State) (r : Reg) (n k v : Nat) : (s.setActive r n k v).captured = s.captured := rfl
@[simp] theorem State.setActive_staged (s : State) (r : Reg) (n k v : Nat) : (s.setActive r n k v).staged = s.staged := rfl
@[simp] theorem State.setActive_edges (s : State) (r : Reg) (n k v : Nat) : (s.setActive r n k v).edges = s.edges := rfl
@[simp] theorem State.setActive_padIns (s : State) (r : Reg) (n k v : Nat) : (s.setActive r n k v).padIns = s.padIns := rfl
@[simp] theorem State.setActive_mapping (s : State) (r : Reg) (n k v : Nat) : (s.setActive r n k v).mapping = s.mapping := rfl
@[simp] theorem State.setActive_fired (s : State) (r : Reg) (n k v : Nat) : (s.setActive r n k v).fired = s.fired := rfl
@[simp] theorem State.setActive_results (s : State) (r : Reg) (n k v : Nat) : (s.setActive r n k v).results = s.results := rfl
@[simp] theorem State.setActive_resultsAt (s : State) (r : Reg) (n k v : Nat) : (s.setActive r n k v).resultsAt = s.resultsAt := rfl
@[simp] theorem State.setActive_snsAt (s : State) (r : Reg) (n k v : Nat) : (s.setActive r n k v).snsAt = s.snsAt := rfl

@[simp] theorem State.p_pending (s : State) (f : FieldRef) (x : Nat) : (s.p f x).pending = s.pending := rfl
@[simp] theorem State.p_free (s : State) (f : FieldRef) (x : Nat) : (s.p f x).free = s.free := rfl
@[simp] theorem State.p_cord (s : State) (f : FieldRef) (x : Nat) : (s.p f x).cord = s.cord := rfl
@[simp] theorem State.p_coreCycles (s : State) (f : FieldRef) (x : Nat) : (s.p f x).coreCycles = s.coreCycles := rfl
@[simp] theorem State.p_mem (s : State) (f : FieldRef) (x : Nat) : (s.p f x).mem = s.mem := rfl
@[simp] theorem State.p_fram (s : State) (f : FieldRef) (x : Nat) : (s.p f x).fram = s.fram := rfl
@[simp] theorem State.p_claims (s : State) (f : FieldRef) (x : Nat) : (s.p f x).claims = s.claims := rfl
@[simp] theorem State.p_adcOff (s : State) (f : FieldRef) (x : Nat) : (s.p f x).adcOff = s.adcOff := rfl
@[simp] theorem State.p_padOuts (s : State) (f : FieldRef) (x : Nat) : (s.p f x).padOuts = s.padOuts := rfl
@[simp] theorem State.p_acts (s : State) (f : FieldRef) (x : Nat) : (s.p f x).acts = s.acts := rfl
@[simp] theorem State.p_commits (s : State) (f : FieldRef) (x : Nat) : (s.p f x).commits = s.commits := rfl
@[simp] theorem State.p_copied (s : State) (f : FieldRef) (x : Nat) : (s.p f x).copied = s.copied := rfl
@[simp] theorem State.p_gath (s : State) (f : FieldRef) (x : Nat) : (s.p f x).gath = s.gath := rfl
@[simp] theorem State.p_fcl (s : State) (f : FieldRef) (x : Nat) : (s.p f x).fcl = s.fcl := rfl
@[simp] theorem State.p_jrn (s : State) (f : FieldRef) (x : Nat) : (s.p f x).jrn = s.jrn := rfl
@[simp] theorem State.p_str (s : State) (f : FieldRef) (x : Nat) : (s.p f x).str = s.str := rfl
@[simp] theorem State.p_syn (s : State) (f : FieldRef) (x : Nat) : (s.p f x).syn = s.syn := rfl
@[simp] theorem State.p_quire (s : State) (f : FieldRef) (x : Nat) : (s.p f x).quire = s.quire := rfl
@[simp] theorem State.p_jobs (s : State) (f : FieldRef) (x : Nat) : (s.p f x).jobs = s.jobs := rfl
@[simp] theorem State.p_ctx (s : State) (f : FieldRef) (x : Nat) : (s.p f x).ctx = s.ctx := rfl
@[simp] theorem State.p_cmp (s : State) (f : FieldRef) (x : Nat) : (s.p f x).cmp = s.cmp := rfl
@[simp] theorem State.p_lastHanded (s : State) (f : FieldRef) (x : Nat) : (s.p f x).lastHanded = s.lastHanded := rfl
@[simp] theorem State.p_dma (s : State) (f : FieldRef) (x : Nat) : (s.p f x).dma = s.dma := rfl
@[simp] theorem State.p_hostMem (s : State) (f : FieldRef) (x : Nat) : (s.p f x).hostMem = s.hostMem := rfl
@[simp] theorem State.p_poison (s : State) (f : FieldRef) (x : Nat) : (s.p f x).poison = s.poison := rfl
@[simp] theorem State.p_memChans (s : State) (f : FieldRef) (x : Nat) : (s.p f x).memChans = s.memChans := rfl
@[simp] theorem State.p_selfRefresh (s : State) (f : FieldRef) (x : Nat) : (s.p f x).selfRefresh = s.selfRefresh := rfl
@[simp] theorem State.p_cores (s : State) (f : FieldRef) (x : Nat) : (s.p f x).cores = s.cores := rfl
@[simp] theorem State.p_obs (s : State) (f : FieldRef) (x : Nat) : (s.p f x).obs = s.obs := rfl
@[simp] theorem State.p_wires (s : State) (f : FieldRef) (x : Nat) : (s.p f x).wires = s.wires := rfl
@[simp] theorem State.p_mot (s : State) (f : FieldRef) (x : Nat) : (s.p f x).mot = s.mot := rfl
@[simp] theorem State.p_stp (s : State) (f : FieldRef) (x : Nat) : (s.p f x).stp = s.stp := rfl
@[simp] theorem State.p_hv (s : State) (f : FieldRef) (x : Nat) : (s.p f x).hv = s.hv := rfl
@[simp] theorem State.p_fus (s : State) (f : FieldRef) (x : Nat) : (s.p f x).fus = s.fus := rfl
@[simp] theorem State.p_thm (s : State) (f : FieldRef) (x : Nat) : (s.p f x).thm = s.thm := rfl
@[simp] theorem State.p_psq (s : State) (f : FieldRef) (x : Nat) : (s.p f x).psq = s.psq := rfl
@[simp] theorem State.p_otp (s : State) (f : FieldRef) (x : Nat) : (s.p f x).otp = s.otp := rfl
@[simp] theorem State.p_roscAt (s : State) (f : FieldRef) (x : Nat) : (s.p f x).roscAt = s.roscAt := rfl
@[simp] theorem State.p_aon (s : State) (f : FieldRef) (x : Nat) : (s.p f x).aon = s.aon := rfl
@[simp] theorem State.p_busData (s : State) (f : FieldRef) (x : Nat) : (s.p f x).busData = s.busData := rfl
@[simp] theorem State.p_hyw (s : State) (f : FieldRef) (x : Nat) : (s.p f x).hyw = s.hyw := rfl
@[simp] theorem State.p_captured (s : State) (f : FieldRef) (x : Nat) : (s.p f x).captured = s.captured := rfl
@[simp] theorem State.p_staged (s : State) (f : FieldRef) (x : Nat) : (s.p f x).staged = s.staged := rfl
@[simp] theorem State.p_edges (s : State) (f : FieldRef) (x : Nat) : (s.p f x).edges = s.edges := rfl
@[simp] theorem State.p_padIns (s : State) (f : FieldRef) (x : Nat) : (s.p f x).padIns = s.padIns := rfl
@[simp] theorem State.p_mapping (s : State) (f : FieldRef) (x : Nat) : (s.p f x).mapping = s.mapping := rfl
@[simp] theorem State.p_fired (s : State) (f : FieldRef) (x : Nat) : (s.p f x).fired = s.fired := rfl
@[simp] theorem State.p_results (s : State) (f : FieldRef) (x : Nat) : (s.p f x).results = s.results := rfl
@[simp] theorem State.p_resultsAt (s : State) (f : FieldRef) (x : Nat) : (s.p f x).resultsAt = s.resultsAt := rfl
@[simp] theorem State.p_snsAt (s : State) (f : FieldRef) (x : Nat) : (s.p f x).snsAt = s.snsAt := rfl

@[simp] theorem State.pi_pending (s : State) (f : FieldRef) (x : Int) : (s.pi f x).pending = s.pending := rfl
@[simp] theorem State.pi_free (s : State) (f : FieldRef) (x : Int) : (s.pi f x).free = s.free := rfl
@[simp] theorem State.pi_cord (s : State) (f : FieldRef) (x : Int) : (s.pi f x).cord = s.cord := rfl
@[simp] theorem State.pi_coreCycles (s : State) (f : FieldRef) (x : Int) : (s.pi f x).coreCycles = s.coreCycles := rfl
@[simp] theorem State.pi_mem (s : State) (f : FieldRef) (x : Int) : (s.pi f x).mem = s.mem := rfl
@[simp] theorem State.pi_fram (s : State) (f : FieldRef) (x : Int) : (s.pi f x).fram = s.fram := rfl
@[simp] theorem State.pi_claims (s : State) (f : FieldRef) (x : Int) : (s.pi f x).claims = s.claims := rfl
@[simp] theorem State.pi_adcOff (s : State) (f : FieldRef) (x : Int) : (s.pi f x).adcOff = s.adcOff := rfl
@[simp] theorem State.pi_padOuts (s : State) (f : FieldRef) (x : Int) : (s.pi f x).padOuts = s.padOuts := rfl
@[simp] theorem State.pi_acts (s : State) (f : FieldRef) (x : Int) : (s.pi f x).acts = s.acts := rfl
@[simp] theorem State.pi_commits (s : State) (f : FieldRef) (x : Int) : (s.pi f x).commits = s.commits := rfl
@[simp] theorem State.pi_copied (s : State) (f : FieldRef) (x : Int) : (s.pi f x).copied = s.copied := rfl
@[simp] theorem State.pi_gath (s : State) (f : FieldRef) (x : Int) : (s.pi f x).gath = s.gath := rfl
@[simp] theorem State.pi_fcl (s : State) (f : FieldRef) (x : Int) : (s.pi f x).fcl = s.fcl := rfl
@[simp] theorem State.pi_jrn (s : State) (f : FieldRef) (x : Int) : (s.pi f x).jrn = s.jrn := rfl
@[simp] theorem State.pi_str (s : State) (f : FieldRef) (x : Int) : (s.pi f x).str = s.str := rfl
@[simp] theorem State.pi_syn (s : State) (f : FieldRef) (x : Int) : (s.pi f x).syn = s.syn := rfl
@[simp] theorem State.pi_quire (s : State) (f : FieldRef) (x : Int) : (s.pi f x).quire = s.quire := rfl
@[simp] theorem State.pi_jobs (s : State) (f : FieldRef) (x : Int) : (s.pi f x).jobs = s.jobs := rfl
@[simp] theorem State.pi_ctx (s : State) (f : FieldRef) (x : Int) : (s.pi f x).ctx = s.ctx := rfl
@[simp] theorem State.pi_cmp (s : State) (f : FieldRef) (x : Int) : (s.pi f x).cmp = s.cmp := rfl
@[simp] theorem State.pi_lastHanded (s : State) (f : FieldRef) (x : Int) : (s.pi f x).lastHanded = s.lastHanded := rfl
@[simp] theorem State.pi_dma (s : State) (f : FieldRef) (x : Int) : (s.pi f x).dma = s.dma := rfl
@[simp] theorem State.pi_hostMem (s : State) (f : FieldRef) (x : Int) : (s.pi f x).hostMem = s.hostMem := rfl
@[simp] theorem State.pi_poison (s : State) (f : FieldRef) (x : Int) : (s.pi f x).poison = s.poison := rfl
@[simp] theorem State.pi_memChans (s : State) (f : FieldRef) (x : Int) : (s.pi f x).memChans = s.memChans := rfl
@[simp] theorem State.pi_selfRefresh (s : State) (f : FieldRef) (x : Int) : (s.pi f x).selfRefresh = s.selfRefresh := rfl
@[simp] theorem State.pi_cores (s : State) (f : FieldRef) (x : Int) : (s.pi f x).cores = s.cores := rfl
@[simp] theorem State.pi_obs (s : State) (f : FieldRef) (x : Int) : (s.pi f x).obs = s.obs := rfl
@[simp] theorem State.pi_wires (s : State) (f : FieldRef) (x : Int) : (s.pi f x).wires = s.wires := rfl
@[simp] theorem State.pi_mot (s : State) (f : FieldRef) (x : Int) : (s.pi f x).mot = s.mot := rfl
@[simp] theorem State.pi_stp (s : State) (f : FieldRef) (x : Int) : (s.pi f x).stp = s.stp := rfl
@[simp] theorem State.pi_hv (s : State) (f : FieldRef) (x : Int) : (s.pi f x).hv = s.hv := rfl
@[simp] theorem State.pi_fus (s : State) (f : FieldRef) (x : Int) : (s.pi f x).fus = s.fus := rfl
@[simp] theorem State.pi_thm (s : State) (f : FieldRef) (x : Int) : (s.pi f x).thm = s.thm := rfl
@[simp] theorem State.pi_psq (s : State) (f : FieldRef) (x : Int) : (s.pi f x).psq = s.psq := rfl
@[simp] theorem State.pi_otp (s : State) (f : FieldRef) (x : Int) : (s.pi f x).otp = s.otp := rfl
@[simp] theorem State.pi_roscAt (s : State) (f : FieldRef) (x : Int) : (s.pi f x).roscAt = s.roscAt := rfl
@[simp] theorem State.pi_aon (s : State) (f : FieldRef) (x : Int) : (s.pi f x).aon = s.aon := rfl
@[simp] theorem State.pi_busData (s : State) (f : FieldRef) (x : Int) : (s.pi f x).busData = s.busData := rfl
@[simp] theorem State.pi_hyw (s : State) (f : FieldRef) (x : Int) : (s.pi f x).hyw = s.hyw := rfl
@[simp] theorem State.pi_captured (s : State) (f : FieldRef) (x : Int) : (s.pi f x).captured = s.captured := rfl
@[simp] theorem State.pi_staged (s : State) (f : FieldRef) (x : Int) : (s.pi f x).staged = s.staged := rfl
@[simp] theorem State.pi_edges (s : State) (f : FieldRef) (x : Int) : (s.pi f x).edges = s.edges := rfl
@[simp] theorem State.pi_padIns (s : State) (f : FieldRef) (x : Int) : (s.pi f x).padIns = s.padIns := rfl
@[simp] theorem State.pi_mapping (s : State) (f : FieldRef) (x : Int) : (s.pi f x).mapping = s.mapping := rfl
@[simp] theorem State.pi_fired (s : State) (f : FieldRef) (x : Int) : (s.pi f x).fired = s.fired := rfl
@[simp] theorem State.pi_results (s : State) (f : FieldRef) (x : Int) : (s.pi f x).results = s.results := rfl
@[simp] theorem State.pi_resultsAt (s : State) (f : FieldRef) (x : Int) : (s.pi f x).resultsAt = s.resultsAt := rfl
@[simp] theorem State.pi_snsAt (s : State) (f : FieldRef) (x : Int) : (s.pi f x).snsAt = s.snsAt := rfl

@[simp] theorem State.inc_pending (s : State) (f : FieldRef) (d : Nat) : (s.inc f d).pending = s.pending := rfl
@[simp] theorem State.inc_free (s : State) (f : FieldRef) (d : Nat) : (s.inc f d).free = s.free := rfl
@[simp] theorem State.inc_cord (s : State) (f : FieldRef) (d : Nat) : (s.inc f d).cord = s.cord := rfl
@[simp] theorem State.inc_coreCycles (s : State) (f : FieldRef) (d : Nat) : (s.inc f d).coreCycles = s.coreCycles := rfl
@[simp] theorem State.inc_mem (s : State) (f : FieldRef) (d : Nat) : (s.inc f d).mem = s.mem := rfl
@[simp] theorem State.inc_fram (s : State) (f : FieldRef) (d : Nat) : (s.inc f d).fram = s.fram := rfl
@[simp] theorem State.inc_claims (s : State) (f : FieldRef) (d : Nat) : (s.inc f d).claims = s.claims := rfl
@[simp] theorem State.inc_adcOff (s : State) (f : FieldRef) (d : Nat) : (s.inc f d).adcOff = s.adcOff := rfl
@[simp] theorem State.inc_padOuts (s : State) (f : FieldRef) (d : Nat) : (s.inc f d).padOuts = s.padOuts := rfl
@[simp] theorem State.inc_acts (s : State) (f : FieldRef) (d : Nat) : (s.inc f d).acts = s.acts := rfl
@[simp] theorem State.inc_commits (s : State) (f : FieldRef) (d : Nat) : (s.inc f d).commits = s.commits := rfl
@[simp] theorem State.inc_copied (s : State) (f : FieldRef) (d : Nat) : (s.inc f d).copied = s.copied := rfl
@[simp] theorem State.inc_gath (s : State) (f : FieldRef) (d : Nat) : (s.inc f d).gath = s.gath := rfl
@[simp] theorem State.inc_fcl (s : State) (f : FieldRef) (d : Nat) : (s.inc f d).fcl = s.fcl := rfl
@[simp] theorem State.inc_jrn (s : State) (f : FieldRef) (d : Nat) : (s.inc f d).jrn = s.jrn := rfl
@[simp] theorem State.inc_str (s : State) (f : FieldRef) (d : Nat) : (s.inc f d).str = s.str := rfl
@[simp] theorem State.inc_syn (s : State) (f : FieldRef) (d : Nat) : (s.inc f d).syn = s.syn := rfl
@[simp] theorem State.inc_quire (s : State) (f : FieldRef) (d : Nat) : (s.inc f d).quire = s.quire := rfl
@[simp] theorem State.inc_jobs (s : State) (f : FieldRef) (d : Nat) : (s.inc f d).jobs = s.jobs := rfl
@[simp] theorem State.inc_ctx (s : State) (f : FieldRef) (d : Nat) : (s.inc f d).ctx = s.ctx := rfl
@[simp] theorem State.inc_cmp (s : State) (f : FieldRef) (d : Nat) : (s.inc f d).cmp = s.cmp := rfl
@[simp] theorem State.inc_lastHanded (s : State) (f : FieldRef) (d : Nat) : (s.inc f d).lastHanded = s.lastHanded := rfl
@[simp] theorem State.inc_dma (s : State) (f : FieldRef) (d : Nat) : (s.inc f d).dma = s.dma := rfl
@[simp] theorem State.inc_hostMem (s : State) (f : FieldRef) (d : Nat) : (s.inc f d).hostMem = s.hostMem := rfl
@[simp] theorem State.inc_poison (s : State) (f : FieldRef) (d : Nat) : (s.inc f d).poison = s.poison := rfl
@[simp] theorem State.inc_memChans (s : State) (f : FieldRef) (d : Nat) : (s.inc f d).memChans = s.memChans := rfl
@[simp] theorem State.inc_selfRefresh (s : State) (f : FieldRef) (d : Nat) : (s.inc f d).selfRefresh = s.selfRefresh := rfl
@[simp] theorem State.inc_cores (s : State) (f : FieldRef) (d : Nat) : (s.inc f d).cores = s.cores := rfl
@[simp] theorem State.inc_obs (s : State) (f : FieldRef) (d : Nat) : (s.inc f d).obs = s.obs := rfl
@[simp] theorem State.inc_wires (s : State) (f : FieldRef) (d : Nat) : (s.inc f d).wires = s.wires := rfl
@[simp] theorem State.inc_mot (s : State) (f : FieldRef) (d : Nat) : (s.inc f d).mot = s.mot := rfl
@[simp] theorem State.inc_stp (s : State) (f : FieldRef) (d : Nat) : (s.inc f d).stp = s.stp := rfl
@[simp] theorem State.inc_hv (s : State) (f : FieldRef) (d : Nat) : (s.inc f d).hv = s.hv := rfl
@[simp] theorem State.inc_fus (s : State) (f : FieldRef) (d : Nat) : (s.inc f d).fus = s.fus := rfl
@[simp] theorem State.inc_thm (s : State) (f : FieldRef) (d : Nat) : (s.inc f d).thm = s.thm := rfl
@[simp] theorem State.inc_psq (s : State) (f : FieldRef) (d : Nat) : (s.inc f d).psq = s.psq := rfl
@[simp] theorem State.inc_otp (s : State) (f : FieldRef) (d : Nat) : (s.inc f d).otp = s.otp := rfl
@[simp] theorem State.inc_roscAt (s : State) (f : FieldRef) (d : Nat) : (s.inc f d).roscAt = s.roscAt := rfl
@[simp] theorem State.inc_aon (s : State) (f : FieldRef) (d : Nat) : (s.inc f d).aon = s.aon := rfl
@[simp] theorem State.inc_busData (s : State) (f : FieldRef) (d : Nat) : (s.inc f d).busData = s.busData := rfl
@[simp] theorem State.inc_hyw (s : State) (f : FieldRef) (d : Nat) : (s.inc f d).hyw = s.hyw := rfl
@[simp] theorem State.inc_captured (s : State) (f : FieldRef) (d : Nat) : (s.inc f d).captured = s.captured := rfl
@[simp] theorem State.inc_staged (s : State) (f : FieldRef) (d : Nat) : (s.inc f d).staged = s.staged := rfl
@[simp] theorem State.inc_edges (s : State) (f : FieldRef) (d : Nat) : (s.inc f d).edges = s.edges := rfl
@[simp] theorem State.inc_padIns (s : State) (f : FieldRef) (d : Nat) : (s.inc f d).padIns = s.padIns := rfl
@[simp] theorem State.inc_mapping (s : State) (f : FieldRef) (d : Nat) : (s.inc f d).mapping = s.mapping := rfl
@[simp] theorem State.inc_fired (s : State) (f : FieldRef) (d : Nat) : (s.inc f d).fired = s.fired := rfl
@[simp] theorem State.inc_results (s : State) (f : FieldRef) (d : Nat) : (s.inc f d).results = s.results := rfl
@[simp] theorem State.inc_resultsAt (s : State) (f : FieldRef) (d : Nat) : (s.inc f d).resultsAt = s.resultsAt := rfl
@[simp] theorem State.inc_snsAt (s : State) (f : FieldRef) (d : Nat) : (s.inc f d).snsAt = s.snsAt := rfl

@[simp] theorem State.incWrap_pending (s : State) (f : FieldRef) (d : Nat) : (s.incWrap f d).pending = s.pending := rfl
@[simp] theorem State.incWrap_free (s : State) (f : FieldRef) (d : Nat) : (s.incWrap f d).free = s.free := rfl
@[simp] theorem State.incWrap_cord (s : State) (f : FieldRef) (d : Nat) : (s.incWrap f d).cord = s.cord := rfl
@[simp] theorem State.incWrap_coreCycles (s : State) (f : FieldRef) (d : Nat) : (s.incWrap f d).coreCycles = s.coreCycles := rfl
@[simp] theorem State.incWrap_mem (s : State) (f : FieldRef) (d : Nat) : (s.incWrap f d).mem = s.mem := rfl
@[simp] theorem State.incWrap_fram (s : State) (f : FieldRef) (d : Nat) : (s.incWrap f d).fram = s.fram := rfl
@[simp] theorem State.incWrap_claims (s : State) (f : FieldRef) (d : Nat) : (s.incWrap f d).claims = s.claims := rfl
@[simp] theorem State.incWrap_adcOff (s : State) (f : FieldRef) (d : Nat) : (s.incWrap f d).adcOff = s.adcOff := rfl
@[simp] theorem State.incWrap_padOuts (s : State) (f : FieldRef) (d : Nat) : (s.incWrap f d).padOuts = s.padOuts := rfl
@[simp] theorem State.incWrap_acts (s : State) (f : FieldRef) (d : Nat) : (s.incWrap f d).acts = s.acts := rfl
@[simp] theorem State.incWrap_commits (s : State) (f : FieldRef) (d : Nat) : (s.incWrap f d).commits = s.commits := rfl
@[simp] theorem State.incWrap_copied (s : State) (f : FieldRef) (d : Nat) : (s.incWrap f d).copied = s.copied := rfl
@[simp] theorem State.incWrap_gath (s : State) (f : FieldRef) (d : Nat) : (s.incWrap f d).gath = s.gath := rfl
@[simp] theorem State.incWrap_fcl (s : State) (f : FieldRef) (d : Nat) : (s.incWrap f d).fcl = s.fcl := rfl
@[simp] theorem State.incWrap_jrn (s : State) (f : FieldRef) (d : Nat) : (s.incWrap f d).jrn = s.jrn := rfl
@[simp] theorem State.incWrap_str (s : State) (f : FieldRef) (d : Nat) : (s.incWrap f d).str = s.str := rfl
@[simp] theorem State.incWrap_syn (s : State) (f : FieldRef) (d : Nat) : (s.incWrap f d).syn = s.syn := rfl
@[simp] theorem State.incWrap_quire (s : State) (f : FieldRef) (d : Nat) : (s.incWrap f d).quire = s.quire := rfl
@[simp] theorem State.incWrap_jobs (s : State) (f : FieldRef) (d : Nat) : (s.incWrap f d).jobs = s.jobs := rfl
@[simp] theorem State.incWrap_ctx (s : State) (f : FieldRef) (d : Nat) : (s.incWrap f d).ctx = s.ctx := rfl
@[simp] theorem State.incWrap_cmp (s : State) (f : FieldRef) (d : Nat) : (s.incWrap f d).cmp = s.cmp := rfl
@[simp] theorem State.incWrap_lastHanded (s : State) (f : FieldRef) (d : Nat) : (s.incWrap f d).lastHanded = s.lastHanded := rfl
@[simp] theorem State.incWrap_dma (s : State) (f : FieldRef) (d : Nat) : (s.incWrap f d).dma = s.dma := rfl
@[simp] theorem State.incWrap_hostMem (s : State) (f : FieldRef) (d : Nat) : (s.incWrap f d).hostMem = s.hostMem := rfl
@[simp] theorem State.incWrap_poison (s : State) (f : FieldRef) (d : Nat) : (s.incWrap f d).poison = s.poison := rfl
@[simp] theorem State.incWrap_memChans (s : State) (f : FieldRef) (d : Nat) : (s.incWrap f d).memChans = s.memChans := rfl
@[simp] theorem State.incWrap_selfRefresh (s : State) (f : FieldRef) (d : Nat) : (s.incWrap f d).selfRefresh = s.selfRefresh := rfl
@[simp] theorem State.incWrap_cores (s : State) (f : FieldRef) (d : Nat) : (s.incWrap f d).cores = s.cores := rfl
@[simp] theorem State.incWrap_obs (s : State) (f : FieldRef) (d : Nat) : (s.incWrap f d).obs = s.obs := rfl
@[simp] theorem State.incWrap_wires (s : State) (f : FieldRef) (d : Nat) : (s.incWrap f d).wires = s.wires := rfl
@[simp] theorem State.incWrap_mot (s : State) (f : FieldRef) (d : Nat) : (s.incWrap f d).mot = s.mot := rfl
@[simp] theorem State.incWrap_stp (s : State) (f : FieldRef) (d : Nat) : (s.incWrap f d).stp = s.stp := rfl
@[simp] theorem State.incWrap_hv (s : State) (f : FieldRef) (d : Nat) : (s.incWrap f d).hv = s.hv := rfl
@[simp] theorem State.incWrap_fus (s : State) (f : FieldRef) (d : Nat) : (s.incWrap f d).fus = s.fus := rfl
@[simp] theorem State.incWrap_thm (s : State) (f : FieldRef) (d : Nat) : (s.incWrap f d).thm = s.thm := rfl
@[simp] theorem State.incWrap_psq (s : State) (f : FieldRef) (d : Nat) : (s.incWrap f d).psq = s.psq := rfl
@[simp] theorem State.incWrap_otp (s : State) (f : FieldRef) (d : Nat) : (s.incWrap f d).otp = s.otp := rfl
@[simp] theorem State.incWrap_roscAt (s : State) (f : FieldRef) (d : Nat) : (s.incWrap f d).roscAt = s.roscAt := rfl
@[simp] theorem State.incWrap_aon (s : State) (f : FieldRef) (d : Nat) : (s.incWrap f d).aon = s.aon := rfl
@[simp] theorem State.incWrap_busData (s : State) (f : FieldRef) (d : Nat) : (s.incWrap f d).busData = s.busData := rfl
@[simp] theorem State.incWrap_hyw (s : State) (f : FieldRef) (d : Nat) : (s.incWrap f d).hyw = s.hyw := rfl
@[simp] theorem State.incWrap_captured (s : State) (f : FieldRef) (d : Nat) : (s.incWrap f d).captured = s.captured := rfl
@[simp] theorem State.incWrap_staged (s : State) (f : FieldRef) (d : Nat) : (s.incWrap f d).staged = s.staged := rfl
@[simp] theorem State.incWrap_edges (s : State) (f : FieldRef) (d : Nat) : (s.incWrap f d).edges = s.edges := rfl
@[simp] theorem State.incWrap_padIns (s : State) (f : FieldRef) (d : Nat) : (s.incWrap f d).padIns = s.padIns := rfl
@[simp] theorem State.incWrap_mapping (s : State) (f : FieldRef) (d : Nat) : (s.incWrap f d).mapping = s.mapping := rfl
@[simp] theorem State.incWrap_fired (s : State) (f : FieldRef) (d : Nat) : (s.incWrap f d).fired = s.fired := rfl
@[simp] theorem State.incWrap_results (s : State) (f : FieldRef) (d : Nat) : (s.incWrap f d).results = s.results := rfl
@[simp] theorem State.incWrap_resultsAt (s : State) (f : FieldRef) (d : Nat) : (s.incWrap f d).resultsAt = s.resultsAt := rfl
@[simp] theorem State.incWrap_snsAt (s : State) (f : FieldRef) (d : Nat) : (s.incWrap f d).snsAt = s.snsAt := rfl

@[simp] theorem State.clearRegs_pending (s : State) (lo hi : Nat) : (s.clearRegs lo hi).pending = s.pending := rfl
@[simp] theorem State.clearRegs_free (s : State) (lo hi : Nat) : (s.clearRegs lo hi).free = s.free := rfl
@[simp] theorem State.clearRegs_cord (s : State) (lo hi : Nat) : (s.clearRegs lo hi).cord = s.cord := rfl
@[simp] theorem State.clearRegs_coreCycles (s : State) (lo hi : Nat) : (s.clearRegs lo hi).coreCycles = s.coreCycles := rfl
@[simp] theorem State.clearRegs_mem (s : State) (lo hi : Nat) : (s.clearRegs lo hi).mem = s.mem := rfl
@[simp] theorem State.clearRegs_fram (s : State) (lo hi : Nat) : (s.clearRegs lo hi).fram = s.fram := rfl
@[simp] theorem State.clearRegs_claims (s : State) (lo hi : Nat) : (s.clearRegs lo hi).claims = s.claims := rfl
@[simp] theorem State.clearRegs_adcOff (s : State) (lo hi : Nat) : (s.clearRegs lo hi).adcOff = s.adcOff := rfl
@[simp] theorem State.clearRegs_padOuts (s : State) (lo hi : Nat) : (s.clearRegs lo hi).padOuts = s.padOuts := rfl
@[simp] theorem State.clearRegs_acts (s : State) (lo hi : Nat) : (s.clearRegs lo hi).acts = s.acts := rfl
@[simp] theorem State.clearRegs_commits (s : State) (lo hi : Nat) : (s.clearRegs lo hi).commits = s.commits := rfl
@[simp] theorem State.clearRegs_copied (s : State) (lo hi : Nat) : (s.clearRegs lo hi).copied = s.copied := rfl
@[simp] theorem State.clearRegs_gath (s : State) (lo hi : Nat) : (s.clearRegs lo hi).gath = s.gath := rfl
@[simp] theorem State.clearRegs_fcl (s : State) (lo hi : Nat) : (s.clearRegs lo hi).fcl = s.fcl := rfl
@[simp] theorem State.clearRegs_jrn (s : State) (lo hi : Nat) : (s.clearRegs lo hi).jrn = s.jrn := rfl
@[simp] theorem State.clearRegs_str (s : State) (lo hi : Nat) : (s.clearRegs lo hi).str = s.str := rfl
@[simp] theorem State.clearRegs_syn (s : State) (lo hi : Nat) : (s.clearRegs lo hi).syn = s.syn := rfl
@[simp] theorem State.clearRegs_quire (s : State) (lo hi : Nat) : (s.clearRegs lo hi).quire = s.quire := rfl
@[simp] theorem State.clearRegs_jobs (s : State) (lo hi : Nat) : (s.clearRegs lo hi).jobs = s.jobs := rfl
@[simp] theorem State.clearRegs_ctx (s : State) (lo hi : Nat) : (s.clearRegs lo hi).ctx = s.ctx := rfl
@[simp] theorem State.clearRegs_cmp (s : State) (lo hi : Nat) : (s.clearRegs lo hi).cmp = s.cmp := rfl
@[simp] theorem State.clearRegs_lastHanded (s : State) (lo hi : Nat) : (s.clearRegs lo hi).lastHanded = s.lastHanded := rfl
@[simp] theorem State.clearRegs_dma (s : State) (lo hi : Nat) : (s.clearRegs lo hi).dma = s.dma := rfl
@[simp] theorem State.clearRegs_hostMem (s : State) (lo hi : Nat) : (s.clearRegs lo hi).hostMem = s.hostMem := rfl
@[simp] theorem State.clearRegs_poison (s : State) (lo hi : Nat) : (s.clearRegs lo hi).poison = s.poison := rfl
@[simp] theorem State.clearRegs_memChans (s : State) (lo hi : Nat) : (s.clearRegs lo hi).memChans = s.memChans := rfl
@[simp] theorem State.clearRegs_selfRefresh (s : State) (lo hi : Nat) : (s.clearRegs lo hi).selfRefresh = s.selfRefresh := rfl
@[simp] theorem State.clearRegs_cores (s : State) (lo hi : Nat) : (s.clearRegs lo hi).cores = s.cores := rfl
@[simp] theorem State.clearRegs_obs (s : State) (lo hi : Nat) : (s.clearRegs lo hi).obs = s.obs := rfl
@[simp] theorem State.clearRegs_wires (s : State) (lo hi : Nat) : (s.clearRegs lo hi).wires = s.wires := rfl
@[simp] theorem State.clearRegs_mot (s : State) (lo hi : Nat) : (s.clearRegs lo hi).mot = s.mot := rfl
@[simp] theorem State.clearRegs_stp (s : State) (lo hi : Nat) : (s.clearRegs lo hi).stp = s.stp := rfl
@[simp] theorem State.clearRegs_hv (s : State) (lo hi : Nat) : (s.clearRegs lo hi).hv = s.hv := rfl
@[simp] theorem State.clearRegs_fus (s : State) (lo hi : Nat) : (s.clearRegs lo hi).fus = s.fus := rfl
@[simp] theorem State.clearRegs_thm (s : State) (lo hi : Nat) : (s.clearRegs lo hi).thm = s.thm := rfl
@[simp] theorem State.clearRegs_psq (s : State) (lo hi : Nat) : (s.clearRegs lo hi).psq = s.psq := rfl
@[simp] theorem State.clearRegs_otp (s : State) (lo hi : Nat) : (s.clearRegs lo hi).otp = s.otp := rfl
@[simp] theorem State.clearRegs_roscAt (s : State) (lo hi : Nat) : (s.clearRegs lo hi).roscAt = s.roscAt := rfl
@[simp] theorem State.clearRegs_aon (s : State) (lo hi : Nat) : (s.clearRegs lo hi).aon = s.aon := rfl
@[simp] theorem State.clearRegs_busData (s : State) (lo hi : Nat) : (s.clearRegs lo hi).busData = s.busData := rfl
@[simp] theorem State.clearRegs_hyw (s : State) (lo hi : Nat) : (s.clearRegs lo hi).hyw = s.hyw := rfl
@[simp] theorem State.clearRegs_captured (s : State) (lo hi : Nat) : (s.clearRegs lo hi).captured = s.captured := rfl
@[simp] theorem State.clearRegs_staged (s : State) (lo hi : Nat) : (s.clearRegs lo hi).staged = s.staged := rfl
@[simp] theorem State.clearRegs_edges (s : State) (lo hi : Nat) : (s.clearRegs lo hi).edges = s.edges := rfl
@[simp] theorem State.clearRegs_padIns (s : State) (lo hi : Nat) : (s.clearRegs lo hi).padIns = s.padIns := rfl
@[simp] theorem State.clearRegs_mapping (s : State) (lo hi : Nat) : (s.clearRegs lo hi).mapping = s.mapping := rfl
@[simp] theorem State.clearRegs_fired (s : State) (lo hi : Nat) : (s.clearRegs lo hi).fired = s.fired := rfl
@[simp] theorem State.clearRegs_results (s : State) (lo hi : Nat) : (s.clearRegs lo hi).results = s.results := rfl
@[simp] theorem State.clearRegs_resultsAt (s : State) (lo hi : Nat) : (s.clearRegs lo hi).resultsAt = s.resultsAt := rfl
@[simp] theorem State.clearRegs_snsAt (s : State) (lo hi : Nat) : (s.clearRegs lo hi).snsAt = s.snsAt := rfl

@[simp] theorem State.wr_pending (s : State) (a n v : Nat) : (s.wr a n v).pending = s.pending := rfl
@[simp] theorem State.wr_free (s : State) (a n v : Nat) : (s.wr a n v).free = s.free := rfl
@[simp] theorem State.wr_cord (s : State) (a n v : Nat) : (s.wr a n v).cord = s.cord := rfl
@[simp] theorem State.wr_coreCycles (s : State) (a n v : Nat) : (s.wr a n v).coreCycles = s.coreCycles := rfl
@[simp] theorem State.wr_regs (s : State) (a n v : Nat) : (s.wr a n v).regs = s.regs := rfl
@[simp] theorem State.wr_fram (s : State) (a n v : Nat) : (s.wr a n v).fram = s.fram := rfl
@[simp] theorem State.wr_claims (s : State) (a n v : Nat) : (s.wr a n v).claims = s.claims := rfl
@[simp] theorem State.wr_adcOff (s : State) (a n v : Nat) : (s.wr a n v).adcOff = s.adcOff := rfl
@[simp] theorem State.wr_padOuts (s : State) (a n v : Nat) : (s.wr a n v).padOuts = s.padOuts := rfl
@[simp] theorem State.wr_acts (s : State) (a n v : Nat) : (s.wr a n v).acts = s.acts := rfl
@[simp] theorem State.wr_commits (s : State) (a n v : Nat) : (s.wr a n v).commits = s.commits := rfl
@[simp] theorem State.wr_copied (s : State) (a n v : Nat) : (s.wr a n v).copied = s.copied := rfl
@[simp] theorem State.wr_gath (s : State) (a n v : Nat) : (s.wr a n v).gath = s.gath := rfl
@[simp] theorem State.wr_fcl (s : State) (a n v : Nat) : (s.wr a n v).fcl = s.fcl := rfl
@[simp] theorem State.wr_jrn (s : State) (a n v : Nat) : (s.wr a n v).jrn = s.jrn := rfl
@[simp] theorem State.wr_str (s : State) (a n v : Nat) : (s.wr a n v).str = s.str := rfl
@[simp] theorem State.wr_syn (s : State) (a n v : Nat) : (s.wr a n v).syn = s.syn := rfl
@[simp] theorem State.wr_quire (s : State) (a n v : Nat) : (s.wr a n v).quire = s.quire := rfl
@[simp] theorem State.wr_jobs (s : State) (a n v : Nat) : (s.wr a n v).jobs = s.jobs := rfl
@[simp] theorem State.wr_ctx (s : State) (a n v : Nat) : (s.wr a n v).ctx = s.ctx := rfl
@[simp] theorem State.wr_cmp (s : State) (a n v : Nat) : (s.wr a n v).cmp = s.cmp := rfl
@[simp] theorem State.wr_lastHanded (s : State) (a n v : Nat) : (s.wr a n v).lastHanded = s.lastHanded := rfl
@[simp] theorem State.wr_dma (s : State) (a n v : Nat) : (s.wr a n v).dma = s.dma := rfl
@[simp] theorem State.wr_hostMem (s : State) (a n v : Nat) : (s.wr a n v).hostMem = s.hostMem := rfl
@[simp] theorem State.wr_poison (s : State) (a n v : Nat) : (s.wr a n v).poison = s.poison := rfl
@[simp] theorem State.wr_memChans (s : State) (a n v : Nat) : (s.wr a n v).memChans = s.memChans := rfl
@[simp] theorem State.wr_selfRefresh (s : State) (a n v : Nat) : (s.wr a n v).selfRefresh = s.selfRefresh := rfl
@[simp] theorem State.wr_cores (s : State) (a n v : Nat) : (s.wr a n v).cores = s.cores := rfl
@[simp] theorem State.wr_obs (s : State) (a n v : Nat) : (s.wr a n v).obs = s.obs := rfl
@[simp] theorem State.wr_wires (s : State) (a n v : Nat) : (s.wr a n v).wires = s.wires := rfl
@[simp] theorem State.wr_mot (s : State) (a n v : Nat) : (s.wr a n v).mot = s.mot := rfl
@[simp] theorem State.wr_stp (s : State) (a n v : Nat) : (s.wr a n v).stp = s.stp := rfl
@[simp] theorem State.wr_hv (s : State) (a n v : Nat) : (s.wr a n v).hv = s.hv := rfl
@[simp] theorem State.wr_fus (s : State) (a n v : Nat) : (s.wr a n v).fus = s.fus := rfl
@[simp] theorem State.wr_thm (s : State) (a n v : Nat) : (s.wr a n v).thm = s.thm := rfl
@[simp] theorem State.wr_psq (s : State) (a n v : Nat) : (s.wr a n v).psq = s.psq := rfl
@[simp] theorem State.wr_otp (s : State) (a n v : Nat) : (s.wr a n v).otp = s.otp := rfl
@[simp] theorem State.wr_roscAt (s : State) (a n v : Nat) : (s.wr a n v).roscAt = s.roscAt := rfl
@[simp] theorem State.wr_aon (s : State) (a n v : Nat) : (s.wr a n v).aon = s.aon := rfl
@[simp] theorem State.wr_busData (s : State) (a n v : Nat) : (s.wr a n v).busData = s.busData := rfl
@[simp] theorem State.wr_hyw (s : State) (a n v : Nat) : (s.wr a n v).hyw = s.hyw := rfl
@[simp] theorem State.wr_captured (s : State) (a n v : Nat) : (s.wr a n v).captured = s.captured := rfl
@[simp] theorem State.wr_staged (s : State) (a n v : Nat) : (s.wr a n v).staged = s.staged := rfl
@[simp] theorem State.wr_edges (s : State) (a n v : Nat) : (s.wr a n v).edges = s.edges := rfl
@[simp] theorem State.wr_padIns (s : State) (a n v : Nat) : (s.wr a n v).padIns = s.padIns := rfl
@[simp] theorem State.wr_mapping (s : State) (a n v : Nat) : (s.wr a n v).mapping = s.mapping := rfl
@[simp] theorem State.wr_fired (s : State) (a n v : Nat) : (s.wr a n v).fired = s.fired := rfl
@[simp] theorem State.wr_results (s : State) (a n v : Nat) : (s.wr a n v).results = s.results := rfl
@[simp] theorem State.wr_resultsAt (s : State) (a n v : Nat) : (s.wr a n v).resultsAt = s.resultsAt := rfl
@[simp] theorem State.wr_snsAt (s : State) (a n v : Nat) : (s.wr a n v).snsAt = s.snsAt := rfl

@[simp] theorem State.wrBytes_pending (s : State) (a : Nat) (bs : List Nat) : (s.wrBytes a bs).pending = s.pending := rfl
@[simp] theorem State.wrBytes_free (s : State) (a : Nat) (bs : List Nat) : (s.wrBytes a bs).free = s.free := rfl
@[simp] theorem State.wrBytes_cord (s : State) (a : Nat) (bs : List Nat) : (s.wrBytes a bs).cord = s.cord := rfl
@[simp] theorem State.wrBytes_coreCycles (s : State) (a : Nat) (bs : List Nat) : (s.wrBytes a bs).coreCycles = s.coreCycles := rfl
@[simp] theorem State.wrBytes_regs (s : State) (a : Nat) (bs : List Nat) : (s.wrBytes a bs).regs = s.regs := rfl
@[simp] theorem State.wrBytes_fram (s : State) (a : Nat) (bs : List Nat) : (s.wrBytes a bs).fram = s.fram := rfl
@[simp] theorem State.wrBytes_claims (s : State) (a : Nat) (bs : List Nat) : (s.wrBytes a bs).claims = s.claims := rfl
@[simp] theorem State.wrBytes_adcOff (s : State) (a : Nat) (bs : List Nat) : (s.wrBytes a bs).adcOff = s.adcOff := rfl
@[simp] theorem State.wrBytes_padOuts (s : State) (a : Nat) (bs : List Nat) : (s.wrBytes a bs).padOuts = s.padOuts := rfl
@[simp] theorem State.wrBytes_acts (s : State) (a : Nat) (bs : List Nat) : (s.wrBytes a bs).acts = s.acts := rfl
@[simp] theorem State.wrBytes_commits (s : State) (a : Nat) (bs : List Nat) : (s.wrBytes a bs).commits = s.commits := rfl
@[simp] theorem State.wrBytes_copied (s : State) (a : Nat) (bs : List Nat) : (s.wrBytes a bs).copied = s.copied := rfl
@[simp] theorem State.wrBytes_gath (s : State) (a : Nat) (bs : List Nat) : (s.wrBytes a bs).gath = s.gath := rfl
@[simp] theorem State.wrBytes_fcl (s : State) (a : Nat) (bs : List Nat) : (s.wrBytes a bs).fcl = s.fcl := rfl
@[simp] theorem State.wrBytes_jrn (s : State) (a : Nat) (bs : List Nat) : (s.wrBytes a bs).jrn = s.jrn := rfl
@[simp] theorem State.wrBytes_str (s : State) (a : Nat) (bs : List Nat) : (s.wrBytes a bs).str = s.str := rfl
@[simp] theorem State.wrBytes_syn (s : State) (a : Nat) (bs : List Nat) : (s.wrBytes a bs).syn = s.syn := rfl
@[simp] theorem State.wrBytes_quire (s : State) (a : Nat) (bs : List Nat) : (s.wrBytes a bs).quire = s.quire := rfl
@[simp] theorem State.wrBytes_jobs (s : State) (a : Nat) (bs : List Nat) : (s.wrBytes a bs).jobs = s.jobs := rfl
@[simp] theorem State.wrBytes_ctx (s : State) (a : Nat) (bs : List Nat) : (s.wrBytes a bs).ctx = s.ctx := rfl
@[simp] theorem State.wrBytes_cmp (s : State) (a : Nat) (bs : List Nat) : (s.wrBytes a bs).cmp = s.cmp := rfl
@[simp] theorem State.wrBytes_lastHanded (s : State) (a : Nat) (bs : List Nat) : (s.wrBytes a bs).lastHanded = s.lastHanded := rfl
@[simp] theorem State.wrBytes_dma (s : State) (a : Nat) (bs : List Nat) : (s.wrBytes a bs).dma = s.dma := rfl
@[simp] theorem State.wrBytes_hostMem (s : State) (a : Nat) (bs : List Nat) : (s.wrBytes a bs).hostMem = s.hostMem := rfl
@[simp] theorem State.wrBytes_poison (s : State) (a : Nat) (bs : List Nat) : (s.wrBytes a bs).poison = s.poison := rfl
@[simp] theorem State.wrBytes_memChans (s : State) (a : Nat) (bs : List Nat) : (s.wrBytes a bs).memChans = s.memChans := rfl
@[simp] theorem State.wrBytes_selfRefresh (s : State) (a : Nat) (bs : List Nat) : (s.wrBytes a bs).selfRefresh = s.selfRefresh := rfl
@[simp] theorem State.wrBytes_cores (s : State) (a : Nat) (bs : List Nat) : (s.wrBytes a bs).cores = s.cores := rfl
@[simp] theorem State.wrBytes_obs (s : State) (a : Nat) (bs : List Nat) : (s.wrBytes a bs).obs = s.obs := rfl
@[simp] theorem State.wrBytes_wires (s : State) (a : Nat) (bs : List Nat) : (s.wrBytes a bs).wires = s.wires := rfl
@[simp] theorem State.wrBytes_mot (s : State) (a : Nat) (bs : List Nat) : (s.wrBytes a bs).mot = s.mot := rfl
@[simp] theorem State.wrBytes_stp (s : State) (a : Nat) (bs : List Nat) : (s.wrBytes a bs).stp = s.stp := rfl
@[simp] theorem State.wrBytes_hv (s : State) (a : Nat) (bs : List Nat) : (s.wrBytes a bs).hv = s.hv := rfl
@[simp] theorem State.wrBytes_fus (s : State) (a : Nat) (bs : List Nat) : (s.wrBytes a bs).fus = s.fus := rfl
@[simp] theorem State.wrBytes_thm (s : State) (a : Nat) (bs : List Nat) : (s.wrBytes a bs).thm = s.thm := rfl
@[simp] theorem State.wrBytes_psq (s : State) (a : Nat) (bs : List Nat) : (s.wrBytes a bs).psq = s.psq := rfl
@[simp] theorem State.wrBytes_otp (s : State) (a : Nat) (bs : List Nat) : (s.wrBytes a bs).otp = s.otp := rfl
@[simp] theorem State.wrBytes_roscAt (s : State) (a : Nat) (bs : List Nat) : (s.wrBytes a bs).roscAt = s.roscAt := rfl
@[simp] theorem State.wrBytes_aon (s : State) (a : Nat) (bs : List Nat) : (s.wrBytes a bs).aon = s.aon := rfl
@[simp] theorem State.wrBytes_busData (s : State) (a : Nat) (bs : List Nat) : (s.wrBytes a bs).busData = s.busData := rfl
@[simp] theorem State.wrBytes_hyw (s : State) (a : Nat) (bs : List Nat) : (s.wrBytes a bs).hyw = s.hyw := rfl
@[simp] theorem State.wrBytes_captured (s : State) (a : Nat) (bs : List Nat) : (s.wrBytes a bs).captured = s.captured := rfl
@[simp] theorem State.wrBytes_staged (s : State) (a : Nat) (bs : List Nat) : (s.wrBytes a bs).staged = s.staged := rfl
@[simp] theorem State.wrBytes_edges (s : State) (a : Nat) (bs : List Nat) : (s.wrBytes a bs).edges = s.edges := rfl
@[simp] theorem State.wrBytes_padIns (s : State) (a : Nat) (bs : List Nat) : (s.wrBytes a bs).padIns = s.padIns := rfl
@[simp] theorem State.wrBytes_mapping (s : State) (a : Nat) (bs : List Nat) : (s.wrBytes a bs).mapping = s.mapping := rfl
@[simp] theorem State.wrBytes_fired (s : State) (a : Nat) (bs : List Nat) : (s.wrBytes a bs).fired = s.fired := rfl
@[simp] theorem State.wrBytes_results (s : State) (a : Nat) (bs : List Nat) : (s.wrBytes a bs).results = s.results := rfl
@[simp] theorem State.wrBytes_resultsAt (s : State) (a : Nat) (bs : List Nat) : (s.wrBytes a bs).resultsAt = s.resultsAt := rfl
@[simp] theorem State.wrBytes_snsAt (s : State) (a : Nat) (bs : List Nat) : (s.wrBytes a bs).snsAt = s.snsAt := rfl

@[simp] theorem State.setOwner_pending (s : State) (rid : Nat) (o : Owner) : (s.setOwner rid o).pending = s.pending := rfl
@[simp] theorem State.setOwner_free (s : State) (rid : Nat) (o : Owner) : (s.setOwner rid o).free = s.free := rfl
@[simp] theorem State.setOwner_cord (s : State) (rid : Nat) (o : Owner) : (s.setOwner rid o).cord = s.cord := rfl
@[simp] theorem State.setOwner_coreCycles (s : State) (rid : Nat) (o : Owner) : (s.setOwner rid o).coreCycles = s.coreCycles := rfl
@[simp] theorem State.setOwner_regs (s : State) (rid : Nat) (o : Owner) : (s.setOwner rid o).regs = s.regs := rfl
@[simp] theorem State.setOwner_mem (s : State) (rid : Nat) (o : Owner) : (s.setOwner rid o).mem = s.mem := rfl
@[simp] theorem State.setOwner_fram (s : State) (rid : Nat) (o : Owner) : (s.setOwner rid o).fram = s.fram := rfl
@[simp] theorem State.setOwner_adcOff (s : State) (rid : Nat) (o : Owner) : (s.setOwner rid o).adcOff = s.adcOff := rfl
@[simp] theorem State.setOwner_padOuts (s : State) (rid : Nat) (o : Owner) : (s.setOwner rid o).padOuts = s.padOuts := rfl
@[simp] theorem State.setOwner_acts (s : State) (rid : Nat) (o : Owner) : (s.setOwner rid o).acts = s.acts := rfl
@[simp] theorem State.setOwner_commits (s : State) (rid : Nat) (o : Owner) : (s.setOwner rid o).commits = s.commits := rfl
@[simp] theorem State.setOwner_copied (s : State) (rid : Nat) (o : Owner) : (s.setOwner rid o).copied = s.copied := rfl
@[simp] theorem State.setOwner_gath (s : State) (rid : Nat) (o : Owner) : (s.setOwner rid o).gath = s.gath := rfl
@[simp] theorem State.setOwner_fcl (s : State) (rid : Nat) (o : Owner) : (s.setOwner rid o).fcl = s.fcl := rfl
@[simp] theorem State.setOwner_jrn (s : State) (rid : Nat) (o : Owner) : (s.setOwner rid o).jrn = s.jrn := rfl
@[simp] theorem State.setOwner_str (s : State) (rid : Nat) (o : Owner) : (s.setOwner rid o).str = s.str := rfl
@[simp] theorem State.setOwner_syn (s : State) (rid : Nat) (o : Owner) : (s.setOwner rid o).syn = s.syn := rfl
@[simp] theorem State.setOwner_quire (s : State) (rid : Nat) (o : Owner) : (s.setOwner rid o).quire = s.quire := rfl
@[simp] theorem State.setOwner_jobs (s : State) (rid : Nat) (o : Owner) : (s.setOwner rid o).jobs = s.jobs := rfl
@[simp] theorem State.setOwner_ctx (s : State) (rid : Nat) (o : Owner) : (s.setOwner rid o).ctx = s.ctx := rfl
@[simp] theorem State.setOwner_cmp (s : State) (rid : Nat) (o : Owner) : (s.setOwner rid o).cmp = s.cmp := rfl
@[simp] theorem State.setOwner_lastHanded (s : State) (rid : Nat) (o : Owner) : (s.setOwner rid o).lastHanded = s.lastHanded := rfl
@[simp] theorem State.setOwner_dma (s : State) (rid : Nat) (o : Owner) : (s.setOwner rid o).dma = s.dma := rfl
@[simp] theorem State.setOwner_hostMem (s : State) (rid : Nat) (o : Owner) : (s.setOwner rid o).hostMem = s.hostMem := rfl
@[simp] theorem State.setOwner_poison (s : State) (rid : Nat) (o : Owner) : (s.setOwner rid o).poison = s.poison := rfl
@[simp] theorem State.setOwner_memChans (s : State) (rid : Nat) (o : Owner) : (s.setOwner rid o).memChans = s.memChans := rfl
@[simp] theorem State.setOwner_selfRefresh (s : State) (rid : Nat) (o : Owner) : (s.setOwner rid o).selfRefresh = s.selfRefresh := rfl
@[simp] theorem State.setOwner_cores (s : State) (rid : Nat) (o : Owner) : (s.setOwner rid o).cores = s.cores := rfl
@[simp] theorem State.setOwner_obs (s : State) (rid : Nat) (o : Owner) : (s.setOwner rid o).obs = s.obs := rfl
@[simp] theorem State.setOwner_wires (s : State) (rid : Nat) (o : Owner) : (s.setOwner rid o).wires = s.wires := rfl
@[simp] theorem State.setOwner_mot (s : State) (rid : Nat) (o : Owner) : (s.setOwner rid o).mot = s.mot := rfl
@[simp] theorem State.setOwner_stp (s : State) (rid : Nat) (o : Owner) : (s.setOwner rid o).stp = s.stp := rfl
@[simp] theorem State.setOwner_hv (s : State) (rid : Nat) (o : Owner) : (s.setOwner rid o).hv = s.hv := rfl
@[simp] theorem State.setOwner_fus (s : State) (rid : Nat) (o : Owner) : (s.setOwner rid o).fus = s.fus := rfl
@[simp] theorem State.setOwner_thm (s : State) (rid : Nat) (o : Owner) : (s.setOwner rid o).thm = s.thm := rfl
@[simp] theorem State.setOwner_psq (s : State) (rid : Nat) (o : Owner) : (s.setOwner rid o).psq = s.psq := rfl
@[simp] theorem State.setOwner_otp (s : State) (rid : Nat) (o : Owner) : (s.setOwner rid o).otp = s.otp := rfl
@[simp] theorem State.setOwner_roscAt (s : State) (rid : Nat) (o : Owner) : (s.setOwner rid o).roscAt = s.roscAt := rfl
@[simp] theorem State.setOwner_aon (s : State) (rid : Nat) (o : Owner) : (s.setOwner rid o).aon = s.aon := rfl
@[simp] theorem State.setOwner_busData (s : State) (rid : Nat) (o : Owner) : (s.setOwner rid o).busData = s.busData := rfl
@[simp] theorem State.setOwner_hyw (s : State) (rid : Nat) (o : Owner) : (s.setOwner rid o).hyw = s.hyw := rfl
@[simp] theorem State.setOwner_captured (s : State) (rid : Nat) (o : Owner) : (s.setOwner rid o).captured = s.captured := rfl
@[simp] theorem State.setOwner_staged (s : State) (rid : Nat) (o : Owner) : (s.setOwner rid o).staged = s.staged := rfl
@[simp] theorem State.setOwner_edges (s : State) (rid : Nat) (o : Owner) : (s.setOwner rid o).edges = s.edges := rfl
@[simp] theorem State.setOwner_padIns (s : State) (rid : Nat) (o : Owner) : (s.setOwner rid o).padIns = s.padIns := rfl
@[simp] theorem State.setOwner_mapping (s : State) (rid : Nat) (o : Owner) : (s.setOwner rid o).mapping = s.mapping := rfl
@[simp] theorem State.setOwner_fired (s : State) (rid : Nat) (o : Owner) : (s.setOwner rid o).fired = s.fired := rfl
@[simp] theorem State.setOwner_results (s : State) (rid : Nat) (o : Owner) : (s.setOwner rid o).results = s.results := rfl
@[simp] theorem State.setOwner_resultsAt (s : State) (rid : Nat) (o : Owner) : (s.setOwner rid o).resultsAt = s.resultsAt := rfl
@[simp] theorem State.setOwner_snsAt (s : State) (rid : Nat) (o : Owner) : (s.setOwner rid o).snsAt = s.snsAt := rfl

@[simp] theorem State.ringPut_pending (s : State) (q : Nat) (bs : List Nat) : (s.ringPut q bs).pending = s.pending := rfl
@[simp] theorem State.ringPut_free (s : State) (q : Nat) (bs : List Nat) : (s.ringPut q bs).free = s.free := rfl
@[simp] theorem State.ringPut_cord (s : State) (q : Nat) (bs : List Nat) : (s.ringPut q bs).cord = s.cord := rfl
@[simp] theorem State.ringPut_coreCycles (s : State) (q : Nat) (bs : List Nat) : (s.ringPut q bs).coreCycles = s.coreCycles := rfl
@[simp] theorem State.ringPut_fram (s : State) (q : Nat) (bs : List Nat) : (s.ringPut q bs).fram = s.fram := rfl
@[simp] theorem State.ringPut_claims (s : State) (q : Nat) (bs : List Nat) : (s.ringPut q bs).claims = s.claims := rfl
@[simp] theorem State.ringPut_adcOff (s : State) (q : Nat) (bs : List Nat) : (s.ringPut q bs).adcOff = s.adcOff := rfl
@[simp] theorem State.ringPut_padOuts (s : State) (q : Nat) (bs : List Nat) : (s.ringPut q bs).padOuts = s.padOuts := rfl
@[simp] theorem State.ringPut_acts (s : State) (q : Nat) (bs : List Nat) : (s.ringPut q bs).acts = s.acts := rfl
@[simp] theorem State.ringPut_commits (s : State) (q : Nat) (bs : List Nat) : (s.ringPut q bs).commits = s.commits := rfl
@[simp] theorem State.ringPut_copied (s : State) (q : Nat) (bs : List Nat) : (s.ringPut q bs).copied = s.copied := rfl
@[simp] theorem State.ringPut_gath (s : State) (q : Nat) (bs : List Nat) : (s.ringPut q bs).gath = s.gath := rfl
@[simp] theorem State.ringPut_fcl (s : State) (q : Nat) (bs : List Nat) : (s.ringPut q bs).fcl = s.fcl := rfl
@[simp] theorem State.ringPut_jrn (s : State) (q : Nat) (bs : List Nat) : (s.ringPut q bs).jrn = s.jrn := rfl
@[simp] theorem State.ringPut_str (s : State) (q : Nat) (bs : List Nat) : (s.ringPut q bs).str = s.str := rfl
@[simp] theorem State.ringPut_syn (s : State) (q : Nat) (bs : List Nat) : (s.ringPut q bs).syn = s.syn := rfl
@[simp] theorem State.ringPut_quire (s : State) (q : Nat) (bs : List Nat) : (s.ringPut q bs).quire = s.quire := rfl
@[simp] theorem State.ringPut_jobs (s : State) (q : Nat) (bs : List Nat) : (s.ringPut q bs).jobs = s.jobs := rfl
@[simp] theorem State.ringPut_ctx (s : State) (q : Nat) (bs : List Nat) : (s.ringPut q bs).ctx = s.ctx := rfl
@[simp] theorem State.ringPut_cmp (s : State) (q : Nat) (bs : List Nat) : (s.ringPut q bs).cmp = s.cmp := rfl
@[simp] theorem State.ringPut_lastHanded (s : State) (q : Nat) (bs : List Nat) : (s.ringPut q bs).lastHanded = s.lastHanded := rfl
@[simp] theorem State.ringPut_dma (s : State) (q : Nat) (bs : List Nat) : (s.ringPut q bs).dma = s.dma := rfl
@[simp] theorem State.ringPut_hostMem (s : State) (q : Nat) (bs : List Nat) : (s.ringPut q bs).hostMem = s.hostMem := rfl
@[simp] theorem State.ringPut_poison (s : State) (q : Nat) (bs : List Nat) : (s.ringPut q bs).poison = s.poison := rfl
@[simp] theorem State.ringPut_memChans (s : State) (q : Nat) (bs : List Nat) : (s.ringPut q bs).memChans = s.memChans := rfl
@[simp] theorem State.ringPut_selfRefresh (s : State) (q : Nat) (bs : List Nat) : (s.ringPut q bs).selfRefresh = s.selfRefresh := rfl
@[simp] theorem State.ringPut_cores (s : State) (q : Nat) (bs : List Nat) : (s.ringPut q bs).cores = s.cores := rfl
@[simp] theorem State.ringPut_obs (s : State) (q : Nat) (bs : List Nat) : (s.ringPut q bs).obs = s.obs := rfl
@[simp] theorem State.ringPut_wires (s : State) (q : Nat) (bs : List Nat) : (s.ringPut q bs).wires = s.wires := rfl
@[simp] theorem State.ringPut_mot (s : State) (q : Nat) (bs : List Nat) : (s.ringPut q bs).mot = s.mot := rfl
@[simp] theorem State.ringPut_stp (s : State) (q : Nat) (bs : List Nat) : (s.ringPut q bs).stp = s.stp := rfl
@[simp] theorem State.ringPut_hv (s : State) (q : Nat) (bs : List Nat) : (s.ringPut q bs).hv = s.hv := rfl
@[simp] theorem State.ringPut_fus (s : State) (q : Nat) (bs : List Nat) : (s.ringPut q bs).fus = s.fus := rfl
@[simp] theorem State.ringPut_thm (s : State) (q : Nat) (bs : List Nat) : (s.ringPut q bs).thm = s.thm := rfl
@[simp] theorem State.ringPut_psq (s : State) (q : Nat) (bs : List Nat) : (s.ringPut q bs).psq = s.psq := rfl
@[simp] theorem State.ringPut_otp (s : State) (q : Nat) (bs : List Nat) : (s.ringPut q bs).otp = s.otp := rfl
@[simp] theorem State.ringPut_roscAt (s : State) (q : Nat) (bs : List Nat) : (s.ringPut q bs).roscAt = s.roscAt := rfl
@[simp] theorem State.ringPut_aon (s : State) (q : Nat) (bs : List Nat) : (s.ringPut q bs).aon = s.aon := rfl
@[simp] theorem State.ringPut_busData (s : State) (q : Nat) (bs : List Nat) : (s.ringPut q bs).busData = s.busData := rfl
@[simp] theorem State.ringPut_hyw (s : State) (q : Nat) (bs : List Nat) : (s.ringPut q bs).hyw = s.hyw := rfl
@[simp] theorem State.ringPut_captured (s : State) (q : Nat) (bs : List Nat) : (s.ringPut q bs).captured = s.captured := rfl
@[simp] theorem State.ringPut_staged (s : State) (q : Nat) (bs : List Nat) : (s.ringPut q bs).staged = s.staged := rfl
@[simp] theorem State.ringPut_edges (s : State) (q : Nat) (bs : List Nat) : (s.ringPut q bs).edges = s.edges := rfl
@[simp] theorem State.ringPut_padIns (s : State) (q : Nat) (bs : List Nat) : (s.ringPut q bs).padIns = s.padIns := rfl
@[simp] theorem State.ringPut_mapping (s : State) (q : Nat) (bs : List Nat) : (s.ringPut q bs).mapping = s.mapping := rfl
@[simp] theorem State.ringPut_fired (s : State) (q : Nat) (bs : List Nat) : (s.ringPut q bs).fired = s.fired := rfl
@[simp] theorem State.ringPut_results (s : State) (q : Nat) (bs : List Nat) : (s.ringPut q bs).results = s.results := rfl
@[simp] theorem State.ringPut_resultsAt (s : State) (q : Nat) (bs : List Nat) : (s.ringPut q bs).resultsAt = s.resultsAt := rfl
@[simp] theorem State.ringPut_snsAt (s : State) (q : Nat) (bs : List Nat) : (s.ringPut q bs).snsAt = s.snsAt := rfl

@[simp] theorem State.modCore_pending (s : State) (i : Nat) (f : Core → Core) : (s.modCore i f).pending = s.pending := rfl
@[simp] theorem State.modCore_free (s : State) (i : Nat) (f : Core → Core) : (s.modCore i f).free = s.free := rfl
@[simp] theorem State.modCore_cord (s : State) (i : Nat) (f : Core → Core) : (s.modCore i f).cord = s.cord := rfl
@[simp] theorem State.modCore_coreCycles (s : State) (i : Nat) (f : Core → Core) : (s.modCore i f).coreCycles = s.coreCycles := rfl
@[simp] theorem State.modCore_regs (s : State) (i : Nat) (f : Core → Core) : (s.modCore i f).regs = s.regs := rfl
@[simp] theorem State.modCore_mem (s : State) (i : Nat) (f : Core → Core) : (s.modCore i f).mem = s.mem := rfl
@[simp] theorem State.modCore_fram (s : State) (i : Nat) (f : Core → Core) : (s.modCore i f).fram = s.fram := rfl
@[simp] theorem State.modCore_claims (s : State) (i : Nat) (f : Core → Core) : (s.modCore i f).claims = s.claims := rfl
@[simp] theorem State.modCore_adcOff (s : State) (i : Nat) (f : Core → Core) : (s.modCore i f).adcOff = s.adcOff := rfl
@[simp] theorem State.modCore_padOuts (s : State) (i : Nat) (f : Core → Core) : (s.modCore i f).padOuts = s.padOuts := rfl
@[simp] theorem State.modCore_acts (s : State) (i : Nat) (f : Core → Core) : (s.modCore i f).acts = s.acts := rfl
@[simp] theorem State.modCore_commits (s : State) (i : Nat) (f : Core → Core) : (s.modCore i f).commits = s.commits := rfl
@[simp] theorem State.modCore_copied (s : State) (i : Nat) (f : Core → Core) : (s.modCore i f).copied = s.copied := rfl
@[simp] theorem State.modCore_gath (s : State) (i : Nat) (f : Core → Core) : (s.modCore i f).gath = s.gath := rfl
@[simp] theorem State.modCore_fcl (s : State) (i : Nat) (f : Core → Core) : (s.modCore i f).fcl = s.fcl := rfl
@[simp] theorem State.modCore_jrn (s : State) (i : Nat) (f : Core → Core) : (s.modCore i f).jrn = s.jrn := rfl
@[simp] theorem State.modCore_str (s : State) (i : Nat) (f : Core → Core) : (s.modCore i f).str = s.str := rfl
@[simp] theorem State.modCore_syn (s : State) (i : Nat) (f : Core → Core) : (s.modCore i f).syn = s.syn := rfl
@[simp] theorem State.modCore_quire (s : State) (i : Nat) (f : Core → Core) : (s.modCore i f).quire = s.quire := rfl
@[simp] theorem State.modCore_jobs (s : State) (i : Nat) (f : Core → Core) : (s.modCore i f).jobs = s.jobs := rfl
@[simp] theorem State.modCore_ctx (s : State) (i : Nat) (f : Core → Core) : (s.modCore i f).ctx = s.ctx := rfl
@[simp] theorem State.modCore_cmp (s : State) (i : Nat) (f : Core → Core) : (s.modCore i f).cmp = s.cmp := rfl
@[simp] theorem State.modCore_lastHanded (s : State) (i : Nat) (f : Core → Core) : (s.modCore i f).lastHanded = s.lastHanded := rfl
@[simp] theorem State.modCore_dma (s : State) (i : Nat) (f : Core → Core) : (s.modCore i f).dma = s.dma := rfl
@[simp] theorem State.modCore_hostMem (s : State) (i : Nat) (f : Core → Core) : (s.modCore i f).hostMem = s.hostMem := rfl
@[simp] theorem State.modCore_poison (s : State) (i : Nat) (f : Core → Core) : (s.modCore i f).poison = s.poison := rfl
@[simp] theorem State.modCore_memChans (s : State) (i : Nat) (f : Core → Core) : (s.modCore i f).memChans = s.memChans := rfl
@[simp] theorem State.modCore_selfRefresh (s : State) (i : Nat) (f : Core → Core) : (s.modCore i f).selfRefresh = s.selfRefresh := rfl
@[simp] theorem State.modCore_obs (s : State) (i : Nat) (f : Core → Core) : (s.modCore i f).obs = s.obs := rfl
@[simp] theorem State.modCore_wires (s : State) (i : Nat) (f : Core → Core) : (s.modCore i f).wires = s.wires := rfl
@[simp] theorem State.modCore_mot (s : State) (i : Nat) (f : Core → Core) : (s.modCore i f).mot = s.mot := rfl
@[simp] theorem State.modCore_stp (s : State) (i : Nat) (f : Core → Core) : (s.modCore i f).stp = s.stp := rfl
@[simp] theorem State.modCore_hv (s : State) (i : Nat) (f : Core → Core) : (s.modCore i f).hv = s.hv := rfl
@[simp] theorem State.modCore_fus (s : State) (i : Nat) (f : Core → Core) : (s.modCore i f).fus = s.fus := rfl
@[simp] theorem State.modCore_thm (s : State) (i : Nat) (f : Core → Core) : (s.modCore i f).thm = s.thm := rfl
@[simp] theorem State.modCore_psq (s : State) (i : Nat) (f : Core → Core) : (s.modCore i f).psq = s.psq := rfl
@[simp] theorem State.modCore_otp (s : State) (i : Nat) (f : Core → Core) : (s.modCore i f).otp = s.otp := rfl
@[simp] theorem State.modCore_roscAt (s : State) (i : Nat) (f : Core → Core) : (s.modCore i f).roscAt = s.roscAt := rfl
@[simp] theorem State.modCore_aon (s : State) (i : Nat) (f : Core → Core) : (s.modCore i f).aon = s.aon := rfl
@[simp] theorem State.modCore_busData (s : State) (i : Nat) (f : Core → Core) : (s.modCore i f).busData = s.busData := rfl
@[simp] theorem State.modCore_hyw (s : State) (i : Nat) (f : Core → Core) : (s.modCore i f).hyw = s.hyw := rfl
@[simp] theorem State.modCore_captured (s : State) (i : Nat) (f : Core → Core) : (s.modCore i f).captured = s.captured := rfl
@[simp] theorem State.modCore_staged (s : State) (i : Nat) (f : Core → Core) : (s.modCore i f).staged = s.staged := rfl
@[simp] theorem State.modCore_edges (s : State) (i : Nat) (f : Core → Core) : (s.modCore i f).edges = s.edges := rfl
@[simp] theorem State.modCore_padIns (s : State) (i : Nat) (f : Core → Core) : (s.modCore i f).padIns = s.padIns := rfl
@[simp] theorem State.modCore_mapping (s : State) (i : Nat) (f : Core → Core) : (s.modCore i f).mapping = s.mapping := rfl
@[simp] theorem State.modCore_fired (s : State) (i : Nat) (f : Core → Core) : (s.modCore i f).fired = s.fired := rfl
@[simp] theorem State.modCore_results (s : State) (i : Nat) (f : Core → Core) : (s.modCore i f).results = s.results := rfl
@[simp] theorem State.modCore_resultsAt (s : State) (i : Nat) (f : Core → Core) : (s.modCore i f).resultsAt = s.resultsAt := rfl
@[simp] theorem State.modCore_snsAt (s : State) (i : Nat) (f : Core → Core) : (s.modCore i f).snsAt = s.snsAt := rfl

@[simp] theorem State.setActQueue_pending (s : State) (id : Nat) (l : List ActEvent) : (s.setActQueue id l).pending = s.pending := rfl
@[simp] theorem State.setActQueue_free (s : State) (id : Nat) (l : List ActEvent) : (s.setActQueue id l).free = s.free := rfl
@[simp] theorem State.setActQueue_cord (s : State) (id : Nat) (l : List ActEvent) : (s.setActQueue id l).cord = s.cord := rfl
@[simp] theorem State.setActQueue_coreCycles (s : State) (id : Nat) (l : List ActEvent) : (s.setActQueue id l).coreCycles = s.coreCycles := rfl
@[simp] theorem State.setActQueue_regs (s : State) (id : Nat) (l : List ActEvent) : (s.setActQueue id l).regs = s.regs := rfl
@[simp] theorem State.setActQueue_mem (s : State) (id : Nat) (l : List ActEvent) : (s.setActQueue id l).mem = s.mem := rfl
@[simp] theorem State.setActQueue_fram (s : State) (id : Nat) (l : List ActEvent) : (s.setActQueue id l).fram = s.fram := rfl
@[simp] theorem State.setActQueue_claims (s : State) (id : Nat) (l : List ActEvent) : (s.setActQueue id l).claims = s.claims := rfl
@[simp] theorem State.setActQueue_adcOff (s : State) (id : Nat) (l : List ActEvent) : (s.setActQueue id l).adcOff = s.adcOff := rfl
@[simp] theorem State.setActQueue_padOuts (s : State) (id : Nat) (l : List ActEvent) : (s.setActQueue id l).padOuts = s.padOuts := rfl
@[simp] theorem State.setActQueue_commits (s : State) (id : Nat) (l : List ActEvent) : (s.setActQueue id l).commits = s.commits := rfl
@[simp] theorem State.setActQueue_copied (s : State) (id : Nat) (l : List ActEvent) : (s.setActQueue id l).copied = s.copied := rfl
@[simp] theorem State.setActQueue_gath (s : State) (id : Nat) (l : List ActEvent) : (s.setActQueue id l).gath = s.gath := rfl
@[simp] theorem State.setActQueue_fcl (s : State) (id : Nat) (l : List ActEvent) : (s.setActQueue id l).fcl = s.fcl := rfl
@[simp] theorem State.setActQueue_jrn (s : State) (id : Nat) (l : List ActEvent) : (s.setActQueue id l).jrn = s.jrn := rfl
@[simp] theorem State.setActQueue_str (s : State) (id : Nat) (l : List ActEvent) : (s.setActQueue id l).str = s.str := rfl
@[simp] theorem State.setActQueue_syn (s : State) (id : Nat) (l : List ActEvent) : (s.setActQueue id l).syn = s.syn := rfl
@[simp] theorem State.setActQueue_quire (s : State) (id : Nat) (l : List ActEvent) : (s.setActQueue id l).quire = s.quire := rfl
@[simp] theorem State.setActQueue_jobs (s : State) (id : Nat) (l : List ActEvent) : (s.setActQueue id l).jobs = s.jobs := rfl
@[simp] theorem State.setActQueue_ctx (s : State) (id : Nat) (l : List ActEvent) : (s.setActQueue id l).ctx = s.ctx := rfl
@[simp] theorem State.setActQueue_cmp (s : State) (id : Nat) (l : List ActEvent) : (s.setActQueue id l).cmp = s.cmp := rfl
@[simp] theorem State.setActQueue_lastHanded (s : State) (id : Nat) (l : List ActEvent) : (s.setActQueue id l).lastHanded = s.lastHanded := rfl
@[simp] theorem State.setActQueue_dma (s : State) (id : Nat) (l : List ActEvent) : (s.setActQueue id l).dma = s.dma := rfl
@[simp] theorem State.setActQueue_hostMem (s : State) (id : Nat) (l : List ActEvent) : (s.setActQueue id l).hostMem = s.hostMem := rfl
@[simp] theorem State.setActQueue_poison (s : State) (id : Nat) (l : List ActEvent) : (s.setActQueue id l).poison = s.poison := rfl
@[simp] theorem State.setActQueue_memChans (s : State) (id : Nat) (l : List ActEvent) : (s.setActQueue id l).memChans = s.memChans := rfl
@[simp] theorem State.setActQueue_selfRefresh (s : State) (id : Nat) (l : List ActEvent) : (s.setActQueue id l).selfRefresh = s.selfRefresh := rfl
@[simp] theorem State.setActQueue_cores (s : State) (id : Nat) (l : List ActEvent) : (s.setActQueue id l).cores = s.cores := rfl
@[simp] theorem State.setActQueue_obs (s : State) (id : Nat) (l : List ActEvent) : (s.setActQueue id l).obs = s.obs := rfl
@[simp] theorem State.setActQueue_wires (s : State) (id : Nat) (l : List ActEvent) : (s.setActQueue id l).wires = s.wires := rfl
@[simp] theorem State.setActQueue_mot (s : State) (id : Nat) (l : List ActEvent) : (s.setActQueue id l).mot = s.mot := rfl
@[simp] theorem State.setActQueue_stp (s : State) (id : Nat) (l : List ActEvent) : (s.setActQueue id l).stp = s.stp := rfl
@[simp] theorem State.setActQueue_hv (s : State) (id : Nat) (l : List ActEvent) : (s.setActQueue id l).hv = s.hv := rfl
@[simp] theorem State.setActQueue_fus (s : State) (id : Nat) (l : List ActEvent) : (s.setActQueue id l).fus = s.fus := rfl
@[simp] theorem State.setActQueue_thm (s : State) (id : Nat) (l : List ActEvent) : (s.setActQueue id l).thm = s.thm := rfl
@[simp] theorem State.setActQueue_psq (s : State) (id : Nat) (l : List ActEvent) : (s.setActQueue id l).psq = s.psq := rfl
@[simp] theorem State.setActQueue_otp (s : State) (id : Nat) (l : List ActEvent) : (s.setActQueue id l).otp = s.otp := rfl
@[simp] theorem State.setActQueue_roscAt (s : State) (id : Nat) (l : List ActEvent) : (s.setActQueue id l).roscAt = s.roscAt := rfl
@[simp] theorem State.setActQueue_aon (s : State) (id : Nat) (l : List ActEvent) : (s.setActQueue id l).aon = s.aon := rfl
@[simp] theorem State.setActQueue_busData (s : State) (id : Nat) (l : List ActEvent) : (s.setActQueue id l).busData = s.busData := rfl
@[simp] theorem State.setActQueue_hyw (s : State) (id : Nat) (l : List ActEvent) : (s.setActQueue id l).hyw = s.hyw := rfl
@[simp] theorem State.setActQueue_captured (s : State) (id : Nat) (l : List ActEvent) : (s.setActQueue id l).captured = s.captured := rfl
@[simp] theorem State.setActQueue_staged (s : State) (id : Nat) (l : List ActEvent) : (s.setActQueue id l).staged = s.staged := rfl
@[simp] theorem State.setActQueue_edges (s : State) (id : Nat) (l : List ActEvent) : (s.setActQueue id l).edges = s.edges := rfl
@[simp] theorem State.setActQueue_padIns (s : State) (id : Nat) (l : List ActEvent) : (s.setActQueue id l).padIns = s.padIns := rfl
@[simp] theorem State.setActQueue_mapping (s : State) (id : Nat) (l : List ActEvent) : (s.setActQueue id l).mapping = s.mapping := rfl
@[simp] theorem State.setActQueue_fired (s : State) (id : Nat) (l : List ActEvent) : (s.setActQueue id l).fired = s.fired := rfl
@[simp] theorem State.setActQueue_results (s : State) (id : Nat) (l : List ActEvent) : (s.setActQueue id l).results = s.results := rfl
@[simp] theorem State.setActQueue_resultsAt (s : State) (id : Nat) (l : List ActEvent) : (s.setActQueue id l).resultsAt = s.resultsAt := rfl
@[simp] theorem State.setActQueue_snsAt (s : State) (id : Nat) (l : List ActEvent) : (s.setActQueue id l).snsAt = s.snsAt := rfl

@[simp] theorem State.modHist_pending (s : State) (i : Nat) (f : HistRec → HistRec) : (s.modHist i f).pending = s.pending := rfl
@[simp] theorem State.modHist_free (s : State) (i : Nat) (f : HistRec → HistRec) : (s.modHist i f).free = s.free := rfl
@[simp] theorem State.modHist_cord (s : State) (i : Nat) (f : HistRec → HistRec) : (s.modHist i f).cord = s.cord := rfl
@[simp] theorem State.modHist_coreCycles (s : State) (i : Nat) (f : HistRec → HistRec) : (s.modHist i f).coreCycles = s.coreCycles := rfl
@[simp] theorem State.modHist_regs (s : State) (i : Nat) (f : HistRec → HistRec) : (s.modHist i f).regs = s.regs := rfl
@[simp] theorem State.modHist_mem (s : State) (i : Nat) (f : HistRec → HistRec) : (s.modHist i f).mem = s.mem := rfl
@[simp] theorem State.modHist_fram (s : State) (i : Nat) (f : HistRec → HistRec) : (s.modHist i f).fram = s.fram := rfl
@[simp] theorem State.modHist_claims (s : State) (i : Nat) (f : HistRec → HistRec) : (s.modHist i f).claims = s.claims := rfl
@[simp] theorem State.modHist_adcOff (s : State) (i : Nat) (f : HistRec → HistRec) : (s.modHist i f).adcOff = s.adcOff := rfl
@[simp] theorem State.modHist_padOuts (s : State) (i : Nat) (f : HistRec → HistRec) : (s.modHist i f).padOuts = s.padOuts := rfl
@[simp] theorem State.modHist_acts (s : State) (i : Nat) (f : HistRec → HistRec) : (s.modHist i f).acts = s.acts := rfl
@[simp] theorem State.modHist_commits (s : State) (i : Nat) (f : HistRec → HistRec) : (s.modHist i f).commits = s.commits := rfl
@[simp] theorem State.modHist_copied (s : State) (i : Nat) (f : HistRec → HistRec) : (s.modHist i f).copied = s.copied := rfl
@[simp] theorem State.modHist_gath (s : State) (i : Nat) (f : HistRec → HistRec) : (s.modHist i f).gath = s.gath := rfl
@[simp] theorem State.modHist_jrn (s : State) (i : Nat) (f : HistRec → HistRec) : (s.modHist i f).jrn = s.jrn := rfl
@[simp] theorem State.modHist_str (s : State) (i : Nat) (f : HistRec → HistRec) : (s.modHist i f).str = s.str := rfl
@[simp] theorem State.modHist_syn (s : State) (i : Nat) (f : HistRec → HistRec) : (s.modHist i f).syn = s.syn := rfl
@[simp] theorem State.modHist_quire (s : State) (i : Nat) (f : HistRec → HistRec) : (s.modHist i f).quire = s.quire := rfl
@[simp] theorem State.modHist_jobs (s : State) (i : Nat) (f : HistRec → HistRec) : (s.modHist i f).jobs = s.jobs := rfl
@[simp] theorem State.modHist_ctx (s : State) (i : Nat) (f : HistRec → HistRec) : (s.modHist i f).ctx = s.ctx := rfl
@[simp] theorem State.modHist_cmp (s : State) (i : Nat) (f : HistRec → HistRec) : (s.modHist i f).cmp = s.cmp := rfl
@[simp] theorem State.modHist_lastHanded (s : State) (i : Nat) (f : HistRec → HistRec) : (s.modHist i f).lastHanded = s.lastHanded := rfl
@[simp] theorem State.modHist_dma (s : State) (i : Nat) (f : HistRec → HistRec) : (s.modHist i f).dma = s.dma := rfl
@[simp] theorem State.modHist_hostMem (s : State) (i : Nat) (f : HistRec → HistRec) : (s.modHist i f).hostMem = s.hostMem := rfl
@[simp] theorem State.modHist_poison (s : State) (i : Nat) (f : HistRec → HistRec) : (s.modHist i f).poison = s.poison := rfl
@[simp] theorem State.modHist_memChans (s : State) (i : Nat) (f : HistRec → HistRec) : (s.modHist i f).memChans = s.memChans := rfl
@[simp] theorem State.modHist_selfRefresh (s : State) (i : Nat) (f : HistRec → HistRec) : (s.modHist i f).selfRefresh = s.selfRefresh := rfl
@[simp] theorem State.modHist_cores (s : State) (i : Nat) (f : HistRec → HistRec) : (s.modHist i f).cores = s.cores := rfl
@[simp] theorem State.modHist_obs (s : State) (i : Nat) (f : HistRec → HistRec) : (s.modHist i f).obs = s.obs := rfl
@[simp] theorem State.modHist_wires (s : State) (i : Nat) (f : HistRec → HistRec) : (s.modHist i f).wires = s.wires := rfl
@[simp] theorem State.modHist_mot (s : State) (i : Nat) (f : HistRec → HistRec) : (s.modHist i f).mot = s.mot := rfl
@[simp] theorem State.modHist_stp (s : State) (i : Nat) (f : HistRec → HistRec) : (s.modHist i f).stp = s.stp := rfl
@[simp] theorem State.modHist_hv (s : State) (i : Nat) (f : HistRec → HistRec) : (s.modHist i f).hv = s.hv := rfl
@[simp] theorem State.modHist_fus (s : State) (i : Nat) (f : HistRec → HistRec) : (s.modHist i f).fus = s.fus := rfl
@[simp] theorem State.modHist_thm (s : State) (i : Nat) (f : HistRec → HistRec) : (s.modHist i f).thm = s.thm := rfl
@[simp] theorem State.modHist_psq (s : State) (i : Nat) (f : HistRec → HistRec) : (s.modHist i f).psq = s.psq := rfl
@[simp] theorem State.modHist_otp (s : State) (i : Nat) (f : HistRec → HistRec) : (s.modHist i f).otp = s.otp := rfl
@[simp] theorem State.modHist_roscAt (s : State) (i : Nat) (f : HistRec → HistRec) : (s.modHist i f).roscAt = s.roscAt := rfl
@[simp] theorem State.modHist_aon (s : State) (i : Nat) (f : HistRec → HistRec) : (s.modHist i f).aon = s.aon := rfl
@[simp] theorem State.modHist_busData (s : State) (i : Nat) (f : HistRec → HistRec) : (s.modHist i f).busData = s.busData := rfl
@[simp] theorem State.modHist_hyw (s : State) (i : Nat) (f : HistRec → HistRec) : (s.modHist i f).hyw = s.hyw := rfl
@[simp] theorem State.modHist_captured (s : State) (i : Nat) (f : HistRec → HistRec) : (s.modHist i f).captured = s.captured := rfl
@[simp] theorem State.modHist_staged (s : State) (i : Nat) (f : HistRec → HistRec) : (s.modHist i f).staged = s.staged := rfl
@[simp] theorem State.modHist_edges (s : State) (i : Nat) (f : HistRec → HistRec) : (s.modHist i f).edges = s.edges := rfl
@[simp] theorem State.modHist_padIns (s : State) (i : Nat) (f : HistRec → HistRec) : (s.modHist i f).padIns = s.padIns := rfl
@[simp] theorem State.modHist_mapping (s : State) (i : Nat) (f : HistRec → HistRec) : (s.modHist i f).mapping = s.mapping := rfl
@[simp] theorem State.modHist_fired (s : State) (i : Nat) (f : HistRec → HistRec) : (s.modHist i f).fired = s.fired := rfl
@[simp] theorem State.modHist_results (s : State) (i : Nat) (f : HistRec → HistRec) : (s.modHist i f).results = s.results := rfl
@[simp] theorem State.modHist_resultsAt (s : State) (i : Nat) (f : HistRec → HistRec) : (s.modHist i f).resultsAt = s.resultsAt := rfl
@[simp] theorem State.modHist_snsAt (s : State) (i : Nat) (f : HistRec → HistRec) : (s.modHist i f).snsAt = s.snsAt := rfl

@[simp] theorem State.modStream_pending (s : State) (n : Nat) (f : Stream → Stream) : (s.modStream n f).pending = s.pending := rfl
@[simp] theorem State.modStream_free (s : State) (n : Nat) (f : Stream → Stream) : (s.modStream n f).free = s.free := rfl
@[simp] theorem State.modStream_cord (s : State) (n : Nat) (f : Stream → Stream) : (s.modStream n f).cord = s.cord := rfl
@[simp] theorem State.modStream_coreCycles (s : State) (n : Nat) (f : Stream → Stream) : (s.modStream n f).coreCycles = s.coreCycles := rfl
@[simp] theorem State.modStream_regs (s : State) (n : Nat) (f : Stream → Stream) : (s.modStream n f).regs = s.regs := rfl
@[simp] theorem State.modStream_mem (s : State) (n : Nat) (f : Stream → Stream) : (s.modStream n f).mem = s.mem := rfl
@[simp] theorem State.modStream_fram (s : State) (n : Nat) (f : Stream → Stream) : (s.modStream n f).fram = s.fram := rfl
@[simp] theorem State.modStream_claims (s : State) (n : Nat) (f : Stream → Stream) : (s.modStream n f).claims = s.claims := rfl
@[simp] theorem State.modStream_adcOff (s : State) (n : Nat) (f : Stream → Stream) : (s.modStream n f).adcOff = s.adcOff := rfl
@[simp] theorem State.modStream_padOuts (s : State) (n : Nat) (f : Stream → Stream) : (s.modStream n f).padOuts = s.padOuts := rfl
@[simp] theorem State.modStream_acts (s : State) (n : Nat) (f : Stream → Stream) : (s.modStream n f).acts = s.acts := rfl
@[simp] theorem State.modStream_commits (s : State) (n : Nat) (f : Stream → Stream) : (s.modStream n f).commits = s.commits := rfl
@[simp] theorem State.modStream_copied (s : State) (n : Nat) (f : Stream → Stream) : (s.modStream n f).copied = s.copied := rfl
@[simp] theorem State.modStream_fcl (s : State) (n : Nat) (f : Stream → Stream) : (s.modStream n f).fcl = s.fcl := rfl
@[simp] theorem State.modStream_jrn (s : State) (n : Nat) (f : Stream → Stream) : (s.modStream n f).jrn = s.jrn := rfl
@[simp] theorem State.modStream_str (s : State) (n : Nat) (f : Stream → Stream) : (s.modStream n f).str = s.str := rfl
@[simp] theorem State.modStream_syn (s : State) (n : Nat) (f : Stream → Stream) : (s.modStream n f).syn = s.syn := rfl
@[simp] theorem State.modStream_quire (s : State) (n : Nat) (f : Stream → Stream) : (s.modStream n f).quire = s.quire := rfl
@[simp] theorem State.modStream_jobs (s : State) (n : Nat) (f : Stream → Stream) : (s.modStream n f).jobs = s.jobs := rfl
@[simp] theorem State.modStream_ctx (s : State) (n : Nat) (f : Stream → Stream) : (s.modStream n f).ctx = s.ctx := rfl
@[simp] theorem State.modStream_cmp (s : State) (n : Nat) (f : Stream → Stream) : (s.modStream n f).cmp = s.cmp := rfl
@[simp] theorem State.modStream_lastHanded (s : State) (n : Nat) (f : Stream → Stream) : (s.modStream n f).lastHanded = s.lastHanded := rfl
@[simp] theorem State.modStream_dma (s : State) (n : Nat) (f : Stream → Stream) : (s.modStream n f).dma = s.dma := rfl
@[simp] theorem State.modStream_hostMem (s : State) (n : Nat) (f : Stream → Stream) : (s.modStream n f).hostMem = s.hostMem := rfl
@[simp] theorem State.modStream_poison (s : State) (n : Nat) (f : Stream → Stream) : (s.modStream n f).poison = s.poison := rfl
@[simp] theorem State.modStream_memChans (s : State) (n : Nat) (f : Stream → Stream) : (s.modStream n f).memChans = s.memChans := rfl
@[simp] theorem State.modStream_selfRefresh (s : State) (n : Nat) (f : Stream → Stream) : (s.modStream n f).selfRefresh = s.selfRefresh := rfl
@[simp] theorem State.modStream_cores (s : State) (n : Nat) (f : Stream → Stream) : (s.modStream n f).cores = s.cores := rfl
@[simp] theorem State.modStream_obs (s : State) (n : Nat) (f : Stream → Stream) : (s.modStream n f).obs = s.obs := rfl
@[simp] theorem State.modStream_wires (s : State) (n : Nat) (f : Stream → Stream) : (s.modStream n f).wires = s.wires := rfl
@[simp] theorem State.modStream_mot (s : State) (n : Nat) (f : Stream → Stream) : (s.modStream n f).mot = s.mot := rfl
@[simp] theorem State.modStream_stp (s : State) (n : Nat) (f : Stream → Stream) : (s.modStream n f).stp = s.stp := rfl
@[simp] theorem State.modStream_hv (s : State) (n : Nat) (f : Stream → Stream) : (s.modStream n f).hv = s.hv := rfl
@[simp] theorem State.modStream_fus (s : State) (n : Nat) (f : Stream → Stream) : (s.modStream n f).fus = s.fus := rfl
@[simp] theorem State.modStream_thm (s : State) (n : Nat) (f : Stream → Stream) : (s.modStream n f).thm = s.thm := rfl
@[simp] theorem State.modStream_psq (s : State) (n : Nat) (f : Stream → Stream) : (s.modStream n f).psq = s.psq := rfl
@[simp] theorem State.modStream_otp (s : State) (n : Nat) (f : Stream → Stream) : (s.modStream n f).otp = s.otp := rfl
@[simp] theorem State.modStream_roscAt (s : State) (n : Nat) (f : Stream → Stream) : (s.modStream n f).roscAt = s.roscAt := rfl
@[simp] theorem State.modStream_aon (s : State) (n : Nat) (f : Stream → Stream) : (s.modStream n f).aon = s.aon := rfl
@[simp] theorem State.modStream_busData (s : State) (n : Nat) (f : Stream → Stream) : (s.modStream n f).busData = s.busData := rfl
@[simp] theorem State.modStream_hyw (s : State) (n : Nat) (f : Stream → Stream) : (s.modStream n f).hyw = s.hyw := rfl
@[simp] theorem State.modStream_captured (s : State) (n : Nat) (f : Stream → Stream) : (s.modStream n f).captured = s.captured := rfl
@[simp] theorem State.modStream_staged (s : State) (n : Nat) (f : Stream → Stream) : (s.modStream n f).staged = s.staged := rfl
@[simp] theorem State.modStream_edges (s : State) (n : Nat) (f : Stream → Stream) : (s.modStream n f).edges = s.edges := rfl
@[simp] theorem State.modStream_padIns (s : State) (n : Nat) (f : Stream → Stream) : (s.modStream n f).padIns = s.padIns := rfl
@[simp] theorem State.modStream_mapping (s : State) (n : Nat) (f : Stream → Stream) : (s.modStream n f).mapping = s.mapping := rfl
@[simp] theorem State.modStream_fired (s : State) (n : Nat) (f : Stream → Stream) : (s.modStream n f).fired = s.fired := rfl
@[simp] theorem State.modStream_results (s : State) (n : Nat) (f : Stream → Stream) : (s.modStream n f).results = s.results := rfl
@[simp] theorem State.modStream_resultsAt (s : State) (n : Nat) (f : Stream → Stream) : (s.modStream n f).resultsAt = s.resultsAt := rfl
@[simp] theorem State.modStream_snsAt (s : State) (n : Nat) (f : Stream → Stream) : (s.modStream n f).snsAt = s.snsAt := rfl

@[simp] theorem State.modStr_pending (s : State) (k : Nat) (f : Str → Str) : (s.modStr k f).pending = s.pending := rfl
@[simp] theorem State.modStr_free (s : State) (k : Nat) (f : Str → Str) : (s.modStr k f).free = s.free := rfl
@[simp] theorem State.modStr_cord (s : State) (k : Nat) (f : Str → Str) : (s.modStr k f).cord = s.cord := rfl
@[simp] theorem State.modStr_coreCycles (s : State) (k : Nat) (f : Str → Str) : (s.modStr k f).coreCycles = s.coreCycles := rfl
@[simp] theorem State.modStr_regs (s : State) (k : Nat) (f : Str → Str) : (s.modStr k f).regs = s.regs := rfl
@[simp] theorem State.modStr_mem (s : State) (k : Nat) (f : Str → Str) : (s.modStr k f).mem = s.mem := rfl
@[simp] theorem State.modStr_fram (s : State) (k : Nat) (f : Str → Str) : (s.modStr k f).fram = s.fram := rfl
@[simp] theorem State.modStr_claims (s : State) (k : Nat) (f : Str → Str) : (s.modStr k f).claims = s.claims := rfl
@[simp] theorem State.modStr_adcOff (s : State) (k : Nat) (f : Str → Str) : (s.modStr k f).adcOff = s.adcOff := rfl
@[simp] theorem State.modStr_padOuts (s : State) (k : Nat) (f : Str → Str) : (s.modStr k f).padOuts = s.padOuts := rfl
@[simp] theorem State.modStr_acts (s : State) (k : Nat) (f : Str → Str) : (s.modStr k f).acts = s.acts := rfl
@[simp] theorem State.modStr_commits (s : State) (k : Nat) (f : Str → Str) : (s.modStr k f).commits = s.commits := rfl
@[simp] theorem State.modStr_copied (s : State) (k : Nat) (f : Str → Str) : (s.modStr k f).copied = s.copied := rfl
@[simp] theorem State.modStr_gath (s : State) (k : Nat) (f : Str → Str) : (s.modStr k f).gath = s.gath := rfl
@[simp] theorem State.modStr_fcl (s : State) (k : Nat) (f : Str → Str) : (s.modStr k f).fcl = s.fcl := rfl
@[simp] theorem State.modStr_jrn (s : State) (k : Nat) (f : Str → Str) : (s.modStr k f).jrn = s.jrn := rfl
@[simp] theorem State.modStr_syn (s : State) (k : Nat) (f : Str → Str) : (s.modStr k f).syn = s.syn := rfl
@[simp] theorem State.modStr_quire (s : State) (k : Nat) (f : Str → Str) : (s.modStr k f).quire = s.quire := rfl
@[simp] theorem State.modStr_jobs (s : State) (k : Nat) (f : Str → Str) : (s.modStr k f).jobs = s.jobs := rfl
@[simp] theorem State.modStr_ctx (s : State) (k : Nat) (f : Str → Str) : (s.modStr k f).ctx = s.ctx := rfl
@[simp] theorem State.modStr_cmp (s : State) (k : Nat) (f : Str → Str) : (s.modStr k f).cmp = s.cmp := rfl
@[simp] theorem State.modStr_lastHanded (s : State) (k : Nat) (f : Str → Str) : (s.modStr k f).lastHanded = s.lastHanded := rfl
@[simp] theorem State.modStr_dma (s : State) (k : Nat) (f : Str → Str) : (s.modStr k f).dma = s.dma := rfl
@[simp] theorem State.modStr_hostMem (s : State) (k : Nat) (f : Str → Str) : (s.modStr k f).hostMem = s.hostMem := rfl
@[simp] theorem State.modStr_poison (s : State) (k : Nat) (f : Str → Str) : (s.modStr k f).poison = s.poison := rfl
@[simp] theorem State.modStr_memChans (s : State) (k : Nat) (f : Str → Str) : (s.modStr k f).memChans = s.memChans := rfl
@[simp] theorem State.modStr_selfRefresh (s : State) (k : Nat) (f : Str → Str) : (s.modStr k f).selfRefresh = s.selfRefresh := rfl
@[simp] theorem State.modStr_cores (s : State) (k : Nat) (f : Str → Str) : (s.modStr k f).cores = s.cores := rfl
@[simp] theorem State.modStr_obs (s : State) (k : Nat) (f : Str → Str) : (s.modStr k f).obs = s.obs := rfl
@[simp] theorem State.modStr_wires (s : State) (k : Nat) (f : Str → Str) : (s.modStr k f).wires = s.wires := rfl
@[simp] theorem State.modStr_mot (s : State) (k : Nat) (f : Str → Str) : (s.modStr k f).mot = s.mot := rfl
@[simp] theorem State.modStr_stp (s : State) (k : Nat) (f : Str → Str) : (s.modStr k f).stp = s.stp := rfl
@[simp] theorem State.modStr_hv (s : State) (k : Nat) (f : Str → Str) : (s.modStr k f).hv = s.hv := rfl
@[simp] theorem State.modStr_fus (s : State) (k : Nat) (f : Str → Str) : (s.modStr k f).fus = s.fus := rfl
@[simp] theorem State.modStr_thm (s : State) (k : Nat) (f : Str → Str) : (s.modStr k f).thm = s.thm := rfl
@[simp] theorem State.modStr_psq (s : State) (k : Nat) (f : Str → Str) : (s.modStr k f).psq = s.psq := rfl
@[simp] theorem State.modStr_otp (s : State) (k : Nat) (f : Str → Str) : (s.modStr k f).otp = s.otp := rfl
@[simp] theorem State.modStr_roscAt (s : State) (k : Nat) (f : Str → Str) : (s.modStr k f).roscAt = s.roscAt := rfl
@[simp] theorem State.modStr_aon (s : State) (k : Nat) (f : Str → Str) : (s.modStr k f).aon = s.aon := rfl
@[simp] theorem State.modStr_busData (s : State) (k : Nat) (f : Str → Str) : (s.modStr k f).busData = s.busData := rfl
@[simp] theorem State.modStr_hyw (s : State) (k : Nat) (f : Str → Str) : (s.modStr k f).hyw = s.hyw := rfl
@[simp] theorem State.modStr_captured (s : State) (k : Nat) (f : Str → Str) : (s.modStr k f).captured = s.captured := rfl
@[simp] theorem State.modStr_staged (s : State) (k : Nat) (f : Str → Str) : (s.modStr k f).staged = s.staged := rfl
@[simp] theorem State.modStr_edges (s : State) (k : Nat) (f : Str → Str) : (s.modStr k f).edges = s.edges := rfl
@[simp] theorem State.modStr_padIns (s : State) (k : Nat) (f : Str → Str) : (s.modStr k f).padIns = s.padIns := rfl
@[simp] theorem State.modStr_mapping (s : State) (k : Nat) (f : Str → Str) : (s.modStr k f).mapping = s.mapping := rfl
@[simp] theorem State.modStr_fired (s : State) (k : Nat) (f : Str → Str) : (s.modStr k f).fired = s.fired := rfl
@[simp] theorem State.modStr_results (s : State) (k : Nat) (f : Str → Str) : (s.modStr k f).results = s.results := rfl
@[simp] theorem State.modStr_resultsAt (s : State) (k : Nat) (f : Str → Str) : (s.modStr k f).resultsAt = s.resultsAt := rfl
@[simp] theorem State.modStr_snsAt (s : State) (k : Nat) (f : Str → Str) : (s.modStr k f).snsAt = s.snsAt := rfl

end Sys2Proof.Machine
end

