-- ==== Sys2Proof/Laws/Footprint.lean ====
section
/-! SUPPORT. What observation and fault events can touch: OBS's own registers and state, and FCL's with the ring it posts on. -/

namespace Sys2Proof.Machine

/-- Nothing but OBS's registers and state differs. -/
structure ObsOnly (s t : State) : Prop where
  same : t = { s with regs := t.regs, obs := t.obs }
  words : ∀ (a : Nat), (a < 0x280000 ∨ 0x2C0000 ≤ a) → ∀ d : Word, Cells.get d a t.regs = Cells.get d a s.regs

theorem ObsOnly.refl (s : State) : ObsOnly s s := ⟨rfl, fun _ _ _ => rfl⟩

theorem ObsOnly.trans {s t u : State} (h1 : ObsOnly s t) (h2 : ObsOnly t u) : ObsOnly s u := by
  refine ⟨?_, fun a ha d => (h2.words a ha d).trans (h1.words a ha d)⟩
  rw [h2.same, h1.same]

theorem ObsOnly.setWord {s t : State} (h : ObsOnly s t) (r : Reg) (n k v : Nat)
    (hr : 0x280000 ≤ r.addr n k ∧ r.addr n k < 0x2C0000) : ObsOnly s (t.setWord r n k v) := by
  refine h.trans ⟨rfl, fun a ha d => ?_⟩
  exact Cells.get_put_ne _ _ _ _ (by omega)

theorem ObsOnly.p {s t : State} (h : ObsOnly s t) (f : FieldRef) (x : Nat)
    (hr : 0x280000 ≤ f.reg.addr f.n f.k ∧ f.reg.addr f.n f.k < 0x2C0000) : ObsOnly s (t.p f x) := h.setWord _ _ _ _ hr

theorem ObsOnly.obs {s t : State} (h : ObsOnly s t) (o : Obs) : ObsOnly s { t with obs := o } :=
  h.trans ⟨rfl, fun _ _ _ => rfl⟩

theorem ObsOnly.forRange {s : State} (f : Nat → State → State) (m c : Nat) (hf : ∀ k t, m ≤ k → k < m + c → ObsOnly s t → ObsOnly s (f k t)) :
    ∀ t, ObsOnly s t → ObsOnly s (forRange m c f t) := by
  induction c generalizing m with
  | zero => intro t h; exact h
  | succ c ih =>
    intro t h
    exact ih (m + 1) (fun k t hk hk' => hf k t (by omega) (by omega)) _ (hf m t (Nat.le_refl _) (by omega) h)

/-- A field outside OBS reads as before. -/
theorem ObsOnly.g {s t : State} (h : ObsOnly s t) (f : FieldRef)
    (hf : f.reg.addr f.n f.k < 0x280000 ∨ 0x2C0000 ≤ f.reg.addr f.n f.k) : t.g f = s.g f := by
  simp only [State.g, State.word, h.words _ hf]

theorem ObsOnly.word {s t : State} (h : ObsOnly s t) (r : Reg) (n k : Nat)
    (hf : r.addr n k < 0x280000 ∨ 0x2C0000 ≤ r.addr n k) : t.word r n k = s.word r n k := by
  simp only [State.word, h.words _ hf]

theorem ObsOnly.due {s t : State} (h : ObsOnly s t) : t.fcl = s.fcl := by rw [h.same]

theorem State.obsWrap_obsOnly (s : State) (k : Nat) (hk : k < 64) : ObsOnly s (s.obsWrap k) := by
  have hc : s.g (F.OBS_EVSEL_CORE k) < 32 := s.g_lt _
  have h1 : ObsOnly s (s.p (F.OBS_EVSEL_OVF k) 1) := (ObsOnly.refl s).p _ _ (by simp [F.OBS_EVSEL_OVF]; omega)
  unfold State.obsWrap
  simp only []
  split
  · split
    · exact h1.p _ _ (by simp [F.OBS_SAMP_INFO_MERGED]; omega)
    · refine ((((h1.setWord _ _ _ _ ?_).p _ _ ?_).p _ _ ?_).p _ _ ?_) <;>
        simp [F.OBS_SAMP_INFO_INDEX, F.OBS_SAMP_INFO_MERGED, F.OBS_SAMP_INFO_PEND] <;> omega
  · exact h1

theorem State.count_obsOnly (s : State) (event inst n : Nat) : ObsOnly s (s.count event inst n) := by
  unfold State.count
  split
  · refine ObsOnly.forRange _ 0 64 (fun k t _ hk h => ?_) s (ObsOnly.refl s)
    split
    · have h1 : ObsOnly s (t.setObsCount k ((t.obsCount k + n) % 2 ^ 48)) := by
        unfold State.setObsCount
        refine (h.p _ _ ?_).p _ _ ?_ <;> simp [F.OBS_CNT_LO_COUNT, F.OBS_CNT_HI_COUNT] <;> omega
      simp only []
      split
      · exact h1.trans (State.obsWrap_obsOnly _ k (by omega))
      · exact h1
    · exact h
  · exact ObsOnly.refl s

theorem State.fixed_obsOnly (s : State) (i : Nat) (hi : i < 16) : ObsOnly s (s.fixed i) := by
  unfold State.fixed
  split
  · exact ObsOnly.refl s
  · refine ((ObsOnly.refl s).p _ _ ?_).p _ _ ?_ <;> simp [F.OBS_FIX_LO_COUNT, F.OBS_FIX_HI_COUNT] <;> omega

theorem State.traceDrop_obsOnly (s : State) : ObsOnly s s.traceDrop := by
  unfold State.traceDrop
  exact ((ObsOnly.refl s).p _ _ (by simp [F.OBS_STAT_LOST])).obs _

theorem State.tracePush_obsOnly (s : State) (rec : List Nat) : ObsOnly s (s.tracePush rec) := by
  unfold State.tracePush
  split
  · exact (ObsOnly.refl s).obs _
  · exact s.traceDrop_obsOnly

theorem State.traceEv_obsOnly (s : State) (o c a d : Nat) : ObsOnly s (s.traceEv o c a d) := by
  unfold State.traceEv
  split
  · exact s.tracePush_obsOnly _
  · exact ObsOnly.refl s

theorem State.bwAdd_obsOnly (s : State) (p n : Nat) : ObsOnly s (s.bwAdd p n) := by
  unfold State.bwAdd
  split
  · exact (ObsOnly.refl s).obs _
  · exact ObsOnly.refl s

theorem State.bwMem_obsOnly (s : State) (w : Bool) (off n : Nat) : ObsOnly s (s.bwMem w off n) := by
  unfold State.bwMem
  split
  · exact (State.bwAdd_obsOnly _ _ _).trans (State.bwAdd_obsOnly _ _ _)
  · exact ObsOnly.refl s

/-- Nothing but FCL, OBS, the tails of rings and ring memory differs: what a fault event can touch. -/
structure FclOnly (s t : State) : Prop where
  same : t = { s with regs := t.regs, obs := t.obs, fcl := t.fcl, mem := t.mem }
  words : ∀ (a : Nat), (a < 0x280000 ∨ 0x2C0000 ≤ a) → (a < 0x100000 ∨ 0x140000 ≤ a) → (a < 0x80000 ∨ 0xC0000 ≤ a) →
    ∀ d : Word, Cells.get d a t.regs = Cells.get d a s.regs
  mem : Cells.wf 0 s.mem = true → Cells.wf 0 t.mem = true

theorem FclOnly.refl (s : State) : FclOnly s s := ⟨rfl, fun _ _ _ _ _ => rfl, id⟩

theorem FclOnly.trans {s t u : State} (h1 : FclOnly s t) (h2 : FclOnly t u) : FclOnly s u := by
  refine ⟨?_, fun a h h' h'' d => (h2.words a h h' h'' d).trans (h1.words a h h' h'' d), fun h => h2.mem (h1.mem h)⟩
  rw [h2.same, h1.same]

theorem ObsOnly.fcl {s t : State} (h : ObsOnly s t) : FclOnly s t :=
  ⟨by rw [h.same], fun a h1 _ _ d => h.words a h1 d, by rw [h.same]; exact id⟩

theorem FclOnly.setWord {s t : State} (h : FclOnly s t) (r : Reg) (n k v : Nat)
    (hr : (0x280000 ≤ r.addr n k ∧ r.addr n k < 0x2C0000) ∨ (0x100000 ≤ r.addr n k ∧ r.addr n k < 0x140000)
      ∨ (0x80000 ≤ r.addr n k ∧ r.addr n k < 0xC0000)) : FclOnly s (t.setWord r n k v) := by
  refine h.trans ⟨rfl, fun a h1 h2 h3 d => ?_, id⟩
  exact Cells.get_put_ne _ _ _ _ (by omega)

theorem FclOnly.p {s t : State} (h : FclOnly s t) (f : FieldRef) (x : Nat)
    (hr : (0x280000 ≤ f.reg.addr f.n f.k ∧ f.reg.addr f.n f.k < 0x2C0000) ∨ (0x100000 ≤ f.reg.addr f.n f.k ∧ f.reg.addr f.n f.k < 0x140000)
      ∨ (0x80000 ≤ f.reg.addr f.n f.k ∧ f.reg.addr f.n f.k < 0xC0000)) : FclOnly s (t.p f x) := h.setWord _ _ _ _ hr

theorem FclOnly.setFcl {s t : State} (h : FclOnly s t) (x : Fcl) : FclOnly s { t with fcl := x } :=
  h.trans ⟨rfl, fun _ _ _ _ _ => rfl, id⟩

theorem FclOnly.wrBytes {s t : State} (h : FclOnly s t) (a : Nat) (bs : List Nat) : FclOnly s (t.wrBytes a bs) :=
  h.trans ⟨rfl, fun _ _ _ _ _ => rfl, Cells.wf_putBytes 0 bs a _⟩

/-- A field outside FCL, OBS and TCE reads as before. -/
theorem FclOnly.g {s t : State} (h : FclOnly s t) (f : FieldRef)
    (h1 : f.reg.addr f.n f.k < 0x280000 ∨ 0x2C0000 ≤ f.reg.addr f.n f.k) (h2 : f.reg.addr f.n f.k < 0x100000 ∨ 0x140000 ≤ f.reg.addr f.n f.k)
    (h3 : f.reg.addr f.n f.k < 0x80000 ∨ 0xC0000 ≤ f.reg.addr f.n f.k) : t.g f = s.g f := by
  simp only [State.g, State.word, h.words _ h1 h2 h3]

theorem FclOnly.word {s t : State} (h : FclOnly s t) (r : Reg) (n k : Nat)
    (h1 : r.addr n k < 0x280000 ∨ 0x2C0000 ≤ r.addr n k) (h2 : r.addr n k < 0x100000 ∨ 0x140000 ≤ r.addr n k)
    (h3 : r.addr n k < 0x80000 ∨ 0xC0000 ≤ r.addr n k) : t.word r n k = s.word r n k := by
  simp only [State.word, h.words _ h1 h2 h3]

theorem State.ringPutC_fclOnly (s : State) (q : Nat) (bs : List Nat) (hq : q < 128) : FclOnly s (s.ringPutC q bs) := by
  unfold State.ringPutC State.ringPut
  refine FclOnly.trans (FclOnly.p ((FclOnly.refl s).wrBytes _ _) _ _ ?_) (State.count_obsOnly _ _ _ _).fcl
  simp [F.TCE_QTAIL_INDEX]; omega

theorem State.fclMark_fclOnly (s : State) : FclOnly s s.fclMark := by
  unfold State.fclMark
  split
  · exact ((FclOnly.refl s).setFcl _).trans (State.ringPutC_fclOnly _ _ _ (s.g_lt F.FCL_RINGCFG_RING))
  · exact FclOnly.refl s

theorem State.sawFull_obsOnly (s : State) (q : Nat) : ObsOnly s (s.sawFull q) := by
  unfold State.sawFull
  split
  · exact State.count_obsOnly _ _ _ _
  · exact ObsOnly.refl s

theorem State.fclPost_fclOnly (s : State) (r : HistRec) : FclOnly s (s.fclPost r) := by
  unfold State.fclPost
  refine s.fclMark_fclOnly.trans ?_
  simp only []
  split
  · split
    · exact State.ringPutC_fclOnly _ _ _ (State.g_lt _ F.FCL_RINGCFG_RING)
    · exact (State.sawFull_obsOnly _ _).fcl.p _ _ (by simp [F.FCL_RINGCFG_LOST])
  · exact FclOnly.refl _

theorem State.noteDue_fclOnly (s : State) (k : KettleCause) : FclOnly s (s.noteDue k) := by
  unfold State.noteDue
  split
  · exact FclOnly.refl s
  · split
    · exact (FclOnly.refl s).setFcl _
    · split
      · exact (FclOnly.refl s).setFcl _
      · exact FclOnly.refl s

theorem State.modHist_fclOnly (s : State) (i : Nat) (f : HistRec → HistRec) : FclOnly s (s.modHist i f) := (FclOnly.refl s).setFcl _

theorem State.takeHist_fclOnly (s : State) (i : Nat) (e : FaultEv) : FclOnly s (s.takeHist i e) := by
  unfold State.takeHist
  refine FclOnly.trans (FclOnly.trans (FclOnly.trans ?_ (State.fclPost_fclOnly _ _)) (State.count_obsOnly _ _ _ _).fcl) (State.traceEv_obsOnly _ _ _ _ _).fcl
  refine FclOnly.p ((s.modHist_fclOnly i _).p _ _ ?_) _ _ ?_ <;> simp [F.FCL_HEAD_NEWEST, F.FCL_HEAD_NEXTSEQ]

theorem State.recordEvent_fclOnly (s : State) (e : FaultEv) : FclOnly s (s.recordEvent e) := by
  have hd : FclOnly s (s.inc F.FCL_STAT_DROPPED) := (FclOnly.refl s).p _ _ (by simp [F.FCL_STAT_DROPPED])
  unfold State.recordEvent
  split
  · exact s.modHist_fclOnly _ _
  · split
    · exact s.modHist_fclOnly _ _
    · split
      · exact s.takeHist_fclOnly _ e
      · split
        · exact hd
        · simp only []
          split <;> split <;>
            first
            | exact hd
            | exact hd.trans (State.modHist_fclOnly _ _ _)
            | exact hd.trans (State.noteDue_fclOnly _ _)
            | exact (hd.trans (State.modHist_fclOnly _ _ _)).trans (State.noteDue_fclOnly _ _)

/-- What a fault event can touch (R332 to R339). -/
theorem State.raise_fclOnly (s : State) (source code detail : Nat) (cls : Cls) (reason : Nat) (folio : Option (Nat × Nat)) :
    FclOnly s (s.raise source code detail cls reason folio) := by
  unfold State.raise State.raiseEv
  split
  · exact (State.recordEvent_fclOnly _ _).trans (State.noteDue_fclOnly _ _)
  · exact State.recordEvent_fclOnly _ _

/-! ### No kettle entry is caused -/

theorem State.count_fcl (s : State) (a b c : Nat) : (s.count a b c).fcl = s.fcl := (s.count_obsOnly a b c).due

theorem State.traceEv_fcl (s : State) (a b c d : Nat) : (s.traceEv a b c d).fcl = s.fcl := (s.traceEv_obsOnly a b c d).due

theorem State.ringPutC_fcl (s : State) (q : Nat) (bs : List Nat) : (s.ringPutC q bs).fcl = s.fcl := by
  unfold State.ringPutC; rw [State.count_fcl]; rfl

theorem State.sawFull_fcl (s : State) (q : Nat) : (s.sawFull q).fcl = s.fcl := by
  unfold State.sawFull; split
  · exact State.count_fcl _ _ _ _
  · rfl

theorem State.fclMark_due (s : State) : s.fclMark.fcl.due = s.fcl.due := by
  unfold State.fclMark; split
  · rw [State.ringPutC_fcl]
  · rfl

theorem State.fclPost_due (s : State) (r : HistRec) : (s.fclPost r).fcl.due = s.fcl.due := by
  unfold State.fclPost
  simp only []
  split
  · split
    · rw [State.ringPutC_fcl, State.fclMark_due]
    · simp [State.sawFull_fcl, State.fclMark_due]
  · exact s.fclMark_due

theorem State.takeHist_due (s : State) (i : Nat) (e : FaultEv) : (s.takeHist i e).fcl.due = s.fcl.due := by
  unfold State.takeHist
  simp only []
  rw [State.traceEv_fcl, State.count_fcl, State.fclPost_due]; rfl

/-- A class-A event causes no kettle entry (R334). -/
theorem State.raise_a_due (s : State) (source code detail reason : Nat) (folio : Option (Nat × Nat)) :
    (s.raise source code detail .a reason folio).fcl.due = s.fcl.due := by
  simp only [State.raise, State.raiseEv, State.recordEvent]
  split
  · rename_i h; exact absurd h (by decide)
  · split
    · rfl
    · split
      · rfl
      · split
        · exact State.takeHist_due _ _ _
        · rfl

theorem State.settleLost_fclOnly (s : State) : FclOnly s s.settleLost := by
  unfold State.settleLost
  split
  · exact FclOnly.trans (((ObsOnly.refl s).obs _).fcl.trans (State.raise_fclOnly _ _ _ _ _ _ _)) ((ObsOnly.refl _).obs _).fcl
  · exact FclOnly.refl s

theorem State.settleLost_due (s : State) : s.settleLost.fcl.due = s.fcl.due := by
  unfold State.settleLost
  split
  · simp only []; rw [State.raise_a_due]
  · rfl

theorem State.settleDue_none (s : State) (h : s.fcl.due = none) : s.settleDue = s := by
  unfold State.settleDue; simp [h]

/-- The end of a command that caused no kettle entry touches nothing but what the OBS_LOST fault touches. -/
theorem State.settle_fclOnly (s : State) (h : s.fcl.due = none) : FclOnly s s.settle := by
  unfold State.settle; rw [s.settleDue_none h]; exact s.settleLost_fclOnly

/-- With no record lost either, it changes nothing. -/
theorem State.settle_id (s : State) (h : s.fcl.due = none) (hl : s.obs.lostDue = false) : s.settle = s := by
  unfold State.settle State.settleLost
  rw [s.settleDue_none h]; simp [hl]

/-- No command leaves a kettle entry that it caused undone (R335). -/
theorem State.settle_due (s : State) : s.settle.fcl.due = none := by
  unfold State.settle
  rw [State.settleLost_due]
  unfold State.settleDue
  split
  · assumption
  · rfl

/-- Nor an OBS_LOST (R417). -/
theorem State.settle_lost (s : State) : s.settle.obs.lostDue = false := by
  unfold State.settle State.settleLost
  split
  · rfl
  · rename_i h; simpa using h

/-! ### Where a fault event is found -/

theorem vget_vmod {α : Type} [Inhabited α] {n : Nat} (v : Vector α n) (i j : Nat) (f : α → α) :
    vget (vmod v i f) j = if i = j ∧ j < n then f (vget v j) else vget v j := by
  unfold vget vmod
  by_cases hi : i < n
  · by_cases hj : j < n
    · by_cases e : i = j
      · subst e; simp [hi]
      · simp [hi, hj, e]
    · simp [hj]
  · by_cases e : i = j
    · subst e; simp [hi]
    · simp [hi, e]

theorem State.modHist_get (s : State) (i j : Nat) (f : HistRec → HistRec) :
    vget (s.modHist i f).fcl.hist j = if i = j ∧ j < 16 then f (vget s.fcl.hist j) else vget s.fcl.hist j := vget_vmod _ _ _ _

theorem State.fclMark_hist (s : State) : s.fclMark.fcl.hist = s.fcl.hist := by
  unfold State.fclMark; split
  · rw [State.ringPutC_fcl]
  · rfl

theorem State.fclPost_hist (s : State) (r : HistRec) : (s.fclPost r).fcl.hist = s.fcl.hist := by
  unfold State.fclPost
  simp only []
  split
  · split
    · rw [State.ringPutC_fcl, State.fclMark_hist]
    · simp [State.sawFull_fcl, State.fclMark_hist]
  · exact s.fclMark_hist

theorem histOrder_lt (n i : Nat) (h : i ∈ histOrder n) : i < 16 := by
  simp only [histOrder, List.mem_map] at h
  obtain ⟨d, _, rfl⟩ := h
  exact Nat.mod_lt _ (by omega)

theorem State.takeHist_get (s : State) (i : Nat) (e : FaultEv) (hi : i < 16) : vget (s.takeHist i e).fcl.hist i = s.newRec e := by
  unfold State.takeHist
  simp only []
  rw [State.traceEv_fcl, State.count_fcl, State.fclPost_hist]
  show vget (s.modHist i fun _ => s.newRec e).fcl.hist i = _
  rw [State.modHist_get, if_pos ⟨rfl, hi⟩]

/-- A fault event is found in the history where it has room for one (R334, R336). -/
theorem State.raise_reported (s : State) (source code detail : Nat) (cls : Cls) (reason : Nat) (folio : Option (Nat × Nat))
    (h : s.freeHist.isSome = true) :
    ∃ i, i < 16 ∧ (vget (s.raise source code detail cls reason folio).fcl.hist i).valid = true
      ∧ (vget (s.raise source code detail cls reason folio).fcl.hist i).source = source
      ∧ (vget (s.raise source code detail cls reason folio).fcl.hist i).code = code
      ∧ (vget (s.raise source code detail cls reason folio).fcl.hist i).detail = detail := by
  have key : ∀ e : FaultEv, ∃ i, i < 16 ∧ (vget (s.recordEvent e).fcl.hist i).valid = true ∧ (vget (s.recordEvent e).fcl.hist i).source = e.source
      ∧ (vget (s.recordEvent e).fcl.hist i).code = e.code ∧ (vget (s.recordEvent e).fcl.hist i).detail = e.detail := by
    intro e
    unfold State.recordEvent
    split
    · rename_i i hf
      have hs := List.find?_some hf
      have hi := histOrder_lt _ _ (List.mem_of_find?_eq_some hf)
      simp only [HistRec.same, Bool.and_eq_true, beq_iff_eq] at hs
      refine ⟨i, hi, ?_⟩
      rw [State.modHist_get, if_pos ⟨rfl, hi⟩]
      exact ⟨hs.2.1.1.1, hs.2.1.1.2, hs.2.1.2, hs.2.2⟩
    · split
      · rename_i hs
      
        have hi : s.g F.FCL_HEAD_NEWEST < 16 := s.g_lt _
        simp only [HistRec.same, Bool.and_eq_true, beq_iff_eq] at hs
        refine ⟨s.g F.FCL_HEAD_NEWEST, hi, ?_⟩
        rw [State.modHist_get, if_pos ⟨rfl, hi⟩]
        exact ⟨hs.2.1.1.1, hs.2.1.1.2, hs.2.1.2, hs.2.2⟩
      · split
        · rename_i i hf
          have hi := histOrder_lt _ _ (List.mem_of_find?_eq_some hf)
          refine ⟨i, hi, ?_⟩
          rw [State.takeHist_get _ _ _ hi]
          exact ⟨rfl, rfl, rfl, rfl⟩
        · rename_i hf; rw [hf] at h; simp at h
  obtain ⟨i, hi, h1, h2, h3, h4⟩ := key ⟨source, code, detail, cls, reason, folio, false⟩
  refine ⟨i, hi, ?_⟩
  simp only [State.raise, State.raiseEv]
  split
  · have : ∀ (t : State) (k : KettleCause), (t.noteDue k).fcl.hist = t.fcl.hist := by
      intro t k; unfold State.noteDue; split
      · rfl
      · split
        · rfl
        · split <;> rfl
    rw [this]; exact ⟨h1, h2, h3, h4⟩
  · exact ⟨h1, h2, h3, h4⟩

end Sys2Proof.Machine
end

