-- ==== Sys2Proof/Laws/Calm.lean ====
section
/-! SUPPORT. A calm state (nothing due, LEVEL 0): observation does nothing, a fault of class A or B leaves its record alone, and a cause of spoiling
finds no folio where none is in the path. -/

namespace Sys2Proof.Machine

theorem State.count_off {s : State} (h : s.obsLevel = 0) (e i n : Nat) : s.count e i n = s := by
  unfold State.count; simp [h]

theorem State.traceEv_off {s : State} (h : s.obsLevel = 0) (o c a d : Nat) : s.traceEv o c a d = s := by
  unfold State.traceEv State.traceOn; simp [h]

theorem State.fixed_off {s : State} (h : s.obsLevel = 0) (i : Nat) : s.fixed i = s := by
  unfold State.fixed; simp [h]

theorem State.bwAdd_off {s : State} (h : s.obsLevel = 0) (p n : Nat) : s.bwAdd p n = s := by
  unfold State.bwAdd; simp [h]

theorem State.bwMem_off {s : State} (h : s.obsLevel = 0) (w : Bool) (o n : Nat) : s.bwMem w o n = s := by
  unfold State.bwMem; split
  · simp only [State.bwAdd_off h]
  · rfl

theorem State.ringPutC_off {s : State} (q : Nat) (bs : List Nat) (h : (s.ringPut q bs).obsLevel = 0) : s.ringPutC q bs = s.ringPut q bs :=
  State.count_off h _ _ _

/-- What LEVEL rests on: the wires and the words LCS.STATE and OBS.HOSTEN (R405). -/
theorem State.obsLevel_congr {s t : State} (hw : t.wires = s.wires) (h1 : t.word .LCS_STATE 0 0 = s.word .LCS_STATE 0 0)
    (h2 : t.word .OBS_HOSTEN 0 0 = s.word .OBS_HOSTEN 0 0) : t.obsLevel = s.obsLevel := by
  have e1 : t.lifecycle = s.lifecycle := by
    show bits (t.word .LCS_STATE 0 0) _ _ = bits (s.word .LCS_STATE 0 0) _ _
    rw [h1]
  have e2 : t.on F.OBS_HOSTEN_EN = s.on F.OBS_HOSTEN_EN := by
    show (bits (t.word .OBS_HOSTEN 0 0) _ _ != 0) = (bits (s.word .OBS_HOSTEN 0 0) _ _ != 0)
    rw [h2]
  unfold State.obsLevel
  rw [hw, e1, e2]

theorem State.obsLevel_setWord (s : State) {r : Reg} {n k : Nat} (v : Nat) (h1 : r.addr n k ≠ Reg.addr .LCS_STATE 0 0)
    (h2 : r.addr n k ≠ Reg.addr .OBS_HOSTEN 0 0) : (s.setWord r n k v).obsLevel = s.obsLevel :=
  State.obsLevel_congr rfl (State.word_setWord_ne _ _ (Ne.symm h1)) (State.word_setWord_ne _ _ (Ne.symm h2))

theorem State.obsLevel_p (s : State) {f : FieldRef} (x : Nat) (h1 : f.reg.addr f.n f.k ≠ Reg.addr .LCS_STATE 0 0)
    (h2 : f.reg.addr f.n f.k ≠ Reg.addr .OBS_HOSTEN 0 0) : (s.p f x).obsLevel = s.obsLevel := State.obsLevel_setWord s _ h1 h2

/-- Nothing but FCL's registers and history, TCE's registers and the fault ring's memory differs. -/
structure FaultOnly (s t : State) : Prop where
  same : t = { s with regs := t.regs, fcl := t.fcl, mem := t.mem }
  words : ∀ (a : Nat), (a < 0x100000 ∨ 0x140000 ≤ a) → (a < 0x80000 ∨ 0xC0000 ≤ a) → ∀ d : Word, Cells.get d a t.regs = Cells.get d a s.regs

theorem FaultOnly.refl (s : State) : FaultOnly s s := ⟨rfl, fun _ _ _ _ => rfl⟩

theorem FaultOnly.trans {s t u : State} (h1 : FaultOnly s t) (h2 : FaultOnly t u) : FaultOnly s u := by
  refine ⟨?_, fun a h h' d => (h2.words a h h' d).trans (h1.words a h h' d)⟩
  rw [h2.same, h1.same]

theorem FaultOnly.p {s t : State} (h : FaultOnly s t) (f : FieldRef) (x : Nat)
    (hr : (0x100000 ≤ f.reg.addr f.n f.k ∧ f.reg.addr f.n f.k < 0x140000) ∨ (0x80000 ≤ f.reg.addr f.n f.k ∧ f.reg.addr f.n f.k < 0xC0000)) :
    FaultOnly s (t.p f x) :=
  h.trans ⟨rfl, fun a h1 h2 d => Cells.get_put_ne _ _ _ _ (by omega)⟩

theorem FaultOnly.setFcl {s t : State} (h : FaultOnly s t) (x : Fcl) : FaultOnly s { t with fcl := x } := h.trans ⟨rfl, fun _ _ _ _ => rfl⟩

theorem FaultOnly.wrBytes {s t : State} (h : FaultOnly s t) (a : Nat) (bs : List Nat) : FaultOnly s (t.wrBytes a bs) := h.trans ⟨rfl, fun _ _ _ _ => rfl⟩

/-- A word outside FCL and TCE reads as before. -/
theorem FaultOnly.word {s t : State} (h : FaultOnly s t) (r : Reg) (n k : Nat) (h1 : r.addr n k < 0x100000 ∨ 0x140000 ≤ r.addr n k)
    (h2 : r.addr n k < 0x80000 ∨ 0xC0000 ≤ r.addr n k) : t.word r n k = s.word r n k := by
  simp only [State.word, h.words _ h1 h2]

theorem FaultOnly.g {s t : State} (h : FaultOnly s t) (f : FieldRef) (h1 : f.reg.addr f.n f.k < 0x100000 ∨ 0x140000 ≤ f.reg.addr f.n f.k)
    (h2 : f.reg.addr f.n f.k < 0x80000 ∨ 0xC0000 ≤ f.reg.addr f.n f.k) : t.g f = s.g f := by
  simp only [State.g, h.word _ _ _ h1 h2]

theorem FaultOnly.obsLevel {s t : State} (h : FaultOnly s t) : t.obsLevel = s.obsLevel :=
  State.obsLevel_congr (by rw [h.same]) (h.word _ _ _ (by simp) (by simp)) (h.word _ _ _ (by simp) (by simp))

theorem FaultOnly.regsKept {s t : State} (h : FaultOnly s t) : s.regsKept t [(.FCL, 0), (.TCE, 0)] := by
  intro a d ha
  have h1 := ha (.FCL, 0) (by simp)
  have h2 := ha (.TCE, 0) (by simp)
  simp [Block.base] at h1 h2
  exact h.words a (by omega) (by omega) d

theorem State.ringPut_faultOnly (s : State) (q : Nat) (bs : List Nat) (hq : q < 128) : FaultOnly s (s.ringPut q bs) := by
  unfold State.ringPut
  refine FaultOnly.p ((FaultOnly.refl s).wrBytes _ _) _ _ ?_
  simp [F.TCE_QTAIL_INDEX]; omega

theorem State.ringPutC_faultOnly {s : State} (hl : s.obsLevel = 0) (q : Nat) (bs : List Nat) (hq : q < 128) : FaultOnly s (s.ringPutC q bs) := by
  have h := State.ringPut_faultOnly s q bs hq
  rw [State.ringPutC_off q bs (by rw [h.obsLevel, hl])]; exact h

theorem State.fclMark_faultOnly {s : State} (hl : s.obsLevel = 0) : FaultOnly s s.fclMark := by
  unfold State.fclMark
  split
  · exact ((FaultOnly.refl s).setFcl _).trans (State.ringPutC_faultOnly (by exact hl) _ _ (s.g_lt F.FCL_RINGCFG_RING))
  · exact FaultOnly.refl s

theorem State.sawFull_off {s : State} (hl : s.obsLevel = 0) (q : Nat) : s.sawFull q = s := by
  unfold State.sawFull; split
  · exact State.count_off hl _ _ _
  · rfl

theorem State.fclPost_faultOnly {s : State} (hl : s.obsLevel = 0) (r : HistRec) : FaultOnly s (s.fclPost r) := by
  have hm := State.fclMark_faultOnly hl
  have hl' : s.fclMark.obsLevel = 0 := by rw [hm.obsLevel, hl]
  unfold State.fclPost
  refine hm.trans ?_
  simp only []
  split
  · split
    · exact State.ringPutC_faultOnly hl' _ _ (State.g_lt _ F.FCL_RINGCFG_RING)
    · rw [State.sawFull_off hl']; exact (FaultOnly.refl _).p _ _ (by simp [F.FCL_RINGCFG_LOST])
  · exact FaultOnly.refl _

theorem State.noteDue_faultOnly (s : State) (k : KettleCause) : FaultOnly s (s.noteDue k) := by
  unfold State.noteDue
  split
  · exact FaultOnly.refl s
  · split
    · exact (FaultOnly.refl s).setFcl _
    · split
      · exact (FaultOnly.refl s).setFcl _
      · exact FaultOnly.refl s

theorem State.takeHist_faultOnly {s : State} (hl : s.obsLevel = 0) (i : Nat) (e : FaultEv) : FaultOnly s (s.takeHist i e) := by
  have h1 : FaultOnly s (((s.modHist i (fun _ => s.newRec e)).p F.FCL_HEAD_NEWEST i).incWrap F.FCL_HEAD_NEXTSEQ) := by
    refine FaultOnly.p (FaultOnly.p ((FaultOnly.refl s).setFcl _) _ _ ?_) _ _ ?_ <;> simp [F.FCL_HEAD_NEWEST, F.FCL_HEAD_NEXTSEQ]
  have h2 := h1.trans (State.fclPost_faultOnly (by rw [h1.obsLevel, hl]) (s.newRec e))
  unfold State.takeHist
  simp only []
  rw [State.count_off (by rw [h2.obsLevel, hl]), State.traceEv_off (by rw [h2.obsLevel, hl])]
  exact h2

theorem State.recordEvent_faultOnly {s : State} (hl : s.obsLevel = 0) (e : FaultEv) : FaultOnly s (s.recordEvent e) := by
  have hd : FaultOnly s (s.inc F.FCL_STAT_DROPPED) := (FaultOnly.refl s).p _ _ (by simp [F.FCL_STAT_DROPPED])
  unfold State.recordEvent
  split
  · exact (FaultOnly.refl s).setFcl _
  · split
    · exact (FaultOnly.refl s).setFcl _
    · split
      · exact State.takeHist_faultOnly hl _ _
      · split
        · exact hd
        · simp only []
          repeat' split
          · exact hd.trans (((FaultOnly.refl _).setFcl _).trans (State.noteDue_faultOnly _ _))
          · exact hd.trans (State.noteDue_faultOnly _ _)
          · exact hd.setFcl _
          · exact hd

theorem State.raise_faultOnly {s : State} (hl : s.obsLevel = 0) (source code detail : Nat) (cls : Cls) (reason : Nat) (folio : Option (Nat × Nat)) :
    FaultOnly s (s.raise source code detail cls reason folio) := by
  unfold State.raise State.raiseEv
  split
  · exact (State.recordEvent_faultOnly hl _).trans (State.noteDue_faultOnly _ _)
  · exact State.recordEvent_faultOnly hl _

/-- With room in the history, an event of class A or B causes no kettle entry (R334, R336). -/
theorem State.raise_room_due {s : State} (h : s.histRoom) (source code detail : Nat) (cls : Cls) (hc : cls ≠ .c) (reason : Nat) (folio : Option (Nat × Nat)) :
    (s.raise source code detail cls reason folio).fcl.due = s.fcl.due := by
  unfold State.raise State.raiseEv State.recordEvent
  simp only [beq_iff_eq, if_neg hc]
  split
  · rfl
  · split
    · rfl
    · split
      · exact State.takeHist_due _ _ _
      · rename_i hf; simp [State.histRoom, hf] at h

/-- A fault of class A or B in a calm state with room: the state stays calm, the event is found in the history, and nothing else changes. -/
theorem State.raise_calm {s : State} (hs : s.calm) (h : s.histRoom) (source code detail : Nat) (cls : Cls) (hc : cls ≠ .c) (reason : Nat)
    (folio : Option (Nat × Nat)) :
    (s.raise source code detail cls reason folio).calm ∧ (s.raise source code detail cls reason folio).reported source code detail
      ∧ FaultOnly s (s.raise source code detail cls reason folio) := by
  have hf := State.raise_faultOnly hs.2 source code detail cls reason folio
  refine ⟨⟨⟨?_, ?_⟩, ?_⟩, s.raise_reported source code detail cls reason folio h, hf⟩
  · rw [State.raise_room_due h _ _ _ _ hc]; exact hs.1.1
  · rw [hf.same]; exact hs.1.2
  · rw [hf.obsLevel]; exact hs.2

/-- The end of a command in a settled state changes nothing. -/
theorem done_settled {s : State} (h : s.settled) : done s = .next s := by
  unfold done; rw [State.settle_id s h.1 h.2]

/-- With no folio in the path a cause of spoiling finds none. -/
theorem State.spoilWhere_clear {s : State} (h : s.pathClear) (p : Folio → Bool) (reason : Nat) (strands : Bool) : s.spoilWhere p reason strands = s := by
  have : s.gath.folios.filter (fun f => p f && s.spoilable f strands) = [] := by
    rw [List.filter_eq_nil_iff]
    intro f hf
    simp [State.spoilable, (h f hf).1]
  have hn : List.filter (fun _ => false) s.gath.folios = [] := by simp
  have hm : s.gatherLate p reason none = s := by
    unfold State.gatherLate
    have : s.gath.folios.map (fun f => if f.armedUnsewn then (if p f then f.gather reason else f) else f) = s.gath.folios :=
      (List.map_congr_left (fun f hf => by simp [(h f hf).2.1])).trans (List.map_id _)
    simp only [this]
  have ho : s.gath.folios.filter (fun f => p f && s.outranked f reason && (f.st == .spoiled || strands)) = [] := by
    rw [List.filter_eq_nil_iff]
    intro f hf
    simp [State.outranked, (h f hf).2.2]
  unfold State.spoilWhere
  simp only [this, ho, List.isEmpty_nil, Bool.not_true, Bool.and_false, Bool.false_and, hn, List.foldl_nil, if_true, hm]

theorem FaultOnly.pathClear {s t : State} (h : FaultOnly s t) (hp : s.pathClear) : t.pathClear := by
  have hn : t.now = s.now := by unfold State.now; rw [h.same]
  intro f hf; rw [hn]; rw [h.same] at hf; exact hp f hf

/-- A fault that would spoil folios, with none in the path. -/
theorem State.raiseSpoil_clear {s : State} (hl : s.obsLevel = 0) (h : s.pathClear) (source code detail : Nat) (cls : Cls) (p : Folio → Bool) (reason : Nat)
    (strands : Bool) : s.raiseSpoil source code detail cls p reason strands = s.raise source code detail cls reason (s.firstHit p strands) := by
  unfold State.raiseSpoil
  exact State.spoilWhere_clear ((State.raise_faultOnly hl _ _ _ _ _ _).pathClear h) _ _ _

/-! ### The shapes that statements use -/

theorem Runs.of {c : Instr} {s t : State} {P : State → Prop} (h : exec c s = .next t) (hp : P t) : Runs c s P := ⟨t, h, hp⟩

theorem State.regsKept_refl (s : State) (l : List (Block × Nat)) : s.regsKept s l := fun _ _ _ => rfl

theorem State.regsKept_trans {s t u : State} {l : List (Block × Nat)} (h1 : s.regsKept t l) (h2 : t.regsKept u l) : s.regsKept u l :=
  fun a d ha => (h2 a d ha).trans (h1 a d ha)

theorem State.regsKept_mono {s t : State} {l l' : List (Block × Nat)} (h1 : s.regsKept t l) (h : ∀ x ∈ l, x ∈ l') : s.regsKept t l' :=
  fun a d ha => h1 a d (fun x hx => ha x (h x hx))

theorem State.regsKept_setWord (s : State) {r : Reg} {n k : Nat} (v : Nat) {l : List (Block × Nat)} {b : Block} {m : Nat} (hm : (b, m) ∈ l)
    (h : b.base + 0x40000 * m ≤ r.addr n k ∧ r.addr n k < b.base + 0x40000 * (m + 1)) : s.regsKept (s.setWord r n k v) l := by
  intro a d ha
  have := ha _ hm
  exact Cells.get_put_ne _ _ _ _ (by simp only at this; omega)

theorem State.regsKept_p (s : State) {f : FieldRef} (x : Nat) {l : List (Block × Nat)} {b : Block} {m : Nat} (hm : (b, m) ∈ l)
    (h : b.base + 0x40000 * m ≤ f.reg.addr f.n f.k ∧ f.reg.addr f.n f.k < b.base + 0x40000 * (m + 1)) : s.regsKept (s.p f x) l :=
  State.regsKept_setWord s _ hm h

theorem State.calm_setWord {s : State} (h : s.calm) {r : Reg} {n k : Nat} (v : Nat) (h1 : r.addr n k ≠ Reg.addr .LCS_STATE 0 0)
    (h2 : r.addr n k ≠ Reg.addr .OBS_HOSTEN 0 0) : (s.setWord r n k v).calm := ⟨h.1, by rw [State.obsLevel_setWord s v h1 h2]; exact h.2⟩

theorem State.calm_p {s : State} (h : s.calm) {f : FieldRef} (x : Nat) (h1 : f.reg.addr f.n f.k ≠ Reg.addr .LCS_STATE 0 0)
    (h2 : f.reg.addr f.n f.k ≠ Reg.addr .OBS_HOSTEN 0 0) : (s.p f x).calm := State.calm_setWord h _ h1 h2

theorem State.histRoom_congr {s t : State} (h : s.histRoom) (h1 : t.fcl = s.fcl) (h2 : t.g F.FCL_HEAD_NEWEST = s.g F.FCL_HEAD_NEWEST) : t.histRoom := by
  unfold State.histRoom State.freeHist at *; rw [h1, h2]; exact h

theorem FaultOnly.noted {s t : State} (h : FaultOnly s t) : t = s.noted t := by
  have := h.same
  unfold State.noted
  rw [this]

/-- A command that ends by raising a fault of class A or B. -/
theorem done_raise {s : State} (hs : s.calm) (h : s.histRoom) (source code detail : Nat) (cls : Cls) (hc : cls ≠ .c) (reason : Nat)
    (folio : Option (Nat × Nat)) :
    done (s.raise source code detail cls reason folio) = .next (s.raise source code detail cls reason folio) :=
  done_settled (State.raise_calm hs h _ _ _ _ hc _ _).1.1

end Sys2Proof.Machine
end

