-- ==== Sys2Proof/Laws/Gotum.lean ====
section
/-! SUPPORT. What issuing an instruction does in a calm state, said once: an instruction that ends with a next PC retires, with its core and TCE's
registers alone changed by that. -/

namespace Sys2Proof.Machine

theorem State.coreOf_modCore (s : State) (i j : Nat) (f : Core → Core) :
    (s.modCore i f).coreOf j = if i = j ∧ j < 24 then f (s.coreOf j) else s.coreOf j := vget_vmod _ _ _ _

theorem State.coreOf_p (s : State) (f : FieldRef) (x j : Nat) : (s.p f x).coreOf j = s.coreOf j := rfl

theorem State.obsLevel_modCore (s : State) (i : Nat) (f : Core → Core) : (s.modCore i f).obsLevel = s.obsLevel := rfl

theorem State.insTraced_off {s : State} (h : s.obsLevel = 0) (i : Nat) : s.insTraced i = false := by
  unfold State.insTraced State.traceOn; simp [h]

theorem State.insTarget_off {s : State} (h : s.obsLevel = 0) (i code aux data : Nat) : s.insTarget i code aux data = s := by
  unfold State.insTarget; simp [State.insTraced_off h]

theorem State.insBranch_off {s : State} (h : s.obsLevel = 0) (i : Nat) (b : Bool) : s.insBranch i b = s := by
  unfold State.insBranch; simp [State.insTraced_off h]

theorem State.obsLevel_setCoreState (s : State) {i : Nat} (hi : i < 24) (x : Nat) : (s.setCoreState i x).obsLevel = s.obsLevel :=
  State.obsLevel_p s x (by simp [F.TCE_CSTAT_STATE]; omega) (by simp [F.TCE_CSTAT_STATE]; omega)

theorem State.regsKept_setCoreState (s : State) {i : Nat} (hi : i < 24) (x : Nat) : s.regsKept (s.setCoreState i x) [(.TCE, 0)] :=
  State.regsKept_p s x (b := .TCE) (m := 0) (by simp) (by simp [F.TCE_CSTAT_STATE, Block.base]; omega)

theorem State.hasCore_lt {s : State} {i : Nat} (h : s.hasCore i = true) : i < 24 := by
  unfold State.hasCore at h
  split at h <;> simp at h <;> omega

/-- A core after an instruction has retired. -/
def retireCore (c : Core) (pc : Nat) : Core :=
  { c with pc := BitVec.ofNat 32 pc, lastPc := c.pc, wait := none, instret := (c.instret + 1) % 2 ^ 64, sinceRec := satAdd c.sinceRec 1 255,
           sinceSync := (c.sinceSync + 1) % 4096 }

/-- The state after an instruction has retired, at LEVEL 0. -/
def retireState (u : State) (i pc : Nat) : State := (u.modCore i (fun c => retireCore c pc)).showRun i

theorem State.retire_off {u : State} {i : Nat} (hl : u.obsLevel = 0) (hi : i < 24) (pc : Nat) : u.retire i pc = retireState u i pc := by
  have h : (retireState u i pc).obsLevel = 0 := by
    unfold retireState State.showRun
    rw [State.obsLevel_setCoreState _ hi]; exact hl
  unfold State.retire
  simp only []
  rw [State.count_off (by exact h), State.insTarget_off (by exact h)]
  split <;> rfl

/-- An instruction whose effect ends with the state u and the next PC: it completes, and its core is what it was in u but for what retiring does. -/
theorem State.issue_next {s u : State} {i pc : Nat} {f : State → Core → Ends} (hi : s.issues i) (hu : u.settled) (hl : u.obsLevel = 0)
    (hv : u.inService i = true) (hf : f s (s.coreOf i) = .next u pc) (hp : pcOk pc = true) : s.issue i f = .next (retireState u i pc) := by
  obtain ⟨h1, h2, h3⟩ := hi
  have hc : i < 24 := State.hasCore_lt (by unfold State.coreReady at h1; simp at h1; exact h1.1.1.1)
  unfold State.issue
  simp only [h1, h2, if_true]
  rw [if_neg (by simp), hf]
  unfold State.conclude
  simp only [hv, hp, if_true, Bool.not_true, Bool.false_eq_true, if_false]
  rw [State.retire_off hl hc, done_settled (by exact hu)]

/-- The core that a retirement leaves, and what stays. -/
theorem retireState_retired {s u : State} {i pc : Nat} {k : Core} (hi : i < 24) (hu : u.coreOf i = k) (hpc : k.pc = (s.coreOf i).pc)
    (hins : k.instret = (s.coreOf i).instret) (ho : ∀ j, j ≠ i → u.coreOf j = s.coreOf j) (hr : s.regsKept u [(.TCE, 0)]) :
    s.retired (retireState u i pc) i k pc := by
  have hm : (u.modCore i (fun c => retireCore c pc)).coreOf i = retireCore k pc := by
    rw [State.coreOf_modCore, if_pos ⟨rfl, hi⟩, hu]
  have hs : (retireState u i pc).coreOf i = retireCore k pc := hm
  refine ⟨⟨?_, ?_⟩, ?_, ?_⟩
  · unfold retireState State.showRun
    exact State.regsKept_trans hr (State.regsKept_setCoreState _ hi _)
  · intro j hj
    refine Eq.trans ?_ (ho j hj)
    show (u.modCore i (fun c => retireCore c pc)).coreOf j = _
    rw [State.coreOf_modCore, if_neg (fun h => hj h.1.symm)]
  · unfold retireState State.showRun State.setCoreState State.coreState
    rw [hm, State.g_p_same _ _ _ (by simp [F.TCE_CSTAT_STATE]) (by simp [F.TCE_CSTAT_STATE])]
    have : (retireCore k pc).swOn swINFAULT = k.swOn swINFAULT := rfl
    rw [this]
    split <;> rfl
  · rw [hs]; simp [retireCore, hpc, hins]

end Sys2Proof.Machine
end

