-- ==== Sys2Proof/Laws/Kept.lean ====
section
/-! SUPPORT. What every operation and every command keeps: the queue of waiting commands, and the canonical form of the memories. -/

namespace Sys2Proof.Machine

/-- From s to t the queue is the same, and memories in canonical form stay so. -/
structure Kept (s t : State) : Prop where
  pending : t.pending = s.pending
  mem : Cells.wf 0 s.mem = true → Cells.wf 0 t.mem = true
  fram : Cells.wf 0xFF s.fram = true → Cells.wf 0xFF t.fram = true
  host : Cells.wf 0 s.hostMem = true → Cells.wf 0 t.hostMem = true

theorem Kept.refl (s : State) : Kept s s := ⟨rfl, id, id, id⟩

theorem Kept.trans {s t u : State} (h : Kept s t) (k : Kept t u) : Kept s u :=
  ⟨k.pending.trans h.pending, fun x => k.mem (h.mem x), fun x => k.fram (h.fram x), fun x => k.host (h.host x)⟩

/-- A state that differs elsewhere. -/
theorem Kept.same {s t u : State} (h : Kept s t) (h1 : u.pending = t.pending) (h2 : u.mem = t.mem) (h3 : u.fram = t.fram)
    (h4 : u.hostMem = t.hostMem) : Kept s u :=
  ⟨h1.trans h.pending, fun x => h2 ▸ h.mem x, fun x => h3 ▸ h.fram x, fun x => h4 ▸ h.host x⟩

/-- A state whose other fields are any. -/
theorem Kept.upd_iff {s t : State} {free : Nat} {cord : DWord} {coreCycles : DWord} {regs : List (Nat × Word)} {claims : List (Nat × Owner)} {adcOff
    : List Nat} {padOuts : List (Nat × Nat)} {acts : List (Nat × List ActEvent)} {commits : List Commit} {copied : List (ShadowSet × Nat)} {gath :
    Gath} {fcl : Fcl} {jrn : Jrn} {str : Vector Str 4} {syn : Vector Syn 6} {quire : Vector Quire 4} {jobs : Vector (List Job) 4} {ctx : Vector Ctx
    8} {cmp : Vector Cmp 2} {lastHanded : Nat} {dma : Vector Dma 16} {poison : List Nat} {memChans : Nat} {selfRefresh : Bool} {cores : Vector Core
    24} {obs : Obs} {wires : Wires} {mot : Vector Mot 8} {stp : Vector Stp 12} {hv : Vector Hv 12} {fus : Vector Fus 2} {thm : Thm} {psq : Psq} {otp
    : Otp} {roscAt : Option Nat} {aon : Nat} {busData : Option (Requester × Nat)} {hyw : Vector Hyw 8} {captured : List (Nat × Option Nat)} {staged
    : List (Nat × Option Nat)} {edges : Vector (List Nat) 128} {padIns : List (Nat × Nat)} {mapping : Option Nat} {fired : List (Nat × Nat × Nat)}
    {results : List (Nat × FieldRef × Int)} {resultsAt : Nat} {snsAt : Vector Nat 32} : Kept s ⟨t.pending, free, cord, coreCycles, regs, t.mem,
    t.fram, claims, adcOff, padOuts, acts, commits, copied, gath, fcl, jrn, str, syn, quire, jobs, ctx, cmp, lastHanded, dma, t.hostMem, poison,
    memChans, selfRefresh, cores, obs, wires, mot, stp, hv, fus, thm, psq, otp, roscAt, aon, busData, hyw, captured, staged, edges, padIns, mapping,
    fired, results, resultsAt, snsAt⟩ ↔ Kept s t := ⟨fun h => ⟨h.pending, h.mem, h.fram, h.host⟩, fun h => ⟨h.pending, h.mem, h.fram, h.host⟩⟩

theorem Kept.foldl {α : Type} {s t : State} (l : List α) (f : State → α → State) (h : Kept s t)
    (hf : ∀ a x, Kept s a → Kept s (f a x)) : Kept s (l.foldl f t) := by
  induction l generalizing t with
  | nil => exact h
  | cons x l ih => exact ih (hf t x h)

theorem Kept.forRange {s t : State} (m c : Nat) (f : Nat → State → State) (h : Kept s t)
    (hf : ∀ k a, Kept s a → Kept s (f k a)) : Kept s (forRange m c f t) := by
  induction c generalizing m t with
  | zero => exact h
  | succ c ih => exact ih (m + 1) (hf m t h)

theorem Kept.memFilter {s t : State} (h : Kept s t) (p : Nat × Byte → Bool) : Kept s { t with mem := t.mem.filter p } :=
  ⟨h.pending, fun x => Cells.wf_filter 0 p _ (h.mem x), h.fram, h.host⟩

end Sys2Proof.Machine
end

