-- ==== Sys2Proof/Laws/KeptOps.lean ====
section
/-! SUPPORT. What each operation keeps: the queue, and the canonical form of the memories. -/

namespace Sys2Proof.Machine

set_option linter.unusedVariables false
set_option linter.unusedSimpArgs false

theorem State.setWord_kept {s t : State} (h : Kept s t) (r : Reg) (n k v : Nat) : Kept s (t.setWord r n k v) := h.same rfl rfl rfl rfl

theorem State.setActive_kept {s t : State} (h : Kept s t) (r : Reg) (n k v : Nat) : Kept s (t.setActive r n k v) := h.same rfl rfl rfl rfl

theorem State.p_kept {s t : State} (h : Kept s t) (f : FieldRef) (x : Nat) : Kept s (t.p f x) := h.same rfl rfl rfl rfl

theorem State.pi_kept {s t : State} (h : Kept s t) (f : FieldRef) (x : Int) : Kept s (t.pi f x) := h.same rfl rfl rfl rfl

theorem State.inc_kept {s t : State} (h : Kept s t) (f : FieldRef) (d : Nat) : Kept s (t.inc f d) := h.same rfl rfl rfl rfl

theorem State.incWrap_kept {s t : State} (h : Kept s t) (f : FieldRef) (d : Nat) : Kept s (t.incWrap f d) := h.same rfl rfl rfl rfl

theorem State.resetReg_kept {s t : State} (h : Kept s t) (r : Reg) (n k : Nat) : Kept s (t.resetReg r n k) := h.same rfl rfl rfl rfl

theorem State.clearRegs_kept {s t : State} (h : Kept s t) (lo hi : Nat) : Kept s (t.clearRegs lo hi) := h.same rfl rfl rfl rfl

theorem State.resetBlock_kept {s t : State} (h : Kept s t) (b : Block) (n : Nat) : Kept s (t.resetBlock b n) := h.same rfl rfl rfl rfl

theorem State.draw_kept {s t : State} (h : Kept s t) : Kept s t.draw.2 := h.same rfl rfl rfl rfl

theorem State.wr_kept {s t : State} (h : Kept s t) (a n v : Nat) : Kept s (t.wr a n v) :=
  h.trans ⟨rfl, Cells.wf_writeN 0 n a v _, id, id⟩

theorem State.wrBytes_kept {s t : State} (h : Kept s t) (a : Nat) (bs : List Nat) : Kept s (t.wrBytes a bs) :=
  h.trans ⟨rfl, Cells.wf_putBytes 0 bs a _, id, id⟩

theorem State.ringPut_kept {s t : State} (h : Kept s t) (q : Nat) (bs : List Nat) : Kept s (State.ringPut t q bs) := by
  unfold State.ringPut
  try simp only []
  repeat' (first | with_reducible assumption | (with_reducible apply State.wrBytes_kept) | (with_reducible apply State.p_kept))

theorem State.ringPop_kept {s t : State} (h : Kept s t) (q : Nat) : Kept s (State.ringPop t q) := by
  unfold State.ringPop
  try simp only []
  repeat' (first | with_reducible assumption | (with_reducible apply State.p_kept))

theorem State.setOwner_kept {s t : State} (h : Kept s t) (rid : Nat) (o : Owner) : Kept s (State.setOwner t rid o) := by
  unfold State.setOwner
  try simp only []
  repeat' (first | with_reducible assumption | (simp only [Kept.upd_iff]))

theorem State.modCore_kept {s t : State} (h : Kept s t) (i : Nat) (f : Core → Core) : Kept s (State.modCore t i f) := by
  unfold State.modCore
  try simp only []
  repeat' (first | with_reducible assumption | (simp only [Kept.upd_iff]))

theorem State.obsWrap_kept {s t : State} (h : Kept s t) (k : Nat) : Kept s (State.obsWrap t k) := by
  unfold State.obsWrap
  try simp only []
  repeat' (first | with_reducible assumption | (with_reducible apply State.p_kept) | (with_reducible apply State.inc_kept) | (with_reducible apply State.setWord_kept) | split)

theorem State.setObsCount_kept {s t : State} (h : Kept s t) (k : Nat) (v : Nat) : Kept s (State.setObsCount t k v) := by
  unfold State.setObsCount
  try simp only []
  repeat' (first | with_reducible assumption | (with_reducible apply State.p_kept))

theorem State.count_kept {s t : State} (h : Kept s t) (event : Nat) (inst : Nat) (n : Nat) : Kept s (State.count t event inst n) := by
  unfold State.count
  try simp only []
  repeat' (first | with_reducible assumption | (with_reducible refine Kept.forRange _ _ _ ?_ ?_) | (intro _ _ _) | (with_reducible apply State.setObsCount_kept) | (with_reducible apply State.obsWrap_kept) | split)

theorem State.fixed_kept {s t : State} (h : Kept s t) (i : Nat) : Kept s (State.fixed t i) := by
  unfold State.fixed
  try simp only []
  repeat' (first | with_reducible assumption | (with_reducible apply State.p_kept) | split)

theorem State.traceDrop_kept {s t : State} (h : Kept s t) : Kept s (State.traceDrop t) := by
  unfold State.traceDrop
  try simp only []
  repeat' (first | with_reducible assumption | (with_reducible apply State.inc_kept) | (simp only [Kept.upd_iff]))

theorem State.tracePush_kept {s t : State} (h : Kept s t) (rec : List Nat) : Kept s (State.tracePush t rec) := by
  unfold State.tracePush
  try simp only []
  repeat' (first | with_reducible assumption | (with_reducible apply State.traceDrop_kept) | split | (simp only [Kept.upd_iff]))

theorem State.traceEv_kept {s t : State} (h : Kept s t) (origin : Nat) (code : Nat) (aux : Nat) (data : Nat) : Kept s (State.traceEv t origin code aux data) := by
  unfold State.traceEv
  try simp only []
  repeat' (first | with_reducible assumption | (with_reducible apply State.tracePush_kept) | split)

theorem State.ringPutC_kept {s t : State} (h : Kept s t) (q : Nat) (bs : List Nat) : Kept s (State.ringPutC t q bs) := by
  unfold State.ringPutC
  try simp only []
  repeat' (first | with_reducible assumption | (with_reducible apply State.ringPut_kept) | (with_reducible apply State.count_kept))

theorem State.sawFull_kept {s t : State} (h : Kept s t) (q : Nat) : Kept s (State.sawFull t q) := by
  unfold State.sawFull
  try simp only []
  repeat' (first | with_reducible assumption | (with_reducible apply State.count_kept) | split)

theorem State.bwAdd_kept {s t : State} (h : Kept s t) (p : Nat) (n : Nat) : Kept s (State.bwAdd t p n) := by
  unfold State.bwAdd
  try simp only []
  repeat' (first | with_reducible assumption | split | (simp only [Kept.upd_iff]))

theorem State.bwMem_kept {s t : State} (h : Kept s t) (write : Bool) (off : Nat) (n : Nat) : Kept s (State.bwMem t write off n) := by
  unfold State.bwMem
  try simp only []
  repeat' (first | with_reducible assumption | (with_reducible apply State.bwAdd_kept) | split)

theorem State.modHist_kept {s t : State} (h : Kept s t) (i : Nat) (f : HistRec → HistRec) : Kept s (State.modHist t i f) := by
  unfold State.modHist
  try simp only []
  repeat' (first | with_reducible assumption | (simp only [Kept.upd_iff]))

theorem State.fclMark_kept {s t : State} (h : Kept s t) : Kept s (State.fclMark t) := by
  unfold State.fclMark
  try simp only []
  repeat' (first | with_reducible assumption | (with_reducible apply State.ringPutC_kept) | split | (simp only [Kept.upd_iff]))

theorem State.fclPost_kept {s t : State} (h : Kept s t) (r : HistRec) : Kept s (State.fclPost t r) := by
  unfold State.fclPost
  try simp only []
  repeat' (first | with_reducible assumption | (with_reducible apply State.fclMark_kept) | (with_reducible apply State.ringPutC_kept) | (with_reducible apply State.sawFull_kept) | (with_reducible apply State.inc_kept) | split)

theorem State.noteDue_kept {s t : State} (h : Kept s t) (k : KettleCause) : Kept s (State.noteDue t k) := by
  unfold State.noteDue
  try simp only []
  repeat' (first | with_reducible assumption | split | (simp only [Kept.upd_iff]))

theorem State.takeHist_kept {s t : State} (h : Kept s t) (i : Nat) (e : FaultEv) : Kept s (State.takeHist t i e) := by
  unfold State.takeHist
  try simp only []
  repeat' (first | with_reducible assumption | (with_reducible apply State.modHist_kept) | (with_reducible apply State.p_kept) | (with_reducible apply State.incWrap_kept) | (with_reducible apply State.fclPost_kept) | (with_reducible apply State.count_kept) | (with_reducible apply State.traceEv_kept))

theorem State.recordEvent_kept {s t : State} (h : Kept s t) (e : FaultEv) : Kept s (State.recordEvent t e) := by
  unfold State.recordEvent
  try simp only []
  repeat' (first | with_reducible assumption | (with_reducible apply State.modHist_kept) | (with_reducible apply State.takeHist_kept) | (with_reducible apply State.inc_kept) | (with_reducible apply State.noteDue_kept) | split | (simp only [Kept.upd_iff]))

theorem State.raiseEv_kept {s t : State} (h : Kept s t) (e : FaultEv) : Kept s (State.raiseEv t e) := by
  unfold State.raiseEv
  try simp only []
  repeat' (first | with_reducible assumption | (with_reducible apply State.recordEvent_kept) | (with_reducible apply State.noteDue_kept) | split)

theorem State.raise_kept {s t : State} (h : Kept s t) (source : Nat) (code : Nat) (detail : Nat) (cls : Cls) (reason : Nat) (folio : Option (Nat × Nat)) : Kept s (State.raise t source code detail cls reason folio) := by
  unfold State.raise
  try simp only []
  repeat' (first | with_reducible assumption | (with_reducible apply State.raiseEv_kept))

theorem State.accessFault_kept {s t : State} (h : Kept s t) (q : Requester) (code : Nat) : Kept s (State.accessFault t q code) := by
  unfold State.accessFault
  try simp only []
  repeat' (first | with_reducible assumption | (with_reducible apply State.raise_kept))

theorem State.unitFault_kept {s t : State} (h : Kept s t) (b : Block) (n : Nat) (q : Requester) (code : Nat) : Kept s (State.unitFault t b n q code) := by
  unfold State.unitFault
  try simp only []
  repeat' (first | with_reducible assumption | (with_reducible apply State.raise_kept))

theorem State.jrnEnqueue_kept {s t : State} (h : Kept s t) (r : JRec) : Kept s (State.jrnEnqueue t r) := by
  unfold State.jrnEnqueue
  try simp only []
  repeat' (first | with_reducible assumption | (with_reducible apply State.raise_kept) | (with_reducible apply State.p_kept) | split | (simp only [Kept.upd_iff]))

theorem State.jrnRequest_kept {s t : State} (h : Kept s t) (r : JRec) : Kept s (State.jrnRequest t r) := by
  unfold State.jrnRequest
  try simp only []
  repeat' (first | with_reducible assumption | (with_reducible apply State.jrnEnqueue_kept) | (with_reducible apply State.raise_kept) | split | (simp only [Kept.upd_iff]))

theorem State.jrnRefill_kept {s t : State} (h : Kept s t) : Kept s (State.jrnRefill t) := by
  unfold State.jrnRefill
  try simp only []
  repeat' (first | with_reducible assumption | (with_reducible apply State.jrnEnqueue_kept) | split | (simp only [Kept.upd_iff]))

theorem State.runWaste_kept {s t : State} (h : Kept s t) : Kept s (State.runWaste t) := by
  unfold State.runWaste
  try simp only []
  repeat' (first | with_reducible assumption | split | (simp only [Kept.upd_iff]))

theorem State.traceFolio_kept {s t : State} (h : Kept s t) (f : Folio) : Kept s (State.traceFolio t f) := by
  unfold State.traceFolio
  try simp only []
  repeat' (first | with_reducible assumption | (with_reducible apply State.traceEv_kept))

theorem State.modFolio_kept {s t : State} (h : Kept s t) (st : Nat) (fsn : Nat) (g : Folio → Folio) : Kept s (State.modFolio t st fsn g) := by
  unfold State.modFolio
  try simp only []
  repeat' (first | with_reducible assumption | (with_reducible apply State.traceFolio_kept) | split | (simp only [Kept.upd_iff]))

theorem State.modStream_kept {s t : State} (h : Kept s t) (n : Nat) (g : Stream → Stream) : Kept s (State.modStream t n g) := by
  unfold State.modStream
  try simp only []
  repeat' (first | with_reducible assumption | (simp only [Kept.upd_iff]))

theorem State.complete_kept {s t : State} (h : Kept s t) (n : Nat) (c : Compl) : Kept s (State.complete t n c) := by
  unfold State.complete
  try simp only []
  repeat' (first | with_reducible assumption | (with_reducible apply State.ringPutC_kept) | (with_reducible apply State.sawFull_kept) | (with_reducible apply State.modStream_kept) | split | (simp only [Kept.upd_iff]))

theorem State.postDeferred_kept (n : Nat) (l : List (Nat × Compl)) : ∀ {s t : State}, Kept s t → Kept s (t.postDeferred n l) := by
  induction l with
  | nil => intro s t h; exact State.modStream_kept h _ _
  | cons x l ih =>
    intro s t h
    unfold State.postDeferred
    split
    · exact ih (State.complete_kept h _ _)
    · exact State.modStream_kept h _ _

theorem State.report_kept {s t : State} (h : Kept s t) (n : Nat) (c : Compl) : Kept s (State.report t n c) := by
  unfold State.report
  try simp only []
  repeat' (first | with_reducible assumption | (with_reducible apply State.complete_kept) | (with_reducible apply State.modStream_kept) | split | (simp only [Kept.upd_iff]))

theorem State.reportCommit_kept {s t : State} (h : Kept s t) (n : Nat) (c : Compl) : Kept s (State.reportCommit t n c) := by
  unfold State.reportCommit
  try simp only []
  repeat' (first | with_reducible assumption | (with_reducible apply State.complete_kept) | (with_reducible apply State.postDeferred_kept))

theorem State.releaseOne_kept {s t : State} (h : Kept s t) (n : Nat) : Kept s (State.releaseOne t n) := by
  unfold State.releaseOne
  try simp only []
  repeat' (first | with_reducible assumption | (with_reducible apply State.modStream_kept) | (with_reducible apply State.ringPutC_kept) | split | (simp only [Kept.upd_iff]))

theorem State.completeFolio_kept {s t : State} (h : Kept s t) (f : Folio) (kind : Nat) (reason : Nat) (stranded : Bool) (operator : Bool) (try_ : Nat) (bin : Nat) : Kept s (State.completeFolio t f kind reason stranded operator try_ bin) := by
  unfold State.completeFolio
  try simp only []
  repeat' (first | with_reducible assumption | (with_reducible apply State.report_kept))

theorem State.folioRecord_kept {s t : State} (h : Kept s t) (f : Folio) (type : Nat) (aux : Nat) (stranded : Bool) (operator : Bool) (stamp : Nat) (compl : Nat) : Kept s (State.folioRecord t f type aux stranded operator stamp compl) := by
  unfold State.folioRecord
  try simp only []
  repeat' (first | with_reducible assumption | (with_reducible apply State.jrnRequest_kept) | (simp only [Kept.upd_iff]))

theorem State.setStreamState_kept {s t : State} (h : Kept s t) (n : Nat) (x : Nat) : Kept s (State.setStreamState t n x) := by
  unfold State.setStreamState
  try simp only []
  repeat' (first | with_reducible assumption | (with_reducible apply State.p_kept))

theorem State.closeSig_kept {s t : State} (h : Kept s t) (sewn : Bool) : Kept s (State.closeSig t sewn) := by
  unfold State.closeSig
  try simp only []
  repeat' (first | with_reducible assumption | (with_reducible refine Kept.forRange _ _ _ ?_ ?_) | (intro _ _ _) | (with_reducible apply State.p_kept) | split | (simp only [Kept.upd_iff]))

theorem State.breakSig_kept {s t : State} (h : Kept s t) (n : Nat) : Kept s (State.breakSig t n) := by
  unfold State.breakSig
  try simp only []
  repeat' (first | with_reducible assumption | (with_reducible apply State.closeSig_kept) | split)

theorem State.blankFolio_kept {s t : State} (h : Kept s t) (st : Nat) (fsn : Nat) : Kept s (State.blankFolio t st fsn) := by
  unfold State.blankFolio
  try simp only []
  repeat' (first | with_reducible assumption | split | (simp only [Kept.upd_iff]))

theorem State.unfeed_kept {s t : State} (h : Kept s t) (n : Nat) : Kept s (State.unfeed t n) := by
  unfold State.unfeed
  try simp only []
  repeat' (first | with_reducible assumption | (with_reducible refine Kept.foldl _ _ ?_ ?_) | (intro _ _ _) | (with_reducible apply State.blankFolio_kept) | split | (simp only [Kept.upd_iff]))

theorem State.spoilOne_kept {s t : State} (h : Kept s t) (f : Folio) (reason : Nat) : Kept s (State.spoilOne t f reason) := by
  unfold State.spoilOne
  try simp only []
  repeat' (first | with_reducible assumption | (with_reducible apply State.modFolio_kept) | (with_reducible apply State.setStreamState_kept) | (with_reducible apply State.breakSig_kept) | (with_reducible apply State.unfeed_kept) | (with_reducible apply State.blankFolio_kept) | (with_reducible apply State.fixed_kept) | (with_reducible apply State.folioRecord_kept) | split | (simp only [Kept.upd_iff]))

theorem State.gatherLate_kept {s t : State} (h : Kept s t) (p : Folio → Bool) (reason : Nat) (cut : Option Nat) : Kept s (State.gatherLate t p reason cut) := by
  unfold State.gatherLate
  try simp only []
  repeat' (first | with_reducible assumption | split | (simp only [Kept.upd_iff]))

theorem State.relabel_kept {s t : State} (h : Kept s t) (f : Folio) (reason : Nat) : Kept s (State.relabel t f reason) := by
  unfold State.relabel
  try simp only []
  repeat' (first | with_reducible assumption | (with_reducible apply State.modFolio_kept) | split | (simp only [Kept.upd_iff]))

theorem State.spoilWhere_kept {s t : State} (h : Kept s t) (p : Folio → Bool) (reason : Nat) (strands : Bool) : Kept s (State.spoilWhere t p reason strands) := by
  unfold State.spoilWhere
  try simp only []
  repeat' (first | with_reducible assumption | (with_reducible refine Kept.foldl _ _ ?_ ?_) | (intro _ _ _) | (with_reducible apply State.relabel_kept) | (with_reducible apply State.spoilOne_kept) | (with_reducible apply State.gatherLate_kept) | split)

theorem State.raiseSpoil_kept {s t : State} (h : Kept s t) (source : Nat) (code : Nat) (detail : Nat) (cls : Cls) (p : Folio → Bool) (reason : Nat) (strands : Bool) : Kept s (State.raiseSpoil t source code detail cls p reason strands) := by
  unfold State.raiseSpoil
  try simp only []
  repeat' (first | with_reducible assumption | (with_reducible apply State.raise_kept) | (with_reducible apply State.spoilWhere_kept))

theorem State.raisePort_kept {s t : State} (h : Kept s t) (e : FaultEv) : Kept s (State.raisePort t e) := by
  unfold State.raisePort
  try simp only []
  repeat' (first | with_reducible assumption | (with_reducible apply State.raiseEv_kept) | (with_reducible apply State.spoilWhere_kept) | split | (simp only [Kept.upd_iff]))

theorem State.modStr_kept {s t : State} (h : Kept s t) (k : Nat) (f : Str → Str) : Kept s (State.modStr t k f) := by
  unfold State.modStr
  try simp only []
  repeat' (first | with_reducible assumption | (simp only [Kept.upd_iff]))

theorem State.dark_kept {s t : State} (h : Kept s t) (k : Nat) : Kept s (State.dark t k) := by
  unfold State.dark
  try simp only []
  repeat' (first | with_reducible assumption | (with_reducible apply State.modStr_kept) | (simp only [Kept.upd_iff]))

theorem State.setScan_kept {s t : State} (h : Kept s t) (k : Nat) (st : Nat) : Kept s (State.setScan t k st) := by
  unfold State.setScan
  try simp only []
  repeat' (first | with_reducible assumption | (with_reducible apply State.p_kept) | (with_reducible apply State.traceEv_kept) | (with_reducible apply State.modStr_kept) | (with_reducible apply State.draw_kept) | split | (simp only [Kept.upd_iff]))

theorem State.unlockOne_kept {s t : State} (h : Kept s t) (k : Nat) (st : Nat) : Kept s (State.unlockOne t k st) := by
  unfold State.unlockOne
  try simp only []
  repeat' (first | with_reducible assumption | (with_reducible apply State.setScan_kept) | (with_reducible apply State.dark_kept) | (with_reducible apply State.raiseSpoil_kept) | split)

theorem State.unlock_kept {s t : State} (h : Kept s t) (k : Nat) (st : Nat) : Kept s (State.unlock t k st) := by
  unfold State.unlock
  try simp only []
  repeat' (first | with_reducible assumption | (with_reducible refine Kept.forRange _ _ _ ?_ ?_) | (intro _ _ _) | (with_reducible apply State.unlockOne_kept) | (with_reducible apply State.p_kept) | split)

theorem State.laserOff_kept {s t : State} (h : Kept s t) (k : Nat) (cause : Nat) (atEnd : Bool) : Kept s (State.laserOff t k cause atEnd) := by
  unfold State.laserOff
  try simp only []
  repeat' (first | with_reducible assumption | (with_reducible apply State.p_kept) | (with_reducible apply State.modStr_kept) | (with_reducible apply State.dark_kept) | (with_reducible apply State.unlock_kept) | split | (simp only [Kept.upd_iff]))

theorem State.flushStart_kept {s t : State} (h : Kept s t) : Kept s (State.flushStart t) := by
  unfold State.flushStart
  try simp only []
  repeat' (first | with_reducible assumption | (with_reducible apply State.p_kept) | split | (simp only [Kept.upd_iff]))

theorem State.hvKettle_kept {s t : State} (h : Kept s t) (k : Nat) : Kept s (State.hvKettle t k) := by
  unfold State.hvKettle
  try simp only []
  repeat' (first | with_reducible assumption | (with_reducible apply State.p_kept) | (with_reducible apply State.setWord_kept) | (simp only [Kept.upd_iff]))

theorem State.fusKettle_kept {s t : State} (h : Kept s t) (f : Nat) : Kept s (State.fusKettle t f) := by
  unfold State.fusKettle
  try simp only []
  repeat' (first | with_reducible assumption | (with_reducible apply State.p_kept))

theorem State.setMotState_kept {s t : State} (h : Kept s t) (n : Nat) (st : Nat) : Kept s (State.setMotState t n st) := by
  unfold State.setMotState
  try simp only []
  repeat' (first | with_reducible assumption | (with_reducible apply State.p_kept) | (with_reducible apply State.traceEv_kept) | split | (simp only [Kept.upd_iff]))

theorem State.setStpState_kept {s t : State} (h : Kept s t) (k : Nat) (st : Nat) : Kept s (State.setStpState t k st) := by
  unfold State.setStpState
  try simp only []
  repeat' (first | with_reducible assumption | (with_reducible apply State.p_kept) | (with_reducible apply State.traceEv_kept))

theorem State.motKettle_kept {s t : State} (h : Kept s t) (n : Nat) : Kept s (State.motKettle t n) := by
  unfold State.motKettle
  try simp only []
  repeat' (first | with_reducible assumption | (with_reducible apply State.setMotState_kept) | split)

theorem State.stpKettle_kept {s t : State} (h : Kept s t) (k : Nat) : Kept s (State.stpKettle t k) := by
  unfold State.stpKettle
  try simp only []
  repeat' (first | with_reducible assumption | (with_reducible apply State.p_kept) | (with_reducible apply State.setStpState_kept) | split | (simp only [Kept.upd_iff]))

theorem State.kettleEnter_kept {s t : State} (h : Kept s t) (c : KettleCause) : Kept s (State.kettleEnter t c) := by
  unfold State.kettleEnter
  try simp only []
  repeat' (first | with_reducible assumption | (with_reducible refine Kept.forRange _ _ _ ?_ ?_) | (intro _ _ _) | (with_reducible apply State.spoilWhere_kept) | (with_reducible apply State.p_kept) | (with_reducible apply State.fixed_kept) | (with_reducible apply State.traceEv_kept) | (with_reducible apply State.laserOff_kept) | (with_reducible apply State.hvKettle_kept) | (with_reducible apply State.fusKettle_kept) | (with_reducible apply State.motKettle_kept) | (with_reducible apply State.stpKettle_kept) | (with_reducible apply State.flushStart_kept) | split | (simp only [Kept.upd_iff]))

theorem State.settleLost_kept {s t : State} (h : Kept s t) : Kept s (State.settleLost t) := by
  unfold State.settleLost
  try simp only []
  repeat' (first | with_reducible assumption | (with_reducible apply State.raise_kept) | split | (simp only [Kept.upd_iff]))

theorem State.settleDue_kept {s t : State} (h : Kept s t) : Kept s (State.settleDue t) := by
  unfold State.settleDue
  try simp only []
  repeat' (first | with_reducible assumption | (with_reducible apply State.kettleEnter_kept) | split | (simp only [Kept.upd_iff]))

theorem State.settle_kept {s t : State} (h : Kept s t) : Kept s (State.settle t) := by
  unfold State.settle
  try simp only []
  repeat' (first | with_reducible assumption | (with_reducible apply State.settleDue_kept) | (with_reducible apply State.settleLost_kept))

theorem State.kettleHalt_kept {s t : State} (h : Kept s t) : Kept s (State.kettleHalt t) := by
  unfold State.kettleHalt
  try simp only []
  repeat' (first | with_reducible assumption | (with_reducible apply State.draw_kept) | (with_reducible apply State.noteDue_kept))

theorem State.lateWrite_kept {s t : State} (h : Kept s t) (x : ShadowSet) (q : Requester) : Kept s (State.lateWrite t x q) := by
  unfold State.lateWrite
  try simp only []
  repeat' (first | with_reducible assumption | (with_reducible apply State.unitFault_kept) | (with_reducible apply State.inc_kept) | (with_reducible apply State.p_kept) | split)

theorem State.copyReg_kept {s t : State} (h : Kept s t) (r : Reg) (n : Nat) (c : Nat) : Kept s (t.copyReg r n c) := by
  induction c with
  | zero => exact h
  | succ c ih => exact State.setActive_kept ih _ _ _ _

theorem State.copySet_kept {s t : State} (h : Kept s t) (x : ShadowSet) : Kept s (State.copySet t x) := by
  unfold State.copySet
  try simp only []
  repeat' (first | with_reducible assumption | (with_reducible refine Kept.foldl _ _ ?_ ?_) | (intro _ _ _) | (with_reducible apply State.copyReg_kept) | (with_reducible apply State.p_kept) | (simp only [Kept.upd_iff]))

theorem State.dropCommits_kept {s t : State} (h : Kept s t) (u : Block × Nat) : Kept s (State.dropCommits t u) := by
  unfold State.dropCommits
  try simp only []
  repeat' (first | with_reducible assumption | (simp only [Kept.upd_iff]))

theorem State.startCommit_kept {s t : State} (h : Kept s t) (x : ShadowSet) : Kept s (State.startCommit t x) := by
  unfold State.startCommit
  try simp only []
  repeat' (first | with_reducible assumption | (with_reducible apply State.p_kept) | split | (simp only [Kept.upd_iff]))

theorem State.adcOn_kept {s t : State} (h : Kept s t) (slots : List Nat) : Kept s (State.adcOn t slots) := by
  unfold State.adcOn
  try simp only []
  repeat' (first | with_reducible assumption | (simp only [Kept.upd_iff]))

theorem State.padSet_kept {s t : State} (h : Kept s t) (i : Nat) (v : Nat) : Kept s (State.padSet t i v) := by
  unfold State.padSet
  try simp only []
  repeat' (first | with_reducible assumption | split | (simp only [Kept.upd_iff]))

theorem State.padReset_kept {s t : State} (h : Kept s t) (i : Nat) : Kept s (State.padReset t i) := by
  unfold State.padReset
  try simp only []
  repeat' (first | with_reducible assumption | (with_reducible apply State.resetReg_kept) | (with_reducible apply State.p_kept) | split | (simp only [Kept.upd_iff]))

theorem State.portPads_kept {s t : State} (h : Kept s t) (pads : List Nat) (func : Nat) : Kept s (State.portPads t pads func) := by
  unfold State.portPads
  try simp only []
  repeat' (first | with_reducible assumption | (with_reducible refine Kept.foldl _ _ ?_ ?_) | (intro _ _ _) | (with_reducible apply State.p_kept))

theorem State.setActQueue_kept {s t : State} (h : Kept s t) (id : Nat) (l : List ActEvent) : Kept s (State.setActQueue t id l) := by
  unfold State.setActQueue
  try simp only []
  repeat' (first | with_reducible assumption | (simp only [Kept.upd_iff]))

theorem State.loseEvent_kept {s t : State} (h : Kept s t) (e : ActEvent) (id : Nat) : Kept s (State.loseEvent t e id) := by
  unfold State.loseEvent
  try simp only []
  repeat' (first | with_reducible assumption | (with_reducible apply State.spoilWhere_kept) | split)

theorem State.actArrive_kept {s t : State} (h : Kept s t) (id : Nat) (e : ActEvent) (detail : Nat) : Kept s (State.actArrive t id e detail) := by
  unfold State.actArrive
  try simp only []
  repeat' (first | with_reducible assumption | (with_reducible apply State.raisePort_kept) | (with_reducible apply State.loseEvent_kept) | (with_reducible apply State.raise_kept) | (with_reducible apply State.setActQueue_kept) | split)

theorem State.refuseStream_kept {s t : State} (h : Kept s t) (n : Nat) (fsn : Nat) (code : Nat) : Kept s (State.refuseStream t n fsn code) := by
  unfold State.refuseStream
  try simp only []
  repeat' (first | with_reducible assumption | (with_reducible apply State.fixed_kept) | (with_reducible apply State.p_kept) | (with_reducible apply State.setStreamState_kept) | (with_reducible apply State.report_kept) | split)

theorem State.refuseFolio_kept {s t : State} (h : Kept s t) (st : Nat) (fsn : Nat) (code : Nat) : Kept s (State.refuseFolio t st fsn code) := by
  unfold State.refuseFolio
  try simp only []
  repeat' (first | with_reducible assumption | (with_reducible apply State.modFolio_kept) | (with_reducible apply State.refuseStream_kept) | split | (simp only [Kept.upd_iff]))

theorem State.addFolio_kept {s t : State} (h : Kept s t) (d : Desc) : Kept s (State.addFolio t d) := by
  unfold State.addFolio
  try simp only []
  repeat' (first | with_reducible assumption | (simp only [Kept.upd_iff]))

theorem State.tryAccept_kept {s t : State} (h : Kept s t) (st : Nat) (fsn : Nat) : Kept s (State.tryAccept t st fsn) := by
  unfold State.tryAccept
  try simp only []
  repeat' (first | with_reducible assumption | (with_reducible apply State.modFolio_kept) | (with_reducible apply State.folioRecord_kept) | (with_reducible apply State.refuseFolio_kept) | split | (simp only [Kept.upd_iff]))

theorem State.sideIngested_kept {s t : State} (h : Kept s t) (st : Nat) (fsn : Nat) (verso : Bool) (crc : Nat) : Kept s (State.sideIngested t st fsn verso crc) := by
  unfold State.sideIngested
  try simp only []
  repeat' (first | with_reducible assumption | (with_reducible apply State.refuseFolio_kept) | (with_reducible apply State.modFolio_kept) | (with_reducible apply State.tryAccept_kept) | split | (simp only [Kept.upd_iff]))

theorem State.closeFsn_kept {s t : State} (h : Kept s t) (n : Nat) (fsn : Nat) : Kept s (State.closeFsn t n fsn) := by
  unfold State.closeFsn
  try simp only []
  repeat' (first | with_reducible assumption | (with_reducible apply State.modStream_kept) | split | (simp only [Kept.upd_iff]))

theorem State.forgetPast_kept {s t : State} (h : Kept s t) (n : Nat) (fsn : Nat) : Kept s (State.forgetPast t n fsn) := by
  unfold State.forgetPast
  try simp only []
  repeat' (first | with_reducible assumption | (simp only [Kept.upd_iff]))

theorem State.onCommit_kept {s t : State} (h : Kept s t) (r : JRec) : Kept s (State.onCommit t r) := by
  unfold State.onCommit
  try simp only []
  repeat' (first | with_reducible assumption | (with_reducible apply State.modStream_kept) | (with_reducible apply State.p_kept) | (with_reducible apply State.reportCommit_kept) | (with_reducible apply State.modFolio_kept) | (with_reducible apply State.forgetPast_kept) | (with_reducible apply State.closeFsn_kept) | split | (simp only [Kept.upd_iff]))

theorem State.budgetWaits_kept {s t : State} (h : Kept s t) : Kept s (State.budgetWaits t) := by
  unfold State.budgetWaits
  try simp only []
  repeat' (first | with_reducible assumption | (with_reducible apply State.count_kept) | split)

theorem State.bucketUpdate_kept {s t : State} (h : Kept s t) : Kept s (State.bucketUpdate t) := by
  unfold State.bucketUpdate
  try simp only []
  repeat' (first | with_reducible assumption | (with_reducible refine Kept.foldl _ _ ?_ ?_) | (intro _ _ _) | (with_reducible apply State.setActive_kept) | (with_reducible apply State.p_kept) | (with_reducible apply State.budgetWaits_kept) | (with_reducible apply State.traceEv_kept) | (simp only [Kept.upd_iff]))

theorem State.sigJudge_kept {s t : State} (h : Kept s t) : Kept s (State.sigJudge t) := by
  unfold State.sigJudge
  try simp only []
  repeat' (first | with_reducible assumption | (with_reducible apply State.closeSig_kept) | split)

theorem State.countPasses_kept {s t : State} (h : Kept s t) (c : Nat) : Kept s (State.countPasses t c) := by
  unfold State.countPasses
  try simp only []
  repeat' (first | with_reducible assumption | (with_reducible refine Kept.forRange _ _ _ ?_ ?_) | (intro _ _ _) | (with_reducible apply State.modStream_kept) | split | (simp only [Kept.upd_iff]))

theorem State.adjustGap_kept {s t : State} (h : Kept s t) : Kept s (State.adjustGap t) := by
  unfold State.adjustGap
  try simp only []
  repeat' (first | with_reducible assumption | (with_reducible apply State.p_kept) | split)

theorem State.charge_kept {s t : State} (h : Kept s t) (f : Folio) : Kept s (State.charge t f) := by
  unfold State.charge
  try simp only []
  repeat' (first | with_reducible assumption | (with_reducible apply State.p_kept) | split | (simp only [Kept.upd_iff]))

theorem State.hywSewn_kept {s t : State} (h : Kept s t) (stations : Nat) : Kept s (State.hywSewn t stations) := by
  unfold State.hywSewn
  try simp only []
  repeat' (first | with_reducible assumption | (with_reducible refine Kept.forRange _ _ _ ?_ ?_) | (intro _ _ _) | split | (simp only [Kept.upd_iff]))

theorem State.scmdResult_kept {s t : State} (h : Kept s t) (q : Requester) (ok : Bool) (count : Nat) : Kept s (State.scmdResult t q ok count) := by
  unfold State.scmdResult
  try simp only []
  repeat' (first | with_reducible assumption | (with_reducible apply State.p_kept) | (with_reducible apply State.unitFault_kept) | split)

theorem State.endHalt_kept {s t : State} (h : Kept s t) (n : Nat) : Kept s (State.endHalt t n) := by
  unfold State.endHalt
  try simp only []
  repeat' (first | with_reducible assumption | (with_reducible apply State.p_kept) | (with_reducible apply State.setStreamState_kept) | split)

theorem State.scmdContinue_kept {s t : State} (h : Kept s t) (q : Requester) (n : Nat) : Kept s (State.scmdContinue t q n) := by
  unfold State.scmdContinue
  try simp only []
  repeat' (first | with_reducible assumption | (with_reducible apply State.p_kept) | (with_reducible apply State.setStreamState_kept) | (with_reducible apply State.scmdResult_kept) | split)

theorem State.freshTry_kept {s t : State} (h : Kept s t) (f : Folio) : Kept s (State.freshTry t f) := by
  unfold State.freshTry
  try simp only []
  repeat' (first | with_reducible assumption | (with_reducible apply State.modFolio_kept) | (simp only [Kept.upd_iff]))

theorem State.scmdRetry_kept {s t : State} (h : Kept s t) (q : Requester) (n : Nat) : Kept s (State.scmdRetry t q n) := by
  unfold State.scmdRetry
  try simp only []
  repeat' (first | with_reducible assumption | (with_reducible refine Kept.foldl _ _ ?_ ?_) | (intro _ _ _) | (with_reducible apply State.freshTry_kept) | (with_reducible apply State.modFolio_kept) | (with_reducible apply State.endHalt_kept) | (with_reducible apply State.scmdResult_kept) | split | (simp only [Kept.upd_iff]))

theorem State.abortOne_kept {s t : State} (h : Kept s t) (f : Folio) : Kept s (t.abortOne f) := by
  have he : ∀ a : State, Kept s a → Kept s ((((a.blankFolio f.desc.stream f.desc.fsn).modFolio f.desc.stream f.desc.fsn
      (fun g => g.backTo .aborted)).closeFsn f.desc.stream f.desc.fsn).folioRecord f 6 0x0C false false t.now 7) := fun a ha =>
    State.folioRecord_kept (State.closeFsn_kept (State.modFolio_kept (State.blankFolio_kept ha _ _) _ _ _) _ _) _ _ _ _ _ _ _
  have hf : ∀ e : State → State, (∀ a, Kept s a → Kept s (e a)) → Kept s (State.abortOne.abortFed t f e) := fun e hh => by
    unfold State.abortOne.abortFed
    repeat' split
    all_goals first | exact State.modFolio_kept h _ _ _ | exact hh _ (Kept.upd_iff.2 h)
  unfold State.abortOne
  extract_lets st endNow
  split
  · exact he _ h
  · exact he _ h
  · exact hf _ he
  · exact hf _ he
  · exact State.modFolio_kept h _ _ _
  · exact h

theorem State.abortAwaiting_kept {s t : State} (h : Kept s t) (n : Nat) (fsn : Nat) : Kept s (State.abortAwaiting t n fsn) := by
  unfold State.abortAwaiting
  try simp only []
  repeat' (first | with_reducible assumption | (with_reducible apply State.modStream_kept) | (with_reducible apply State.closeFsn_kept) | (with_reducible apply State.jrnRequest_kept) | (simp only [Kept.upd_iff]))

theorem State.scmdAbort_kept {s t : State} (h : Kept s t) (q : Requester) (n : Nat) : Kept s (State.scmdAbort t q n) := by
  unfold State.scmdAbort
  try simp only []
  repeat' (first | with_reducible assumption | (with_reducible refine Kept.foldl _ _ ?_ ?_) | (intro _ _ _) | (with_reducible apply State.spoilWhere_kept) | (with_reducible apply State.abortOne_kept) | (with_reducible apply State.abortAwaiting_kept) | (with_reducible apply State.p_kept) | (with_reducible apply State.setStreamState_kept) | (with_reducible apply State.scmdResult_kept) | split)

theorem State.endStrand_kept {s t : State} (h : Kept s t) (n : Nat) : Kept s (State.endStrand t n) := by
  unfold State.endStrand
  try simp only []
  repeat' (first | with_reducible assumption | (with_reducible apply State.endHalt_kept) | split)

theorem State.scmdOperatorDelivered_kept {s t : State} (h : Kept s t) (q : Requester) (n : Nat) : Kept s (State.scmdOperatorDelivered t q n) := by
  unfold State.scmdOperatorDelivered
  try simp only []
  repeat' (first | with_reducible assumption | (with_reducible apply State.modFolio_kept) | (with_reducible apply State.folioRecord_kept) | (with_reducible apply State.draw_kept) | (with_reducible apply State.jrnRequest_kept) | (with_reducible apply State.modStream_kept) | (with_reducible apply State.forgetPast_kept) | (with_reducible apply State.closeFsn_kept) | (with_reducible apply State.p_kept) | (with_reducible apply State.endStrand_kept) | (with_reducible apply State.scmdResult_kept) | split | (simp only [Kept.upd_iff]))

theorem State.scmdOperatorRemoved_kept {s t : State} (h : Kept s t) (q : Requester) (n : Nat) : Kept s (State.scmdOperatorRemoved t q n) := by
  unfold State.scmdOperatorRemoved
  try simp only []
  repeat' (first | with_reducible assumption | (with_reducible apply State.modFolio_kept) | (with_reducible apply State.folioRecord_kept) | (with_reducible apply State.draw_kept) | (with_reducible apply State.modStream_kept) | (with_reducible apply State.forgetPast_kept) | (with_reducible apply State.jrnRequest_kept) | (with_reducible apply State.endStrand_kept) | (with_reducible apply State.scmdResult_kept) | split | (simp only [Kept.upd_iff]))

theorem State.scmd_kept {s t : State} (h : Kept s t) (q : Requester) (action : Nat) (n : Nat) : Kept s (State.scmd t q action n) := by
  unfold State.scmd
  try simp only []
  repeat' (first | with_reducible assumption | (with_reducible apply State.p_kept) | (with_reducible apply State.scmdContinue_kept) | (with_reducible apply State.scmdRetry_kept) | (with_reducible apply State.scmdAbort_kept) | (with_reducible apply State.scmdOperatorDelivered_kept) | (with_reducible apply State.scmdOperatorRemoved_kept) | (with_reducible apply State.unitFault_kept) | split)

theorem State.gathReset_kept {s t : State} (h : Kept s t) : Kept s (State.gathReset t) := by
  unfold State.gathReset
  try simp only []
  repeat' (first | with_reducible assumption | (with_reducible refine Kept.forRange _ _ _ ?_ ?_) | (intro _ _ _) | (with_reducible apply State.resetBlock_kept) | (with_reducible apply State.dropCommits_kept) | (with_reducible apply State.p_kept) | (simp only [Kept.upd_iff]))

theorem State.gathUnitReset_kept {s t : State} (h : Kept s t) (q : Requester) : Kept s (State.gathUnitReset t q) := by
  unfold State.gathUnitReset
  try simp only []
  repeat' (first | with_reducible assumption | (with_reducible apply State.gathReset_kept) | (with_reducible apply State.unitFault_kept) | split)

theorem State.gathCtrlWrite_kept {s t : State} (h : Kept s t) (q : Requester) (v : Nat) : Kept s (State.gathCtrlWrite t q v) := by
  unfold State.gathCtrlWrite
  try simp only []
  repeat' (first | with_reducible assumption | (with_reducible apply State.gathUnitReset_kept) | (with_reducible apply State.unitFault_kept) | (with_reducible apply State.p_kept) | split)

theorem State.scanFault_kept {s t : State} (h : Kept s t) (k : Nat) (code : Nat) : Kept s (State.scanFault t k code) := by
  unfold State.scanFault
  try simp only []
  repeat' (first | with_reducible assumption | (with_reducible apply State.raise_kept) | (with_reducible apply State.unlock_kept) | (with_reducible apply State.spoilWhere_kept))

theorem State.scanStart_kept {s t : State} (h : Kept s t) (k : Nat) : Kept s (State.scanStart t k) := by
  unfold State.scanStart
  try simp only []
  repeat' (first | with_reducible assumption | (with_reducible apply State.modStr_kept) | (with_reducible apply State.setScan_kept) | split | (simp only [Kept.upd_iff]))

theorem State.laserFault_kept {s t : State} (h : Kept s t) (k : Nat) (code : Nat) (cause : Nat) (atEnd : Bool) : Kept s (State.laserFault t k code cause atEnd) := by
  unfold State.laserFault
  try simp only []
  repeat' (first | with_reducible assumption | (with_reducible apply State.raiseSpoil_kept) | (with_reducible apply State.laserOff_kept))

theorem State.strReset_kept {s t : State} (h : Kept s t) (k : Nat) : Kept s (State.strReset t k) := by
  unfold State.strReset
  try simp only []
  repeat' (first | with_reducible assumption | (with_reducible apply State.unlock_kept) | (with_reducible apply State.portPads_kept) | (with_reducible apply State.resetBlock_kept) | (with_reducible apply State.dropCommits_kept) | (simp only [Kept.upd_iff]))

theorem State.strCtrlWrite_kept {s t : State} (h : Kept s t) (q : Requester) (k : Nat) (v : Nat) : Kept s (State.strCtrlWrite t q k v) := by
  have h2 : Kept s (if bit v 2 = true then t.setWord .STR_CTRL k 0 (bits v 30 13 * 2 ^ 13 + v % 8) else
      (t.setWord .STR_CTRL k 0 (bits v 30 13 * 2 ^ 13 + v % 8)).modStr k (fun x => { x with calLeft := 0, calAt := none })) := by
    split
    · exact State.setWord_kept h _ _ _ _
    · exact State.modStr_kept (State.setWord_kept h _ _ _ _) _ _
  unfold State.strCtrlWrite
  simp only []
  generalize (if bit v 2 = true then t.setWord .STR_CTRL k 0 (bits v 30 13 * 2 ^ 13 + v % 8) else
      (t.setWord .STR_CTRL k 0 (bits v 30 13 * 2 ^ 13 + v % 8)).modStr k (fun x => { x with calLeft := 0, calAt := none })) = s2 at h2 ⊢
  have h3 : Kept s (if (bit v 20 && !t.on (F.STR_CTRL_LDFLTEN k) && s2.driverFault k) = true then s2.laserFault k cLD_FAULT 2 else s2) := by
    split
    · exact State.laserFault_kept h2 _ _ _ _
    · exact h2
  generalize (if (bit v 20 && !t.on (F.STR_CTRL_LDFLTEN k) && s2.driverFault k) = true then s2.laserFault k cLD_FAULT 2 else s2) = s3 at h3 ⊢
  repeat' split
  all_goals first
    | with_reducible exact h3
    | with_reducible exact State.strReset_kept h _
    | with_reducible exact State.unitFault_kept h _ _ _ _
    | exact State.scanStart_kept (State.portPads_kept h3 _ _) _
    | exact State.unlock_kept (State.portPads_kept (State.dark_kept h3 _) _ _) _ _

theorem State.publishSpeed_kept {s t : State} (h : Kept s t) : Kept s (State.publishSpeed t) := by
  unfold State.publishSpeed
  try simp only []
  repeat' (first | with_reducible assumption | (with_reducible apply State.p_kept) | (with_reducible apply State.raise_kept) | (with_reducible apply State.modStr_kept) | split | (simp only [Kept.upd_iff]))

theorem State.judgeDrift_kept {s t : State} (h : Kept s t) : Kept s (State.judgeDrift t) := by
  unfold State.judgeDrift
  try simp only []
  repeat' (first | with_reducible assumption | (with_reducible apply State.raiseSpoil_kept) | split)

theorem State.measured_kept {s t : State} (h : Kept s t) (k : Nat) (tMeas : Nat) : Kept s (State.measured t k tMeas) := by
  unfold State.measured
  try simp only []
  repeat' (first | with_reducible assumption | (with_reducible apply State.p_kept) | (with_reducible apply State.publishSpeed_kept) | (with_reducible apply State.judgeDrift_kept) | (with_reducible apply State.scanFault_kept) | split)

theorem State.bdMiss_kept {s t : State} (h : Kept s t) (k : Nat) : Kept s (State.bdMiss t k) := by
  unfold State.bdMiss
  try simp only []
  repeat' (first | with_reducible assumption | (with_reducible apply State.modStr_kept) | (with_reducible apply State.inc_kept) | (with_reducible apply State.count_kept) | (with_reducible apply State.raise_kept) | (with_reducible apply State.p_kept) | (with_reducible apply State.unlock_kept) | split | (simp only [Kept.upd_iff]))

theorem State.turnDone_kept {s t : State} (h : Kept s t) (k : Nat) (farEnd : Bool) (turn : Nat) : Kept s (State.turnDone t k farEnd turn) := by
  unfold State.turnDone
  try simp only []
  repeat' (first | with_reducible assumption | (with_reducible apply State.modStr_kept) | split | (simp only [Kept.upd_iff]))

theorem State.popSlot_kept {s t : State} (h : Kept s t) (k : Nat) : Kept s (State.popSlot t k) := by
  unfold State.popSlot
  try simp only []
  repeat' (first | with_reducible assumption | (simp only [Kept.upd_iff]))

theorem State.drainBlank_kept {s t : State} (h : Kept s t) (k : Nat) : Kept s (State.drainBlank t k) := by
  unfold State.drainBlank
  try simp only []
  repeat' (first | with_reducible assumption | (with_reducible apply State.popSlot_kept) | split)

theorem State.countStroke_kept {s t : State} (h : Kept s t) (k : Nat) : Kept s (State.countStroke t k) := by
  unfold State.countStroke
  try simp only []
  repeat' (first | with_reducible assumption | (with_reducible apply State.count_kept) | (with_reducible apply State.fixed_kept) | split)

theorem State.calRead_kept {s t : State} (h : Kept s t) (k : Nat) : Kept s (State.calRead t k) := by
  unfold State.calRead
  try simp only []
  repeat' (first | with_reducible assumption | (with_reducible apply State.modStr_kept) | split | (simp only [Kept.upd_iff]))

theorem State.readout_kept {s t : State} (h : Kept s t) (k : Nat) : Kept s (State.readout t k) := by
  unfold State.readout
  try simp only []
  repeat' (first | with_reducible assumption | (with_reducible apply State.calRead_kept) | (with_reducible apply State.drainBlank_kept) | (with_reducible apply State.modStr_kept) | (with_reducible apply State.countStroke_kept) | (with_reducible apply State.spoilWhere_kept) | (with_reducible apply State.popSlot_kept) | (with_reducible apply State.raiseSpoil_kept) | (with_reducible apply State.bwAdd_kept) | (with_reducible apply State.count_kept) | split | (simp only [Kept.upd_iff]))

theorem State.outbound_kept {s t : State} (h : Kept s t) (k : Nat) (farEnd : Bool) (c : Nat) : Kept s (State.outbound t k farEnd c) := by
  unfold State.outbound
  try simp only []
  repeat' (first | with_reducible assumption | (with_reducible apply State.modStr_kept) | (with_reducible apply State.readout_kept) | (simp only [Kept.upd_iff]))

theorem State.inbound_kept {s t : State} (h : Kept s t) (k : Nat) (farEnd : Bool) (o : Nat) (c : Nat) : Kept s (State.inbound t k farEnd o c) := by
  unfold State.inbound
  try simp only []
  repeat' (first | with_reducible assumption | (with_reducible apply State.measured_kept) | (with_reducible apply State.p_kept) | (with_reducible apply State.modStr_kept) | (with_reducible apply State.turnDone_kept) | (with_reducible apply State.setScan_kept) | split | (simp only [Kept.upd_iff]))

theorem State.lceResult_kept {s t : State} (h : Kept s t) (n : Nat) (k : Nat) (result : Nat) : Kept s (State.lceResult t n k result) := by
  unfold State.lceResult
  try simp only []
  repeat' (first | with_reducible assumption | (with_reducible apply State.p_kept) | (with_reducible apply State.incWrap_kept))

theorem State.lockedEdge_kept {s t : State} (h : Kept s t) (k : Nat) (c : Nat) (p : Nat) : Kept s (State.lockedEdge t k c p) := by
  unfold State.lockedEdge
  try simp only []
  repeat' (first | with_reducible assumption | (with_reducible apply State.outbound_kept) | (with_reducible apply State.bdMiss_kept) | (with_reducible apply State.inbound_kept) | (with_reducible apply State.turnDone_kept) | split)

theorem State.freeEdge_kept {s t : State} (h : Kept s t) (k : Nat) (farEnd : Bool) (rising : Bool) (c : Nat) : Kept s (State.freeEdge t k farEnd rising c) := by
  unfold State.freeEdge
  try simp only []
  repeat' (first | with_reducible assumption | (with_reducible apply State.outbound_kept) | (with_reducible apply State.bdMiss_kept) | (with_reducible apply State.inbound_kept) | (with_reducible apply State.turnDone_kept) | split)

theorem State.bdEdge_kept {s t : State} (h : Kept s t) (k : Nat) (farEnd : Bool) (rising : Bool) (stamp : Nat) : Kept s (State.bdEdge t k farEnd rising stamp) := by
  unfold State.bdEdge
  try simp only []
  repeat' (first | with_reducible assumption | (with_reducible apply State.lockedEdge_kept) | (with_reducible apply State.freeEdge_kept) | split)

theorem State.edgeAbsent_kept {s t : State} (h : Kept s t) (k : Nat) : Kept s (State.edgeAbsent t k) := by
  unfold State.edgeAbsent
  try simp only []
  repeat' (first | with_reducible assumption | (with_reducible apply State.outbound_kept) | (with_reducible apply State.bdMiss_kept) | (with_reducible apply State.turnDone_kept) | split)

theorem State.scanLocked_kept {s t : State} (h : Kept s t) (k : Nat) : Kept s (State.scanLocked t k) := by
  unfold State.scanLocked
  try simp only []
  repeat' (first | with_reducible assumption | (with_reducible refine Kept.forRange _ _ _ ?_ ?_) | (intro _ _ _) | (with_reducible apply State.setScan_kept) | (with_reducible apply State.scanStart_kept) | (with_reducible apply State.publishSpeed_kept) | split)

theorem State.judgeLock_kept {s t : State} (h : Kept s t) (k : Nat) : Kept s (State.judgeLock t k) := by
  unfold State.judgeLock
  try simp only []
  repeat' (first | with_reducible assumption | (with_reducible apply State.scanLocked_kept) | (with_reducible apply State.modStr_kept) | (with_reducible apply State.unlock_kept) | split | (simp only [Kept.upd_iff]))

theorem State.ldcmdWrite_kept {s t : State} (h : Kept s t) (q : Requester) (n : Nat) (k : Nat) (v : Nat) : Kept s (State.ldcmdWrite t q n k v) := by
  unfold State.ldcmdWrite
  try simp only []
  repeat' (first | with_reducible assumption | (with_reducible apply State.unitFault_kept) | (with_reducible apply State.raise_kept) | (with_reducible apply State.p_kept) | split)

theorem State.sendFrame_kept {s t : State} (h : Kept s t) (n : Nat) (k : Nat) : Kept s (State.sendFrame t n k) := by
  unfold State.sendFrame
  try simp only []
  repeat' (first | with_reducible assumption | (with_reducible apply State.modStr_kept) | (with_reducible apply State.p_kept) | split | (simp only [Kept.upd_iff]))

theorem State.ldTherm_kept {s t : State} (h : Kept s t) (k : Nat) : Kept s (State.ldTherm t k) := by
  unfold State.ldTherm
  try simp only []
  repeat' (first | with_reducible assumption | (with_reducible apply State.modStr_kept) | (with_reducible apply State.laserFault_kept) | split | (simp only [Kept.upd_iff]))

theorem State.sensorLevel_kept {s t : State} (h : Kept s t) (input : Nat) (high : Bool) : Kept s (State.sensorLevel t input high) := by
  unfold State.sensorLevel
  try simp only []
  repeat' (first | with_reducible assumption | (with_reducible refine Kept.forRange _ _ _ ?_ ?_) | (intro _ _ _) | (with_reducible apply State.laserFault_kept) | split | (simp only [Kept.upd_iff]))

theorem State.laserDisClear_kept {s t : State} (h : Kept s t) (k : Nat) : Kept s (State.laserDisClear t k) := by
  unfold State.laserDisClear
  try simp only []
  repeat' (first | with_reducible assumption | (with_reducible apply State.p_kept) | (with_reducible apply State.modStr_kept) | (with_reducible apply State.setScan_kept) | split | (simp only [Kept.upd_iff]))

theorem State.caltArm_kept {s t : State} (h : Kept s t) (q : Requester) (k : Nat) (t' : Nat) : Kept s (State.caltArm t q k t') := by
  unfold State.caltArm
  try simp only []
  repeat' (first | with_reducible assumption | (with_reducible apply State.unitFault_kept) | (with_reducible apply State.p_kept) | (with_reducible apply State.modStr_kept) | split | (simp only [Kept.upd_iff]))

theorem State.modCtx_kept {s t : State} (h : Kept s t) (n : Nat) (f : Ctx → Ctx) : Kept s (State.modCtx t n f) := by
  unfold State.modCtx
  try simp only []
  repeat' (first | with_reducible assumption | (simp only [Kept.upd_iff]))

theorem State.ctxFail_kept {s t : State} (h : Kept s t) (n : Nat) (code : Nat) : Kept s (State.ctxFail t n code) := by
  unfold State.ctxFail
  try simp only []
  repeat' (first | with_reducible assumption | (with_reducible apply State.p_kept) | (with_reducible apply State.modCtx_kept) | (with_reducible apply State.refuseFolio_kept) | split | (simp only [Kept.upd_iff]))

theorem State.ctxLate_kept {s t : State} (h : Kept s t) (n : Nat) : Kept s (State.ctxLate t n) := by
  unfold State.ctxLate
  try simp only []
  repeat' (first | with_reducible assumption | (with_reducible apply State.ctxFail_kept) | split)

theorem State.ctxLine_kept {s t : State} (h : Kept s t) (n : Nat) (line : List Nat) : Kept s (State.ctxLine t n line) := by
  unfold State.ctxLine
  try simp only []
  repeat' (first | with_reducible assumption | (with_reducible apply State.ctxFail_kept) | (with_reducible apply State.modCtx_kept) | split | (simp only [Kept.upd_iff]))

theorem State.ctxByte_kept {s t : State} (h : Kept s t) (n : Nat) (b : Nat) : Kept s (State.ctxByte t n b) := by
  unfold State.ctxByte
  try simp only []
  repeat' (first | with_reducible assumption | (with_reducible apply State.ctxFail_kept) | (with_reducible apply State.modCtx_kept) | split | (simp only [Kept.upd_iff]))

theorem State.ctxRow_kept {s t : State} (h : Kept s t) (n : Nat) (bs : List Nat) : Kept s (State.ctxRow t n bs) := by
  unfold State.ctxRow
  try simp only []
  repeat' (first | with_reducible assumption | (with_reducible refine Kept.foldl _ _ ?_ ?_) | (intro _ _ _) | (with_reducible apply State.ctxLate_kept) | (with_reducible apply State.ctxByte_kept) | (with_reducible apply State.ctxLine_kept) | split)

theorem State.ctxJobWrite_kept {s t : State} (h : Kept s t) (q : Requester) (n : Nat) (v : Nat) : Kept s (State.ctxJobWrite t q n v) := by
  unfold State.ctxJobWrite
  try simp only []
  repeat' (first | with_reducible assumption | (with_reducible apply State.unitFault_kept) | (with_reducible apply State.setWord_kept) | (with_reducible apply State.modCtx_kept) | (with_reducible apply State.ctxFail_kept) | split | (simp only [Kept.upd_iff]))

theorem State.dropFinished_kept {s t : State} (h : Kept s t) (n : Nat) (p : Nat) (k : Nat) (m : Option Nat) (raw : Bool) : Kept s (State.dropFinished t n p k m raw) := by
  unfold State.dropFinished
  try simp only []
  repeat' (first | with_reducible assumption | (with_reducible apply State.modCtx_kept) | (with_reducible apply State.incWrap_kept) | (with_reducible apply State.count_kept) | split | (simp only [Kept.upd_iff]))

theorem State.refuseIngest_kept {s t : State} (h : Kept s t) (code : Nat) : Kept s (State.refuseIngest t code) := by
  unfold State.refuseIngest
  try simp only []
  repeat' (first | with_reducible assumption | (with_reducible refine Kept.forRange _ _ _ ?_ ?_) | (intro _ _ _) | (with_reducible apply State.refuseFolio_kept) | split)

theorem State.ingReset_kept {s t : State} (h : Kept s t) : Kept s (State.ingReset t) := by
  unfold State.ingReset
  try simp only []
  repeat' (first | with_reducible assumption | (with_reducible apply State.refuseIngest_kept) | (with_reducible apply State.resetBlock_kept) | (simp only [Kept.upd_iff]))

theorem State.cmpReset_kept {s t : State} (h : Kept s t) (m : Nat) : Kept s (State.cmpReset t m) := by
  unfold State.cmpReset
  try simp only []
  repeat' (first | with_reducible assumption | (with_reducible refine Kept.foldl _ _ ?_ ?_) | (intro _ _ _) | (with_reducible apply State.ctxFail_kept) | (with_reducible apply State.resetBlock_kept) | split | (simp only [Kept.upd_iff]))

theorem State.emptyStation_kept {s t : State} (h : Kept s t) (n : Nat) : Kept s (State.emptyStation t n) := by
  unfold State.emptyStation
  try simp only []
  repeat' (first | with_reducible assumption | (with_reducible apply State.p_kept) | (with_reducible apply State.spoilWhere_kept) | (simp only [Kept.upd_iff]))

theorem State.qringWrite_kept {s t : State} (h : Kept s t) (q : Requester) (n : Nat) (v : Nat) : Kept s (State.qringWrite t q n v) := by
  unfold State.qringWrite
  try simp only []
  repeat' (first | with_reducible assumption | (with_reducible apply State.unitFault_kept) | (with_reducible apply State.setWord_kept) | split | (simp only [Kept.upd_iff]))

theorem State.dcpPush_kept {s t : State} (h : Kept s t) (q : Requester) (n : Nat) (lo : Nat) (hi : Nat) (side : Nat × Nat × Bool) : Kept s (State.dcpPush t q n lo hi side) := by
  unfold State.dcpPush
  try simp only []
  repeat' (first | with_reducible assumption | (with_reducible apply State.unitFault_kept) | (with_reducible apply State.p_kept) | split | (simp only [Kept.upd_iff]))

theorem State.modJob_kept {s t : State} (h : Kept s t) (n : Nat) (f : Job → Job) : Kept s (State.modJob t n f) := by
  unfold State.modJob
  try simp only []
  repeat' (first | with_reducible assumption | split | (simp only [Kept.upd_iff]))

theorem State.fillSlot_kept {s t : State} (h : Kept s t) (n : Nat) (side : Nat × Nat × Bool) (st : SlotSt) (data : List Nat) : Kept s (State.fillSlot t n side st data) := by
  unfold State.fillSlot
  try simp only []
  repeat' (first | with_reducible assumption | (with_reducible apply State.wrBytes_kept) | split | (simp only [Kept.upd_iff]))

theorem State.dcpEmit_kept (n : Nat) (c : Nat) : ∀ {s t : State}, Kept s t → Kept s (t.dcpEmit n c) := by
  induction c with
  | zero => intro s t h; exact h
  | succ c ih =>
    intro s t h
    unfold State.dcpEmit
    split
    · exact h
    · split
      · exact State.p_kept (Kept.upd_iff.2 h) _ _
      · split
        · exact h
        · simp only []
          split
          · exact ih (State.modJob_kept (State.fillSlot_kept h _ _ _ _) _ _)
          · split
            · split
              · exact h
              · exact State.fillSlot_kept h _ _ _ _
            · refine ih (State.modJob_kept ?_ _ _)
              split
              · exact State.fillSlot_kept h _ _ _ _
              · exact State.fillSlot_kept h _ _ _ _

theorem State.dcpBytes_kept {s t : State} (h : Kept s t) (j : Job) : Kept s (State.dcpBytes t j) := by
  unfold State.dcpBytes
  try simp only []
  repeat' (first | with_reducible assumption | (with_reducible apply State.bwMem_kept))

theorem State.dcpBad_kept {s t : State} (h : Kept s t) (n : Nat) (e : Nat) (side : Nat × Nat × Bool) : Kept s (State.dcpBad t n e side) := by
  unfold State.dcpBad
  try simp only []
  repeat' (first | with_reducible assumption | (with_reducible apply State.p_kept) | (with_reducible apply State.raise_kept) | (with_reducible apply State.spoilWhere_kept) | split)

theorem State.dcpReset_kept {s t : State} (h : Kept s t) (n : Nat) : Kept s (State.dcpReset t n) := by
  unfold State.dcpReset
  try simp only []
  repeat' (first | with_reducible assumption | (with_reducible apply State.emptyStation_kept) | (with_reducible apply State.resetBlock_kept))

theorem State.qstReset_kept {s t : State} (h : Kept s t) : Kept s (State.qstReset t) := by
  unfold State.qstReset
  try simp only []
  repeat' (first | with_reducible assumption | (with_reducible refine Kept.forRange _ _ _ ?_ ?_) | (intro _ _ _) | (with_reducible apply State.emptyStation_kept) | (with_reducible apply State.resetBlock_kept))

theorem State.shwFlip_kept {s t : State} (h : Kept s t) (q : Requester) (k : Nat) (v : Nat) : Kept s (State.shwFlip t q k v) := by
  unfold State.shwFlip
  try simp only []
  repeat' (first | with_reducible assumption | (with_reducible apply State.p_kept) | (with_reducible apply State.incWrap_kept) | (with_reducible apply State.unitFault_kept) | split)

theorem State.modDma_kept {s t : State} (h : Kept s t) (c : Nat) (f : Dma → Dma) : Kept s (State.modDma t c f) := by
  unfold State.modDma
  try simp only []
  repeat' (first | with_reducible assumption | (simp only [Kept.upd_iff]))

theorem State.dmaRelease_kept {s t : State} (h : Kept s t) (c : Nat) (halted : Bool) : Kept s (State.dmaRelease t c halted) := by
  unfold State.dmaRelease
  try simp only []
  repeat' (first | with_reducible assumption | (with_reducible apply State.wr_kept) | (with_reducible apply State.ringPop_kept) | (with_reducible apply State.modDma_kept) | (with_reducible apply State.p_kept) | split)

theorem State.dmaPost_kept {s t : State} (h : Kept s t) (c : Nat) (rec : List Nat) : Kept s (State.dmaPost t c rec) := by
  unfold State.dmaPost
  try simp only []
  repeat' (first | with_reducible assumption | (with_reducible apply State.ringPutC_kept) | (with_reducible apply State.dmaRelease_kept) | (with_reducible apply State.sawFull_kept) | (with_reducible apply State.modDma_kept) | (with_reducible apply State.p_kept) | split | (simp only [Kept.upd_iff]))

theorem State.dmaEnd_kept {s t : State} (h : Kept s t) (c : Nat) (tag : Nat) (cmpl : Bool) (ctx : Option Nat) (code : Nat) (suspect : Bool) (bytes : Nat) (addr : Nat) : Kept s (State.dmaEnd t c tag cmpl ctx code suspect bytes addr) := by
  unfold State.dmaEnd
  try simp only []
  repeat' (first | with_reducible assumption | (with_reducible apply State.p_kept) | (with_reducible apply State.incWrap_kept) | (with_reducible apply State.count_kept) | (with_reducible apply State.raise_kept) | (with_reducible apply State.ctxFail_kept) | (with_reducible apply State.ctxLate_kept) | (with_reducible apply State.dmaPost_kept) | (with_reducible apply State.dmaRelease_kept) | split)

theorem State.dmaRestart_kept {s t : State} (h : Kept s t) (q : Requester) (c : Nat) : Kept s (State.dmaRestart t q c) := by
  unfold State.dmaRestart
  try simp only []
  repeat' (first | with_reducible assumption | (with_reducible apply State.p_kept) | (with_reducible apply State.unitFault_kept) | split)

theorem State.dmaStop_kept {s t : State} (h : Kept s t) (q : Requester) (c : Nat) : Kept s (State.dmaStop t q c) := by
  unfold State.dmaStop
  try simp only []
  repeat' (first | with_reducible assumption | (with_reducible apply State.modDma_kept) | (with_reducible apply State.dmaEnd_kept) | (with_reducible apply State.p_kept) | (with_reducible apply State.unitFault_kept) | split | (simp only [Kept.upd_iff]))

theorem State.dmaReset_kept {s t : State} (h : Kept s t) : Kept s (State.dmaReset t) := by
  unfold State.dmaReset
  try simp only []
  repeat' (first | with_reducible assumption | (with_reducible refine Kept.forRange _ _ _ ?_ ?_) | (intro _ _ _) | (with_reducible apply State.dmaRelease_kept) | (with_reducible apply State.ctxFail_kept) | (with_reducible apply State.refuseIngest_kept) | (with_reducible apply State.resetBlock_kept) | split | (simp only [Kept.upd_iff]))

theorem State.modSyn_kept {s t : State} (h : Kept s t) (n : Nat) (f : Syn → Syn) : Kept s (State.modSyn t n f) := by
  unfold State.modSyn
  try simp only []
  repeat' (first | with_reducible assumption | (simp only [Kept.upd_iff]))

theorem State.setSynState_kept {s t : State} (h : Kept s t) (n : Nat) (st : Nat) : Kept s (State.setSynState t n st) := by
  unfold State.setSynState
  try simp only []
  repeat' (first | with_reducible assumption | (with_reducible apply State.p_kept) | (with_reducible apply State.traceEv_kept))

theorem State.setVid_kept {s t : State} (h : Kept s t) (k : Nat) (b : Bool) : Kept s (State.setVid t k b) := by
  unfold State.setVid
  try simp only []
  repeat' (first | with_reducible assumption | (with_reducible apply State.p_kept))

theorem State.commitWrite_kept {s t : State} (h : Kept s t) (q : Requester) (x : ShadowSet) (v : Nat) : Kept s (State.commitWrite t q x v) := by
  unfold State.commitWrite
  try simp only []
  repeat' (first | with_reducible assumption | (with_reducible apply State.p_kept) | (with_reducible apply State.lateWrite_kept) | (with_reducible apply State.unitFault_kept) | (with_reducible apply State.startCommit_kept) | (with_reducible apply State.modSyn_kept) | split | (simp only [Kept.upd_iff]))

theorem State.setCko_kept {s t : State} (h : Kept s t) (k : Nat) (l : List CkoSpan) : Kept s (State.setCko t k l) := by
  unfold State.setCko
  try simp only []
  repeat' (first | with_reducible assumption | (with_reducible apply State.modSyn_kept) | split | (simp only [Kept.upd_iff]))

theorem State.ckoReschedule_kept {s t : State} (h : Kept s t) (k : Nat) : Kept s (State.ckoReschedule t k) := by
  unfold State.ckoReschedule
  try simp only []
  repeat' (first | with_reducible assumption | (with_reducible refine Kept.foldl _ _ ?_ ?_) | (intro _ _ _) | (with_reducible apply State.setCko_kept) | split | (simp only [Kept.upd_iff]))

theorem State.ckoSwitch_kept {s t : State} (h : Kept s t) (k : Nat) (on : Bool) : Kept s (State.ckoSwitch t k on) := by
  unfold State.ckoSwitch
  try simp only []
  repeat' (first | with_reducible assumption | (with_reducible refine Kept.foldl _ _ ?_ ?_) | (intro _ _ _) | (with_reducible apply State.setCko_kept) | split | (simp only [Kept.upd_iff]))

theorem State.ckoenWrite_kept {s t : State} (h : Kept s t) (v : Nat) : Kept s (State.ckoenWrite t v) := by
  unfold State.ckoenWrite
  try simp only []
  repeat' (first | with_reducible assumption | (with_reducible apply State.ckoSwitch_kept) | (with_reducible apply State.setWord_kept) | split)

theorem State.afterCopy_kept {s t : State} (h : Kept s t) (x : ShadowSet) : Kept s (State.afterCopy t x) := by
  unfold State.afterCopy
  try simp only []
  repeat' (first | with_reducible assumption | (with_reducible refine Kept.forRange _ _ _ ?_ ?_) | (intro _ _ _) | (with_reducible apply State.scanStart_kept) | (with_reducible apply State.publishSpeed_kept) | (with_reducible apply State.modSyn_kept) | (with_reducible apply State.ckoReschedule_kept) | (with_reducible apply State.p_kept) | split | (simp only [Kept.upd_iff]))

theorem State.doCopy_kept {s t : State} (h : Kept s t) (x : ShadowSet) : Kept s (State.doCopy t x) := by
  unfold State.doCopy
  try simp only []
  repeat' (first | with_reducible assumption | (with_reducible apply State.copySet_kept) | (with_reducible apply State.afterCopy_kept))

theorem State.phaseCopied_kept {s t : State} (h : Kept s t) (x : ShadowSet) (before : Nat) : Kept s (State.phaseCopied t x before) := by
  unfold State.phaseCopied
  try simp only []
  repeat' (first | with_reducible assumption | (with_reducible apply State.unlock_kept) | split)

theorem State.synStart_kept {s t : State} (h : Kept s t) (n : Nat) : Kept s (State.synStart t n) := by
  unfold State.synStart
  try simp only []
  repeat' (first | with_reducible assumption | (with_reducible apply State.setSynState_kept) | (with_reducible apply State.p_kept))

theorem State.synStop_kept {s t : State} (h : Kept s t) (n : Nat) : Kept s (State.synStop t n) := by
  unfold State.synStop
  try simp only []
  repeat' (first | with_reducible assumption | (with_reducible apply State.setSynState_kept) | (with_reducible apply State.setWord_kept) | (with_reducible apply State.p_kept) | (with_reducible apply State.setVid_kept) | (with_reducible apply State.modSyn_kept) | (simp only [Kept.upd_iff]))

theorem State.synsOff_kept {s t : State} (h : Kept s t) : Kept s (State.synsOff t) := by
  unfold State.synsOff
  try simp only []
  repeat' (first | with_reducible assumption | (with_reducible refine Kept.forRange _ _ _ ?_ ?_) | (intro _ _ _) | (with_reducible apply State.synStop_kept) | (with_reducible apply State.setSynState_kept) | (with_reducible apply State.modSyn_kept) | (with_reducible apply State.p_kept) | (simp only [Kept.upd_iff]))

theorem State.synCtrlWrite_kept {s t : State} (h : Kept s t) (q : Requester) (n : Nat) (v : Nat) : Kept s (State.synCtrlWrite t q n v) := by
  unfold State.synCtrlWrite
  try simp only []
  repeat' (first | with_reducible assumption | (with_reducible apply State.unitFault_kept) | (with_reducible apply State.synStop_kept) | (with_reducible apply State.p_kept) | (with_reducible apply State.resetBlock_kept) | (with_reducible apply State.modSyn_kept) | (with_reducible apply State.synStart_kept) | split)

theorem State.latchEpoch_kept {s t : State} (h : Kept s t) (i : Nat) : Kept s (State.latchEpoch t i) := by
  unfold State.latchEpoch
  try simp only []
  repeat' (first | with_reducible assumption | (with_reducible apply State.setWord_kept) | split)

theorem State.stationHold_kept {s t : State} (h : Kept s t) (k : Nat) : Kept s (State.stationHold t k) := by
  unfold State.stationHold
  try simp only []
  repeat' (first | with_reducible assumption | (with_reducible apply State.setVid_kept) | (with_reducible apply State.dark_kept) | (with_reducible apply State.unlock_kept) | split)

theorem State.synHold_kept {s t : State} (h : Kept s t) (n : Nat) (cause : Nat) : Kept s (State.synHold t n cause) := by
  unfold State.synHold
  try simp only []
  repeat' (first | with_reducible assumption | (with_reducible refine Kept.forRange _ _ _ ?_ ?_) | (intro _ _ _) | (with_reducible apply State.setSynState_kept) | (with_reducible apply State.p_kept) | (with_reducible apply State.inc_kept) | (with_reducible apply State.raise_kept) | (with_reducible apply State.raiseSpoil_kept) | (with_reducible apply State.ctxFail_kept) | (with_reducible apply State.stationHold_kept) | split)

theorem State.drivePulse_kept {s t : State} (h : Kept s t) (k : Nat) (level : Nat) : Kept s (State.drivePulse t k level) := by
  unfold State.drivePulse
  try simp only []
  repeat' (first | with_reducible assumption | (with_reducible apply State.draw_kept) | (with_reducible apply State.modStr_kept) | split | (simp only [Kept.upd_iff]))

theorem State.ampUpdate_kept {s t : State} (h : Kept s t) (k : Nat) : Kept s (State.ampUpdate t k) := by
  unfold State.ampUpdate
  try simp only []
  repeat' (first | with_reducible assumption | (with_reducible apply State.modStr_kept) | (with_reducible apply State.p_kept) | (with_reducible apply State.pi_kept) | (with_reducible apply State.drivePulse_kept) | (with_reducible apply State.scanFault_kept) | (with_reducible apply State.judgeLock_kept) | split | (simp only [Kept.upd_iff]))

theorem State.applyOfs_kept {s t : State} (h : Kept s t) (n : Nat) : Kept s (State.applyOfs t n) := by
  unfold State.applyOfs
  try simp only []
  repeat' (first | with_reducible assumption | (with_reducible apply State.p_kept) | (with_reducible apply State.inc_kept) | (with_reducible apply State.modSyn_kept) | split | (simp only [Kept.upd_iff]))

theorem State.imagingUpdate_kept {s t : State} (h : Kept s t) (k : Nat) : Kept s (State.imagingUpdate t k) := by
  unfold State.imagingUpdate
  try simp only []
  repeat' (first | with_reducible assumption | (with_reducible apply State.doCopy_kept) | split)

theorem State.startStroke_kept {s t : State} (h : Kept s t) (k : Nat) (back : Bool) (on : Bool) (restart : Nat) (start : Nat) : Kept s (State.startStroke t k back on restart start) := by
  unfold State.startStroke
  try simp only []
  repeat' (first | with_reducible assumption | (with_reducible apply State.p_kept) | (with_reducible apply State.incWrap_kept) | (with_reducible apply State.modStr_kept) | (with_reducible apply State.modSyn_kept) | split | (simp only [Kept.upd_iff]))

theorem State.profRange_kept {s t : State} (h : Kept s t) (k : Nat) : Kept s (State.profRange t k) := by
  unfold State.profRange
  try simp only []
  repeat' (first | with_reducible assumption | (with_reducible apply State.raiseSpoil_kept))

theorem State.rampRestart_kept {s t : State} (h : Kept s t) (k : Nat) (turn : Nat) : Kept s (State.rampRestart t k turn) := by
  unfold State.rampRestart
  try simp only []
  repeat' (first | with_reducible assumption | (with_reducible apply State.applyOfs_kept) | (with_reducible apply State.imagingUpdate_kept) | (with_reducible apply State.startStroke_kept) | (with_reducible apply State.p_kept) | (with_reducible apply State.setWord_kept) | (with_reducible apply State.profRange_kept) | split)

theorem State.strokeEnd_kept {s t : State} (h : Kept s t) (k : Nat) : Kept s (State.strokeEnd t k) := by
  unfold State.strokeEnd
  try simp only []
  repeat' (first | with_reducible assumption | (with_reducible apply State.modStr_kept) | split | (simp only [Kept.upd_iff]))

theorem State.leadOut_kept {s t : State} (h : Kept s t) (k : Nat) : Kept s (State.leadOut t k) := by
  unfold State.leadOut
  try simp only []
  repeat' (first | with_reducible assumption | (with_reducible apply State.p_kept) | (with_reducible apply State.setWord_kept) | (with_reducible apply State.modSyn_kept) | (with_reducible apply State.strokeEnd_kept) | (with_reducible apply State.modStr_kept) | split | (simp only [Kept.upd_iff]))

theorem State.modMot_kept {s t : State} (h : Kept s t) (n : Nat) (f : Mot → Mot) : Kept s (State.modMot t n f) := by
  unfold State.modMot
  try simp only []
  repeat' (first | with_reducible assumption | (simp only [Kept.upd_iff]))

theorem State.polyFacet_kept {s t : State} (h : Kept s t) (k : Nat) (c : Nat) : Kept s (State.polyFacet t k c) := by
  unfold State.polyFacet
  try simp only []
  repeat' (first | with_reducible assumption | (with_reducible apply State.pi_kept) | (with_reducible apply State.modMot_kept) | (with_reducible apply State.p_kept) | split | (simp only [Kept.upd_iff]))

theorem State.sweep_kept {s t : State} (h : Kept s t) (k : Nat) (c : Nat) : Kept s (State.sweep t k c) := by
  unfold State.sweep
  try simp only []
  repeat' (first | with_reducible assumption | (with_reducible apply State.leadOut_kept) | (with_reducible apply State.modStr_kept) | (with_reducible apply State.applyOfs_kept) | (with_reducible apply State.imagingUpdate_kept) | (with_reducible apply State.readout_kept) | (with_reducible apply State.startStroke_kept) | (with_reducible apply State.p_kept) | (with_reducible apply State.setWord_kept) | split | (simp only [Kept.upd_iff]))

theorem State.facetSweep_kept {s t : State} (h : Kept s t) (k : Nat) (c : Nat) : Kept s (State.facetSweep t k c) := by
  unfold State.facetSweep
  try simp only []
  repeat' (first | with_reducible assumption | (with_reducible apply State.measured_kept) | (with_reducible apply State.p_kept) | (with_reducible apply State.scanLocked_kept) | (with_reducible apply State.modStr_kept) | (with_reducible apply State.sweep_kept) | split | (simp only [Kept.upd_iff]))

theorem State.facetMiss_kept {s t : State} (h : Kept s t) (k : Nat) (c : Nat) : Kept s (State.facetMiss t k c) := by
  unfold State.facetMiss
  try simp only []
  repeat' (first | with_reducible assumption | (with_reducible apply State.bdMiss_kept) | (with_reducible apply State.sweep_kept))

theorem State.facetEdge_kept {s t : State} (h : Kept s t) (k : Nat) (c : Nat) : Kept s (State.facetEdge t k c) := by
  unfold State.facetEdge
  try simp only []
  repeat' (first | with_reducible assumption | (with_reducible apply State.measured_kept) | (with_reducible apply State.scanStart_kept) | (with_reducible apply State.modStr_kept) | (with_reducible apply State.facetSweep_kept) | (with_reducible apply State.facetMiss_kept) | split | (simp only [Kept.upd_iff]))

theorem State.framWr_kept {s t : State} (h : Kept s t) (a : Nat) (bs : List Nat) : Kept s (t.framWr a bs) :=
  h.trans ⟨rfl, id, Cells.wf_putBytes 0xFF bs a _, id⟩

theorem State.headerWrite_kept {s t : State} (h : Kept s t) : Kept s (State.headerWrite t) := by
  unfold State.headerWrite
  try simp only []
  repeat' (first | with_reducible assumption | (with_reducible apply State.framWr_kept) | (with_reducible apply State.bwAdd_kept) | (with_reducible apply State.wrBytes_kept) | (with_reducible apply State.p_kept) | split | (simp only [Kept.upd_iff]))

theorem State.headersFresh_kept {s t : State} (h : Kept s t) : Kept s (State.headersFresh t) := by
  unfold State.headersFresh
  try simp only []
  repeat' (first | with_reducible assumption | (with_reducible apply State.headerWrite_kept))

theorem State.jrnLose_kept {s t : State} (h : Kept s t) : Kept s (State.jrnLose t) := by
  unfold State.jrnLose
  try simp only []
  repeat' (first | with_reducible assumption | (with_reducible refine Kept.foldl _ _ ?_ ?_) | (with_reducible refine Kept.forRange _ _ _ ?_ ?_) | (intro _ _ _) | (with_reducible apply State.p_kept) | (with_reducible apply State.refuseFolio_kept) | (with_reducible apply State.jrnRequest_kept) | (with_reducible apply State.postDeferred_kept) | split | (simp only [Kept.upd_iff]))

theorem State.countCommit_kept {s t : State} (h : Kept s t) (r : JRec) : Kept s (State.countCommit t r) := by
  unfold State.countCommit
  try simp only []
  repeat' (first | with_reducible assumption | (with_reducible apply State.count_kept) | (with_reducible apply State.traceEv_kept) | (with_reducible apply State.fixed_kept) | split)

theorem State.confirm_kept {s t : State} (h : Kept s t) (r : JRec) (rest : List JRec) : Kept s (State.confirm t r rest) := by
  unfold State.confirm
  try simp only []
  repeat' (first | with_reducible assumption | (with_reducible apply State.countCommit_kept) | (with_reducible apply State.onCommit_kept) | (with_reducible apply State.headerWrite_kept) | (with_reducible apply State.jrnRefill_kept) | split | (simp only [Kept.upd_iff]))

theorem State.freeWords_kept (n : Nat) : ∀ {s t : State}, Kept s t → Kept s (t.freeWords n).2 := by
  induction n with
  | zero => intro s t h; exact h
  | succ n ih => intro s t h; exact ih (State.draw_kept h)

theorem State.readBackFailed_kept {s t : State} (h : Kept s t) (r : JRec) (rest : List JRec) (b : ReadBack) : Kept s (State.readBackFailed t r rest b) := by
  unfold State.readBackFailed
  try simp only []
  repeat' (first | with_reducible assumption | (with_reducible apply State.freeWords_kept) | (with_reducible apply State.framWr_kept) | (with_reducible apply State.count_kept) | (with_reducible apply State.p_kept) | (with_reducible apply State.raise_kept) | (with_reducible apply State.confirm_kept) | (with_reducible apply State.jrnLose_kept) | split | (simp only [Kept.upd_iff]))

theorem State.zeroStreams_kept {s t : State} (h : Kept s t) : Kept s (State.zeroStreams t) := by
  unfold State.zeroStreams
  try simp only []
  repeat' (first | with_reducible assumption | (with_reducible refine Kept.forRange _ _ _ ?_ ?_) | (intro _ _ _) | (with_reducible apply State.p_kept) | (with_reducible apply State.setStreamState_kept) | (with_reducible apply State.modStream_kept) | (simp only [Kept.upd_iff]))

theorem State.postMarks_kept {s t : State} (h : Kept s t) : Kept s (State.postMarks t) := by
  unfold State.postMarks
  try simp only []
  repeat' (first | with_reducible assumption | (with_reducible refine Kept.forRange _ _ _ ?_ ?_) | (intro _ _ _) | (with_reducible apply State.complete_kept) | (with_reducible apply State.fclMark_kept) | (with_reducible apply State.traceEv_kept) | split | (simp only [Kept.upd_iff]))

theorem State.clearEpochs_kept {s t : State} (h : Kept s t) : Kept s (State.clearEpochs t) := by
  unfold State.clearEpochs
  try simp only []
  repeat' (first | with_reducible assumption | (with_reducible refine Kept.foldl _ _ ?_ ?_) | (with_reducible refine Kept.forRange _ _ _ ?_ ?_) | (intro _ _ _) | (with_reducible apply State.setWord_kept) | split)

theorem State.latchAll_kept {s t : State} (h : Kept s t) : Kept s (State.latchAll t) := by
  unfold State.latchAll
  try simp only []
  repeat' (first | with_reducible assumption | (with_reducible refine Kept.foldl _ _ ?_ ?_) | (intro _ _ _) | (with_reducible apply State.latchEpoch_kept) | split | (simp only [Kept.upd_iff]))

theorem State.jrnCmd_kept {s t : State} (h : Kept s t) (q : Requester) (v : Nat) : Kept s (State.jrnCmd t q v) := by
  unfold State.jrnCmd
  try simp only []
  repeat' (first | with_reducible assumption | (with_reducible apply State.unitFault_kept) | (with_reducible apply State.headerWrite_kept) | (with_reducible apply State.p_kept) | (with_reducible apply State.zeroStreams_kept) | (with_reducible apply State.headersFresh_kept) | (with_reducible apply State.clearEpochs_kept) | (with_reducible apply State.latchAll_kept) | (with_reducible apply State.postMarks_kept) | split | (simp only [Kept.upd_iff]))

theorem State.jrnSeal_kept {s t : State} (h : Kept s t) : Kept s (State.jrnSeal t) := by
  unfold State.jrnSeal
  try simp only []
  repeat' (first | with_reducible assumption | (with_reducible apply State.p_kept) | (with_reducible apply State.headersFresh_kept))

theorem State.journalHalt_kept {s t : State} (h : Kept s t) : Kept s (State.journalHalt t) := by
  unfold State.journalHalt
  try simp only []
  repeat' (first | with_reducible assumption | (with_reducible apply State.p_kept) | (with_reducible apply State.kettleHalt_kept))

theorem State.probe_kept {s t : State} (h : Kept s t) (present : Bool) : Kept s (State.probe t present) := by
  unfold State.probe
  try simp only []
  repeat' (first | with_reducible assumption | (with_reducible apply State.framWr_kept) | (with_reducible apply State.p_kept) | (with_reducible apply State.raise_kept) | split)

theorem State.replayFrom_kept {s t : State} (h : Kept s t) (h' : Header) (fram : Bool) (mir : Bool) (framUsed : Bool) : Kept s (State.replayFrom t h' fram mir framUsed) := by
  unfold State.replayFrom
  try simp only []
  repeat' (first | with_reducible assumption | (with_reducible apply State.journalHalt_kept) | (with_reducible apply State.p_kept) | (with_reducible apply State.raise_kept) | split | (simp only [Kept.upd_iff]))

theorem State.replayBlank_kept {s t : State} (h : Kept s t) : Kept s (State.replayBlank t) := by
  unfold State.replayBlank
  try simp only []
  repeat' (first | with_reducible assumption | (simp only [Kept.upd_iff]))

theorem State.setStreams_kept {s t : State} (h : Kept s t) (f : Found) : Kept s (State.setStreams t f) := by
  unfold State.setStreams
  try simp only []
  repeat' (first | with_reducible assumption | (with_reducible refine Kept.forRange _ _ _ ?_ ?_) | (intro _ _ _) | (with_reducible apply State.modStream_kept) | (with_reducible apply State.p_kept) | (with_reducible apply State.setStreamState_kept) | split | (simp only [Kept.upd_iff]))

theorem State.rebuildMirror_kept {s t : State} (h : Kept s t) : Kept s (State.rebuildMirror t) := by
  unfold State.rebuildMirror
  try simp only []
  repeat' (first | with_reducible assumption | (with_reducible refine Kept.foldl _ _ ?_ ?_) | (intro _ _ _) | (with_reducible apply State.wrBytes_kept))

theorem State.enableStreams_kept {s t : State} (h : Kept s t) : Kept s (State.enableStreams t) := by
  unfold State.enableStreams
  try simp only []
  repeat' (first | with_reducible assumption | (with_reducible refine Kept.forRange _ _ _ ?_ ?_) | (intro _ _ _) | (with_reducible apply State.p_kept) | split)

theorem State.reportTo_kept {s t : State} (h : Kept s t) (q a : Nat) : Kept s (t.reportTo q a).2 := by
  unfold State.reportTo
  split
  · split
    · exact State.ringPutC_kept h _ _
    · exact h
  · exact h

theorem State.fetchDone_kept {s t : State} (h : Kept s t) (v : Nat) : Kept s (State.fetchDone t v) := by
  unfold State.fetchDone
  try simp only []
  repeat' (first | with_reducible assumption | (with_reducible refine Kept.forRange _ _ _ ?_ ?_) | (intro _ _ _) | (with_reducible apply State.p_kept) | (with_reducible apply State.bwAdd_kept) | (with_reducible apply State.setWord_kept) | split | (simp only [Kept.upd_iff]))

theorem State.ridxWrite_kept {s t : State} (h : Kept s t) (q : Requester) (v : Nat) : Kept s (State.ridxWrite t q v) := by
  unfold State.ridxWrite
  try simp only []
  repeat' (first | with_reducible assumption | (with_reducible apply State.unitFault_kept) | (with_reducible apply State.setWord_kept) | (with_reducible apply State.fetchDone_kept) | split | (simp only [Kept.upd_iff]))

theorem State.escalate_kept {s t : State} (h : Kept s t) (k : Nat) : Kept s (State.escalate t k) := by
  unfold State.escalate
  try simp only []
  repeat' (first | with_reducible assumption | (with_reducible apply State.modHist_kept) | (with_reducible apply State.noteDue_kept) | split | (simp only [Kept.upd_iff]))

theorem State.ack_kept {s t : State} (h : Kept s t) (index : Nat) (seq : Nat) : Kept s (State.ack t index seq) := by
  unfold State.ack
  try simp only []
  repeat' (first | with_reducible assumption | (with_reducible apply State.escalate_kept) | (with_reducible apply State.modHist_kept) | (with_reducible apply State.raise_kept) | split | (simp only [Kept.upd_iff]))

theorem State.forceOne_kept {s t : State} (h : Kept s t) (q : Requester) (i : Nat) : Kept s (State.forceOne t q i) := by
  unfold State.forceOne
  try simp only []
  repeat' (first | with_reducible assumption | (with_reducible apply State.raisePort_kept) | split)

theorem State.forceWrite_kept {s t : State} (h : Kept s t) (q : Requester) (k : Nat) (v : Nat) : Kept s (State.forceWrite t q k v) := by
  unfold State.forceWrite
  try simp only []
  repeat' (first | with_reducible assumption | (with_reducible refine Kept.forRange _ _ _ ?_ ?_) | (intro _ _ _) | (with_reducible apply State.forceOne_kept) | split)

theorem State.ringcfgWrite_kept {s t : State} (h : Kept s t) (q : Requester) (v : Nat) : Kept s (State.ringcfgWrite t q v) := by
  unfold State.ringcfgWrite
  try simp only []
  repeat' (first | with_reducible assumption | (with_reducible apply State.unitFault_kept) | (with_reducible apply State.p_kept) | (with_reducible apply State.fclMark_kept) | split)

theorem State.kpadWrite_kept {s t : State} (h : Kept s t) (q : Requester) (k : Nat) (v : Nat) : Kept s (State.kpadWrite t q k v) := by
  unfold State.kpadWrite
  try simp only []
  repeat' (first | with_reducible assumption | (with_reducible apply State.unitFault_kept) | (with_reducible apply State.p_kept) | split)

theorem State.retireCopy_kept {s t : State} (h : Kept s t) (copy : Nat) : Kept s (State.retireCopy t copy) := by
  unfold State.retireCopy
  try simp only []
  repeat' (first | with_reducible assumption | (with_reducible apply State.modHist_kept) | (with_reducible apply State.raise_kept) | split | (simp only [Kept.upd_iff]))

theorem State.kettleLeave_kept {s t : State} (h : Kept s t) : Kept s (State.kettleLeave t) := by
  unfold State.kettleLeave
  try simp only []
  repeat' (first | with_reducible assumption | (with_reducible refine Kept.forRange _ _ _ ?_ ?_) | (intro _ _ _) | (with_reducible apply State.p_kept) | (with_reducible apply State.traceEv_kept) | (simp only [Kept.upd_iff]))

theorem State.kcmdWrite_kept {s t : State} (h : Kept s t) (v : Nat) : Kept s (State.kcmdWrite t v) := by
  unfold State.kcmdWrite
  try simp only []
  repeat' (first | with_reducible assumption | (with_reducible apply State.kettleLeave_kept) | (with_reducible apply State.raise_kept) | split)

theorem State.setCkuRun_kept {s t : State} (h : Kept s t) (n : Nat) (v : Nat) : Kept s (State.setCkuRun t n v) := by
  unfold State.setCkuRun
  try simp only []
  repeat' (first | with_reducible assumption | (with_reducible apply State.p_kept))

theorem State.ckuBytes_kept {s t : State} (h : Kept s t) (n : Nat) (bs : List Nat) : Kept s (State.ckuBytes t n bs) := by
  unfold State.ckuBytes
  try simp only []
  repeat' (first | with_reducible assumption | (with_reducible refine Kept.foldl _ _ ?_ ?_) | (intro _ _ _) | (with_reducible apply State.setCkuRun_kept))

theorem State.ckuStart_kept {s t : State} (h : Kept s t) (n : Nat) : Kept s (State.ckuStart t n) := by
  unfold State.ckuStart
  try simp only []
  repeat' (first | with_reducible assumption | (with_reducible apply State.setCkuRun_kept))

theorem State.ckuCtrlWrite_kept {s t : State} (h : Kept s t) (n : Nat) (v : Nat) : Kept s (State.ckuCtrlWrite t n v) := by
  unfold State.ckuCtrlWrite
  try simp only []
  repeat' (first | with_reducible assumption | (with_reducible apply State.resetBlock_kept) | (with_reducible apply State.ckuStart_kept) | split)

theorem State.ckuDin_kept {s t : State} (h : Kept s t) (q : Requester) (n : Nat) (bs : List Nat) : Kept s (State.ckuDin t q n bs) := by
  unfold State.ckuDin
  try simp only []
  repeat' (first | with_reducible assumption | (with_reducible apply State.unitFault_kept) | (with_reducible apply State.ckuBytes_kept) | split)

theorem State.ckuCfgWrite_kept {s t : State} (h : Kept s t) (q : Requester) (n : Nat) (v : Nat) : Kept s (State.ckuCfgWrite t q n v) := by
  unfold State.ckuCfgWrite
  try simp only []
  repeat' (first | with_reducible assumption | (with_reducible apply State.unitFault_kept) | (with_reducible apply State.p_kept) | split)

theorem State.ckuPairWrite_kept {s t : State} (h : Kept s t) (q : Requester) (n : Nat) (hi : FieldRef) (lo : FieldRef) (v : Nat) (judged : Bool) : Kept s (State.ckuPairWrite t q n hi lo v judged) := by
  unfold State.ckuPairWrite
  try simp only []
  repeat' (first | with_reducible assumption | (with_reducible apply State.unitFault_kept) | (with_reducible apply State.p_kept) | split)

theorem State.ckuBindWrite_kept {s t : State} (h : Kept s t) (q : Requester) (n : Nat) (v : Nat) : Kept s (State.ckuBindWrite t q n v) := by
  unfold State.ckuBindWrite
  try simp only []
  repeat' (first | with_reducible assumption | (with_reducible apply State.unitFault_kept) | (with_reducible apply State.p_kept) | split)

theorem State.obsDenied_kept {s t : State} (h : Kept s t) (q : Requester) : Kept s (State.obsDenied t q) := by
  unfold State.obsDenied
  try simp only []
  repeat' (first | with_reducible assumption | (with_reducible apply State.raise_kept))

theorem State.obsClear_kept {s t : State} (h : Kept s t) : Kept s (State.obsClear t) := by
  unfold State.obsClear
  try simp only []
  repeat' (first | with_reducible assumption | (with_reducible refine Kept.forRange _ _ _ ?_ ?_) | (intro _ _ _) | (with_reducible apply State.p_kept) | (with_reducible apply State.setObsCount_kept) | (with_reducible apply State.setWord_kept) | (simp only [Kept.upd_iff]))

theorem State.hostenWrite_kept {s t : State} (h : Kept s t) (q : Requester) (v : Nat) : Kept s (State.hostenWrite t q v) := by
  unfold State.hostenWrite
  try simp only []
  repeat' (first | with_reducible assumption | (with_reducible apply State.obsDenied_kept) | (with_reducible apply State.p_kept) | (with_reducible apply State.obsClear_kept) | split)

theorem State.bwPublish_kept {s t : State} (h : Kept s t) : Kept s (State.bwPublish t) := by
  unfold State.bwPublish
  try simp only []
  repeat' (first | with_reducible assumption | (with_reducible refine Kept.forRange _ _ _ ?_ ?_) | (intro _ _ _) | (with_reducible apply State.setWord_kept) | split | (simp only [Kept.upd_iff]))

theorem State.bwcfgWrite_kept {s t : State} (h : Kept s t) (q : Requester) (v : Nat) : Kept s (State.bwcfgWrite t q v) := by
  unfold State.bwcfgWrite
  try simp only []
  repeat' (first | with_reducible assumption | (with_reducible refine Kept.forRange _ _ _ ?_ ?_) | (intro _ _ _) | (with_reducible apply State.unitFault_kept) | (with_reducible apply State.p_kept) | (with_reducible apply State.setWord_kept) | split | (simp only [Kept.upd_iff]))

theorem State.toBuffer_kept {s t : State} (h : Kept s t) (rec : List Nat) (err : Bool) : Kept s (State.toBuffer t rec err) := by
  unfold State.toBuffer
  try simp only []
  repeat' (first | with_reducible assumption | (with_reducible apply State.traceDrop_kept) | (with_reducible apply State.p_kept) | (with_reducible apply State.raise_kept) | (with_reducible apply State.wrBytes_kept) | (with_reducible apply State.bwMem_kept) | (with_reducible apply State.setWord_kept) | split)

theorem State.emitRecord_kept {s t : State} (h : Kept s t) (rec : List Nat) (err : Bool) : Kept s (State.emitRecord t rec err) := by
  unfold State.emitRecord
  try simp only []
  repeat' (first | with_reducible assumption | (with_reducible apply State.toBuffer_kept) | split | (simp only [Kept.upd_iff]))

theorem State.markWrite_kept {s t : State} (h : Kept s t) (q : Requester) (v : Nat) : Kept s (State.markWrite t q v) := by
  unfold State.markWrite
  try simp only []
  repeat' (first | with_reducible assumption | (with_reducible apply State.traceEv_kept))

theorem State.motFault_kept {s t : State} (h : Kept s t) (n : Nat) (code : Nat) (detail : Nat) (cls : Cls) : Kept s (State.motFault t n code detail cls) := by
  unfold State.motFault
  try simp only []
  repeat' (first | with_reducible assumption | (with_reducible apply State.p_kept) | (with_reducible apply State.raise_kept) | (with_reducible apply State.setMotState_kept) | (with_reducible apply State.raiseSpoil_kept) | split)

theorem State.motRun_kept {s t : State} (h : Kept s t) (n : Nat) (dir : Bool) : Kept s (State.motRun t n dir) := by
  unfold State.motRun
  try simp only []
  repeat' (first | with_reducible assumption | (with_reducible apply State.setMotState_kept) | (with_reducible apply State.modMot_kept) | (with_reducible apply State.motFault_kept) | split | (simp only [Kept.upd_iff]))

theorem State.motSpeed_kept {s t : State} (h : Kept s t) (n : Nat) (v : Nat) : Kept s (State.motSpeed t n v) := by
  unfold State.motSpeed
  try simp only []
  repeat' (first | with_reducible assumption | (with_reducible apply State.pi_kept) | split)

theorem State.motGear_kept {s t : State} (h : Kept s t) (n : Nat) (on : Bool) : Kept s (State.motGear t n on) := by
  unfold State.motGear
  try simp only []
  repeat' (first | with_reducible assumption | (with_reducible apply State.modMot_kept) | split | (simp only [Kept.upd_iff]))

theorem State.motCoast_kept {s t : State} (h : Kept s t) (n : Nat) : Kept s (State.motCoast t n) := by
  unfold State.motCoast
  try simp only []
  repeat' (first | with_reducible assumption | (with_reducible apply State.setMotState_kept) | split)

theorem State.motVcmd_kept {s t : State} (h : Kept s t) (n : Nat) (v : Nat) : Kept s (State.motVcmd t n v) := by
  unfold State.motVcmd
  try simp only []
  repeat' (first | with_reducible assumption | (with_reducible apply State.modMot_kept) | split | (simp only [Kept.upd_iff]))

theorem State.motWord_kept {s t : State} (h : Kept s t) (n : Nat) (v : Nat) : Kept s (State.motWord t n v) := by
  unfold State.motWord
  try simp only []
  repeat' (first | with_reducible assumption | (with_reducible apply State.motRun_kept) | (with_reducible apply State.motSpeed_kept) | (with_reducible apply State.motGear_kept) | (with_reducible apply State.motCoast_kept) | (with_reducible apply State.motFault_kept) | split)

theorem State.enterRun_kept {s t : State} (h : Kept s t) (n : Nat) (vd : Int) (vq : Int) : Kept s (State.enterRun t n vd vq) := by
  unfold State.enterRun
  try simp only []
  repeat' (first | with_reducible assumption | (with_reducible apply State.setMotState_kept) | (with_reducible apply State.pi_kept) | (with_reducible apply State.p_kept))

theorem State.enterRamp_kept {s t : State} (h : Kept s t) (n : Nat) (angle : Nat) (w : Int) : Kept s (State.enterRamp t n angle w) := by
  unfold State.enterRamp
  try simp only []
  repeat' (first | with_reducible assumption | (with_reducible apply State.setMotState_kept) | (with_reducible apply State.modMot_kept) | (simp only [Kept.upd_iff]))

theorem State.quiet_kept {s t : State} (h : Kept s t) (n : Nat) (w : Int) : Kept s (State.quiet t n w) := by
  unfold State.quiet
  try simp only []
  repeat' (first | with_reducible assumption | (with_reducible apply State.inc_kept) | (with_reducible apply State.count_kept) | split)

theorem State.pwmApply_kept {s t : State} (h : Kept s t) (n : Nat) (v : Int × Int) (angle : Nat) : Kept s (State.pwmApply t n v angle) := by
  unfold State.pwmApply
  try simp only []
  repeat' (first | with_reducible assumption | (with_reducible apply State.quiet_kept) | (with_reducible apply State.modMot_kept) | (simp only [Kept.upd_iff]))

theorem State.applyV_kept {s t : State} (h : Kept s t) (n : Nat) : Kept s (State.applyV t n) := by
  unfold State.applyV
  try simp only []
  repeat' (first | with_reducible assumption | (with_reducible apply State.p_kept) | (with_reducible apply State.pwmApply_kept))

theorem State.measure_kept {s t : State} (h : Kept s t) (n : Nat) (x : MotSample) : Kept s (State.measure t n x) := by
  unfold State.measure
  try simp only []
  repeat' (first | with_reducible assumption | (with_reducible apply State.pi_kept) | (with_reducible apply State.p_kept) | (with_reducible apply State.modMot_kept) | split | (simp only [Kept.upd_iff]))

theorem State.gearStep_kept {s t : State} (h : Kept s t) (n : Nat) : Kept s (State.gearStep t n) := by
  unfold State.gearStep
  try simp only []
  repeat' (first | with_reducible assumption | (with_reducible apply State.modMot_kept) | (with_reducible apply State.pi_kept) | split | (simp only [Kept.upd_iff]))

theorem State.runChecks_kept {s t : State} (h : Kept s t) (n : Nat) : Kept s (State.runChecks t n) := by
  unfold State.runChecks
  try simp only []
  repeat' (first | with_reducible assumption | (with_reducible apply State.motFault_kept) | (with_reducible apply State.modMot_kept) | split | (simp only [Kept.upd_iff]))

theorem State.takeCmd_kept {s t : State} (h : Kept s t) (n : Nat) : Kept s (State.takeCmd t n) := by
  unfold State.takeCmd
  try simp only []
  repeat' (first | with_reducible assumption | (with_reducible apply State.pi_kept) | (with_reducible apply State.modMot_kept) | split | (simp only [Kept.upd_iff]))

theorem State.rampStep_kept {s t : State} (h : Kept s t) (n : Nat) : Kept s (State.rampStep t n) := by
  unfold State.rampStep
  try simp only []
  repeat' (first | with_reducible assumption | (with_reducible apply State.modMot_kept) | (with_reducible apply State.enterRun_kept) | (with_reducible apply State.applyV_kept) | (with_reducible apply State.pwmApply_kept) | split | (simp only [Kept.upd_iff]))

theorem State.regStep_kept {s t : State} (h : Kept s t) (n : Nat) (idRef : Nat) : Kept s (State.regStep t n idRef) := by
  unfold State.regStep
  try simp only []
  repeat' (first | with_reducible assumption | (with_reducible apply State.modMot_kept) | (simp only [Kept.upd_iff]))

theorem State.periodCopies_kept {s t : State} (h : Kept s t) (n : Nat) : Kept s (State.periodCopies t n) := by
  unfold State.periodCopies
  try simp only []
  repeat' (first | with_reducible assumption | (with_reducible apply State.doCopy_kept) | split)

theorem State.alignStart_kept {s t : State} (h : Kept s t) (n : Nat) : Kept s (State.alignStart t n) := by
  unfold State.alignStart
  try simp only []
  repeat' (first | with_reducible assumption | (with_reducible apply State.setMotState_kept) | (with_reducible apply State.modMot_kept) | (simp only [Kept.upd_iff]))

theorem State.brakeStep_kept {s t : State} (h : Kept s t) (n : Nat) (start : Bool) (measured : Bool) (x : MotSample) : Kept s (State.brakeStep t n start measured x) := by
  unfold State.brakeStep
  try simp only []
  repeat' (first | with_reducible assumption | (with_reducible apply State.alignStart_kept) | (with_reducible apply State.modMot_kept) | split | (simp only [Kept.upd_iff]))

theorem State.periodStep_kept {s t : State} (h : Kept s t) (n : Nat) (measured : Bool) (x : MotSample) : Kept s (State.periodStep t n measured x) := by
  unfold State.periodStep
  try simp only []
  repeat' (first | with_reducible assumption | (with_reducible apply State.takeCmd_kept) | (with_reducible apply State.runChecks_kept) | (with_reducible apply State.applyV_kept) | (with_reducible apply State.rampStep_kept) | (with_reducible apply State.regStep_kept) | (with_reducible apply State.pwmApply_kept) | (with_reducible apply State.brakeStep_kept) | (with_reducible apply State.modMot_kept) | split | (simp only [Kept.upd_iff]))

theorem State.catchDecide_kept {s t : State} (h : Kept s t) (n : Nat) (valid : Bool) (w : Int) (crossed : Nat) : Kept s (State.catchDecide t n valid w crossed) := by
  unfold State.catchDecide
  try simp only []
  repeat' (first | with_reducible assumption | (with_reducible apply State.p_kept) | (with_reducible apply State.alignStart_kept) | (with_reducible apply State.enterRun_kept) | (with_reducible apply State.enterRamp_kept) | (with_reducible apply State.modMot_kept) | (with_reducible apply State.setMotState_kept) | split | (simp only [Kept.upd_iff]))

theorem State.alignCheck_kept {s t : State} (h : Kept s t) (n : Nat) (moved : Int) : Kept s (State.alignCheck t n moved) := by
  unfold State.alignCheck
  try simp only []
  repeat' (first | with_reducible assumption | (with_reducible apply State.enterRun_kept) | (with_reducible apply State.p_kept) | (with_reducible apply State.motFault_kept) | (with_reducible apply State.alignStart_kept) | (with_reducible apply State.modMot_kept) | split | (simp only [Kept.upd_iff]))

theorem State.modStp_kept {s t : State} (h : Kept s t) (k : Nat) (f : Stp → Stp) : Kept s (State.modStp t k f) := by
  unfold State.modStp
  try simp only []
  repeat' (first | with_reducible assumption | (simp only [Kept.upd_iff]))

theorem State.busFault_kept {s t : State} (h : Kept s t) (k : Nat) (code : Nat) (cls : Cls) : Kept s (State.busFault t k code cls) := by
  unfold State.busFault
  try simp only []
  repeat' (first | with_reducible assumption | (with_reducible apply State.p_kept) | (with_reducible apply State.raise_kept))

theorem State.busOv1_kept {s t : State} (h : Kept s t) (k : Nat) : Kept s (State.busOv1 t k) := by
  unfold State.busOv1
  try simp only []
  repeat' (first | with_reducible assumption | (with_reducible refine Kept.foldl _ _ ?_ ?_) | (intro _ _ _) | (with_reducible apply State.setMotState_kept) | (with_reducible apply State.busFault_kept) | split)

theorem State.stpFault_kept {s t : State} (h : Kept s t) (k : Nat) (code : Nat) : Kept s (State.stpFault t k code) := by
  unfold State.stpFault
  try simp only []
  repeat' (first | with_reducible assumption | (with_reducible apply State.p_kept) | (with_reducible apply State.setStpState_kept) | (with_reducible apply State.modStp_kept) | (with_reducible apply State.raiseSpoil_kept) | (simp only [Kept.upd_iff]))

theorem State.stpCmdRefused_kept {s t : State} (h : Kept s t) (k : Nat) : Kept s (State.stpCmdRefused t k) := by
  unfold State.stpCmdRefused
  try simp only []
  repeat' (first | with_reducible assumption | (with_reducible apply State.p_kept) | (with_reducible apply State.raise_kept))

theorem State.setPos_kept {s t : State} (h : Kept s t) (k : Nat) (p : Int) : Kept s (State.setPos t k p) := by
  unfold State.setPos
  try simp only []
  repeat' (first | with_reducible assumption | (with_reducible apply State.pi_kept) | (with_reducible apply State.modStp_kept) | (with_reducible apply State.p_kept) | split | (simp only [Kept.upd_iff]))

theorem State.stand_kept {s t : State} (h : Kept s t) (k : Nat) : Kept s (State.stand t k) := by
  unfold State.stand
  try simp only []
  repeat' (first | with_reducible assumption | (with_reducible apply State.setStpState_kept) | (with_reducible apply State.p_kept) | (with_reducible apply State.modStp_kept) | (simp only [Kept.upd_iff]))

theorem State.coilsOn_kept {s t : State} (h : Kept s t) (k : Nat) : Kept s (State.coilsOn t k) := by
  unfold State.coilsOn
  try simp only []
  repeat' (first | with_reducible assumption | (with_reducible apply State.modStp_kept) | split | (simp only [Kept.upd_iff]))

theorem State.startMove_kept {s t : State} (h : Kept s t) (k : Nat) (target : Int) (d : Nat) : Kept s (State.startMove t k target d) := by
  unfold State.startMove
  try simp only []
  repeat' (first | with_reducible assumption | (with_reducible apply State.coilsOn_kept) | (with_reducible apply State.setStpState_kept) | (with_reducible apply State.modStp_kept) | split | (simp only [Kept.upd_iff]))

theorem State.stpGo_kept {s t : State} (h : Kept s t) (k : Nat) : Kept s (State.stpGo t k) := by
  unfold State.stpGo
  try simp only []
  repeat' (first | with_reducible assumption | (with_reducible apply State.stpCmdRefused_kept) | (with_reducible apply State.doCopy_kept) | (with_reducible apply State.coilsOn_kept) | (with_reducible apply State.stand_kept) | (with_reducible apply State.startMove_kept) | split)

theorem State.stpStop_kept {s t : State} (h : Kept s t) (k : Nat) (latch : Bool) : Kept s (State.stpStop t k latch) := by
  unfold State.stpStop
  try simp only []
  repeat' (first | with_reducible assumption | (with_reducible apply State.modStp_kept) | split | (simp only [Kept.upd_iff]))

theorem State.stopBit_kept {s t : State} (h : Kept s t) (k : Nat) (latch : Bool) : Kept s (State.stopBit t k latch) := by
  unfold State.stopBit
  try simp only []
  repeat' (first | with_reducible assumption | (with_reducible apply State.p_kept) | split)

theorem State.stpHalt_kept {s t : State} (h : Kept s t) (k : Nat) (latch : Bool) : Kept s (State.stpHalt t k latch) := by
  unfold State.stpHalt
  try simp only []
  repeat' (first | with_reducible assumption | (with_reducible apply State.stopBit_kept) | (with_reducible apply State.stand_kept) | split)

theorem State.stpWord_kept {s t : State} (h : Kept s t) (k : Nat) (v : Nat) : Kept s (State.stpWord t k v) := by
  unfold State.stpWord
  try simp only []
  repeat' (first | with_reducible assumption | (with_reducible apply State.stpGo_kept) | (with_reducible apply State.stpStop_kept) | (with_reducible apply State.stpHalt_kept) | (with_reducible apply State.stpCmdRefused_kept) | split)

theorem State.profileCopied_kept {s t : State} (h : Kept s t) (k : Nat) : Kept s (State.profileCopied t k) := by
  unfold State.profileCopied
  try simp only []
  repeat' (first | with_reducible assumption | (with_reducible apply State.modStp_kept) | (with_reducible apply State.p_kept) | (with_reducible apply State.raise_kept) | split | (simp only [Kept.upd_iff]))

theorem State.speedTo_kept {s t : State} (h : Kept s t) (k : Nat) (v : Nat) (st : Nat) : Kept s (State.speedTo t k v st) := by
  unfold State.speedTo
  try simp only []
  repeat' (first | with_reducible assumption | (with_reducible apply State.setStpState_kept) | (with_reducible apply State.modStp_kept) | (with_reducible apply State.pi_kept) | split | (simp only [Kept.upd_iff]))

theorem State.moveStep_kept {s t : State} (h : Kept s t) (k : Nat) : Kept s (State.moveStep t k) := by
  unfold State.moveStep
  try simp only []
  repeat' (first | with_reducible assumption | (with_reducible apply State.setPos_kept) | (with_reducible apply State.modStp_kept) | (with_reducible apply State.count_kept) | (with_reducible apply State.stopBit_kept) | (with_reducible apply State.stand_kept) | (with_reducible apply State.speedTo_kept) | split | (simp only [Kept.upd_iff]))

theorem State.posWrite_kept {s t : State} (h : Kept s t) (q : Requester) (k : Nat) (v : Nat) : Kept s (State.posWrite t q k v) := by
  unfold State.posWrite
  try simp only []
  repeat' (first | with_reducible assumption | (with_reducible apply State.accessFault_kept) | (with_reducible apply State.unitFault_kept) | (with_reducible apply State.setPos_kept) | (with_reducible apply State.setStpState_kept) | split)

theorem State.setChop_kept {s t : State} (h : Kept s t) (k : Nat) (coil : Nat) (c : Nat × Nat) : Kept s (State.setChop t k coil c) := by
  unfold State.setChop
  try simp only []
  repeat' (first | with_reducible assumption | (with_reducible apply State.modStp_kept) | split | (simp only [Kept.upd_iff]))

theorem State.motReset_kept {s t : State} (h : Kept s t) (n : Nat) : Kept s (State.motReset t n) := by
  unfold State.motReset
  try simp only []
  repeat' (first | with_reducible assumption | (with_reducible apply State.portPads_kept) | (with_reducible apply State.resetBlock_kept) | (with_reducible apply State.dropCommits_kept) | (simp only [Kept.upd_iff]))

theorem State.motCtrlWrite_kept {s t : State} (h : Kept s t) (q : Requester) (n : Nat) (v : Nat) : Kept s (State.motCtrlWrite t q n v) := by
  unfold State.motCtrlWrite
  try simp only []
  repeat' (first | with_reducible assumption | (with_reducible apply State.motReset_kept) | (with_reducible apply State.unitFault_kept) | (with_reducible apply State.setWord_kept) | (with_reducible apply State.portPads_kept) | (with_reducible apply State.adcOn_kept) | (with_reducible apply State.modMot_kept) | (with_reducible apply State.setMotState_kept) | split | (simp only [Kept.upd_iff]))

theorem State.stpReset_kept {s t : State} (h : Kept s t) (k : Nat) : Kept s (State.stpReset t k) := by
  unfold State.stpReset
  try simp only []
  repeat' (first | with_reducible assumption | (with_reducible apply State.portPads_kept) | (with_reducible apply State.resetBlock_kept) | (with_reducible apply State.dropCommits_kept) | (simp only [Kept.upd_iff]))

theorem State.stpCtrlWrite_kept {s t : State} (h : Kept s t) (q : Requester) (k : Nat) (v : Nat) : Kept s (State.stpCtrlWrite t q k v) := by
  unfold State.stpCtrlWrite
  try simp only []
  repeat' (first | with_reducible assumption | (with_reducible apply State.stpReset_kept) | (with_reducible apply State.unitFault_kept) | (with_reducible apply State.setWord_kept) | (with_reducible apply State.portPads_kept) | (with_reducible apply State.adcOn_kept) | (with_reducible apply State.setStpState_kept) | (with_reducible apply State.p_kept) | (with_reducible apply State.modStp_kept) | split | (simp only [Kept.upd_iff]))

theorem State.modHv_kept {s t : State} (h : Kept s t) (k : Nat) (f : Hv → Hv) : Kept s (State.modHv t k f) := by
  unfold State.modHv
  try simp only []
  repeat' (first | with_reducible assumption | (simp only [Kept.upd_iff]))

theorem State.hvRef_kept {s t : State} (h : Kept s t) (k : Nat) (bank : Nat) : Kept s (State.hvRef t k bank) := by
  unfold State.hvRef
  try simp only []
  repeat' (first | with_reducible assumption | (with_reducible apply State.setWord_kept) | split)

theorem State.hvOff_kept {s t : State} (h : Kept s t) (k : Nat) : Kept s (State.hvOff t k) := by
  unfold State.hvOff
  try simp only []
  repeat' (first | with_reducible assumption | (with_reducible apply State.modHv_kept) | (with_reducible apply State.setWord_kept) | (simp only [Kept.upd_iff]))

theorem State.hvFaultA_kept {s t : State} (h : Kept s t) (k : Nat) (code : Nat) : Kept s (State.hvFaultA t k code) := by
  unfold State.hvFaultA
  try simp only []
  repeat' (first | with_reducible assumption | (with_reducible apply State.p_kept) | (with_reducible apply State.raise_kept))

theorem State.hvSpoilA_kept {s t : State} (h : Kept s t) (k : Nat) (code : Nat) : Kept s (State.hvSpoilA t k code) := by
  unfold State.hvSpoilA
  try simp only []
  repeat' (first | with_reducible assumption | (with_reducible apply State.p_kept) | (with_reducible apply State.raiseSpoil_kept))

theorem State.hvFaultB_kept {s t : State} (h : Kept s t) (k : Nat) (code : Nat) : Kept s (State.hvFaultB t k code) := by
  unfold State.hvFaultB
  try simp only []
  repeat' (first | with_reducible assumption | (with_reducible apply State.p_kept) | (with_reducible apply State.hvOff_kept) | (with_reducible apply State.raiseSpoil_kept))

theorem State.hvDrive_kept {s t : State} (h : Kept s t) (k : Nat) (dc : Nat) (ac : Nat) : Kept s (State.hvDrive t k dc ac) := by
  unfold State.hvDrive
  try simp only []
  repeat' (first | with_reducible assumption | (with_reducible apply State.modHv_kept) | split | (simp only [Kept.upd_iff]))

theorem State.hvLevel_kept {s t : State} (h : Kept s t) (k : Nat) (bank : Nat) : Kept s (State.hvLevel t k bank) := by
  unfold State.hvLevel
  try simp only []
  repeat' (first | with_reducible assumption | (with_reducible apply State.p_kept) | (with_reducible apply State.hvRef_kept) | (with_reducible apply State.modHv_kept) | (with_reducible apply State.hvOff_kept) | (with_reducible apply State.hvDrive_kept) | split | (simp only [Kept.upd_iff]))

theorem State.hvWord_kept {s t : State} (h : Kept s t) (k : Nat) (v : Nat) : Kept s (State.hvWord t k v) := by
  unfold State.hvWord
  try simp only []
  repeat' (first | with_reducible assumption | (with_reducible apply State.hvLevel_kept) | (with_reducible apply State.hvDrive_kept) | (with_reducible apply State.hvFaultA_kept) | split)

theorem State.hvCarrier_kept {s t : State} (h : Kept s t) (k : Nat) : Kept s (State.hvCarrier t k) := by
  unfold State.hvCarrier
  try simp only []
  repeat' (first | with_reducible assumption | (with_reducible apply State.modHv_kept) | (with_reducible apply State.p_kept) | split | (simp only [Kept.upd_iff]))

theorem State.hvChecks_kept {s t : State} (h : Kept s t) (k : Nat) (x : HvSample) : Kept s (State.hvChecks t k x) := by
  unfold State.hvChecks
  try simp only []
  repeat' (first | with_reducible assumption | (with_reducible apply State.p_kept) | (with_reducible apply State.modHv_kept) | split | (simp only [Kept.upd_iff]))

theorem State.hvAge_kept {s t : State} (h : Kept s t) (k : Nat) : Kept s (State.hvAge t k) := by
  unfold State.hvAge
  try simp only []
  repeat' (first | with_reducible assumption | (with_reducible apply State.hvFaultB_kept) | (with_reducible apply State.modHv_kept) | split | (simp only [Kept.upd_iff]))

theorem State.later_kept {s t : State} (h : Kept s t) (src : Nat) (l : List (FieldRef × Int)) : Kept s (State.later t src l) := by
  unfold State.later
  try simp only []
  repeat' (first | with_reducible assumption | (simp only [Kept.upd_iff]))

theorem State.dropResults_kept {s t : State} (h : Kept s t) (src : Nat) : Kept s (State.dropResults t src) := by
  unfold State.dropResults
  try simp only []
  repeat' (first | with_reducible assumption | (simp only [Kept.upd_iff]))

theorem State.publish_kept {s t : State} (h : Kept s t) : Kept s (State.publish t) := by
  unfold State.publish
  try simp only []
  repeat' (first | with_reducible assumption | (with_reducible refine Kept.foldl _ _ ?_ ?_) | (intro _ _ _) | (with_reducible apply State.pi_kept) | split | (simp only [Kept.upd_iff]))

theorem State.hvResult_kept {s t : State} (h : Kept s t) (k : Nat) (x : HvSample) : Kept s (State.hvResult t k x) := by
  unfold State.hvResult
  try simp only []
  repeat' (first | with_reducible assumption | (with_reducible apply State.setActive_kept) | (with_reducible apply State.hvRef_kept) | (with_reducible apply State.later_kept) | (with_reducible apply State.hvChecks_kept) | (with_reducible apply State.hvAge_kept))

theorem State.modFus_kept {s t : State} (h : Kept s t) (f : Nat) (g : Fus → Fus) : Kept s (State.modFus t f g) := by
  unfold State.modFus
  try simp only []
  repeat' (first | with_reducible assumption | (simp only [Kept.upd_iff]))

theorem State.fusStop_kept {s t : State} (h : Kept s t) (f : Nat) : Kept s (State.fusStop t f) := by
  unfold State.fusStop
  try simp only []
  repeat' (first | with_reducible assumption | (with_reducible apply State.p_kept))

theorem State.fusApply_kept {s t : State} (h : Kept s t) (f : Nat) (d : Nat) : Kept s (State.fusApply t f d) := by
  unfold State.fusApply
  try simp only []
  repeat' (first | with_reducible assumption | (with_reducible apply State.p_kept))

theorem State.fusFault_kept {s t : State} (h : Kept s t) (f : Nat) (code : Nat) : Kept s (State.fusFault t f code) := by
  unfold State.fusFault
  try simp only []
  repeat' (first | with_reducible assumption | (with_reducible apply State.fusStop_kept) | (with_reducible apply State.p_kept) | (with_reducible apply State.raiseSpoil_kept) | split)

theorem State.fusWord_kept {s t : State} (h : Kept s t) (f : Nat) (v : Nat) : Kept s (State.fusWord t f v) := by
  unfold State.fusWord
  try simp only []
  repeat' (first | with_reducible assumption | (with_reducible apply State.modFus_kept) | (with_reducible apply State.p_kept) | (with_reducible apply State.fusApply_kept) | (with_reducible apply State.fusStop_kept) | split | (simp only [Kept.upd_iff]))

theorem State.setFloor_kept {s t : State} (h : Kept s t) (f : Nat) (x : Nat) : Kept s (State.setFloor t f x) := by
  unfold State.setFloor
  try simp only []
  repeat' (first | with_reducible assumption | (with_reducible apply State.modFus_kept) | (with_reducible apply State.p_kept) | split | (simp only [Kept.upd_iff]))

theorem State.fusBand_kept {s t : State} (h : Kept s t) (f : Nat) (ctr : Int) : Kept s (State.fusBand t f ctr) := by
  unfold State.fusBand
  try simp only []
  repeat' (first | with_reducible assumption | (with_reducible apply State.p_kept) | (with_reducible apply State.modFus_kept) | split | (simp only [Kept.upd_iff]))

theorem State.fusResult_kept {s t : State} (h : Kept s t) (f : Nat) (x : FusSample) : Kept s (t.fusResult f x) := by
  unfold State.fusResult
  extract_lets one ok val s1 c s2 s3 live hot
  have h1 : Kept s s2 := State.modFus_kept (State.later_kept h _ _) _ _
  have h3 : Kept s s3 := by
    simp only [s3]
    generalize c = c'
    cases c'
    · exact h1
    · exact State.fusBand_kept (State.later_kept h1 _ _) _ _
  split
  · exact State.fusFault_kept h3 _ _
  · split
    · exact State.fusFault_kept h3 _ _
    · exact h3

theorem State.gateKettle_kept {s t : State} (h : Kept s t) (f : FieldRef) : Kept s (State.gateKettle t f) := by
  unfold State.gateKettle
  try simp only []
  repeat' (first | with_reducible assumption | (with_reducible apply State.p_kept) | split)

theorem State.hvReset_kept {s t : State} (h : Kept s t) (k : Nat) : Kept s (State.hvReset t k) := by
  unfold State.hvReset
  try simp only []
  repeat' (first | with_reducible assumption | (with_reducible apply State.portPads_kept) | (with_reducible apply State.resetBlock_kept) | (with_reducible apply State.gateKettle_kept) | (with_reducible apply State.dropResults_kept) | (simp only [Kept.upd_iff]))

theorem State.hvCtrlWrite_kept {s t : State} (h : Kept s t) (q : Requester) (k : Nat) (v : Nat) : Kept s (State.hvCtrlWrite t q k v) := by
  unfold State.hvCtrlWrite
  try simp only []
  repeat' (first | with_reducible assumption | (with_reducible apply State.hvReset_kept) | (with_reducible apply State.unitFault_kept) | (with_reducible apply State.setWord_kept) | (with_reducible apply State.portPads_kept) | (with_reducible apply State.adcOn_kept) | (with_reducible apply State.p_kept) | (with_reducible apply State.modHv_kept) | (with_reducible apply State.hvRef_kept) | (with_reducible apply State.hvOff_kept) | (with_reducible apply State.dropResults_kept) | split | (simp only [Kept.upd_iff]))

theorem State.clearFusbrk_kept {s t : State} (h : Kept s t) (f : Nat) : Kept s (State.clearFusbrk t f) := by
  unfold State.clearFusbrk
  try simp only []
  repeat' (first | with_reducible assumption | (with_reducible apply State.p_kept))

theorem State.fusReset_kept {s t : State} (h : Kept s t) (f : Nat) : Kept s (State.fusReset t f) := by
  unfold State.fusReset
  try simp only []
  repeat' (first | with_reducible assumption | (with_reducible apply State.portPads_kept) | (with_reducible apply State.resetBlock_kept) | (with_reducible apply State.gateKettle_kept) | (with_reducible apply State.clearFusbrk_kept) | (with_reducible apply State.dropResults_kept) | (simp only [Kept.upd_iff]))

theorem State.fusCtrlWrite_kept {s t : State} (h : Kept s t) (q : Requester) (f : Nat) (v : Nat) : Kept s (State.fusCtrlWrite t q f v) := by
  unfold State.fusCtrlWrite
  try simp only []
  repeat' (first | with_reducible assumption | (with_reducible apply State.fusReset_kept) | (with_reducible apply State.unitFault_kept) | (with_reducible apply State.setWord_kept) | (with_reducible apply State.portPads_kept) | (with_reducible apply State.adcOn_kept) | (with_reducible apply State.p_kept) | (with_reducible apply State.modFus_kept) | (with_reducible apply State.fusStop_kept) | (with_reducible apply State.clearFusbrk_kept) | (with_reducible apply State.dropResults_kept) | split | (simp only [Kept.upd_iff]))

theorem State.lceReset_kept {s t : State} (h : Kept s t) : Kept s (State.lceReset t) := by
  unfold State.lceReset
  try simp only []
  repeat' (first | with_reducible assumption | (with_reducible apply State.resetBlock_kept))

theorem State.thmFault_kept {s t : State} (h : Kept s t) (code : Nat) (detail : Nat) (cls : Cls) : Kept s (State.thmFault t code detail cls) := by
  unfold State.thmFault
  try simp only []
  repeat' (first | with_reducible assumption | (with_reducible apply State.raise_kept))

theorem State.modThm_kept {s t : State} (h : Kept s t) (f : Thm → Thm) : Kept s (State.modThm t f) := by
  unfold State.modThm
  try simp only []
  repeat' (first | with_reducible assumption | (simp only [Kept.upd_iff]))

theorem State.declareBroken_kept {s t : State} (h : Kept s t) (k : Nat) : Kept s (State.declareBroken t k) := by
  unfold State.declareBroken
  try simp only []
  repeat' (first | with_reducible assumption | (with_reducible apply State.p_kept) | (with_reducible apply State.modThm_kept) | (with_reducible apply State.thmFault_kept) | split | (simp only [Kept.upd_iff]))

theorem State.sensorStep_kept {s t : State} (h : Kept s t) (xs : Nat → Int) (broken : Nat) (hot : Int) (k : Nat) : Kept s (State.sensorStep t xs broken hot k) := by
  unfold State.sensorStep
  try simp only []
  repeat' (first | with_reducible assumption | (with_reducible apply State.pi_kept) | (with_reducible apply State.modThm_kept) | (with_reducible apply State.declareBroken_kept) | split | (simp only [Kept.upd_iff]))

theorem State.sensorSteps_kept {s t : State} (h : Kept s t) (v : Vector Int 32) : Kept s (State.sensorSteps t v) := by
  unfold State.sensorSteps
  try simp only []
  repeat' (first | with_reducible assumption | (with_reducible refine Kept.forRange _ _ _ ?_ ?_) | (intro _ _ _) | (with_reducible apply State.sensorStep_kept))

theorem State.critLevel_kept {s t : State} (h : Kept s t) : Kept s (State.critLevel t) := by
  unfold State.critLevel
  try simp only []
  repeat' (first | with_reducible assumption | (with_reducible apply State.p_kept))

theorem State.thmShut_kept {s t : State} (h : Kept s t) : Kept s (State.thmShut t) := by
  unfold State.thmShut
  try simp only []
  repeat' (first | with_reducible assumption | (with_reducible apply State.inc_kept) | (with_reducible apply State.modThm_kept) | (with_reducible apply State.p_kept) | (with_reducible apply State.thmFault_kept) | split | (simp only [Kept.upd_iff]))

theorem State.dieLevels_kept {s t : State} (h : Kept s t) : Kept s (State.dieLevels t) := by
  unfold State.dieLevels
  try simp only []
  repeat' (first | with_reducible assumption | (with_reducible apply State.p_kept) | (with_reducible apply State.pi_kept) | (with_reducible apply State.modThm_kept) | (with_reducible apply State.critLevel_kept) | (with_reducible apply State.thmFault_kept) | (with_reducible apply State.thmShut_kept) | split | (simp only [Kept.upd_iff]))

theorem State.coreReset_kept {s t : State} (h : Kept s t) (i : Nat) : Kept s (State.coreReset t i) := by
  unfold State.coreReset
  try simp only []
  repeat' (first | with_reducible assumption | (with_reducible apply State.modCore_kept) | (with_reducible apply State.p_kept) | (simp only [Kept.upd_iff]))

theorem State.setTxFlag_kept {s t : State} (h : Kept s t) (k : Nat) (i : Nat) (b : Bool) : Kept s (State.setTxFlag t k i b) := by
  unfold State.setTxFlag
  try simp only []
  repeat' (first | with_reducible assumption | (with_reducible apply State.setWord_kept))

theorem State.txLaser_kept {s t : State} (h : Kept s t) (k : Nat) (crit : Bool) : Kept s (State.txLaser t k crit) := by
  unfold State.txLaser
  try simp only []
  repeat' (first | with_reducible assumption | (with_reducible refine Kept.forRange _ _ _ ?_ ?_) | (intro _ _ _) | (with_reducible apply State.ldTherm_kept) | (with_reducible apply State.modStr_kept) | split | (simp only [Kept.upd_iff]))

theorem State.txStep_kept {s t : State} (h : Kept s t) (k : Nat) (raw : Nat) : Kept s (State.txStep t k raw) := by
  unfold State.txStep
  try simp only []
  repeat' (first | with_reducible assumption | (with_reducible apply State.pi_kept) | (with_reducible apply State.setTxFlag_kept) | (with_reducible apply State.thmFault_kept) | (with_reducible apply State.txLaser_kept) | split)

theorem State.pairWatch_kept {s t : State} (h : Kept s t) : Kept s (State.pairWatch t) := by
  unfold State.pairWatch
  try simp only []
  repeat' (first | with_reducible assumption | (with_reducible refine Kept.forRange _ _ _ ?_ ?_) | (intro _ _ _) | (with_reducible apply State.modThm_kept) | (simp only [Kept.upd_iff]))

theorem State.txlimWrite_kept {s t : State} (h : Kept s t) (k : Nat) (v : Nat) : Kept s (State.txlimWrite t k v) := by
  unfold State.txlimWrite
  try simp only []
  repeat' (first | with_reducible assumption | (with_reducible apply State.setWord_kept) | (with_reducible apply State.setTxFlag_kept) | (with_reducible apply State.critLevel_kept) | split)

theorem State.modPsq_kept {s t : State} (h : Kept s t) (f : Psq → Psq) : Kept s (State.modPsq t f) := by
  unfold State.modPsq
  try simp only []
  repeat' (first | with_reducible assumption | (simp only [Kept.upd_iff]))

theorem State.setPsq_kept {s t : State} (h : Kept s t) (st : Nat) : Kept s (State.setPsq t st) := by
  unfold State.setPsq
  try simp only []
  repeat' (first | with_reducible assumption | (with_reducible apply State.p_kept))

theorem State.psqFault_kept {s t : State} (h : Kept s t) (code : Nat) (rail : Nat) (cls : Cls) : Kept s (State.psqFault t code rail cls) := by
  unfold State.psqFault
  try simp only []
  repeat' (first | with_reducible assumption | (with_reducible apply State.raise_kept))

theorem State.psqFaultFree_kept {s t : State} (h : Kept s t) (code : Nat) (cls : Cls) : Kept s (State.psqFaultFree t code cls) := by
  unfold State.psqFaultFree
  try simp only []
  repeat' (first | with_reducible assumption | (with_reducible apply State.draw_kept) | (with_reducible apply State.psqFault_kept))

theorem State.setMargin_kept {s t : State} (h : Kept s t) (r : Nat) (dir : Bool) (path : Bool) (pct : Nat) : Kept s (State.setMargin t r dir path pct) := by
  unfold State.setMargin
  try simp only []
  repeat' (first | with_reducible assumption | (with_reducible apply State.setWord_kept) | split)

theorem State.railEnable_kept {s t : State} (h : Kept s t) (r : Nat) : Kept s (State.railEnable t r) := by
  unfold State.railEnable
  try simp only []
  repeat' (first | with_reducible assumption | (with_reducible apply State.p_kept) | (with_reducible apply State.modPsq_kept) | split | (simp only [Kept.upd_iff]))

theorem State.railRelease_kept {s t : State} (h : Kept s t) (r : Nat) : Kept s (State.railRelease t r) := by
  unfold State.railRelease
  try simp only []
  repeat' (first | with_reducible assumption | (with_reducible apply State.p_kept) | (with_reducible apply State.setMargin_kept) | (with_reducible apply State.modPsq_kept) | split | (simp only [Kept.upd_iff]))

theorem State.railsRelease_kept {s t : State} (h : Kept s t) : Kept s (State.railsRelease t) := by
  unfold State.railsRelease
  try simp only []
  repeat' (first | with_reducible assumption | (with_reducible refine Kept.foldl _ _ ?_ ?_) | (intro _ _ _) | (with_reducible apply State.railRelease_kept))

theorem State.psqStart_kept {s t : State} (h : Kept s t) (prog : Nat) (entry : Nat) : Kept s (State.psqStart t prog entry) := by
  unfold State.psqStart
  try simp only []
  repeat' (first | with_reducible assumption | (with_reducible apply State.setPsq_kept) | (with_reducible apply State.p_kept) | (with_reducible apply State.modPsq_kept) | (simp only [Kept.upd_iff]))

theorem State.psqUpAfter_kept {s t : State} (h : Kept s t) (prog : Nat) : Kept s (State.psqUpAfter t prog) := by
  unfold State.psqUpAfter
  try simp only []
  repeat' (first | with_reducible assumption | (with_reducible apply State.psqStart_kept) | (with_reducible apply State.setPsq_kept) | (with_reducible apply State.modPsq_kept) | split | (simp only [Kept.upd_iff]))

theorem State.psqHalt_kept {s t : State} (h : Kept s t) : Kept s (State.psqHalt t) := by
  unfold State.psqHalt
  try simp only []
  repeat' (first | with_reducible assumption | (with_reducible apply State.p_kept) | (with_reducible apply State.modPsq_kept) | (with_reducible apply State.psqUpAfter_kept) | (with_reducible apply State.synsOff_kept) | (with_reducible apply State.setPsq_kept) | (with_reducible apply Kept.memFilter) | split | (simp only [Kept.upd_iff]))

theorem State.psqBad_kept {s t : State} (h : Kept s t) : Kept s (State.psqBad t) := by
  unfold State.psqBad
  try simp only []
  repeat' (first | with_reducible assumption | (with_reducible apply State.psqHalt_kept) | (with_reducible apply State.psqFaultFree_kept))

theorem State.psqGoto_kept {s t : State} (h : Kept s t) (target : Nat) (counts : Bool) : Kept s (State.psqGoto t target counts) := by
  unfold State.psqGoto
  try simp only []
  repeat' (first | with_reducible assumption | (with_reducible apply State.p_kept) | (with_reducible apply State.modPsq_kept) | (with_reducible apply State.psqBad_kept) | (with_reducible apply State.psqStart_kept) | split | (simp only [Kept.upd_iff]))

theorem State.psqNext_kept {s t : State} (h : Kept s t) (counts : Bool) : Kept s (State.psqNext t counts) := by
  unfold State.psqNext
  try simp only []
  repeat' (first | with_reducible assumption | (with_reducible apply State.psqGoto_kept))

theorem State.railFail_kept {s t : State} (h : Kept s t) (cause : Nat) (rail : Nat) : Kept s (State.railFail t cause rail) := by
  unfold State.railFail
  try simp only []
  repeat' (first | with_reducible assumption | (with_reducible apply State.p_kept) | (with_reducible apply State.setPsq_kept) | (with_reducible apply State.modPsq_kept) | (with_reducible apply State.psqFault_kept) | split | (simp only [Kept.upd_iff]))

theorem State.syncFail_kept {s t : State} (h : Kept s t) (code : Nat) (cause : Nat) : Kept s (State.syncFail t code cause) := by
  unfold State.syncFail
  try simp only []
  repeat' (first | with_reducible assumption | (with_reducible apply State.psqFaultFree_kept) | (with_reducible apply State.draw_kept) | (with_reducible apply State.railFail_kept))

theorem State.psqStep_kept {s t : State} (h : Kept s t) (type : Nat) (f : Nat → State → State)
    (hf : ∀ w a, Kept s a → Kept s (f w a)) : Kept s (t.psqStep type f) := by
  unfold State.psqStep
  simp only []
  split
  · split
    · exact State.psqBad_kept (State.traceEv_kept (State.modPsq_kept h _) _ _ _ _)
    · exact hf _ _ (State.traceEv_kept (State.modPsq_kept h _) _ _ _ _)
  · exact h

theorem State.pmbus_kept {s t : State} (h : Kept s t) (ack : Bool) (rail : Nat) : Kept s (State.pmbus t ack rail) := by
  unfold State.pmbus
  try simp only []
  repeat' (first | with_reducible assumption | (with_reducible apply State.psqFault_kept) | split)

theorem State.marginSet_kept {s t : State} (h : Kept s t) (rail : Nat) (path : Bool) (dir : Bool) (pct : Nat) (linear : Bool) (ack : Bool) : Kept s (State.marginSet t rail path dir pct linear ack) := by
  unfold State.marginSet
  try simp only []
  repeat' (first | with_reducible assumption | (with_reducible apply State.psqFault_kept) | (with_reducible apply State.setMargin_kept) | split)

theorem State.releaseLast_kept {s t : State} (h : Kept s t) : Kept s (State.releaseLast t) := by
  unfold State.releaseLast
  try simp only []
  repeat' (first | with_reducible assumption | (with_reducible apply State.railRelease_kept) | (with_reducible apply State.modPsq_kept) | (with_reducible apply State.setPsq_kept) | split | (simp only [Kept.upd_iff]))

theorem State.psqWake_kept {s t : State} (h : Kept s t) (source : Nat) : Kept s (State.psqWake t source) := by
  unfold State.psqWake
  try simp only []
  repeat' (first | with_reducible assumption | (with_reducible apply State.p_kept) | (with_reducible apply State.modPsq_kept) | (with_reducible apply State.psqUpAfter_kept) | (simp only [Kept.upd_iff]))

theorem State.psqRequest_kept {s t : State} (h : Kept s t) (act : Nat) : Kept s (State.psqRequest t act) := by
  unfold State.psqRequest
  try simp only []
  repeat' (first | with_reducible assumption | (with_reducible apply State.psqFaultFree_kept) | (with_reducible apply State.p_kept) | (with_reducible apply State.psqUpAfter_kept) | (with_reducible apply State.modPsq_kept) | (with_reducible apply State.psqStart_kept) | split | (simp only [Kept.upd_iff]))

theorem State.psqIdle_kept {s t : State} (h : Kept s t) : Kept s (State.psqIdle t) := by
  unfold State.psqIdle
  try simp only []
  repeat' (first | with_reducible assumption | (with_reducible apply State.psqFaultFree_kept) | (with_reducible apply State.modPsq_kept) | (with_reducible apply State.setActive_kept) | (with_reducible apply State.p_kept) | split | (simp only [Kept.upd_iff]))

theorem State.psqRun_kept {s t : State} (h : Kept s t) : Kept s (State.psqRun t) := by
  unfold State.psqRun
  try simp only []
  repeat' (first | with_reducible assumption | (with_reducible apply State.setActive_kept) | (with_reducible apply State.p_kept) | split | (simp only [Kept.upd_iff]))

theorem State.psqSleep_kept {s t : State} (h : Kept s t) (kind : Nat) : Kept s (t.psqSleep kind) := by
  unfold State.psqSleep
  split
  · exact State.psqFaultFree_kept h _ _
  · extract_lets src s1 s2
    have h1 : Kept s s1 := Kept.upd_iff.2 (State.flushStart_kept h)
    clear_value s1
    have h2 : Kept s s2 := ⟨h1.pending, fun x => Cells.wf_filter 0 _ _ (h1.mem x), h1.fram, h1.host⟩
    clear_value s2
    refine State.modPsq_kept ?_ _
    exact State.psqStart_kept h2 _ _

theorem State.psqCmd_kept {s t : State} (h : Kept s t) (q : Requester) (v : Nat) (linear : Bool) (ack : Bool) : Kept s (State.psqCmd t q v linear ack) := by
  unfold State.psqCmd
  try simp only []
  repeat' (first | with_reducible assumption | (with_reducible apply State.psqFaultFree_kept) | (with_reducible apply State.psqRequest_kept) | (with_reducible apply State.psqStart_kept) | (with_reducible apply State.setPsq_kept) | (with_reducible apply State.modPsq_kept) | (with_reducible apply State.psqIdle_kept) | (with_reducible apply State.psqRun_kept) | (with_reducible apply State.psqSleep_kept) | (with_reducible apply State.unitFault_kept) | (with_reducible apply State.marginSet_kept) | split | (simp only [Kept.upd_iff]))

theorem State.psqAct_kept {s t : State} (h : Kept s t) (q : Requester) (act : Nat) (v : Nat) (linear : Bool) (ack : Bool) : Kept s (State.psqAct t q act v linear ack) := by
  unfold State.psqAct
  try simp only []
  repeat' (first | with_reducible assumption | (with_reducible apply State.psqCmd_kept))

theorem State.slaveWord_kept {s t : State} (h : Kept s t) (k : Nat) (w : Option Nat) : Kept s (State.slaveWord t k w) := by
  unfold State.slaveWord
  try simp only []
  repeat' (first | with_reducible assumption | (with_reducible apply State.psqFaultFree_kept) | (with_reducible apply State.modPsq_kept) | (with_reducible apply State.syncFail_kept) | split | (simp only [Kept.upd_iff]))

theorem State.setWords_kept (r : Reg) (l : List Nat) : ∀ {s t : State} (_ : Kept s t) (k : Nat), Kept s (t.setWords r k l) := by
  induction l with
  | nil => intro s t h k; exact h
  | cons w l ih => intro s t h k; exact ih (State.setWord_kept h _ _ _ _) _

theorem State.psqLoad_kept {s t : State} (h : Kept s t) (img : List Nat) : Kept s (State.psqLoad t img) := by
  unfold State.psqLoad
  try simp only []
  repeat' (first | with_reducible assumption | (with_reducible apply State.setWords_kept) | (with_reducible apply State.setWord_kept) | split)

theorem State.otpFault_kept {s t : State} (h : Kept s t) (code : Nat) (detail : Nat) : Kept s (State.otpFault t code detail) := by
  unfold State.otpFault
  try simp only []
  repeat' (first | with_reducible assumption | (with_reducible apply State.raise_kept))

theorem State.modOtp_kept {s t : State} (h : Kept s t) (f : Otp → Otp) : Kept s (State.modOtp t f) := by
  unfold State.modOtp
  try simp only []
  repeat' (first | with_reducible assumption | (simp only [Kept.upd_iff]))

theorem State.setFuse_kept {s t : State} (h : Kept s t) (a : Nat) (v : Nat) : Kept s (State.setFuse t a v) := by
  unfold State.setFuse
  try simp only []
  repeat' (first | with_reducible assumption | (with_reducible apply State.modOtp_kept) | (simp only [Kept.upd_iff]))

theorem State.otpRefresh_kept {s t : State} (h : Kept s t) (a : Nat) : Kept s (State.otpRefresh t a) := by
  unfold State.otpRefresh
  try simp only []
  repeat' (first | with_reducible assumption | (with_reducible apply State.modOtp_kept) | split | (simp only [Kept.upd_iff]))

theorem State.mlist_kept {s t : State} (h : Kept s t) (a : Nat) : Kept s (State.mlist t a) := by
  unfold State.mlist
  try simp only []
  repeat' (first | with_reducible assumption | (with_reducible apply State.modOtp_kept) | (with_reducible apply State.p_kept) | split | (simp only [Kept.upd_iff]))

theorem State.otpMarginal_kept {s t : State} (h : Kept s t) (x : Nat × Nat) : Kept s (State.otpMarginal t x) := by
  unfold State.otpMarginal
  try simp only []
  repeat' (first | with_reducible assumption | (with_reducible apply State.modOtp_kept) | (with_reducible apply State.mlist_kept) | (with_reducible apply State.inc_kept) | (with_reducible apply State.otpFault_kept) | (simp only [Kept.upd_iff]))

theorem State.otpBad_kept {s t : State} (h : Kept s t) (a : Nat) : Kept s (State.otpBad t a) := by
  unfold State.otpBad
  try simp only []
  repeat' (first | with_reducible assumption | (with_reducible apply State.modOtp_kept) | (with_reducible apply State.otpFault_kept) | (simp only [Kept.upd_iff]))

theorem State.otpCheck_kept {s t : State} (h : Kept s t) (region : Nat) : Kept s (State.otpCheck t region) := by
  unfold State.otpCheck
  try simp only []
  repeat' (first | with_reducible assumption | (with_reducible apply State.p_kept) | (with_reducible apply State.otpFault_kept) | split)

theorem State.otpReadAll_kept {s t : State} (h : Kept s t) (marg : List (Nat × Nat)) (corr : Nat) (bad : List Nat) : Kept s (State.otpReadAll t marg corr bad) := by
  unfold State.otpReadAll
  try simp only []
  repeat' (first | with_reducible assumption | (with_reducible refine Kept.foldl _ _ ?_ ?_) | (with_reducible refine Kept.forRange _ _ _ ?_ ?_) | (intro _ _ _) | (with_reducible apply State.modOtp_kept) | (with_reducible apply State.inc_kept) | (with_reducible apply State.otpMarginal_kept) | (with_reducible apply State.otpBad_kept) | (with_reducible apply State.otpCheck_kept) | (with_reducible apply State.pi_kept) | (simp only [Kept.upd_iff]))

theorem State.setWires_kept {s t : State} (h : Kept s t) : Kept s (State.setWires t) := by
  unfold State.setWires
  try simp only []
  repeat' (first | with_reducible assumption | (with_reducible refine Kept.foldl _ _ ?_ ?_) | (intro _ _ _) | (with_reducible apply State.setWord_kept) | (with_reducible apply State.p_kept) | split | (simp only [Kept.upd_iff]))

theorem State.otpDeliver_kept {s t : State} (h : Kept s t) : Kept s (State.otpDeliver t) := by
  unfold State.otpDeliver
  try simp only []
  repeat' (first | with_reducible assumption | (with_reducible refine Kept.foldl _ _ ?_ ?_) | (intro _ _ _) | (with_reducible apply State.otpFault_kept) | (with_reducible apply State.setWires_kept))

theorem State.psqBoot_kept {s t : State} (h : Kept s t) : Kept s (State.psqBoot t) := by
  unfold State.psqBoot
  try simp only []
  repeat' (first | with_reducible assumption | (with_reducible apply State.psqLoad_kept) | (with_reducible apply State.otpFault_kept) | split)

theorem State.otpDrift_kept {s t : State} (h : Kept s t) (a : Nat) : Kept s (State.otpDrift t a) := by
  unfold State.otpDrift
  try simp only []
  repeat' (first | with_reducible assumption | (with_reducible apply State.p_kept) | (with_reducible apply State.mlist_kept) | (with_reducible apply State.otpFault_kept) | split)

theorem State.setVotp_kept {s t : State} (h : Kept s t) (mv : Nat) : Kept s (State.setVotp t mv) := by
  unfold State.setVotp
  try simp only []
  repeat' (first | with_reducible assumption | (with_reducible apply State.p_kept))

theorem State.otpRefuse_kept {s t : State} (h : Kept s t) (code : Nat) (detail : Nat) (addr : Nat) : Kept s (State.otpRefuse t code detail addr) := by
  unfold State.otpRefuse
  try simp only []
  repeat' (first | with_reducible assumption | (with_reducible apply State.p_kept) | (with_reducible apply State.otpFault_kept))

theorem State.otpBurn_kept {s t : State} (h : Kept s t) (b : Burn) : Kept s (State.otpBurn t b) := by
  unfold State.otpBurn
  try simp only []
  repeat' (first | with_reducible assumption | (with_reducible apply State.p_kept) | (with_reducible apply State.modOtp_kept) | (simp only [Kept.upd_iff]))

theorem State.otpProgram_kept {s t : State} (h : Kept s t) : Kept s (State.otpProgram t) := by
  unfold State.otpProgram
  try simp only []
  repeat' (first | with_reducible assumption | (with_reducible apply State.otpRefuse_kept) | (with_reducible apply State.otpBurn_kept) | split | (simp only [Kept.upd_iff]))

theorem State.otpLock_kept {s t : State} (h : Kept s t) (region : Nat) : Kept s (State.otpLock t region) := by
  unfold State.otpLock
  try simp only []
  repeat' (first | with_reducible assumption | (with_reducible apply State.otpRefuse_kept) | (with_reducible apply State.otpBurn_kept) | split | (simp only [Kept.upd_iff]))

theorem State.otpRepair_kept {s t : State} (h : Kept s t) : Kept s (State.otpRepair t) := by
  unfold State.otpRepair
  try simp only []
  repeat' (first | with_reducible assumption | (with_reducible apply State.otpRefuse_kept) | (with_reducible apply State.otpBurn_kept) | split | (simp only [Kept.upd_iff]))

theorem State.pcmdWrite_kept {s t : State} (h : Kept s t) (q : Requester) (v : Nat) : Kept s (State.pcmdWrite t q v) := by
  unfold State.pcmdWrite
  try simp only []
  repeat' (first | with_reducible assumption | (with_reducible apply State.unitFault_kept) | (with_reducible apply State.setWord_kept) | (with_reducible apply State.otpProgram_kept) | (with_reducible apply State.otpLock_kept) | (with_reducible apply State.otpRepair_kept) | split)

theorem State.burnWord_kept {s t : State} (h : Kept s t) (a : Nat) (v : Nat) : Kept s (State.burnWord t a v) := by
  unfold State.burnWord
  try simp only []
  repeat' (first | with_reducible assumption | (with_reducible apply State.setFuse_kept) | split)

theorem State.burnPart_kept {s t : State} (h : Kept s t) (a : Nat) (v : Nat) : Kept s (State.burnPart t a v) := by
  unfold State.burnPart
  try simp only []
  repeat' (first | with_reducible assumption | (with_reducible apply State.draw_kept) | (with_reducible apply State.burnWord_kept))

theorem State.burnFail_kept {s t : State} (h : Kept s t) (b : Burn) (code : Nat) (detail : Nat) (a : Nat) : Kept s (State.burnFail t b code detail a) := by
  unfold State.burnFail
  try simp only []
  repeat' (first | with_reducible assumption | (with_reducible apply State.p_kept) | (with_reducible apply State.modOtp_kept) | (with_reducible apply State.otpRefuse_kept) | split | (simp only [Kept.upd_iff]))

theorem State.lcRefuse_kept {s t : State} (h : Kept s t) (code : Nat) : Kept s (State.lcRefuse t code) := by
  unfold State.lcRefuse
  try simp only []
  repeat' (first | with_reducible assumption | (with_reducible apply State.p_kept) | (with_reducible apply State.raise_kept))

theorem State.lcBurn_kept {s t : State} (h : Kept s t) (action : Nat) (ws : List (Nat × Nat)) : Kept s (State.lcBurn t action ws) := by
  unfold State.lcBurn
  try simp only []
  repeat' (first | with_reducible assumption | (with_reducible apply State.p_kept) | (with_reducible apply State.otpBurn_kept) | (simp only [Kept.upd_iff]))

theorem State.lcToken_kept {s t : State} (h : Kept s t) : Kept s (State.lcToken t) := by
  unfold State.lcToken
  try simp only []
  repeat' (first | with_reducible assumption | (with_reducible apply State.p_kept) | (with_reducible apply State.lcRefuse_kept) | (with_reducible apply State.lcBurn_kept) | (with_reducible apply State.jrnSeal_kept) | split)

theorem State.lcBurnIf_kept {s t : State} (h : Kept s t) (action : Nat) (state : Nat) (cond : Bool) (ws : List (Nat × Nat)) : Kept s (State.lcBurnIf t action state cond ws) := by
  unfold State.lcBurnIf
  try simp only []
  repeat' (first | with_reducible assumption | (with_reducible apply State.lcRefuse_kept) | (with_reducible apply State.lcBurn_kept) | split)

theorem State.lcNonce_kept {s t : State} (h : Kept s t) : Kept s (State.lcNonce t) := by
  unfold State.lcNonce
  try simp only []
  repeat' (first | with_reducible assumption | (with_reducible refine Kept.forRange _ _ _ ?_ ?_) | (intro _ _ _) | (with_reducible apply State.draw_kept) | (with_reducible apply State.p_kept))

theorem State.lccmdWrite_kept {s t : State} (h : Kept s t) (q : Requester) (v : Nat) : Kept s (State.lccmdWrite t q v) := by
  unfold State.lccmdWrite
  try simp only []
  repeat' (first | with_reducible assumption | (with_reducible apply State.unitFault_kept) | (with_reducible apply State.setWord_kept) | (with_reducible apply State.lcNonce_kept) | (with_reducible apply State.lcBurnIf_kept) | (with_reducible apply State.lcToken_kept) | split)

theorem State.lcAct_kept {s t : State} (h : Kept s t) (q : Requester) (key : Nat) (action : Nat) (votp : Nat) : Kept s (State.lcAct t q key action votp) := by
  unfold State.lcAct
  try simp only []
  repeat' (first | with_reducible assumption | (with_reducible apply State.setVotp_kept) | (with_reducible apply State.lccmdWrite_kept))

theorem State.modHyw_kept {s t : State} (h : Kept s t) (n : Nat) (f : Hyw → Hyw) : Kept s (State.modHyw t n f) := by
  unfold State.modHyw
  try simp only []
  repeat' (first | with_reducible assumption | (simp only [Kept.upd_iff]))

theorem State.setHyw_kept {s t : State} (h : Kept s t) (n : Nat) (st : Nat) : Kept s (State.setHyw t n st) := by
  unfold State.setHyw
  try simp only []
  repeat' (first | with_reducible assumption | (with_reducible apply State.p_kept) | (with_reducible apply State.traceEv_kept) | (with_reducible apply State.modHyw_kept) | split | (simp only [Kept.upd_iff]))

theorem State.hywSpoil_kept {s t : State} (h : Kept s t) (n : Nat) (code : Nat) (detail : Nat) : Kept s (State.hywSpoil t n code detail) := by
  unfold State.hywSpoil
  try simp only []
  repeat' (first | with_reducible assumption | (with_reducible apply State.p_kept) | (with_reducible apply State.raiseSpoil_kept))

theorem State.hywFault_kept {s t : State} (h : Kept s t) (n : Nat) (code : Nat) : Kept s (State.hywFault t n code) := by
  unfold State.hywFault
  try simp only []
  repeat' (first | with_reducible assumption | (with_reducible apply State.p_kept) | (with_reducible apply State.raise_kept))

theorem State.hywReject_kept {s t : State} (h : Kept s t) (n : Nat) (code : Nat) (detail : Nat) : Kept s (State.hywReject t n code detail) := by
  unfold State.hywReject
  try simp only []
  repeat' (first | with_reducible assumption | (with_reducible apply State.setHyw_kept) | (with_reducible apply State.modHyw_kept) | (with_reducible apply State.hywSpoil_kept) | (simp only [Kept.upd_iff]))

theorem State.hywGone_kept {s t : State} (h : Kept s t) (n : Nat) : Kept s (State.hywGone t n) := by
  unfold State.hywGone
  try simp only []
  repeat' (first | with_reducible assumption | (with_reducible apply State.setHyw_kept) | (with_reducible apply State.modHyw_kept) | (with_reducible apply State.hywSpoil_kept) | (simp only [Kept.upd_iff]))

theorem State.hywEol_kept {s t : State} (h : Kept s t) (n : Nat) : Kept s (State.hywEol t n) := by
  unfold State.hywEol
  try simp only []
  repeat' (first | with_reducible assumption | (with_reducible apply State.setHyw_kept) | (with_reducible apply State.p_kept) | (with_reducible apply State.modHyw_kept) | (with_reducible apply State.hywFault_kept) | split | (simp only [Kept.upd_iff]))

theorem State.hywLife_kept {s t : State} (h : Kept s t) (n : Nat) (life : Nat) : Kept s (State.hywLife t n life) := by
  unfold State.hywLife
  try simp only []
  repeat' (first | with_reducible assumption | (with_reducible apply State.p_kept) | (with_reducible apply State.hywEol_kept) | (with_reducible apply State.setHyw_kept) | split)

theorem State.eolTick_kept {s t : State} (h : Kept s t) (n : Nat) : Kept s (State.eolTick t n) := by
  unfold State.eolTick
  try simp only []
  repeat' (first | with_reducible assumption | (with_reducible apply State.modHyw_kept) | (with_reducible apply State.p_kept) | split | (simp only [Kept.upd_iff]))

theorem State.noAnnounce_kept {s t : State} (h : Kept s t) (n : Nat) : Kept s (State.noAnnounce t n) := by
  unfold State.noAnnounce
  try simp only []
  repeat' (first | with_reducible assumption | (with_reducible apply State.modHyw_kept) | (with_reducible apply State.setHyw_kept) | (with_reducible apply State.hywGone_kept) | split | (simp only [Kept.upd_iff]))

theorem State.announced_kept {s t : State} (h : Kept s t) (n : Nat) : Kept s (State.announced t n) := by
  unfold State.announced
  try simp only []
  repeat' (first | with_reducible assumption | (with_reducible apply State.modHyw_kept) | (with_reducible apply State.setHyw_kept) | (with_reducible apply State.hywFault_kept) | split | (simp only [Kept.upd_iff]))

theorem State.hywSend_kept {s t : State} (h : Kept s t) (n : Nat) (cmd : Nat) (tries : Nat) : Kept s (State.hywSend t n cmd tries) := by
  unfold State.hywSend
  try simp only []
  repeat' (first | with_reducible assumption | (with_reducible apply State.modHyw_kept) | (simp only [Kept.upd_iff]))

theorem State.challenge_kept {s t : State} (h : Kept s t) (n : Nat) : Kept s (State.challenge t n) := by
  unfold State.challenge
  try simp only []
  repeat' (first | with_reducible assumption | (with_reducible refine Kept.foldl _ _ ?_ ?_) | (intro _ _ _) | (with_reducible apply State.draw_kept) | (with_reducible apply State.modHyw_kept) | (simp only [Kept.upd_iff]))

theorem State.hywFailed_kept {s t : State} (h : Kept s t) (n : Nat) (cmd : Nat) : Kept s (State.hywFailed t n cmd) := by
  unfold State.hywFailed
  try simp only []
  repeat' (first | with_reducible assumption | (with_reducible apply State.hywReject_kept) | (with_reducible apply State.modHyw_kept) | split | (simp only [Kept.upd_iff]))

theorem State.hywRepeat_kept {s t : State} (h : Kept s t) (n : Nat) (cmd : Nat) (tries : Nat) : Kept s (State.hywRepeat t n cmd tries) := by
  unfold State.hywRepeat
  try simp only []
  repeat' (first | with_reducible assumption | (with_reducible apply State.inc_kept) | (with_reducible apply State.hywSend_kept) | (with_reducible apply State.hywFailed_kept) | split)

theorem State.identAnswer_kept {s t : State} (h : Kept s t) (n : Nat) (b : List Nat) : Kept s (State.identAnswer t n b) := by
  unfold State.identAnswer
  try simp only []
  repeat' (first | with_reducible assumption | (with_reducible apply State.hywReject_kept) | (with_reducible apply State.modHyw_kept) | split | (simp only [Kept.upd_iff]))

theorem State.authAnswer_kept {s t : State} (h : Kept s t) (n : Nat) (b : List Nat) : Kept s (State.authAnswer t n b) := by
  unfold State.authAnswer
  try simp only []
  repeat' (first | with_reducible assumption | (with_reducible apply State.modHyw_kept) | (with_reducible apply State.hywReject_kept) | (with_reducible apply State.p_kept) | (with_reducible apply State.hywLife_kept) | split | (simp only [Kept.upd_iff]))

theorem State.addAnswer_kept {s t : State} (h : Kept s t) (n : Nat) (status : Nat) (b : List Nat) : Kept s (State.addAnswer t n status b) := by
  unfold State.addAnswer
  try simp only []
  repeat' (first | with_reducible assumption | (with_reducible apply State.modHyw_kept) | (with_reducible apply State.p_kept) | (with_reducible apply State.hywLife_kept) | (with_reducible apply State.hywReject_kept) | split | (simp only [Kept.upd_iff]))

theorem State.readAnswer_kept {s t : State} (h : Kept s t) (n : Nat) (b : List Nat) : Kept s (State.readAnswer t n b) := by
  unfold State.readAnswer
  try simp only []
  repeat' (first | with_reducible assumption | (with_reducible apply State.hywReject_kept) | (with_reducible apply State.modHyw_kept) | (with_reducible apply State.hywLife_kept) | split | (simp only [Kept.upd_iff]))

theorem State.meterWrite_kept {s t : State} (h : Kept s t) (q : Requester) (n : Nat) (v : Nat) : Kept s (State.meterWrite t q n v) := by
  unfold State.meterWrite
  try simp only []
  repeat' (first | with_reducible assumption | (with_reducible apply State.unitFault_kept) | (with_reducible apply State.modHyw_kept) | (with_reducible apply State.p_kept) | split | (simp only [Kept.upd_iff]))

theorem State.hywReset_kept {s t : State} (h : Kept s t) (n : Nat) : Kept s (State.hywReset t n) := by
  unfold State.hywReset
  try simp only []
  repeat' (first | with_reducible assumption | (with_reducible apply State.setHyw_kept) | (with_reducible apply State.portPads_kept) | (with_reducible apply State.resetBlock_kept) | (with_reducible apply State.modHyw_kept) | split)

theorem State.hywCtrlWrite_kept {s t : State} (h : Kept s t) (q : Requester) (n : Nat) (v : Nat) : Kept s (State.hywCtrlWrite t q n v) := by
  unfold State.hywCtrlWrite
  try simp only []
  repeat' (first | with_reducible assumption | (with_reducible apply State.hywReset_kept) | (with_reducible apply State.unitFault_kept) | (with_reducible apply State.p_kept) | (with_reducible apply State.portPads_kept) | (with_reducible apply State.setHyw_kept) | (with_reducible apply State.modHyw_kept) | split | (simp only [Kept.upd_iff]))

theorem State.tornCommit_kept {s t : State} (h : Kept s t) : Kept s (State.tornCommit t) := by
  unfold State.tornCommit
  try simp only []
  repeat' (first | with_reducible assumption | (with_reducible apply State.draw_kept) | (with_reducible apply State.framWr_kept) | split)

theorem State.tornBurn_kept {s t : State} (h : Kept s t) : Kept s (State.tornBurn t) := by
  unfold State.tornBurn
  try simp only []
  repeat' (first | with_reducible assumption | (with_reducible apply State.burnPart_kept) | (with_reducible apply State.modOtp_kept) | split | (simp only [Kept.upd_iff]))

theorem State.spareDefault_kept {s t : State} (h : Kept s t) : Kept s (State.spareDefault t) := by
  unfold State.spareDefault
  try simp only []
  repeat' (first | with_reducible assumption | (with_reducible apply State.p_kept) | split)

theorem State.powerOn_kept {s t : State} (h : Kept s t) : Kept s t.powerOn := by
  have h1 := State.tornBurn_kept (State.tornCommit_kept h)
  exact State.spareDefault_kept ⟨h1.pending, fun _ => rfl, h1.fram, h1.host⟩

theorem State.warmRegs_kept {s t : State} (h : Kept s t) (locked : Bool) : Kept s (State.warmRegs t locked) := by
  unfold State.warmRegs
  try simp only []
  repeat' (first | with_reducible assumption | (with_reducible refine Kept.forRange _ _ _ ?_ ?_) | (intro _ _ _) | (with_reducible apply State.setWord_kept) | (with_reducible apply State.p_kept) | (with_reducible apply State.spareDefault_kept) | split | (simp only [Kept.upd_iff]))

theorem State.logicReset_kept {s t : State} (h : Kept s t) (locked : Bool) : Kept s (t.logicReset locked) := by
  have h2 : Kept s (({ t.tornCommit.tornBurn with mem := t.tornCommit.tornBurn.mem.filter (fun c => mirrorBase ≤ c.1 && c.1 < localBase) } :
      State).warmRegs locked) :=
    State.warmRegs_kept ((State.tornBurn_kept (State.tornCommit_kept h)).memFilter _) locked
  unfold State.logicReset
  extract_lets s1 t1 r0 r
  change Kept s t1 at h2
  clear_value t1
  have h3 : Kept s r := ⟨h2.pending, h2.mem, h2.fram, h2.host⟩
  clear_value r
  split
  · exact State.ckoReschedule_kept (State.ckoReschedule_kept h3 _) _
  · exact h3

theorem State.warmReset_kept {s t : State} (h : Kept s t) : Kept s (State.warmReset t) := by
  unfold State.warmReset
  try simp only []
  repeat' (first | with_reducible assumption | (with_reducible apply State.logicReset_kept) | (with_reducible apply State.p_kept) | split)

theorem State.wake_kept {s t : State} (h : Kept s t) : Kept s (State.wake t) := by
  unfold State.wake
  try simp only []
  repeat' (first | with_reducible assumption | (with_reducible apply State.logicReset_kept) | (with_reducible apply State.modPsq_kept) | (simp only [Kept.upd_iff]))

theorem State.setCoreState_kept {s t : State} (h : Kept s t) (i : Nat) (st : Nat) : Kept s (State.setCoreState t i st) := by
  unfold State.setCoreState
  try simp only []
  repeat' (first | with_reducible assumption | (with_reducible apply State.p_kept))

theorem State.coreRestart_kept {s t : State} (h : Kept s t) (i : Nat) : Kept s (State.coreRestart t i) := by
  unfold State.coreRestart
  try simp only []
  repeat' (first | with_reducible assumption | (with_reducible apply State.coreReset_kept) | (with_reducible apply State.setCoreState_kept) | split)

theorem State.coreFail_kept {s t : State} (h : Kept s t) (i : Nat) (cause : Nat) : Kept s (State.coreFail t i cause) := by
  unfold State.coreFail
  try simp only []
  repeat' (first | with_reducible assumption | (with_reducible apply State.setCoreState_kept) | (with_reducible apply State.p_kept) | (with_reducible apply State.modCore_kept) | (with_reducible apply State.spoilWhere_kept) | (with_reducible apply State.raise_kept) | split | (simp only [Kept.upd_iff]))

theorem State.coreCrash_kept {s t : State} (h : Kept s t) (i : Nat) (cause : Nat) : Kept s (State.coreCrash t i cause) := by
  unfold State.coreCrash
  try simp only []
  repeat' (first | with_reducible assumption | (with_reducible apply State.coreRestart_kept) | (with_reducible apply State.modCore_kept) | (with_reducible apply State.inc_kept) | (with_reducible apply State.p_kept) | (with_reducible apply State.raise_kept) | (with_reducible apply State.coreFail_kept) | split | (simp only [Kept.upd_iff]))

theorem State.spareMap_kept {s t : State} (h : Kept s t) (i : Nat) : Kept s (State.spareMap t i) := by
  unfold State.spareMap
  try simp only []
  repeat' (first | with_reducible assumption | (with_reducible apply State.setCoreState_kept) | (with_reducible apply State.modCore_kept) | (with_reducible apply State.coreReset_kept) | (with_reducible apply State.p_kept) | (with_reducible apply State.raise_kept) | (simp only [Kept.upd_iff]))

theorem State.corerstWrite_kept {s t : State} (h : Kept s t) (q : Requester) (v : Nat) : Kept s (State.corerstWrite t q v) := by
  unfold State.corerstWrite
  try simp only []
  repeat' (first | with_reducible assumption | (with_reducible apply State.unitFault_kept) | (with_reducible apply State.coreRestart_kept) | split)

theorem State.slip_kept {s t : State} (h : Kept s t) (i : Nat) : Kept s (State.slip t i) := by
  unfold State.slip
  try simp only []
  repeat' (first | with_reducible assumption | (with_reducible apply State.modCore_kept) | split | (simp only [Kept.upd_iff]))

theorem State.slipWait_kept {s t : State} (h : Kept s t) (i : Nat) : Kept s (State.slipWait t i) := by
  unfold State.slipWait
  try simp only []
  repeat' (first | with_reducible assumption | (with_reducible apply State.slip_kept) | split)

theorem State.setStage_kept {s t : State} (h : Kept s t) (n : Nat) : Kept s (State.setStage t n) := by
  unfold State.setStage
  try simp only []
  repeat' (first | with_reducible assumption | (with_reducible apply State.p_kept))

theorem State.psqPowerOn_kept {s t : State} (h : Kept s t) (vin : Nat) : Kept s (State.psqPowerOn t vin) := by
  unfold State.psqPowerOn
  try simp only []
  repeat' (first | with_reducible assumption | (with_reducible apply State.psqBoot_kept) | (with_reducible apply State.modPsq_kept) | (with_reducible apply State.psqUpAfter_kept) | split | (simp only [Kept.upd_iff]))

theorem State.bootTests_kept {s t : State} (h : Kept s t) (failed : Nat) : Kept s (State.bootTests t failed) := by
  unfold State.bootTests
  try simp only []
  repeat' (first | with_reducible assumption | (with_reducible refine Kept.forRange _ _ _ ?_ ?_) | (intro _ _ _) | (with_reducible apply State.coreFail_kept) | (with_reducible apply State.spareMap_kept) | (with_reducible apply State.setCoreState_kept) | split)

theorem State.loadImage_kept {s t : State} (h : Kept s t) (i : BootImage) : Kept s (State.loadImage t i) := by
  unfold State.loadImage
  try simp only []
  repeat' (first | with_reducible assumption | (with_reducible refine Kept.foldl _ _ ?_ ?_) | (intro _ _ _) | (with_reducible apply State.wrBytes_kept) | split)

theorem State.startCores_kept {s t : State} (h : Kept s t) : Kept s (State.startCores t) := by
  unfold State.startCores
  try simp only []
  repeat' (first | with_reducible assumption | (with_reducible refine Kept.forRange _ _ _ ?_ ?_) | (intro _ _ _) | (with_reducible apply State.coreReset_kept) | (with_reducible apply State.setCoreState_kept) | split)

theorem State.tryImage_kept {s t : State} (h : Kept s t) (source : Nat) (limit : Nat) (img : Option BootImage) : Kept s (State.tryImage t source limit img) := by
  unfold State.tryImage
  try simp only []
  repeat' (first | with_reducible assumption | (with_reducible apply State.p_kept) | (with_reducible apply State.loadImage_kept) | (with_reducible apply State.startCores_kept) | (with_reducible apply State.setStage_kept) | split)

theorem State.waitHost_kept {s t : State} (h : Kept s t) : Kept s (State.waitHost t) := by
  unfold State.waitHost
  try simp only []
  repeat' (first | with_reducible assumption | (with_reducible apply State.setStage_kept) | split)

theorem State.flipAll_kept {s t : State} (h : Kept s t) : Kept s (State.flipAll t) := by
  unfold State.flipAll
  try simp only []
  repeat' (first | with_reducible assumption | (with_reducible refine Kept.forRange _ _ _ ?_ ?_) | (intro _ _ _) | (with_reducible apply State.p_kept) | (with_reducible apply State.incWrap_kept) | split)

theorem State.bootcmdWrite_kept {s t : State} (h : Kept s t) (q : Requester) (v : Nat) : Kept s (State.bootcmdWrite t q v) := by
  unfold State.bootcmdWrite
  try simp only []
  repeat' (first | with_reducible assumption | (with_reducible apply State.flipAll_kept) | (with_reducible apply State.tryImage_kept) | (with_reducible apply State.waitHost_kept) | split)

theorem State.burnEnd_kept {s t : State} (h : Kept s t) (b : Burn) : Kept s (State.burnEnd t b) := by
  unfold State.burnEnd
  try simp only []
  repeat' (first | with_reducible assumption | (with_reducible apply State.p_kept) | (with_reducible apply State.modOtp_kept) | (with_reducible apply State.warmReset_kept) | split | (simp only [Kept.upd_iff]))

theorem State.burnNext_kept {s t : State} (h : Kept s t) (b : Burn) (a : Nat) (rest : List (Nat × Nat)) : Kept s (State.burnNext t b a rest) := by
  unfold State.burnNext
  try simp only []
  repeat' (first | with_reducible assumption | (with_reducible apply State.otpRefresh_kept) | (with_reducible apply State.modOtp_kept) | (with_reducible apply State.burnEnd_kept) | split | (simp only [Kept.upd_iff]))

theorem State.toSpare_kept {s t : State} (h : Kept s t) (a : Nat) (v : Nat) : Kept s (State.toSpare t a v) := by
  unfold State.toSpare
  try simp only []
  repeat' (first | with_reducible assumption | (with_reducible apply State.p_kept) | (with_reducible apply State.setFuse_kept) | split)

theorem State.ringRefused_kept {s t : State} (h : Kept s t) (q : Requester) : Kept s (State.ringRefused t q) := by
  unfold State.ringRefused
  try simp only []
  repeat' (first | with_reducible assumption | (with_reducible apply State.unitFault_kept))

theorem State.qcfgWrite_kept {s t : State} (h : Kept s t) (q : Requester) (r : Nat) (v : Nat) : Kept s (State.qcfgWrite t q r v) := by
  unfold State.qcfgWrite
  try simp only []
  repeat' (first | with_reducible assumption | (with_reducible apply State.ringRefused_kept) | (with_reducible apply State.unitFault_kept) | (with_reducible apply State.setWord_kept) | (with_reducible apply State.p_kept) | split)

theorem State.qbaseWrite_kept {s t : State} (h : Kept s t) (q : Requester) (r : Nat) (v : Nat) : Kept s (State.qbaseWrite t q r v) := by
  unfold State.qbaseWrite
  try simp only []
  repeat' (first | with_reducible assumption | (with_reducible apply State.ringRefused_kept) | (with_reducible apply State.p_kept) | split)

theorem State.qheadWrite_kept {s t : State} (h : Kept s t) (q : Requester) (r : Nat) (v : Nat) : Kept s (State.qheadWrite t q r v) := by
  unfold State.qheadWrite
  try simp only []
  repeat' (first | with_reducible assumption | (with_reducible apply State.ringRefused_kept) | (with_reducible apply State.unitFault_kept) | (with_reducible apply State.p_kept) | split)

theorem State.qtailWrite_kept {s t : State} (h : Kept s t) (q : Requester) (r : Nat) (v : Nat) : Kept s (State.qtailWrite t q r v) := by
  unfold State.qtailWrite
  try simp only []
  repeat' (first | with_reducible assumption | (with_reducible apply State.ringRefused_kept) | (with_reducible apply State.unitFault_kept) | (with_reducible apply State.count_kept) | (with_reducible apply State.p_kept) | (with_reducible apply State.psqRun_kept) | split)

theorem State.sliceOff_kept {s t : State} (h : Kept s t) (i : Nat) : Kept s (State.sliceOff t i) := by
  unfold State.sliceOff
  try simp only []
  repeat' (first | with_reducible assumption | (with_reducible apply State.setMotState_kept) | (with_reducible apply State.modStp_kept) | (with_reducible apply State.hvOff_kept) | (with_reducible apply State.fusStop_kept) | split | (simp only [Kept.upd_iff]))

theorem State.granuleOff_kept {s t : State} (h : Kept s t) (g : Nat) : Kept s (State.granuleOff t g) := by
  unfold State.granuleOff
  try simp only []
  repeat' (first | with_reducible assumption | (with_reducible refine Kept.forRange _ _ _ ?_ ?_) | (intro _ _ _) | (with_reducible apply State.p_kept) | (with_reducible apply State.spoilWhere_kept) | split)

theorem State.release_kept {s t : State} (h : Kept s t) (rid : Nat) : Kept s (State.release t rid) := by
  unfold State.release
  try simp only []
  repeat' (first | with_reducible assumption | (with_reducible apply State.padReset_kept) | (with_reducible apply State.sliceOff_kept) | (with_reducible apply State.granuleOff_kept) | (with_reducible apply State.setActQueue_kept) | (with_reducible apply State.setOwner_kept) | split | (simp only [Kept.upd_iff]))

theorem State.judgeClaim_kept {s t : State} (h : Kept s t) (q : Requester) (rid : Nat) (free : Bool) : Kept s (t.judgeClaim q rid free).1 := by
  unfold State.judgeClaim
  split
  · split
    · exact State.accessFault_kept h _ _
    · split
      · exact State.accessFault_kept h _ _
      · exact State.release_kept h _
  · simp only []
    split
    · exact State.traceEv_kept (State.setOwner_kept h _ _) _ _ _ _
    · exact State.traceEv_kept (State.accessFault_kept h _ _) _ _ _ _

theorem State.claimreqWrite_kept {s t : State} (h : Kept s t) (q : Requester) (v : Nat) : Kept s (State.claimreqWrite t q v) := by
  unfold State.claimreqWrite
  try simp only []
  repeat' (first | with_reducible assumption | (with_reducible apply State.judgeClaim_kept) | (with_reducible apply State.setWord_kept) | (with_reducible apply State.accessFault_kept) | split)

theorem State.padcfgWrite_kept {s t : State} (h : Kept s t) (q : Requester) (i : Nat) (v : Nat) : Kept s (State.padcfgWrite t q i v) := by
  unfold State.padcfgWrite
  try simp only []
  repeat' (first | with_reducible assumption | (with_reducible apply State.accessFault_kept) | (with_reducible apply State.unitFault_kept) | (with_reducible apply State.setWord_kept) | split)

theorem State.snsStart_kept {s t : State} (h : Kept s t) (k : Nat) : Kept s (State.snsStart t k) := by
  unfold State.snsStart
  try simp only []
  repeat' (first | with_reducible assumption | (simp only [Kept.upd_iff]))

theorem State.snswireWrite_kept {s t : State} (h : Kept s t) (q : Requester) (v : Nat) : Kept s (State.snswireWrite t q v) := by
  unfold State.snswireWrite
  try simp only []
  repeat' (first | with_reducible assumption | (with_reducible refine Kept.forRange _ _ _ ?_ ?_) | (intro _ _ _) | (with_reducible apply State.p_kept) | (with_reducible apply State.snsStart_kept) | (with_reducible apply State.accessFault_kept) | split)

theorem State.actuate_kept {s t : State} (h : Kept s t) (id : Nat) (v : Nat) : Kept s (State.actuate t id v) := by
  unfold State.actuate
  try simp only []
  repeat' (first | with_reducible assumption | (with_reducible apply State.padSet_kept) | (with_reducible apply State.motWord_kept) | (with_reducible apply State.motVcmd_kept) | (with_reducible apply State.motFault_kept) | (with_reducible apply State.stpWord_kept) | (with_reducible apply State.stpCmdRefused_kept) | (with_reducible apply State.hvWord_kept) | (with_reducible apply State.fusWord_kept) | split)

theorem State.postEvent_kept {s t : State} (h : Kept s t) (q : Requester) (id : Nat) (t' : Nat) (v : Nat) : Kept s (State.postEvent t q id t' v) := by
  unfold State.postEvent
  try simp only []
  repeat' (first | with_reducible assumption | (with_reducible apply State.actArrive_kept) | (with_reducible apply State.accessFault_kept) | split | (simp only [Kept.upd_iff]))

theorem State.emitTo_kept {s t : State} (h : Kept s t) (q : Requester) (id : Nat) (v : Nat) : Kept s (State.emitTo t q id v) := by
  unfold State.emitTo
  try simp only []
  repeat' (first | with_reducible assumption | (with_reducible apply State.accessFault_kept) | (with_reducible apply State.actuate_kept) | split)

theorem State.regRead_kept {s t : State} (h : Kept s t) (q : Requester) (r : Reg) (n k : Nat) : Kept s (t.regRead q r n k).2 := by
  unfold State.regRead
  split
  · exact h
  · exact Kept.upd_iff.2 h
  · simp only []
    split
    · exact Kept.upd_iff.2 h
    · exact h

theorem State.genWrite_kept {s t : State} (h : Kept s t) (r : Reg) (n : Nat) (k : Nat) (v : Nat) : Kept s (State.genWrite t r n k v) := by
  unfold State.genWrite
  try simp only []
  repeat' (first | with_reducible assumption | (with_reducible refine Kept.foldl _ _ ?_ ?_) | (intro _ _ _) | (with_reducible apply State.setWord_kept))

theorem State.afterWrite_kept {s t : State} (h : Kept s t) (r : Reg) (n : Nat) (k : Nat) (v : Nat) : Kept s (State.afterWrite t r n k v) := by
  unfold State.afterWrite
  try simp only []
  repeat' (first | with_reducible assumption | (with_reducible apply State.genWrite_kept) | (with_reducible apply State.p_kept) | (with_reducible apply State.setWord_kept) | (with_reducible apply State.txlimWrite_kept) | split)

theorem State.unitWrite_kept {s t : State} (h : Kept s t) (q : Requester) (r : Reg) (n k v : Nat) :
    ∀ u, t.unitWrite q r n k v = some u → Kept s u := by
  intro u hu
  unfold State.unitWrite at hu
  split at hu
  all_goals first
    | (obtain rfl := Option.some.inj hu
       repeat' (first | with_reducible assumption | (with_reducible apply State.qcfgWrite_kept) | (with_reducible apply State.qbaseWrite_kept) | (with_reducible apply State.qheadWrite_kept) | (with_reducible apply State.qtailWrite_kept) | (with_reducible apply State.corerstWrite_kept) | (with_reducible apply State.claimreqWrite_kept) | (with_reducible apply State.padcfgWrite_kept) | (with_reducible apply State.snswireWrite_kept) | (with_reducible apply State.bootcmdWrite_kept) | (with_reducible apply State.ckoenWrite_kept) | (with_reducible apply State.warmReset_kept) | (with_reducible apply State.lccmdWrite_kept) | (with_reducible apply State.pcmdWrite_kept) | (with_reducible apply State.gathCtrlWrite_kept) | (with_reducible apply State.scmd_kept) | (with_reducible apply State.lceReset_kept) | (with_reducible apply State.kcmdWrite_kept) | (with_reducible apply State.ack_kept) | (with_reducible apply State.forceWrite_kept) | (with_reducible apply State.ringcfgWrite_kept) | (with_reducible apply State.kpadWrite_kept) | (with_reducible apply State.jrnCmd_kept) | (with_reducible apply State.ridxWrite_kept) | (with_reducible apply State.psqCmd_kept) | (with_reducible apply State.hostenWrite_kept) | (with_reducible apply State.markWrite_kept) | (with_reducible apply State.bwcfgWrite_kept) | (with_reducible apply State.obsDenied_kept) | (with_reducible apply State.ingReset_kept) | (with_reducible apply State.ctxJobWrite_kept) | (with_reducible apply State.dmaStop_kept) | (with_reducible apply State.dmaRestart_kept) | (with_reducible apply State.shwFlip_kept) | (with_reducible apply State.qringWrite_kept) | (with_reducible apply State.cmpReset_kept) | (with_reducible apply State.dcpReset_kept) | (with_reducible apply State.strCtrlWrite_kept) | (with_reducible apply State.laserDisClear_kept) | (with_reducible apply State.ldcmdWrite_kept) | (with_reducible apply State.synCtrlWrite_kept) | (with_reducible apply State.ckuCtrlWrite_kept) | (with_reducible apply State.ckuCfgWrite_kept) | (with_reducible apply State.ckuDin_kept) | (with_reducible apply State.ckuBindWrite_kept) | (with_reducible apply State.hywCtrlWrite_kept) | (with_reducible apply State.meterWrite_kept) | (with_reducible apply State.motCtrlWrite_kept) | (with_reducible apply State.stpCtrlWrite_kept) | (with_reducible apply State.posWrite_kept) | (with_reducible apply State.hvCtrlWrite_kept) | (with_reducible apply State.fusCtrlWrite_kept) | (with_reducible apply State.commitWrite_kept) | split)
       done)
    | (simp only [Option.map_eq_some_iff] at hu
       obtain ⟨x, _, rfl⟩ := hu
       exact State.commitWrite_kept h _ _ _)
    | (split at hu
       all_goals first
         | (obtain rfl := Option.some.inj hu
            repeat' (first | with_reducible assumption | (with_reducible apply State.qcfgWrite_kept) | (with_reducible apply State.qbaseWrite_kept) | (with_reducible apply State.qheadWrite_kept) | (with_reducible apply State.qtailWrite_kept) | (with_reducible apply State.corerstWrite_kept) | (with_reducible apply State.claimreqWrite_kept) | (with_reducible apply State.padcfgWrite_kept) | (with_reducible apply State.snswireWrite_kept) | (with_reducible apply State.bootcmdWrite_kept) | (with_reducible apply State.ckoenWrite_kept) | (with_reducible apply State.warmReset_kept) | (with_reducible apply State.lccmdWrite_kept) | (with_reducible apply State.pcmdWrite_kept) | (with_reducible apply State.gathCtrlWrite_kept) | (with_reducible apply State.scmd_kept) | (with_reducible apply State.lceReset_kept) | (with_reducible apply State.kcmdWrite_kept) | (with_reducible apply State.ack_kept) | (with_reducible apply State.forceWrite_kept) | (with_reducible apply State.ringcfgWrite_kept) | (with_reducible apply State.kpadWrite_kept) | (with_reducible apply State.jrnCmd_kept) | (with_reducible apply State.ridxWrite_kept) | (with_reducible apply State.psqCmd_kept) | (with_reducible apply State.hostenWrite_kept) | (with_reducible apply State.markWrite_kept) | (with_reducible apply State.bwcfgWrite_kept) | (with_reducible apply State.obsDenied_kept) | (with_reducible apply State.ingReset_kept) | (with_reducible apply State.ctxJobWrite_kept) | (with_reducible apply State.dmaStop_kept) | (with_reducible apply State.dmaRestart_kept) | (with_reducible apply State.shwFlip_kept) | (with_reducible apply State.qringWrite_kept) | (with_reducible apply State.cmpReset_kept) | (with_reducible apply State.dcpReset_kept) | (with_reducible apply State.strCtrlWrite_kept) | (with_reducible apply State.laserDisClear_kept) | (with_reducible apply State.ldcmdWrite_kept) | (with_reducible apply State.synCtrlWrite_kept) | (with_reducible apply State.ckuCtrlWrite_kept) | (with_reducible apply State.ckuCfgWrite_kept) | (with_reducible apply State.ckuDin_kept) | (with_reducible apply State.ckuBindWrite_kept) | (with_reducible apply State.hywCtrlWrite_kept) | (with_reducible apply State.meterWrite_kept) | (with_reducible apply State.motCtrlWrite_kept) | (with_reducible apply State.stpCtrlWrite_kept) | (with_reducible apply State.posWrite_kept) | (with_reducible apply State.hvCtrlWrite_kept) | (with_reducible apply State.fusCtrlWrite_kept) | (with_reducible apply State.commitWrite_kept) | split)
            done)
         | cases hu)

theorem State.wordWrite_kept {s t : State} (h : Kept s t) (q : Requester) (r : Reg) (n k v : Nat) : Kept s (t.wordWrite q r n k v) := by
  unfold State.wordWrite
  split
  · exact State.obsDenied_kept h _
  · split
    · exact State.accessFault_kept h _ _
    · split
      · rename_i u hu; exact State.unitWrite_kept h q r n k v u hu
      · split
        · exact State.lateWrite_kept h _ _
        · split
          · exact State.unitFault_kept h _ _ _ _
          · split
            · exact State.unitFault_kept h _ _ _ _
            · exact State.afterWrite_kept h _ _ _ _

theorem State.pairWrite_kept {s t : State} (h : Kept s t) (q : Requester) (lo : Reg) (hi : Reg) (n : Nat) (k : Nat) (l : Nat) (h' : Nat) : Kept s (State.pairWrite t q lo hi n k l h') := by
  unfold State.pairWrite
  try simp only []
  repeat' (first | with_reducible assumption | (with_reducible apply State.genWrite_kept) | (with_reducible apply State.obsDenied_kept) | (with_reducible apply State.unitFault_kept) | (with_reducible apply State.dcpPush_kept) | (with_reducible apply State.caltArm_kept) | (with_reducible apply State.ckuPairWrite_kept) | split)

theorem State.regWrite_kept {s t : State} (h : Kept s t) (q : Requester) (r : Reg) (n : Nat) (k : Nat) (v : Nat) : Kept s (State.regWrite t q r n k v) := by
  unfold State.regWrite
  try simp only []
  repeat' (first | with_reducible assumption | (with_reducible apply State.wordWrite_kept) | (with_reducible apply State.pairWrite_kept) | split | (simp only [Kept.upd_iff]))

theorem State.bwHost_kept {s t : State} (h : Kept s t) (q : Requester) (toDevice : Bool) (w : Nat) : Kept s (State.bwHost t q toDevice w) := by
  unfold State.bwHost
  try simp only []
  repeat' (first | with_reducible assumption | (with_reducible apply State.bwAdd_kept) | split)

theorem State.store_kept {s t : State} (h : Kept s t) (a : Nat) (w : Nat) (v : Nat) : Kept s (State.store t a w v) := by
  unfold State.store
  try simp only []
  repeat' (first | with_reducible assumption | (with_reducible apply State.wr_kept) | (simp only [Kept.upd_iff]))

theorem State.memAnswer_kept {s t : State} (h : Kept s t) (a w : Nat) : Kept s (t.memAnswer a w).st := h

theorem State.busRead_kept {s t : State} (h : Kept s t) (q : Requester) (a w : Nat) : Kept s (t.busRead q a w).st := by
  unfold State.busRead
  simp only []
  repeat' split
  all_goals first
    | with_reducible exact h
    | with_reducible exact State.accessFault_kept h _ _
    | with_reducible exact State.unitFault_kept h _ _ _ _
    | with_reducible exact State.memAnswer_kept h _ _
    | with_reducible exact State.regRead_kept h _ _ _ _
    | with_reducible exact State.bwMem_kept h _ _ _

theorem State.busWrite_kept {s t : State} (h : Kept s t) (q : Requester) (a w v : Nat) : Kept s (t.busWrite q a w v).st := by
  unfold State.busWrite
  simp only []
  repeat' split
  all_goals first
    | with_reducible exact h
    | with_reducible exact State.accessFault_kept h _ _
    | with_reducible exact State.unitFault_kept h _ _ _ _
    | with_reducible exact State.regWrite_kept h _ _ _ _ _
    | with_reducible exact State.bwMem_kept (State.store_kept h _ _ _) _ _ _
    | with_reducible exact State.store_kept h _ _ _

theorem State.readCmd_kept {s t : State} (h : Kept s t) (q : Requester) (a : Nat) (w : Nat) : Kept s (State.readCmd t q a w) := by
  unfold State.readCmd
  try simp only []
  repeat' (first | with_reducible assumption | (with_reducible apply State.busRead_kept) | (with_reducible apply State.bwHost_kept) | (simp only [Kept.upd_iff]))

theorem State.writeCmd_kept {s t : State} (h : Kept s t) (q : Requester) (a : Nat) (w : Nat) (v : Nat) : Kept s (State.writeCmd t q a w v) := by
  unfold State.writeCmd
  try simp only []
  repeat' (first | with_reducible assumption | (with_reducible apply State.busWrite_kept) | (with_reducible apply State.bwHost_kept))

theorem State.ckuJudge_kept {s t : State} (h : Kept s t) (c : Nat) (k : Nat) (tail : List Nat) : Kept s (State.ckuJudge t c k tail) := by
  unfold State.ckuJudge
  try simp only []
  repeat' (first | with_reducible assumption | (with_reducible apply State.inc_kept) | (with_reducible apply State.p_kept) | (with_reducible apply State.raise_kept) | split)

theorem State.dmaJudge_kept {s t : State} (h : Kept s t) (c : Nat) (d : DmaDesc) : Kept s (State.dmaJudge t c d) := by
  unfold State.dmaJudge
  try simp only []
  repeat' (first | with_reducible assumption | (with_reducible apply State.dmaEnd_kept) | (with_reducible apply State.modDma_kept) | (with_reducible apply State.p_kept) | split | (simp only [Kept.upd_iff]))

theorem State.dmaReadDev_kept (f : Nat) : ∀ {s t : State} (_ : Kept s t) (a n : Nat), Kept s (t.dmaReadDev f a n).2.2 := by
  induction f with
  | zero => intro s t h a n; exact h
  | succ f ih =>
    intro s t h a n
    unfold State.dmaReadDev
    simp only []
    split
    · exact h
    · split
      · exact State.busRead_kept h _ _ _
      · exact ih (State.busRead_kept h _ _ _) _ _

theorem State.dmaWriteDev_kept (f : Nat) : ∀ {s t : State} (_ : Kept s t) (a : Nat) (bs : List Nat), Kept s (t.dmaWriteDev f a bs).2 := by
  induction f with
  | zero => intro s t h a bs; exact h
  | succ f ih =>
    intro s t h a bs
    unfold State.dmaWriteDev
    simp only []
    split
    · exact h
    · exact ih (State.busWrite_kept h _ _ _ _) _ _

theorem State.dmaRead_kept {s t : State} (h : Kept s t) (space a n : Nat) : Kept s (t.dmaRead space a n).2.2 := by
  unfold State.dmaRead
  split
  · exact State.dmaReadDev_kept _ h _ _
  · show Kept s (t.bwHost (Requester.host (space - 1)) true n)
    exact State.bwHost_kept h _ _ _

theorem State.dmaWrite_kept {s t : State} (h : Kept s t) (space a : Nat) (bs : List Nat) : Kept s (t.dmaWrite space a bs).2 := by
  unfold State.dmaWrite
  split
  · exact State.dmaWriteDev_kept _ h _ _
  · simp only []
    refine State.bwHost_kept ?_ _ _ _
    exact ⟨h.pending, h.mem, h.fram, fun x => Cells.wf_putBytes 0 bs _ _ (h.host x)⟩

theorem Mv.afterWrite_kept {s : State} {m : Mv} (h : Kept s m.st) (e : Nat) : Kept s (m.afterWrite e).st := State.draw_kept h

theorem Mv.ingest_kept {s : State} {m : Mv} (h : Kept s m.st) (x : Xfer) (n : Nat) (bs : List Nat) : Kept s (m.ingest x n bs).st := by
  unfold Mv.ingest
  simp only []
  split
  · exact State.ctxRow_kept h _ _
  · split
    · exact State.ctxRow_kept h _ _
    · exact h

theorem Mv.copy_kept {s : State} {m : Mv} (h : Kept s m.st) (c : Nat) (x : Xfer) (bs : List Nat) (lost : Bool) : Kept s (m.copy c x bs lost).st := by
  unfold Mv.copy
  extract_lets keep s1 d w code m1
  have h1 : Kept s s1 := by
    simp only [s1]
    split
    · exact State.ckuBytes_kept h _ _
    · exact h
  have hd : Kept s d.2 := by
    simp only [d]
    split
    · exact State.draw_kept h1
    · exact h1
  have hw : Kept s w.2 := by
    simp only [w]
    split
    · exact hd
    · exact State.dmaWrite_kept hd _ _ _
  have hm : Kept s m1.st := hw
  split
  · refine Mv.afterWrite_kept (m := { m1 with err := _ }) ?_ _
    exact hm
  · exact hm

theorem Mv.beat_kept {s : State} {m : Mv} (h : Kept s m.st) (c : Nat) (x : Xfer) (bad : Option (Bool × Nat)) : Kept s (m.beat c x bad).st := by
  unfold Mv.beat
  extract_lets a n hit r m1
  have hr : Kept s r.2.2 := State.dmaRead_kept h _ _ _
  repeat' split
  · exact h
  · exact hr
  · exact Mv.ingest_kept (m := m1) hr _ _ _
  · exact hr
  · exact Mv.copy_kept (m := m1) hr _ _ _ _

theorem Mv.run_kept (c : Nat) (x : Xfer) (bad : Option (Bool × Nat)) (f : Nat) : ∀ {s : State} {m : Mv}, Kept s m.st → Kept s (Mv.run c x bad f m).st := by
  induction f with
  | zero => intro s m h; exact h
  | succ f ih =>
    intro s m h
    unfold Mv.run
    split
    · exact h
    · exact ih (Mv.beat_kept h _ _ _)

theorem Mv.finish_kept {s : State} {m : Mv} (h : Kept s m.st) (c : Nat) (x : Xfer) : Kept s (m.finish c x) := by
  unfold Mv.finish
  simp only []
  repeat' split
  all_goals first
    | with_reducible exact State.dmaEnd_kept h _ _ _ _ _ _ _ _
    | with_reducible exact State.dmaEnd_kept (State.ckuJudge_kept h _ _ _) _ _ _ _ _ _ _ _
    | with_reducible exact State.dmaEnd_kept (State.ckuJudge_kept (State.dmaWrite_kept h _ _ _) _ _ _) _ _ _ _ _ _ _ _

theorem State.dmaMove_kept {s t : State} (h : Kept s t) (c : Nat) (x : Xfer) (limit : Nat) (bad : Option (Bool × Nat)) :
    Kept s (t.dmaMove c x limit bad) := by
  unfold State.dmaMove
  extract_lets s1
  split
  · exact State.dmaEnd_kept h _ _ _ _ _ _ _ _
  · refine Mv.finish_kept (Mv.run_kept c x bad limit (m := { st := s1, limit := limit }) ?_) c x
    show Kept s s1
    simp only [s1]
    generalize (if x.ctx.isSome then none else t.boundCku c) = o
    cases o
    · exact h
    · exact State.ckuStart_kept h _

theorem State.dmaStopped_kept {s t : State} (h : Kept s t) (c : Nat) (x : Xfer) : Kept s (t.dmaStopped c x) := by
  unfold State.dmaStopped
  extract_lets r m
  have hm : Kept s m.st := Mv.run_kept c x none x.total (m := { st := r.2, limit := r.1.toNat % (x.total + 1) }) (State.draw_kept h)
  split
  · exact Mv.finish_kept hm _ _
  · exact State.dmaEnd_kept hm _ _ _ _ _ _ _ _

theorem State.perstChannel_kept {s t : State} (h : Kept s t) (n : Nat) (c : Nat) : Kept s (State.perstChannel t n c) := by
  unfold State.perstChannel
  try simp only []
  repeat' (first | with_reducible assumption | (with_reducible apply State.draw_kept) | (with_reducible apply State.dmaMove_kept) | split)

theorem State.follower_kept {s t : State} (h : Kept s t) : Kept s t.follower.2 := by
  unfold State.follower
  simp only []
  split
  · exact State.draw_kept h
  · exact State.draw_kept (State.draw_kept h)

theorem State.insRecord_kept {s t : State} (h : Kept s t) (i code aux type data : Nat) : Kept s (t.insRecord i code aux type data) := by
  unfold State.insRecord
  exact State.modCore_kept (State.tracePush_kept (State.follower_kept h) _) _ _

theorem State.insFlush_kept {s t : State} (h : Kept s t) (i : Nat) : Kept s (State.insFlush t i) := by
  unfold State.insFlush
  try simp only []
  repeat' (first | with_reducible assumption | (with_reducible apply State.insRecord_kept) | (with_reducible apply State.modCore_kept) | split | (simp only [Kept.upd_iff]))

theorem State.insTarget_kept {s t : State} (h : Kept s t) (i : Nat) (code : Nat) (aux : Nat) (data : Nat) : Kept s (State.insTarget t i code aux data) := by
  unfold State.insTarget
  try simp only []
  repeat' (first | with_reducible assumption | (with_reducible apply State.insFlush_kept) | (with_reducible apply State.insRecord_kept) | split)

theorem State.insBranch_kept {s t : State} (h : Kept s t) (i : Nat) (taken : Bool) : Kept s (State.insBranch t i taken) := by
  unfold State.insBranch
  try simp only []
  repeat' (first | with_reducible assumption | (with_reducible apply State.modCore_kept) | (with_reducible apply State.insFlush_kept) | split | (simp only [Kept.upd_iff]))

theorem State.showRun_kept {s t : State} (h : Kept s t) (i : Nat) : Kept s (State.showRun t i) := by
  unfold State.showRun
  try simp only []
  repeat' (first | with_reducible assumption | (with_reducible apply State.setCoreState_kept) | split)

theorem State.enterHandler_kept {s t : State} (h : Kept s t) (i : Nat) (epc : Nat) (cause : Nat) (val : Nat) (off : Nat) : Kept s (State.enterHandler t i epc cause val off) := by
  unfold State.enterHandler
  try simp only []
  repeat' (first | with_reducible assumption | (with_reducible apply State.modCore_kept) | (with_reducible apply State.showRun_kept) | (with_reducible apply State.p_kept) | (with_reducible apply State.insTarget_kept))

theorem State.coreFault_kept {s t : State} (h : Kept s t) (i : Nat) (epc : Nat) (cause : Nat) (val : Nat) : Kept s (State.coreFault t i epc cause val) := by
  unfold State.coreFault
  try simp only []
  repeat' (first | with_reducible assumption | (with_reducible apply State.modCore_kept) | (with_reducible apply State.coreFail_kept) | (with_reducible apply State.coreCrash_kept) | (with_reducible apply State.enterHandler_kept) | (with_reducible apply State.count_kept) | (with_reducible apply State.raise_kept) | split | (simp only [Kept.upd_iff]))

theorem State.retire_kept {s t : State} (h : Kept s t) (i : Nat) (pc : Nat) : Kept s (State.retire t i pc) := by
  unfold State.retire
  try simp only []
  repeat' (first | with_reducible assumption | (with_reducible apply State.modCore_kept) | (with_reducible apply State.showRun_kept) | (with_reducible apply State.count_kept) | (with_reducible apply State.insTarget_kept) | split | (simp only [Kept.upd_iff]))

/-- The state in which an instruction ends is kept from s. -/
def Ends.Kept (s : State) : Ends → Prop
  | .fin t => Machine.Kept s t
  | .next t _ => Machine.Kept s t
  | .wait t _ => Machine.Kept s t
  | .trap t _ _ => Machine.Kept s t

theorem State.conclude_kept {s t : State} (i : Nat) {e : Ends} (h : e.Kept s) : Kept s (t.conclude i e) := by
  unfold State.conclude
  cases e with
  | fin u => exact h
  | next u pc =>
    simp only []
    split
    · exact h
    · split
      · exact State.retire_kept h _ _
      · exact State.coreFault_kept (State.retire_kept h _ _) _ _ _ _
  | wait u w => exact State.setCoreState_kept (State.modCore_kept h _ _) _ _
  | trap u c v => exact State.coreFault_kept h _ _ _ _

theorem State.with_kept {s t : State} (h : Kept s t) (i : Nat) (c : Core) : (t.with i c).Kept s := State.modCore_kept h _ _

theorem State.legal_kept {s t : State} (h : Kept s t) (ok : Bool) (w : Word) {k : Ends} (hk : k.Kept s) : (t.legal ok w k).Kept s := by
  unfold State.legal; split
  · exact hk
  · exact h

theorem State.priv_kept {s t : State} (h : Kept s t) (c : Core) (w : Word) {k : Ends} (hk : k.Kept s) : (t.priv c w k).Kept s := by
  unfold State.priv; split
  · exact hk
  · exact h

theorem State.goTo_kept {s t u : State} (h : Kept s t) (target : Nat) (hu : Kept s u) : (t.goTo target u).Kept s := by
  unfold State.goTo; split
  · exact hu
  · exact h

theorem State.storeFault_kept {s t : State} (h : Kept s t) (i : Nat) (a : Nat) : Kept s (State.storeFault t i a) := by
  unfold State.storeFault
  try simp only []
  repeat' (first | with_reducible assumption | (with_reducible apply State.modCore_kept) | (with_reducible apply State.coreFault_kept) | (simp only [Kept.upd_iff]))

theorem State.mark_kept {s t : State} (h : Kept s t) (a : Nat) : Kept s (State.mark t a) := by
  unfold State.mark
  try simp only []
  repeat' (first | with_reducible assumption | split | (simp only [Kept.upd_iff]))

/-- The state after a read, or after one answered with an error, is kept from s. -/
def ReadKept {α : Type} (s : State) : Except (State × Nat × Nat) (α × State) → Prop
  | .error e => Kept s e.1
  | .ok r => Kept s r.2

theorem State.coreRead_kept {s t : State} (h : Kept s t) (i a w ea : Nat) (own : Bool) : ReadKept s (t.coreRead i a w ea own) := by
  unfold State.coreRead
  simp only []
  repeat' split
  · exact h
  · exact h
  · exact State.busRead_kept h _ _ _
  · exact State.busRead_kept h _ _ _

theorem State.coreWrite_kept {s t : State} (h : Kept s t) (i a w v ea : Nat) (own : Bool) : Kept s (t.coreWrite i a w v ea own) := by
  unfold State.coreWrite
  simp only []
  repeat' split
  · exact State.store_kept h _ _ _
  · exact State.modCore_kept (State.busWrite_kept h _ _ _ _) _ _
  · exact State.busWrite_kept h _ _ _ _

theorem State.badData_kept {s t : State} (h : Kept s t) (a : Nat) (bad : Bool) : Kept s (State.badData t a bad) := by
  unfold State.badData
  try simp only []
  repeat' (first | with_reducible assumption | (with_reducible apply State.mark_kept) | (with_reducible apply State.fixed_kept) | split)

theorem State.wedgeHit_kept {s t : State} (h : Kept s t) (i : Nat) (rs : BitVec 5) (x pc : Nat) : (t.wedgeHit i rs x pc).Kept s :=
  State.modCore_kept h _ _

theorem State.edgeFor_kept {s t : State} (h : Kept s t) (i src : Nat) (falling : Bool) (x : Nat) : Kept s (t.edgeFor i src falling x) := by
  unfold State.edgeFor
  split
  · split
    · exact State.conclude_kept _ (State.wedgeHit_kept h _ _ _ _)
    · exact h
  · exact h

theorem State.ringCopy_kept {s t : State} (h : Kept s t) (i : Nat) (rt : BitVec 5) (ea r : Nat) (push : Bool) (pc : Nat) :
    (t.ringCopy i rt ea r push pc).Kept s := by
  unfold State.ringCopy
  simp only []
  repeat' split
  · exact h
  · exact State.modCore_kept (State.ringPutC_kept h _ _) _ _
  · exact h
  · exact State.modCore_kept (State.ringPop_kept (State.store_kept h _ _ _) _) _ _

theorem State.ringRetry_kept {s t : State} (h : Kept s t) (i : Nat) (rt : BitVec 5) (ea r : Nat) (push : Bool) : Kept s (t.ringRetry i rt ea r push) := by
  unfold State.ringRetry
  simp only []
  repeat' split
  · exact State.conclude_kept _ (State.modCore_kept (State.ringRefused_kept h _) _ _)
  · exact State.conclude_kept _ (State.ringCopy_kept h _ _ _ _ _ _)
  · exact h

theorem State.readPieces_kept (i w : Nat) (own : Bool) (c : Nat) : ∀ {s t : State} (_ : Kept s t) (a ea : Nat),
    ReadKept s (t.readPieces i w own c a ea) := by
  induction c with
  | zero => intro s t h a ea; exact h
  | succ c ih =>
    intro s t h a ea
    unfold State.readPieces
    have h1 := State.coreRead_kept h i a w ea own
    revert h1
    cases t.coreRead i a w ea own with
    | error e => exact id
    | ok r =>
      intro h1
      have h2 := ih h1 (a + w) (ea + w)
      revert h2
      simp only []
      cases r.2.readPieces i w own c (a + w) (ea + w) with
      | error e => exact id
      | ok q => exact id

theorem State.writeLanes_kept (a : Nat) (v : VReg) (n : Nat) : ∀ {s t : State} (_ : Kept s t) (k : Nat),
    Kept s (t.writeLanes a v n k) := by
  induction n with
  | zero => intro s t h k; exact State.store_kept h _ _ _
  | succ n ih => intro s t h k; exact ih (State.store_kept h _ _ _) _

theorem State.writeVector_kept {s t : State} (h : Kept s t) (i : Nat) (a : Nat) (ea : Nat) (own : Bool) (v : VReg) (n : Nat) : Kept s (State.writeVector t i a ea own v n) := by
  unfold State.writeVector
  try simp only []
  repeat' (first | with_reducible assumption | (with_reducible apply State.writeLanes_kept) | (with_reducible apply State.store_kept) | (with_reducible apply State.bwMem_kept) | (with_reducible apply State.coreWrite_kept) | split)

theorem State.tblEntry_kept {s t : State} (h : Kept s t) (i : Nat) (own : Bool) (a ea k : Nat) : ReadKept s (t.tblEntry i own a ea k) := by
  unfold State.tblEntry
  have h1 := State.coreRead_kept h i (a + 8 + 2 * k) 2 (ea + 8 + 2 * k) own
  revert h1
  cases t.coreRead i (a + 8 + 2 * k) 2 (ea + 8 + 2 * k) own with
  | error e => exact id
  | ok r => exact id

theorem State.tblLane_kept {s t : State} (h : Kept s t) (i : Nat) (own : Bool) (a ea n : Nat) (wrap : Bool) (u : Nat) :
    ReadKept s (t.tblLane i own a ea n wrap u) := by
  unfold State.tblLane
  extract_lets x k
  have h1 := State.tblEntry_kept h i own a ea k
  revert h1
  cases t.tblEntry i own a ea k with
  | error e => exact id
  | ok r =>
    intro h1
    simp only []
    have h2 := State.tblEntry_kept h1 i own a ea (if wrap = true then (k + 1) % n else min (k + 1) (n - 1))
    revert h2
    cases r.2.tblEntry i own a ea (if wrap = true then (k + 1) % n else min (k + 1) (n - 1)) with
    | error e => exact id
    | ok q => exact id

theorem State.tblLanes_kept (i : Nat) (own : Bool) (a ea n : Nat) (wrap : Bool) (v : VReg) (c : Nat) : ∀ {s t : State} (_ : Kept s t) (k : Nat),
    match t.tblLanes i own a ea n wrap v c k with
    | .error e => Kept s e.1
    | .ok r => Kept s r.2.2 := by
  induction c with
  | zero => intro s t h k; exact h
  | succ c ih =>
    intro s t h k
    unfold State.tblLanes
    have h1 := State.tblLane_kept h i own a ea n wrap (ofSigned 16 (v.lane k))
    revert h1
    cases t.tblLane i own a ea n wrap (ofSigned 16 (v.lane k)) with
    | error e => exact id
    | ok r =>
      intro h1
      simp only []
      have h2 := ih h1 (k + 1)
      revert h2
      cases r.2.tblLanes i own a ea n wrap v c (k + 1) with
      | error e => exact id
      | ok q => exact id

theorem State.coreTick_kept {s t : State} (h : Kept s t) (i : Nat) : Kept s (State.coreTick t i) := by
  unfold State.coreTick
  try simp only []
  repeat' (first | with_reducible assumption | (with_reducible apply State.count_kept) | split)

theorem State.missedDeadlines_kept {s t : State} (h : Kept s t) (k : Nat) : Kept s (State.missedDeadlines t k) := by
  unfold State.missedDeadlines
  try simp only []
  repeat' (first | with_reducible assumption | (with_reducible apply State.spoilWhere_kept) | split)

theorem State.portTick_kept {s t : State} (h : Kept s t) : Kept s (State.portTick t) := by
  unfold State.portTick
  try simp only []
  repeat' (first | with_reducible assumption | (with_reducible refine Kept.forRange _ _ _ ?_ ?_) | (intro _ _ _) | (with_reducible apply State.eolTick_kept) | (with_reducible apply State.hvCarrier_kept) | (with_reducible apply State.publish_kept) | (with_reducible apply State.bwPublish_kept))

theorem State.tick_kept {s t : State} (h : Kept s t) : Kept s (State.tick t) := by
  unfold State.tick
  try simp only []
  repeat' (first | with_reducible assumption | (with_reducible refine Kept.forRange _ _ _ ?_ ?_) | (intro _ _ _) | (with_reducible apply State.missedDeadlines_kept) | (with_reducible apply State.portTick_kept) | (with_reducible apply State.coreTick_kept) | (with_reducible apply State.setStage_kept) | split | (simp only [Kept.upd_iff]))

end Sys2Proof.Machine
end

