-- ==== Sys2Proof/Laws/KeptExec.lean ====
section
/-! SUPPORT. How each command ends: in the state as it was, or in one kept from it. -/

namespace Sys2Proof.Machine

set_option linter.unusedVariables false
set_option linter.unusedSimpArgs false

/-- A command's outcome: the state as it was, or one kept from it with what it caused settled. -/
def Ran (s : State) (o : Host.Outcome State Fault Refusal) : Prop := o = .next s ∨ ∃ t, Kept s t ∧ o = done t

theorem Ran.idle (s : State) : Ran s (.next s) := Or.inl rfl

theorem State.gate_ran {s : State} (q : Requester) {o : Host.Outcome State Fault Refusal} (h : Ran s o) : Ran s (s.gate q o) := by
  unfold State.gate
  split
  · exact Ran.idle s
  · exact h

theorem Ran.done {s t : State} (h : Kept s t) : Ran s (Machine.done t) := Or.inr ⟨t, h, rfl⟩

theorem State.issue_ran (s : State) (i : Nat) (f : State → Core → Ends) (h : (f s (s.coreOf i)).Kept s) : Ran s (s.issue i f) := by
  unfold State.issue
  split
  · split
    · exact Ran.done (State.coreFault_kept (Kept.refl s) _ _ _ _)
    · exact Ran.done (State.conclude_kept _ h)
  · exact Ran.idle s

theorem State.opA_ran (s : State) (i : Nat) (rd ra rb : BitVec 5) (f : Word → Word → Word) : Ran s (s.opA i rd ra rb f) :=
  s.issue_ran i _ (State.with_kept (Kept.refl s) _ _)

theorem State.opB_ran (s : State) (i : Nat) (rd ra : BitVec 5) (f : Word → Word) : Ran s (s.opB i rd ra f) :=
  s.issue_ran i _ (State.with_kept (Kept.refl s) _ _)

theorem State.shiftImm_ran (s : State) (i : Nat) (op : BitVec 6) (rd ra : BitVec 5) (imm : BitVec 16) (f : Word → Nat → Word) :
    Ran s (s.shiftImm i op rd ra imm f) :=
  s.issue_ran i _ (State.legal_kept (Kept.refl s) _ _ (State.with_kept (Kept.refl s) _ _))

theorem State.divide_ran (s : State) (i : Nat) (func : BitVec 11) (rd ra rb : BitVec 5) (f : Word → Word → Word × Word × Bool) :
    Ran s (s.divide i func rd ra rb f) :=
  s.issue_ran i _ (State.legal_kept (Kept.refl s) _ _ (State.with_kept (Kept.refl s) _ _))

theorem State.branch_ran (s : State) (i : Nat) (ra rb : BitVec 5) (disp : BitVec 16) (cond : Word → Word → Bool) :
    Ran s (s.branch i ra rb disp cond) := by
  refine s.issue_ran i _ ?_
  split
  · exact State.goTo_kept (Kept.refl s) _ (State.insBranch_kept (Kept.refl s) _ _)
  · exact State.insBranch_kept (Kept.refl s) _ _

theorem State.vecOp_ran (s : State) (i : Nat) (word : Word) (ok : Bool) (f : Core → Core) : Ran s (s.vecOp i word ok f) :=
  s.issue_ran i _ (State.legal_kept (Kept.refl s) _ _ (State.with_kept (Kept.refl s) _ _))

theorem State.eaJudge_error {s : State} {i : Nat} {c : Core} {word : Word} {ea n align : Nat} {write : Bool} {e : State × Nat × Nat}
    (h : s.eaJudge i c word ea n align write = .error e) : e.1 = s := by
  unfold State.eaJudge at h
  split at h
  · cases h; rfl
  · split at h
    · cases h; rfl
    · split at h
      · split at h
        · cases h
        · cases h; rfl
      · cases h; rfl

theorem State.load_ran (s : State) (i : Nat) (op : BitVec 6) (rd ra : BitVec 5) (imm : BitVec 16) (bad : Bool) (w : Nat) (ok : Bool)
    (put : Core → Nat → Core) : Ran s (s.load i op rd ra imm bad w ok put) := by
  refine s.issue_ran i _ ?_
  simp only []
  refine State.legal_kept (Kept.refl s) _ _ ?_
  split
  · rename_i e he; show Kept s e.1; rw [State.eaJudge_error he]; exact Kept.refl s
  · rename_i x hx
    have h1 := State.coreRead_kept (State.badData_kept (Kept.refl s) x.1 bad) i x.1 w ((s.coreOf i).ea ra imm) x.2
    revert h1
    cases (s.badData x.1 bad).coreRead i x.1 w ((s.coreOf i).ea ra imm) x.2 with
    | error e => exact id
    | ok r => intro h1; exact State.modCore_kept h1 _ _

theorem State.storeOp_ran (s : State) (i : Nat) (op : BitVec 6) (rd ra : BitVec 5) (imm : BitVec 16) (w : Nat) (ok : Bool)
    (v : Core → Nat) : Ran s (s.storeOp i op rd ra imm w ok v) := by
  refine s.issue_ran i _ ?_
  simp only []
  refine State.legal_kept (Kept.refl s) _ _ ?_
  split
  · rename_i e he; show Kept s e.1; rw [State.eaJudge_error he]; exact Kept.refl s
  · exact State.coreWrite_kept (Kept.refl s) _ _ _ _ _ _

theorem State.ringOp_ran (s : State) (i : Nat) (op : BitVec 6) (rt rs : BitVec 5) (imm : BitVec 16) (push : Bool) :
    Ran s (s.ringOp i op rt rs imm push) := by
  refine s.issue_ran i _ ?_
  simp only []
  refine State.legal_kept (Kept.refl s) _ _ ?_
  repeat' split
  all_goals first
    | exact Kept.refl s
    | exact State.modCore_kept (State.ringRefused_kept (Kept.refl s) _) _ _
    | exact State.ringCopy_kept (Kept.refl s) _ _ _ _ _ _
    | exact State.count_kept (Kept.refl s) _ _ _
    | exact State.modCore_kept (State.count_kept (Kept.refl s) _ _ _) _ _
    | exact State.modCore_kept (Kept.refl s) _ _

theorem State.claimOp_ran (s : State) (i : Nat) (op : BitVec 6) (rt rs : BitVec 5) (imm : BitVec 16) (free : Bool) :
    Ran s (s.claimOp i op rt rs imm free) :=
  s.issue_ran i _ (State.legal_kept (Kept.refl s) _ _ (State.priv_kept (Kept.refl s) _ _
    (State.modCore_kept (State.judgeClaim_kept (Kept.refl s) _ _ _) _ _)))

theorem execDescriptorConsume_ran (n : Nat) (s : State) : Ran s (execDescriptorConsume n s) := by
  unfold execDescriptorConsume
  try simp only []
  repeat' (first | with_reducible exact Kept.refl _ | with_reducible exact Ran.idle _ | with_reducible assumption | (with_reducible apply Ran.done) | (with_reducible apply State.ringPop_kept) | (with_reducible apply State.addFolio_kept) | (with_reducible apply State.refuseStream_kept) | split | (simp only [Kept.upd_iff]))

theorem execHeldRecordRelease_ran (n : Nat) (s : State) : Ran s (execHeldRecordRelease n s) := by
  unfold execHeldRecordRelease
  try simp only []
  repeat' (first | with_reducible exact Kept.refl _ | with_reducible exact Ran.idle _ | with_reducible assumption | (with_reducible apply Ran.done) | (with_reducible apply State.releaseOne_kept))

theorem execBucketUpdate_ran (s : State) : Ran s (execBucketUpdate s) := by
  unfold execBucketUpdate
  try simp only []
  repeat' (first | with_reducible exact Kept.refl _ | with_reducible exact Ran.idle _ | with_reducible assumption | (with_reducible apply Ran.done) | (with_reducible apply State.bucketUpdate_kept) | split)

theorem execGathChoice_ran (s : State) : Ran s (execGathChoice s) := by
  unfold execGathChoice
  try simp only []
  repeat' (first | with_reducible exact Kept.refl _ | with_reducible exact Ran.idle _ | with_reducible assumption | (with_reducible apply Ran.done) | (with_reducible apply State.setActive_kept) | (with_reducible apply State.sigJudge_kept) | (with_reducible apply State.runWaste_kept) | (with_reducible apply State.countPasses_kept) | (with_reducible apply State.modFolio_kept) | split | (simp only [Kept.upd_iff]))

theorem execPreregEdge_ran (stamp : Nat) (s : State) : Ran s (execPreregEdge stamp s) := by
  unfold execPreregEdge
  try simp only []
  repeat' (first | with_reducible exact Kept.refl _ | with_reducible exact Ran.idle _ | with_reducible assumption | (with_reducible apply Ran.done) | (with_reducible apply State.modFolio_kept) | split | (simp only [Kept.upd_iff]))

theorem execSewPointFix_ran (st : Nat) (fsn : Nat) (purgeOk : Bool) (s : State) : Ran s (execSewPointFix st fsn purgeOk s) := by
  unfold execSewPointFix
  try simp only []
  repeat' (first | with_reducible exact Kept.refl _ | with_reducible exact Ran.idle _ | with_reducible assumption | (with_reducible apply Ran.done) | (with_reducible apply State.adjustGap_kept) | (with_reducible apply State.modFolio_kept) | (with_reducible apply State.folioRecord_kept) | split | (simp only [Kept.upd_iff]))

theorem execSewnWithdraw_ran (st : Nat) (fsn : Nat) (s : State) : Ran s (execSewnWithdraw st fsn s) := by
  unfold execSewnWithdraw
  try simp only []
  repeat' (first | with_reducible exact Kept.refl _ | with_reducible exact Ran.idle _ | with_reducible assumption | (with_reducible apply Ran.done) | (with_reducible apply State.modFolio_kept) | split | (simp only [Kept.upd_iff]))

theorem execSewingPointReached_ran (st : Nat) (fsn : Nat) (s : State) : Ran s (execSewingPointReached st fsn s) := by
  unfold execSewingPointReached
  try simp only []
  repeat' (first | with_reducible exact Kept.refl _ | with_reducible exact Ran.idle _ | with_reducible assumption | (with_reducible apply Ran.done) | (with_reducible apply State.charge_kept) | (with_reducible apply State.hywSewn_kept) | (with_reducible apply State.modFolio_kept) | (with_reducible apply State.closeSig_kept) | (with_reducible apply State.fixed_kept) | (with_reducible apply State.spoilWhere_kept) | split | (simp only [Kept.upd_iff]))

theorem execRegWindowExpire_ran (st : Nat) (fsn : Nat) (verso : Bool) (s : State) : Ran s (execRegWindowExpire st fsn verso s) := by
  unfold execRegWindowExpire
  try simp only []
  repeat' (first | with_reducible exact Kept.refl _ | with_reducible exact Ran.idle _ | with_reducible assumption | (with_reducible apply Ran.done) | (with_reducible apply State.spoilWhere_kept) | split)

theorem execSideImaged_ran (st : Nat) (fsn : Nat) (k : Nat) (s : State) : Ran s (execSideImaged st fsn k s) := by
  unfold execSideImaged
  try simp only []
  repeat' (first | with_reducible exact Kept.refl _ | with_reducible exact Ran.idle _ | with_reducible assumption | (with_reducible apply Ran.done) | (with_reducible apply State.modFolio_kept) | (with_reducible apply State.folioRecord_kept) | split | (simp only [Kept.upd_iff]))

theorem execSheetEdge_ran (sensor : SheetSensor) (stamp : Nat) (s : State) : Ran s (execSheetEdge sensor stamp s) := by
  unfold execSheetEdge
  try simp only []
  repeat' (first | with_reducible exact Kept.refl _ | with_reducible exact Ran.idle _ | with_reducible assumption | (with_reducible apply Ran.done) | (with_reducible apply State.modFolio_kept) | split | (simp only [Kept.upd_iff]))

theorem execEdgeWindowExpire_ran (st : Nat) (fsn : Nat) (trailing : Bool) (s : State) : Ran s (execEdgeWindowExpire st fsn trailing s) := by
  unfold execEdgeWindowExpire
  try simp only []
  repeat' (first | with_reducible exact Kept.refl _ | with_reducible exact Ran.idle _ | with_reducible assumption | (with_reducible apply Ran.done) | (with_reducible apply State.modFolio_kept) | (with_reducible apply State.spoilWhere_kept) | split | (simp only [Kept.upd_iff]))

theorem execExitConfirmed_ran (st : Nat) (fsn : Nat) (s : State) : Ran s (execExitConfirmed st fsn s) := by
  unfold execExitConfirmed
  try simp only []
  repeat' (first | with_reducible exact Kept.refl _ | with_reducible exact Ran.idle _ | with_reducible assumption | (with_reducible apply Ran.done) | (with_reducible apply State.modFolio_kept) | (with_reducible apply State.folioRecord_kept) | split | (simp only [Kept.upd_iff]))

theorem execPurgeConfirm_ran (s : State) : Ran s (execPurgeConfirm s) := by
  unfold execPurgeConfirm
  try simp only []
  repeat' (first | with_reducible exact Kept.refl _ | with_reducible exact Ran.idle _ | with_reducible assumption | (with_reducible apply Ran.done) | (with_reducible apply State.completeFolio_kept) | (with_reducible apply State.modFolio_kept) | (with_reducible apply State.closeFsn_kept) | (with_reducible apply State.folioRecord_kept) | (with_reducible apply State.setStreamState_kept) | (with_reducible apply State.breakSig_kept) | (with_reducible apply State.unfeed_kept) | split)

theorem execPurgeFail_ran (binFull : Bool) (s : State) : Ran s (execPurgeFail binFull s) := by
  unfold execPurgeFail
  try simp only []
  repeat' (first | with_reducible exact Kept.refl _ | with_reducible exact Ran.idle _ | with_reducible assumption | (with_reducible apply Ran.done) | (with_reducible apply State.raise_kept) | split)

theorem execPurgePathRun_ran (s : State) : Ran s (execPurgePathRun s) := by
  unfold execPurgePathRun
  try simp only []
  repeat' (first | with_reducible exact Kept.refl _ | with_reducible exact Ran.idle _ | with_reducible assumption | (with_reducible apply Ran.done) | split | (simp only [Kept.upd_iff]))

theorem execPurgePathRunEnd_ran (s : State) : Ran s (execPurgePathRunEnd s) := by
  unfold execPurgePathRunEnd
  try simp only []
  repeat' (first | with_reducible exact Kept.refl _ | with_reducible exact Ran.idle _ | with_reducible assumption | (with_reducible apply Ran.done) | split | (simp only [Kept.upd_iff]))

theorem execScmdContinue_ran (q : Requester) (n : Nat) (s : State) : Ran s (execScmdContinue q n s) := by
  unfold execScmdContinue
  try simp only []
  repeat' (first | with_reducible exact Kept.refl _ | with_reducible exact Ran.idle _ | with_reducible assumption | (with_reducible apply Ran.done) | (with_reducible apply State.gate_ran) | (with_reducible apply State.scmd_kept))

theorem execScmdRetry_ran (q : Requester) (n : Nat) (s : State) : Ran s (execScmdRetry q n s) := by
  unfold execScmdRetry
  try simp only []
  repeat' (first | with_reducible exact Kept.refl _ | with_reducible exact Ran.idle _ | with_reducible assumption | (with_reducible apply Ran.done) | (with_reducible apply State.gate_ran) | (with_reducible apply State.scmd_kept))

theorem execScmdAbort_ran (q : Requester) (n : Nat) (s : State) : Ran s (execScmdAbort q n s) := by
  unfold execScmdAbort
  try simp only []
  repeat' (first | with_reducible exact Kept.refl _ | with_reducible exact Ran.idle _ | with_reducible assumption | (with_reducible apply Ran.done) | (with_reducible apply State.gate_ran) | (with_reducible apply State.scmd_kept))

theorem execScmdOperatorDelivered_ran (q : Requester) (n : Nat) (s : State) : Ran s (execScmdOperatorDelivered q n s) := by
  unfold execScmdOperatorDelivered
  try simp only []
  repeat' (first | with_reducible exact Kept.refl _ | with_reducible exact Ran.idle _ | with_reducible assumption | (with_reducible apply Ran.done) | (with_reducible apply State.gate_ran) | (with_reducible apply State.scmd_kept))

theorem execScmdOperatorRemoved_ran (q : Requester) (n : Nat) (s : State) : Ran s (execScmdOperatorRemoved q n s) := by
  unfold execScmdOperatorRemoved
  try simp only []
  repeat' (first | with_reducible exact Kept.refl _ | with_reducible exact Ran.idle _ | with_reducible assumption | (with_reducible apply Ran.done) | (with_reducible apply State.gate_ran) | (with_reducible apply State.scmd_kept))

theorem execGathUnitReset_ran (q : Requester) (s : State) : Ran s (execGathUnitReset q s) := by
  unfold execGathUnitReset
  try simp only []
  repeat' (first | with_reducible exact Kept.refl _ | with_reducible exact Ran.idle _ | with_reducible assumption | (with_reducible apply Ran.done) | (with_reducible apply State.gate_ran) | (with_reducible apply State.gathUnitReset_kept))

theorem execGathCtrlWrite_ran (q : Requester) (v : Nat) (s : State) : Ran s (execGathCtrlWrite q v s) := by
  unfold execGathCtrlWrite
  try simp only []
  repeat' (first | with_reducible exact Kept.refl _ | with_reducible exact Ran.idle _ | with_reducible assumption | (with_reducible apply Ran.done) | (with_reducible apply State.gate_ran) | (with_reducible apply State.gathCtrlWrite_kept))

theorem execWebIndexEdge_ran (stamp : Nat) (s : State) : Ran s (execWebIndexEdge stamp s) := by
  unfold execWebIndexEdge
  try simp only []
  repeat' (first | with_reducible exact Kept.refl _ | with_reducible exact Ran.idle _ | with_reducible assumption | (with_reducible apply Ran.done) | split | (simp only [Kept.upd_iff]))

theorem execWebStop_ran (blank : Nat) (s : State) : Ran s (execWebStop blank s) := by
  unfold execWebStop
  try simp only []
  repeat' (first | with_reducible exact Kept.refl _ | with_reducible exact Ran.idle _ | with_reducible assumption | (with_reducible apply Ran.done) | split | (simp only [Kept.upd_iff]))

theorem execWebRestart_ran (s : State) : Ran s (execWebRestart s) := by
  unfold execWebRestart
  try simp only []
  repeat' (first | with_reducible exact Kept.refl _ | with_reducible exact Ran.idle _ | with_reducible assumption | (with_reducible apply Ran.done) | split | (simp only [Kept.upd_iff]))

theorem execStationEnable_ran (q : Requester) (k : Nat) (v : Nat) (s : State) : Ran s (execStationEnable q k v s) := by
  unfold execStationEnable
  try simp only []
  repeat' (first | with_reducible exact Kept.refl _ | with_reducible exact Ran.idle _ | with_reducible assumption | (with_reducible apply Ran.done) | (with_reducible apply State.gate_ran) | (with_reducible apply State.strCtrlWrite_kept) | split)

theorem execCalrunWrite_ran (q : Requester) (k : Nat) (on : Bool) (s : State) : Ran s (execCalrunWrite q k on s) := by
  unfold execCalrunWrite
  try simp only []
  repeat' (first | with_reducible exact Kept.refl _ | with_reducible exact Ran.idle _ | with_reducible assumption | (with_reducible apply Ran.done) | (with_reducible apply State.gate_ran) | (with_reducible apply State.strCtrlWrite_kept) | split)

theorem execApcSlot_ran (n : Nat) (k : Nat) (result : Nat) (s : State) : Ran s (execApcSlot n k result s) := by
  unfold execApcSlot
  try simp only []
  repeat' (first | with_reducible exact Kept.refl _ | with_reducible exact Ran.idle _ | with_reducible assumption | (with_reducible apply Ran.done) | (with_reducible apply State.modStr_kept) | (with_reducible apply State.lceResult_kept) | (with_reducible apply State.raise_kept) | split | (simp only [Kept.upd_iff]))

theorem execBdEdge_ran (k : Nat) (farEnd : Bool) (rising : Bool) (stamp : Nat) (s : State) : Ran s (execBdEdge k farEnd rising stamp s) := by
  unfold execBdEdge
  try simp only []
  repeat' (first | with_reducible exact Kept.refl _ | with_reducible exact Ran.idle _ | with_reducible assumption | (with_reducible apply Ran.done) | (with_reducible apply State.bdEdge_kept) | split)

theorem execScanSweepEnd_ran (k : Nat) (s : State) : Ran s (execScanSweepEnd k s) := by
  unfold execScanSweepEnd
  try simp only []
  repeat' (first | with_reducible exact Kept.refl _ | with_reducible exact Ran.idle _ | with_reducible assumption | (with_reducible apply Ran.done) | (with_reducible apply State.scanFault_kept) | split)

theorem execScanCaptureTimeout_ran (k : Nat) (s : State) : Ran s (execScanCaptureTimeout k s) := by
  unfold execScanCaptureTimeout
  try simp only []
  repeat' (first | with_reducible exact Kept.refl _ | with_reducible exact Ran.idle _ | with_reducible assumption | (with_reducible apply Ran.done) | (with_reducible apply State.scanFault_kept) | split)

theorem execScanCoil_ran (k : Nat) (icoil : Nat) (s : State) : Ran s (execScanCoil k icoil s) := by
  unfold execScanCoil
  try simp only []
  repeat' (first | with_reducible exact Kept.refl _ | with_reducible exact Ran.idle _ | with_reducible assumption | (with_reducible apply Ran.done) | (with_reducible apply State.p_kept) | (with_reducible apply State.scanFault_kept) | split)

theorem execLdcmdWrite_ran (q : Requester) (n : Nat) (k : Nat) (v : Nat) (s : State) : Ran s (execLdcmdWrite q n k v s) := by
  unfold execLdcmdWrite
  try simp only []
  repeat' (first | with_reducible exact Kept.refl _ | with_reducible exact Ran.idle _ | with_reducible assumption | (with_reducible apply Ran.done) | (with_reducible apply State.gate_ran) | (with_reducible apply State.ldcmdWrite_kept) | split)

theorem execLaneFrameSend_ran (n : Nat) (s : State) : Ran s (execLaneFrameSend n s) := by
  unfold execLaneFrameSend
  try simp only []
  repeat' (first | with_reducible exact Kept.refl _ | with_reducible exact Ran.idle _ | with_reducible assumption | (with_reducible apply Ran.done) | (with_reducible refine Kept.forRange _ _ _ ?_ ?_) | (intro _ _ _) | (with_reducible apply State.sendFrame_kept) | (with_reducible apply State.modStr_kept) | split | (simp only [Kept.upd_iff]))

theorem execLdFault_ran (k : Nat) (asserted : Bool) (s : State) : Ran s (execLdFault k asserted s) := by
  unfold execLdFault
  try simp only []
  repeat' (first | with_reducible exact Kept.refl _ | with_reducible exact Ran.idle _ | with_reducible assumption | (with_reducible apply Ran.done) | (with_reducible apply State.sensorLevel_kept) | split)

theorem execLaserDisClear_ran (k : Nat) (s : State) : Ran s (execLaserDisClear k s) := by
  unfold execLaserDisClear
  try simp only []
  repeat' (first | with_reducible exact Kept.refl _ | with_reducible exact Ran.idle _ | with_reducible assumption | (with_reducible apply Ran.done) | (with_reducible apply State.laserDisClear_kept) | split)

theorem execCalRunEnd_ran (k : Nat) (s : State) : Ran s (execCalRunEnd k s) := by
  unfold execCalRunEnd
  try simp only []
  repeat' (first | with_reducible exact Kept.refl _ | with_reducible exact Ran.idle _ | with_reducible assumption | (with_reducible apply Ran.done) | (with_reducible apply State.p_kept) | (with_reducible apply State.modStr_kept) | split | (simp only [Kept.upd_iff]))

theorem execIngGo_ran (q : Requester) (n : Nat) (v : Nat) (s : State) : Ran s (execIngGo q n v s) := by
  unfold execIngGo
  try simp only []
  repeat' (first | with_reducible exact Kept.refl _ | with_reducible exact Ran.idle _ | with_reducible assumption | (with_reducible apply Ran.done) | (with_reducible apply State.gate_ran) | (with_reducible apply State.ctxJobWrite_kept) | split)

theorem execCompressorHandoff_ran (m : Nat) (ecc : Bool) (s : State) : Ran s (execCompressorHandoff m ecc s) := by
  unfold execCompressorHandoff
  try simp only []
  repeat' (first | with_reducible exact Kept.refl _ | with_reducible exact Ran.idle _ | with_reducible assumption | (with_reducible apply Ran.done) | (with_reducible apply State.raise_kept) | (with_reducible apply State.ctxFail_kept) | (with_reducible apply State.modCtx_kept) | split | (simp only [Kept.upd_iff]))

theorem execBlockStored_ran (n : Nat) (s : State) : Ran s (execBlockStored n s) := by
  unfold execBlockStored
  try simp only []
  repeat' (first | with_reducible exact Kept.refl _ | with_reducible exact Ran.idle _ | with_reducible assumption | (with_reducible apply Ran.done) | (with_reducible apply State.wrBytes_kept) | (with_reducible apply State.wr_kept) | (with_reducible apply State.bwMem_kept) | (with_reducible apply State.modCtx_kept) | (with_reducible apply State.dropFinished_kept) | split | (simp only [Kept.upd_iff]))

theorem execRunTake_ran (n : Nat) (s : State) : Ran s (execRunTake n s) := by
  unfold execRunTake
  try simp only []
  repeat' (first | with_reducible exact Kept.refl _ | with_reducible exact Ran.idle _ | with_reducible assumption | (with_reducible apply Ran.done) | (with_reducible apply State.ringPop_kept) | (with_reducible apply State.raise_kept) | (with_reducible apply State.modCtx_kept) | (with_reducible apply State.inc_kept) | split | (simp only [Kept.upd_iff]))

theorem execRunwaitExpire_ran (n : Nat) (s : State) : Ran s (execRunwaitExpire n s) := by
  unfold execRunwaitExpire
  try simp only []
  repeat' (first | with_reducible exact Kept.refl _ | with_reducible exact Ran.idle _ | with_reducible assumption | (with_reducible apply Ran.done) | (with_reducible apply State.ctxFail_kept) | split)

theorem execSideIngestDone_ran (n : Nat) (s : State) : Ran s (execSideIngestDone n s) := by
  unfold execSideIngestDone
  try simp only []
  repeat' (first | with_reducible exact Kept.refl _ | with_reducible exact Ran.idle _ | with_reducible assumption | (with_reducible apply Ran.done) | (with_reducible apply State.p_kept) | (with_reducible apply State.sideIngested_kept) | split)

theorem execQringWrite_ran (q : Requester) (n : Nat) (v : Nat) (s : State) : Ran s (execQringWrite q n v s) := by
  unfold execQringWrite
  try simp only []
  repeat' (first | with_reducible exact Kept.refl _ | with_reducible exact Ran.idle _ | with_reducible assumption | (with_reducible apply Ran.done) | (with_reducible apply State.gate_ran) | (with_reducible apply State.qringWrite_kept) | split)

theorem execDcpJobPush_ran (q : Requester) (n : Nat) (lo : Nat) (hi : Nat) (st : Nat) (fsn : Nat) (verso : Bool) (s : State) : Ran s (execDcpJobPush q n lo hi st fsn verso s) := by
  unfold execDcpJobPush
  try simp only []
  repeat' (first | with_reducible exact Kept.refl _ | with_reducible exact Ran.idle _ | with_reducible assumption | (with_reducible apply Ran.done) | (with_reducible apply State.gate_ran) | (with_reducible apply State.dcpPush_kept) | split)

theorem execDcpBlockDecode_ran (n : Nat) (ecc : Bool) (s : State) : Ran s (execDcpBlockDecode n ecc s) := by
  unfold execDcpBlockDecode
  try simp only []
  repeat' (first | with_reducible exact Kept.refl _ | with_reducible exact Ran.idle _ | with_reducible assumption | (with_reducible apply Ran.done) | (with_reducible apply State.dcpEmit_kept) | (with_reducible apply State.modJob_kept) | (with_reducible apply State.incWrap_kept) | (with_reducible apply State.dcpBytes_kept) | (with_reducible apply State.count_kept) | (with_reducible apply State.dcpBad_kept) | split | (simp only [Kept.upd_iff]))

theorem execQstEcc_ran (n : Nat) (uncorrectable : Bool) (s : State) : Ran s (execQstEcc n uncorrectable s) := by
  unfold execQstEcc
  try simp only []
  repeat' (first | with_reducible exact Kept.refl _ | with_reducible exact Ran.idle _ | with_reducible assumption | (with_reducible apply Ran.done) | (with_reducible apply State.inc_kept) | (with_reducible apply State.fixed_kept) | (with_reducible apply State.dark_kept) | (with_reducible apply State.raiseSpoil_kept) | (with_reducible apply State.count_kept) | split)

theorem execDcpUnitReset_ran (n : Option Nat) (s : State) : Ran s (execDcpUnitReset n s) := by
  unfold execDcpUnitReset
  try simp only []
  repeat' (first | with_reducible exact Kept.refl _ | with_reducible exact Ran.idle _ | with_reducible assumption | (with_reducible apply Ran.done) | (with_reducible apply State.qstReset_kept) | (with_reducible apply State.dcpReset_kept) | split)

theorem execShwFlip_ran (q : Requester) (k : Nat) (v : Nat) (s : State) : Ran s (execShwFlip q k v s) := by
  unfold execShwFlip
  try simp only []
  repeat' (first | with_reducible exact Kept.refl _ | with_reducible exact Ran.idle _ | with_reducible assumption | (with_reducible apply Ran.done) | (with_reducible apply State.gate_ran) | (with_reducible apply State.shwFlip_kept) | split)

theorem execDmaRestart_ran (q : Requester) (c : Nat) (s : State) : Ran s (execDmaRestart q c s) := by
  unfold execDmaRestart
  try simp only []
  repeat' (first | with_reducible exact Kept.refl _ | with_reducible exact Ran.idle _ | with_reducible assumption | (with_reducible apply Ran.done) | (with_reducible apply State.gate_ran) | (with_reducible apply State.dmaRestart_kept) | split)

theorem execDmaStop_ran (q : Requester) (c : Nat) (s : State) : Ran s (execDmaStop q c s) := by
  unfold execDmaStop
  try simp only []
  repeat' (first | with_reducible exact Kept.refl _ | with_reducible exact Ran.idle _ | with_reducible assumption | (with_reducible apply Ran.done) | (with_reducible apply State.gate_ran) | (with_reducible apply State.dmaStop_kept) | split)

theorem execDmaUnitReset_ran (s : State) : Ran s (execDmaUnitReset s) := by
  unfold execDmaUnitReset
  try simp only []
  repeat' (first | with_reducible exact Kept.refl _ | with_reducible exact Ran.idle _ | with_reducible assumption | (with_reducible apply Ran.done) | (with_reducible apply State.dmaReset_kept))

theorem execProfileCopyDone_ran (n : Nat) (s : State) : Ran s (execProfileCopyDone n s) := by
  unfold execProfileCopyDone
  try simp only []
  repeat' (first | with_reducible exact Kept.refl _ | with_reducible exact Ran.idle _ | with_reducible assumption | (with_reducible apply Ran.done) | (with_reducible apply State.modSyn_kept) | split | (simp only [Kept.upd_iff]))

theorem execShadowCopy_ran (x : ShadowSet) (s : State) : Ran s (execShadowCopy x s) := by
  unfold execShadowCopy
  try simp only []
  repeat' (first | with_reducible exact Kept.refl _ | with_reducible exact Ran.idle _ | with_reducible assumption | (with_reducible apply Ran.done) | (with_reducible apply State.doCopy_kept) | (with_reducible apply State.phaseCopied_kept) | split)

theorem execShadowCopyStopped_ran (x : ShadowSet) (s : State) : Ran s (execShadowCopyStopped x s) := by
  unfold execShadowCopyStopped
  try simp only []
  repeat' (first | with_reducible exact Kept.refl _ | with_reducible exact Ran.idle _ | with_reducible assumption | (with_reducible apply Ran.done) | (with_reducible apply State.doCopy_kept) | split)

theorem execSynEnable_ran (q : Requester) (n : Nat) (on : Bool) (s : State) : Ran s (execSynEnable q n on s) := by
  unfold execSynEnable
  try simp only []
  repeat' (first | with_reducible exact Kept.refl _ | with_reducible exact Ran.idle _ | with_reducible assumption | (with_reducible apply Ran.done) | (with_reducible apply State.gate_ran) | (with_reducible apply State.synCtrlWrite_kept) | split)

theorem execSynLocked_ran (n : Nat) (s : State) : Ran s (execSynLocked n s) := by
  unfold execSynLocked
  try simp only []
  repeat' (first | with_reducible exact Kept.refl _ | with_reducible exact Ran.idle _ | with_reducible assumption | (with_reducible apply Ran.done) | (with_reducible apply State.p_kept) | (with_reducible apply State.setSynState_kept) | (with_reducible apply State.modSyn_kept) | (with_reducible apply State.latchEpoch_kept) | (with_reducible apply State.scanStart_kept) | split | (simp only [Kept.upd_iff]))

theorem execSynLock_ran (n : Nat) (cause : Nat) (s : State) : Ran s (execSynLock n cause s) := by
  unfold execSynLock
  try simp only []
  repeat' (first | with_reducible exact Kept.refl _ | with_reducible exact Ran.idle _ | with_reducible assumption | (with_reducible apply Ran.done) | (with_reducible refine Kept.forRange _ _ _ ?_ ?_) | (intro _ _ _) | (with_reducible apply State.synHold_kept) | (with_reducible apply State.p_kept) | split)

theorem execAlignValid_ran (n : Nat) (ofs : Nat) (s : State) : Ran s (execAlignValid n ofs s) := by
  unfold execAlignValid
  try simp only []
  repeat' (first | with_reducible exact Kept.refl _ | with_reducible exact Ran.idle _ | with_reducible assumption | (with_reducible apply Ran.done) | (with_reducible apply State.setWord_kept) | (with_reducible apply State.modSyn_kept) | (with_reducible apply State.setVid_kept) | (with_reducible apply State.setScan_kept) | split | (simp only [Kept.upd_iff]))

theorem execAlignMeasure_ran (n : Nat) (ofs : Nat) (s : State) : Ran s (execAlignMeasure n ofs s) := by
  unfold execAlignMeasure
  try simp only []
  repeat' (first | with_reducible exact Kept.refl _ | with_reducible exact Ran.idle _ | with_reducible assumption | (with_reducible apply Ran.done) | (with_reducible apply State.modSyn_kept) | split | (simp only [Kept.upd_iff]))

theorem execCkoenWrite_ran (v : Nat) (s : State) : Ran s (execCkoenWrite v s) := by
  unfold execCkoenWrite
  try simp only []
  repeat' (first | with_reducible exact Kept.refl _ | with_reducible exact Ran.idle _ | with_reducible assumption | (with_reducible apply Ran.done) | (with_reducible apply State.ckoenWrite_kept))

theorem execAmpLoopUpdate_ran (k : Nat) (s : State) : Ran s (execAmpLoopUpdate k s) := by
  unfold execAmpLoopUpdate
  try simp only []
  repeat' (first | with_reducible exact Kept.refl _ | with_reducible exact Ran.idle _ | with_reducible assumption | (with_reducible apply Ran.done) | (with_reducible apply State.ampUpdate_kept) | split)

theorem execRampRestart_ran (k : Nat) (s : State) : Ran s (execRampRestart k s) := by
  unfold execRampRestart
  try simp only []
  repeat' (first | with_reducible exact Kept.refl _ | with_reducible exact Ran.idle _ | with_reducible assumption | (with_reducible apply Ran.done) | (with_reducible apply State.rampRestart_kept) | split)

theorem execLeadOutEnd_ran (k : Nat) (s : State) : Ran s (execLeadOutEnd k s) := by
  unfold execLeadOutEnd
  try simp only []
  repeat' (first | with_reducible exact Kept.refl _ | with_reducible exact Ran.idle _ | with_reducible assumption | (with_reducible apply Ran.done) | (with_reducible apply State.leadOut_kept) | split)

theorem execFacetBd_ran (k : Nat) (stamp : Nat) (s : State) : Ran s (execFacetBd k stamp s) := by
  unfold execFacetBd
  try simp only []
  repeat' (first | with_reducible exact Kept.refl _ | with_reducible exact Ran.idle _ | with_reducible assumption | (with_reducible apply Ran.done) | (with_reducible apply State.polyFacet_kept) | (with_reducible apply State.facetEdge_kept) | split)

theorem execBdWindowExpire_ran (k : Nat) (farEnd : Bool) (s : State) : Ran s (execBdWindowExpire k farEnd s) := by
  unfold execBdWindowExpire
  try simp only []
  repeat' (first | with_reducible exact Kept.refl _ | with_reducible exact Ran.idle _ | with_reducible assumption | (with_reducible apply Ran.done) | (with_reducible apply State.facetMiss_kept) | (with_reducible apply State.edgeAbsent_kept) | split)

theorem execJrnRecordRequest_ran (type : Nat) (stream : Nat) (try_ : Nat) (stranded : Bool) (operator : Bool) (fsn : Nat) (stamp : Nat) (aux : Nat) (s : State) : Ran s (execJrnRecordRequest type stream try_ stranded operator fsn stamp aux s) := by
  unfold execJrnRecordRequest
  try simp only []
  repeat' (first | with_reducible exact Kept.refl _ | with_reducible exact Ran.idle _ | with_reducible assumption | (with_reducible apply Ran.done) | (with_reducible apply State.jrnRequest_kept) | split | (simp only [Kept.upd_iff]))

theorem execJrnCommitComplete_ran (b : ReadBack) (s : State) : Ran s (execJrnCommitComplete b s) := by
  unfold execJrnCommitComplete
  try simp only []
  repeat' (first | with_reducible exact Kept.refl _ | with_reducible exact Ran.idle _ | with_reducible assumption | (with_reducible apply Ran.done) | (with_reducible apply State.wrBytes_kept) | (with_reducible apply State.framWr_kept) | (with_reducible apply State.bwAdd_kept) | (with_reducible apply State.confirm_kept) | (with_reducible apply State.readBackFailed_kept) | split)

theorem execJrnMirror_ran (s : State) : Ran s (execJrnMirror s) := by
  unfold execJrnMirror
  try simp only []
  repeat' (first | with_reducible exact Kept.refl _ | with_reducible exact Ran.idle _ | with_reducible assumption | (with_reducible apply Ran.done) | (with_reducible apply State.p_kept) | (with_reducible apply State.raise_kept) | (with_reducible apply State.jrnLose_kept) | split)

theorem execFlushComplete_ran (s : State) : Ran s (execFlushComplete s) := by
  unfold execFlushComplete
  try simp only []
  repeat' (first | with_reducible exact Kept.refl _ | with_reducible exact Ran.idle _ | with_reducible assumption | (with_reducible apply Ran.done) | (with_reducible apply State.p_kept) | split | (simp only [Kept.upd_iff]))

theorem execFlush_ran (q : Requester) (s : State) : Ran s (execFlush q s) := by
  unfold execFlush
  try simp only []
  repeat' (first | with_reducible exact Kept.refl _ | with_reducible exact Ran.idle _ | with_reducible assumption | (with_reducible apply Ran.done) | (with_reducible apply State.gate_ran) | (with_reducible apply State.jrnCmd_kept))

theorem execInit_ran (q : Requester) (s : State) : Ran s (execInit q s) := by
  unfold execInit
  try simp only []
  repeat' (first | with_reducible exact Kept.refl _ | with_reducible exact Ran.idle _ | with_reducible assumption | (with_reducible apply Ran.done) | (with_reducible apply State.gate_ran) | (with_reducible apply State.jrnCmd_kept))

theorem execRelease_ran (q : Requester) (s : State) : Ran s (execRelease q s) := by
  unfold execRelease
  try simp only []
  repeat' (first | with_reducible exact Kept.refl _ | with_reducible exact Ran.idle _ | with_reducible assumption | (with_reducible apply Ran.done) | (with_reducible apply State.gate_ran) | (with_reducible apply State.jrnCmd_kept))

theorem execJournalReplay_ran (present : Bool) (s : State) : Ran s (execJournalReplay present s) := by
  unfold execJournalReplay
  try simp only []
  repeat' (first | with_reducible exact Kept.refl _ | with_reducible exact Ran.idle _ | with_reducible assumption | (with_reducible apply Ran.done) | (with_reducible apply State.clearEpochs_kept) | (with_reducible apply State.probe_kept) | (with_reducible apply State.p_kept) | (with_reducible apply State.replayFrom_kept) | (with_reducible apply State.journalHalt_kept) | (with_reducible apply State.replayBlank_kept) | split)

theorem execReplayComplete_ran (s : State) : Ran s (execReplayComplete s) := by
  unfold execReplayComplete
  try simp only []
  repeat' (first | with_reducible exact Kept.refl _ | with_reducible exact Ran.idle _ | with_reducible assumption | (with_reducible apply Ran.done) | (with_reducible apply State.p_kept) | (with_reducible apply State.setStreams_kept) | (with_reducible apply State.rebuildMirror_kept) | (with_reducible apply State.latchAll_kept) | (with_reducible apply State.headersFresh_kept) | (with_reducible apply State.postMarks_kept) | (with_reducible apply State.headerWrite_kept) | split | (simp only [Kept.upd_iff]))

theorem execReportPost_ran (s : State) : Ran s (execReportPost s) := by
  unfold execReportPost
  try simp only []
  repeat' (first | with_reducible exact Kept.refl _ | with_reducible exact Ran.idle _ | with_reducible assumption | (with_reducible apply Ran.done) | (with_reducible apply State.report_kept) | (with_reducible apply State.reportTo_kept) | (with_reducible apply State.enableStreams_kept) | (with_reducible apply State.p_kept) | split | (simp only [Kept.upd_iff]))

theorem execRidxWrite_ran (q : Requester) (v : Nat) (s : State) : Ran s (execRidxWrite q v s) := by
  unfold execRidxWrite
  try simp only []
  repeat' (first | with_reducible exact Kept.refl _ | with_reducible exact Ran.idle _ | with_reducible assumption | (with_reducible apply Ran.done) | (with_reducible apply State.gate_ran) | (with_reducible apply State.ridxWrite_kept))

theorem execRidxFetchDone_ran (s : State) : Ran s (execRidxFetchDone s) := by
  unfold execRidxFetchDone
  try simp only []
  repeat' (first | with_reducible exact Kept.refl _ | with_reducible exact Ran.idle _ | with_reducible assumption | (with_reducible apply Ran.done) | (with_reducible apply State.fetchDone_kept) | split)

theorem execFaultEvent_ran (source : Nat) (code : Nat) (detail : Nat) (cls : Cls) (reason : Nat) (folios : List (Nat × Nat)) (s : State) : Ran s (execFaultEvent source code detail cls reason folios s) := by
  unfold execFaultEvent
  try simp only []
  repeat' (first | with_reducible exact Kept.refl _ | with_reducible exact Ran.idle _ | with_reducible assumption | (with_reducible apply Ran.done) | (with_reducible apply State.raisePort_kept) | (with_reducible apply State.spoilWhere_kept) | split)

theorem execClassbDeadline_ran (k : Nat) (s : State) : Ran s (execClassbDeadline k s) := by
  unfold execClassbDeadline
  try simp only []
  repeat' (first | with_reducible exact Kept.refl _ | with_reducible exact Ran.idle _ | with_reducible assumption | (with_reducible apply Ran.done) | (with_reducible apply State.escalate_kept) | split)

theorem execFclAck_ran (index : Nat) (seq : Nat) (s : State) : Ran s (execFclAck index seq s) := by
  unfold execFclAck
  try simp only []
  repeat' (first | with_reducible exact Kept.refl _ | with_reducible exact Ran.idle _ | with_reducible assumption | (with_reducible apply Ran.done) | (with_reducible apply State.ack_kept))

theorem execFclForce_ran (q : Requester) (k : Nat) (v : Nat) (s : State) : Ran s (execFclForce q k v s) := by
  unfold execFclForce
  try simp only []
  repeat' (first | with_reducible exact Kept.refl _ | with_reducible exact Ran.idle _ | with_reducible assumption | (with_reducible apply Ran.done) | (with_reducible apply State.gate_ran) | (with_reducible apply State.forceWrite_kept) | split)

theorem execRingcfgWrite_ran (q : Requester) (v : Nat) (s : State) : Ran s (execRingcfgWrite q v s) := by
  unfold execRingcfgWrite
  try simp only []
  repeat' (first | with_reducible exact Kept.refl _ | with_reducible exact Ran.idle _ | with_reducible assumption | (with_reducible apply Ran.done) | (with_reducible apply State.gate_ran) | (with_reducible apply State.ringcfgWrite_kept))

theorem execFclSelf_ran (copy : Nat) (s : State) : Ran s (execFclSelf copy s) := by
  unfold execFclSelf
  try simp only []
  repeat' (first | with_reducible exact Kept.refl _ | with_reducible exact Ran.idle _ | with_reducible assumption | (with_reducible apply Ran.done) | (with_reducible apply State.retireCopy_kept) | (with_reducible apply State.raise_kept) | split)

theorem execLeave_ran (key : Nat) (s : State) : Ran s (execLeave key s) := by
  unfold execLeave
  try simp only []
  repeat' (first | with_reducible exact Kept.refl _ | with_reducible exact Ran.idle _ | with_reducible assumption | (with_reducible apply Ran.done) | (with_reducible apply State.kcmdWrite_kept))

theorem execStart_ran (n : Nat) (s : State) : Ran s (execStart n s) := by
  unfold execStart
  try simp only []
  repeat' (first | with_reducible exact Kept.refl _ | with_reducible exact Ran.idle _ | with_reducible assumption | (with_reducible apply Ran.done) | (with_reducible apply State.ckuCtrlWrite_kept) | split)

theorem execDin32_ran (q : Requester) (n : Nat) (v : Nat) (s : State) : Ran s (execDin32 q n v s) := by
  unfold execDin32
  try simp only []
  repeat' (first | with_reducible exact Kept.refl _ | with_reducible exact Ran.idle _ | with_reducible assumption | (with_reducible apply Ran.done) | (with_reducible apply State.gate_ran) | (with_reducible apply State.ckuDin_kept) | split)

theorem execDin8_ran (q : Requester) (n : Nat) (v : Nat) (s : State) : Ran s (execDin8 q n v s) := by
  unfold execDin8
  try simp only []
  repeat' (first | with_reducible exact Kept.refl _ | with_reducible exact Ran.idle _ | with_reducible assumption | (with_reducible apply Ran.done) | (with_reducible apply State.gate_ran) | (with_reducible apply State.ckuDin_kept) | split)

theorem execCkuCfgWrite_ran (q : Requester) (n : Nat) (v : Nat) (s : State) : Ran s (execCkuCfgWrite q n v s) := by
  unfold execCkuCfgWrite
  try simp only []
  repeat' (first | with_reducible exact Kept.refl _ | with_reducible exact Ran.idle _ | with_reducible assumption | (with_reducible apply Ran.done) | (with_reducible apply State.gate_ran) | (with_reducible apply State.ckuCfgWrite_kept) | split)

theorem execHostenWrite_ran (q : Requester) (v : Nat) (s : State) : Ran s (execHostenWrite q v s) := by
  unfold execHostenWrite
  try simp only []
  repeat' (first | with_reducible exact Kept.refl _ | with_reducible exact Ran.idle _ | with_reducible assumption | (with_reducible apply Ran.done) | (with_reducible apply State.gate_ran) | (with_reducible apply State.hostenWrite_kept))

theorem execObsRunWrite_ran (q : Requester) (run : Bool) (s : State) : Ran s (execObsRunWrite q run s) := by
  unfold execObsRunWrite
  try simp only []
  repeat' (first | with_reducible exact Kept.refl _ | with_reducible exact Ran.idle _ | with_reducible assumption | (with_reducible apply Ran.done) | (with_reducible apply State.gate_ran) | (with_reducible apply State.obsDenied_kept) | (with_reducible apply State.p_kept) | split)

theorem execCounterWrap_ran (k : Nat) (s : State) : Ran s (execCounterWrap k s) := by
  unfold execCounterWrap
  try simp only []
  repeat' (first | with_reducible exact Kept.refl _ | with_reducible exact Ran.idle _ | with_reducible assumption | (with_reducible apply Ran.done) | (with_reducible apply State.setObsCount_kept) | (with_reducible apply State.obsWrap_kept) | split)

theorem execBwWindowEdge_ran (s : State) : Ran s (execBwWindowEdge s) := by
  unfold execBwWindowEdge
  try simp only []
  repeat' (first | with_reducible exact Kept.refl _ | with_reducible exact Ran.idle _ | with_reducible assumption | (with_reducible apply Ran.done) | split | (simp only [Kept.upd_iff]))

theorem execTraceRecord_ran (stamp : Nat) (origin : Nat) (code : Nat) (aux : Nat) (type : Nat) (data : Nat) (s : State) : Ran s (execTraceRecord stamp origin code aux type data s) := by
  unfold execTraceRecord
  try simp only []
  repeat' (first | with_reducible exact Kept.refl _ | with_reducible exact Ran.idle _ | with_reducible assumption | (with_reducible apply Ran.done) | (with_reducible apply State.tracePush_kept) | split)

theorem execTraceOut_ran (err : Bool) (s : State) : Ran s (execTraceOut err s) := by
  unfold execTraceOut
  try simp only []
  repeat' (first | with_reducible exact Kept.refl _ | with_reducible exact Ran.idle _ | with_reducible assumption | (with_reducible apply Ran.done) | (with_reducible apply State.emitRecord_kept) | split | (simp only [Kept.upd_iff]))

theorem execMark_ran (q : Requester) (v : Nat) (s : State) : Ran s (execMark q v s) := by
  unfold execMark
  try simp only []
  repeat' (first | with_reducible exact Kept.refl _ | with_reducible exact Ran.idle _ | with_reducible assumption | (with_reducible apply Ran.done) | (with_reducible apply State.gate_ran) | (with_reducible apply State.obsDenied_kept) | (with_reducible apply State.markWrite_kept) | split)

theorem execMotRun_ran (n : Nat) (dir : Bool) (s : State) : Ran s (execMotRun n dir s) := by
  unfold execMotRun
  try simp only []
  repeat' (first | with_reducible exact Kept.refl _ | with_reducible exact Ran.idle _ | with_reducible assumption | (with_reducible apply Ran.done) | (with_reducible apply State.motRun_kept))

theorem execMotSpeed_ran (n : Nat) (v : Nat) (s : State) : Ran s (execMotSpeed n v s) := by
  unfold execMotSpeed
  try simp only []
  repeat' (first | with_reducible exact Kept.refl _ | with_reducible exact Ran.idle _ | with_reducible assumption | (with_reducible apply Ran.done) | (with_reducible apply State.motSpeed_kept))

theorem execMotGear_ran (n : Nat) (on : Bool) (s : State) : Ran s (execMotGear n on s) := by
  unfold execMotGear
  try simp only []
  repeat' (first | with_reducible exact Kept.refl _ | with_reducible exact Ran.idle _ | with_reducible assumption | (with_reducible apply Ran.done) | (with_reducible apply State.motGear_kept))

theorem execMotCoast_ran (n : Nat) (s : State) : Ran s (execMotCoast n s) := by
  unfold execMotCoast
  try simp only []
  repeat' (first | with_reducible exact Kept.refl _ | with_reducible exact Ran.idle _ | with_reducible assumption | (with_reducible apply Ran.done) | (with_reducible apply State.motCoast_kept))

theorem execMotVcmd_ran (n : Nat) (v : Nat) (s : State) : Ran s (execMotVcmd n v s) := by
  unfold execMotVcmd
  try simp only []
  repeat' (first | with_reducible exact Kept.refl _ | with_reducible exact Ran.idle _ | with_reducible assumption | (with_reducible apply Ran.done) | (with_reducible apply State.motVcmd_kept))

theorem execPwmPeriodStart_ran (n : Nat) (x : MotSample) (s : State) : Ran s (execPwmPeriodStart n x s) := by
  unfold execPwmPeriodStart
  try simp only []
  repeat' (first | with_reducible exact Kept.refl _ | with_reducible exact Ran.idle _ | with_reducible assumption | (with_reducible apply Ran.done) | (with_reducible apply State.periodCopies_kept) | (with_reducible apply State.count_kept) | (with_reducible apply State.measure_kept) | (with_reducible apply State.gearStep_kept) | (with_reducible apply State.periodStep_kept) | (with_reducible apply State.brakeStep_kept) | split)

theorem execMotOffsetDone_ran (n : Nat) (a : Int) (b : Int) (s : State) : Ran s (execMotOffsetDone n a b s) := by
  unfold execMotOffsetDone
  try simp only []
  repeat' (first | with_reducible exact Kept.refl _ | with_reducible exact Ran.idle _ | with_reducible assumption | (with_reducible apply Ran.done) | (with_reducible apply State.modMot_kept) | (with_reducible apply State.motFault_kept) | split | (simp only [Kept.upd_iff]))

theorem execMotHall_ran (n : Nat) (code : Nat) (s : State) : Ran s (execMotHall n code s) := by
  unfold execMotHall
  try simp only []
  repeat' (first | with_reducible exact Kept.refl _ | with_reducible exact Ran.idle _ | with_reducible assumption | (with_reducible apply Ran.done) | (with_reducible apply State.motFault_kept) | (with_reducible apply State.modMot_kept) | split | (simp only [Kept.upd_iff]))

theorem execMotEnc_ran (n : Nat) (count : Nat) (s : State) : Ran s (execMotEnc n count s) := by
  unfold execMotEnc
  try simp only []
  repeat' (first | with_reducible exact Kept.refl _ | with_reducible exact Ran.idle _ | with_reducible assumption | (with_reducible apply Ran.done) | (with_reducible apply State.modMot_kept) | (with_reducible apply State.motFault_kept) | split | (simp only [Kept.upd_iff]))

theorem execCatchWindowEnd_ran (n : Nat) (vs : List (Int × Int × Int)) (speed : Int) (angle : Nat) (s : State) : Ran s (execCatchWindowEnd n vs speed angle s) := by
  unfold execCatchWindowEnd
  try simp only []
  repeat' (first | with_reducible exact Kept.refl _ | with_reducible exact Ran.idle _ | with_reducible assumption | (with_reducible apply Ran.done) | (with_reducible apply State.modMot_kept) | (with_reducible apply State.motFault_kept) | (with_reducible apply State.catchDecide_kept) | split | (simp only [Kept.upd_iff]))

theorem execMotOverspeed_ran (n : Nat) (peak : Nat) (s : State) : Ran s (execMotOverspeed n peak s) := by
  unfold execMotOverspeed
  try simp only []
  repeat' (first | with_reducible exact Kept.refl _ | with_reducible exact Ran.idle _ | with_reducible assumption | (with_reducible apply Ran.done) | (with_reducible apply State.motFault_kept) | split)

theorem execBrakeDone_ran (n : Nat) (speed : Int) (s : State) : Ran s (execBrakeDone n speed s) := by
  unfold execBrakeDone
  try simp only []
  repeat' (first | with_reducible exact Kept.refl _ | with_reducible exact Ran.idle _ | with_reducible assumption | (with_reducible apply Ran.done) | (with_reducible apply State.modMot_kept) | split | (simp only [Kept.upd_iff]))

theorem execMotCatch_ran (n : Nat) (s : State) : Ran s (execMotCatch n s) := by
  unfold execMotCatch
  try simp only []
  repeat' (first | with_reducible exact Kept.refl _ | with_reducible exact Ran.idle _ | with_reducible assumption | (with_reducible apply Ran.done) | (with_reducible apply State.motFault_kept) | split)

theorem execAlignDwellEnd_ran (n : Nat) (s : State) : Ran s (execAlignDwellEnd n s) := by
  unfold execAlignDwellEnd
  try simp only []
  repeat' (first | with_reducible exact Kept.refl _ | with_reducible exact Ran.idle _ | with_reducible assumption | (with_reducible apply Ran.done) | (with_reducible apply State.modMot_kept) | (with_reducible apply State.enterRamp_kept) | (with_reducible apply State.alignCheck_kept) | split | (simp only [Kept.upd_iff]))

theorem execMotOpen_ran (n : Nat) (phase : Nat) (cur : Nat) (s : State) : Ran s (execMotOpen n phase cur s) := by
  unfold execMotOpen
  try simp only []
  repeat' (first | with_reducible exact Kept.refl _ | with_reducible exact Ran.idle _ | with_reducible assumption | (with_reducible apply Ran.done) | (with_reducible apply State.motFault_kept) | split)

theorem execMotStart_ran (n : Nat) (s : State) : Ran s (execMotStart n s) := by
  unfold execMotStart
  try simp only []
  repeat' (first | with_reducible exact Kept.refl _ | with_reducible exact Ran.idle _ | with_reducible assumption | (with_reducible apply Ran.done) | (with_reducible apply State.motFault_kept) | split)

theorem execMotDesat_ran (n : Nat) (s : State) : Ran s (execMotDesat n s) := by
  unfold execMotDesat
  try simp only []
  repeat' (first | with_reducible exact Kept.refl _ | with_reducible exact Ran.idle _ | with_reducible assumption | (with_reducible apply Ran.done) | (with_reducible apply State.motFault_kept) | (with_reducible apply State.modMot_kept) | split | (simp only [Kept.upd_iff]))

theorem execBusSample_ran (k : Nat) (adc : Nat) (cur : Nat) (s : State) : Ran s (execBusSample k adc cur s) := by
  unfold execBusSample
  try simp only []
  repeat' (first | with_reducible exact Kept.refl _ | with_reducible exact Ran.idle _ | with_reducible assumption | (with_reducible apply Ran.done) | (with_reducible apply State.p_kept) | (with_reducible apply State.modStp_kept) | (with_reducible apply State.busOv1_kept) | (with_reducible apply State.busFault_kept) | split | (simp only [Kept.upd_iff]))

theorem execBusChop_ran (k : Nat) (s : State) : Ran s (execBusChop k s) := by
  unfold execBusChop
  try simp only []
  repeat' (first | with_reducible exact Kept.refl _ | with_reducible exact Ran.idle _ | with_reducible assumption | (with_reducible apply Ran.done) | (with_reducible apply State.p_kept) | (with_reducible apply State.modStp_kept) | (with_reducible apply State.busFault_kept) | split | (simp only [Kept.upd_iff]))

theorem execBusOv2_ran (k : Nat) (s : State) : Ran s (execBusOv2 k s) := by
  unfold execBusOv2
  try simp only []
  repeat' (first | with_reducible exact Kept.refl _ | with_reducible exact Ran.idle _ | with_reducible assumption | (with_reducible apply Ran.done) | (with_reducible refine Kept.foldl _ _ ?_ ?_) | (intro _ _ _) | (with_reducible apply State.setMotState_kept) | (with_reducible apply State.modStp_kept) | (with_reducible apply State.busFault_kept) | split | (simp only [Kept.upd_iff]))

theorem execZtExit_ran (n : Nat) (s : State) : Ran s (execZtExit n s) := by
  unfold execZtExit
  try simp only []
  repeat' (first | with_reducible exact Kept.refl _ | with_reducible exact Ran.idle _ | with_reducible assumption | (with_reducible apply Ran.done) | (with_reducible apply State.setMotState_kept) | split)

theorem execAscExit_ran (n : Nat) (speed : Int) (s : State) : Ran s (execAscExit n speed s) := by
  unfold execAscExit
  try simp only []
  repeat' (first | with_reducible exact Kept.refl _ | with_reducible exact Ran.idle _ | with_reducible assumption | (with_reducible apply Ran.done) | (with_reducible apply State.setMotState_kept) | split)

theorem execStpGo_ran (k : Nat) (s : State) : Ran s (execStpGo k s) := by
  unfold execStpGo
  try simp only []
  repeat' (first | with_reducible exact Kept.refl _ | with_reducible exact Ran.idle _ | with_reducible assumption | (with_reducible apply Ran.done) | (with_reducible apply State.stpGo_kept))

theorem execStpStop_ran (k : Nat) (s : State) : Ran s (execStpStop k s) := by
  unfold execStpStop
  try simp only []
  repeat' (first | with_reducible exact Kept.refl _ | with_reducible exact Ran.idle _ | with_reducible assumption | (with_reducible apply Ran.done) | (with_reducible apply State.stpStop_kept))

theorem execStpHalt_ran (k : Nat) (s : State) : Ran s (execStpHalt k s) := by
  unfold execStpHalt
  try simp only []
  repeat' (first | with_reducible exact Kept.refl _ | with_reducible exact Ran.idle _ | with_reducible assumption | (with_reducible apply Ran.done) | (with_reducible apply State.stpHalt_kept))

theorem execProfileUpdate_ran (k : Nat) (s : State) : Ran s (execProfileUpdate k s) := by
  unfold execProfileUpdate
  try simp only []
  repeat' (first | with_reducible exact Kept.refl _ | with_reducible exact Ran.idle _ | with_reducible assumption | (with_reducible apply Ran.done) | (with_reducible apply State.modStp_kept) | (with_reducible apply State.doCopy_kept) | (with_reducible apply State.profileCopied_kept) | (with_reducible apply State.moveStep_kept) | split | (simp only [Kept.upd_iff]))

theorem execHoldtExpire_ran (k : Nat) (s : State) : Ran s (execHoldtExpire k s) := by
  unfold execHoldtExpire
  try simp only []
  repeat' (first | with_reducible exact Kept.refl _ | with_reducible exact Ran.idle _ | with_reducible assumption | (with_reducible apply Ran.done) | (with_reducible apply State.modStp_kept) | split | (simp only [Kept.upd_iff]))

theorem execLatchEdge_ran (k : Nat) (falling : Bool) (stamp : Nat) (s : State) : Ran s (execLatchEdge k falling stamp s) := by
  unfold execLatchEdge
  try simp only []
  repeat' (first | with_reducible exact Kept.refl _ | with_reducible exact Ran.idle _ | with_reducible assumption | (with_reducible apply Ran.done) | (with_reducible apply State.p_kept) | (with_reducible apply State.pi_kept) | (with_reducible apply State.stpStop_kept) | (with_reducible apply State.stpHalt_kept) | split)

theorem execStpOpen_ran (k : Nat) (coil : Nat) (cur : Nat) (s : State) : Ran s (execStpOpen k coil cur s) := by
  unfold execStpOpen
  try simp only []
  repeat' (first | with_reducible exact Kept.refl _ | with_reducible exact Ran.idle _ | with_reducible assumption | (with_reducible apply Ran.done) | (with_reducible apply State.setChop_kept) | (with_reducible apply State.stpFault_kept) | split)

theorem execStpShort_ran (k : Nat) (coil : Nat) (cur : Nat) (s : State) : Ran s (execStpShort k coil cur s) := by
  unfold execStpShort
  try simp only []
  repeat' (first | with_reducible exact Kept.refl _ | with_reducible exact Ran.idle _ | with_reducible assumption | (with_reducible apply Ran.done) | (with_reducible apply State.stpFault_kept) | split)

theorem execHvLevel_ran (k : Nat) (v : Nat) (s : State) : Ran s (execHvLevel k v s) := by
  unfold execHvLevel
  try simp only []
  repeat' (first | with_reducible exact Kept.refl _ | with_reducible exact Ran.idle _ | with_reducible assumption | (with_reducible apply Ran.done) | (with_reducible apply State.hvWord_kept))

theorem execHvDrive_ran (k : Nat) (dc : Nat) (ac : Nat) (s : State) : Ran s (execHvDrive k dc ac s) := by
  unfold execHvDrive
  try simp only []
  repeat' (first | with_reducible exact Kept.refl _ | with_reducible exact Ran.idle _ | with_reducible assumption | (with_reducible apply Ran.done) | (with_reducible apply State.hvWord_kept))

theorem execHvBand_ran (k : Nat) (s : State) : Ran s (execHvBand k s) := by
  unfold execHvBand
  try simp only []
  repeat' (first | with_reducible exact Kept.refl _ | with_reducible exact Ran.idle _ | with_reducible assumption | (with_reducible apply Ran.done) | (with_reducible apply State.modHv_kept) | (with_reducible apply State.hvSpoilA_kept) | split | (simp only [Kept.upd_iff]))

theorem execHvArc_ran (k : Nat) (idc : Int) (s : State) : Ran s (execHvArc k idc s) := by
  unfold execHvArc
  try simp only []
  repeat' (first | with_reducible exact Kept.refl _ | with_reducible exact Ran.idle _ | with_reducible assumption | (with_reducible apply Ran.done) | (with_reducible apply State.p_kept) | (with_reducible apply State.hvOff_kept) | (with_reducible apply State.inc_kept) | (with_reducible apply State.modHv_kept) | (with_reducible apply State.hvSpoilA_kept) | (with_reducible apply State.hvFaultA_kept) | split | (simp only [Kept.upd_iff]))

theorem execHvArcHoldEnd_ran (k : Nat) (s : State) : Ran s (execHvArcHoldEnd k s) := by
  unfold execHvArcHoldEnd
  try simp only []
  repeat' (first | with_reducible exact Kept.refl _ | with_reducible exact Ran.idle _ | with_reducible assumption | (with_reducible apply Ran.done) | (with_reducible apply State.p_kept) | (with_reducible apply State.hvOff_kept) | split)

theorem execHvShort_ran (k : Nat) (s : State) : Ran s (execHvShort k s) := by
  unfold execHvShort
  try simp only []
  repeat' (first | with_reducible exact Kept.refl _ | with_reducible exact Ran.idle _ | with_reducible assumption | (with_reducible apply Ran.done) | (with_reducible apply State.hvFaultB_kept) | split)

theorem execHvOpen_ran (k : Nat) (s : State) : Ran s (execHvOpen k s) := by
  unfold execHvOpen
  try simp only []
  repeat' (first | with_reducible exact Kept.refl _ | with_reducible exact Ran.idle _ | with_reducible assumption | (with_reducible apply Ran.done) | (with_reducible apply State.hvFaultB_kept) | split)

theorem execFusDrive_ran (f : Nat) (v : Nat) (s : State) : Ran s (execFusDrive f v s) := by
  unfold execFusDrive
  try simp only []
  repeat' (first | with_reducible exact Kept.refl _ | with_reducible exact Ran.idle _ | with_reducible assumption | (with_reducible apply Ran.done) | (with_reducible apply State.fusWord_kept))

theorem execFusZvs_ran (f : Nat) (next : Bool) (s : State) : Ran s (execFusZvs f next s) := by
  unfold execFusZvs
  try simp only []
  repeat' (first | with_reducible exact Kept.refl _ | with_reducible exact Ran.idle _ | with_reducible assumption | (with_reducible apply Ran.done) | (with_reducible apply State.p_kept) | (with_reducible apply State.raise_kept) | (with_reducible apply State.inc_kept) | (with_reducible apply State.modFus_kept) | (with_reducible apply State.setFloor_kept) | (with_reducible apply State.fusFault_kept) | split | (simp only [Kept.upd_iff]))

theorem execFloorDecay_ran (f : Nat) (s : State) : Ran s (execFloorDecay f s) := by
  unfold execFloorDecay
  try simp only []
  repeat' (first | with_reducible exact Kept.refl _ | with_reducible exact Ran.idle _ | with_reducible assumption | (with_reducible apply Ran.done) | (with_reducible apply State.modFus_kept) | (with_reducible apply State.setFloor_kept) | split | (simp only [Kept.upd_iff]))

theorem execFusOc_ran (f : Nat) (ma : Nat) (s : State) : Ran s (execFusOc f ma s) := by
  unfold execFusOc
  try simp only []
  repeat' (first | with_reducible exact Kept.refl _ | with_reducible exact Ran.idle _ | with_reducible assumption | (with_reducible apply Ran.done) | (with_reducible apply State.fusFault_kept) | split)

theorem execFusBand_ran (f : Nat) (s : State) : Ran s (execFusBand f s) := by
  unfold execFusBand
  try simp only []
  repeat' (first | with_reducible exact Kept.refl _ | with_reducible exact Ran.idle _ | with_reducible assumption | (with_reducible apply Ran.done) | (with_reducible apply State.modFus_kept) | (with_reducible apply State.p_kept) | (with_reducible apply State.raiseSpoil_kept) | split | (simp only [Kept.upd_iff]))

theorem execFusStale_ran (f : Nat) (s : State) : Ran s (execFusStale f s) := by
  unfold execFusStale
  try simp only []
  repeat' (first | with_reducible exact Kept.refl _ | with_reducible exact Ran.idle _ | with_reducible assumption | (with_reducible apply Ran.done) | (with_reducible apply State.fusFault_kept) | split)

theorem execPortResult_ran (hv : Vector HvSample 12) (fus : Vector FusSample 2) (s : State) : Ran s (execPortResult hv fus s) := by
  unfold execPortResult
  try simp only []
  repeat' (first | with_reducible exact Kept.refl _ | with_reducible exact Ran.idle _ | with_reducible assumption | (with_reducible apply Ran.done) | (with_reducible refine Kept.forRange _ _ _ ?_ ?_) | (intro _ _ _) | (with_reducible apply State.hvResult_kept) | (with_reducible apply State.fusResult_kept) | split)

theorem execThmSample_ran (v : Vector Int 32) (s : State) : Ran s (execThmSample v s) := by
  unfold execThmSample
  try simp only []
  repeat' (first | with_reducible exact Kept.refl _ | with_reducible exact Ran.idle _ | with_reducible assumption | (with_reducible apply Ran.done) | (with_reducible apply State.modThm_kept) | (with_reducible apply State.sensorSteps_kept) | (with_reducible apply State.dieLevels_kept) | split | (simp only [Kept.upd_iff]))

theorem execThmShutHold_ran (s : State) : Ran s (execThmShutHold s) := by
  unfold execThmShutHold
  try simp only []
  repeat' (first | with_reducible exact Kept.refl _ | with_reducible exact Ran.idle _ | with_reducible assumption | (with_reducible apply Ran.done) | (with_reducible refine Kept.forRange _ _ _ ?_ ?_) | (intro _ _ _) | (with_reducible apply State.coreReset_kept) | (with_reducible apply State.synStop_kept) | (with_reducible apply State.p_kept) | split | (simp only [Kept.upd_iff]))

theorem execTxSample_ran (v : Vector Nat 8) (s : State) : Ran s (execTxSample v s) := by
  unfold execTxSample
  try simp only []
  repeat' (first | with_reducible exact Kept.refl _ | with_reducible exact Ran.idle _ | with_reducible assumption | (with_reducible apply Ran.done) | (with_reducible refine Kept.forRange _ _ _ ?_ ?_) | (intro _ _ _) | (with_reducible apply State.txStep_kept) | (with_reducible apply State.modThm_kept) | (with_reducible apply State.critLevel_kept) | (with_reducible apply State.pairWatch_kept) | split | (simp only [Kept.upd_iff]))

theorem execThmPair_ran (p : Nat) (s : State) : Ran s (execThmPair p s) := by
  unfold execThmPair
  try simp only []
  repeat' (first | with_reducible exact Kept.refl _ | with_reducible exact Ran.idle _ | with_reducible assumption | (with_reducible apply Ran.done) | (with_reducible apply State.modThm_kept) | (with_reducible apply State.setTxFlag_kept) | (with_reducible apply State.critLevel_kept) | (with_reducible apply State.thmFault_kept) | (with_reducible apply State.draw_kept) | (with_reducible apply State.p_kept) | split | (simp only [Kept.upd_iff]))

theorem execHalt_ran (s : State) : Ran s (execHalt s) := by
  unfold execHalt
  try simp only []
  repeat' (first | with_reducible exact Kept.refl _ | with_reducible exact Ran.idle _ | with_reducible assumption | (with_reducible apply Ran.done) | (intro _ _ _) | (with_reducible apply State.psqStep_kept) | (with_reducible apply State.psqHalt_kept))

theorem execEn_ran (ack : Bool) (s : State) : Ran s (execEn ack s) := by
  unfold execEn
  try simp only []
  repeat' (first | with_reducible exact Kept.refl _ | with_reducible exact Ran.idle _ | with_reducible assumption | (with_reducible apply Ran.done) | (intro _ _ _) | (with_reducible apply State.psqStep_kept) | (with_reducible apply State.psqFault_kept) | (with_reducible apply State.railEnable_kept) | (with_reducible apply State.pmbus_kept) | (with_reducible apply State.psqNext_kept) | split)

theorem execDis_ran (ack : Bool) (s : State) : Ran s (execDis ack s) := by
  unfold execDis
  try simp only []
  repeat' (first | with_reducible exact Kept.refl _ | with_reducible exact Ran.idle _ | with_reducible assumption | (with_reducible apply Ran.done) | (intro _ _ _) | (with_reducible apply State.psqStep_kept) | (with_reducible apply State.railRelease_kept) | (with_reducible apply State.pmbus_kept) | (with_reducible apply State.psqNext_kept) | (with_reducible apply State.flushStart_kept) | (with_reducible apply State.modPsq_kept) | split | (simp only [Kept.upd_iff]))

theorem execWait_ran (s : State) : Ran s (execWait s) := by
  unfold execWait
  try simp only []
  repeat' (first | with_reducible exact Kept.refl _ | with_reducible exact Ran.idle _ | with_reducible assumption | (with_reducible apply Ran.done) | (intro _ _ _) | (with_reducible apply State.psqStep_kept) | (with_reducible apply State.psqNext_kept) | (with_reducible apply State.modPsq_kept) | split | (simp only [Kept.upd_iff]))

theorem execWaitpg_ran (s : State) : Ran s (execWaitpg s) := by
  unfold execWaitpg
  try simp only []
  repeat' (first | with_reducible exact Kept.refl _ | with_reducible exact Ran.idle _ | with_reducible assumption | (with_reducible apply Ran.done) | (intro _ _ _) | (with_reducible apply State.psqStep_kept) | (with_reducible apply State.psqNext_kept) | (with_reducible apply State.modPsq_kept) | split | (simp only [Kept.upd_iff]))

theorem execCheck_ran (s : State) : Ran s (execCheck s) := by
  unfold execCheck
  try simp only []
  repeat' (first | with_reducible exact Kept.refl _ | with_reducible exact Ran.idle _ | with_reducible assumption | (with_reducible apply Ran.done) | (intro _ _ _) | (with_reducible apply State.psqStep_kept) | (with_reducible apply State.p_kept) | (with_reducible apply State.psqNext_kept) | split)

theorem execJmp_ran (s : State) : Ran s (execJmp s) := by
  unfold execJmp
  try simp only []
  repeat' (first | with_reducible exact Kept.refl _ | with_reducible exact Ran.idle _ | with_reducible assumption | (with_reducible apply Ran.done) | (intro _ _ _) | (with_reducible apply State.psqStep_kept) | (with_reducible apply State.psqGoto_kept))

theorem execJmpif_ran (s : State) : Ran s (execJmpif s) := by
  unfold execJmpif
  try simp only []
  repeat' (first | with_reducible exact Kept.refl _ | with_reducible exact Ran.idle _ | with_reducible assumption | (with_reducible apply Ran.done) | (intro _ _ _) | (with_reducible apply State.psqStep_kept) | (with_reducible apply State.psqGoto_kept) | (with_reducible apply State.psqNext_kept) | split)

theorem execSync_ran (s : State) : Ran s (execSync s) := by
  unfold execSync
  try simp only []
  repeat' (first | with_reducible exact Kept.refl _ | with_reducible exact Ran.idle _ | with_reducible assumption | (with_reducible apply Ran.done) | (intro _ _ _) | (with_reducible apply State.psqStep_kept) | (with_reducible apply State.psqNext_kept) | (with_reducible apply State.syncFail_kept) | (with_reducible apply State.modPsq_kept) | split | (simp only [Kept.upd_iff]))

theorem execMargin_ran (linear : Bool) (ack : Bool) (s : State) : Ran s (execMargin linear ack s) := by
  unfold execMargin
  try simp only []
  repeat' (first | with_reducible exact Kept.refl _ | with_reducible exact Ran.idle _ | with_reducible assumption | (with_reducible apply Ran.done) | (intro _ _ _) | (with_reducible apply State.psqStep_kept) | (with_reducible apply State.marginSet_kept) | (with_reducible apply State.psqNext_kept))

theorem execPsqWaitDone_ran (s : State) : Ran s (execPsqWaitDone s) := by
  unfold execPsqWaitDone
  try simp only []
  repeat' (first | with_reducible exact Kept.refl _ | with_reducible exact Ran.idle _ | with_reducible assumption | (with_reducible apply Ran.done) | (with_reducible apply State.psqNext_kept) | split)

theorem execWaitpgDone_ran (s : State) : Ran s (execWaitpgDone s) := by
  unfold execWaitpgDone
  try simp only []
  repeat' (first | with_reducible exact Kept.refl _ | with_reducible exact Ran.idle _ | with_reducible assumption | (with_reducible apply Ran.done) | (with_reducible apply State.psqNext_kept) | split)

theorem execWaitpgFail_ran (s : State) : Ran s (execWaitpgFail s) := by
  unfold execWaitpgFail
  try simp only []
  repeat' (first | with_reducible exact Kept.refl _ | with_reducible exact Ran.idle _ | with_reducible assumption | (with_reducible apply Ran.done) | (with_reducible apply State.railFail_kept) | (with_reducible apply State.psqFault_kept) | (with_reducible apply State.psqNext_kept) | split)

theorem execSyncDone_ran (line : Bool) (s : State) : Ran s (execSyncDone line s) := by
  unfold execSyncDone
  try simp only []
  repeat' (first | with_reducible exact Kept.refl _ | with_reducible exact Ran.idle _ | with_reducible assumption | (with_reducible apply Ran.done) | (with_reducible apply State.p_kept) | (with_reducible apply State.modPsq_kept) | (with_reducible apply State.psqNext_kept) | split | (simp only [Kept.upd_iff]))

theorem execPsqSync_ran (s : State) : Ran s (execPsqSync s) := by
  unfold execPsqSync
  try simp only []
  repeat' (first | with_reducible exact Kept.refl _ | with_reducible exact Ran.idle _ | with_reducible assumption | (with_reducible apply Ran.done) | (with_reducible apply State.syncFail_kept) | split)

theorem execPgChange_ran (r : Nat) (good : Bool) (s : State) : Ran s (execPgChange r good s) := by
  unfold execPgChange
  try simp only []
  repeat' (first | with_reducible exact Kept.refl _ | with_reducible exact Ran.idle _ | with_reducible assumption | (with_reducible apply Ran.done) | (with_reducible apply State.p_kept) | (with_reducible apply State.modPsq_kept) | (with_reducible apply State.railFail_kept) | split | (simp only [Kept.upd_iff]))

theorem execFailholdExpire_ran (acks : Nat) (s : State) : Ran s (execFailholdExpire acks s) := by
  unfold execFailholdExpire
  try simp only []
  repeat' (first | with_reducible exact Kept.refl _ | with_reducible exact Ran.idle _ | with_reducible assumption | (with_reducible apply Ran.done) | (with_reducible refine Kept.forRange _ _ _ ?_ ?_) | (intro _ _ _) | (with_reducible apply State.psqFaultFree_kept) | (with_reducible apply State.modPsq_kept) | (with_reducible apply State.releaseLast_kept) | split | (simp only [Kept.upd_iff]))

theorem execFailgapRelease_ran (s : State) : Ran s (execFailgapRelease s) := by
  unfold execFailgapRelease
  try simp only []
  repeat' (first | with_reducible exact Kept.refl _ | with_reducible exact Ran.idle _ | with_reducible assumption | (with_reducible apply Ran.done) | (with_reducible apply State.releaseLast_kept) | split)

theorem execPsqVin_ran (mv : Nat) (s : State) : Ran s (execPsqVin mv s) := by
  unfold execPsqVin
  try simp only []
  repeat' (first | with_reducible exact Kept.refl _ | with_reducible exact Ran.idle _ | with_reducible assumption | (with_reducible apply Ran.done) | (with_reducible apply State.p_kept) | (with_reducible apply State.modPsq_kept) | (with_reducible apply State.setPsq_kept) | (with_reducible apply State.draw_kept) | (with_reducible apply State.psqFaultFree_kept) | split | (simp only [Kept.upd_iff]))

theorem execVinholdExpire_ran (s : State) : Ran s (execVinholdExpire s) := by
  unfold execVinholdExpire
  try simp only []
  repeat' (first | with_reducible exact Kept.refl _ | with_reducible exact Ran.idle _ | with_reducible assumption | (with_reducible apply Ran.done) | (with_reducible apply State.railsRelease_kept) | (with_reducible apply State.setPsq_kept) | (with_reducible apply State.modPsq_kept) | split | (simp only [Kept.upd_iff]))

theorem execVinRecovery_ran (mv : Nat) (s : State) : Ran s (execVinRecovery mv s) := by
  unfold execVinRecovery
  try simp only []
  repeat' (first | with_reducible exact Kept.refl _ | with_reducible exact Ran.idle _ | with_reducible assumption | (with_reducible apply Ran.done) | (with_reducible apply State.modPsq_kept) | (with_reducible apply State.psqUpAfter_kept) | (with_reducible apply State.p_kept) | (with_reducible apply State.setPsq_kept) | split | (simp only [Kept.upd_iff]))

theorem execMinoffEnd_ran (s : State) : Ran s (execMinoffEnd s) := by
  unfold execMinoffEnd
  try simp only []
  repeat' (first | with_reducible exact Kept.refl _ | with_reducible exact Ran.idle _ | with_reducible assumption | (with_reducible apply Ran.done) | (with_reducible apply State.setPsq_kept) | (with_reducible apply State.psqStart_kept) | split)

theorem execWakeAlarm_ran (s : State) : Ran s (execWakeAlarm s) := by
  unfold execWakeAlarm
  try simp only []
  repeat' (first | with_reducible exact Kept.refl _ | with_reducible exact Ran.idle _ | with_reducible assumption | (with_reducible apply Ran.done) | (with_reducible apply State.psqWake_kept) | split)

theorem execOn_ran (q : Requester) (v : Nat) (s : State) : Ran s (execOn q v s) := by
  unfold execOn
  try simp only []
  repeat' (first | with_reducible exact Kept.refl _ | with_reducible exact Ran.idle _ | with_reducible assumption | (with_reducible apply Ran.done) | (with_reducible apply State.gate_ran) | (with_reducible apply State.psqAct_kept))

theorem execOff_ran (q : Requester) (v : Nat) (s : State) : Ran s (execOff q v s) := by
  unfold execOff
  try simp only []
  repeat' (first | with_reducible exact Kept.refl _ | with_reducible exact Ran.idle _ | with_reducible assumption | (with_reducible apply Ran.done) | (with_reducible apply State.gate_ran) | (with_reducible apply State.psqAct_kept))

theorem execRunat_ran (q : Requester) (v : Nat) (s : State) : Ran s (execRunat q v s) := by
  unfold execRunat
  try simp only []
  repeat' (first | with_reducible exact Kept.refl _ | with_reducible exact Ran.idle _ | with_reducible assumption | (with_reducible apply Ran.done) | (with_reducible apply State.gate_ran) | (with_reducible apply State.psqAct_kept))

theorem execClear_ran (q : Requester) (v : Nat) (s : State) : Ran s (execClear q v s) := by
  unfold execClear
  try simp only []
  repeat' (first | with_reducible exact Kept.refl _ | with_reducible exact Ran.idle _ | with_reducible assumption | (with_reducible apply Ran.done) | (with_reducible apply State.gate_ran) | (with_reducible apply State.psqAct_kept))

theorem execIdle_ran (q : Requester) (v : Nat) (s : State) : Ran s (execIdle q v s) := by
  unfold execIdle
  try simp only []
  repeat' (first | with_reducible exact Kept.refl _ | with_reducible exact Ran.idle _ | with_reducible assumption | (with_reducible apply Ran.done) | (with_reducible apply State.gate_ran) | (with_reducible apply State.psqAct_kept))

theorem execRun_ran (q : Requester) (v : Nat) (s : State) : Ran s (execRun q v s) := by
  unfold execRun
  try simp only []
  repeat' (first | with_reducible exact Kept.refl _ | with_reducible exact Ran.idle _ | with_reducible assumption | (with_reducible apply Ran.done) | (with_reducible apply State.gate_ran) | (with_reducible apply State.psqAct_kept))

theorem execSleep_ran (q : Requester) (v : Nat) (s : State) : Ran s (execSleep q v s) := by
  unfold execSleep
  try simp only []
  repeat' (first | with_reducible exact Kept.refl _ | with_reducible exact Ran.idle _ | with_reducible assumption | (with_reducible apply Ran.done) | (with_reducible apply State.gate_ran) | (with_reducible apply State.psqAct_kept))

theorem execShelf_ran (q : Requester) (v : Nat) (s : State) : Ran s (execShelf q v s) := by
  unfold execShelf
  try simp only []
  repeat' (first | with_reducible exact Kept.refl _ | with_reducible exact Ran.idle _ | with_reducible assumption | (with_reducible apply Ran.done) | (with_reducible apply State.gate_ran) | (with_reducible apply State.psqAct_kept))

theorem execPsqCmdMargin_ran (q : Requester) (v : Nat) (linear : Bool) (ack : Bool) (s : State) : Ran s (execPsqCmdMargin q v linear ack s) := by
  unfold execPsqCmdMargin
  try simp only []
  repeat' (first | with_reducible exact Kept.refl _ | with_reducible exact Ran.idle _ | with_reducible assumption | (with_reducible apply Ran.done) | (with_reducible apply State.gate_ran) | (with_reducible apply State.psqAct_kept))

theorem execPsqState_ran (n : Nat) (ack : Bool) (s : State) : Ran s (execPsqState n ack s) := by
  unfold execPsqState
  try simp only []
  repeat' (first | with_reducible exact Kept.refl _ | with_reducible exact Ran.idle _ | with_reducible assumption | (with_reducible apply Ran.done) | (with_reducible apply State.modPsq_kept) | (with_reducible apply State.psqFaultFree_kept) | split | (simp only [Kept.upd_iff]))

theorem execPsqReached_ran (k : Nat) (w : Option Nat) (s : State) : Ran s (execPsqReached k w s) := by
  unfold execPsqReached
  try simp only []
  repeat' (first | with_reducible exact Kept.refl _ | with_reducible exact Ran.idle _ | with_reducible assumption | (with_reducible apply Ran.done) | (with_reducible apply State.slaveWord_kept) | split | (simp only [Kept.upd_iff]))

theorem execPsqRequest_ran (code : Nat) (ack : Bool) (s : State) : Ran s (execPsqRequest code ack s) := by
  unfold execPsqRequest
  try simp only []
  repeat' (first | with_reducible exact Kept.refl _ | with_reducible exact Ran.idle _ | with_reducible assumption | (with_reducible apply Ran.done) | (with_reducible apply State.psqRequest_kept) | (with_reducible apply State.psqFaultFree_kept) | split)

theorem execPmbusPoll_ran (ws : Vector (Option Nat) 8) (s : State) : Ran s (execPmbusPoll ws s) := by
  unfold execPmbusPoll
  try simp only []
  repeat' (first | with_reducible exact Kept.refl _ | with_reducible exact Ran.idle _ | with_reducible assumption | (with_reducible apply Ran.done) | (with_reducible refine Kept.forRange _ _ _ ?_ ?_) | (intro _ _ _) | (with_reducible apply State.slaveWord_kept) | (with_reducible apply State.modPsq_kept) | split | (simp only [Kept.upd_iff]))

theorem execOtpArrayRead_ran (marg : List (Nat × Nat)) (corr : Nat) (bad : List Nat) (s : State) : Ran s (execOtpArrayRead marg corr bad s) := by
  unfold execOtpArrayRead
  try simp only []
  repeat' (first | with_reducible exact Kept.refl _ | with_reducible exact Ran.idle _ | with_reducible assumption | (with_reducible apply Ran.done) | (with_reducible apply State.otpReadAll_kept) | (with_reducible apply State.otpDeliver_kept) | split)

theorem execOtpScrub_ran (s : State) : Ran s (execOtpScrub s) := by
  unfold execOtpScrub
  try simp only []
  repeat' (first | with_reducible exact Kept.refl _ | with_reducible exact Ran.idle _ | with_reducible assumption | (with_reducible apply Ran.done) | (with_reducible apply State.p_kept) | (with_reducible apply State.modOtp_kept) | split | (simp only [Kept.upd_iff]))

theorem execOtpScrubDone_ran (drift : List Nat) (s : State) : Ran s (execOtpScrubDone drift s) := by
  unfold execOtpScrubDone
  try simp only []
  repeat' (first | with_reducible exact Kept.refl _ | with_reducible exact Ran.idle _ | with_reducible assumption | (with_reducible apply Ran.done) | (with_reducible refine Kept.foldl _ _ ?_ ?_) | (intro _ _ _) | (with_reducible apply State.p_kept) | (with_reducible apply State.modOtp_kept) | (with_reducible apply State.pi_kept) | (with_reducible apply State.otpDrift_kept) | split | (simp only [Kept.upd_iff]))

theorem execProgram_ran (q : Requester) (key : Nat) (votp : Nat) (s : State) : Ran s (execProgram q key votp s) := by
  unfold execProgram
  try simp only []
  repeat' (first | with_reducible exact Kept.refl _ | with_reducible exact Ran.idle _ | with_reducible assumption | (with_reducible apply Ran.done) | (with_reducible apply State.gate_ran) | (with_reducible apply State.setVotp_kept) | (with_reducible apply State.pcmdWrite_kept))

theorem execLock_ran (q : Requester) (key : Nat) (region : Nat) (votp : Nat) (s : State) : Ran s (execLock q key region votp s) := by
  unfold execLock
  try simp only []
  repeat' (first | with_reducible exact Kept.refl _ | with_reducible exact Ran.idle _ | with_reducible assumption | (with_reducible apply Ran.done) | (with_reducible apply State.gate_ran) | (with_reducible apply State.setVotp_kept) | (with_reducible apply State.pcmdWrite_kept))

theorem execRepair_ran (q : Requester) (key : Nat) (votp : Nat) (s : State) : Ran s (execRepair q key votp s) := by
  unfold execRepair
  try simp only []
  repeat' (first | with_reducible exact Kept.refl _ | with_reducible exact Ran.idle _ | with_reducible assumption | (with_reducible apply Ran.done) | (with_reducible apply State.gate_ran) | (with_reducible apply State.setVotp_kept) | (with_reducible apply State.pcmdWrite_kept))

theorem execOtpWindow_ran (votp : Nat) (s : State) : Ran s (execOtpWindow votp s) := by
  unfold execOtpWindow
  try simp only []
  repeat' (first | with_reducible exact Kept.refl _ | with_reducible exact Ran.idle _ | with_reducible assumption | (with_reducible apply Ran.done) | (with_reducible apply State.setVotp_kept) | (with_reducible apply State.burnPart_kept) | (with_reducible apply State.modOtp_kept) | (with_reducible apply State.burnFail_kept) | split | (simp only [Kept.upd_iff]))

theorem execNonce_ran (q : Requester) (key : Nat) (s : State) : Ran s (execNonce q key s) := by
  unfold execNonce
  try simp only []
  repeat' (first | with_reducible exact Kept.refl _ | with_reducible exact Ran.idle _ | with_reducible assumption | (with_reducible apply Ran.done) | (with_reducible apply State.gate_ran) | (with_reducible apply State.lccmdWrite_kept))

theorem execEnterMaker_ran (q : Requester) (key : Nat) (votp : Nat) (s : State) : Ran s (execEnterMaker q key votp s) := by
  unfold execEnterMaker
  try simp only []
  repeat' (first | with_reducible exact Kept.refl _ | with_reducible exact Ran.idle _ | with_reducible assumption | (with_reducible apply Ran.done) | (with_reducible apply State.gate_ran) | (with_reducible apply State.lcAct_kept))

theorem execEnterField_ran (q : Requester) (key : Nat) (votp : Nat) (s : State) : Ran s (execEnterField q key votp s) := by
  unfold execEnterField
  try simp only []
  repeat' (first | with_reducible exact Kept.refl _ | with_reducible exact Ran.idle _ | with_reducible assumption | (with_reducible apply Ran.done) | (with_reducible apply State.gate_ran) | (with_reducible apply State.lcAct_kept))

theorem execConsent_ran (q : Requester) (key : Nat) (votp : Nat) (s : State) : Ran s (execConsent q key votp s) := by
  unfold execConsent
  try simp only []
  repeat' (first | with_reducible exact Kept.refl _ | with_reducible exact Ran.idle _ | with_reducible assumption | (with_reducible apply Ran.done) | (with_reducible apply State.gate_ran) | (with_reducible apply State.lcAct_kept))

theorem execToken_ran (q : Requester) (key : Nat) (votp : Nat) (s : State) : Ran s (execToken q key votp s) := by
  unfold execToken
  try simp only []
  repeat' (first | with_reducible exact Kept.refl _ | with_reducible exact Ran.idle _ | with_reducible assumption | (with_reducible apply Ran.done) | (with_reducible apply State.gate_ran) | (with_reducible apply State.lcAct_kept))

theorem execScrap_ran (q : Requester) (key : Nat) (votp : Nat) (s : State) : Ran s (execScrap q key votp s) := by
  unfold execScrap
  try simp only []
  repeat' (first | with_reducible exact Kept.refl _ | with_reducible exact Ran.idle _ | with_reducible assumption | (with_reducible apply Ran.done) | (with_reducible apply State.gate_ran) | (with_reducible apply State.lcAct_kept))

theorem execRoscCount_ran (v : Vector Nat 7) (s : State) : Ran s (execRoscCount v s) := by
  unfold execRoscCount
  try simp only []
  repeat' (first | with_reducible exact Kept.refl _ | with_reducible exact Ran.idle _ | with_reducible assumption | (with_reducible apply Ran.done) | (with_reducible refine Kept.forRange _ _ _ ?_ ?_) | (intro _ _ _) | (with_reducible apply State.pi_kept) | (with_reducible apply State.p_kept) | split | (simp only [Kept.upd_iff]))

theorem execHywBreak_ran (n : Nat) (s : State) : Ran s (execHywBreak n s) := by
  unfold execHywBreak
  try simp only []
  repeat' (first | with_reducible exact Kept.refl _ | with_reducible exact Ran.idle _ | with_reducible assumption | (with_reducible apply Ran.done) | (with_reducible apply State.modHyw_kept) | split | (simp only [Kept.upd_iff]))

theorem execHywAnnounce_ran (n : Nat) (byte : Nat) (stop : Bool) (s : State) : Ran s (execHywAnnounce n byte stop s) := by
  unfold execHywAnnounce
  try simp only []
  repeat' (first | with_reducible exact Kept.refl _ | with_reducible exact Ran.idle _ | with_reducible assumption | (with_reducible apply Ran.done) | (with_reducible apply State.announced_kept) | (with_reducible apply State.noAnnounce_kept) | split)

theorem execHywAnnounceTimeout_ran (n : Nat) (s : State) : Ran s (execHywAnnounceTimeout n s) := by
  unfold execHywAnnounceTimeout
  try simp only []
  repeat' (first | with_reducible exact Kept.refl _ | with_reducible exact Ran.idle _ | with_reducible assumption | (with_reducible apply Ran.done) | (with_reducible apply State.noAnnounce_kept) | split)

theorem execIdent_ran (n : Nat) (s : State) : Ran s (execIdent n s) := by
  unfold execIdent
  try simp only []
  repeat' (first | with_reducible exact Kept.refl _ | with_reducible exact Ran.idle _ | with_reducible assumption | (with_reducible apply Ran.done) | (with_reducible apply State.hywSend_kept) | split)

theorem execAuth_ran (n : Nat) (s : State) : Ran s (execAuth n s) := by
  unfold execAuth
  try simp only []
  repeat' (first | with_reducible exact Kept.refl _ | with_reducible exact Ran.idle _ | with_reducible assumption | (with_reducible apply Ran.done) | (with_reducible apply State.hywReject_kept) | (with_reducible apply State.challenge_kept) | (with_reducible apply State.hywSend_kept) | split)

theorem execHywAdd_ran (n : Nat) (s : State) : Ran s (execHywAdd n s) := by
  unfold execHywAdd
  try simp only []
  repeat' (first | with_reducible exact Kept.refl _ | with_reducible exact Ran.idle _ | with_reducible assumption | (with_reducible apply Ran.done) | (with_reducible apply State.hywSend_kept) | split)

theorem execRead_ran (n : Nat) (s : State) : Ran s (execRead n s) := by
  unfold execRead
  try simp only []
  repeat' (first | with_reducible exact Kept.refl _ | with_reducible exact Ran.idle _ | with_reducible assumption | (with_reducible apply Ran.done) | (with_reducible apply State.hywSend_kept) | (with_reducible apply State.modHyw_kept) | split | (simp only [Kept.upd_iff]))

theorem execHywResponse_ran (n : Nat) (bs : List Nat) (s : State) : Ran s (execHywResponse n bs s) := by
  unfold execHywResponse
  try simp only []
  repeat' (first | with_reducible exact Kept.refl _ | with_reducible exact Ran.idle _ | with_reducible assumption | (with_reducible apply Ran.done) | (with_reducible apply State.hywRepeat_kept) | (with_reducible apply State.addAnswer_kept) | (with_reducible apply State.hywFailed_kept) | (with_reducible apply State.identAnswer_kept) | (with_reducible apply State.authAnswer_kept) | (with_reducible apply State.readAnswer_kept) | split)

theorem execHywResponseTimeout_ran (n : Nat) (s : State) : Ran s (execHywResponseTimeout n s) := by
  unfold execHywResponseTimeout
  try simp only []
  repeat' (first | with_reducible exact Kept.refl _ | with_reducible exact Ran.idle _ | with_reducible assumption | (with_reducible apply Ran.done) | (with_reducible apply State.hywRepeat_kept) | split)

theorem execHywLine_ran (n : Nat) (detail : Nat) (s : State) : Ran s (execHywLine n detail s) := by
  unfold execHywLine
  try simp only []
  repeat' (first | with_reducible exact Kept.refl _ | with_reducible exact Ran.idle _ | with_reducible assumption | (with_reducible apply Ran.done) | (with_reducible apply State.setHyw_kept) | (with_reducible apply State.p_kept) | (with_reducible apply State.modHyw_kept) | (with_reducible apply State.hywSpoil_kept) | split | (simp only [Kept.upd_iff]))

theorem execLineTest_ran (n : Nat) (normal : Bool) (s : State) : Ran s (execLineTest n normal s) := by
  unfold execLineTest
  try simp only []
  repeat' (first | with_reducible exact Kept.refl _ | with_reducible exact Ran.idle _ | with_reducible assumption | (with_reducible apply Ran.done) | (with_reducible apply State.modHyw_kept) | (with_reducible apply State.p_kept) | (with_reducible apply State.setHyw_kept) | split | (simp only [Kept.upd_iff]))

theorem execMeter_ran (q : Requester) (n : Nat) (v : Nat) (s : State) : Ran s (execMeter q n v s) := by
  unfold execMeter
  try simp only []
  repeat' (first | with_reducible exact Kept.refl _ | with_reducible exact Ran.idle _ | with_reducible assumption | (with_reducible apply Ran.done) | (with_reducible apply State.gate_ran) | (with_reducible apply State.meterWrite_kept) | split)

theorem execHywEnable_ran (q : Requester) (n : Nat) (on : Bool) (s : State) : Ran s (execHywEnable q n on s) := by
  unfold execHywEnable
  try simp only []
  repeat' (first | with_reducible exact Kept.refl _ | with_reducible exact Ran.idle _ | with_reducible assumption | (with_reducible apply Ran.done) | (with_reducible apply State.gate_ran) | (with_reducible apply State.hywCtrlWrite_kept) | split)

theorem execReauth_ran (q : Requester) (n : Nat) (s : State) : Ran s (execReauth q n s) := by
  unfold execReauth
  try simp only []
  repeat' (first | with_reducible exact Kept.refl _ | with_reducible exact Ran.idle _ | with_reducible assumption | (with_reducible apply Ran.done) | (with_reducible apply State.gate_ran) | (with_reducible apply State.hywCtrlWrite_kept) | split)

theorem execPowerOnReset_ran (s : State) : Ran s (execPowerOnReset s) := by
  unfold execPowerOnReset
  try simp only []
  repeat' (first | with_reducible exact Kept.refl _ | with_reducible exact Ran.idle _ | with_reducible assumption | (with_reducible apply Ran.done) | (with_reducible apply State.powerOn_kept))

theorem execWarmReset_ran (s : State) : Ran s (execWarmReset s) := by
  unfold execWarmReset
  try simp only []
  repeat' (first | with_reducible exact Kept.refl _ | with_reducible exact Ran.idle _ | with_reducible assumption | (with_reducible apply Ran.done) | (with_reducible apply State.warmReset_kept))

theorem execWakeFromSleep_ran (s : State) : Ran s (execWakeFromSleep s) := by
  unfold execWakeFromSleep
  try simp only []
  repeat' (first | with_reducible exact Kept.refl _ | with_reducible exact Ran.idle _ | with_reducible assumption | (with_reducible apply Ran.done) | (with_reducible apply State.wake_kept) | split)

theorem execThmRestart_ran (s : State) : Ran s (execThmRestart s) := by
  unfold execThmRestart
  try simp only []
  repeat' (first | with_reducible exact Kept.refl _ | with_reducible exact Ran.idle _ | with_reducible assumption | (with_reducible apply Ran.done) | (with_reducible apply State.warmReset_kept) | split)

theorem execWakeEdge_ran (s : State) : Ran s (execWakeEdge s) := by
  unfold execWakeEdge
  try simp only []
  repeat' (first | with_reducible exact Kept.refl _ | with_reducible exact Ran.idle _ | with_reducible assumption | (with_reducible apply Ran.done) | (with_reducible apply State.powerOn_kept) | (with_reducible apply State.psqWake_kept) | split)

theorem execWatchdogExpire_ran (i : Nat) (s : State) : Ran s (execWatchdogExpire i s) := by
  unfold execWatchdogExpire
  try simp only []
  repeat' (first | with_reducible exact Kept.refl _ | with_reducible exact Ran.idle _ | with_reducible assumption | (with_reducible apply Ran.done) | (with_reducible apply State.coreCrash_kept) | split)

theorem execSpareMapComplete_ran (s : State) : Ran s (execSpareMapComplete s) := by
  unfold execSpareMapComplete
  try simp only []
  repeat' (first | with_reducible exact Kept.refl _ | with_reducible exact Ran.idle _ | with_reducible assumption | (with_reducible apply Ran.done) | (with_reducible apply State.spareMap_kept) | split)

theorem execCoreReset_ran (q : Requester) (key : Nat) (i : Nat) (s : State) : Ran s (execCoreReset q key i s) := by
  unfold execCoreReset
  try simp only []
  repeat' (first | with_reducible exact Kept.refl _ | with_reducible exact Ran.idle _ | with_reducible assumption | (with_reducible apply Ran.done) | (with_reducible apply State.gate_ran) | (with_reducible apply State.corerstWrite_kept))

theorem execCordSlip_ran (d : Nat) (s : State) : Ran s (execCordSlip d s) := by
  unfold execCordSlip
  try simp only []
  repeat' (first | with_reducible exact Kept.refl _ | with_reducible exact Ran.idle _ | with_reducible assumption | (with_reducible apply Ran.done) | (with_reducible refine Kept.forRange _ _ _ ?_ ?_) | (intro _ _ _) | (with_reducible apply State.slipWait_kept) | (with_reducible apply State.p_kept) | (with_reducible apply State.raiseSpoil_kept) | (with_reducible apply State.setVid_kept) | (with_reducible apply State.dark_kept) | split)

theorem execFollowerRestored_ran (d : Nat) (s : State) : Ran s (execFollowerRestored d s) := by
  unfold execFollowerRestored
  try simp only []
  repeat' (first | with_reducible exact Kept.refl _ | with_reducible exact Ran.idle _ | with_reducible assumption | (with_reducible apply Ran.done) | (with_reducible apply State.p_kept) | (with_reducible apply State.setVid_kept) | split)

theorem execOtpSenseDone_ran (vin : Nat) (s : State) : Ran s (execOtpSenseDone vin s) := by
  unfold execOtpSenseDone
  try simp only []
  repeat' (first | with_reducible exact Kept.refl _ | with_reducible exact Ran.idle _ | with_reducible assumption | (with_reducible apply Ran.done) | (with_reducible apply State.modOtp_kept) | (with_reducible apply State.otpDeliver_kept) | (with_reducible apply State.spareDefault_kept) | (with_reducible apply State.setStage_kept) | (with_reducible apply State.psqPowerOn_kept) | split | (simp only [Kept.upd_iff]))

theorem execCoreRailsGood_ran (s : State) : Ran s (execCoreRailsGood s) := by
  unfold execCoreRailsGood
  try simp only []
  repeat' (first | with_reducible exact Kept.refl _ | with_reducible exact Ran.idle _ | with_reducible assumption | (with_reducible apply Ran.done) | (with_reducible apply State.synStart_kept) | split)

theorem execBootRomStart_ran (failed : Nat) (s : State) : Ran s (execBootRomStart failed s) := by
  unfold execBootRomStart
  try simp only []
  repeat' (first | with_reducible exact Kept.refl _ | with_reducible exact Ran.idle _ | with_reducible assumption | (with_reducible apply Ran.done) | (with_reducible apply State.bootTests_kept) | (with_reducible apply State.setStage_kept) | (with_reducible apply State.setCoreState_kept) | split)

theorem execImageVerify_ran (a : Option BootImage) (b : Option BootImage) (s : State) : Ran s (execImageVerify a b s) := by
  unfold execImageVerify
  try simp only []
  repeat' (first | with_reducible exact Kept.refl _ | with_reducible exact Ran.idle _ | with_reducible assumption | (with_reducible apply Ran.done) | (with_reducible apply State.tryImage_kept) | (with_reducible apply State.waitHost_kept) | split)

theorem execBootcmd_ran (q : Requester) (v : Nat) (s : State) : Ran s (execBootcmd q v s) := by
  unfold execBootcmd
  try simp only []
  repeat' (first | with_reducible exact Kept.refl _ | with_reducible exact Ran.idle _ | with_reducible assumption | (with_reducible apply Ran.done) | (with_reducible apply State.gate_ran) | (with_reducible apply State.bootcmdWrite_kept))

theorem execLpddr5TrainingDone_ran (ok0 : Bool) (ok1 : Bool) (s : State) : Ran s (execLpddr5TrainingDone ok0 ok1 s) := by
  unfold execLpddr5TrainingDone
  try simp only []
  repeat' (first | with_reducible exact Kept.refl _ | with_reducible exact Ran.idle _ | with_reducible assumption | (with_reducible apply Ran.done) | (with_reducible apply State.p_kept) | (with_reducible apply State.setStage_kept) | (with_reducible apply State.kettleHalt_kept) | split | (simp only [Kept.upd_iff]))

theorem execEpochStale_ran (i : Nat) (s : State) : Ran s (execEpochStale i s) := by
  unfold execEpochStale
  try simp only []
  repeat' (first | with_reducible exact Kept.refl _ | with_reducible exact Ran.idle _ | with_reducible assumption | (with_reducible apply Ran.done) | (with_reducible apply State.raise_kept) | split)

theorem execLinkDown_ran (n : Nat) (s : State) : Ran s (execLinkDown n s) := by
  unfold execLinkDown
  try simp only []
  repeat' (first | with_reducible exact Kept.refl _ | with_reducible exact Ran.idle _ | with_reducible assumption | (with_reducible apply Ran.done) | (with_reducible apply State.raise_kept) | split)

theorem execMemChan_ran (n : Nat) (s : State) : Ran s (execMemChan n s) := by
  unfold execMemChan
  try simp only []
  repeat' (first | with_reducible exact Kept.refl _ | with_reducible exact Ran.idle _ | with_reducible assumption | (with_reducible apply Ran.done) | (with_reducible apply State.raise_kept) | split)

theorem execOtpBurnDone_ran (good : Bool) (spareGood : Bool) (s : State) : Ran s (execOtpBurnDone good spareGood s) := by
  unfold execOtpBurnDone
  try simp only []
  repeat' (first | with_reducible exact Kept.refl _ | with_reducible exact Ran.idle _ | with_reducible assumption | (with_reducible apply Ran.done) | (with_reducible apply State.toSpare_kept) | (with_reducible apply State.burnNext_kept) | (with_reducible apply State.p_kept) | (with_reducible apply State.burnFail_kept) | (with_reducible apply State.burnWord_kept) | (with_reducible apply State.burnPart_kept) | (with_reducible apply State.otpRefresh_kept) | split)

theorem execQtailWrite_ran (q : Requester) (r : Nat) (v : Nat) (s : State) : Ran s (execQtailWrite q r v s) := by
  unfold execQtailWrite
  try simp only []
  repeat' (first | with_reducible exact Kept.refl _ | with_reducible exact Ran.idle _ | with_reducible assumption | (with_reducible apply Ran.done) | (with_reducible apply State.gate_ran) | (with_reducible apply State.qtailWrite_kept) | split)

theorem execQheadWrite_ran (q : Requester) (r : Nat) (v : Nat) (s : State) : Ran s (execQheadWrite q r v s) := by
  unfold execQheadWrite
  try simp only []
  repeat' (first | with_reducible exact Kept.refl _ | with_reducible exact Ran.idle _ | with_reducible assumption | (with_reducible apply Ran.done) | (with_reducible apply State.gate_ran) | (with_reducible apply State.qheadWrite_kept) | split)

theorem execQcfgWrite_ran (q : Requester) (r : Nat) (v : Nat) (s : State) : Ran s (execQcfgWrite q r v s) := by
  unfold execQcfgWrite
  try simp only []
  repeat' (first | with_reducible exact Kept.refl _ | with_reducible exact Ran.idle _ | with_reducible assumption | (with_reducible apply Ran.done) | (with_reducible apply State.gate_ran) | (with_reducible apply State.qcfgWrite_kept) | split)

theorem execQbaseWrite_ran (q : Requester) (r : Nat) (v : Nat) (s : State) : Ran s (execQbaseWrite q r v s) := by
  unfold execQbaseWrite
  try simp only []
  repeat' (first | with_reducible exact Kept.refl _ | with_reducible exact Ran.idle _ | with_reducible assumption | (with_reducible apply Ran.done) | (with_reducible apply State.gate_ran) | (with_reducible apply State.qbaseWrite_kept) | split)

theorem execPmxClaim_ran (q : Requester) (rid : Nat) (s : State) : Ran s (execPmxClaim q rid s) := by
  unfold execPmxClaim
  try simp only []
  repeat' (first | with_reducible exact Kept.refl _ | with_reducible exact Ran.idle _ | with_reducible assumption | (with_reducible apply Ran.done) | (with_reducible apply State.gate_ran) | (with_reducible apply State.claimreqWrite_kept))

theorem execPmxFree_ran (q : Requester) (rid : Nat) (s : State) : Ran s (execPmxFree q rid s) := by
  unfold execPmxFree
  try simp only []
  repeat' (first | with_reducible exact Kept.refl _ | with_reducible exact Ran.idle _ | with_reducible assumption | (with_reducible apply Ran.done) | (with_reducible apply State.gate_ran) | (with_reducible apply State.claimreqWrite_kept))

theorem execPadcfgWrite_ran (q : Requester) (i : Nat) (v : Nat) (s : State) : Ran s (execPadcfgWrite q i v s) := by
  unfold execPadcfgWrite
  try simp only []
  repeat' (first | with_reducible exact Kept.refl _ | with_reducible exact Ran.idle _ | with_reducible assumption | (with_reducible apply Ran.done) | (with_reducible apply State.gate_ran) | (with_reducible apply State.padcfgWrite_kept) | split)

theorem execSnswireWrite_ran (q : Requester) (v : Nat) (s : State) : Ran s (execSnswireWrite q v s) := by
  unfold execSnswireWrite
  try simp only []
  repeat' (first | with_reducible exact Kept.refl _ | with_reducible exact Ran.idle _ | with_reducible assumption | (with_reducible apply Ran.done) | (with_reducible apply State.gate_ran) | (with_reducible apply State.snswireWrite_kept))

theorem execSnsWire_ran (k : Nat) (s : State) : Ran s (execSnsWire k s) := by
  unfold execSnsWire
  try simp only []
  repeat' (first | with_reducible exact Kept.refl _ | with_reducible exact Ran.idle _ | with_reducible assumption | (with_reducible apply Ran.done) | (with_reducible apply State.snsStart_kept) | (with_reducible apply State.p_kept) | (with_reducible apply State.raise_kept) | split)

theorem execSnsWireClear_ran (k : Nat) (s : State) : Ran s (execSnsWireClear k s) := by
  unfold execSnsWireClear
  try simp only []
  repeat' (first | with_reducible exact Kept.refl _ | with_reducible exact Ran.idle _ | with_reducible assumption | (with_reducible apply Ran.done) | (with_reducible apply State.snsStart_kept) | (with_reducible apply State.p_kept) | split)

theorem execActEventArrive_ran (q : Requester) (id : Nat) (t : Nat) (v : Nat) (s : State) : Ran s (execActEventArrive q id t v s) := by
  unfold execActEventArrive
  try simp only []
  repeat' (first | with_reducible exact Kept.refl _ | with_reducible exact Ran.idle _ | with_reducible assumption | (with_reducible apply Ran.done) | (with_reducible apply State.postEvent_kept) | split)

theorem execActEventFire_ran (id : Nat) (s : State) : Ran s (execActEventFire id s) := by
  unfold execActEventFire
  try simp only []
  repeat' (first | with_reducible exact Kept.refl _ | with_reducible exact Ran.idle _ | with_reducible assumption | (with_reducible apply Ran.done) | (with_reducible apply State.setActQueue_kept) | (with_reducible apply State.actuate_kept) | split | (simp only [Kept.upd_iff]))

theorem execRegisterRead_ran (q : Requester) (a : Nat) (w : Nat) (s : State) : Ran s (execRegisterRead q a w s) := by
  unfold execRegisterRead
  try simp only []
  repeat' (first | with_reducible exact Kept.refl _ | with_reducible exact Ran.idle _ | with_reducible assumption | (with_reducible apply Ran.done) | (with_reducible apply State.readCmd_kept) | split)

theorem execRegisterWrite_ran (q : Requester) (a : Nat) (w : Nat) (v : Nat) (s : State) : Ran s (execRegisterWrite q a w v s) := by
  unfold execRegisterWrite
  try simp only []
  repeat' (first | with_reducible exact Kept.refl _ | with_reducible exact Ran.idle _ | with_reducible assumption | (with_reducible apply Ran.done) | (with_reducible apply State.writeCmd_kept) | split)

theorem execPairLoRead_ran (q : Requester) (a : Nat) (s : State) : Ran s (execPairLoRead q a s) := by
  unfold execPairLoRead
  try simp only []
  repeat' (first | with_reducible exact Kept.refl _ | with_reducible exact Ran.idle _ | with_reducible assumption | (with_reducible apply Ran.done) | (with_reducible apply State.readCmd_kept) | split)

theorem execPairHiRead_ran (q : Requester) (a : Nat) (s : State) : Ran s (execPairHiRead q a s) := by
  unfold execPairHiRead
  try simp only []
  repeat' (first | with_reducible exact Kept.refl _ | with_reducible exact Ran.idle _ | with_reducible assumption | (with_reducible apply Ran.done) | (with_reducible apply State.readCmd_kept) | split)

theorem execPairLoWrite_ran (q : Requester) (a : Nat) (v : Nat) (s : State) : Ran s (execPairLoWrite q a v s) := by
  unfold execPairLoWrite
  try simp only []
  repeat' (first | with_reducible exact Kept.refl _ | with_reducible exact Ran.idle _ | with_reducible assumption | (with_reducible apply Ran.done) | (with_reducible apply State.writeCmd_kept) | split)

theorem execPairHiWrite_ran (q : Requester) (a : Nat) (v : Nat) (s : State) : Ran s (execPairHiWrite q a v s) := by
  unfold execPairHiWrite
  try simp only []
  repeat' (first | with_reducible exact Kept.refl _ | with_reducible exact Ran.idle _ | with_reducible assumption | (with_reducible apply Ran.done) | (with_reducible apply State.writeCmd_kept) | split)

theorem execUnmapped_ran (q : Requester) (write : Bool) (a : Nat) (w : Nat) (v : Nat) (s : State) : Ran s (execUnmapped q write a w v s) := by
  unfold execUnmapped
  try simp only []
  repeat' (first | with_reducible exact Kept.refl _ | with_reducible exact Ran.idle _ | with_reducible assumption | (with_reducible apply Ran.done) | (with_reducible apply State.writeCmd_kept) | (with_reducible apply State.readCmd_kept) | split)

theorem execRingMemoryWrite_ran (q : Requester) (a : Nat) (w : Nat) (v : Nat) (s : State) : Ran s (execRingMemoryWrite q a w v s) := by
  unfold execRingMemoryWrite
  try simp only []
  repeat' (first | with_reducible exact Kept.refl _ | with_reducible exact Ran.idle _ | with_reducible assumption | (with_reducible apply Ran.done) | (with_reducible apply State.writeCmd_kept) | split)

theorem execShwAccess_ran (q : Requester) (write : Bool) (page : Nat) (off : Nat) (w : Nat) (v : Nat) (s : State) : Ran s (execShwAccess q write page off w v s) := by
  unfold execShwAccess
  try simp only []
  repeat' (first | with_reducible exact Kept.refl _ | with_reducible exact Ran.idle _ | with_reducible assumption | (with_reducible apply Ran.done) | (with_reducible apply State.writeCmd_kept) | (with_reducible apply State.readCmd_kept) | split)

theorem execBar4Write_ran (n : Nat) (off : Nat) (w : Nat) (v : Nat) (s : State) : Ran s (execBar4Write n off w v s) := by
  unfold execBar4Write
  try simp only []
  repeat' (first | with_reducible exact Kept.refl _ | with_reducible exact Ran.idle _ | with_reducible assumption | (with_reducible apply Ran.done) | (with_reducible apply State.accessFault_kept) | (with_reducible apply State.bwHost_kept) | (with_reducible apply State.writeCmd_kept) | split)

theorem execCaltArm_ran (q : Requester) (k : Nat) (t : Nat) (s : State) : Ran s (execCaltArm q k t s) := by
  unfold execCaltArm
  try simp only []
  repeat' (first | with_reducible exact Kept.refl _ | with_reducible exact Ran.idle _ | with_reducible assumption | (with_reducible apply Ran.done) | (with_reducible apply State.gate_ran) | (with_reducible apply State.caltArm_kept) | split)

theorem execCommitGo_ran (q : Requester) (x : ShadowSet) (s : State) : Ran s (execCommitGo q x s) := by
  unfold execCommitGo
  try simp only []
  repeat' (first | with_reducible exact Kept.refl _ | with_reducible exact Ran.idle _ | with_reducible assumption | (with_reducible apply Ran.done) | (with_reducible apply State.gate_ran) | (with_reducible apply State.regWrite_kept) | split)

theorem execPosWrite_ran (q : Requester) (k : Nat) (v : Nat) (s : State) : Ran s (execPosWrite q k v s) := by
  unfold execPosWrite
  try simp only []
  repeat' (first | with_reducible exact Kept.refl _ | with_reducible exact Ran.idle _ | with_reducible assumption | (with_reducible apply Ran.done) | (with_reducible apply State.gate_ran) | (with_reducible apply State.regWrite_kept) | split)

theorem execUnitReset_ran (q : Requester) (b : Block) (n : Nat) (s : State) : Ran s (execUnitReset q b n s) := by
  unfold execUnitReset
  try simp only []
  repeat' (first | with_reducible exact Kept.refl _ | with_reducible exact Ran.idle _ | with_reducible assumption | (with_reducible apply Ran.done) | (with_reducible apply State.gate_ran) | (with_reducible apply State.regWrite_kept) | split)

theorem execDmaDescFetch_ran (c : Nat) (s : State) : Ran s (execDmaDescFetch c s) := by
  unfold execDmaDescFetch
  try simp only []
  repeat' (first | with_reducible exact Kept.refl _ | with_reducible exact Ran.idle _ | with_reducible assumption | (with_reducible apply Ran.done) | (with_reducible apply State.dmaJudge_kept) | (with_reducible apply State.modDma_kept) | (with_reducible apply State.p_kept) | split | (simp only [Kept.upd_iff]))

theorem execOwnPoll_ran (c : Nat) (s : State) : Ran s (execOwnPoll c s) := by
  unfold execOwnPoll
  try simp only []
  repeat' (first | with_reducible exact Kept.refl _ | with_reducible exact Ran.idle _ | with_reducible assumption | (with_reducible apply Ran.done) | (with_reducible apply State.dmaRelease_kept) | (with_reducible apply State.dmaJudge_kept) | split)

theorem execNotOwned_ran (c : Nat) (s : State) : Ran s (execNotOwned c s) := by
  unfold execNotOwned
  try simp only []
  repeat' (first | with_reducible exact Kept.refl _ | with_reducible exact Ran.idle _ | with_reducible assumption | (with_reducible apply Ran.done) | (with_reducible apply State.dmaEnd_kept) | split)

theorem execDmaComplete_ran (c : Nat) (s : State) : Ran s (execDmaComplete c s) := by
  unfold execDmaComplete
  try simp only []
  repeat' (first | with_reducible exact Kept.refl _ | with_reducible exact Ran.idle _ | with_reducible assumption | (with_reducible apply Ran.done) | (with_reducible apply State.dmaStopped_kept) | (with_reducible apply State.dmaMove_kept) | (with_reducible apply State.dmaPost_kept) | split)

theorem execDmaBeatError_ran (c : Nat) (write : Bool) (off : Nat) (s : State) : Ran s (execDmaBeatError c write off s) := by
  unfold execDmaBeatError
  try simp only []
  repeat' (first | with_reducible exact Kept.refl _ | with_reducible exact Ran.idle _ | with_reducible assumption | (with_reducible apply Ran.done) | (with_reducible apply State.dmaMove_kept) | split)

theorem execPerst_ran (n : Nat) (s : State) : Ran s (execPerst n s) := by
  unfold execPerst
  try simp only []
  repeat' (first | with_reducible exact Kept.refl _ | with_reducible exact Ran.idle _ | with_reducible assumption | (with_reducible apply Ran.done) | (with_reducible refine Kept.forRange _ _ _ ?_ ?_) | (intro _ _ _) | (with_reducible apply State.perstChannel_kept) | split | (simp only [Kept.upd_iff]))

theorem execAdd_ran (i : Nat) (rd : BitVec 5) (ra : BitVec 5) (rb : BitVec 5) (s : State) : Ran s (execAdd i rd ra rb s) := by
  apply s.opA_ran

theorem execSub_ran (i : Nat) (rd : BitVec 5) (ra : BitVec 5) (rb : BitVec 5) (s : State) : Ran s (execSub i rd ra rb s) := by
  apply s.opA_ran

theorem execAnd_ran (i : Nat) (rd : BitVec 5) (ra : BitVec 5) (rb : BitVec 5) (s : State) : Ran s (execAnd i rd ra rb s) := by
  apply s.opA_ran

theorem execOr_ran (i : Nat) (rd : BitVec 5) (ra : BitVec 5) (rb : BitVec 5) (s : State) : Ran s (execOr i rd ra rb s) := by
  apply s.opA_ran

theorem execXor_ran (i : Nat) (rd : BitVec 5) (ra : BitVec 5) (rb : BitVec 5) (s : State) : Ran s (execXor i rd ra rb s) := by
  apply s.opA_ran

theorem execSll_ran (i : Nat) (rd : BitVec 5) (ra : BitVec 5) (rb : BitVec 5) (s : State) : Ran s (execSll i rd ra rb s) := by
  apply s.opA_ran

theorem execSrl_ran (i : Nat) (rd : BitVec 5) (ra : BitVec 5) (rb : BitVec 5) (s : State) : Ran s (execSrl i rd ra rb s) := by
  apply s.opA_ran

theorem execSra_ran (i : Nat) (rd : BitVec 5) (ra : BitVec 5) (rb : BitVec 5) (s : State) : Ran s (execSra i rd ra rb s) := by
  apply s.opA_ran

theorem execSlt_ran (i : Nat) (rd : BitVec 5) (ra : BitVec 5) (rb : BitVec 5) (s : State) : Ran s (execSlt i rd ra rb s) := by
  apply s.opA_ran

theorem execSltu_ran (i : Nat) (rd : BitVec 5) (ra : BitVec 5) (rb : BitVec 5) (s : State) : Ran s (execSltu i rd ra rb s) := by
  apply s.opA_ran

theorem execMul_ran (i : Nat) (rd : BitVec 5) (ra : BitVec 5) (rb : BitVec 5) (s : State) : Ran s (execMul i rd ra rb s) := by
  apply s.opA_ran

theorem execMulh_ran (i : Nat) (rd : BitVec 5) (ra : BitVec 5) (rb : BitVec 5) (s : State) : Ran s (execMulh i rd ra rb s) := by
  apply s.opA_ran

theorem execMulhu_ran (i : Nat) (rd : BitVec 5) (ra : BitVec 5) (rb : BitVec 5) (s : State) : Ran s (execMulhu i rd ra rb s) := by
  apply s.opA_ran

theorem execMin_ran (i : Nat) (rd : BitVec 5) (ra : BitVec 5) (rb : BitVec 5) (s : State) : Ran s (execMin i rd ra rb s) := by
  apply s.opA_ran

theorem execMax_ran (i : Nat) (rd : BitVec 5) (ra : BitVec 5) (rb : BitVec 5) (s : State) : Ran s (execMax i rd ra rb s) := by
  apply s.opA_ran

theorem execAddi_ran (i : Nat) (rd : BitVec 5) (ra : BitVec 5) (imm : BitVec 16) (s : State) : Ran s (execAddi i rd ra imm s) := by
  apply s.opB_ran

theorem execAndi_ran (i : Nat) (rd : BitVec 5) (ra : BitVec 5) (imm : BitVec 16) (s : State) : Ran s (execAndi i rd ra imm s) := by
  apply s.opB_ran

theorem execOri_ran (i : Nat) (rd : BitVec 5) (ra : BitVec 5) (imm : BitVec 16) (s : State) : Ran s (execOri i rd ra imm s) := by
  apply s.opB_ran

theorem execXori_ran (i : Nat) (rd : BitVec 5) (ra : BitVec 5) (imm : BitVec 16) (s : State) : Ran s (execXori i rd ra imm s) := by
  apply s.opB_ran

theorem execSlti_ran (i : Nat) (rd : BitVec 5) (ra : BitVec 5) (imm : BitVec 16) (s : State) : Ran s (execSlti i rd ra imm s) := by
  apply s.opB_ran

theorem execSltiu_ran (i : Nat) (rd : BitVec 5) (ra : BitVec 5) (imm : BitVec 16) (s : State) : Ran s (execSltiu i rd ra imm s) := by
  apply s.opB_ran

theorem execSlli_ran (i : Nat) (rd : BitVec 5) (ra : BitVec 5) (imm : BitVec 16) (s : State) : Ran s (execSlli i rd ra imm s) := by
  apply s.shiftImm_ran

theorem execSrli_ran (i : Nat) (rd : BitVec 5) (ra : BitVec 5) (imm : BitVec 16) (s : State) : Ran s (execSrli i rd ra imm s) := by
  apply s.shiftImm_ran

theorem execSrai_ran (i : Nat) (rd : BitVec 5) (ra : BitVec 5) (imm : BitVec 16) (s : State) : Ran s (execSrai i rd ra imm s) := by
  apply s.shiftImm_ran

theorem execLui_ran (i : Nat) (rd : BitVec 5) (ra : BitVec 5) (imm : BitVec 16) (s : State) : Ran s (execLui i rd ra imm s) := by
  unfold execLui
  exact s.issue_ran i _ (State.legal_kept (Kept.refl s) _ _ (State.with_kept (Kept.refl s) _ _))

theorem execDvs_ran (i : Nat) (rd : BitVec 5) (ra : BitVec 5) (rb : BitVec 5) (s : State) : Ran s (execDvs i rd ra rb s) := by
  apply s.divide_ran

theorem execDvu_ran (i : Nat) (rd : BitVec 5) (ra : BitVec 5) (rb : BitVec 5) (s : State) : Ran s (execDvu i rd ra rb s) := by
  apply s.divide_ran

theorem execBeq_ran (i : Nat) (ra : BitVec 5) (rb : BitVec 5) (disp : BitVec 16) (s : State) : Ran s (execBeq i ra rb disp s) := by
  apply s.branch_ran

theorem execBne_ran (i : Nat) (ra : BitVec 5) (rb : BitVec 5) (disp : BitVec 16) (s : State) : Ran s (execBne i ra rb disp s) := by
  apply s.branch_ran

theorem execBlt_ran (i : Nat) (ra : BitVec 5) (rb : BitVec 5) (disp : BitVec 16) (s : State) : Ran s (execBlt i ra rb disp s) := by
  apply s.branch_ran

theorem execBge_ran (i : Nat) (ra : BitVec 5) (rb : BitVec 5) (disp : BitVec 16) (s : State) : Ran s (execBge i ra rb disp s) := by
  apply s.branch_ran

theorem execBltu_ran (i : Nat) (ra : BitVec 5) (rb : BitVec 5) (disp : BitVec 16) (s : State) : Ran s (execBltu i ra rb disp s) := by
  apply s.branch_ran

theorem execBgeu_ran (i : Nat) (ra : BitVec 5) (rb : BitVec 5) (disp : BitVec 16) (s : State) : Ran s (execBgeu i ra rb disp s) := by
  apply s.branch_ran

theorem execJal_ran (i : Nat) (rd : BitVec 5) (disp : BitVec 21) (s : State) : Ran s (execJal i rd disp s) := by
  unfold execJal
  exact s.issue_ran i _ (State.goTo_kept (Kept.refl s) _ (State.modCore_kept (Kept.refl s) _ _))

theorem execJalr_ran (i : Nat) (rd : BitVec 5) (ra : BitVec 5) (rb : BitVec 5) (s : State) : Ran s (execJalr i rd ra rb s) := by
  unfold execJalr
  exact s.issue_ran i _ (State.legal_kept (Kept.refl s) _ _ (State.goTo_kept (Kept.refl s) _ (State.insTarget_kept (State.modCore_kept (Kept.refl s) _ _) _ _ _ _)))

theorem execMfs_ran (i : Nat) (rd : BitVec 5) (ra : BitVec 5) (rb : BitVec 5) (s : State) : Ran s (execMfs i rd ra rb s) := by
  unfold execMfs
  refine s.issue_ran i _ (State.legal_kept (Kept.refl s) _ _ ?_)
  split
  · exact State.with_kept (Kept.refl s) _ _
  · exact Kept.refl s

theorem execMts_ran (i : Nat) (rd : BitVec 5) (ra : BitVec 5) (rb : BitVec 5) (s : State) : Ran s (execMts i rd ra rb s) := by
  unfold execMts
  refine s.issue_ran i _ (State.legal_kept (Kept.refl s) _ _ (State.priv_kept (Kept.refl s) _ _ ?_))
  split
  · exact State.with_kept (Kept.refl s) _ _
  · exact Kept.refl s

theorem execEret_ran (i : Nat) (rd : BitVec 5) (ra : BitVec 5) (rb : BitVec 5) (s : State) : Ran s (execEret i rd ra rb s) := by
  unfold execEret
  exact s.issue_ran i _ (State.legal_kept (Kept.refl s) _ _ (State.priv_kept (Kept.refl s) _ _
    (State.goTo_kept (Kept.refl s) _ (State.insTarget_kept (State.modCore_kept (Kept.refl s) _ _) _ _ _ _))))

theorem execFence_ran (i : Nat) (rd : BitVec 5) (ra : BitVec 5) (rb : BitVec 5) (s : State) : Ran s (execFence i rd ra rb s) := by
  unfold execFence
  refine s.issue_ran i _ (State.legal_kept (Kept.refl s) _ _ ?_)
  split
  · exact Kept.refl s
  · split
    · exact State.storeFault_kept (State.retire_kept (Kept.refl s) _ _) _ _
    · exact Kept.refl s

theorem execStoreError_ran (i : Nat) (a : Nat) (s : State) : Ran s (execStoreError i a s) := by
  unfold execStoreError
  try simp only []
  repeat' (first | with_reducible exact Kept.refl _ | with_reducible exact Ran.idle _ | with_reducible assumption | (with_reducible apply Ran.done) | (with_reducible apply State.storeFault_kept) | split)

theorem execSampleInterrupt_ran (i : Nat) (s : State) : Ran s (execSampleInterrupt i s) := by
  unfold execSampleInterrupt
  try simp only []
  repeat' (first | with_reducible exact Kept.refl _ | with_reducible exact Ran.idle _ | with_reducible assumption | (with_reducible apply Ran.done) | (with_reducible apply State.p_kept) | (with_reducible apply State.enterHandler_kept) | split)

theorem execLw_ran (i : Nat) (rd : BitVec 5) (ra : BitVec 5) (imm : BitVec 16) (bad : Bool) (s : State) : Ran s (execLw i rd ra imm bad s) := by
  apply s.load_ran

theorem execLh_ran (i : Nat) (rd : BitVec 5) (ra : BitVec 5) (imm : BitVec 16) (bad : Bool) (s : State) : Ran s (execLh i rd ra imm bad s) := by
  apply s.load_ran

theorem execLhu_ran (i : Nat) (rd : BitVec 5) (ra : BitVec 5) (imm : BitVec 16) (bad : Bool) (s : State) : Ran s (execLhu i rd ra imm bad s) := by
  apply s.load_ran

theorem execLb_ran (i : Nat) (rd : BitVec 5) (ra : BitVec 5) (imm : BitVec 16) (bad : Bool) (s : State) : Ran s (execLb i rd ra imm bad s) := by
  apply s.load_ran

theorem execLbu_ran (i : Nat) (rd : BitVec 5) (ra : BitVec 5) (imm : BitVec 16) (bad : Bool) (s : State) : Ran s (execLbu i rd ra imm bad s) := by
  apply s.load_ran

theorem execLd_ran (i : Nat) (rd : BitVec 5) (ra : BitVec 5) (imm : BitVec 16) (bad : Bool) (s : State) : Ran s (execLd i rd ra imm bad s) := by
  apply s.load_ran

theorem execSw_ran (i : Nat) (rd : BitVec 5) (ra : BitVec 5) (imm : BitVec 16) (s : State) : Ran s (execSw i rd ra imm s) := by
  apply s.storeOp_ran

theorem execSh_ran (i : Nat) (rd : BitVec 5) (ra : BitVec 5) (imm : BitVec 16) (s : State) : Ran s (execSh i rd ra imm s) := by
  apply s.storeOp_ran

theorem execSb_ran (i : Nat) (rd : BitVec 5) (ra : BitVec 5) (imm : BitVec 16) (s : State) : Ran s (execSb i rd ra imm s) := by
  apply s.storeOp_ran

theorem execSd_ran (i : Nat) (rd : BitVec 5) (ra : BitVec 5) (imm : BitVec 16) (s : State) : Ran s (execSd i rd ra imm s) := by
  apply s.storeOp_ran

theorem execAt_ran (i : Nat) (rt : BitVec 5) (rs : BitVec 5) (imm : BitVec 16) (s : State) : Ran s (execAt i rt rs imm s) := by
  unfold execAt
  exact s.issue_ran i _ (State.legal_kept (Kept.refl s) _ _ (State.postEvent_kept (Kept.refl s) _ _ _ _))

theorem execEmit_ran (i : Nat) (rt : BitVec 5) (rs : BitVec 5) (imm : BitVec 16) (s : State) : Ran s (execEmit i rt rs imm s) := by
  unfold execEmit
  exact s.issue_ran i _ (State.legal_kept (Kept.refl s) _ _ (State.emitTo_kept (Kept.refl s) _ _ _))

theorem execSnap_ran (i : Nat) (rt : BitVec 5) (rs : BitVec 5) (imm : BitVec 16) (s : State) : Ran s (execSnap i rt rs imm s) := by
  unfold execSnap
  exact s.issue_ran i _ (State.legal_kept (Kept.refl s) _ _ (State.modCore_kept (State.follower_kept (State.slip_kept (Kept.refl s) _)) _ _))

theorem execWaitc_ran (i : Nat) (rt : BitVec 5) (rs : BitVec 5) (imm : BitVec 16) (s : State) : Ran s (execWaitc i rt rs imm s) := by
  unfold execWaitc
  refine s.issue_ran i _ (State.legal_kept (Kept.refl s) _ _ ?_)
  have h : Kept s (s.slip i).follower.2 := State.follower_kept (State.slip_kept (Kept.refl s) _)
  split
  · exact h
  · exact h

theorem execWaitcComplete_ran (i : Nat) (s : State) : Ran s (execWaitcComplete i s) := by
  unfold execWaitcComplete
  split
  · simp only []
    split
    · exact Ran.done (State.conclude_kept _ (e := .next _ _) (State.follower_kept (Kept.refl s)))
    · exact Ran.idle s
  · exact Ran.idle s

theorem execWedge_ran (i : Nat) (rt : BitVec 5) (rs : BitVec 5) (imm : BitVec 16) (s : State) : Ran s (execWedge i rt rs imm s) := by
  unfold execWedge
  refine s.issue_ran i _ ?_
  simp only []
  refine State.legal_kept (Kept.refl s) _ _ ?_
  have h : Kept s (s.slip i) := State.slip_kept (Kept.refl s) _
  repeat' split
  · exact State.goTo_kept (Kept.refl s) _ h
  · exact State.wedgeHit_kept h _ _ _ _
  · exact State.goTo_kept (Kept.refl s) _ (State.follower_kept h)
  · exact State.follower_kept h

theorem execWedgeEdge_ran (src : Nat) (falling : Bool) (s : State) : Ran s (execWedgeEdge src falling s) := by
  unfold execWedgeEdge
  try simp only []
  repeat' (first | with_reducible exact Kept.refl _ | with_reducible exact Ran.idle _ | with_reducible assumption | (with_reducible apply Ran.done) | (with_reducible refine Kept.forRange _ _ _ ?_ ?_) | (intro _ _ _) | (with_reducible apply State.sensorLevel_kept) | (with_reducible apply State.edgeFor_kept) | split | (simp only [Kept.upd_iff]))

theorem execWedgeTimeout_ran (i : Nat) (s : State) : Ran s (execWedgeTimeout i s) := by
  unfold execWedgeTimeout
  split
  · simp only []
    split
    · exact Ran.done (State.conclude_kept _ (State.goTo_kept (State.follower_kept (Kept.refl s)) _ (State.follower_kept (Kept.refl s))))
    · exact Ran.idle s
  · exact Ran.idle s

theorem execRpush_ran (i : Nat) (rt : BitVec 5) (rs : BitVec 5) (imm : BitVec 16) (s : State) : Ran s (execRpush i rt rs imm s) := by
  apply s.ringOp_ran

theorem execRpop_ran (i : Nat) (rt : BitVec 5) (rs : BitVec 5) (imm : BitVec 16) (s : State) : Ran s (execRpop i rt rs imm s) := by
  apply s.ringOp_ran

theorem execRingWaitComplete_ran (i : Nat) (s : State) : Ran s (execRingWaitComplete i s) := by
  unfold execRingWaitComplete
  try simp only []
  repeat' (first | with_reducible exact Kept.refl _ | with_reducible exact Ran.idle _ | with_reducible assumption | (with_reducible apply Ran.done) | (with_reducible apply State.ringRetry_kept) | split)

theorem execClaim_ran (i : Nat) (rt : BitVec 5) (rs : BitVec 5) (imm : BitVec 16) (s : State) : Ran s (execClaim i rt rs imm s) := by
  apply s.claimOp_ran

theorem execFree_ran (i : Nat) (rt : BitVec 5) (rs : BitVec 5) (imm : BitVec 16) (s : State) : Ran s (execFree i rt rs imm s) := by
  apply s.claimOp_ran

theorem execBfclr_ran (i : Nat) (vd : BitVec 4) (va : BitVec 4) (vb : BitVec 4) (g : BitVec 5) (func : BitVec 9) (s : State) : Ran s (execBfclr i vd va vb g func s) := by
  apply s.vecOp_ran

theorem execBfmac_ran (i : Nat) (vd : BitVec 4) (va : BitVec 4) (vb : BitVec 4) (g : BitVec 5) (func : BitVec 9) (s : State) : Ran s (execBfmac i vd va vb g func s) := by
  apply s.vecOp_ran

theorem execBfnorm_ran (i : Nat) (vd : BitVec 4) (va : BitVec 4) (vb : BitVec 4) (g : BitVec 5) (func : BitVec 9) (s : State) : Ran s (execBfnorm i vd va vb g func s) := by
  apply s.vecOp_ran

theorem execSlew_ran (i : Nat) (vd : BitVec 4) (va : BitVec 4) (vb : BitVec 4) (g : BitVec 5) (func : BitVec 9) (s : State) : Ran s (execSlew i vd va vb g func s) := by
  apply s.vecOp_ran

theorem execMinsel_ran (i : Nat) (vd : BitVec 4) (va : BitVec 4) (vb : BitVec 4) (g : BitVec 5) (func : BitVec 9) (s : State) : Ran s (execMinsel i vd va vb g func s) := by
  apply s.vecOp_ran

theorem execBfld_ran (i : Nat) (vd : BitVec 4) (ga : BitVec 5) (n1 : BitVec 3) (off : BitVec 14) (bad : Bool) (s : State) : Ran s (execBfld i vd ga n1 off bad s) := by
  unfold execBfld
  refine s.issue_ran i _ ?_
  simp only []
  refine State.legal_kept (Kept.refl s) _ _ ?_
  split
  · rename_i e he; show Kept s e.1; rw [State.eaJudge_error he]; exact Kept.refl s
  · rename_i x hx
    have h1 := State.coreRead_kept (State.badData_kept (Kept.refl s) x.1 bad) i x.1 20 ((s.coreOf i).vecEa ga off) x.2
    revert h1
    cases (s.badData x.1 bad).coreRead i x.1 20 ((s.coreOf i).vecEa ga off) x.2 with
    | error e => exact id
    | ok r => intro h1; exact State.legal_kept (Kept.refl s) _ _ (State.modCore_kept h1 _ _)

theorem execBfst_ran (i : Nat) (vd : BitVec 4) (ga : BitVec 5) (n1 : BitVec 3) (off : BitVec 14) (s : State) : Ran s (execBfst i vd ga n1 off s) := by
  unfold execBfst
  refine s.issue_ran i _ ?_
  simp only []
  refine State.legal_kept (Kept.refl s) _ _ ?_
  split
  · rename_i e he; show Kept s e.1; rw [State.eaJudge_error he]; exact Kept.refl s
  · exact State.writeVector_kept (Kept.refl s) _ _ _ _ _ _

theorem execTbl_ran (i : Nat) (vd : BitVec 4) (va : BitVec 4) (vb : BitVec 4) (g : BitVec 5) (func : BitVec 9) (bad : Bool) (s : State) : Ran s (execTbl i vd va vb g func bad s) := by
  unfold execTbl
  refine s.issue_ran i _ ?_
  simp only []
  refine State.legal_kept (Kept.refl s) _ _ ?_
  split
  · rename_i e he; show Kept s e.1; rw [State.eaJudge_error he]; exact Kept.refl s
  · rename_i x hx
    have h1 := State.readPieces_kept i 4 x.2 2 (State.badData_kept (Kept.refl s) x.1 bad) x.1 ((s.coreOf i).get g).toNat
    revert h1
    cases (s.badData x.1 bad).readPieces i 4 x.2 2 x.1 ((s.coreOf i).get g).toNat with
    | error e => exact id
    | ok r =>
      intro h1
      simp only []
      split
      · exact Kept.refl s
      · split
        · rename_i e he; show Kept s e.1; rw [State.eaJudge_error he]; exact h1
        · have h2 := State.tblLanes_kept i x.2 x.1 ((s.coreOf i).get g).toNat (bits r.1 15 0) (bit r.1 22) ((s.coreOf i).vreg va)
            (func.toNat + 1) h1 0
          revert h2
          cases r.2.tblLanes i x.2 x.1 ((s.coreOf i).get g).toNat (bits r.1 15 0) (bit r.1 22) ((s.coreOf i).vreg va) (func.toNat + 1) 0 with
          | error e => exact id
          | ok q => intro h2; exact State.modCore_kept h2 _ _

/-- Every command ends in the state as it was, or in one kept from it with what it caused settled. -/
theorem exec_ran (c : Instr) (s : State) : Ran s (exec c s) := by
  cases c with
  | registerWrite => exact execRegisterWrite_ran _ _ _ _ s
  | pairLoRead => exact execPairLoRead_ran _ _ s
  | pairHiRead => exact execPairHiRead_ran _ _ s
  | pairLoWrite => exact execPairLoWrite_ran _ _ _ s
  | pairHiWrite => exact execPairHiWrite_ran _ _ _ s
  | unmapped => exact execUnmapped_ran _ _ _ _ _ s
  | cordSlip => exact execCordSlip_ran _ s
  | followerRestored => exact execFollowerRestored_ran _ s
  | actEventArrive => exact execActEventArrive_ran _ _ _ _ s
  | actEventFire => exact execActEventFire_ran _ s
  | qtailWrite => exact execQtailWrite_ran _ _ _ s
  | qheadWrite => exact execQheadWrite_ran _ _ _ s
  | qcfgWrite => exact execQcfgWrite_ran _ _ _ s
  | qbaseWrite => exact execQbaseWrite_ran _ _ _ s
  | pmxClaim => exact execPmxClaim_ran _ _ s
  | pmxFree => exact execPmxFree_ran _ _ s
  | commitGo => exact execCommitGo_ran _ _ s
  | shadowCopy => exact execShadowCopy_ran _ s
  | shadowCopyStopped => exact execShadowCopyStopped_ran _ s
  | powerOnReset => exact execPowerOnReset_ran s
  | warmReset => exact execWarmReset_ran s
  | wakeFromSleep => exact execWakeFromSleep_ran s
  | coreReset => exact execCoreReset_ran _ _ _ s
  | unitReset => exact execUnitReset_ran _ _ _ s
  | perst => exact execPerst_ran _ s
  | epochStale => exact execEpochStale_ran _ s
  | otpSenseDone => exact execOtpSenseDone_ran _ s
  | coreRailsGood => exact execCoreRailsGood_ran s
  | bootRomStart => exact execBootRomStart_ran _ s
  | imageVerify => exact execImageVerify_ran _ _ s
  | bootcmd => exact execBootcmd_ran _ _ s
  | lpddr5TrainingDone => exact execLpddr5TrainingDone_ran _ _ s
  | bar4Write => exact execBar4Write_ran _ _ _ _ s
  | descriptorConsume => exact execDescriptorConsume_ran _ s
  | heldRecordRelease => exact execHeldRecordRelease_ran _ s
  | bucketUpdate => exact execBucketUpdate_ran s
  | gathChoice => exact execGathChoice_ran s
  | preregEdge => exact execPreregEdge_ran _ s
  | sewPointFix => exact execSewPointFix_ran _ _ _ s
  | sewnWithdraw => exact execSewnWithdraw_ran _ _ s
  | sewingPointReached => exact execSewingPointReached_ran _ _ s
  | regWindowExpire => exact execRegWindowExpire_ran _ _ _ s
  | sideImaged => exact execSideImaged_ran _ _ _ s
  | sheetEdge => exact execSheetEdge_ran _ _ s
  | edgeWindowExpire => exact execEdgeWindowExpire_ran _ _ _ s
  | exitConfirmed => exact execExitConfirmed_ran _ _ s
  | purgeConfirm => exact execPurgeConfirm_ran s
  | purgeFail => exact execPurgeFail_ran _ s
  | purgePathRun => exact execPurgePathRun_ran s
  | purgePathRunEnd => exact execPurgePathRunEnd_ran s
  | scmdContinue => exact execScmdContinue_ran _ _ s
  | scmdRetry => exact execScmdRetry_ran _ _ s
  | scmdAbort => exact execScmdAbort_ran _ _ s
  | scmdOperatorDelivered => exact execScmdOperatorDelivered_ran _ _ s
  | scmdOperatorRemoved => exact execScmdOperatorRemoved_ran _ _ s
  | gathCtrlWrite => exact execGathCtrlWrite_ran _ _ s
  | gathUnitReset => exact execGathUnitReset_ran _ s
  | webIndexEdge => exact execWebIndexEdge_ran _ s
  | webStop => exact execWebStop_ran _ s
  | webRestart => exact execWebRestart_ran s
  | stationEnable => exact execStationEnable_ran _ _ _ s
  | bdEdge => exact execBdEdge_ran _ _ _ _ s
  | bdWindowExpire => exact execBdWindowExpire_ran _ _ s
  | ampLoopUpdate => exact execAmpLoopUpdate_ran _ s
  | scanSweepEnd => exact execScanSweepEnd_ran _ s
  | scanCaptureTimeout => exact execScanCaptureTimeout_ran _ s
  | scanCoil => exact execScanCoil_ran _ _ s
  | rampRestart => exact execRampRestart_ran _ s
  | leadOutEnd => exact execLeadOutEnd_ran _ s
  | apcSlot => exact execApcSlot_ran _ _ _ s
  | ldcmdWrite => exact execLdcmdWrite_ran _ _ _ _ s
  | laneFrameSend => exact execLaneFrameSend_ran _ s
  | ldFault => exact execLdFault_ran _ _ s
  | laserDisClear => exact execLaserDisClear_ran _ s
  | calrunWrite => exact execCalrunWrite_ran _ _ _ s
  | caltArm => exact execCaltArm_ran _ _ _ s
  | calRunEnd => exact execCalRunEnd_ran _ s
  | facetBd => exact execFacetBd_ran _ _ s
  | dmaDescFetch => exact execDmaDescFetch_ran _ s
  | ownPoll => exact execOwnPoll_ran _ s
  | notOwned => exact execNotOwned_ran _ s
  | dmaBeatError => exact execDmaBeatError_ran _ _ _ s
  | dmaComplete => exact execDmaComplete_ran _ s
  | dmaRestart => exact execDmaRestart_ran _ _ s
  | dmaStop => exact execDmaStop_ran _ _ s
  | dmaUnitReset => exact execDmaUnitReset_ran s
  | ingGo => exact execIngGo_ran _ _ _ s
  | compressorHandoff => exact execCompressorHandoff_ran _ _ s
  | blockStored => exact execBlockStored_ran _ s
  | runTake => exact execRunTake_ran _ s
  | runwaitExpire => exact execRunwaitExpire_ran _ s
  | sideIngestDone => exact execSideIngestDone_ran _ s
  | shwFlip => exact execShwFlip_ran _ _ _ s
  | shwAccess => exact execShwAccess_ran _ _ _ _ _ _ s
  | qringWrite => exact execQringWrite_ran _ _ _ s
  | dcpJobPush => exact execDcpJobPush_ran _ _ _ _ _ _ _ s
  | dcpBlockDecode => exact execDcpBlockDecode_ran _ _ s
  | qstEcc => exact execQstEcc_ran _ _ s
  | dcpUnitReset => exact execDcpUnitReset_ran _ s
  | add => exact execAdd_ran _ _ _ _ s
  | sub => exact execSub_ran _ _ _ _ s
  | and => exact execAnd_ran _ _ _ _ s
  | or => exact execOr_ran _ _ _ _ s
  | xor => exact execXor_ran _ _ _ _ s
  | sll => exact execSll_ran _ _ _ _ s
  | srl => exact execSrl_ran _ _ _ _ s
  | sra => exact execSra_ran _ _ _ _ s
  | slt => exact execSlt_ran _ _ _ _ s
  | sltu => exact execSltu_ran _ _ _ _ s
  | mul => exact execMul_ran _ _ _ _ s
  | mulh => exact execMulh_ran _ _ _ _ s
  | mulhu => exact execMulhu_ran _ _ _ _ s
  | dvs => exact execDvs_ran _ _ _ _ s
  | dvu => exact execDvu_ran _ _ _ _ s
  | min => exact execMin_ran _ _ _ _ s
  | max => exact execMax_ran _ _ _ _ s
  | jalr => exact execJalr_ran _ _ _ _ s
  | mfs => exact execMfs_ran _ _ _ _ s
  | mts => exact execMts_ran _ _ _ _ s
  | eret => exact execEret_ran _ _ _ _ s
  | fence => exact execFence_ran _ _ _ _ s
  | addi => exact execAddi_ran _ _ _ _ s
  | andi => exact execAndi_ran _ _ _ _ s
  | ori => exact execOri_ran _ _ _ _ s
  | xori => exact execXori_ran _ _ _ _ s
  | slti => exact execSlti_ran _ _ _ _ s
  | sltiu => exact execSltiu_ran _ _ _ _ s
  | slli => exact execSlli_ran _ _ _ _ s
  | srli => exact execSrli_ran _ _ _ _ s
  | srai => exact execSrai_ran _ _ _ _ s
  | lui => exact execLui_ran _ _ _ _ s
  | lw => exact execLw_ran _ _ _ _ _ s
  | lh => exact execLh_ran _ _ _ _ _ s
  | lhu => exact execLhu_ran _ _ _ _ _ s
  | lb => exact execLb_ran _ _ _ _ _ s
  | lbu => exact execLbu_ran _ _ _ _ _ s
  | sw => exact execSw_ran _ _ _ _ s
  | sh => exact execSh_ran _ _ _ _ s
  | sb => exact execSb_ran _ _ _ _ s
  | ld => exact execLd_ran _ _ _ _ _ s
  | sd => exact execSd_ran _ _ _ _ s
  | beq => exact execBeq_ran _ _ _ _ s
  | bne => exact execBne_ran _ _ _ _ s
  | blt => exact execBlt_ran _ _ _ _ s
  | bge => exact execBge_ran _ _ _ _ s
  | bltu => exact execBltu_ran _ _ _ _ s
  | bgeu => exact execBgeu_ran _ _ _ _ s
  | jal => exact execJal_ran _ _ _ s
  | atTime => exact execAt_ran _ _ _ _ s
  | waitc => exact execWaitc_ran _ _ _ _ s
  | waitcComplete => exact execWaitcComplete_ran _ s
  | wedge => exact execWedge_ran _ _ _ _ s
  | wedgeEdge => exact execWedgeEdge_ran _ _ s
  | wedgeTimeout => exact execWedgeTimeout_ran _ s
  | snap => exact execSnap_ran _ _ _ _ s
  | emit => exact execEmit_ran _ _ _ _ s
  | rpush => exact execRpush_ran _ _ _ _ s
  | rpop => exact execRpop_ran _ _ _ _ s
  | ringWaitComplete => exact execRingWaitComplete_ran _ s
  | claim => exact execClaim_ran _ _ _ _ s
  | free => exact execFree_ran _ _ _ _ s
  | bfclr => exact execBfclr_ran _ _ _ _ _ _ s
  | bfld => exact execBfld_ran _ _ _ _ _ _ s
  | bfst => exact execBfst_ran _ _ _ _ _ s
  | bfmac => exact execBfmac_ran _ _ _ _ _ _ s
  | bfnorm => exact execBfnorm_ran _ _ _ _ _ _ s
  | slew => exact execSlew_ran _ _ _ _ _ _ s
  | minsel => exact execMinsel_ran _ _ _ _ _ _ s
  | tbl => exact execTbl_ran _ _ _ _ _ _ _ s
  | storeError => exact execStoreError_ran _ _ s
  | sampleInterrupt => exact execSampleInterrupt_ran _ s
  | watchdogExpire => exact execWatchdogExpire_ran _ s
  | spareMapComplete => exact execSpareMapComplete_ran s
  | motRun => exact execMotRun_ran _ _ s
  | motSpeed => exact execMotSpeed_ran _ _ s
  | motGear => exact execMotGear_ran _ _ s
  | motCoast => exact execMotCoast_ran _ s
  | motVcmd => exact execMotVcmd_ran _ _ s
  | motOffsetDone => exact execMotOffsetDone_ran _ _ _ s
  | pwmPeriodStart => exact execPwmPeriodStart_ran _ _ s
  | motHall => exact execMotHall_ran _ _ s
  | motEnc => exact execMotEnc_ran _ _ s
  | catchWindowEnd => exact execCatchWindowEnd_ran _ _ _ _ s
  | motOverspeed => exact execMotOverspeed_ran _ _ s
  | brakeDone => exact execBrakeDone_ran _ _ s
  | motCatch => exact execMotCatch_ran _ s
  | alignDwellEnd => exact execAlignDwellEnd_ran _ s
  | motOpen => exact execMotOpen_ran _ _ _ s
  | motStart => exact execMotStart_ran _ s
  | busSample => exact execBusSample_ran _ _ _ s
  | busChop => exact execBusChop_ran _ s
  | busOv2 => exact execBusOv2_ran _ s
  | ztExit => exact execZtExit_ran _ s
  | ascExit => exact execAscExit_ran _ _ s
  | motDesat => exact execMotDesat_ran _ s
  | stpGo => exact execStpGo_ran _ s
  | stpStop => exact execStpStop_ran _ s
  | stpHalt => exact execStpHalt_ran _ s
  | profileUpdate => exact execProfileUpdate_ran _ s
  | holdtExpire => exact execHoldtExpire_ran _ s
  | posWrite => exact execPosWrite_ran _ _ _ s
  | latchEdge => exact execLatchEdge_ran _ _ _ s
  | stpOpen => exact execStpOpen_ran _ _ _ s
  | stpShort => exact execStpShort_ran _ _ _ s
  | portResult => exact execPortResult_ran _ _ s
  | fusDrive => exact execFusDrive_ran _ _ s
  | fusZvs => exact execFusZvs_ran _ _ s
  | floorDecay => exact execFloorDecay_ran _ s
  | fusOc => exact execFusOc_ran _ _ s
  | fusBand => exact execFusBand_ran _ s
  | fusStale => exact execFusStale_ran _ s
  | hvLevel => exact execHvLevel_ran _ _ s
  | hvDrive => exact execHvDrive_ran _ _ _ s
  | hvBand => exact execHvBand_ran _ s
  | hvArc => exact execHvArc_ran _ _ s
  | hvArcHoldEnd => exact execHvArcHoldEnd_ran _ s
  | hvShort => exact execHvShort_ran _ s
  | hvOpen => exact execHvOpen_ran _ s
  | synEnable => exact execSynEnable_ran _ _ _ s
  | synLocked => exact execSynLocked_ran _ s
  | synLock => exact execSynLock_ran _ _ s
  | alignMeasure => exact execAlignMeasure_ran _ _ s
  | alignValid => exact execAlignValid_ran _ _ s
  | profileCopyDone => exact execProfileCopyDone_ran _ s
  | ckoenWrite => exact execCkoenWrite_ran _ s
  | thmSample => exact execThmSample_ran _ s
  | thmShutHold => exact execThmShutHold_ran s
  | thmRestart => exact execThmRestart_ran s
  | txSample => exact execTxSample_ran _ s
  | thmPair => exact execThmPair_ran _ s
  | pgChange => exact execPgChange_ran _ _ s
  | failholdExpire => exact execFailholdExpire_ran _ s
  | failgapRelease => exact execFailgapRelease_ran s
  | halt => exact execHalt_ran s
  | en => exact execEn_ran _ s
  | dis => exact execDis_ran _ s
  | wait => exact execWait_ran s
  | waitpg => exact execWaitpg_ran s
  | check => exact execCheck_ran s
  | jmp => exact execJmp_ran s
  | jmpif => exact execJmpif_ran s
  | sync => exact execSync_ran s
  | margin => exact execMargin_ran _ _ s
  | psqWaitDone => exact execPsqWaitDone_ran s
  | waitpgDone => exact execWaitpgDone_ran s
  | waitpgFail => exact execWaitpgFail_ran s
  | syncDone => exact execSyncDone_ran _ s
  | psqSync => exact execPsqSync_ran s
  | psqVin => exact execPsqVin_ran _ s
  | vinholdExpire => exact execVinholdExpire_ran s
  | vinRecovery => exact execVinRecovery_ran _ s
  | minoffEnd => exact execMinoffEnd_ran s
  | wakeEdge => exact execWakeEdge_ran s
  | wakeAlarm => exact execWakeAlarm_ran s
  | on => exact execOn_ran _ _ s
  | off => exact execOff_ran _ _ s
  | runat => exact execRunat_ran _ _ s
  | clear => exact execClear_ran _ _ s
  | idle => exact execIdle_ran _ _ s
  | run => exact execRun_ran _ _ s
  | sleep => exact execSleep_ran _ _ s
  | shelf => exact execShelf_ran _ _ s
  | psqCmdMargin => exact execPsqCmdMargin_ran _ _ _ _ s
  | psqState => exact execPsqState_ran _ _ s
  | psqReached => exact execPsqReached_ran _ _ s
  | psqRequest => exact execPsqRequest_ran _ _ s
  | pmbusPoll => exact execPmbusPoll_ran _ s
  | start => exact execStart_ran _ s
  | din32 => exact execDin32_ran _ _ _ s
  | din8 => exact execDin8_ran _ _ _ s
  | ckuCfgWrite => exact execCkuCfgWrite_ran _ _ _ s
  | faultEvent => exact execFaultEvent_ran _ _ _ _ _ _ s
  | classbDeadline => exact execClassbDeadline_ran _ s
  | fclAck => exact execFclAck_ran _ _ s
  | fclForce => exact execFclForce_ran _ _ _ s
  | ringcfgWrite => exact execRingcfgWrite_ran _ _ s
  | fclSelf => exact execFclSelf_ran _ s
  | leave => exact execLeave_ran _ s
  | jrnRecordRequest => exact execJrnRecordRequest_ran _ _ _ _ _ _ _ _ s
  | jrnCommitComplete => exact execJrnCommitComplete_ran _ s
  | jrnMirror => exact execJrnMirror_ran s
  | flushComplete => exact execFlushComplete_ran s
  | flush => exact execFlush_ran _ s
  | init => exact execInit_ran _ s
  | release => exact execRelease_ran _ s
  | journalReplay => exact execJournalReplay_ran _ s
  | replayComplete => exact execReplayComplete_ran s
  | reportPost => exact execReportPost_ran s
  | ridxWrite => exact execRidxWrite_ran _ _ s
  | ridxFetchDone => exact execRidxFetchDone_ran s
  | otpArrayRead => exact execOtpArrayRead_ran _ _ _ s
  | otpScrub => exact execOtpScrub_ran s
  | otpScrubDone => exact execOtpScrubDone_ran _ s
  | program => exact execProgram_ran _ _ _ s
  | lock => exact execLock_ran _ _ _ _ s
  | repair => exact execRepair_ran _ _ _ s
  | otpBurnDone => exact execOtpBurnDone_ran _ _ s
  | otpWindow => exact execOtpWindow_ran _ s
  | nonce => exact execNonce_ran _ _ s
  | enterMaker => exact execEnterMaker_ran _ _ _ s
  | enterField => exact execEnterField_ran _ _ _ s
  | consent => exact execConsent_ran _ _ _ s
  | token => exact execToken_ran _ _ _ s
  | scrap => exact execScrap_ran _ _ _ s
  | hywEnable => exact execHywEnable_ran _ _ _ s
  | hywBreak => exact execHywBreak_ran _ s
  | hywAnnounce => exact execHywAnnounce_ran _ _ _ s
  | hywAnnounceTimeout => exact execHywAnnounceTimeout_ran _ s
  | ident => exact execIdent_ran _ s
  | auth => exact execAuth_ran _ s
  | hywAdd => exact execHywAdd_ran _ s
  | read => exact execRead_ran _ s
  | hywResponse => exact execHywResponse_ran _ _ s
  | hywResponseTimeout => exact execHywResponseTimeout_ran _ s
  | meter => exact execMeter_ran _ _ _ s
  | reauth => exact execReauth_ran _ _ s
  | hywLine => exact execHywLine_ran _ _ s
  | lineTest => exact execLineTest_ran _ _ s
  | roscCount => exact execRoscCount_ran _ s
  | hostenWrite => exact execHostenWrite_ran _ _ s
  | obsRunWrite => exact execObsRunWrite_ran _ _ s
  | counterWrap => exact execCounterWrap_ran _ s
  | bwWindowEdge => exact execBwWindowEdge_ran s
  | traceRecord => exact execTraceRecord_ran _ _ _ _ _ _ s
  | traceOut => exact execTraceOut_ran _ s
  | mark => exact execMark_ran _ _ s
  | padcfgWrite => exact execPadcfgWrite_ran _ _ _ s
  | snswireWrite => exact execSnswireWrite_ran _ _ s
  | snsWire => exact execSnsWire_ran _ s
  | snsWireClear => exact execSnsWireClear_ran _ s
  | linkDown => exact execLinkDown_ran _ s
  | memChan => exact execMemChan_ran _ s
  | ringMemoryWrite => exact execRingMemoryWrite_ran _ _ _ _ s
  | registerRead => exact execRegisterRead_ran _ _ _ s

end Sys2Proof.Machine
end

