-- ==== Sys2Proof/Tests/States.lean ====
section
/-! SUPPORT. The small states that the tests and witnesses start from. -/

namespace Sys2Proof.Tests

open Sys2Proof.Machine

/-- s with register fields set. -/
def put (s : State) (l : List (FieldRef × Nat)) : State := l.foldl (fun a x => a.p x.1 x.2) s

/-- s with fields set in the active copy too (R34). -/
def putA (s : State) (l : List (FieldRef × Nat)) : State :=
  l.foldl (fun a x => (a.p x.1 x.2).setActive x.1.reg x.1.n x.1.k ((a.p x.1 x.2).word x.1.reg x.1.n x.1.k)) s

/-- A device past replay, at a late time: SYN0 locked, every follower good. -/
def up : State :=
  put { State.reset with cord := 200000000000, aon := 300000000000 }
    [(F.LCS_BOOTSTAT_STAGE, 6), (F.SYN_STAT_STATE 0, 2), (F.SYN_STAT_STATE 1, 2), (F.CORD_STAT_RUN, 1), (F.CORD_STAT_CORE_OK, 1), (F.JRN_STAT_STATE, 1)]

set_option maxRecDepth 100000 in
/-- No record of an empty FRAM is good (R344). -/
theorem blank_fram (s : State) (h : s.fram = []) (a : Nat) : recOk (s.framRd a 32) = false := by
  have e : s.framRd a 32 = List.replicate 32 255 := by unfold State.framRd; rw [h]; rfl
  rw [e]; decide +kernel

end Sys2Proof.Tests
end

