-- ==== Sys2Proof/Tests/Slice0.lean ====
section
/-! SUPPORT. Small tests: ill-formed commands are refused, the spec's worked examples, and the witnesses that are not in the Wit files. -/

namespace Sys2Proof.Tests

open Sys2Proof Sys2Proof.Machine

set_option maxRecDepth 100000
set_option Elab.async false

/-! ### Well-formed commands: one ill-formed term for each kind of check -/

theorem test_wf_good : wellFormed (.registerWrite (.core 23) 0x100000 4 7) = true := by decide
theorem test_wf_core : wellFormed (.registerWrite (.core 24) 0x100000 4 7) = false := by decide
theorem test_wf_endpoint : wellFormed (.bootcmd (.host 2) 0) = false := by decide
theorem test_wf_address : wellFormed (.pairLoRead (.core 0) (2 ^ 40)) = false := by decide
theorem test_wf_width : wellFormed (.registerWrite (.core 0) 0x100000 3 7) = false := by decide
theorem test_wf_value : wellFormed (.qtailWrite (.core 0) 5 (2 ^ 32)) = false := by decide
theorem test_wf_ring : wellFormed (.qtailWrite (.core 0) 128 0) = false := by decide
theorem test_wf_resource : wellFormed (.pmxClaim (.host 0) 65536) = false := by decide
theorem test_wf_set : wellFormed (.shadowCopy (.strPhase 4)) = false := by decide
theorem test_wf_stamp : wellFormed (.actEventArrive (.core 0) 1 (2 ^ 64) 0) = false := by decide
theorem test_wf_stream : wellFormed (.descriptorConsume 8) = false := by decide
theorem test_wf_key : wellFormed (.coreReset (.host 0) 256 0) = false := by decide
theorem test_wf_gotum_core : wellFormed (.add 24 1 2 3) = false := by decide

/-! ### Gotum's encodings: the five words the spec works out (R180, R181) -/

theorem test_word_addi : encB 0x01 3 1 0xFFFC = 0x0461FFFC := by decide
theorem test_word_add : encA 0x00 8 4 6 0x000 = 0x01043000 := by decide
theorem test_word_bne : encB 0x21 1 0 3 = 0x84200003 := by decide
theorem test_word_at : encB 0x30 14 16 0x1208 = 0xC1D01208 := by decide
/-- Register pairs of accumulators: ad 1 lies in [23:22], so the field of four bits is 1 in its lowest two. -/
theorem test_word_bfmac : encV 0x3B 1 2 3 0 1 = 0xEC48C001 := by decide

/-- The same words read back as the instructions they stand for. -/
theorem test_read_addi : decodeGotum 7 0x0461FFFC = some (.addi 7 3 1 0xFFFC) := by decide
theorem test_read_add : decodeGotum 7 0x01043000 = some (.add 7 8 4 6) := by decide
theorem test_read_bne : decodeGotum 7 0x84200003 = some (.bne 7 1 0 3) := by decide
theorem test_read_at : decodeGotum 7 0xC1D01208 = some (.atTime 7 14 16 0x1208) := by decide
theorem test_read_bfmac : decodeGotum 20 0xEC48C001 = some (.bfmac 20 1 2 3 0 1) := by decide

/-! ### The spec's worked examples -/

/-- MOT2's pulse of 200 ticks moved out of the quiet window: high from tick 2,750 to 2,950, in quarter ticks (R220). -/
theorem test_quiet_window : (putA up [(F.MOT_PWM_PERIOD 2, 6250), (F.MOT_PWM_SPOS 2, 1), (F.MOT_PWM_QWIN 2, 24), (F.MOT_PWM_DEADT 2, 25)]).highPulse 2 200
    = (11000, 11800) := by decide +kernel

/-- The test block of the quire codec: 32 bytes of zero are stored in 25 bytes (R141 to R146). -/
theorem test_codec_store : storeBlock (List.replicate 32 0) = (false,
    [0x00, 0x09, 0x09, 0x00, 0x20, 0x00, 0x00, 0x00, 0x00, 0x04, 0x0E, 0x24, 0x58, 0xD0, 0xE0, 0x41, 0x82,
     0xAA, 0x36, 0x91, 0x8A, 0x20, 0x00, 0x00, 0x00]) := by decide +kernel

/-- The same block read back. -/
theorem test_codec_read : (match decodeBlock (storeBlock (List.replicate 32 0)).2 8 with | .ok b => b == List.replicate 32 0 | .error _ => false) = true := by decide +kernel

/-- The value of one field after a command, where it completes. -/
def after (c : Instr) (s : State) (f : State → Nat) : Option Nat := match exec c s with | .next t => some (f t) | _ => none

/-- Cord time rolls over between the two halves of a read: the pair is the value at the first read (R14). -/
theorem test_now_pair : (match exec (.pairLoRead (.core 0) (Reg.addr .CORD_NOW_LO 0 0)) { up with cord := 0x1FFFFFFFF } with
    | .next t => (t.busData.map (·.2), after (.pairHiRead (.core 0) (Reg.addr .CORD_NOW_HI 0 0)) { t with cord := 0x200000000 } (fun u => (u.busData.map (·.2)).getD 0))
    | _ => (none, none)) = (some 0xFFFFFFFF, some 1) := by decide +kernel

/-- The host claims ball 14/27 after T4 (R30). -/
theorem test_claim_after_core : after (.pmxClaim (.host 0) 0x1208) { up with claims := [(0x1208, ⟨3, 4⟩)] } (fun t => t.word .PMX_CLAIMRES 0 0)
    = some (2 ^ 31 + 0x3 * 2 ^ 26 + 4 * 2 ^ 21 + 0x1208) := by decide +kernel

/-- CRC-8 of 0x01, 0x02 in two parts (R327 to R329). -/
theorem test_crc8_first : after (.din8 (.core 0) 3 0x01) (put up [(F.CKU_CFG_WIDTH 3, 8), (F.CKU_POLY_LO_P 3, 7), (F.CKU_CFG_REFIN 3, 0), (F.CKU_RUN_LO_R 3, 0), (F.CKU_RUN_HI_R 3, 0)]) (fun t => t.word .CKU_RUN_LO 3 0) = some 7 := by decide +kernel
theorem test_crc8_second : after (.din8 (.core 0) 3 0x02) (put up [(F.CKU_CFG_WIDTH 3, 8), (F.CKU_POLY_LO_P 3, 7), (F.CKU_CFG_REFIN 3, 0), (F.CKU_RUN_LO_R 3, 7)]) (fun t => t.word .CKU_RUN_LO 3 0)
    = some 0x1B := by decide +kernel

/-- L0 of 0x0000_000F: made, fielded, returned once and fielded again (R383). -/
theorem test_l0_field : lcOf 0xF = lcFIELD := by decide
theorem test_l0_returns : lcReturns 0xF = 1 := by decide +kernel

/-- The first fault record of HV5 is due 500,000 ticks after it, under the timer's 2 ms (R341). -/
theorem test_class_b_deadline : after (.faultEvent 107 0x44 0 .b 3 []) (put up [(F.FCL_CLASSB_TIMER, 2000)]) (fun t => (vget t.fcl.hist 0).deadline - t.now) = some 500000 := by decide +kernel

/-- The geometry of the worked example "One duplex colour folio in cord time". -/
def duplexGeo : State :=
  putA up [(F.GATH_GEOM0_D_RT, 1200), (F.GATH_GEOM0_D_EX, 600), (F.GATH_GEOM1_P_ST, 1000), (F.GATH_GEOM1_D_FUS, 6000), (F.GATH_GEOM2_D_DUP, 7500),
    (F.GATH_GEOM2_D_RET, 7000), (F.GATH_GEOM3_D_DIV, 9000), (F.GATH_GEOM3_D_EXIT, 10000), (F.GATH_GEOM4_T_REV, 40), (F.GATH_GEOM4_HV_LEAD, 5)]

/-- Its folio, sewn at t_s = 10^9 at 1,000 mm/s. -/
def duplexFolio : Folio :=
  { desc := { fsn := 0x3C07, stream := 1, duplex := true, stations := 15, length := 2970 }, st := .sewn, sewing := some ⟨1000000000, 1000000, 0, true⟩ }

/-- Steps 5, 12, 13, 15, 20 to 24 of the example (R71, R77, R83). -/
theorem test_duplex_example :
    ((duplexGeo.pathEvents duplexFolio.desc ⟨1000000000, 1000000, 0, true⟩).filterMap (fun e => match e.1 with
      | .transferOn 0 false => some (e.2 - 1000000000)
      | .duplexGate => some (e.2 - 1000000000)
      | .reversal => some (e.2 - 1000000000)
      | .diverterToBin => some (e.2 - 1000000000)
      | .diverterBack => some (e.2 - 1000000000)
      | _ => none),
     duplexGeo.tSide duplexFolio.desc 1000000 1000000000 true - 1000000000, duplexGeo.divPass duplexFolio - 1000000000,
     duplexGeo.exitLead duplexFolio - 1000000000, duplexGeo.exitTrail duplexFolio - 1000000000, duplexGeo.exitConfirm duplexFolio - 1000000000)
    = ([28750000, 182500000, 261750000, 666750000, 747250000], 446750000, 666750000, 696750000, 771000000, 783500000) := by decide +kernel

/-! ### The block's own step -/

theorem test_step_front : step { up with pending := [.bucketUpdate, .purgeConfirm] } = exec .bucketUpdate { up with pending := [.purgeConfirm] } := rfl

theorem test_idle_tick : (match step up with | .next t => t.cord | _ => 0) = up.cord + 1 := by decide +kernel

/-! ### Witnesses of the statements about every step -/

theorem witness_NothingLeftDue : ∃ s t : State, s.settled ∧ step s = .next t := ⟨{ up with pending := [.webRestart] }, _, by decide +kernel, rfl⟩

theorem witness_MemoryFormKept : ∃ s t : State, Memory.wf s = true ∧ s.mem ≠ [] ∧ step s = .next t :=
  ⟨{ up.wr 0x100000000 4 0x12345678 with pending := [.purgeConfirm] }, _, by decide +kernel, by decide +kernel, rfl⟩

/-! ### Tokens (R386, R387): where the signature verifies, the token passes -/

/-- A device in lifecycle state lc with a valid nonce, the vendor key's digest fused, consent given, and a token of this purpose. -/
def tokenState (lc purpose : Nat) : State :=
  let s := put up [(F.LCS_STATE_STATE, lc), (F.LCS_STATE_NONCEV, 1)]
  let t := ((s.setWord .LCS_TOKEN 0 0 0x4E4B4F54).setWord .LCS_TOKEN 0 1 purpose)
  let d := sha256 (List.replicate 64 0)
  let fuses := (List.range 8).map (fun i => (0x80 + i, leNat ((d.drop (4 * i)).take 4))) ++ [(0x42, 1)]
  let a := fuses.foldl (fun a x => Cells.put 0 x.1 (BitVec.ofNat 32 x.2) a) t.otp.array
  { t with otp := { t.otp with array := a, shadow := a } }

/-- What ECDSA P-256 answers for the token of this state (R386). -/
def tokenSigned (s : State) : Bool :=
  Config.ecdsaP256Verify (beNat s.tokenBytes 0x20 32) (beNat s.tokenBytes 0x40 32) (beNat (sha256 (s.tokenBytes.take 0x20)) 0 32)
    (beNat s.tokenBytes 0x60 32) (beNat s.tokenBytes 0x80 32)

theorem token_passes (lc p : Nat) (h : (lc, p) ∈ [(lcFIELD, 1), (lcRETURNED, 2), (lcRETURNED, 3)])
    (signed : tokenSigned ((tokenState lc p).setVotp 1800) = true) : ((tokenState lc p).setVotp 1800).tokenCheck = 0 := by
  simp only [List.mem_cons, Prod.mk.injEq, List.not_mem_nil, or_false] at h
  unfold tokenSigned at signed
  obtain ⟨rfl, rfl⟩ | ⟨rfl, rfl⟩ | ⟨rfl, rfl⟩ := h <;>
    (unfold State.tokenCheck; simp only []
     rw [if_neg (by decide +kernel), if_neg (by decide +kernel), if_neg (by decide +kernel), if_neg (by decide +kernel), signed]
     decide +kernel)

/-- The clauses about a token that passes have states to speak of, wherever its signature verifies. -/
theorem witness_Lifecycle_token (lc p : Nat) (h : (lc, p) ∈ [(lcFIELD, 1), (lcRETURNED, 2), (lcRETURNED, 3)])
    (signed : tokenSigned ((tokenState lc p).setVotp 1800) = true) :
    ∃ s : State, s.plain ∧ s.present (.core 0) ∧ s.on F.OTP_STAT_BUSY = false ∧ s.on F.LCS_STATE_BUSY = false ∧ (s.setVotp 1800).tokenCheck = 0 ∧ s.word .LCS_TOKEN 0 1 = p := by
  refine ⟨tokenState lc p, ?_, ?_, ?_, ?_, token_passes lc p h signed, ?_⟩ <;> clear signed <;>
    (simp only [List.mem_cons, Prod.mk.injEq, List.not_mem_nil, or_false] at h
     obtain ⟨rfl, rfl⟩ | ⟨rfl, rfl⟩ | ⟨rfl, rfl⟩ := h <;> decide +kernel)

end Sys2Proof.Tests
end

