-- ==== Sys2Proof/Tests/WitBus.lean ====
section
/-! SUPPORT. Witnesses: states and operands that meet the hypotheses of each clause of the statements, clause by clause. -/

namespace Sys2Proof.Tests

open Sys2Proof Sys2Proof.Machine

set_option maxRecDepth 100000
set_option linter.unusedVariables false
set_option Elab.async false



theorem witness_StepRunsFront :
    (∃ (s : State) (c : Instr) (rest : (List Instr)), s.pending = c :: rest) :=
  ⟨({ up with pending := [.bucketUpdate, .purgeConfirm] }), (.bucketUpdate), ([.purgeConfirm]), by decide +kernel⟩

theorem witness_IdleTicksCount :
    (∃ (k : Nat) (s : State), s.pending = [] ∧ s.settled ∧ s.clocked = true) :=
  ⟨1000, up, by decide +kernel⟩

def stpOwned (n : Nat) (l : List (FieldRef × Nat)) : State :=
  { put up ([(F.STP_VMAX_V n, 1000), (F.STP_TARGET_POS n, 50)] ++ l) with claims := [(sliceRid (24 + 2 * n), ⟨3, 2⟩)] }
def stpPend (n en : Nat) : State :=
  { stpOwned n [((ShadowSet.stpProfile n).pend, 1), (F.STP_CTRL_EN n, en)] with commits := [{ set := .stpProfile n, go := 5, reach := some 8 }] }

theorem witness_RegisterWrites :
    (∃ (s : State) (q : Requester) (v : Nat), s.settled ∧ s.present q ∧ 10 ≤ bits v 19 0 ∧ bits v 19 0 ≤ 1000000)
    ∧ (∃ (s : State) (q : Requester) (v : Nat), s.settled ∧ s.present q)
    ∧ (∃ (s : State) (q : Requester) (v : Nat) (r : Reg) (n : Nat) (k : Nat), s.settled ∧ s.present q ∧ s.plainWrite q r n k v ∧ v < 2 ^ 32)
    ∧ (∃ (s : State) (q : Requester) (v : Nat) (a : Nat), s.settled ∧ s.present q ∧ a < ringMemBase ∧ a % 4 = 0 ∧ (s.place a).ignoresWrites = true)
    ∧ (∃ (s : State) (i : Nat) (v : Nat), s.calm ∧ s.histRoom ∧ s.present (.core i) ∧ bits v 19 0 < 10)
    ∧ (∃ (s : State) (i : Nat) (v : Nat) (w : Nat), s.calm ∧ s.histRoom ∧ s.present (.core i) ∧ w = 1 ∨ w = 2 ∨ w = 8) :=
  ⟨⟨up, (.core 3), 10, by decide +kernel⟩,
   ⟨up, (.host 1), 0xFFF423FF, by decide +kernel⟩,
   ⟨(put { up with claims := [(sliceRid 46, ⟨3, 2⟩)] } [(F.STP_VMAX_V 11, 7)]), (.core 2), 0xFFFFFFFF, (.STP_VMAX), 11, 0, by decide +kernel⟩,
   ⟨up, (.host 1), 0xFFFFFFFF, (Reg.addr .STP_VMAX 11 0 + 0x8000), by decide +kernel⟩,
   ⟨up, 23, 9, by decide +kernel⟩,
   ⟨up, 0, 9, 8, by decide +kernel⟩⟩

theorem witness_RegisterReads_1 :
    (∃ (s : State) (q : Requester), s.settled ∧ s.present q)
    ∧ (∃ (s : State) (q : Requester) (i : Nat), s.settled ∧ s.present q ∧ s.calm ∧ s.histRoom ∧ q = .core i)
    ∧ (∃ (s : State) (q : Requester), s.settled ∧ s.present q)
    ∧ (∃ (s : State) (q : Requester) (r : Reg) (n : Nat) (k : Nat), s.settled ∧ s.present q ∧ s.stands r n k ∧ r.row.half = .none)
    ∧ (∃ (s : State) (q : Requester) (a : Nat), s.settled ∧ s.present q ∧ a < ringMemBase ∧ a % 4 = 0 ∧ s.place a = .quiet)
    ∧ (∃ (s : State) (q : Requester) (lo : Reg) (hi : Reg) (n : Nat) (k : Nat), s.settled ∧ s.present q ∧ s.plainPair lo hi n k)
    ∧ (∃ (s : State) (q : Requester) (lo : Reg) (hi : Reg) (n : Nat) (k : Nat), s.settled ∧ s.present q ∧ s.plainPair lo hi n k ∧ Cells.get none (q.key (lo.addr n k)) s.captured = none)
    ∧ (∃ (s : State) (q : Requester) (n : Nat) (l : Nat) (h : Nat), s.settled ∧ s.present q ∧ n < 2 ∧ n < s.hosts ∧ l % 2 ^ 28 = 0 ∧ l < 2 ^ 32 ∧ h < 8) :=
  ⟨⟨up, (.host 0), by decide +kernel⟩,
   ⟨up, (.core 5), 5, by decide +kernel⟩,
   ⟨up, (.core 5), by decide +kernel⟩,
   ⟨up, (.core 5), (.STP_VMAX), 11, 0, by decide +kernel⟩,
   ⟨(put up [(F.OTP_DEVID_PART, 0x4820)]), (.core 5), (Reg.addr .STP_VMAX 11 0), by decide +kernel⟩,
   ⟨up, (.core 5), (.OBS_CNT_LO), (.OBS_CNT_HI), 0, 63, by decide +kernel⟩,
   ⟨up, (.host 1), (.FCL_HIST_STAMP_LO), (.FCL_HIST_STAMP_HI), 0, 15, by decide +kernel⟩,
   ⟨up, (.host 0), 1, 0xF0000000, 7, by decide +kernel⟩⟩

theorem witness_RegisterReads_2 :
    (∃ (s : State) (q : Requester) (lo : Reg) (hi : Reg) (n : Nat) (k : Nat) (v : Nat), s.settled ∧ s.present q ∧ s.plainPair lo hi n k ∧ v < 2 ^ 32)
    ∧ (∃ (s : State) (q : Requester) (lo : Reg) (hi : Reg) (n : Nat) (k : Nat) (v : Nat) (l : Nat), (let l := (Cells.get none (q.key (lo.addr n k)) s.staged).getD (s.word lo n k); s.settled ∧ s.present q ∧ s.plainPair lo hi n k ∧ v < 2 ^ 32 ∧ l = (Cells.get none (q.key (lo.addr n k)) s.staged).getD (s.word lo n k) ∧ s.pairOpen lo n k l v))
    ∧ (∃ (s : State) (q : Requester) (a : Nat) (w : Nat) (v : Nat), s.calm ∧ s.histRoom ∧ s.present q ∧ s.reaches q a = true ∧ (w = 1 ∨ w = 2 ∨ w = 4 ∨ w = 8) ∧ s.place a = .none)
    ∧ (∃ (s : State) (q : Requester) (a : Nat) (w : Nat) (v : Nat), s.calm ∧ s.histRoom ∧ s.present q ∧ s.reaches q a = true ∧ (w = 1 ∨ w = 2 ∨ w = 4 ∨ w = 8) ∧ (s.place a = .none ∨ s.place a = .mirror))
    ∧ (∃ (s : State) (q : Requester) (a : Nat) (w : Nat) (v : Nat), s.calm ∧ s.histRoom ∧ s.present q ∧ s.reaches q a = true ∧ (w = 1 ∨ w = 2 ∨ w = 4 ∨ w = 8) ∧ 0x480000 ≤ a ∧ a < 0x500000) :=
  ⟨⟨(put { up with staged := [((Requester.host 0).key (Reg.addr .DMA_APER_BASE_LO 0 1), some 0xF0000000)] } []), (.host 0), (.DMA_APER_BASE_LO), (.DMA_APER_BASE_HI), 0, 1, 0xFFFFFFFF, by decide +kernel⟩,
   ⟨(put { up with staged := [((Requester.host 0).key (Reg.addr .DMA_APER_BASE_LO 0 1), some 0xF0000000)] } []), (.host 0), (.DMA_APER_BASE_LO), (.DMA_APER_BASE_HI), 0, 1, 0xFFFFFFFF, 0xF0000000, by decide +kernel⟩,
   ⟨up, (.core 0), 0x4FFFFF, 1, 1, by decide +kernel⟩,
   ⟨up, (.core 23), mirrorBase, 8, 1, by decide +kernel⟩,
   ⟨up, (.host 1), 0x480000, 4, 1, by decide +kernel⟩⟩

theorem witness_MemoryWindows :
    (∃ (s : State) (q : Requester) (a : Nat) (w : Nat) (v : Nat), s.settled ∧ s.present q ∧ ringMemBase ≤ a ∧ (w = 4 ∨ w = 8) ∧ a % w = 0 ∧ a + w ≤ ringMemBase + ringMemSize)
    ∧ (∃ (s : State) (q : Requester) (a : Nat) (w : Nat) (v : Nat), s.settled ∧ s.present q ∧ ringMemBase ≤ a ∧ a + w ≤ ringMemBase + ringMemSize ∧ (w = 1 ∨ w = 2 ∨ ((w = 4 ∨ w = 8) ∧ a % w ≠ 0)) ∧ s.calm ∧ s.histRoom)
    ∧ (∃ (s : State) (q : Requester) (page : Nat) (off : Nat) (w : Nat) (v : Nat), s.calm ∧ s.histRoom ∧ s.present q ∧ page < 256 ∧ (w = 1 ∨ w = 2 ∨ w = 4 ∨ w = 8) ∧ off + w ≤ 8192 ∧ s.g (F.SHW_PAGE_OWNER page) = (if q.isHost then 0 else 1))
    ∧ (∃ (s : State) (q : Requester) (page : Nat) (off : Nat) (w : Nat) (v : Nat), s.calm ∧ s.histRoom ∧ s.present q ∧ page < 256 ∧ (w = 1 ∨ w = 2 ∨ w = 4 ∨ w = 8) ∧ off + w ≤ 8192 ∧ s.g (F.SHW_PAGE_OWNER page) = (if q.isHost then 0 else 1))
    ∧ (∃ (s : State) (q : Requester) (page : Nat) (off : Nat) (w : Nat) (v : Nat), s.calm ∧ s.histRoom ∧ s.present q ∧ page < 256 ∧ (w = 1 ∨ w = 2 ∨ w = 4 ∨ w = 8) ∧ off + w ≤ 8192 ∧ s.g (F.SHW_PAGE_OWNER page) = (if q.isHost then 1 else 0))
    ∧ (∃ (s : State) (q : Requester) (page : Nat) (off : Nat) (w : Nat) (v : Nat), s.calm ∧ s.histRoom ∧ s.present q ∧ page < 256 ∧ (w = 1 ∨ w = 2 ∨ w = 4 ∨ w = 8) ∧ off + w ≤ 8192 ∧ s.g (F.SHW_PAGE_OWNER page) = (if q.isHost then 1 else 0))
    ∧ (∃ (s : State) (n : Nat) (off : Nat) (w : Nat) (v : Nat), s.settled ∧ s.present (.host n) ∧ (w = 1 ∨ w = 2 ∨ w = 4 ∨ w = 8) ∧ off + w ≤ 2 ^ 28 ∧ s.pageUp = true ∧ s.g (F.DMA_APER_BASE_LO_BASE n) + 2 ^ 32 * s.g (F.DMA_APER_BASE_HI_BASE n) + off + w ≤ s.pageSize ∧ (s.lifecycle = lcMAKER ∨ s.lifecycle = lcRETURNED))
    ∧ (∃ (s : State) (n : Nat) (off : Nat) (w : Nat) (v : Nat), s.settled ∧ s.present (.host n) ∧ (w = 1 ∨ w = 2 ∨ w = 4 ∨ w = 8) ∧ off + w ≤ 2 ^ 28 ∧ s.pageUp = true ∧ s.g (F.DMA_APER_BASE_LO_BASE n) + 2 ^ 32 * s.g (F.DMA_APER_BASE_HI_BASE n) + off + w ≤ s.pageSize ∧ s.lifecycle ≠ lcMAKER ∧ s.lifecycle ≠ lcRETURNED ∧ s.calm ∧ s.histRoom) :=
  ⟨⟨up, (.host 0), (ringMemBase + ringMemSize - 8), 8, 0x1122334455667788, by decide +kernel⟩,
   ⟨up, (.host 0), (ringMemBase + 6), 4, 1, by decide +kernel⟩,
   ⟨(put up [(F.SHW_PAGE_OWNER 255, 1)]), (.core 1), 255, 8184, 8, 0x1234567, by decide +kernel⟩,
   ⟨(put up [(F.SHW_PAGE_OWNER 255, 0)]), (.host 1), 255, 8191, 1, 0x1234567, by decide +kernel⟩,
   ⟨(put up [(F.SHW_PAGE_OWNER 0, 0)]), (.core 1), 0, 0, 2, 0x1234567, by decide +kernel⟩,
   ⟨(put up [(F.SHW_PAGE_OWNER 0, 1)]), (.host 1), 0, 1, 4, 0x1234567, by decide +kernel⟩,
   ⟨(put { up with memChans := 3, selfRefresh := false } [(F.LCS_STATE_STATE, 1)]), 1, (2 ^ 28 - 4), 4, 7, by decide +kernel⟩,
   ⟨(put { up with memChans := 3, selfRefresh := false } [(F.LCS_STATE_STATE, 2)]), 1, 0, 8, 7, by decide +kernel⟩⟩

theorem witness_RingsAndClaims_1 :
    (∃ (s : State) (q : Requester) (r : Nat) (n : Nat), s.settled ∧ s.present q ∧ r < 128 ∧ n < 2 ^ s.g (F.TCE_QCFG_LOG2N r) ∧ s.g (F.TCE_QCFG_LOG2N r) ≤ 12 ∧ s.qhead r < s.ringLen r ∧ s.qtail r < s.ringLen r ∧ s.ringProd r = q.owner ∧ s.ringFree r < n ∧ s.obsLevel = 0 ∧ s.histRoom ∧ r ≠ s.g F.FCL_RINGCFG_RING)
    ∧ (∃ (s : State) (q : Requester) (r : Nat) (n : Nat), s.settled ∧ s.present q ∧ r < 128 ∧ n < 2 ^ s.g (F.TCE_QCFG_LOG2N r) ∧ s.g (F.TCE_QCFG_LOG2N r) ≤ 12 ∧ s.qhead r < s.ringLen r ∧ s.qtail r < s.ringLen r ∧ s.ringProd r = q.owner ∧ n ≤ s.ringFree r)
    ∧ (∃ (s : State) (q : Requester) (r : Nat) (n : Nat), s.settled ∧ s.present q ∧ r < 128 ∧ n < 2 ^ s.g (F.TCE_QCFG_LOG2N r) ∧ s.g (F.TCE_QCFG_LOG2N r) ≤ 12 ∧ s.qhead r < s.ringLen r ∧ s.qtail r < s.ringLen r ∧ s.ringCons r = q.owner ∧ n ≤ s.ringCount r)
    ∧ (∃ (s : State) (q : Requester) (r : Nat) (n : Nat), s.settled ∧ s.present q ∧ r < 128 ∧ n < 2 ^ s.g (F.TCE_QCFG_LOG2N r) ∧ s.g (F.TCE_QCFG_LOG2N r) ≤ 12 ∧ s.qhead r < s.ringLen r ∧ s.qtail r < s.ringLen r ∧ s.ringCons r = q.owner ∧ s.ringCount r < n ∧ s.obsLevel = 0 ∧ s.histRoom)
    ∧ (∃ (s : State) (q : Requester) (r : Nat) (n : Nat), s.settled ∧ s.present q ∧ r < 128 ∧ n < 2 ^ s.g (F.TCE_QCFG_LOG2N r) ∧ s.g (F.TCE_QCFG_LOG2N r) ≤ 12 ∧ s.qhead r < s.ringLen r ∧ s.qtail r < s.ringLen r ∧ s.ringProd r ≠ q.owner ∧ s.obsLevel = 0 ∧ s.histRoom ∧ r ≠ s.g F.FCL_RINGCFG_RING)
    ∧ (∃ (s : State) (q : Requester) (r : Nat) (n : Nat), s.settled ∧ s.present q ∧ r < 128 ∧ n < 2 ^ s.g (F.TCE_QCFG_LOG2N r) ∧ s.g (F.TCE_QCFG_LOG2N r) ≤ 12 ∧ s.qhead r < s.ringLen r ∧ s.qtail r < s.ringLen r ∧ s.ringCons r ≠ q.owner ∧ s.obsLevel = 0 ∧ s.histRoom)
    ∧ (∃ (s : State) (q : Requester) (r : Nat) (v : Nat), s.settled ∧ s.present q ∧ r < 128 ∧ s.ringEn r = true ∧ bit v 0 = false ∧ s.qcfgOk r v = true)
    ∧ (∃ (s : State) (q : Requester) (r : Nat) (v : Nat) (s1 : State), (let s1 := s.setWord .TCE_QCFG 0 r (bits v 31 8 * 256 + v % 2); s.settled ∧ s.present q ∧ r < 128 ∧ s.ringEn r = false ∧ s.qcfgOk r v = true ∧ s1 = s.setWord .TCE_QCFG 0 r (bits v 31 8 * 256 + v % 2) ∧ (bit v 0 = false ∨ s1.regionOk r = true))) :=
  ⟨⟨(put up [(F.TCE_QCFG_EN 127, 1), (F.TCE_QCFG_LOG2N 127, 12), (F.TCE_QCFG_PROD 127, 3), (F.TCE_QCFG_PCORE 127, 2), (F.TCE_QTAIL_INDEX 127, 4095)]), (.core 2), 127, 4094, by decide +kernel⟩,
   ⟨(put up [(F.TCE_QCFG_EN 127, 1), (F.TCE_QCFG_LOG2N 127, 12), (F.TCE_QCFG_PROD 127, 3), (F.TCE_QCFG_PCORE 127, 2), (F.TCE_QTAIL_INDEX 127, 3)]), (.core 2), 127, 4092, by decide +kernel⟩,
   ⟨(put up [(F.TCE_QCFG_EN 0, 1), (F.TCE_QCFG_LOG2N 0, 4), (F.TCE_QCFG_CONS 0, 3), (F.TCE_QCFG_CCORE 0, 2), (F.TCE_QTAIL_INDEX 0, 3), (F.TCE_QHEAD_INDEX 0, 15)]), (.core 2), 0, 4, by decide +kernel⟩,
   ⟨(put up [(F.TCE_QCFG_EN 0, 1), (F.TCE_QCFG_LOG2N 0, 4), (F.TCE_QCFG_CONS 0, 1), (F.TCE_QTAIL_INDEX 0, 3), (F.TCE_QHEAD_INDEX 0, 15)]), (.host 0), 0, 5, by decide +kernel⟩,
   ⟨(put up [(F.TCE_QCFG_LOG2N 9, 4), (F.TCE_QCFG_CONS 9, 1)]), (.core 0), 9, 5, by decide +kernel⟩,
   ⟨(put up [(F.TCE_QCFG_LOG2N 9, 4), (F.TCE_QCFG_CONS 9, 1)]), (.core 0), 9, 5, by decide +kernel⟩,
   ⟨(put up [(F.TCE_QCFG_EN 112, 1), (F.TCE_QTAIL_INDEX 112, 3)]), (.host 0), 112, 0x41230500, by decide +kernel⟩,
   ⟨up, (.host 0), 127, 0x41230501, ((up).setWord .TCE_QCFG 0 127 (bits 0x41230501 31 8 * 256 + 0x41230501 % 2)), by decide +kernel⟩⟩

theorem witness_RingsAndClaims_2 :
    (∃ (s : State) (q : Requester) (r : Nat) (v : Nat) (s1 : State), (let s1 := s.setWord .TCE_QCFG 0 r (bits v 31 8 * 256 + v % 2); s.settled ∧ s.present q ∧ r < 128 ∧ s1 = s.setWord .TCE_QCFG 0 r (bits v 31 8 * 256 + v % 2) ∧ (s.ringEn r = true ∧ bit v 0 = true ∨ s.ringEn r = false ∧ bit v 0 = true ∧ s.qcfgOk r v = true ∧ s1.regionOk r = false) ∧ s.calm ∧ s.histRoom))
    ∧ (∃ (s : State) (q : Requester) (r : Nat) (v : Nat), s.settled ∧ s.present q ∧ r < 128 ∧ s.ringEn r = false)
    ∧ (∃ (s : State) (q : Requester) (r : Nat) (v : Nat), s.settled ∧ s.present q ∧ r < 128 ∧ s.ringEn r = true ∧ s.calm ∧ s.histRoom)
    ∧ (∃ (s : State) (n : Nat) (rid : Nat), s.settled ∧ s.present (.host n) ∧ rid < 65536 ∧ s.ridExists rid = true ∧ s.owned rid = false)
    ∧ (∃ (s : State) (n : Nat) (rid : Nat), s.settled ∧ s.present (.host n) ∧ rid < 65536 ∧ (s.owned rid = true ∨ s.ridExists rid = false) ∧ s.obsLevel = 0 ∧ s.histRoom)
    ∧ (∃ (s : State) (n : Nat) (rid : Nat), s.settled ∧ s.present (.host n) ∧ rid < 65536 ∧ s.ridExists rid = true ∧ s.owns (.host n) rid = true)
    ∧ (∃ (s : State) (n : Nat) (rid : Nat), s.settled ∧ s.present (.host n) ∧ rid < 65536 ∧ s.ridExists rid = true ∧ s.owns (.host n) rid = false ∧ s.obsLevel = 0 ∧ s.histRoom)
    ∧ (∃ (s : State) (n : Nat) (rid : Nat) (i : Nat), s.settled ∧ s.present (.host n) ∧ rid < 65536 ∧ s.present (.core i) ∧ s.obsLevel = 0 ∧ s.histRoom) :=
  ⟨⟨(put up [(F.TCE_QCFG_EN 0, 1), (F.TCE_QCFG_LOG2N 0, 12)]), (.host 0), 127, 0x41230501, ((put up [(F.TCE_QCFG_EN 0, 1), (F.TCE_QCFG_LOG2N 0, 12)]).setWord .TCE_QCFG 0 127 (bits 0x41230501 31 8 * 256 + 0x41230501 % 2)), by decide +kernel⟩,
   ⟨up, (.host 0), 127, 0xFFFFF, by decide +kernel⟩,
   ⟨(put up [(F.TCE_QCFG_EN 112, 1), (F.TCE_QTAIL_INDEX 112, 3)]), (.host 0), 112, 0xFFFFF, by decide +kernel⟩,
   ⟨up, 1, (padRid (snsPad 0)), by decide +kernel⟩,
   ⟨({ up with claims := [(padRid (snsPad 0), ⟨3, 4⟩)] }), 0, (padRid (snsPad 0)), by decide +kernel⟩,
   ⟨({ up with claims := [(granRid 5, ⟨1, 0⟩)] }), 0, (granRid 5), by decide +kernel⟩,
   ⟨({ up with claims := [(granRid 5, ⟨1, 0⟩)] }), 1, (granRid 5), by decide +kernel⟩,
   ⟨({ up with claims := [(granRid 5, ⟨1, 0⟩)] }), 1, (granRid 5), 23, by decide +kernel⟩⟩

theorem witness_CommitProtocol :
    (∃ (s : State) (q : Requester) (x : ShadowSet), s.settled ∧ s.setExists x = true ∧ s.present q ∧ s.mayWrite q x.commitReg x.unit.2 = true ∧ s.pendNow x = false ∧ s.commitOf x = none ∧ s.commitOk x = true)
    ∧ (∃ (s : State) (q : Requester) (x : ShadowSet), s.settled ∧ s.setExists x = true ∧ s.reached x = true ∧ s.updateNow x = true)
    ∧ (∃ (s : State) (q : Requester) (x : ShadowSet) (c : Commit) (r : Nat), s.settled ∧ s.setExists x = true ∧ s.commitOf x = some c ∧ c.reach = some r ∧ r + s.eightCycles x ≤ s.now ∧ s.sourceStopped x = true)
    ∧ (∃ (s : State) (i : Nat) (n : Nat) (v : Nat), s.calm ∧ s.histRoom ∧ n < s.blockCount .STP ∧ s.present (.core i) ∧ s.ownsPort (.core i) (24 + 2 * n) = true ∧ s.on (ShadowSet.stpProfile n).pend = true) :=
  ⟨⟨(stpOwned 11 []), (.core 2), (.stpProfile 11), by decide +kernel⟩,
   ⟨({ put up [((ShadowSet.strPhase 3).pend, 1), (F.STR_PHASE_PHASE 3, 77)] with commits := [{ set := .strPhase 3, go := 5, reach := some 5 }] }), (.core 2), (.strPhase 3), by decide +kernel⟩,
   ⟨(stpPend 0 0), (.core 2), (.stpProfile 0), ({ set := .stpProfile 0, go := 5, reach := some 8 }), 8, by decide +kernel⟩,
   ⟨(stpPend 0 1), 2, 0, 77, by decide +kernel⟩⟩

def padOwned (l : List (FieldRef × Nat)) : State := { put up l with claims := [(padRid (snsPad 0), ⟨3, 2⟩)] }

theorem witness_FollowersAndLinks :
    (∃ (s : State), s.plain ∧ s.on F.CORD_STAT_CORE_OK = true)
    ∧ (∃ (s : State) (k : Nat), s.plain ∧ k < s.blockCount .STR ∧ s.vidOk k = true)
    ∧ (∃ (s : State), s.plain ∧ s.synState 0 ≠ syOFF)
    ∧ (∃ (s : State) (k : Nat), s.plain ∧ k < s.blockCount .STR ∧ s.synState (2 + k) = syLOCKED ∧ s.on (F.SYN_ALIGN_VALID (2 + k)) = true)
    ∧ (∃ (s : State) (n : Nat), s.plain ∧ n < s.hosts)
    ∧ (∃ (s : State) (n : Nat), s.plain ∧ n < 2 ∧ bit s.memChans n = true)
    ∧ (∃ (s : State) (n : Nat) (x : Nat), s.plain ∧ s.jrn.endAt = some x ∧ x + 10 * msTicks ≤ s.now ∧ epochUnits.contains n = true ∧ s.unitAbsent n = false ∧ bit (s.word .JRN_UNITEP 0 (n / 32)) (n % 32) = false) :=
  ⟨⟨up, by decide +kernel⟩,
   ⟨(put up [(F.CORD_STAT_VID_OK, 8)]), 3, by decide +kernel⟩,
   ⟨(put up [(F.CORD_STAT_CORE_OK, 0)]), by decide +kernel⟩,
   ⟨(put up [(F.SYN_STAT_STATE 2, 2), (F.SYN_ALIGN_VALID 2, 1)]), 0, by decide +kernel⟩,
   ⟨up, 1, by decide +kernel⟩,
   ⟨({ up with memChans := 2 }), 1, by decide +kernel⟩,
   ⟨({ up with jrn := { up.jrn with endAt := some 5 } }), 2, 5, by decide +kernel⟩⟩

theorem witness_ActuatorEvents :
    (∃ (s : State) (q : Requester) (id : Nat) (t : Nat) (v : Nat), s.plain ∧ (ridClass id = 1 ∨ ridClass id = 2) ∧ t < 2 ^ 64 ∧ s.owns q id = true ∧ s.now + 16 ≤ t ∧ (∀ e ∈ s.actQueue id, e.t ≠ t) ∧ (s.actQueue id).length < 32)
    ∧ (∃ (s : State) (q : Requester) (id : Nat) (t : Nat) (v : Nat), s.plain ∧ (ridClass id = 1 ∨ ridClass id = 2) ∧ t < 2 ^ 64 ∧ s.owns q id = true ∧ t < s.now + 16)
    ∧ (∃ (s : State) (q : Requester) (id : Nat) (t : Nat) (v : Nat), s.plain ∧ (ridClass id = 1 ∨ ridClass id = 2) ∧ t < 2 ^ 64 ∧ s.owns q id = true ∧ s.now + 16 ≤ t ∧ ((∃ e ∈ s.actQueue id, e.t = t) ∨ 32 ≤ (s.actQueue id).length))
    ∧ (∃ (s : State) (q : Requester) (id : Nat) (t : Nat) (v : Nat), s.plain ∧ (ridClass id = 1 ∨ ridClass id = 2) ∧ t < 2 ^ 64 ∧ s.owns q id = false)
    ∧ (∃ (s : State) (q : Requester) (id : Nat) (t : Nat) (v : Nat) (e : ActEvent) (rest : (List ActEvent)), s.plain ∧ (ridClass id = 1 ∨ ridClass id = 2) ∧ t < 2 ^ 64 ∧ s.actQueue id = e :: rest ∧ e.t ≤ s.now ∧ ridClass id = 1 ∧ (s.padFunc (ridIndex id) = 1 ∨ s.padFunc (ridIndex id) = 2) ∧ s.on F.FCL_STAT_KETTLE = false)
    ∧ (∃ (s : State) (q : Requester) (id : Nat) (t : Nat) (v : Nat) (e : ActEvent) (rest : (List ActEvent)), s.plain ∧ (ridClass id = 1 ∨ ridClass id = 2) ∧ t < 2 ^ 64 ∧ s.actQueue id = e :: rest ∧ e.t ≤ s.now)
    ∧ (∃ (s : State) (q : Requester) (id : Nat) (t : Nat) (v : Nat) (k : Nat) (e : ActEvent) (rest : (List ActEvent)), s.plain ∧ (ridClass id = 1 ∨ ridClass id = 2) ∧ t < 2 ^ 64 ∧ id = sliceRid (48 + k) ∧ k < 12 ∧ s.actQueue id = e :: rest ∧ e.t ≤ s.now ∧ bits e.value 31 28 = 2 ∧ s.hvEn k = true ∧ s.hvState k = hvRUN ∧ s.hvBank k ≠ 0 ∧ s.on F.FCL_STAT_KETTLE = false) :=
  ⟨⟨(padOwned []), (.core 2), (padRid (snsPad 0)), (200000000016), 1, by decide +kernel⟩,
   ⟨(padOwned []), (.core 2), (padRid (snsPad 0)), (200000000015), 1, by decide +kernel⟩,
   ⟨({ padOwned [] with acts := [(padRid (snsPad 0), [{ t := 200000000020, kind := 1, value := 0 }])] }), (.core 2), (padRid (snsPad 0)), (200000000020), 1, by decide +kernel⟩,
   ⟨(padOwned []), (.core 3), (padRid (snsPad 0)), (200000000020), 1, by decide +kernel⟩,
   ⟨({ padOwned [(F.PMX_PADCFG_FUNC (snsPad 0), 1)] with acts := [(padRid (snsPad 0), [{ t := 100, kind := 1, value := 1 }])] }), (.core 2), (padRid (snsPad 0)), 0, 1, ({ t := 100, kind := 1, value := 1 }), ([]), by decide +kernel⟩,
   ⟨({ padOwned [] with acts := [(sliceRid 25, [{ t := 100, kind := 2, value := 1 }])] }), (.core 2), (sliceRid 25), 0, 1, ({ t := 100, kind := 2, value := 1 }), ([]), by decide +kernel⟩,
   ⟨({ put up [(F.HV_CTRL_EN 11, 1), (F.HV_STAT_STATE 11, hvRUN), (F.HV_STAT_BANK 11, 1)] with acts := [(sliceRid 59, [{ t := 100, kind := 2, value := 0x20004001 }])] }), (.core 2), (sliceRid 59), 0, 1, 11, ({ t := 100, kind := 2, value := 0x20004001 }), ([]), by decide +kernel⟩⟩

theorem witness_PadsAndSensors :
    (∃ (s : State) (q : Requester) (i : Nat) (v : Nat), s.plain ∧ s.present q ∧ i < 1444 ∧ padClaimable i = true ∧ s.padNC i = false ∧ s.owns q (padRid i) = true ∧ s.padUnitOn i = false ∧ padType i = 0 ∧ bits v 19 16 ≤ 2 ∧ bits v 15 14 ≠ 3)
    ∧ (∃ (s : State) (q : Requester) (i : Nat) (v : Nat), s.plain ∧ s.present q ∧ i < 1444 ∧ padClaimable i = true ∧ s.padNC i = false ∧ s.owns q (padRid i) = true ∧ bits v 19 16 ≤ 3 ∧ bits v 15 14 ≠ 3 ∧ (bits v 19 16 = s.padFunc i ∨ bits v 19 16 ≤ 2 ∧ padType i = 0 ∧ s.padUnitOn i = false))
    ∧ (∃ (s : State) (q : Requester) (i : Nat) (v : Nat), s.plain ∧ s.present q ∧ i < 1444 ∧ padClaimable i = true ∧ s.padNC i = false ∧ s.owns q (padRid i) = true ∧ s.padUnitOn i = true ∧ bits v 19 16 ≠ s.padFunc i)
    ∧ (∃ (s : State) (q : Requester) (i : Nat) (v : Nat), s.plain ∧ s.present q ∧ i < 1444 ∧ padClaimable i = true ∧ s.padNC i = false ∧ s.owns q (padRid i) = false)
    ∧ (∃ (s : State) (q : Requester) (k : Nat) (v : Nat), s.plain ∧ s.present q ∧ k < 32)
    ∧ (∃ (s : State) (q : Requester) (k : Nat) (v : Nat), s.plain ∧ s.present q ∧ k < 32 ∧ bit (s.g F.PMX_SNSWIRE_EN) k = true ∧ bit (s.g F.PMX_SNSSTAT_FAULTY) k = false ∧ vget s.snsAt k + msTicks ≤ s.now)
    ∧ (∃ (s : State) (q : Requester) (k : Nat) (v : Nat), s.plain ∧ s.present q ∧ k < 32 ∧ bit (s.g F.PMX_SNSWIRE_EN) k = true ∧ bit (s.g F.PMX_SNSSTAT_FAULTY) k = true ∧ vget s.snsAt k + 100 * msTicks ≤ s.now) :=
  ⟨⟨({ up with claims := [(padRid 180, ⟨3, 2⟩)] }), (.core 2), 180, 0x27100, by decide +kernel⟩,
   ⟨(put { up with claims := [(padRid 180, ⟨3, 2⟩)] } []), (.core 2), 180, 0x17100, by decide +kernel⟩,
   ⟨(put { up with claims := [(padRid 1090, ⟨3, 2⟩)] } [(F.HYW_CTRL_EN 0, 1)]), (.core 2), 1090, 0x17100, by decide +kernel⟩,
   ⟨({ up with claims := [(padRid 180, ⟨3, 3⟩)] }), (.core 2), 180, 0x27100, by decide +kernel⟩,
   ⟨(put { up with claims := [(padRid (snsPad 31), ⟨3, 2⟩)] } [(F.PMX_SNSSTAT_FAULTY, 0x80000001), (F.PMX_SNSWIRE_EN, 0x80000001)]), (.core 2), 31, 0, by decide +kernel⟩,
   ⟨(put up [(F.PMX_SNSWIRE_EN, 0x80000001)]), (.core 2), 31, 0, by decide +kernel⟩,
   ⟨(put up [(F.PMX_SNSWIRE_EN, 0x80000001), (F.PMX_SNSSTAT_FAULTY, 0x80000001)]), (.core 2), 0, 0, by decide +kernel⟩⟩

theorem witness_Resets :
    (∃ (s : State) (c : Instr), c = .powerOnReset ∨ (c = .wakeEdge ∧ s.psq.asleep = 2))
    ∧ (∃ (s : State) (c : Instr), c = .powerOnReset ∨ (c = .wakeEdge ∧ s.psq.asleep = 2))
    ∧ (∃ (s : State) (c : Instr), s.jrn.queue = [] ∧ s.otp.burn = none ∧ c = .warmReset)
    ∧ (∃ (s : State) (c : Instr) (x : Nat), s.jrn.queue = [] ∧ s.otp.burn = none ∧ c = .thmRestart ∧ s.on F.THM_STAT_SHUT = true ∧ s.on F.THM_STAT_NORESTART = false ∧ s.thm.coolSince = some x ∧ x + 2000 * msTicks ≤ s.aon)
    ∧ (∃ (s : State) (c : Instr), s.jrn.queue = [] ∧ s.otp.burn = none ∧ c = .wakeFromSleep ∧ s.psq.woke = true)
    ∧ (∃ (s : State) (c : Instr), s.jrn.queue = [] ∧ s.otp.burn = none ∧ c = .warmReset ∨ c = .wakeFromSleep ∧ s.psq.woke = true) :=
  ⟨⟨up, (.powerOnReset), by decide +kernel⟩,
   ⟨({ up with psq := { up.psq with asleep := 2 } }), (.wakeEdge), by decide +kernel⟩,
   ⟨up, (.warmReset), by decide +kernel⟩,
   ⟨(put { up with thm := { up.thm with coolSince := some 5 } } [(F.THM_STAT_SHUT, 1), (F.SYN_STAT_STATE 0, 3)]), (.thmRestart), 5, by decide +kernel⟩,
   ⟨({ up with psq := { up.psq with woke := true } }), (.wakeFromSleep), by decide +kernel⟩,
   ⟨({ up with psq := { up.psq with woke := true } }), (.wakeFromSleep), by decide +kernel⟩⟩

theorem witness_CoreResets_1 :
    (∃ (s : State) (n : Nat) (q : Requester) (key : Nat) (i : Nat) (b : Block) (r : Reg), s.plain ∧ s.present q ∧ n < s.blockCount b ∧ b.ctrlReg = some r ∧ b ≠ .GATH ∧ b ≠ .SYN ∧ s.mayWrite q r n = true ∧ s.on F.FCL_STAT_KETTLE = false)
    ∧ (∃ (s : State) (n : Nat) (q : Requester) (key : Nat) (i : Nat) (b : Block) (r : Reg), s.plain ∧ s.present q ∧ n < s.blockCount b ∧ b.ctrlReg = some r ∧ b ≠ .GATH ∧ b ≠ .SYN ∧ s.mayWrite q r n = true ∧ s.on F.FCL_STAT_KETTLE = false)
    ∧ (∃ (s : State) (n : Nat) (q : Requester) (key : Nat) (i : Nat) (b : Block) (r : Reg), s.plain ∧ s.present q ∧ n < s.blockCount b ∧ b.ctrlReg = some r ∧ b ≠ .GATH ∧ b ≠ .SYN ∧ s.mayWrite q r n = true ∧ s.on F.FCL_STAT_KETTLE = false)
    ∧ (∃ (s : State) (n : Nat) (q : Requester) (key : Nat) (i : Nat) (b : Block) (r : Reg), s.plain ∧ s.present q ∧ n < s.blockCount b ∧ b.ctrlReg = some r ∧ b ≠ .GATH ∧ b ≠ .SYN ∧ s.mayWrite q r n = true ∧ s.on F.FCL_STAT_KETTLE = false)
    ∧ (∃ (s : State) (n : Nat) (q : Requester) (key : Nat) (i : Nat) (b : Block) (r : Reg), s.plain ∧ s.present q ∧ n < s.blockCount b ∧ b.ctrlReg = some r ∧ b ≠ .GATH ∧ b ≠ .SYN ∧ s.mayWrite q r n = true ∧ s.on F.FCL_STAT_KETTLE = false)
    ∧ (∃ (s : State) (n : Nat) (q : Requester) (key : Nat) (i : Nat) (b : Block) (r : Reg), s.plain ∧ s.present q ∧ n < s.blockCount b ∧ b.ctrlReg = some r ∧ b ≠ .GATH ∧ b ≠ .SYN ∧ s.mayWrite q r n = true ∧ s.on F.FCL_STAT_KETTLE = false)
    ∧ (∃ (s : State) (n : Nat) (q : Requester) (key : Nat) (i : Nat) (b : Block) (r : Reg), s.plain ∧ s.present q ∧ n < s.blockCount b ∧ b.ctrlReg = some r ∧ b ≠ .GATH ∧ b ≠ .SYN ∧ s.mayWrite q r n = true ∧ s.on F.FCL_STAT_KETTLE = false)
    ∧ (∃ (s : State) (n : Nat) (q : Requester) (key : Nat) (i : Nat) (b : Block) (r : Reg), s.plain ∧ s.present q ∧ n < s.blockCount b ∧ b.ctrlReg = some r ∧ b ≠ .GATH ∧ b ≠ .SYN ∧ s.mayWrite q r n = true ∧ s.on F.FCL_STAT_KETTLE = false) :=
  ⟨⟨({ put up [(F.MOT_CTRL_EN 7, 1), (F.MOT_STAT_STATE 7, 5), (F.MOT_PWM_PERIOD 7, 99)] with claims := [(sliceRid 21, ⟨3, 1⟩)], commits := [⟨.motPwm 7, 5, none⟩, ⟨.motAdv 6, 5, none⟩] }), 7, (.core 1), 0, 0, (.MOT), (.MOT_CTRL), by decide +kernel⟩,
   ⟨({ put up [(F.STP_CTRL_EN 11, 1), (F.STP_POS_POS 11, 5)] with claims := [(sliceRid 46, ⟨3, 1⟩)] }), 11, (.core 1), 0, 0, (.STP), (.STP_CTRL), by decide +kernel⟩,
   ⟨({ put up [(F.HV_CTRL_EN 11, 1)] with claims := [(sliceRid 59, ⟨3, 1⟩)] }), 11, (.core 1), 0, 0, (.HV), (.HV_CTRL), by decide +kernel⟩,
   ⟨({ put up [(F.FUS_CTRL_EN 1, 1)] with claims := [(sliceRid 61, ⟨3, 1⟩)] }), 1, (.core 1), 0, 0, (.FUS), (.FUS_CTRL), by decide +kernel⟩,
   ⟨(put up [(F.STR_CTRL_EN 0, 1), (F.STR_STAT_SCAN 0, 4)]), 0, (.core 1), 0, 0, (.STR), (.STR_CTRL), by decide +kernel⟩,
   ⟨(put up [(F.LCE_APCRES_VALUE 3, 9)]), 0, (.core 1), 0, 0, (.LCE), (.LCE_CTRL), by decide +kernel⟩,
   ⟨(put up [(F.ING_CTX_STAT_STATE 5, 1)]), 0, (.core 1), 0, 0, (.ING), (.ING_CTRL), by decide +kernel⟩,
   ⟨(put up []), 1, (.core 1), 0, 0, (.CMP), (.CMP_CTRL), by decide +kernel⟩⟩

theorem witness_CoreResets_2 :
    (∃ (s : State) (n : Nat) (q : Requester) (key : Nat) (i : Nat) (b : Block) (r : Reg), s.plain ∧ s.present q ∧ n < s.blockCount b ∧ b.ctrlReg = some r ∧ b ≠ .GATH ∧ b ≠ .SYN ∧ s.mayWrite q r n = true ∧ s.on F.FCL_STAT_KETTLE = false)
    ∧ (∃ (s : State) (n : Nat) (q : Requester) (key : Nat) (i : Nat) (b : Block) (r : Reg), s.plain ∧ s.present q ∧ n < s.blockCount b ∧ b.ctrlReg = some r ∧ b ≠ .GATH ∧ b ≠ .SYN ∧ s.mayWrite q r n = true ∧ s.on F.FCL_STAT_KETTLE = false)
    ∧ (∃ (s : State) (n : Nat) (q : Requester) (key : Nat) (i : Nat) (b : Block) (r : Reg), s.plain ∧ s.present q ∧ n < s.blockCount b ∧ b.ctrlReg = some r ∧ b ≠ .GATH ∧ b ≠ .SYN ∧ s.mayWrite q r n = true ∧ s.on F.FCL_STAT_KETTLE = false)
    ∧ (∃ (s : State) (n : Nat) (q : Requester) (key : Nat) (i : Nat), s.plain ∧ s.present q ∧ 2 ≤ n ∧ n < s.blockCount .SYN ∧ s.on (F.STR_CTRL_EN (n - 2)) = false)
    ∧ (∃ (s : State) (n : Nat) (q : Requester) (key : Nat) (i : Nat), s.plain ∧ s.present q ∧ n < 2)
    ∧ (∃ (s : State) (q : Requester) (key : Nat) (i : Nat), s.plain ∧ s.present q ∧ i < 32)
    ∧ (∃ (s : State) (q : Requester) (key : Nat) (i : Nat), s.plain ∧ s.present q ∧ i < 32 ∧ key < 256 ∧ key = 0x5A ∧ s.hasCore i = true)
    ∧ (∃ (s : State) (q : Requester) (key : Nat) (i : Nat), s.plain ∧ s.present q ∧ i < 32 ∧ key < 256 ∧ key = 0x5A ∧ s.hasCore i = false) :=
  ⟨⟨(put up []), 3, (.core 1), 0, 0, (.DCP), (.DCP_CTRL), by decide +kernel⟩,
   ⟨(put up [(F.CKU_CFG_WIDTH 7, 9)]), 7, (.core 1), 0, 0, (.CKU), (.CKU_CTRL), by decide +kernel⟩,
   ⟨(put up [(F.HYW_CTRL_EN 7, 1), (F.HYW_STAT_STATE 7, 3)]), 7, (.core 1), 0, 0, (.HYW), (.HYW_CTRL), by decide +kernel⟩,
   ⟨(put up [(F.SYN_CTRL_EN 5, 1), (F.SYN_STAT_STATE 5, 2), (F.CORD_STAT_VID_OK, 15)]), 5, (.core 1), 0, 0, by decide +kernel⟩,
   ⟨up, 1, (.core 1), 0, 0, by decide +kernel⟩,
   ⟨(put up []), (.core 1), 0, 0, by decide +kernel⟩,
   ⟨(put up [(F.TCE_CSTAT_STATE 23, csRUN)]), (.core 1), 0x5A, 23, by decide +kernel⟩,
   ⟨up, (.core 1), 0x5A, 24, by decide +kernel⟩⟩

theorem witness_CoreResets_3 :
    (∃ (s : State) (q : Requester) (key : Nat) (i : Nat), s.plain ∧ s.present q ∧ i < 32 ∧ key < 256 ∧ key ≠ 0x5A)
    ∧ (∃ (s : State) (i : Nat), s.plain ∧ s.coreLive i = true ∧ s.g (F.TCE_WDOG_TIMEOUT i) ≠ 0 ∧ (s.coreOf i).kick + s.g (F.TCE_WDOG_TIMEOUT i) * usTicks ≤ s.now ∧ (s.coreOf i).resetAt = [])
    ∧ (∃ (s : State) (i : Nat), s.plain ∧ s.mapping = some i ∧ i < 24) :=
  ⟨⟨up, (.core 1), 0x5B, 31, by decide +kernel⟩,
   ⟨(put up [(F.TCE_CSTAT_STATE 4, csRUN), (F.TCE_WDOG_TIMEOUT 4, 100)]), 4, by decide +kernel⟩,
   ⟨({ up with mapping := some 23 }), 23, by decide +kernel⟩⟩

theorem witness_BootSequence_1 :
    (∃ (s : State) (vin : Nat), s.plain ∧ s.stage = bsSENSE ∧ s.otp.sensed = false ∧ (if s.otp.read then s else s.modOtp (fun o => { o with shadow := o.array })).safeGroups = [])
    ∧ (∃ (s : State), s.plain ∧ s.stage = bsPOWERUP ∧ s.devGood = true ∧ s.synState 0 = syOFF)
    ∧ (∃ (s : State) (failed : Nat), s.plain ∧ s.stage = bsPOWERUP ∧ s.synState 0 = syLOCKED ∧ s.mapping = none ∧ (∀ i, i < 24 → s.hasCore i = true → bit failed i = false))
    ∧ (∃ (s : State), s.plain ∧ s.stage = bsROM ∧ s.wires.bootsrc < 4)
    ∧ (∃ (s : State) (a : (Option BootImage)) (b : (Option BootImage)), s.plain ∧ s.stage = bsROM)
    ∧ (∃ (s : State) (n : Nat), s.plain ∧ s.present (.host n) ∧ s.stage = bsWAITHOST)
    ∧ (∃ (s : State) (q : Requester) (v : Nat), s.plain ∧ s.present q ∧ v < 2 ^ 32 ∧ (q.isHost = false ∨ v ≠ 1 ∨ s.stage ≠ bsWAITHOST))
    ∧ (∃ (s : State) (a : Bool) (b : Bool), s.plain ∧ (s.stage = bsVERIFIED ∨ s.stage = bsTRAIN) ∧ (a = true ∨ b = true ∧ s.is4820 = false)) :=
  ⟨⟨({ put up [(F.LCS_BOOTSTAT_STAGE, 0)] with otp := { up.otp with read := true } }), 24000, by decide +kernel⟩,
   ⟨(put up [(F.PSQ_RAILCFG_DEV 3, 1), (F.PSQ_ENSTAT_RAILS, 8), (F.PSQ_PGSTAT_RAILS, 8), (F.LCS_BOOTSTAT_STAGE, 1), (F.SYN_STAT_STATE 0, 0), (F.SYN_STAT_STATE 1, 0)]), by decide +kernel⟩,
   ⟨(put up [(F.LCS_BOOTSTAT_STAGE, 1)]), 0xFF000000, by decide +kernel⟩,
   ⟨(put up [(F.LCS_BOOTSTAT_STAGE, 2)]), by decide +kernel⟩,
   ⟨(put up [(F.LCS_BOOTSTAT_STAGE, 2)]), none, none, by decide +kernel⟩,
   ⟨(put up [(F.LCS_BOOTSTAT_STAGE, 7)]), 1, by decide +kernel⟩,
   ⟨(put up [(F.LCS_BOOTSTAT_STAGE, 7)]), (.host 1), 0, by decide +kernel⟩,
   ⟨(put up [(F.LCS_BOOTSTAT_STAGE, 3)]), false, true, by decide +kernel⟩⟩

theorem witness_BootSequence_2 :
    (∃ (s : State), s.plain ∧ (s.stage = bsVERIFIED ∨ s.stage = bsTRAIN) ∧ s.on F.FCL_STAT_KETTLE = false) :=
  ⟨(put up [(F.LCS_BOOTSTAT_STAGE, 4)]), by decide +kernel⟩

end Sys2Proof.Tests
end

