-- ==== Sys2Proof/Tests/WitFuse.lean ====
section
/-! SUPPORT. Witnesses: states and operands that meet the hypotheses of each clause of the statements, clause by clause. -/

namespace Sys2Proof.Tests

open Sys2Proof Sys2Proof.Machine

set_option maxRecDepth 100000
set_option linter.unusedVariables false
set_option Elab.async false

def otpAt (lc : Nat) (l : List (FieldRef × Nat)) (f : Otp → Otp) : State := let s := put up ([(F.LCS_STATE_STATE, lc)] ++ l); { s with otp := f { s.otp with shadow := s.otp.array, read := true } }
def setW (l : List (Nat × Nat)) (o : Otp) : Otp := { o with array := l.foldl (fun a x => Cells.put 0 x.1 (BitVec.ofNat 32 x.2) a) o.array, shadow := l.foldl (fun a x => Cells.put 0 x.1 (BitVec.ofNat 32 x.2) a) o.shadow }
def digested : State := let s := otpAt 1 [] (setW [(2, 7)]); { s with otp := setW [(0x3E, leNat ((s.otpDigest 0).take 4)), (0x3F, leNat ((s.otpDigest 0).drop 4))] s.otp }
def withLocks (s : State) (n : Nat) : State := { s with wires := { s.wires with locks := n } }

theorem witness_FuseCommands_1 :
    (∃ (s : State) (q : Requester) (key : Nat) (votp : Nat), s.plain ∧ s.present q ∧ key < 256 ∧ votp < 2 ^ 11 ∧ key ≠ 0xB7 ∨ ¬ (s.on F.OTP_STAT_BUSY = false ∧ s.on F.LCS_STATE_BUSY = false))
    ∧ (∃ (s : State) (q : Requester) (key : Nat) (votp : Nat), (let a := s.g F.OTP_PADDR_ADDR; s.plain ∧ s.present q ∧ key < 256 ∧ votp < 2 ^ 11 ∧ key = 0xB7 ∧ (s.on F.OTP_STAT_BUSY = false ∧ s.on F.LCS_STATE_BUSY = false) ∧ s.otpLocked a = true ∧ openWord a = false))
    ∧ (∃ (s : State) (q : Requester) (key : Nat) (votp : Nat), (let a := s.g F.OTP_PADDR_ADDR; s.plain ∧ s.present q ∧ key < 256 ∧ votp < 2 ^ 11 ∧ key = 0xB7 ∧ (s.on F.OTP_STAT_BUSY = false ∧ s.on F.LCS_STATE_BUSY = false) ∧ (s.otpLocked a = false ∨ openWord a = true) ∧ otpPermits a s.lifecycle = false))
    ∧ (∃ (s : State) (q : Requester) (key : Nat) (votp : Nat), (let a := s.g F.OTP_PADDR_ADDR; s.plain ∧ s.present q ∧ key < 256 ∧ votp < 2 ^ 11 ∧ key = 0xB7 ∧ (s.on F.OTP_STAT_BUSY = false ∧ s.on F.LCS_STATE_BUSY = false) ∧ (s.otpLocked a = false ∨ openWord a = true) ∧ otpPermits a s.lifecycle = true ∧ ((bitWise a = false ∧ s.fuse a ≠ 0) ∨ (isCk a = true ∧ s.ckKilled ((a - 0x88) / 8) = true))))
    ∧ (∃ (s : State) (q : Requester) (key : Nat) (votp : Nat), (let a := s.g F.OTP_PADDR_ADDR; s.plain ∧ s.present q ∧ key < 256 ∧ votp < 2 ^ 11 ∧ key = 0xB7 ∧ (s.on F.OTP_STAT_BUSY = false ∧ s.on F.LCS_STATE_BUSY = false) ∧ (s.otpLocked a = false ∨ openWord a = true) ∧ otpPermits a s.lifecycle = true ∧ ¬((bitWise a = false ∧ s.fuse a ≠ 0) ∨ (isCk a = true ∧ s.ckKilled ((a - 0x88) / 8) = true)) ∧ ¬(1740 ≤ votp ∧ votp ≤ 1860 ∧ ∀ k, k < 32 → 0 ≤ s.gi (F.THM_TS_VALUE k) ∧ s.gi (F.THM_TS_VALUE k) ≤ 8500)))
    ∧ (∃ (s : State) (q : Requester) (key : Nat) (votp : Nat), (let a := s.g F.OTP_PADDR_ADDR; s.plain ∧ s.present q ∧ key < 256 ∧ votp < 2 ^ 11 ∧ key = 0xB7 ∧ (s.on F.OTP_STAT_BUSY = false ∧ s.on F.LCS_STATE_BUSY = false) ∧ (s.otpLocked a = false ∨ openWord a = true) ∧ otpPermits a s.lifecycle = true ∧ ¬((bitWise a = false ∧ s.fuse a ≠ 0) ∨ (isCk a = true ∧ s.ckKilled ((a - 0x88) / 8) = true)) ∧ (1740 ≤ votp ∧ votp ≤ 1860 ∧ ∀ k, k < 32 → 0 ≤ s.gi (F.THM_TS_VALUE k) ∧ s.gi (F.THM_TS_VALUE k) ≤ 8500)))
    ∧ (∃ (s : State) (q : Requester) (key : Nat) (votp : Nat) (region : Nat), s.plain ∧ s.present q ∧ key < 256 ∧ votp < 2 ^ 11 ∧ key = 0xB7 ∧ (s.on F.OTP_STAT_BUSY = false ∧ s.on F.LCS_STATE_BUSY = false) ∧ region < 8 ∧ 5 ≤ region)
    ∧ (∃ (s : State) (q : Requester) (key : Nat) (votp : Nat) (region : Nat), s.plain ∧ s.present q ∧ key < 256 ∧ votp < 2 ^ 11 ∧ key = 0xB7 ∧ (s.on F.OTP_STAT_BUSY = false ∧ s.on F.LCS_STATE_BUSY = false) ∧ region < 5 ∧ otpPermits (lockRange region).2.2 s.lifecycle = false) :=
  ⟨⟨(otpAt 1 [] id), (.core 0), 0xB6, 1800, by decide +kernel⟩,
   ⟨(withLocks (otpAt 1 [(F.OTP_PADDR_ADDR, 0x140)] id) 4), (.core 0), 0xB7, 1800, by decide +kernel⟩,
   ⟨(otpAt 2 [(F.OTP_PADDR_ADDR, 0x140)] id), (.core 0), 0xB7, 1800, by decide +kernel⟩,
   ⟨(otpAt 1 [(F.OTP_PADDR_ADDR, 0x140), (F.OTP_PDATA_D, 5)] (setW [(0x140, 1)])), (.core 0), 0xB7, 1800, by decide +kernel⟩,
   ⟨(otpAt 1 [(F.OTP_PADDR_ADDR, 0x140), (F.OTP_PDATA_D, 5)] id), (.core 0), 0xB7, 1739, by decide +kernel⟩,
   ⟨(otpAt 1 [(F.OTP_PADDR_ADDR, 0x140), (F.OTP_PDATA_D, 5), (F.THM_TS_VALUE 31, 8500)] id), (.core 0), 0xB7, 1740, by decide +kernel⟩,
   ⟨(otpAt 1 [] id), (.core 0), 0xB7, 1740, 7, by decide +kernel⟩,
   ⟨(otpAt 0 [] id), (.core 0), 0xB7, 1740, 4, by decide +kernel⟩⟩

theorem witness_FuseCommands_2 :
    (∃ (s : State) (q : Requester) (key : Nat) (votp : Nat) (region : Nat), s.plain ∧ s.present q ∧ key < 256 ∧ votp < 2 ^ 11 ∧ key = 0xB7 ∧ (s.on F.OTP_STAT_BUSY = false ∧ s.on F.LCS_STATE_BUSY = false) ∧ region < 5 ∧ otpPermits (lockRange region).2.2 s.lifecycle = true ∧ s.lockBlank region = true)
    ∧ (∃ (s : State) (q : Requester) (key : Nat) (votp : Nat) (region : Nat), s.plain ∧ s.present q ∧ key < 256 ∧ votp < 2 ^ 11 ∧ key = 0xB7 ∧ (s.on F.OTP_STAT_BUSY = false ∧ s.on F.LCS_STATE_BUSY = false) ∧ region < 5 ∧ otpPermits (lockRange region).2.2 s.lifecycle = true ∧ s.lockBlank region = false ∧ s.digestWords region ≠ s.otpDigest region ∧ s.digestWords region ≠ List.replicate 8 0)
    ∧ (∃ (s : State) (q : Requester) (key : Nat) (votp : Nat) (region : Nat), s.plain ∧ s.present q ∧ key < 256 ∧ votp < 2 ^ 11 ∧ key = 0xB7 ∧ (s.on F.OTP_STAT_BUSY = false ∧ s.on F.LCS_STATE_BUSY = false) ∧ region < 5 ∧ otpPermits (lockRange region).2.2 s.lifecycle = true ∧ s.lockBlank region = false ∧ (s.digestWords region = s.otpDigest region ∨ s.digestWords region = List.replicate 8 0) ∧ ¬(1740 ≤ votp ∧ votp ≤ 1860 ∧ ∀ k, k < 32 → 0 ≤ s.gi (F.THM_TS_VALUE k) ∧ s.gi (F.THM_TS_VALUE k) ≤ 8500))
    ∧ (∃ (s : State) (q : Requester) (key : Nat) (votp : Nat) (region : Nat), s.plain ∧ s.present q ∧ key < 256 ∧ votp < 2 ^ 11 ∧ key = 0xB7 ∧ (s.on F.OTP_STAT_BUSY = false ∧ s.on F.LCS_STATE_BUSY = false) ∧ region < 5 ∧ otpPermits (lockRange region).2.2 s.lifecycle = true ∧ s.lockBlank region = false ∧ s.digestWords region = List.replicate 8 0 ∧ s.otpDigest region ≠ List.replicate 8 0 ∧ (1740 ≤ votp ∧ votp ≤ 1860 ∧ ∀ k, k < 32 → 0 ≤ s.gi (F.THM_TS_VALUE k) ∧ s.gi (F.THM_TS_VALUE k) ≤ 8500))
    ∧ (∃ (s : State) (q : Requester) (key : Nat) (votp : Nat) (region : Nat), s.plain ∧ s.present q ∧ key < 256 ∧ votp < 2 ^ 11 ∧ key = 0xB7 ∧ (s.on F.OTP_STAT_BUSY = false ∧ s.on F.LCS_STATE_BUSY = false) ∧ region < 5 ∧ otpPermits (lockRange region).2.2 s.lifecycle = true ∧ s.lockBlank region = false ∧ s.digestWords region = s.otpDigest region ∧ (1740 ≤ votp ∧ votp ≤ 1860 ∧ ∀ k, k < 32 → 0 ≤ s.gi (F.THM_TS_VALUE k) ∧ s.gi (F.THM_TS_VALUE k) ≤ 8500))
    ∧ (∃ (s : State) (q : Requester) (key : Nat) (votp : Nat), s.plain ∧ s.present q ∧ key < 256 ∧ votp < 2 ^ 11 ∧ key = 0xB7 ∧ (s.on F.OTP_STAT_BUSY = false ∧ s.on F.LCS_STATE_BUSY = false) ∧ s.g F.OTP_STAT_SPARES = 0)
    ∧ (∃ (s : State) (q : Requester) (key : Nat) (votp : Nat), s.plain ∧ s.present q ∧ key < 256 ∧ votp < 2 ^ 11 ∧ key = 0xB7 ∧ (s.on F.OTP_STAT_BUSY = false ∧ s.on F.LCS_STATE_BUSY = false) ∧ s.g F.OTP_STAT_SPARES ≠ 0 ∧ ¬(1740 ≤ votp ∧ votp ≤ 1860 ∧ ∀ k, k < 32 → 0 ≤ s.gi (F.THM_TS_VALUE k) ∧ s.gi (F.THM_TS_VALUE k) ≤ 8500))
    ∧ (∃ (s : State) (q : Requester) (key : Nat) (votp : Nat), (let a := s.g F.OTP_PADDR_ADDR; s.plain ∧ s.present q ∧ key < 256 ∧ votp < 2 ^ 11 ∧ key = 0xB7 ∧ (s.on F.OTP_STAT_BUSY = false ∧ s.on F.LCS_STATE_BUSY = false) ∧ s.g F.OTP_STAT_SPARES ≠ 0 ∧ (1740 ≤ votp ∧ votp ≤ 1860 ∧ ∀ k, k < 32 → 0 ≤ s.gi (F.THM_TS_VALUE k) ∧ s.gi (F.THM_TS_VALUE k) ≤ 8500) ∧ (∀ x ∈ s.otp.half, x.1 ≠ a))) :=
  ⟨⟨(otpAt 1 [] id), (.core 0), 0xB7, 1740, 0, by decide +kernel⟩,
   ⟨(otpAt 1 [] (setW [(2, 7), (0x3E, 9)])), (.core 0), 0xB7, 1740, 0, by decide +kernel⟩,
   ⟨(otpAt 1 [] (setW [(2, 7)])), (.core 0), 0xB7, 1739, 0, by decide +kernel⟩,
   ⟨(otpAt 1 [] (setW [(2, 7)])), (.core 0), 0xB7, 1740, 0, by decide +kernel⟩,
   ⟨digested, (.core 0), 0xB7, 1740, 0, by decide +kernel⟩,
   ⟨(otpAt 1 [(F.OTP_STAT_SPARES, 0)] id), (.core 0), 0xB7, 1740, by decide +kernel⟩,
   ⟨(otpAt 1 [(F.OTP_STAT_SPARES, 1)] id), (.core 0), 0xB7, 1861, by decide +kernel⟩,
   ⟨(otpAt 1 [(F.OTP_STAT_SPARES, 1), (F.OTP_PADDR_ADDR, 0x140)] (fun o => setW [(0x140, 3)] { o with half := [(0x141, 4)] })), (.core 0), 0xB7, 1860, by decide +kernel⟩⟩

theorem witness_FuseCommands_3 :
    (∃ (s : State) (q : Requester) (key : Nat) (votp : Nat) (w : Nat), (let a := s.g F.OTP_PADDR_ADDR; s.plain ∧ s.present q ∧ key < 256 ∧ votp < 2 ^ 11 ∧ key = 0xB7 ∧ (s.on F.OTP_STAT_BUSY = false ∧ s.on F.LCS_STATE_BUSY = false) ∧ s.g F.OTP_STAT_SPARES ≠ 0 ∧ (1740 ≤ votp ∧ votp ≤ 1860 ∧ ∀ k, k < 32 → 0 ≤ s.gi (F.THM_TS_VALUE k) ∧ s.gi (F.THM_TS_VALUE k) ≤ 8500) ∧ (a, w) ∈ s.otp.half ∧ (∀ x ∈ s.otp.half, x.1 = a → x.2 = w))) :=
  ⟨(otpAt 1 [(F.OTP_STAT_SPARES, 1), (F.OTP_PADDR_ADDR, 0x140)] (fun o => { o with half := [(0x141, 4), (0x140, 7)] })), (.core 0), 0xB7, 1860, 7, by decide +kernel⟩

theorem witness_FuseArray_1 :
    (∃ (s : State) (marg : (List (Nat × Nat))) (corr : Nat) (bad : (List Nat)), s.plain ∧ s.otp.read = false)
    ∧ (∃ (s : State) (marg : (List (Nat × Nat))) (corr : Nat) (bad : (List Nat)), s.plain ∧ s.otp.read = false)
    ∧ (∃ (s : State) (corr : Nat), s.plain ∧ s.otp.read = false ∧ s.otp.sensed = false ∧ s.fuse 0x41 = 0 ∧ s.fuse 0x51 = 0)
    ∧ (∃ (s : State) (a : Nat) (b : Nat) (corr : Nat), s.plain ∧ s.otp.read = false ∧ s.otp.sensed = false ∧ s.fuse 0x41 = 0 ∧ s.fuse 0x51 = 0 ∧ a < 2048 ∧ s.otp.listed < 16)
    ∧ (∃ (s : State) (a : Nat) (corr : Nat), s.plain ∧ s.otp.read = false ∧ s.otp.sensed = false ∧ s.fuse 0x41 = 0 ∧ s.fuse 0x51 = 0 ∧ a < 2048 ∧ bitWise a = false)
    ∧ (∃ (s : State) (r : Nat) (corr : Nat), (let temp := s.gi F.THM_STAT_HOTTEMP; s.plain ∧ r < 5 ∧ s.otp.read = false ∧ s.otp.sensed = false ∧ s.fuse 0x41 = 2 ^ r ∧ s.fuse 0x51 = 2 ^ r ∧ { s with otp := { s.otp with read := true, shadow := s.otp.array, marg := [], bad := [], lastTemp := temp } }.otpDigest r ≠ { s with otp := { s.otp with read := true, shadow := s.otp.array, marg := [], bad := [], lastTemp := temp } }.digestWords r))
    ∧ (∃ (s : State), (let temp := s.gi F.THM_STAT_HOTTEMP; s.plain ∧ s.on F.OTP_STAT_SCRUB = false ∧ s.otp.read = true ∧ 3000 ≤ (temp - s.otp.lastTemp).natAbs))
    ∧ (∃ (s : State), s.plain ∧ s.on F.OTP_STAT_SCRUB = true ∧ s.otp.burn = none ∧ s.otp.scrubAt + 6 * msTicks ≤ s.aon) :=
  ⟨⟨(otpAt 1 [] (fun o => { setW [(0x40, 3), (7, 5)] o with read := false })), ([(0x40, 8), (5000, 1), (3, 2)]), 3, ([7, 0x40, 9000]), by decide +kernel⟩,
   ⟨(otpAt 1 [] (fun o => { setW [(0x40, 3), (7, 5), (2, 77)] o with read := false, sensed := true })), ([(0x40, 8), (5000, 1), (3, 2)]), 3, ([7, 0x40, 9000]), by decide +kernel⟩,
   ⟨(otpAt 1 [] (fun o => { o with read := false })), 300, by decide +kernel⟩,
   ⟨(otpAt 1 [] (fun o => { o with read := false, listed := 15 })), 2047, 4, 30, by decide +kernel⟩,
   ⟨(otpAt 1 [] (fun o => { o with read := false, listed := 15 })), 0x140, 30, by decide +kernel⟩,
   ⟨(otpAt 1 [] (fun o => setW [(0x41, 1), (0x51, 1)] { o with read := false })), 0, 30, by decide +kernel⟩,
   ⟨(otpAt 1 [(F.THM_STAT_HOTTEMP, 3000)] id), by decide +kernel⟩,
   ⟨(otpAt 1 [(F.OTP_STAT_SCRUB, 1)] id), by decide +kernel⟩⟩

theorem witness_FuseArray_2 :
    (∃ (s : State) (drift : (List Nat)), s.plain ∧ s.on F.OTP_STAT_SCRUB = true ∧ s.otp.burn = none ∧ s.otp.scrubAt + 6 * msTicks ≤ s.aon)
    ∧ (∃ (s : State) (a : Nat), s.plain ∧ s.on F.OTP_STAT_SCRUB = true ∧ s.otp.burn = none ∧ s.otp.scrubAt + 6 * msTicks ≤ s.aon ∧ a < 2048 ∧ s.otp.listed < 16 ∧ s.on F.OTP_SCRUB_DRIFT = false)
    ∧ (∃ (s : State) (b : Burn) (a : Nat) (v : Nat) (rest : (List (Nat × Nat))) (spare : Bool), s.plain ∧ s.otp.burn = some b ∧ b.words = (a, v) :: rest ∧ a < 2048 ∧ v < 2 ^ 32 ∧ b.repair = false ∧ rest ≠ [])
    ∧ (∃ (s : State) (b : Burn) (a : Nat) (v : Nat) (rest : (List (Nat × Nat))) (spare : Bool), s.plain ∧ s.otp.burn = some b ∧ b.words = (a, v) :: rest ∧ a < 2048 ∧ v < 2 ^ 32 ∧ b.repair = false ∧ rest = [] ∧ b.lcs = 0)
    ∧ (∃ (s : State) (b : Burn) (a : Nat) (v : Nat) (rest : (List (Nat × Nat))) (spare : Bool), s.plain ∧ s.otp.burn = some b ∧ b.words = (a, v) :: rest ∧ a < 2048 ∧ v < 2 ^ 32 ∧ b.repair = false ∧ rest = [] ∧ b.lcs = 4)
    ∧ (∃ (s : State) (b : Burn) (a : Nat) (v : Nat) (rest : (List (Nat × Nat))) (spare : Bool), s.plain ∧ s.otp.burn = some b ∧ b.words = (a, v) :: rest ∧ a < 2048 ∧ v < 2 ^ 32 ∧ b.repair = false ∧ rest = [] ∧ b.lcs ≠ 0 ∧ b.lcs ≠ 4)
    ∧ (∃ (s : State) (b : Burn) (a : Nat) (v : Nat) (rest : (List (Nat × Nat))), s.plain ∧ s.otp.burn = some b ∧ b.words = (a, v) :: rest ∧ a < 2048 ∧ v < 2 ^ 32 ∧ s.g F.OTP_STAT_SPARES ≠ 0 ∧ b.repair = false ∧ bitWise a = true ∧ rest ≠ [])
    ∧ (∃ (s : State) (b : Burn) (a : Nat) (v : Nat) (rest : (List (Nat × Nat))) (spare : Bool), s.plain ∧ s.otp.burn = some b ∧ b.words = (a, v) :: rest ∧ a < 2048 ∧ v < 2 ^ 32 ∧ s.g F.OTP_STAT_SPARES ≠ 0 ∧ b.repair = true ∧ bitWise a = false ∧ rest = [] ∧ b.lcs = 0) :=
  ⟨⟨(otpAt 1 [(F.OTP_STAT_SCRUB, 1)] (fun o => { o with listed := 15 })), ([5, 6, 9000]), by decide +kernel⟩,
   ⟨(otpAt 1 [(F.OTP_STAT_SCRUB, 1)] (fun o => { o with listed := 14 })), 2047, by decide +kernel⟩,
   ⟨(otpAt 1 [] (fun o => { o with burn := some ⟨[(0x3B, 6), (5, 5)], false, 0x40, 0⟩ })), (⟨[(0x3B, 6), (5, 5)], false, 0x40, 0⟩), 0x3B, 6, ([(5, 5)]), false, by decide +kernel⟩,
   ⟨(otpAt 1 [] (fun o => { o with burn := some ⟨[(5, 6)], false, 0x40, 0⟩ })), (⟨[(5, 6)], false, 0x40, 0⟩), 5, 6, ([]), false, by decide +kernel⟩,
   ⟨(otpAt 2 [] (fun o => { o with burn := some ⟨[(0x42, 1)], false, 0x40, 4⟩ })), (⟨[(0x42, 1)], false, 0x40, 4⟩), 0x42, 1, ([]), false, by decide +kernel⟩,
   ⟨(otpAt 1 [] (fun o => { o with burn := some ⟨[(0x40, 2)], false, 0x40, 3⟩ })), (⟨[(0x40, 2)], false, 0x40, 3⟩), 0x40, 2, ([]), false, by decide +kernel⟩,
   ⟨(otpAt 1 [(F.OTP_STAT_SPARES, 2)] (fun o => { o with burn := some ⟨[(0x7E0, 2), (5, 5)], false, 0x40, 0⟩ })), (⟨[(0x7E0, 2), (5, 5)], false, 0x40, 0⟩), 0x7E0, 2, ([(5, 5)]), by decide +kernel⟩,
   ⟨(otpAt 1 [(F.OTP_STAT_SPARES, 2)] (fun o => { o with burn := some ⟨[(5, 6)], true, 5, 0⟩ })), (⟨[(5, 6)], true, 5, 0⟩), 5, 6, ([]), true, by decide +kernel⟩⟩

theorem witness_FuseArray_3 :
    (∃ (s : State) (b : Burn) (a : Nat) (v : Nat) (rest : (List (Nat × Nat))) (spare : Bool), s.plain ∧ s.otp.burn = some b ∧ b.words = (a, v) :: rest ∧ a < 2048 ∧ v < 2 ^ 32 ∧ s.g F.OTP_STAT_SPARES = 0 ∧ b.repair = false ∧ b.lcs = 0)
    ∧ (∃ (s : State) (votp : Nat), s.plain ∧ votp < 2 ^ 11 ∧ (s.otp.burn = none ∨ 1740 ≤ votp ∧ votp ≤ 1860 ∧ ∀ k, k < 32 → 0 ≤ s.gi (F.THM_TS_VALUE k) ∧ s.gi (F.THM_TS_VALUE k) ≤ 8500))
    ∧ (∃ (s : State) (votp : Nat), s.plain ∧ votp < 2 ^ 11 ∧ (s.otp.burn = none ∨ 1740 ≤ votp ∧ votp ≤ 1860 ∧ ∀ k, k < 32 → 0 ≤ s.gi (F.THM_TS_VALUE k) ∧ s.gi (F.THM_TS_VALUE k) ≤ 8500))
    ∧ (∃ (s : State) (v : (Vector Nat 7)), s.plain ∧ ∀ x ∈ s.roscAt, x + msTicks ≤ s.now) :=
  ⟨⟨(otpAt 1 [(F.OTP_STAT_SPARES, 0)] (fun o => { o with burn := some ⟨[(5, 6)], false, 5, 0⟩ })), (⟨[(5, 6)], false, 5, 0⟩), 5, 6, ([]), true, by decide +kernel⟩,
   ⟨(otpAt 1 [] id), 1860, by decide +kernel⟩,
   ⟨(otpAt 1 [] (fun o => { o with burn := some ⟨[(5, 6)], false, 0x40, 0⟩ })), 1860, by decide +kernel⟩,
   ⟨({ otpAt 1 [(F.THM_STAT_HOTTEMP, ofSigned 16 (-101))] id with roscAt := some 5 }), (Vector.replicate 7 70000), by decide +kernel⟩⟩

theorem witness_Lifecycle :
    (∃ (s : State) (q : Requester) (key : Nat) (votp : Nat) (c : Instr), s.plain ∧ s.present q ∧ key < 256 ∧ votp < 2 ^ 11 ∧ (key ≠ 0x3D ∨ ¬(s.on F.OTP_STAT_BUSY = false ∧ s.on F.LCS_STATE_BUSY = false)) ∧ c ∈ [Instr.nonce q key, .enterMaker q key votp, .enterField q key votp, .consent q key votp, .token q key votp, .scrap q key votp])
    ∧ (∃ (s : State) (q : Requester) (key : Nat) (votp : Nat) (c : Instr) (state : Nat) (action : Nat), (let lc := s.lifecycle; s.plain ∧ s.present q ∧ key < 256 ∧ votp < 2 ^ 11 ∧ key = 0x3D ∧ (s.on F.OTP_STAT_BUSY = false ∧ s.on F.LCS_STATE_BUSY = false) ∧ (c, state, action) ∈ [(Instr.enterMaker q key votp, lcBLANK, 2), (.enterField q key votp, lcMAKER, 3), (.consent q key votp, lcFIELD, 4), (.scrap q key votp, lcMAKER, 6)] ∧ lc ≠ state))
    ∧ (∃ (s : State) (q : Requester) (key : Nat) (votp : Nat) (c : Instr) (state : Nat) (action : Nat), (let lc := s.lifecycle; let k := s.g F.LCS_STATE_RETURNS; s.plain ∧ s.present q ∧ key < 256 ∧ votp < 2 ^ 11 ∧ key = 0x3D ∧ (s.on F.OTP_STAT_BUSY = false ∧ s.on F.LCS_STATE_BUSY = false) ∧ (c, state, action) ∈ [(Instr.enterMaker q key votp, lcBLANK, 2), (.enterField q key votp, lcMAKER, 3), (.consent q key votp, lcFIELD, 4), (.scrap q key votp, lcMAKER, 6)] ∧ lc = state ∧ ¬((action = 3 → s.otpWord 0x41 % 8 = 7) ∧ (action = 4 → k < 14))))
    ∧ (∃ (s : State) (q : Requester) (key : Nat) (votp : Nat) (c : Instr) (state : Nat) (action : Nat), (let lc := s.lifecycle; let k := s.g F.LCS_STATE_RETURNS; s.plain ∧ s.present q ∧ key < 256 ∧ votp < 2 ^ 11 ∧ key = 0x3D ∧ (s.on F.OTP_STAT_BUSY = false ∧ s.on F.LCS_STATE_BUSY = false) ∧ (c, state, action) ∈ [(Instr.enterMaker q key votp, lcBLANK, 2), (.enterField q key votp, lcMAKER, 3), (.consent q key votp, lcFIELD, 4), (.scrap q key votp, lcMAKER, 6)] ∧ lc = state ∧ ((action = 3 → s.otpWord 0x41 % 8 = 7) ∧ (action = 4 → k < 14)) ∧ ¬(1740 ≤ votp ∧ votp ≤ 1860 ∧ ∀ k, k < 32 → 0 ≤ s.gi (F.THM_TS_VALUE k) ∧ s.gi (F.THM_TS_VALUE k) ≤ 8500)))
    ∧ (∃ (s : State) (q : Requester) (key : Nat) (votp : Nat) (c : Instr) (state : Nat) (action : Nat), (let lc := s.lifecycle; let k := s.g F.LCS_STATE_RETURNS; s.plain ∧ s.present q ∧ key < 256 ∧ votp < 2 ^ 11 ∧ key = 0x3D ∧ (s.on F.OTP_STAT_BUSY = false ∧ s.on F.LCS_STATE_BUSY = false) ∧ (c, state, action) ∈ [(Instr.enterMaker q key votp, lcBLANK, 2), (.enterField q key votp, lcMAKER, 3), (.consent q key votp, lcFIELD, 4), (.scrap q key votp, lcMAKER, 6)] ∧ lc = state ∧ ((action = 3 → s.otpWord 0x41 % 8 = 7) ∧ (action = 4 → k < 14)) ∧ (1740 ≤ votp ∧ votp ≤ 1860 ∧ ∀ k, k < 32 → 0 ≤ s.gi (F.THM_TS_VALUE k) ∧ s.gi (F.THM_TS_VALUE k) ≤ 8500)))
    ∧ (∃ (s : State) (q : Requester) (key : Nat) (votp : Nat), (let code := (s.setVotp votp).tokenCheck; s.plain ∧ s.present q ∧ key < 256 ∧ votp < 2 ^ 11 ∧ key = 0x3D ∧ (s.on F.OTP_STAT_BUSY = false ∧ s.on F.LCS_STATE_BUSY = false) ∧ code ≠ 0 ∧ leNat (s.tokenBytes.take 4) ≠ 0x4E4B4F54)) :=
  ⟨⟨(otpAt 1 [(F.LCS_STATE_BUSY, 1)] id), (.host 1), 0x3D, 0, (.nonce (.host 1) 0x3D), by decide +kernel⟩,
   ⟨(otpAt 1 [] id), (.host 1), 0x3D, 0, (.enterMaker (.host 1) 0x3D 0), 0, 2, by decide +kernel⟩,
   ⟨(otpAt 1 [] id), (.host 1), 0x3D, 0, (.enterField (.host 1) 0x3D 0), 1, 3, by decide +kernel⟩,
   ⟨(otpAt 2 [] id), (.host 1), 0x3D, 0, (.consent (.host 1) 0x3D 0), 2, 4, by decide +kernel⟩,
   ⟨(otpAt 2 [(F.LCS_STATE_RETURNS, 13)] id), (.host 1), 0x3D, 1800, (.consent (.host 1) 0x3D 1800), 2, 4, by decide +kernel⟩,
   ⟨(otpAt 1 [] id), (.host 1), 0x3D, 1800, by decide +kernel⟩⟩

def hywAt (st : Nat) (l : List (FieldRef × Nat)) (f : Hyw → Hyw) : State := let s := put up ([(F.HYW_CTRL_EN 7, 1), (F.HYW_STAT_STATE 7, st), (F.HYW_CFG_TYPE 7, 2)] ++ l); { s with hyw := vmod s.hyw 7 f }
def keyed (s : State) : State := { s with otp := { s.otp with shadow := Cells.put 0 0x88 (5 : Word) s.otp.shadow } }
def cFrame (status : Nat) (b : List Nat) : List Nat := [0xA5, status, b.length] ++ b ++ leBytes 2 (crc16 ([status, b.length] ++ b))
def lim : Nat := 200000000000
def fitOk (l : List (FieldRef × Nat)) (f : Hyw → Hyw) : State := hywAt 3 ([(F.HYW_STAT_PERMIT 7, 1), (F.HYW_LIFE_L 7, 100), (F.HYW_RATED_R 7, 1000), (F.HYW_CFG_WARNPCT 7, 90)] ++ l) f
def macAt : State := keyed (hywAt 2 [(F.HYW_CFG_WARNPCT 7, 90)] (fun h => { h with phase := .wait 2 lim 0, challenge := List.replicate 16 7, ident := some (9, 2, 5000, 4600) }))
def macFit : State := keyed (fitOk [] (fun h => { h with phase := .wait 2 lim 0, challenge := List.replicate 16 7, id := 9, type := 2 }))

theorem witness_ConsumableLine_1 :
    (∃ (s : State) (n : Nat) (q : Requester), s.plain ∧ n < s.blockCount .HYW ∧ s.present q ∧ s.hywEn n = false ∧ s.owns q (padRid (conPad n)) = true)
    ∧ (∃ (s : State) (n : Nat) (q : Requester), s.plain ∧ n < s.blockCount .HYW ∧ s.present q ∧ s.hywEn n = false ∧ s.owns q (padRid (conPad n)) = false)
    ∧ (∃ (s : State) (n : Nat) (q : Requester), s.plain ∧ n < s.blockCount .HYW ∧ s.present q ∧ s.hywEn n = true)
    ∧ (∃ (s : State) (n : Nat) (q : Requester) (on : Bool), s.plain ∧ n < s.blockCount .HYW ∧ s.present q ∧ s.hywEn n = on ∧ s.owns q (padRid (conPad n)) = true)
    ∧ (∃ (s : State) (n : Nat) (q : Requester), (let st := s.hywState n; s.plain ∧ n < s.blockCount .HYW ∧ s.present q ∧ s.hywEn n = true ∧ (st = 3 ∨ st = 4 ∨ st = 5)))
    ∧ (∃ (s : State) (n : Nat), (let h := s.hywOf n; let st := s.hywState n; s.plain ∧ n < s.blockCount .HYW ∧ s.hywEn n = true ∧ h.phase = .idle ∧ st ≠ 7 ∧ ((∀ x ∈ h.breakAt, x + 100 * msTicks ≤ s.now) ∨ st = 2 ∨ (st = 3 ∨ st = 4 ∨ st = 5) ∧ (h.recheck = true ∨ h.reauth = true ∨ h.queue ≠ []))))
    ∧ (∃ (s : State) (n : Nat), (let h := s.hywOf n; let st := s.hywState n; s.plain ∧ n < s.blockCount .HYW ∧ s.hywEn n = true ∧ h.phase = .idle ∧ st ≠ 7 ∧ ((∀ x ∈ h.breakAt, x + 100 * msTicks ≤ s.now) ∨ st = 2 ∨ (st = 3 ∨ st = 4 ∨ st = 5) ∧ (h.recheck = true ∨ h.reauth = true ∨ h.queue ≠ []))))
    ∧ (∃ (s : State) (n : Nat) (limit : Nat), (let h := s.hywOf n; s.plain ∧ n < s.blockCount .HYW ∧ s.hywEn n = true ∧ h.phase = .listen limit ∧ s.now ≤ limit ∧ h.recheck = true)) :=
  ⟨⟨({ put up [] with claims := [(padRid (conPad 7), ⟨3, 2⟩)] }), 7, (.core 2), by decide +kernel⟩,
   ⟨({ put up [] with claims := [(padRid (conPad 7), ⟨3, 3⟩)] }), 7, (.core 2), by decide +kernel⟩,
   ⟨(hywAt 3 [(F.HYW_STAT_PERMIT 7, 1), (F.HYW_STAT_QUEUE 7, 2)] id), 7, (.core 2), by decide +kernel⟩,
   ⟨({ hywAt 3 [(F.HYW_STAT_PERMIT 7, 1)] id with claims := [(padRid (conPad 7), ⟨3, 2⟩)] }), 7, (.core 2), true, by decide +kernel⟩,
   ⟨(hywAt 5 [] id), 7, (.core 2), by decide +kernel⟩,
   ⟨(hywAt 1 [] id), 7, by decide +kernel⟩,
   ⟨(hywAt 5 [] (fun h => { h with breakAt := some 149999999999, recheck := true })), 7, by decide +kernel⟩,
   ⟨(hywAt 4 [(F.HYW_STAT_PERMIT 7, 1)] (fun h => { h with phase := .listen lim, recheck := true })), 7, lim, by decide +kernel⟩⟩

theorem witness_ConsumableLine_2 :
    (∃ (s : State) (n : Nat) (limit : Nat), (let h := s.hywOf n; let st := s.hywState n; s.plain ∧ n < s.blockCount .HYW ∧ s.hywEn n = true ∧ h.phase = .listen limit ∧ s.now ≤ limit ∧ h.recheck = false ∧ st = 1))
    ∧ (∃ (s : State) (n : Nat) (limit : Nat), (let h := s.hywOf n; let st := s.hywState n; s.plain ∧ n < s.blockCount .HYW ∧ s.hywEn n = true ∧ h.phase = .listen limit ∧ s.now ≤ limit ∧ h.recheck = false ∧ st = 6))
    ∧ (∃ (s : State) (n : Nat) (limit : Nat), (let h := s.hywOf n; let st := s.hywState n; s.plain ∧ n < s.blockCount .HYW ∧ s.hywEn n = true ∧ h.phase = .listen limit ∧ s.now ≤ limit ∧ h.recheck = false ∧ (st = 2 ∨ st = 3 ∨ st = 4 ∨ st = 5)))
    ∧ (∃ (s : State) (n : Nat) (limit : Nat) (byte : Nat) (stop : Bool), (let h := s.hywOf n; let st := s.hywState n; s.plain ∧ n < s.blockCount .HYW ∧ s.hywEn n = true ∧ h.phase = .listen limit ∧ s.now ≤ limit ∧ (byte ≠ 0x6E ∨ stop = false) ∧ st = 6))
    ∧ (∃ (s : State) (n : Nat) (limit : Nat) (byte : Nat) (stop : Bool), (let h := s.hywOf n; let st := s.hywState n; s.plain ∧ n < s.blockCount .HYW ∧ s.hywEn n = true ∧ h.phase = .listen limit ∧ s.now ≤ limit ∧ (byte ≠ 0x6E ∨ stop = false) ∧ (st ≠ 6 ∧ h.recheck = true ∨ (st = 3 ∨ st = 4 ∨ st = 5))))
    ∧ (∃ (s : State) (n : Nat) (limit : Nat), (let h := s.hywOf n; let st := s.hywState n; s.plain ∧ n < s.blockCount .HYW ∧ s.hywEn n = true ∧ h.phase = .listen limit ∧ limit < s.now ∧ st = 2 ∧ h.recheck = false))
    ∧ (∃ (s : State) (n : Nat) (limit : Nat), (let h := s.hywOf n; let st := s.hywState n; s.plain ∧ n < s.blockCount .HYW ∧ s.hywEn n = true ∧ h.phase = .listen limit ∧ limit < s.now ∧ st = 1 ∧ h.recheck = false))
    ∧ (∃ (s : State) (n : Nat), (let h := s.hywOf n; let st := s.hywState n; s.plain ∧ n < s.blockCount .HYW ∧ s.hywEn n = true ∧ st = 2 ∧ h.ident = none ∧ h.phase = .ready)) :=
  ⟨⟨(hywAt 1 [] (fun h => { h with phase := .listen lim })), 7, lim, by decide +kernel⟩,
   ⟨(hywAt 6 [] (fun h => { h with phase := .listen lim })), 7, lim, by decide +kernel⟩,
   ⟨(hywAt 3 [] (fun h => { h with phase := .listen lim })), 7, lim, by decide +kernel⟩,
   ⟨(hywAt 6 [] (fun h => { h with phase := .listen lim })), 7, lim, 0x6F, true, by decide +kernel⟩,
   ⟨(hywAt 3 [(F.HYW_STAT_PERMIT 7, 1)] (fun h => { h with phase := .listen lim })), 7, lim, 0x6E, false, by decide +kernel⟩,
   ⟨(hywAt 2 [] (fun h => { h with phase := .listen 5, ident := some (1, 2, 3, 4) })), 7, 5, by decide +kernel⟩,
   ⟨(hywAt 1 [] (fun h => { h with phase := .listen 5 })), 7, 5, by decide +kernel⟩,
   ⟨(hywAt 2 [] (fun h => { h with phase := .ready })), 7, by decide +kernel⟩⟩

theorem witness_ConsumableLine_3 :
    (∃ (s : State) (n : Nat), (let h := s.hywOf n; let st := s.hywState n; s.plain ∧ n < s.blockCount .HYW ∧ s.hywEn n = true ∧ (st = 2 ∧ h.ident ≠ none ∨ (st = 3 ∨ st = 4 ∨ st = 5) ∧ (h.reauth = true ∨ s.g (F.HYW_CFG2_REAUTH n) ≤ h.sewn)) ∧ s.hywKey n = none))
    ∧ (∃ (s : State) (n : Nat), (let h := s.hywOf n; let st := s.hywState n; s.plain ∧ n < s.blockCount .HYW ∧ s.hywEn n = true ∧ (st = 2 ∧ h.ident ≠ none ∨ (st = 3 ∨ st = 4 ∨ st = 5) ∧ (h.reauth = true ∨ s.g (F.HYW_CFG2_REAUTH n) ≤ h.sewn)) ∧ s.hywKey n ≠ none ∧ h.phase = .ready))
    ∧ (∃ (s : State) (n : Nat), (let h := s.hywOf n; let st := s.hywState n; s.plain ∧ n < s.blockCount .HYW ∧ s.hywEn n = true ∧ (st = 3 ∨ st = 4 ∨ st = 5) ∧ h.queue ≠ [] ∧ h.phase = .ready))
    ∧ (∃ (s : State) (n : Nat), (let h := s.hywOf n; let st := s.hywState n; s.plain ∧ n < s.blockCount .HYW ∧ s.hywEn n = true ∧ (st = 3 ∨ st = 4 ∨ st = 5) ∧ h.phase = .ready ∧ h.readAt + 100 * msTicks ≤ s.now))
    ∧ (∃ (s : State) (n : Nat) (cmd : Nat) (limit : Nat) (tries : Nat), (let h := s.hywOf n; s.plain ∧ n < s.blockCount .HYW ∧ s.hywEn n = true ∧ h.phase = .wait cmd limit tries ∧ limit ≤ s.now ∧ tries < 3))
    ∧ (∃ (s : State) (n : Nat) (cmd : Nat) (limit : Nat) (tries : Nat), (let h := s.hywOf n; s.plain ∧ n < s.blockCount .HYW ∧ s.hywEn n = true ∧ h.phase = .wait cmd limit tries ∧ limit ≤ s.now ∧ 3 ≤ tries ∧ cmd ≠ 3))
    ∧ (∃ (s : State) (n : Nat) (cmd : Nat) (limit : Nat) (tries : Nat) (bs : (List Nat)), (let h := s.hywOf n; s.plain ∧ n < s.blockCount .HYW ∧ s.hywEn n = true ∧ h.phase = .wait cmd limit tries ∧ s.now ≤ limit ∧ bs = cFrame 1 [] ∧ 3 ≤ tries ∧ cmd = 3))
    ∧ (∃ (s : State) (n : Nat) (cmd : Nat) (limit : Nat) (tries : Nat) (status : Nat) (b : (List Nat)), (let h := s.hywOf n; s.plain ∧ n < s.blockCount .HYW ∧ s.hywEn n = true ∧ h.phase = .wait cmd limit tries ∧ s.now ≤ limit ∧ cmd ≠ 3 ∧ 2 ≤ status ∧ status ≤ 4 ∧ b.length ≤ 48 ∧ (∀ x ∈ b, x < 256))) :=
  ⟨⟨(hywAt 3 [] (fun h => { h with phase := .ready, reauth := true })), 7, by decide +kernel⟩,
   ⟨(keyed (hywAt 2 [] (fun h => { h with phase := .ready, ident := some (1, 2, 3, 4) }))), 7, by decide +kernel⟩,
   ⟨(hywAt 3 [] (fun h => { h with phase := .ready, queue := [5] })), 7, by decide +kernel⟩,
   ⟨(hywAt 3 [] (fun h => { h with phase := .ready })), 7, by decide +kernel⟩,
   ⟨(hywAt 3 [(F.HYW_STAT_RETRIES 7, 255)] (fun h => { h with phase := .wait 4 5 2 })), 7, 4, 5, 2, by decide +kernel⟩,
   ⟨(hywAt 3 [] (fun h => { h with phase := .wait 4 5 3 })), 7, 4, 5, 3, by decide +kernel⟩,
   ⟨(hywAt 3 [(F.HYW_STAT_PERMIT 7, 1)] (fun h => { h with phase := .wait 3 lim 3 })), 7, 3, lim, 3, (cFrame 1 []), by decide +kernel⟩,
   ⟨(hywAt 3 [] (fun h => { h with phase := .wait 4 lim 0 })), 7, 4, lim, 0, 4, (List.replicate 48 255), by decide +kernel⟩⟩

theorem witness_ConsumableLine_4 :
    (∃ (s : State) (n : Nat) (detail : Nat), (let st := s.hywState n; s.plain ∧ n < s.blockCount .HYW ∧ s.hywEn n = true ∧ (detail = 1 ∨ detail = 2) ∧ st ≠ 7))
    ∧ (∃ (s : State) (n : Nat), (let h := s.hywOf n; let st := s.hywState n; s.plain ∧ n < s.blockCount .HYW ∧ s.hywEn n = true ∧ st = 7 ∧ h.testAt + 1000 * msTicks ≤ s.now)) :=
  ⟨⟨(hywAt 3 [] id), 7, 2, by decide +kernel⟩,
   ⟨(hywAt 7 [] id), 7, by decide +kernel⟩⟩

theorem witness_ConsumableAnswers_1 :
    (∃ (s : State) (n : Nat) (limit : Nat) (tries : Nat) (id : Nat) (type : Nat) (rated : Nat) (lf : Nat), (let h := s.hywOf n; s.plain ∧ n < s.blockCount .HYW ∧ s.hywEn n = true ∧ s.now ≤ limit ∧ id < 2 ^ 64 ∧ type < 2 ^ 16 ∧ rated < 2 ^ 32 ∧ lf < 2 ^ 32 ∧ h.phase = .wait 1 limit tries ∧ (type ≠ s.g (F.HYW_CFG_TYPE n) ∨ type = 0 ∨ 5 ≤ type)))
    ∧ (∃ (s : State) (n : Nat) (limit : Nat) (tries : Nat) (id : Nat) (type : Nat) (rated : Nat) (lf : Nat), (let h := s.hywOf n; s.plain ∧ n < s.blockCount .HYW ∧ s.hywEn n = true ∧ s.now ≤ limit ∧ id < 2 ^ 64 ∧ type < 2 ^ 16 ∧ rated < 2 ^ 32 ∧ lf < 2 ^ 32 ∧ h.phase = .wait 1 limit tries ∧ type = s.g (F.HYW_CFG_TYPE n) ∧ 1 ≤ type ∧ type ≤ 4))
    ∧ (∃ (s : State) (n : Nat) (limit : Nat) (tries : Nat) (id : Nat) (type : Nat) (rated : Nat) (lf : Nat) (mac : (List Nat)), (let h := s.hywOf n; let st := s.hywState n; s.plain ∧ n < s.blockCount .HYW ∧ s.hywEn n = true ∧ s.now ≤ limit ∧ mac.length = 32 ∧ (∀ b ∈ mac, b < 256) ∧ h.phase = .wait 2 limit tries ∧ h.ident = some (id, type, rated, lf) ∧ id < 2 ^ 64 ∧ rated < 2 ^ 32 ∧ lf < 2 ^ 32 ∧ mac = s.hywMac n id type rated lf ∧ st = 2))
    ∧ (∃ (s : State) (n : Nat) (limit : Nat) (tries : Nat) (id : Nat) (type : Nat) (rated : Nat) (lf : Nat) (mac : (List Nat)), (let h := s.hywOf n; s.plain ∧ n < s.blockCount .HYW ∧ s.hywEn n = true ∧ s.now ≤ limit ∧ mac.length = 32 ∧ (∀ b ∈ mac, b < 256) ∧ h.phase = .wait 2 limit tries ∧ h.ident = some (id, type, rated, lf) ∧ id < 2 ^ 64 ∧ rated < 2 ^ 32 ∧ lf < 2 ^ 32 ∧ mac ≠ s.hywMac n id type rated lf))
    ∧ (∃ (s : State) (n : Nat) (limit : Nat) (tries : Nat) (mac : (List Nat)), (let h := s.hywOf n; let life := s.g (F.HYW_LIFE_L n); s.plain ∧ n < s.blockCount .HYW ∧ s.hywEn n = true ∧ s.now ≤ limit ∧ mac.length = 32 ∧ (∀ b ∈ mac, b < 256) ∧ h.phase = .wait 2 limit tries ∧ h.ident = none ∧ mac ≠ s.hywMac n h.id h.type (s.g (F.HYW_RATED_R n)) life))
    ∧ (∃ (s : State) (n : Nat) (limit : Nat) (tries : Nat) (mac : (List Nat)), (let h := s.hywOf n; let life := s.g (F.HYW_LIFE_L n); s.plain ∧ n < s.blockCount .HYW ∧ s.hywEn n = true ∧ s.now ≤ limit ∧ mac.length = 32 ∧ (∀ b ∈ mac, b < 256) ∧ h.phase = .wait 2 limit tries ∧ h.ident = none ∧ mac = s.hywMac n h.id h.type (s.g (F.HYW_RATED_R n)) life))
    ∧ (∃ (s : State) (n : Nat) (limit : Nat) (tries : Nat) (inc : Nat) (rest : (List Nat)) (status : Nat) (x : Nat), (let h := s.hywOf n; let life := s.g (F.HYW_LIFE_L n); s.plain ∧ n < s.blockCount .HYW ∧ s.hywEn n = true ∧ s.now ≤ limit ∧ h.queue = inc :: rest ∧ h.phase = .wait 3 limit tries ∧ x < 2 ^ 32 ∧ (status = 0 ∨ status = 3 ∨ status = 4) ∧ x = life + inc ∧ status ≠ 3))
    ∧ (∃ (s : State) (n : Nat) (limit : Nat) (tries : Nat) (inc : Nat) (rest : (List Nat)) (status : Nat) (x : Nat), (let h := s.hywOf n; let life := s.g (F.HYW_LIFE_L n); s.plain ∧ n < s.blockCount .HYW ∧ s.hywEn n = true ∧ s.now ≤ limit ∧ h.queue = inc :: rest ∧ h.phase = .wait 3 limit tries ∧ x < 2 ^ 32 ∧ (status = 0 ∨ status = 3 ∨ status = 4) ∧ (x ≠ life + inc ∨ status = 3))) :=
  ⟨⟨(hywAt 2 [] (fun h => { h with phase := .wait 1 lim 0 })), 7, lim, 0, (2 ^ 64 - 1), 3, 5, 6, by decide +kernel⟩,
   ⟨(hywAt 2 [] (fun h => { h with phase := .wait 1 lim 0 })), 7, lim, 0, (2 ^ 64 - 1), 2, 5, 6, by decide +kernel⟩,
   ⟨macAt, 7, lim, 0, 9, 2, 5000, 4600, (macAt.hywMac 7 9 2 5000 4600), by decide +kernel⟩,
   ⟨macAt, 7, lim, 0, 9, 2, 5000, 4600, (List.replicate 32 0), by decide +kernel⟩,
   ⟨macFit, 7, lim, 0, (List.replicate 32 0), by decide +kernel⟩,
   ⟨macFit, 7, lim, 0, (macFit.hywMac 7 9 2 1000 100), by decide +kernel⟩,
   ⟨(fitOk [] (fun h => { h with phase := .wait 3 lim 0, queue := [7, 8] })), 7, lim, 0, 7, ([8]), 0, 107, by decide +kernel⟩,
   ⟨(fitOk [] (fun h => { h with phase := .wait 3 lim 0, queue := [7, 8] })), 7, lim, 0, 7, ([8]), 0, 108, by decide +kernel⟩⟩

theorem witness_ConsumableAnswers_2 :
    (∃ (s : State) (n : Nat) (limit : Nat) (tries : Nat) (b : (List Nat)), (let h := s.hywOf n; s.plain ∧ n < s.blockCount .HYW ∧ s.hywEn n = true ∧ s.now ≤ limit ∧ h.queue ≠ [] ∧ h.phase = .wait 3 limit tries ∧ b.length ≤ 48 ∧ (∀ x ∈ b, x < 256)))
    ∧ (∃ (s : State) (n : Nat) (limit : Nat) (tries : Nat) (x : Nat), (let h := s.hywOf n; let life := s.g (F.HYW_LIFE_L n); s.plain ∧ n < s.blockCount .HYW ∧ s.hywEn n = true ∧ s.now ≤ limit ∧ h.phase = .wait 4 limit tries ∧ x < 2 ^ 32 ∧ life ≤ x))
    ∧ (∃ (s : State) (n : Nat) (limit : Nat) (tries : Nat) (x : Nat), (let h := s.hywOf n; let life := s.g (F.HYW_LIFE_L n); s.plain ∧ n < s.blockCount .HYW ∧ s.hywEn n = true ∧ s.now ≤ limit ∧ h.phase = .wait 4 limit tries ∧ x < 2 ^ 32 ∧ x < life))
    ∧ (∃ (s : State) (n : Nat) (q : Requester) (v : Nat), s.plain ∧ n < s.blockCount .HYW ∧ s.present q ∧ v % 2 ^ 24 = 0)
    ∧ (∃ (s : State) (n : Nat) (q : Requester) (v : Nat), (let h := s.hywOf n; s.plain ∧ n < s.blockCount .HYW ∧ s.present q ∧ v % 2 ^ 24 ≠ 0 ∧ 4 ≤ h.queue.length))
    ∧ (∃ (s : State) (n : Nat) (q : Requester) (v : Nat), (let h := s.hywOf n; s.plain ∧ n < s.blockCount .HYW ∧ s.present q ∧ v % 2 ^ 24 ≠ 0 ∧ h.queue.length < 4)) :=
  ⟨⟨(fitOk [] (fun h => { h with phase := .wait 3 lim 0, queue := [7, 8] })), 7, lim, 0, ([]), by decide +kernel⟩,
   ⟨(fitOk [] (fun h => { h with phase := .wait 4 lim 0 })), 7, lim, 0, 1000, by decide +kernel⟩,
   ⟨(fitOk [] (fun h => { h with phase := .wait 4 lim 0 })), 7, lim, 0, 99, by decide +kernel⟩,
   ⟨(fitOk [] id), 7, (.core 1), 0xFF000000, by decide +kernel⟩,
   ⟨(fitOk [(F.HYW_STAT_QUEUE 7, 4)] (fun h => { h with queue := [1, 2, 3, 4] })), 7, (.core 1), 0xFF000001, by decide +kernel⟩,
   ⟨(fitOk [(F.HYW_STAT_QUEUE 7, 3)] (fun h => { h with queue := [1, 2, 3] })), 7, (.core 1), 0xFF000001, by decide +kernel⟩⟩

def ob (st : Nat) (l : List (FieldRef × Nat)) : State := let s := put up ([(F.LCS_STATE_STATE, st)] ++ l); { s with wires := { s.wires with noObs := false, ftrace := true } }
def cnt3 (l : List (FieldRef × Nat)) : State := ob 1 ([(F.OBS_CTRL_RUN, 1), (F.OBS_EVSEL_EN 3, 1), (F.OBS_EVSEL_CORE 3, 23), (F.OBS_CNT_LO_COUNT 3, 2 ^ 32 - 1), (F.OBS_CNT_HI_COUNT 3, 2 ^ 16 - 1), (F.OBS_CNT_LO_COUNT 4, 77)] ++ l)
def trc (l : List (FieldRef × Nat)) (f : List (List Nat)) (d : Nat) : State := let s := ob 1 l; { s with memChans := 3, selfRefresh := false, obs := { s.obs with fifo := f, dropped := d } }
def full : List (List Nat) := List.replicate 256 (traceBytes 1 2 0 4 0 5)

theorem witness_Counters_1 :
    (∃ (s : State) (q : Requester) (v : Nat) (i : Nat), s.settled ∧ s.present q ∧ s.plain ∧ q = .core i)
    ∧ (∃ (s : State) (q : Requester) (v : Nat) (run : Bool), s.settled ∧ s.present q ∧ s.plain)
    ∧ (∃ (s : State) (q : Requester) (v : Nat) (n : Nat), s.settled ∧ s.present q ∧ q = .host n ∧ (s.on F.OBS_HOSTEN_EN = false ∨ bit v 0 = true ∨ s.lifecycle ≠ lcFIELD))
    ∧ (∃ (s : State) (q : Requester) (v : Nat) (n : Nat), s.settled ∧ s.present q ∧ q = .host n ∧ s.on F.OBS_HOSTEN_EN = true ∧ bit v 0 = false ∧ s.lifecycle = lcFIELD)
    ∧ (∃ (s : State) (q : Requester) (v : Nat) (run : Bool), s.settled ∧ s.present q ∧ s.obsLevel ≠ 0)
    ∧ (∃ (s : State) (q : Requester) (v : Nat) (k : Nat), s.settled ∧ s.present q ∧ s.obsLevel ≠ 0 ∧ k < 64 ∧ s.on F.OBS_CTRL_RUN = true ∧ s.on (F.OBS_EVSEL_EN k) = true ∧ s.on (F.OBS_EVSEL_SAMPLE k) = false)
    ∧ (∃ (s : State) (q : Requester) (v : Nat) (k : Nat) (c : Nat), s.settled ∧ s.present q ∧ s.obsLevel ≠ 0 ∧ k < 64 ∧ s.on F.OBS_CTRL_RUN = true ∧ s.on (F.OBS_EVSEL_EN k) = true ∧ c = s.g (F.OBS_EVSEL_CORE k) ∧ s.on (F.OBS_EVSEL_SAMPLE k) = true ∧ c < 24 ∧ s.on (F.OBS_SAMP_INFO_PEND c) = false)
    ∧ (∃ (s : State) (q : Requester) (v : Nat) (k : Nat) (c : Nat), s.settled ∧ s.present q ∧ s.obsLevel ≠ 0 ∧ k < 64 ∧ s.on F.OBS_CTRL_RUN = true ∧ s.on (F.OBS_EVSEL_EN k) = true ∧ c = s.g (F.OBS_EVSEL_CORE k) ∧ s.on (F.OBS_EVSEL_SAMPLE k) = true ∧ c < 24 ∧ s.on (F.OBS_SAMP_INFO_PEND c) = true) :=
  ⟨⟨(put up []), (.core 3), 1, 3, by decide +kernel⟩,
   ⟨(put up []), (.host 1), 1, true, by decide +kernel⟩,
   ⟨(ob 2 [(F.OBS_HOSTEN_EN, 1)]), (.host 1), 3, 1, by decide +kernel⟩,
   ⟨(ob 2 [(F.OBS_HOSTEN_EN, 1), (F.OBS_CTRL_RUN, 1), (F.OBS_EVSEL_EN 5, 1), (F.OBS_CNT_LO_COUNT 5, 9), (F.OBS_SAMP_INFO_PEND 4, 1), (F.OBS_FIX_LO_COUNT 2, 8), (F.OBS_BWLAST_UNITS 3, 5)]), (.host 0), 2, 0, by decide +kernel⟩,
   ⟨(ob 1 []), (.core 3), 0, true, by decide +kernel⟩,
   ⟨(cnt3 []), (.core 3), 0, 3, by decide +kernel⟩,
   ⟨(cnt3 [(F.OBS_EVSEL_SAMPLE 3, 1)]), (.core 3), 0, 3, 23, by decide +kernel⟩,
   ⟨(cnt3 [(F.OBS_EVSEL_SAMPLE 3, 1), (F.OBS_SAMP_INFO_PEND 23, 1), (F.OBS_SAMP_INFO_INDEX 23, 9), (F.OBS_SAMP_INFO_MERGED 23, 255)]), (.core 3), 0, 3, 23, by decide +kernel⟩⟩

theorem witness_Counters_2 :
    (∃ (s : State) (q : Requester) (v : Nat), s.settled ∧ s.present q ∧ s.obsLevel ≠ 0 ∧ s.on F.OBS_BWCFG_EN = true ∧ s.now % (s.g F.OBS_BWCFG_WINDOW * usTicks) = 0)
    ∧ (∃ (s : State) (q : Requester) (v : Nat) (x : Nat), s.settled ∧ s.present q ∧ s.pending = [] ∧ s.pathClear ∧ s.clocked = true ∧ s.obs.bwAt = some x ∧ x ≤ s.now + 1)
    ∧ (∃ (s : State) (q : Requester) (v : Nat) (x : Nat), s.settled ∧ s.present q ∧ s.pending = [] ∧ s.pathClear ∧ s.clocked = true ∧ s.obs.bwAt = some x ∧ s.now + 1 < x) :=
  ⟨⟨(let s := ob 1 [(F.OBS_BWCFG_EN, 1), (F.OBS_BWCFG_WINDOW, 1000), (F.OBS_BWPEAK_UNITS 3, 5)]; { s with cord := 24000 * 1000, obs := { s.obs with bw := vmod s.obs.bw 3 (fun _ => 999) } }), (.core 3), 0, by decide +kernel⟩,
   ⟨(let s := ob 1 [(F.SYN_STAT_STATE 0, 2), (F.OBS_BWCFG_EN, 1), (F.OBS_BWLAST_UNITS 3, 9), (F.OBS_BWPEAK_UNITS 3, 5)]; { s with cord := 24000 * 1000, obs := { s.obs with bwAt := some 24000001, bwUnits := vmod s.obs.bwUnits 3 (fun _ => 62) } }), (.core 3), 0, 24000001, by decide +kernel⟩,
   ⟨(let s := ob 1 [(F.SYN_STAT_STATE 0, 2), (F.OBS_BWCFG_EN, 1), (F.OBS_BWLAST_UNITS 3, 9), (F.OBS_BWPEAK_UNITS 3, 5)]; { s with cord := 24000 * 1000, obs := { s.obs with bwAt := some 24000002, bwUnits := vmod s.obs.bwUnits 3 (fun _ => 62) } }), (.core 3), 0, 24000002, by decide +kernel⟩⟩

theorem witness_Trace_1 :
    (∃ (s : State) (q : Requester) (v : Nat), s.settled ∧ s.histRoom ∧ s.plain ∧ s.present q)
    ∧ (∃ (s : State) (stamp : Nat) (origin : Nat) (code : Nat) (aux : Nat) (data : Nat), (let fifo := s.obs.fifo; s.settled ∧ s.histRoom ∧ s.traceOn = true ∧ fifo.length < 256 ∧ (code = 0 ∨ 1 ≤ code ∧ code ≤ 12 ∧ bit (s.word .OBS_EVTMASK 0 0) code = true)))
    ∧ (∃ (s : State) (stamp : Nat) (origin : Nat) (code : Nat) (aux : Nat) (data : Nat), (let fifo := s.obs.fifo; s.settled ∧ s.histRoom ∧ s.traceOn = true ∧ fifo.length < 256 ∧ (code = 0 ∨ 1 ≤ code ∧ code ≤ 12 ∧ bit (s.word .OBS_EVTMASK 0 0) code = true)))
    ∧ (∃ (s : State) (stamp : Nat) (origin : Nat) (code : Nat) (aux : Nat) (data : Nat), (let fifo := s.obs.fifo; s.settled ∧ s.histRoom ∧ s.traceOn = true ∧ fifo.length < 256 ∧ 1 ≤ code ∧ code ≤ 12 ∧ bit (s.word .OBS_EVTMASK 0 0) code = false))
    ∧ (∃ (s : State) (stamp : Nat) (origin : Nat) (code : Nat) (aux : Nat) (data : Nat) (type : Nat), (let fifo := s.obs.fifo; s.settled ∧ s.histRoom ∧ s.traceOn = true ∧ fifo.length < 256 ∧ (type = 1 ∨ type = 2) ∧ 40 ≤ origin ∧ origin < 64 ∧ s.obsLevel = 2 ∧ bit (s.g F.OBS_TRCCFG_ICORES) (origin - 40) = true))
    ∧ (∃ (s : State) (q : Requester) (data : Nat), (let fifo := s.obs.fifo; s.settled ∧ s.histRoom ∧ s.traceOn = true ∧ fifo.length < 256 ∧ s.present q ∧ bit (s.word .OBS_EVTMASK 0 0) 12 = true))
    ∧ (∃ (s : State) (stamp : Nat) (origin : Nat) (aux : Nat) (data : Nat), (let fifo := s.obs.fifo; s.settled ∧ s.histRoom ∧ s.traceOn = true ∧ 256 ≤ fifo.length ∧ s.obs.dropped = 0))
    ∧ (∃ (s : State) (r : (List Nat)) (rest : (List (List Nat))) (err : Bool), (let fifo := s.obs.fifo; let onlyPort := s.on F.OBS_TRCCFG_PORT = true ∧ s.on F.OBS_TRCCFG_MEM = false; s.settled ∧ s.histRoom ∧ s.traceOn = true ∧ s.obs.dropped = 0 ∧ fifo = r :: rest ∧ fifo.length ≤ 256 ∧ onlyPort)) :=
  ⟨⟨(put up []), (.core 5), 7, by decide +kernel⟩,
   ⟨(trc [(F.OBS_TRCCFG_PORT, 1)] (full.take 255) 0), (2 ^ 63), 11, 0, 3, (2 ^ 32 - 1), by decide +kernel⟩,
   ⟨((trc [(F.OBS_TRCCFG_PORT, 1)] [] 0).setWord .OBS_EVTMASK 0 0 0x1000), 7, 43, 12, 3, 9, by decide +kernel⟩,
   ⟨(trc [(F.OBS_TRCCFG_PORT, 1)] [] 0), 7, 43, 12, 3, 9, by decide +kernel⟩,
   ⟨(trc [(F.OBS_TRCCFG_PORT, 1), (F.OBS_TRCCFG_ICORES, 0x800000)] [] 0), 7, 63, 5, 3, 9, 2, by decide +kernel⟩,
   ⟨((trc [(F.OBS_TRCCFG_PORT, 1)] [] 0).setWord .OBS_EVTMASK 0 0 0x1000), (.host 1), (2 ^ 32 + 5), by decide +kernel⟩,
   ⟨(trc [(F.OBS_TRCCFG_MEM, 1)] full 0), 1, 2, 3, 4, by decide +kernel⟩,
   ⟨(trc [(F.OBS_TRCCFG_PORT, 1)] full 0), (traceBytes 1 2 0 4 0 5), (full.drop 1), false, by decide +kernel⟩⟩

theorem witness_Trace_2 :
    (∃ (s : State) (r : (List Nat)) (rest : (List (List Nat))) (err : Bool), (let fifo := s.obs.fifo; s.settled ∧ s.histRoom ∧ s.traceOn = true ∧ s.obs.dropped = 0 ∧ fifo = r :: rest ∧ fifo.length ≤ 256 ∧ s.on F.OBS_TRCCFG_PORT = true))
    ∧ (∃ (s : State) (r : (List Nat)) (rest : (List (List Nat))) (err : Bool), (let fifo := s.obs.fifo; let onlyMem := s.on F.OBS_TRCCFG_PORT = false ∧ s.on F.OBS_TRCCFG_MEM = true; let i := s.word .OBS_BUFWP 0 0; s.settled ∧ s.histRoom ∧ s.traceOn = true ∧ s.obs.dropped = 0 ∧ fifo = r :: rest ∧ fifo.length ≤ 256 ∧ onlyMem ∧ s.pageUp = true ∧ s.bufFull = false ∧ err = false ∧ r.length = 16 ∧ (∀ b ∈ r, b < 256) ∧ i < 2 ^ 32 - 1))
    ∧ (∃ (s : State) (r : (List Nat)) (rest : (List (List Nat))) (err : Bool), (let fifo := s.obs.fifo; let onlyMem := s.on F.OBS_TRCCFG_PORT = false ∧ s.on F.OBS_TRCCFG_MEM = true; s.settled ∧ s.histRoom ∧ s.traceOn = true ∧ s.obs.dropped = 0 ∧ fifo = r :: rest ∧ fifo.length ≤ 256 ∧ onlyMem ∧ s.bufFull = false ∧ err = true))
    ∧ (∃ (s : State) (r : (List Nat)) (rest : (List (List Nat))) (err : Bool), (let fifo := s.obs.fifo; let onlyMem := s.on F.OBS_TRCCFG_PORT = false ∧ s.on F.OBS_TRCCFG_MEM = true; s.settled ∧ s.histRoom ∧ s.traceOn = true ∧ s.obs.dropped = 0 ∧ fifo = r :: rest ∧ fifo.length ≤ 256 ∧ onlyMem ∧ s.bufFull = true ∧ fifo.length < 256))
    ∧ (∃ (s : State) (err : Bool), (let onlyPort := s.on F.OBS_TRCCFG_PORT = true ∧ s.on F.OBS_TRCCFG_MEM = false; s.settled ∧ s.histRoom ∧ s.traceOn = true ∧ 0 < s.obs.dropped ∧ onlyPort)) :=
  ⟨⟨(trc [(F.OBS_TRCCFG_PORT, 1), (F.OBS_TRCCFG_MEM, 1), (F.OBS_BUFSIZE_PAGES, 1)] full 0), (traceBytes 1 2 0 4 0 5), (full.drop 1), true, by decide +kernel⟩,
   ⟨(trc [(F.OBS_TRCCFG_MEM, 1), (F.OBS_TRCCFG_WRAP, 1), (F.OBS_BUFSIZE_PAGES, 1), (F.OBS_BUFWP_INDEX, 255), (F.OBS_BUFBASE_LO_ADDR, 4096)] (full.take 2) 0), (traceBytes 1 2 0 4 0 5), ([traceBytes 1 2 0 4 0 5]), false, by decide +kernel⟩,
   ⟨(trc [(F.OBS_TRCCFG_MEM, 1), (F.OBS_BUFSIZE_PAGES, 1)] [traceBytes 1 2 0 4 0 5] 0), (traceBytes 1 2 0 4 0 5), ([]), true, by decide +kernel⟩,
   ⟨(trc [(F.OBS_TRCCFG_MEM, 1), (F.OBS_BUFSIZE_PAGES, 1), (F.OBS_BUFWP_INDEX, 256)] [traceBytes 1 2 0 4 0 5] 0), (traceBytes 1 2 0 4 0 5), ([]), false, by decide +kernel⟩,
   ⟨(trc [(F.OBS_TRCCFG_PORT, 1)] full 3), false, by decide +kernel⟩⟩

end Sys2Proof.Tests
end

