-- ==== Sys2Proof/Tests/WitGather.lean ====
section
/-! SUPPORT. Witnesses: states and operands that meet the hypotheses of each clause of the statements, clause by clause. -/

namespace Sys2Proof.Tests

open Sys2Proof Sys2Proof.Machine

set_option maxRecDepth 100000
set_option linter.unusedVariables false
set_option Elab.async false

def desc0 : Desc := { fsn := 7, stations := 1, length := 2970, rectoCrc := 5 }
def descBytes (d : Desc) : List Nat :=
  let b := leBytes 4 d.fsn ++ [d.stream, d.media] ++ leBytes 2 (d.stations * 256) ++ leBytes 4 d.sig ++ [d.outbin, 0] ++ leBytes 2 d.length ++ leBytes 4 d.coverR ++ leBytes 4 d.coverV
    ++ leBytes 8 d.rectoRef ++ leBytes 8 d.versoRef ++ leBytes 4 d.rectoCrc ++ leBytes 4 d.versoCrc ++ List.replicate 12 0
  b ++ leBytes 4 (crc32c b)
def gathRegs : List (FieldRef × Nat) :=
  [(F.GATH_CTRL_EN, 1), (F.GATH_CTRL_NBINS, 2), (F.GATH_MEDIA_B_VALID 0, 1), (F.GATH_SCFG_EN 0, 1), (F.GATH_SCFG_MAXTRY 0, 1), (F.STR_SPEED_V 0, 1000200),
   (F.TCE_QCFG_EN 0, 1), (F.TCE_QCFG_PROD 0, 1), (F.TCE_QCFG_CONS 0, 5), (F.TCE_QCFG_ESIZE 0, 2), (F.TCE_QTAIL_INDEX 0, 1),
   (F.TCE_QCFG_EN 16, 1), (F.TCE_QCFG_PROD 16, 5), (F.TCE_QCFG_LOG2N 16, 6), (F.TCE_QBASE_OFFSET 16, 64),
   (F.STR_STAT_SCAN 0, scLOCKED), (F.STR_CTRL_CALOK 0, 1), (F.STR_CTRL_EN 0, 1)]
def gathUp : State := (List.range 4).foldl (fun a k => a.setWord .JRN_UNITEP 0 k 0xFFFFFFFF) (put up gathRegs)
def fed (d : Desc) : State := let s := gathUp; s.wrBytes (s.ringAddr 0 0) (descBytes d)
def withFolios (s : State) (l : List Folio) : State := { s with gath := { s.gath with folios := l } }
def fol (st : FolioState) : Folio := { desc := desc0, st := st }
def geo : List (FieldRef × Nat) := [(F.GATH_GEOM3_D_DIV, 9000), (F.GATH_TIMING_REG_TOL, 10)]
def sewnFol (st : FolioState) (ts : Nat) : Folio := { desc := desc0, st := st, sewing := some { ts := ts, speed := 1000200, tEst := 0, confirmed := true } }
def sewReady : State :=
  { withFolios gathUp [{ fol .held with arrival := some 200000000000 }] with quire := vmod gathUp.quire 0 (fun q => { q with slots := [{ side := (0, 7, false) }, { side := (0, 7, false) }] }) }
def dupDesc : Desc := { desc0 with duplex := true }

theorem witness_Admission_1 :
    (∃ (s : State) (n : Nat), s.calm ∧ s.mayConsume n = true ∧ s.refusalCode n (s.rdBytes (s.ringAddr n (s.qhead n)) 64) (Desc.ofBytes (s.rdBytes (s.ringAddr n (s.qhead n)) 64)) = 0)
    ∧ (∃ (s : State) (n : Nat) (c : Nat), s.calm ∧ s.mayConsume n = true ∧ c ≠ 0 ∧ s.refusalCode n (s.rdBytes (s.ringAddr n (s.qhead n)) 64) (Desc.ofBytes (s.rdBytes (s.ringAddr n (s.qhead n)) 64)) = c)
    ∧ (∃ (s : State) (n : Nat) (c : Compl) (rest : (List Compl)), s.calm ∧ n < 8 ∧ (s.stream n).held = c :: rest ∧ (s.stream n).marks = [] ∧ s.canPost (16 + n) 5 = true)
    ∧ (∃ (s : State) (n : Nat) (c : Compl) (rest : (List Compl)), s.calm ∧ n < 8 ∧ (s.stream n).marks = c :: rest ∧ (s.stream n).held.length < 64 ∧ s.canPost (16 + n) 5 = false)
    ∧ (∃ (s : State) (n : Nat), s.calm ∧ n < 8 ∧ s.gath.bucketAt + msTicks ≤ s.now)
    ∧ (∃ (s : State) (c : Nat) (f : Folio) (s0 : State), s.calm ∧ s.mayChoose = true ∧ s0 = (s.setActive .GATH_FEED 0 0 (s.word .GATH_FEED 0 0)).sigJudge ∧ s.gath.waste = [] ∧ c < 8 ∧ s0.choose = some c ∧ s0.eligible c = some f)
    ∧ (∃ (s : State) (s0 : State), s.calm ∧ s.mayChoose = true ∧ s0 = (s.setActive .GATH_FEED 0 0 (s.word .GATH_FEED 0 0)).sigJudge ∧ s.gath.waste ≠ [])
    ∧ (∃ (s : State) (s0 : State), s.calm ∧ s.mayChoose = true ∧ s0 = (s.setActive .GATH_FEED 0 0 (s.word .GATH_FEED 0 0)).sigJudge ∧ s.gath.waste = [] ∧ s0.choose = none) :=
  ⟨⟨(fed desc0), 0, by decide +kernel⟩,
   ⟨(fed { desc0 with outbin := 2 }), 0, 6, by decide +kernel⟩,
   ⟨({ gathUp with gath := { gathUp.gath with streams := vmod gathUp.gath.streams 0 (fun x => { x with held := [⟨9, 3, 0, 0, false, false, 0, 5⟩] }) } }), 0, (⟨9, 3, 0, 0, false, false, 0, 5⟩), ([]), by decide +kernel⟩,
   ⟨({ gathUp with gath := { gathUp.gath with streams := vmod gathUp.gath.streams 7 (fun x => { x with marks := [⟨9, 3, 0, 0, false, false, 0, 5⟩] }) } }), 7, (⟨9, 3, 0, 0, false, false, 0, 5⟩), ([]), by decide +kernel⟩,
   ⟨(put gathUp [(F.GATH_FUS_RATE_RATE, 500), (F.GATH_FUS_DEPTH_DEPTH, 3), (F.GATH_SITE_W_POWER, 900), (F.GATH_BASE_W_POWER, 100), (F.GATH_SITE_DEPTH_DEPTH, 100)]), 7, by decide +kernel⟩,
   ⟨(withFolios gathUp [fol .accepted]), 0, (fol .accepted), (((withFolios gathUp [fol .accepted]).setActive .GATH_FEED 0 0 ((withFolios gathUp [fol .accepted]).word .GATH_FEED 0 0)).sigJudge), by decide +kernel⟩,
   ⟨({ withFolios gathUp [fol .accepted] with gath := { (withFolios gathUp [fol .accepted]).gath with waste := [2970] } }), ((({ withFolios gathUp [fol .accepted] with gath := { (withFolios gathUp [fol .accepted]).gath with waste := [2970] } }).setActive .GATH_FEED 0 0 (({ withFolios gathUp [fol .accepted] with gath := { (withFolios gathUp [fol .accepted]).gath with waste := [2970] } }).word .GATH_FEED 0 0)).sigJudge), by decide +kernel⟩,
   ⟨(withFolios gathUp []), (((withFolios gathUp []).setActive .GATH_FEED 0 0 ((withFolios gathUp []).word .GATH_FEED 0 0)).sigJudge), by decide +kernel⟩⟩

theorem witness_Admission_2 :
    (∃ (s : State) (f : Folio) (stamp : Nat), s.calm ∧ s.gath.folios.find? (fun g => g.st == .admitted && !g.desc.web) = some f ∧ s.folio? f.desc.stream f.desc.fsn = some f) :=
  ⟨(withFolios gathUp [fol .admitted]), (fol .admitted), 77, by decide +kernel⟩

theorem witness_SewingSteps :
    (∃ (s : State) (f : Folio) (ts : Nat), s.earliestSew f = some ts)
    ∧ (∃ (s : State) (st : Nat) (fsn : Nat) (f : Folio) (p : Bool) (ts : Nat), s.calm ∧ s.jrnRoom ∧ s.folio? st fsn = some f ∧ s.mayFix f p = true ∧ s.adjustGap.earliestSew f = some ts)
    ∧ (∃ (s : State) (st : Nat) (fsn : Nat) (f : Folio) (p : Bool), s.calm ∧ s.jrnRoom ∧ s.folio? st fsn = some f ∧ s.mayFix f p = true ∧ s.adjustGap.earliestSew f = none)
    ∧ (∃ (s : State) (st : Nat) (fsn : Nat) (f : Folio) (w : Sewing), s.calm ∧ s.jrnRoom ∧ s.folio? st fsn = some f ∧ f.sewing = some w ∧ w.confirmed = false ∧ (f.st = .held ∨ f.st = .admitted) ∧ w.ts ≤ s.now + msTicks)
    ∧ (∃ (s : State) (st : Nat) (fsn : Nat) (f : Folio) (w : Sewing), s.calm ∧ s.jrnRoom ∧ s.folio? st fsn = some f ∧ f.sewing = some w ∧ w.confirmed = true ∧ w.ts ≤ s.now ∧ (f.st = .held ∨ f.st = .admitted ∧ f.desc.web = true) ∧ f.abortAfter = false ∧ f.late = 0)
    ∧ (∃ (s : State) (st : Nat) (fsn : Nat) (f : Folio) (w : Sewing), s.calm ∧ s.jrnRoom ∧ s.folio? st fsn = some f ∧ st < 8 ∧ s.span + 17 < 2040 ∧ s.now < s.divPass f ∧ f.sewing = some w ∧ w.confirmed = true ∧ w.ts ≤ s.now ∧ (f.st = .held ∨ f.st = .admitted ∧ f.desc.web = true) ∧ (f.late ≠ 0 ∨ f.abortAfter = true)) :=
  ⟨⟨(withFolios gathUp [{ fol .held with arrival := some 200000000000 }]), ({ fol .held with arrival := some 200000000000 }), ((withFolios gathUp [{ fol .held with arrival := some 200000000000 }]).earliestSew { fol .held with arrival := some 200000000000 }|>.getD 0), by decide +kernel⟩,
   ⟨sewReady, 0, 7, ({ fol .held with arrival := some 200000000000 }), true, (sewReady.adjustGap.earliestSew { fol .held with arrival := some 200000000000 }|>.getD 0), by decide +kernel⟩,
   ⟨(put sewReady [(F.STR_SPEED_V 0, 0)]), 0, 7, ({ fol .held with arrival := some 200000000000 }), true, by decide +kernel⟩,
   ⟨(withFolios gathUp [{ sewnFol .held 200000250000 with sewing := some ⟨200000250000, 1000200, 0, false⟩ }]), 0, 7, ({ sewnFol .held 200000250000 with sewing := some ⟨200000250000, 1000200, 0, false⟩ }), (⟨200000250000, 1000200, 0, false⟩), by decide +kernel⟩,
   ⟨(withFolios gathUp [sewnFol .held 200000000000]), 0, 7, (sewnFol .held 200000000000), (⟨200000000000, 1000200, 0, true⟩), by decide +kernel⟩,
   ⟨(withFolios (putA gathUp geo) [{ sewnFol .held 200000000000 with late := 1 }]), 0, 7, ({ sewnFol .held 200000000000 with late := 1 }), (⟨200000000000, 1000200, 0, true⟩), by decide +kernel⟩⟩

theorem witness_FolioInPath_1 :
    (∃ (s : State) (st : Nat) (fsn : Nat) (f : Folio) (w : Sewing) (verso : Bool), s.calm ∧ s.jrnRoom ∧ s.span + 17 < 2040 ∧ s.folio? st fsn = some f ∧ f.sewing = some w ∧ f.exitOk = false ∧ st < 8 ∧ f.inPath = true ∧ f.desc.web = false ∧ (verso = true → f.desc.duplex = true) ∧ bit f.regSeen verso.toNat = false ∧ s.tSide f.desc w.speed w.ts verso + s.regTol < s.now ∧ s.now < s.divPass f)
    ∧ (∃ (s : State) (st : Nat) (fsn : Nat) (f : Folio) (w : Sewing) (k : Nat), s.calm ∧ s.jrnRoom ∧ s.span + 17 < 2040 ∧ s.folio? st fsn = some f ∧ f.sewing = some w ∧ f.exitOk = false ∧ st < 8 ∧ f.st = .sewn ∧ bit f.desc.stations k = true ∧ s.strokesOver f k false = true)
    ∧ (∃ (s : State) (st : Nat) (fsn : Nat) (f : Folio) (w : Sewing) (k : Nat), s.calm ∧ s.jrnRoom ∧ s.span + 17 < 2040 ∧ s.folio? st fsn = some f ∧ f.sewing = some w ∧ f.exitOk = false ∧ st < 8 ∧ f.st = .rectoDone ∧ f.desc.duplex = true ∧ bit f.desc.stations k = true ∧ s.strokesOver f k true = true)
    ∧ (∃ (s : State) (st : Nat) (fsn : Nat) (f : Folio) (w : Sewing) (x : Nat), s.calm ∧ s.jrnRoom ∧ s.span + 17 < 2040 ∧ s.folio? st fsn = some f ∧ f.sewing = some w ∧ f.exitOk = false ∧ st < 8 ∧ oldestWhere (fun g => g.inPath && g.sewing.isSome && !g.leadSeen && nearTo x (s.exitLead g) s.edgeTol) s.gath.folios = some f)
    ∧ (∃ (s : State) (st : Nat) (fsn : Nat) (f : Folio) (w : Sewing) (x : Nat), s.calm ∧ s.jrnRoom ∧ s.span + 17 < 2040 ∧ s.folio? st fsn = some f ∧ f.sewing = some w ∧ f.exitOk = false ∧ st < 8 ∧ oldestWhere (fun g => g.inPath && g.sewing.isSome && !g.trailSeen && nearTo x (s.exitTrail g) s.edgeTol) s.gath.folios = some f)
    ∧ (∃ (s : State) (st : Nat) (fsn : Nat) (f : Folio) (w : Sewing) (x : Nat), s.calm ∧ s.jrnRoom ∧ s.span + 17 < 2040 ∧ s.folio? st fsn = some f ∧ f.sewing = some w ∧ f.exitOk = false ∧ st < 8 ∧ (∀ g ∈ s.gath.folios, g = f ∨ g.inPath = false) ∧ f.inPath = true ∧ f.desc.web = false ∧ bit f.regSeen 0 = false ∧ w.ts ≤ x ∧ x ≤ w.ts + s.regTol)
    ∧ (∃ (s : State) (st : Nat) (fsn : Nat) (f : Folio) (w : Sewing) (x : Nat), s.calm ∧ s.jrnRoom ∧ s.span + 17 < 2040 ∧ s.folio? st fsn = some f ∧ f.sewing = some w ∧ f.exitOk = false ∧ st < 8 ∧ (∀ g ∈ s.gath.folios, g = f ∨ g.inPath = false) ∧ f.inPath = true ∧ f.desc.web = false ∧ f.desc.duplex = true ∧ bit f.regSeen 0 = true ∧ bit f.regSeen 1 = false ∧ nearTo x (s.tSide f.desc w.speed w.ts true) s.regTol = true)
    ∧ (∃ (s : State) (st : Nat) (fsn : Nat) (f : Folio) (w : Sewing) (trailing : Bool), s.calm ∧ s.jrnRoom ∧ s.span + 17 < 2040 ∧ s.folio? st fsn = some f ∧ f.sewing = some w ∧ f.exitOk = false ∧ st < 8 ∧ f.inPath = true ∧ (if trailing then f.trailSeen else f.leadSeen) = false ∧ (if trailing then s.exitTrail f else s.exitLead f) + s.edgeTol < s.now) :=
  ⟨⟨(withFolios (putA gathUp geo) [(sewnFol .sewn 199990000000)]), 0, 7, (sewnFol .sewn 199990000000), (⟨199990000000, 1000200, 0, true⟩), false, by decide +kernel⟩,
   ⟨(withFolios gathUp [(sewnFol .sewn 199000000000)]), 0, 7, (sewnFol .sewn 199000000000), (⟨199000000000, 1000200, 0, true⟩), 0, by decide +kernel⟩,
   ⟨(withFolios gathUp [({ (sewnFol .rectoDone 199000000000) with desc := dupDesc })]), 0, 7, ({ (sewnFol .rectoDone 199000000000) with desc := dupDesc }), (⟨199000000000, 1000200, 0, true⟩), 0, by decide +kernel⟩,
   ⟨(withFolios gathUp [(sewnFol .sewn 199000000000)]), 0, 7, (sewnFol .sewn 199000000000), (⟨199000000000, 1000200, 0, true⟩), ((withFolios gathUp [sewnFol .sewn 199000000000]).exitLead (sewnFol .sewn 199000000000)), by decide +kernel⟩,
   ⟨(withFolios gathUp [(sewnFol .sewn 199000000000)]), 0, 7, (sewnFol .sewn 199000000000), (⟨199000000000, 1000200, 0, true⟩), ((withFolios gathUp [sewnFol .sewn 199000000000]).exitTrail (sewnFol .sewn 199000000000)), by decide +kernel⟩,
   ⟨(withFolios (putA gathUp geo) [(sewnFol .sewn 199990000000)]), 0, 7, (sewnFol .sewn 199990000000), (⟨199990000000, 1000200, 0, true⟩), 199990025000, by decide +kernel⟩,
   ⟨(withFolios (putA gathUp geo) [({ sewnFol .sewn 199990000000 with desc := dupDesc, regSeen := 1 })]), 0, 7, ({ sewnFol .sewn 199990000000 with desc := dupDesc, regSeen := 1 }), (⟨199990000000, 1000200, 0, true⟩), ((withFolios (putA gathUp geo) []).tSide dupDesc 1000200 199990000000 true), by decide +kernel⟩,
   ⟨(withFolios gathUp [(sewnFol .sewn 190000000000)]), 0, 7, (sewnFol .sewn 190000000000), (⟨190000000000, 1000200, 0, true⟩), true, by decide +kernel⟩⟩

theorem witness_FolioInPath_2 :
    (∃ (s : State) (st : Nat) (fsn : Nat) (f : Folio) (w : Sewing), s.calm ∧ s.jrnRoom ∧ s.span + 17 < 2040 ∧ s.folio? st fsn = some f ∧ f.sewing = some w ∧ f.exitOk = false ∧ st < 8 ∧ f.st = (if f.desc.duplex then .versoDone else .rectoDone) ∧ f.leadSeen = true ∧ f.trailSeen = true ∧ f.jam = false ∧ s.exitConfirm f ≤ s.now) :=
  ⟨(withFolios gathUp [({ sewnFol .rectoDone 190000000000 with leadSeen := true, trailSeen := true })]), 0, 7, ({ sewnFol .rectoDone 190000000000 with leadSeen := true, trailSeen := true }), (⟨190000000000, 1000200, 0, true⟩), by decide +kernel⟩

theorem witness_PurgeAndPathRun :
    (∃ (s : State) (f : Folio), s.calm ∧ oldestWhere (fun g => g.st == .spoiled) s.gath.folios = some f ∧ s.folio? f.desc.stream f.desc.fsn = some f ∧ f.desc.stream < 8 ∧ s.jrnRoom)
    ∧ (∃ (s : State) (f : Folio), s.calm ∧ oldestWhere (fun g => g.st == .spoiled) s.gath.folios = some f ∧ s.folio? f.desc.stream f.desc.fsn = some f ∧ f.desc.stream < 8 ∧ s.jrnRoom)
    ∧ (∃ (s : State) (f : Folio), s.calm ∧ oldestWhere (fun g => g.st == .spoiled) s.gath.folios = some f ∧ s.folio? f.desc.stream f.desc.fsn = some f ∧ f.desc.stream < 8 ∧ s.jrnRoom)
    ∧ (∃ (s : State), s.calm ∧ s.gath.runPending = true ∧ s.inKettle = false ∧ s.speed ≠ 0)
    ∧ (∃ (s : State) (x : Nat), s.calm ∧ s.gath.runUntil = some x ∧ x ≤ s.now)
    ∧ (∃ (s : State) (full : Bool), s.settled ∧ full = true)
    ∧ (∃ (s : State) (full : Bool) (f : Folio), s.settled ∧ s.on F.FCL_STAT_KETTLE = false ∧ oldestWhere (fun g => g.st == .spoiled) s.gath.folios = some f ∧ s.exitTrail f + s.exitSettle < s.now) :=
  ⟨⟨(withFolios gathUp [{ fol .spoiled with reason := 5, attempts := 1 }]), ({ fol .spoiled with reason := 5, attempts := 1 }), by decide +kernel⟩,
   ⟨(withFolios gathUp [{ fol .spoiled with reason := 5, attempts := 2 }]), ({ fol .spoiled with reason := 5, attempts := 2 }), by decide +kernel⟩,
   ⟨(withFolios gathUp [{ fol .spoiled with reason := 5, attempts := 2, abortAfter := true }]), ({ fol .spoiled with reason := 5, attempts := 2, abortAfter := true }), by decide +kernel⟩,
   ⟨({ gathUp with gath := { gathUp.gath with runPending := true } }), by decide +kernel⟩,
   ⟨({ gathUp with gath := { gathUp.gath with runUntil := some 5 } }), 5, by decide +kernel⟩,
   ⟨gathUp, true, by decide +kernel⟩,
   ⟨(withFolios gathUp [{ sewnFol .spoiled 100 with reason := 5, attempts := 2 }]), false, ({ sewnFol .spoiled 100 with reason := 5, attempts := 2 }), by decide +kernel⟩⟩

theorem witness_StreamCommands_1 :
    (∃ (s : State) (q : Requester) (n : Nat), s.calm ∧ s.histRoom ∧ s.jrnRoom ∧ s.present q ∧ n < 8 ∧ s.streamState n = stBLOCKED ∧ precedes (s.g F.GATH_SCMDFSN_FSN) (s.g (F.GATH_SNEXT_FSN n)) = false)
    ∧ (∃ (s : State) (q : Requester) (n : Nat), s.calm ∧ s.histRoom ∧ s.jrnRoom ∧ s.present q ∧ n < 8 ∧ s.streamState n = stEXHAUST)
    ∧ (∃ (s : State) (q : Requester) (n : Nat), s.calm ∧ s.histRoom ∧ s.jrnRoom ∧ s.present q ∧ n < 8 ∧ s.span + 17 < 2040 ∧ (∃ f ∈ s.gath.folios, f.desc.stream = n ∧ f.undelivered = true ∧ f.desc.fsn = s.g F.GATH_SCMDFSN_FSN))
    ∧ (∃ (s : State) (q : Requester) (n : Nat), s.calm ∧ s.histRoom ∧ s.jrnRoom ∧ s.present q ∧ n < 8 ∧ s.span + 17 < 2040 ∧ s.g F.GATH_SCMDFSN_FSN ∈ (s.stream n).awaiting)
    ∧ (∃ (s : State) (q : Requester) (n : Nat) (f : Folio), s.calm ∧ s.histRoom ∧ s.jrnRoom ∧ s.present q ∧ n < 8 ∧ s.gath.folios = [f] ∧ f.desc.stream = n ∧ f.st = .accepted ∧ s.g F.GATH_SCMDFSN_FSN = f.desc.fsn ∧ (s.stream n).awaiting = [])
    ∧ (∃ (s : State) (q : Requester) (n : Nat), s.calm ∧ s.histRoom ∧ s.jrnRoom ∧ s.present q ∧ n < 8 ∧ s.streamState n = stSTRAND ∧ s.strandedFsn n = some (s.g F.GATH_SCMDFSN_FSN))
    ∧ (∃ (s : State) (q : Requester) (n : Nat), s.calm ∧ s.histRoom ∧ s.jrnRoom ∧ s.present q ∧ n < 8 ∧ s.streamState n = stSTRAND ∧ s.strandedFsn n = some (s.g F.GATH_SCMDFSN_FSN))
    ∧ (∃ (s : State) (q : Requester) (n : Nat) (c : Instr), s.calm ∧ s.histRoom ∧ s.jrnRoom ∧ s.present q ∧ n < 8 ∧ c = .scmdContinue q n ∧ s.streamState n ≠ stBLOCKED) :=
  ⟨⟨(put gathUp [(F.GATH_SSTAT_STATE 7, stBLOCKED), (F.GATH_SCMDFSN_FSN, 12)]), (.host 0), 7, by decide +kernel⟩,
   ⟨(withFolios (put gathUp [(F.GATH_SSTAT_STATE 0, stEXHAUST)]) [{ fol .exhausted with attempts := 3 }]), (.host 0), 0, by decide +kernel⟩,
   ⟨(withFolios (put gathUp [(F.GATH_SCMDFSN_FSN, 7)]) [fol .accepted]), (.host 0), 0, by decide +kernel⟩,
   ⟨({ put gathUp [(F.GATH_SCMDFSN_FSN, 7)] with gath := { gathUp.gath with streams := vmod gathUp.gath.streams 3 (fun x => { x with awaiting := [6, 7] }) } }), (.host 0), 3, by decide +kernel⟩,
   ⟨(withFolios (put gathUp [(F.GATH_SCMDFSN_FSN, 7)]) [fol .accepted]), (.host 0), 0, (fol .accepted), by decide +kernel⟩,
   ⟨(withFolios (put gathUp [(F.GATH_SCMDFSN_FSN, 7), (F.GATH_SSTAT_STATE 0, stSTRAND)]) [fol .stranded]), (.host 0), 0, by decide +kernel⟩,
   ⟨(withFolios (put gathUp [(F.GATH_SCMDFSN_FSN, 7), (F.GATH_SSTAT_STATE 0, stSTRAND)]) [fol .stranded]), (.host 0), 0, by decide +kernel⟩,
   ⟨gathUp, (.host 0), 7, (.scmdContinue (.host 0) 7), by decide +kernel⟩⟩

theorem witness_StreamCommands_2 :
    (∃ (s : State) (q : Requester) (n : Nat) (c : Instr), s.calm ∧ s.histRoom ∧ s.jrnRoom ∧ s.present q ∧ n < 8 ∧ c = .scmdRetry q n ∧ s.streamState n ≠ stEXHAUST)
    ∧ (∃ (s : State) (q : Requester) (n : Nat) (c : Instr), s.calm ∧ s.histRoom ∧ s.jrnRoom ∧ s.present q ∧ n < 8 ∧ c = .scmdOperatorRemoved q n ∧ s.strandedFsn n ≠ some (s.g F.GATH_SCMDFSN_FSN)) :=
  ⟨⟨gathUp, (.host 0), 7, (.scmdRetry (.host 0) 7), by decide +kernel⟩,
   ⟨(put gathUp [(F.GATH_SSTAT_STATE 0, stSTRAND)]), (.host 0), 0, (.scmdOperatorRemoved (.host 0) 0), by decide +kernel⟩⟩

theorem witness_GathControlAndWeb_1 :
    (∃ (s : State) (q : Requester) (v : Nat), s.calm ∧ s.histRoom ∧ s.present q ∧ v < 2 ^ 31 ∧ bits v 6 4 ≠ 0 ∧ (bit v 1 = s.on F.GATH_CTRL_WEB ∨ s.anyLive = false))
    ∧ (∃ (s : State) (q : Requester) (v : Nat), s.calm ∧ s.histRoom ∧ s.present q ∧ v < 2 ^ 31 ∧ bits v 6 4 ≠ 0 ∧ bit v 1 ≠ s.on F.GATH_CTRL_WEB ∧ s.anyLive = true)
    ∧ (∃ (s : State) (q : Requester) (v : Nat), s.calm ∧ s.histRoom ∧ s.present q ∧ v < 2 ^ 31 ∧ bits v 6 4 = 0)
    ∧ (∃ (s : State) (q : Requester) (v : Nat), s.calm ∧ s.histRoom ∧ s.present q ∧ bit v 31 = true)
    ∧ (∃ (s : State) (q : Requester) (v : Nat), s.calm ∧ s.histRoom ∧ s.present q ∧ s.gathIdle = false)
    ∧ (∃ (s : State) (q : Requester) (v : Nat), s.calm ∧ s.histRoom ∧ s.present q ∧ s.gathIdle = true)
    ∧ (∃ (s : State) (x : Nat), s.settled ∧ s.on F.GATH_CTRL_WEB = true)
    ∧ (∃ (s : State) (b : Nat), s.settled ∧ s.on F.GATH_CTRL_WEB = true ∧ s.g F.GATH_WEB_BLANKMAX < b ∧ (∀ f ∈ s.gath.folios, (f.inPath = true → f.exitOk = true) ∧ ¬(f.desc.web = true ∧ f.sewing.isSome = true ∧ f.st = .admitted))) :=
  ⟨⟨gathUp, (.core 7), 0x72, by decide +kernel⟩,
   ⟨(withFolios gathUp [fol .accepted]), (.core 7), 0x72, by decide +kernel⟩,
   ⟨gathUp, (.core 7), 0x3, by decide +kernel⟩,
   ⟨gathUp, (.core 7), 0x80000000, by decide +kernel⟩,
   ⟨gathUp, (.core 7), 0, by decide +kernel⟩,
   ⟨(put gathUp [(F.GATH_CTRL_EN, 0), (F.GATH_SNEXT_FSN 3, 99)]), (.core 7), 0, by decide +kernel⟩,
   ⟨(put gathUp [(F.GATH_CTRL_WEB, 1)]), 7, by decide +kernel⟩,
   ⟨(put gathUp [(F.GATH_CTRL_WEB, 1)]), 2000000, by decide +kernel⟩⟩

theorem witness_GathControlAndWeb_2 :
    (∃ (s : State), s.settled ∧ s.gath.webStopped = true) :=
  ⟨({ put gathUp [(F.GATH_CTRL_WEB, 1)] with gath := { gathUp.gath with webStopped := true } }), by decide +kernel⟩

def strUp (l : List (FieldRef × Nat)) : State := put up ([(F.STR_CTRL_EN 0, 1), (F.SYN_STAT_STATE 2, 2)] ++ l)
def strSt (k : Nat) (s : State) (f : Str → Str) : State := { s with str := vmod s.str k f }
def synSt (n : Nat) (s : State) (f : Syn → Syn) : State := { s with syn := vmod s.syn n f }
def ramp (s : State) : State := synSt 2 s (fun y => { y with fore0 := ⟨1600000000, 3200000, [4096 * 2 ^ 32, 8191 * 2 ^ 32]⟩, nextOfs := some 33 })

theorem witness_ScannerStartAndFaults :
    (∃ (s : State) (k : Nat) (q : Requester) (v : Nat), s.plain ∧ k < s.blockCount .STR ∧ s.present q ∧ s.on (F.STR_CTRL_EN k) = false ∧ bits v 31 30 = 0 ∧ (bit v 29 = true → s.ownsAll q (motSlices (s.g (F.STR_POLY_MOT k))) (motSlots (s.g (F.STR_POLY_MOT k))) (motPads (s.g (F.STR_POLY_MOT k))) = true) ∧ (bit v 2 = true → ∀ f ∈ s.gath.folios, f.st ≠ .spoiled) ∧ (bit v 20 = true → s.on (F.STR_CTRL_LDFLTEN k) = true) ∧ (∀ i ∈ vidPads k, s.owned (padRid i) = true → s.owns q (padRid i) = true))
    ∧ (∃ (s : State) (k : Nat) (q : Requester) (v : Nat), s.plain ∧ k < s.blockCount .STR ∧ s.present q ∧ s.on (F.STR_CTRL_EN k) = false ∧ bits v 31 30 = 0 ∧ (bit v 29 = true → s.ownsAll q (motSlices (s.g (F.STR_POLY_MOT k))) (motSlots (s.g (F.STR_POLY_MOT k))) (motPads (s.g (F.STR_POLY_MOT k))) = true) ∧ (bit v 2 = true → ∀ f ∈ s.gath.folios, f.st ≠ .spoiled) ∧ (bit v 20 = true → s.on (F.STR_CTRL_LDFLTEN k) = true) ∧ (∀ i ∈ vidPads k, s.owned (padRid i) = true → s.owns q (padRid i) = true))
    ∧ (∃ (s : State) (k : Nat), s.plain ∧ k < s.blockCount .STR ∧ s.scan k = scSWEEP ∧ s.sweepFreq k ≤ 1000 * (s.g (F.STR_SCAN_FSWEEP k) - s.g (F.STR_SCAN_SWSPAN k)))
    ∧ (∃ (s : State) (k : Nat), s.plain ∧ k < s.blockCount .STR ∧ s.scan k = scCAPTURE ∧ (s.st k).since + 500000000 ≤ s.now)
    ∧ (∃ (s : State) (k : Nat) (ma : Nat), s.plain ∧ k < s.blockCount .STR ∧ ma < 4096 ∧ s.on (F.STR_CTRL_EN k) = true ∧ s.scan k ≠ scFAULT ∧ ((ma < 20 ∧ 16 < s.g (F.STR_DRIVE_LEVEL k)) ∨ 3000 < ma))
    ∧ (∃ (s : State) (k : Nat) (ma : Nat), s.plain ∧ k < s.blockCount .STR ∧ ma < 4096 ∧ s.on (F.STR_CTRL_EN k) = true ∧ s.scan k ≠ scFAULT ∧ ((ma < 20 ∧ 16 < s.g (F.STR_DRIVE_LEVEL k)) ∨ 3000 < ma))
    ∧ (∃ (s : State) (k : Nat) (ma : Nat), s.plain ∧ k < s.blockCount .STR ∧ ma < 4096 ∧ s.on (F.STR_CTRL_EN k) = true ∧ (s.scan k = scFAULT ∨ (20 ≤ ma ∨ s.g (F.STR_DRIVE_LEVEL k) ≤ 16) ∧ ma ≤ 3000)) :=
  ⟨⟨(put up [(F.SYN_STAT_STATE 2, 2)]), 0, (.core 1), 1, by decide +kernel⟩,
   ⟨(strSt 3 (put { up with claims := (motSlices 0).map (fun i => (sliceRid i, ⟨3, 1⟩)) ++ (motSlots 0).map (fun i => (adcRid i, ⟨3, 1⟩)) ++ (motPads 0).map (fun i => (padRid i, ⟨3, 1⟩)) } [(F.SYN_STAT_STATE 5, 2), (F.MOT_STAT_SLOCK 0, 1)]) (fun x => x)), 3, (.core 1), (2 ^ 29 + 1), by decide +kernel⟩,
   ⟨(strUp [(F.STR_STAT_SCAN 0, scSWEEP)]), 0, by decide +kernel⟩,
   ⟨(strUp [(F.STR_STAT_SCAN 0, scCAPTURE)]), 0, by decide +kernel⟩,
   ⟨(strUp [(F.STR_DRIVE_LEVEL 0, 17), (F.STR_STAT_SCAN 0, scLOCKED)]), 0, 19, by decide +kernel⟩,
   ⟨(strUp []), 0, 4095, by decide +kernel⟩,
   ⟨(strUp [(F.STR_DRIVE_LEVEL 0, 17)]), 0, 3000, by decide +kernel⟩⟩

theorem witness_BeamDetectAndLock_1 :
    (∃ (s : State) (k : Nat) (far : Bool) (c : Nat), s.plain ∧ k < s.blockCount .STR ∧ s.on (F.STR_CTRL_EN k) = true ∧ (k = s.pace → ∀ n, n < 4 → n ≠ k → s.scan n ≠ scLOCKED) ∧ s.polygon k = false ∧ s.apcMasked k (c + s.g (F.STR_BD_BDLAT k)) = false ∧ (s.scan k = scSWEEP ∨ s.scan k = scCAPTURE ∧ (∀ p ∈ s.predEdge k far true, distN c p ≤ s.bdTol k) ∨ s.scan k = scLOCKED ∧ s.nextTurn k = (far, true) ∧ ∃ p ∈ s.predEdge k far true, distN c p ≤ s.bdTol k ∧ distN c p ≤ s.bdWin k))
    ∧ (∃ (s : State) (k : Nat) (far : Bool) (c : Nat), s.plain ∧ k < s.blockCount .STR ∧ s.on (F.STR_CTRL_EN k) = true ∧ (k = s.pace → ∀ n, n < 4 → n ≠ k → s.scan n ≠ scLOCKED) ∧ s.polygon k = false ∧ s.apcMasked k (c + s.g (F.STR_BD_BDLAT k)) = false ∧ (s.scan k = scSWEEP ∨ s.scan k = scCAPTURE ∧ (∀ p ∈ s.predEdge k far true, distN c p ≤ s.bdTol k) ∨ s.scan k = scLOCKED ∧ s.nextTurn k = (far, true) ∧ ∃ p ∈ s.predEdge k far true, distN c p ≤ s.bdTol k ∧ distN c p ≤ s.bdWin k))
    ∧ (∃ (s : State) (k : Nat) (far : Bool) (o : Nat) (c : Nat) (te : Nat), s.plain ∧ k < s.blockCount .STR ∧ s.on (F.STR_CTRL_EN k) = true ∧ (k = s.pace → ∀ n, n < 4 → n ≠ k → s.scan n ≠ scLOCKED) ∧ s.polygon k = false ∧ s.apcMasked k (c + s.g (F.STR_BD_BDLAT k)) = false ∧ (s.st k).turning = true ∧ (s.st k).farEnd = far ∧ (s.st k).missed = false ∧ (s.st k).outEdge = some o ∧ o < c ∧ (s.scan k = scSWEEP ∨ s.scan k = scCAPTURE ∧ (∀ p ∈ s.predEdge k far false, distN c p ≤ s.bdTol k) ∨ s.scan k = scLOCKED ∧ ∃ p ∈ s.predEdge k far false, distN c p ≤ s.bdTol k ∧ distN c p ≤ s.bdWin k) ∧ te = (match (if far then (s.st k).turnB else (s.st k).turnA) with | some t0 => if t0 < (o + c) / 2 then (if s.tEst k = 0 then (o + c) / 2 - t0 else ((s.tEst k : Int) + (((o + c) / 2 - t0 : Nat) - (s.tEst k : Int)) / 8).toNat) else s.tEst k | none => s.tEst k) ∧ ((if far then (s.st k).turnB else (s.st k).turnA) = none ∨ te * 2400 ≤ 16000000000 ∧ 16000000000 ≤ te * 3600))
    ∧ (∃ (s : State) (k : Nat) (far : Bool) (o : Nat) (c : Nat) (te : Nat), s.plain ∧ k < s.blockCount .STR ∧ s.on (F.STR_CTRL_EN k) = true ∧ (k = s.pace → ∀ n, n < 4 → n ≠ k → s.scan n ≠ scLOCKED) ∧ s.polygon k = false ∧ s.apcMasked k (c + s.g (F.STR_BD_BDLAT k)) = false ∧ (s.st k).turning = true ∧ (s.st k).farEnd = far ∧ (s.st k).missed = false ∧ (s.st k).outEdge = some o ∧ o < c ∧ (s.scan k = scSWEEP ∨ s.scan k = scCAPTURE ∧ (∀ p ∈ s.predEdge k far false, distN c p ≤ s.bdTol k) ∨ s.scan k = scLOCKED ∧ ∃ p ∈ s.predEdge k far false, distN c p ≤ s.bdTol k ∧ distN c p ≤ s.bdWin k) ∧ te = (match (if far then (s.st k).turnB else (s.st k).turnA) with | some t0 => if t0 < (o + c) / 2 then (if s.tEst k = 0 then (o + c) / 2 - t0 else ((s.tEst k : Int) + (((o + c) / 2 - t0 : Nat) - (s.tEst k : Int)) / 8).toNat) else s.tEst k | none => s.tEst k) ∧ ((if far then (s.st k).turnB else (s.st k).turnA) = none ∨ te * 2400 ≤ 16000000000 ∧ 16000000000 ≤ te * 3600))
    ∧ (∃ (s : State) (k : Nat) (far : Bool), s.plain ∧ k < s.blockCount .STR ∧ s.on (F.STR_CTRL_EN k) = true ∧ (k = s.pace → ∀ n, n < 4 → n ≠ k → s.scan n ≠ scLOCKED) ∧ (s.nextTurn k).1 = far ∧ s.windowOver k = true ∧ (s.st k).missed = false ∧ (s.st k).side = none ∧ (s.scan k = scCAPTURE ∨ s.scan k = scLOCKED) ∧ s.polygon k = false)
    ∧ (∃ (s : State) (k : Nat) (far : Bool), s.plain ∧ k < s.blockCount .STR ∧ s.on (F.STR_CTRL_EN k) = true ∧ (k = s.pace → ∀ n, n < 4 → n ≠ k → s.scan n ≠ scLOCKED) ∧ (s.nextTurn k).1 = far ∧ s.windowOver k = true ∧ (s.st k).missed = false ∧ (s.st k).side = none ∧ (s.scan k = scCAPTURE ∨ s.scan k = scLOCKED) ∧ s.polygon k = false)
    ∧ (∃ (s : State) (k : Nat) (far : Bool), s.plain ∧ k < s.blockCount .STR ∧ s.on (F.STR_CTRL_EN k) = true ∧ (k = s.pace → ∀ n, n < 4 → n ≠ k → s.scan n ≠ scLOCKED) ∧ (s.nextTurn k).1 = far ∧ s.windowOver k = true ∧ s.scan k = scCOAST ∧ s.polygon k = false)
    ∧ (∃ (s : State) (k : Nat), s.plain ∧ k < s.blockCount .STR ∧ s.on (F.STR_CTRL_EN k) = true ∧ (k = s.pace → ∀ n, n < 4 → n ≠ k → s.scan n ≠ scLOCKED) ∧ s.polygon k = false ∧ (s.scan k = scCAPTURE ∨ s.scan k = scLOCKED) ∧ (s.st k).ampDue = true ∧ (s.st k).pull < 63) :=
  ⟨⟨(strUp [(F.STR_STAT_SCAN 0, scSWEEP)]), 0, true, 5000, by decide +kernel⟩,
   ⟨(strSt 3 (put up [(F.STR_CTRL_EN 3, 1), (F.STR_STAT_SCAN 3, scLOCKED), (F.STR_PERIOD_T_EST 3, 5000000), (F.STR_BD_BDWIN 3, 10), (F.STR_BD_BDTOL 3, 20)]) (fun x => { x with turnA := some 199995500080, interval := 1000000 })), 3, true, 199997500280, by decide +kernel⟩,
   ⟨(strSt 3 (put up [(F.STR_CTRL_EN 3, 1), (F.STR_STAT_SCAN 3, scCAPTURE), (F.STR_PERIOD_T_EST 3, 5000000), (F.STR_BD_BDLAT 3, 7)]) (fun x => { x with outEdge := some 200000000000, turning := true, turnA := some 199995500080 })), 3, false, 200000000000, 200001000000, 4999990, by decide +kernel⟩,
   ⟨(strUp [(F.STR_STAT_SCAN 0, scSWEEP)] |> fun s => strSt 0 s (fun x => { x with outEdge := some 200000000000, turning := true, farEnd := true, pairs := 3 })), 0, true, 200000000000, 200001000000, 0, by decide +kernel⟩,
   ⟨(strSt 3 (put up [(F.STR_CTRL_EN 3, 1), (F.STR_STAT_SCAN 3, scLOCKED), (F.STR_BDSTAT_MISSCNT 3, 0xFFFF), (F.STR_PERIOD_T_EST 3, 5000000)]) (fun x => { x with turnA := some 199995500080 })), 3, true, by decide +kernel⟩,
   ⟨(strSt 3 (put up [(F.STR_CTRL_EN 3, 1), (F.STR_STAT_SCAN 3, scLOCKED), (F.STR_BDSTAT_CONSEC 3, 255), (F.STR_PERIOD_T_EST 3, 5000000)]) (fun x => { x with turnA := some 199995500080, turning := true, farEnd := true })), 3, true, by decide +kernel⟩,
   ⟨(strSt 3 (put up [(F.STR_CTRL_EN 3, 1), (F.STR_STAT_SCAN 3, scCOAST), (F.STR_PERIOD_T_EST 3, 5000000)]) (fun x => { x with turnA := some 199995500080, turning := true, farEnd := true })), 3, true, by decide +kernel⟩,
   ⟨(strSt 3 (put up [(F.STR_CTRL_EN 3, 1), (F.STR_STAT_SCAN 3, scCAPTURE), (F.STR_AMP_RHO_SET 3, 300), (F.STR_AMP_RHOTOL 3, 4), (F.STR_AMP_DRVMAX 3, 900)]) (fun x => { x with rho := 296, clean := 63, acc := 5000, ampDue := true, pull := 62 })), 3, by decide +kernel⟩⟩

theorem witness_BeamDetectAndLock_2 :
    (∃ (s : State) (k : Nat), s.plain ∧ k < s.blockCount .STR ∧ s.on (F.STR_CTRL_EN k) = true ∧ (k = s.pace → ∀ n, n < 4 → n ≠ k → s.scan n ≠ scLOCKED) ∧ s.polygon k = false ∧ (s.scan k = scCAPTURE ∨ s.scan k = scLOCKED) ∧ (s.st k).ampDue = true ∧ k ≠ s.pace ∧ 63 ≤ (s.st k).pull ∧ clampI 0 (s.g (F.STR_AMP_DRVMAX k) : Int) (((s.st k).acc + 17 * ((s.g (F.STR_AMP_RHO_SET k) : Int) - (s.st k).rho)) / 64) = (s.g (F.STR_AMP_DRVMAX k) : Int) ∧ (s.st k).rho + s.g (F.STR_AMP_RHOTOL k) < s.g (F.STR_AMP_RHO_SET k)) :=
  ⟨(strSt 3 (put up [(F.STR_CTRL_EN 3, 1), (F.STR_STAT_SCAN 3, scCAPTURE), (F.STR_AMP_RHO_SET 3, 300), (F.STR_AMP_RHOTOL 3, 4), (F.STR_AMP_DRVMAX 3, 9)]) (fun x => { x with rho := 29, clean := 63, acc := 5000, ampDue := true, pull := 63 })), 3, by decide +kernel⟩

theorem witness_Lasers_1 :
    (∃ (s : State) (n : Nat) (k : Nat) (x : Nat) (a : Nat) (b : Nat), s.plain ∧ n < s.blockCount .STR ∧ k < 8 ∧ x < 4096 ∧ bit (s.g (F.STR_APC_ENMASK n)) k = true ∧ s.on (F.STR_CTRL_EN n) = true ∧ (s.st n).apcDone = apcOrder (s.g (F.STR_APC_ENMASK n)) k ∧ s.apcSpan n k = some (a, b) ∧ s.apcFits n k = true ∧ b ≤ 64 * s.now)
    ∧ (∃ (s : State) (n : Nat) (k : Nat) (x : Nat) (a : Nat) (b : Nat), s.plain ∧ n < s.blockCount .STR ∧ k < 8 ∧ x < 4096 ∧ bit (s.g (F.STR_APC_ENMASK n)) k = true ∧ s.on (F.STR_CTRL_EN n) = true ∧ (s.st n).apcDone = apcOrder (s.g (F.STR_APC_ENMASK n)) k ∧ s.apcSpan n k = some (a, b) ∧ s.apcFits n k = false ∧ a ≤ 64 * s.now)
    ∧ (∃ (s : State) (n : Nat) (k : Nat) (q : Requester) (v : Nat), s.plain ∧ n < s.blockCount .STR ∧ k < 8 ∧ s.present q ∧ 1 ≤ bits v 27 24 ∧ bits v 27 24 ≤ 3 ∧ s.on (F.STR_LDCMD_PEND n k) = false)
    ∧ (∃ (s : State) (n : Nat) (k : Nat) (q : Requester) (v : Nat), s.plain ∧ n < s.blockCount .STR ∧ k < 8 ∧ s.present q ∧ 1 ≤ bits v 27 24 ∧ bits v 27 24 ≤ 3 ∧ s.on (F.STR_LDCMD_PEND n k) = true)
    ∧ (∃ (s : State) (n : Nat) (k : Nat) (q : Requester) (v : Nat), s.plain ∧ n < s.blockCount .STR ∧ k < 8 ∧ s.present q ∧ (bits v 27 24 = 0 ∨ 4 ≤ bits v 27 24))
    ∧ (∃ (s : State) (n : Nat) (k : Nat), s.plain ∧ n < s.blockCount .STR ∧ k < 8 ∧ s.frameTime n = true ∧ (s.st n).framed = false ∧ s.on (F.STR_LDCMD_PEND n k) = true)
    ∧ (∃ (s : State) (k : Nat), s.plain ∧ k < s.blockCount .STR ∧ s.on (F.STR_CTRL_LDFLTEN k) = true ∧ s.driverFault k = false)
    ∧ (∃ (s : State) (k : Nat), s.plain ∧ k < s.blockCount .STR ∧ s.on (F.STR_CTRL_LDFLTEN k) = true ∧ s.driverFault k = false) :=
  ⟨⟨(strSt 3 (put up [(F.STR_CTRL_EN 3, 1), (F.STR_APC_ENMASK 3, 0x81), (F.STR_APC_SLOT 3, 10)]) (fun x => { x with interval := 1000000, apcFrom := some 500, apcDone := 1, test := [(7, 99)] })), 3, 7, 4095, 35700, 38900, by decide +kernel⟩,
   ⟨(strSt 3 (put up [(F.STR_CTRL_EN 3, 1), (F.STR_APC_ENMASK 3, 0x81), (F.STR_APC_SLOT 3, 10)]) (fun x => { x with apcFrom := some 500, apcDone := 1 })), 3, 7, 4095, 35700, 38900, by decide +kernel⟩,
   ⟨(strUp []), 0, 7, (.core 1), 0x3FFF000, by decide +kernel⟩,
   ⟨(strUp [(F.STR_LDCMD_PEND 0 7, 1)]), 0, 7, (.core 1), 0x1FFF000, by decide +kernel⟩,
   ⟨(strUp [(F.STR_LDCMD_PEND 0 7, 1)]), 0, 7, (.core 1), 0x4FFF000, by decide +kernel⟩,
   ⟨(strSt 0 (strUp [(F.STR_LDCMD_PEND 0 7, 1), (F.STR_LDCMD_CMD 0 7, 3), (F.STR_LDCMD_VALUE 0 7, 0xABC)]) (fun x => { x with apcFrom := some 5 })), 0, 7, by decide +kernel⟩,
   ⟨(strUp [(F.STR_CTRL_LDFLTEN 0, 1), (F.STR_CTRL_LDFLT 0, 31), (F.STR_STAT_SCAN 0, scCAPTURE)]), 0, by decide +kernel⟩,
   ⟨(strUp [(F.STR_CTRL_LDFLTEN 0, 1), (F.STR_CTRL_LDFLT 0, 31), (F.STR_STAT_SCAN 0, scLOCKED)]), 0, by decide +kernel⟩⟩

theorem witness_Lasers_2 :
    (∃ (s : State) (k : Nat) (b : Bool), s.plain ∧ k < s.blockCount .STR ∧ b = false ∨ (∀ n, n < 4 → s.on (F.STR_CTRL_LDFLTEN n) = false))
    ∧ (∃ (s : State) (k : Nat), s.plain ∧ k < s.blockCount .STR ∧ s.on (F.STR_STAT_LASER_DIS k) = true ∧ (s.st k).thermal = false ∧ s.driverFault k = false ∧ s.on F.FCL_STAT_KETTLE = false)
    ∧ (∃ (s : State) (k : Nat), s.plain ∧ k < s.blockCount .STR ∧ (s.st k).thermal = true ∨ s.driverFault k = true ∨ s.on F.FCL_STAT_KETTLE = true)
    ∧ (∃ (s : State) (k : Nat) (q : Requester) (on : Bool), s.plain ∧ k < s.blockCount .STR ∧ s.present q ∧ bits (s.word .STR_CTRL k 0) 31 30 = 0 ∧ (on = true → ∀ f ∈ s.gath.folios, f.st ≠ .spoiled))
    ∧ (∃ (s : State) (k : Nat) (q : Requester) (on : Bool), s.plain ∧ k < s.blockCount .STR ∧ s.present q ∧ bits (s.word .STR_CTRL k 0) 31 30 = 0 ∧ (on = true → ∀ f ∈ s.gath.folios, f.st ≠ .spoiled))
    ∧ (∃ (s : State) (k : Nat) (q : Requester) (x : Nat), s.plain ∧ k < s.blockCount .STR ∧ s.present q ∧ x < 2 ^ 64 ∧ s.on (F.STR_CALN_BUSY k) = false ∧ s.on (F.STR_CTRL_CALRUN k) = true)
    ∧ (∃ (s : State) (k : Nat) (q : Requester) (x : Nat), s.plain ∧ k < s.blockCount .STR ∧ s.present q ∧ (s.on (F.STR_CTRL_CALRUN k) = false ∨ s.on (F.STR_CALN_BUSY k) = true))
    ∧ (∃ (s : State) (k : Nat), s.plain ∧ k < s.blockCount .STR ∧ s.on (F.STR_CALN_BUSY k) = true ∧ (s.st k).calLeft = 0) :=
  ⟨⟨(strUp [(F.STR_CTRL_LDFLTEN 0, 1), (F.STR_CTRL_LDFLT 0, 31)]), 0, false, by decide +kernel⟩,
   ⟨(strUp [(F.STR_STAT_LASER_DIS 0, 1), (F.STR_STAT_SCAN 0, scCOAST)]), 0, by decide +kernel⟩,
   ⟨(strSt 0 (strUp [(F.STR_STAT_LASER_DIS 0, 1)]) (fun x => { x with thermal := true })), 0, by decide +kernel⟩,
   ⟨(strUp []), 0, (.host 1), true, by decide +kernel⟩,
   ⟨(strUp [(F.STR_CTRL_CALRUN 0, 1)]), 0, (.host 1), false, by decide +kernel⟩,
   ⟨(strUp [(F.STR_CTRL_CALRUN 0, 1), (F.STR_CALN_COUNT 0, 9)]), 0, (.host 1), (2 ^ 64 - 1), by decide +kernel⟩,
   ⟨(strUp []), 0, (.host 1), 7, by decide +kernel⟩,
   ⟨(strUp [(F.STR_CALN_BUSY 0, 1)]), 0, by decide +kernel⟩⟩

theorem witness_Synthesisers_1 :
    (∃ (s : State) (n : Nat) (q : Requester), s.plain ∧ n < s.blockCount .SYN ∧ s.present q ∧ 2 ≤ n)
    ∧ (∃ (s : State) (n : Nat) (q : Requester), s.plain ∧ n < s.blockCount .SYN ∧ s.present q ∧ 2 ≤ n ∧ s.on (F.STR_CTRL_EN (n - 2)) = false)
    ∧ (∃ (s : State) (n : Nat) (q : Requester), s.plain ∧ n < s.blockCount .SYN ∧ s.present q ∧ 2 ≤ n ∧ s.on (F.STR_CTRL_EN (n - 2)) = true)
    ∧ (∃ (s : State) (n : Nat) (q : Requester) (b : Bool), s.plain ∧ n < s.blockCount .SYN ∧ s.present q ∧ n < 2)
    ∧ (∃ (s : State) (n : Nat), s.plain ∧ n < s.blockCount .SYN ∧ s.synState 0 = syACQUIRE)
    ∧ (∃ (s : State) (n : Nat), s.plain ∧ n < s.blockCount .SYN ∧ 1 ≤ n ∧ (s.synState n = syACQUIRE ∨ s.synState n = syHOLD))
    ∧ (∃ (s : State) (n : Nat), s.plain ∧ n < s.blockCount .SYN ∧ 1 ≤ n ∧ (s.synState n = syACQUIRE ∨ s.synState n = syHOLD))
    ∧ (∃ (s : State) (n : Nat), s.plain ∧ n < s.blockCount .SYN ∧ s.synState n = syLOCKED) :=
  ⟨⟨up, 5, (.core 1), by decide +kernel⟩,
   ⟨(put up [(F.SYN_STAT_STATE 5, 3), (F.CORD_STAT_VID_OK, 15)]), 5, (.core 1), by decide +kernel⟩,
   ⟨(strUp []), 2, (.core 1), by decide +kernel⟩,
   ⟨up, 1, (.core 1), false, by decide +kernel⟩,
   ⟨(put up [(F.SYN_STAT_STATE 0, syACQUIRE)]), 5, by decide +kernel⟩,
   ⟨(put up [(F.SYN_STAT_STATE 5, syHOLD), (F.STR_CTRL_EN 3, 1)]), 5, by decide +kernel⟩,
   ⟨(put up [(F.SYN_STAT_STATE 1, syACQUIRE)]), 1, by decide +kernel⟩,
   ⟨(put up [(F.SYN_STAT_STATE 5, 2), (F.SYN_STAT_LOSSCNT 5, 255)]), 5, by decide +kernel⟩⟩

theorem witness_Synthesisers_2 :
    (∃ (s : State) (n : Nat), s.plain ∧ n < s.blockCount .SYN ∧ s.synState n = syLOCKED)
    ∧ (∃ (s : State) (n : Nat) (m : Nat) (cause : Nat), s.plain ∧ n < s.blockCount .SYN ∧ (cause = 2 ∨ cause = 3) ∧ s.synState n = syLOCKED)
    ∧ (∃ (s : State) (n : Nat) (x : Nat), s.plain ∧ n < s.blockCount .SYN ∧ x < 160 ∧ 2 ≤ n ∧ s.synState n = syLOCKED ∧ s.on (F.SYN_ALIGN_VALID n) = false)
    ∧ (∃ (s : State) (n : Nat) (x : Nat), s.plain ∧ n < s.blockCount .SYN ∧ x < 160 ∧ 2 ≤ n ∧ s.synState n = syLOCKED ∧ s.on (F.SYN_ALIGN_VALID n) = true)
    ∧ (∃ (s : State) (n : Nat) (x : Nat), s.plain ∧ n < s.blockCount .SYN ∧ x < 160 ∧ 2 ≤ n ∧ s.synState n = syLOCKED ∧ s.on (F.SYN_ALIGN_VALID n) = true)
    ∧ (∃ (s : State) (n : Nat) (v : Nat), s.plain ∧ n < s.blockCount .SYN ∧ 2 ≤ n) :=
  ⟨⟨(put up [(F.SYN_STAT_STATE 1, 2)]), 1, by decide +kernel⟩,
   ⟨(put up [(F.SYN_STAT_STATE 5, 2)]), 5, 0, 2, by decide +kernel⟩,
   ⟨(put up [(F.SYN_STAT_STATE 5, 2)]), 5, 159, by decide +kernel⟩,
   ⟨(put up [(F.SYN_STAT_STATE 5, 2), (F.SYN_ALIGN_VALID 5, 1), (F.SYN_ALIGN_OFS 5, 5)]), 5, 159, by decide +kernel⟩,
   ⟨(put up [(F.SYN_STAT_STATE 5, 2), (F.SYN_ALIGN_VALID 5, 1), (F.SYN_ALIGN_OFS 5, 3)]), 5, 159, by decide +kernel⟩,
   ⟨(putA up [(F.SYN_CKO_DIV 0 0, 40), (F.SYN_CKO_DIV 0 1, 33)]), 2, 3, by decide +kernel⟩⟩

theorem witness_StrokeRamps :
    (∃ (s : State) (k : Nat) (far : Bool) (x : Nat), s.plain ∧ k < s.blockCount .STR ∧ s.on (F.STR_CTRL_EN k) = true ∧ s.synState (k + 2) = syLOCKED ∧ s.reached (.strImaging k) = false ∧ s.polygon k = false ∧ (s.scan k = scLOCKED ∨ s.scan k = scCOAST) ∧ s.tEst k ≠ 0 ∧ (s.st k).farEnd = far ∧ (if far then (s.st k).turnB else (s.st k).turnA) = some x ∧ (s.st k).rampDue = true ∧ (s.synOf (k + 2)).pixelClock = false ∧ s.restartTime k x ≤ 64 * s.now ∧ (s.profOf k far).inRange (s.ga (F.STR_WINDOW_NPIX k)) (s.tEst k) = true)
    ∧ (∃ (s : State) (k : Nat) (far : Bool) (x : Nat), s.plain ∧ k < s.blockCount .STR ∧ s.on (F.STR_CTRL_EN k) = true ∧ s.synState (k + 2) = syLOCKED ∧ s.reached (.strImaging k) = false ∧ s.polygon k = false ∧ (s.scan k = scLOCKED ∨ s.scan k = scCOAST) ∧ s.tEst k ≠ 0 ∧ (s.st k).farEnd = far ∧ (if far then (s.st k).turnB else (s.st k).turnA) = some x ∧ (s.st k).rampDue = true ∧ (s.synOf (k + 2)).pixelClock = false ∧ s.restartTime k x ≤ 64 * s.now ∧ (s.profOf k far).inRange (s.ga (F.STR_WINDOW_NPIX k)) (s.tEst k) = false)
    ∧ (∃ (s : State) (k : Nat), s.plain ∧ k < s.blockCount .STR ∧ s.on (F.STR_CTRL_EN k) = true ∧ s.synState (k + 2) = syLOCKED ∧ s.reached (.strImaging k) = false ∧ (s.synOf (k + 2)).pixelClock = true ∧ (s.genNow (k + 2)).span * 2 ^ 32 ≤ (s.genNow (k + 2)).phase (s.sinceRestart (k + 2)))
    ∧ (∃ (s : State) (k : Nat), s.plain ∧ k < s.blockCount .STR ∧ s.on (F.STR_CTRL_EN k) = true ∧ s.synState (k + 2) = syLOCKED ∧ s.reached (.strImaging k) = false ∧ (s.synOf (k + 2)).copying = true)
    ∧ (∃ (s : State) (k : Nat), s.plain ∧ k < s.blockCount .STR ∧ s.on (F.STR_CTRL_EN k) = true ∧ s.synState (k + 2) = syLOCKED ∧ s.reached (.strImaging k) = false ∧ (s.synOf (k + 2)).copying = true)
    ∧ (∃ (s : State) (k : Nat) (c : Nat) (te : Nat), s.plain ∧ k < s.blockCount .STR ∧ s.on (F.STR_CTRL_EN k) = true ∧ s.synState (k + 2) = syLOCKED ∧ s.reached (.strImaging k) = false ∧ s.polygon k = true ∧ (s.scan k = scCAPTURE ∨ s.scan k = scLOCKED) ∧ s.bdLit k c = true ∧ s.apcMasked k (c + s.g (F.STR_BD_BDLAT k)) = false ∧ (∀ p ∈ s.predTurn k false, distN c p ≤ s.bdTol k) ∧ te = (match (s.st k).turnA with | some t0 => if t0 < c then (if s.tEst k = 0 then c - t0 else ((s.tEst k : Int) + ((c - t0 : Nat) - (s.tEst k : Int)) / 8).toNat) else s.tEst k | none => s.tEst k) ∧ ((s.st k).turnA = none ∨ te * 500 ≤ 16000000000 ∧ 16000000000 ≤ te * 6000)) :=
  ⟨⟨(ramp (strSt 0 (strUp [(F.STR_STAT_SCAN 0, scLOCKED), (F.STR_PERIOD_T_EST 0, 5000000)]) (fun x => { x with turnA := some 200000000000, rampDue := true }))), 0, false, 200000000000, by decide +kernel⟩,
   ⟨(synSt 2 (strSt 0 (strUp [(F.STR_STAT_SCAN 0, scLOCKED), (F.STR_PERIOD_T_EST 0, 5000000)]) (fun x => { x with turnB := some 200000000000, farEnd := true, rampDue := true })) (fun y => { y with back0 := ⟨1600000000, 3200000, [2 ^ 32]⟩ })), 0, true, 200000000000, by decide +kernel⟩,
   ⟨(synSt 2 (strSt 0 (strUp [(F.STR_CTRL_MODE 0, 1), (F.STR_POLYF_FREQ 0, 4000000000)]) (fun x => { x with rampT := 16384 * 2 ^ 50 })) (fun y => { y with pixelClock := true })), 0, by decide +kernel⟩,
   ⟨(synSt 2 (strUp []) (fun y => { y with copying := true })), 0, by decide +kernel⟩,
   ⟨(synSt 2 (strUp [(F.SYN_RAMP_BANK 2, 1)]) (fun y => { y with copying := true })), 0, by decide +kernel⟩,
   ⟨(strUp [(F.STR_CTRL_MODE 0, 1), (F.STR_STAT_SCAN 0, scCAPTURE), (F.STR_POLYF_FREQ 0, 1000000), (F.STR_BD_BDLAT 0, 3)]), 0, 200000000000, 0, by decide +kernel⟩⟩

end Sys2Proof.Tests
end

