-- ==== Sys2Proof/Tests/WitGotum.lean ====
section
/-! SUPPORT. Witnesses: states and operands that meet the hypotheses of each clause of the statements, clause by clause. -/

namespace Sys2Proof.Tests

open Sys2Proof Sys2Proof.Machine

set_option maxRecDepth 100000
set_option linter.unusedVariables false
set_option Elab.async false

def onCore (i : Nat) (s : State) (f : Core → Core) : State := { s.p (F.TCE_CSTAT_STATE i) csRUN with cores := vmod s.cores i f }
def gset (l : List (BitVec 5 × Word)) (c : Core) : Core := l.foldl (fun c x => c.set x.1 x.2) c
def gUp (l : List (BitVec 5 × Word)) : State := onCore 3 up (fun c => { gset l c with pc := 0xE0000040 })
def user (s : State) : State := s.modCore 3 (fun c => c.setSw swSYS false)

theorem witness_ArithmeticInstructions_1 :
    (∃ (s : State) (i : Nat) (rd : (BitVec 5)) (ra : (BitVec 5)) (rb : (BitVec 5)), s.calm ∧ s.issues i ∧ rd ≠ 0)
    ∧ (∃ (s : State) (i : Nat) (rd : (BitVec 5)) (ra : (BitVec 5)) (rb : (BitVec 5)), s.calm ∧ s.issues i ∧ rd ≠ 0)
    ∧ (∃ (s : State) (i : Nat) (rd : (BitVec 5)) (ra : (BitVec 5)) (rb : (BitVec 5)), (let c := s.coreOf i; let a := c.get ra; let b := c.get rb; s.calm ∧ s.issues i ∧ rd ≠ 0 ∧ rd.toNat % 2 = 0 ∧ b ≠ 0 ∧ (a ≠ 0x80000000 ∨ b ≠ 0xFFFFFFFF)))
    ∧ (∃ (s : State) (i : Nat) (rd : (BitVec 5)) (ra : (BitVec 5)) (rb : (BitVec 5)), (let c := s.coreOf i; let a := c.get ra; let b := c.get rb; s.calm ∧ s.issues i ∧ rd ≠ 0 ∧ rd.toNat % 2 = 0 ∧ b ≠ 0 ∧ (a ≠ 0x80000000 ∨ b ≠ 0xFFFFFFFF)))
    ∧ (∃ (s : State) (i : Nat) (rd : (BitVec 5)) (ra : (BitVec 5)) (rb : (BitVec 5)), (let c := s.coreOf i; let a := c.get ra; let b := c.get rb; s.calm ∧ s.issues i ∧ rd ≠ 0 ∧ rd.toNat % 2 = 0 ∧ a = 0x80000000 ∧ b = 0xFFFFFFFF))
    ∧ (∃ (s : State) (i : Nat) (rd : (BitVec 5)) (ra : (BitVec 5)) (rb : (BitVec 5)), (let c := s.coreOf i; let b := c.get rb; s.calm ∧ s.issues i ∧ rd ≠ 0 ∧ rd.toNat % 2 = 0 ∧ b = 0))
    ∧ (∃ (s : State) (i : Nat) (rd : (BitVec 5)) (ra : (BitVec 5)) (rb : (BitVec 5)), (let c := s.coreOf i; let b := c.get rb; s.calm ∧ s.issues i ∧ rd ≠ 0 ∧ rd.toNat % 2 = 0 ∧ b ≠ 0))
    ∧ (∃ (s : State) (i : Nat) (rd : (BitVec 5)) (ra : (BitVec 5)) (imm : (BitVec 16)), s.calm ∧ s.issues i ∧ imm.toNat < 32) :=
  ⟨⟨(gUp [(5, 0x80000001), (31, 0xFFFFFFFF)]), 3, 31, 5, 31, by decide +kernel⟩,
   ⟨(gUp [(5, 0x80000001), (31, 0xFFFFFFFF)]), 3, 31, 5, 31, by decide +kernel⟩,
   ⟨(gUp [(5, 0xFFFFFFF9), (31, 2)]), 3, 30, 5, 31, by decide +kernel⟩,
   ⟨(gUp [(5, 0xFFFFFFF9), (31, 0xFFFFFFFE)]), 3, 30, 5, 31, by decide +kernel⟩,
   ⟨(gUp [(5, 0x80000000), (31, 0xFFFFFFFF)]), 3, 30, 5, 31, by decide +kernel⟩,
   ⟨(gUp [(5, 0x80000001)]), 3, 2, 5, 6, by decide +kernel⟩,
   ⟨(gUp [(5, 0x80000001), (6, 7)]), 3, 2, 5, 6, by decide +kernel⟩,
   ⟨(gUp [(5, 0x80000001)]), 3, 2, 5, 31, by decide +kernel⟩⟩

theorem witness_ArithmeticInstructions_2 :
    (∃ (s : State) (i : Nat) (rd : (BitVec 5)) (ra : (BitVec 5)) (imm : (BitVec 16)), (let c := s.coreOf i; s.calm ∧ s.issues i ∧ 32 ≤ imm.toNat ∧ s.histRoom ∧ c.swOn swINFAULT = false))
    ∧ (∃ (s : State) (i : Nat) (rd : (BitVec 5)) (ra : (BitVec 5)) (imm : (BitVec 16)), s.calm ∧ s.issues i ∧ ¬imm.toNat < 32) :=
  ⟨⟨(gUp [(5, 0x80000001)]), 3, 2, 5, 32, by decide +kernel⟩,
   ⟨(gUp [(5, 0x80000001)]), 3, 2, 5, 0xFFFF, by decide +kernel⟩⟩

theorem witness_BranchesAndJumps :
    (∃ (s : State) (i : Nat) (rd : (BitVec 5)) (ra : (BitVec 5)) (rb : (BitVec 5)) (disp : (BitVec 16)) (far : (BitVec 21)), (let c := s.coreOf i; let a := c.get ra; let b := c.get rb; let near := (BitVec.ofInt 32 (c.pc.toNat + 4 * disp.toInt)).toNat; s.calm ∧ s.issues i ∧ a = b ∧ (0xE0000000 ≤ near ∧ near ≤ 0xE003FFFC ∧ near % 4 = 0)))
    ∧ (∃ (s : State) (i : Nat) (rd : (BitVec 5)) (ra : (BitVec 5)) (rb : (BitVec 5)) (disp : (BitVec 16)) (far : (BitVec 21)), (let c := s.coreOf i; let a := c.get ra; let b := c.get rb; s.calm ∧ s.issues i ∧ ¬a ≠ b))
    ∧ (∃ (s : State) (i : Nat) (rd : (BitVec 5)) (ra : (BitVec 5)) (rb : (BitVec 5)) (disp : (BitVec 16)) (far : (BitVec 21)), (let c := s.coreOf i; let a := c.get ra; let b := c.get rb; let near := (BitVec.ofInt 32 (c.pc.toNat + 4 * disp.toInt)).toNat; s.calm ∧ s.issues i ∧ a = b ∧ ¬(0xE0000000 ≤ near ∧ near ≤ 0xE003FFFC ∧ near % 4 = 0) ∧ s.histRoom ∧ c.swOn swINFAULT = false))
    ∧ (∃ (s : State) (i : Nat) (rd : (BitVec 5)) (ra : (BitVec 5)) (rb : (BitVec 5)) (disp : (BitVec 16)) (far : (BitVec 21)), (let c := s.coreOf i; let link := (BitVec.ofInt 32 (c.pc.toNat + 4 * far.toInt)).toNat; s.calm ∧ s.issues i ∧ (0xE0000000 ≤ link ∧ link ≤ 0xE003FFFC ∧ link % 4 = 0)))
    ∧ (∃ (s : State) (i : Nat) (rd : (BitVec 5)) (ra : (BitVec 5)) (rb : (BitVec 5)) (disp : (BitVec 16)) (far : (BitVec 21)), (let c := s.coreOf i; let a := c.get ra; s.calm ∧ s.issues i ∧ (0xE0000000 ≤ a.toNat ∧ a.toNat ≤ 0xE003FFFC ∧ a.toNat % 4 = 0)))
    ∧ (∃ (s : State) (i : Nat) (rd : (BitVec 5)) (ra : (BitVec 5)) (rb : (BitVec 5)) (disp : (BitVec 16)) (far : (BitVec 21)), (let c := s.coreOf i; let a := c.get ra; s.calm ∧ s.issues i ∧ ¬(0xE0000000 ≤ a.toNat ∧ a.toNat ≤ 0xE003FFFC ∧ a.toNat % 4 = 0) ∧ s.histRoom ∧ c.swOn swINFAULT = false))
    ∧ (∃ (s : State) (i : Nat) (rd : (BitVec 5)) (ra : (BitVec 5)) (rb : (BitVec 5)) (disp : (BitVec 16)) (far : (BitVec 21)), (let c := s.coreOf i; let link := (BitVec.ofInt 32 (c.pc.toNat + 4 * far.toInt)).toNat; s.calm ∧ s.issues i ∧ ¬(0xE0000000 ≤ link ∧ link ≤ 0xE003FFFC ∧ link % 4 = 0) ∧ s.histRoom ∧ c.swOn swINFAULT = false)) :=
  ⟨⟨(gUp [(5, 9), (6, 9)]), 3, 2, 5, 6, 0xFFF0, 4, by decide +kernel⟩,
   ⟨(gUp [(5, 9), (6, 9)]), 3, 2, 5, 6, 0xFFF0, 4, by decide +kernel⟩,
   ⟨(gUp [(5, 9), (6, 9)]), 3, 2, 5, 6, 0xFFEF, 4, by decide +kernel⟩,
   ⟨(gUp [(5, 9), (6, 9)]), 3, 2, 5, 6, 0xFFEF, 0xFFEF, by decide +kernel⟩,
   ⟨(gUp [(5, 0xE003FFFC), (6, 9)]), 3, 5, 5, 6, 0xFFEF, 4, by decide +kernel⟩,
   ⟨(gUp [(5, 0xE003FFFE), (6, 9)]), 3, 5, 5, 6, 0xFFEF, 4, by decide +kernel⟩,
   ⟨(gUp [(5, 0xE003FFFC), (6, 9)]), 3, 5, 5, 6, 0xFFEF, 0x1FFFEF, by decide +kernel⟩⟩

theorem witness_LoadsAndStores :
    (∃ (s : State) (i : Nat) (rd : (BitVec 5)) (ra : (BitVec 5)) (imm : (BitVec 16)), (let c := s.coreOf i; let ea := (c.get ra + imm.signExtend 32).toNat; let a := 0x100000000 + 0x100000 * i + (ea - 0xE0000000); s.calm ∧ s.issues i ∧ (0xE0000000 ≤ ea ∧ ea < 0xE0040000 ∧ ea % 8 = 0) ∧ s.poisoned a 8 = false ∧ rd ≠ 0 ∧ rd.toNat % 2 = 0))
    ∧ (∃ (s : State) (i : Nat) (rd : (BitVec 5)) (ra : (BitVec 5)) (imm : (BitVec 16)), (let c := s.coreOf i; let ea := (c.get ra + imm.signExtend 32).toNat; let a := 0x100000000 + 0x100000 * i + (ea - 0xE0000000); s.calm ∧ s.issues i ∧ (0xE0000000 ≤ ea ∧ ea < 0xE0040000 ∧ ea % 1 = 0) ∧ s.poisoned a 1 = false))
    ∧ (∃ (s : State) (i : Nat) (rd : (BitVec 5)) (ra : (BitVec 5)) (imm : (BitVec 16)), (let c := s.coreOf i; let ea := (c.get ra + imm.signExtend 32).toNat; s.calm ∧ s.issues i ∧ ¬(0xE0000000 ≤ ea ∧ ea < 0xE0040000 ∧ ea % 8 = 0)))
    ∧ (∃ (s : State) (i : Nat) (rd : (BitVec 5)) (ra : (BitVec 5)) (imm : (BitVec 16)), (let c := s.coreOf i; let ea := (c.get ra + imm.signExtend 32).toNat; s.calm ∧ s.issues i ∧ s.histRoom ∧ c.swOn swINFAULT = false ∧ ea % 4 ≠ 0 ∧ 0xE0000000 ≤ ea ∧ ea < 0xE0040000 - 4))
    ∧ (∃ (s : State) (i : Nat) (rd : (BitVec 5)) (ra : (BitVec 5)) (imm : (BitVec 16)), (let c := s.coreOf i; let ea := (c.get ra + imm.signExtend 32).toNat; s.calm ∧ s.issues i ∧ s.histRoom ∧ c.swOn swINFAULT = false ∧ c.swOn swSYS = false ∧ 0xC0000000 ≤ ea ∧ ea < 0xE0000000 - 4))
    ∧ (∃ (s : State) (i : Nat) (rd : (BitVec 5)) (ra : (BitVec 5)) (imm : (BitVec 16)) (bad : Bool), (let c := s.coreOf i; let ea := (c.get ra + imm.signExtend 32).toNat; s.calm ∧ s.issues i ∧ ∃ r ∈ s.coreReads i ((0x10 : BitVec 6) ++ rd ++ ra ++ imm) ea 4 4 bad, r.2.runsOn i))
    ∧ (∃ (s : State) (i : Nat) (rd : (BitVec 5)) (ra : (BitVec 5)) (imm : (BitVec 16)), (let c := s.coreOf i; let ea := (c.get ra + imm.signExtend 32).toNat; s.calm ∧ s.issues i ∧ ∃ d ∈ s.coreReaches i ((0x1A : BitVec 6) ++ rd ++ ra ++ imm) ea 1 1, (s.coreWrite i d.1 1 ((c.get rd).toNat % 2 ^ 8) ea d.2).runsOn i ∧ (d.2 = true ∨ s.takesVector i d.1 1 = true ∨ (s.place d.1 = .ring ∧ 4 ≤ 1)))) :=
  ⟨⟨((gUp [(5, 0xE0001000)]).wr (0x100000000 + 0x100000 * 3 + 0xFF8) 8 0x8765432189ABCDEF), 3, 4, 5, 0xFFF8, by decide +kernel⟩,
   ⟨(gUp [(5, 0xE003FFFC), (4, 0x12345678)]), 3, 4, 5, 3, by decide +kernel⟩,
   ⟨(gUp [(5, 0xE003FFF8), (4, 0x12345678), (5, 9)]), 3, 4, 5, 2, by decide +kernel⟩,
   ⟨(gUp [(5, 0xE003FFF8), (4, 0x12345678)]), 3, 4, 5, 2, by decide +kernel⟩,
   ⟨(user (gUp [(5, 0xC0000000)])), 3, 4, 5, 2, by decide +kernel⟩,
   ⟨((gUp [(5, 0xC0000000)]).wr 0xC0000010 4 0x87654321), 3, 4, 5, 16, false, by decide +kernel⟩,
   ⟨((gUp [(5, 0xC0000000)]).wr 0xC0000010 4 0x87654321), 3, 4, 5, 18, by decide +kernel⟩⟩

theorem witness_SystemInstructions_1 :
    (∃ (s : State) (i : Nat) (rd : (BitVec 5)) (ra : (BitVec 5)) (n : (BitVec 5)), (let c := s.coreOf i; s.calm ∧ i < 24 ∧ s.issues i ∧ c.swOn swSYS = true ∧ pcOk c.epc.toNat = false ∧ c.storeErr = none))
    ∧ (∃ (s : State) (i : Nat) (rd : (BitVec 5)) (ra : (BitVec 5)) (n : (BitVec 5)), (let c := s.coreOf i; s.calm ∧ i < 24 ∧ s.issues i ∧ c.swOn swSYS = true ∧ pcOk c.epc.toNat = false ∧ c.storeErr = none))
    ∧ (∃ (s : State) (i : Nat) (rd : (BitVec 5)) (ra : (BitVec 5)) (n : (BitVec 5)), (let c := s.coreOf i; s.calm ∧ i < 24 ∧ s.issues i ∧ c.swOn swSYS = true ∧ pcOk c.epc.toNat = false ∧ c.storeErr = none))
    ∧ (∃ (s : State) (i : Nat) (rd : (BitVec 5)) (ra : (BitVec 5)) (n : (BitVec 5)), (let c := s.coreOf i; s.calm ∧ i < 24 ∧ s.issues i ∧ c.swOn swSYS = true ∧ pcOk c.epc.toNat = true))
    ∧ (∃ (s : State) (i : Nat) (rd : (BitVec 5)) (ra : (BitVec 5)) (n : (BitVec 5)), (let c := s.coreOf i; s.calm ∧ i < 24 ∧ s.issues i ∧ c.swOn swSYS = false ∧ s.histRoom ∧ c.swOn swINFAULT = false))
    ∧ (∃ (s : State) (i : Nat) (rd : (BitVec 5)) (ra : (BitVec 5)) (n : (BitVec 5)), (let c := s.coreOf i; s.calm ∧ i < 24 ∧ s.issues i ∧ c.swOn swSYS = false ∧ s.histRoom ∧ c.swOn swINFAULT = false))
    ∧ (∃ (s : State) (i : Nat) (rd : (BitVec 5)) (ra : (BitVec 5)) (n : (BitVec 5)) (x : Nat), (let c := s.coreOf i; s.calm ∧ i < 24 ∧ s.coreLive i = true ∧ c.storeErr = none ∧ s.histRoom ∧ c.swOn swINFAULT = false ∧ x < 2 ^ 32))
    ∧ (∃ (s : State) (i : Nat) (rd : (BitVec 5)) (ra : (BitVec 5)) (n : (BitVec 5)), (let c := s.coreOf i; s.calm ∧ i < 24 ∧ s.coreLive i = true ∧ s.on (F.OBS_SAMP_INFO_PEND i) = true ∧ c.swOn swIE = true ∧ c.swOn swINFAULT = false)) :=
  ⟨⟨(gUp [(5, 0xFFFFFFFF)]), 3, 4, 5, 2, by decide +kernel⟩,
   ⟨(gUp [(5, 0xFFFFFFFF)]), 3, 4, 5, 2, by decide +kernel⟩,
   ⟨(gUp [(5, 0xFFFFFFFF)]), 3, 4, 5, 2, by decide +kernel⟩,
   ⟨((gUp []).modCore 3 (fun c => { c with epc := 0xE0000200 }.setSw swPIE true)), 3, 4, 5, 2, by decide +kernel⟩,
   ⟨(user (gUp [])), 3, 4, 5, 2, by decide +kernel⟩,
   ⟨(user (gUp [])), 3, 4, 5, 2, by decide +kernel⟩,
   ⟨(gUp []), 3, 4, 5, 2, (2 ^ 32 - 1), by decide +kernel⟩,
   ⟨(((gUp []).p (F.OBS_SAMP_INFO_PEND 3) 1).modCore 3 (fun c => c.setSw swIE true)), 3, 4, 5, 2, by decide +kernel⟩⟩

theorem witness_SystemInstructions_2 :
    (∃ (s : State) (i : Nat) (rd : (BitVec 5)) (ra : (BitVec 5)) (n : (BitVec 5)), (let c := s.coreOf i; s.calm ∧ i < 24 ∧ s.issues i ∧ c.swOn swSYS = false))
    ∧ (∃ (s : State) (i : Nat) (rd : (BitVec 5)) (ra : (BitVec 5)) (n : (BitVec 5)), (let c := s.coreOf i; s.calm ∧ i < 24 ∧ s.issues i ∧ c.swOn swSYS = true))
    ∧ (∃ (s : State) (i : Nat) (rd : (BitVec 5)) (ra : (BitVec 5)) (n : (BitVec 5)) (x : Instr) (w : Word), s.calm ∧ i < 24 ∧ gotumWord x = some (i, w) ∧ (match x with | .lw _ _ _ _ b => b | .lh _ _ _ _ b => b | .lhu _ _ _ _ b => b | .lb _ _ _ _ b => b | .lbu _ _ _ _ b => b | .ld _ _ _ _ b => b | .tbl _ _ _ _ _ _ b => b | .bfld _ _ _ _ _ b => b | _ => false) = false)
    ∧ (∃ (s : State) (i : Nat) (rd : (BitVec 5)) (ra : (BitVec 5)) (n : (BitVec 5)) (w : Word), (let c := s.coreOf i; s.calm ∧ i < 24 ∧ s.issues i ∧ s.histRoom ∧ c.swOn swINFAULT = false ∧ (0x0B ≤ w.toNat / 2 ^ 26 ∧ w.toNat / 2 ^ 26 ≤ 0x0F ∨ 0x15 ≤ w.toNat / 2 ^ 26 ∧ w.toNat / 2 ^ 26 ≤ 0x17 ∨ 0x1D ≤ w.toNat / 2 ^ 26 ∧ w.toNat / 2 ^ 26 ≤ 0x1F ∨ w.toNat / 2 ^ 26 = 0x27 ∨ 0x29 ≤ w.toNat / 2 ^ 26 ∧ w.toNat / 2 ^ 26 ≤ 0x2F ∨ w.toNat / 2 ^ 26 = 0 ∧ (w.toNat % 2 ^ 11 = 0x00F ∨ w.toNat % 2 ^ 11 = 0x010 ∨ 0x014 ≤ w.toNat % 2 ^ 11 ∧ w.toNat % 2 ^ 11 ≤ 0x01F ∨ 0x024 ≤ w.toNat % 2 ^ 11))))
    ∧ (∃ (s : State) (i : Nat) (rd : (BitVec 5)) (ra : (BitVec 5)) (n : (BitVec 5)) (w : Word), (let c := s.coreOf i; s.calm ∧ i < 24 ∧ s.issues i ∧ s.histRoom ∧ c.swOn swINFAULT = false ∧ (0x0B ≤ w.toNat / 2 ^ 26 ∧ w.toNat / 2 ^ 26 ≤ 0x0F ∨ 0x15 ≤ w.toNat / 2 ^ 26 ∧ w.toNat / 2 ^ 26 ≤ 0x17 ∨ 0x1D ≤ w.toNat / 2 ^ 26 ∧ w.toNat / 2 ^ 26 ≤ 0x1F ∨ w.toNat / 2 ^ 26 = 0x27 ∨ 0x29 ≤ w.toNat / 2 ^ 26 ∧ w.toNat / 2 ^ 26 ≤ 0x2F ∨ w.toNat / 2 ^ 26 = 0 ∧ (w.toNat % 2 ^ 11 = 0x00F ∨ w.toNat % 2 ^ 11 = 0x010 ∨ 0x014 ≤ w.toNat % 2 ^ 11 ∧ w.toNat % 2 ^ 11 ≤ 0x01F ∨ 0x024 ≤ w.toNat % 2 ^ 11))))
    ∧ (∃ (s : State) (i : Nat) (rd : (BitVec 5)) (ra : (BitVec 5)) (n : (BitVec 5)) (w : Word), (let c := s.coreOf i; s.calm ∧ i < 24 ∧ s.issues i ∧ s.histRoom ∧ c.swOn swINFAULT = false ∧ (0x0B ≤ w.toNat / 2 ^ 26 ∧ w.toNat / 2 ^ 26 ≤ 0x0F ∨ 0x15 ≤ w.toNat / 2 ^ 26 ∧ w.toNat / 2 ^ 26 ≤ 0x17 ∨ 0x1D ≤ w.toNat / 2 ^ 26 ∧ w.toNat / 2 ^ 26 ≤ 0x1F ∨ w.toNat / 2 ^ 26 = 0x27 ∨ 0x29 ≤ w.toNat / 2 ^ 26 ∧ w.toNat / 2 ^ 26 ≤ 0x2F ∨ w.toNat / 2 ^ 26 = 0 ∧ (w.toNat % 2 ^ 11 = 0x00F ∨ w.toNat % 2 ^ 11 = 0x010 ∨ 0x014 ≤ w.toNat % 2 ^ 11 ∧ w.toNat % 2 ^ 11 ≤ 0x01F ∨ 0x024 ≤ w.toNat % 2 ^ 11))))
    ∧ (∃ (s : State) (i : Nat) (rd : (BitVec 5)) (ra : (BitVec 5)) (n : (BitVec 5)) (w : Word), (let c := s.coreOf i; s.calm ∧ i < 24 ∧ s.issues i ∧ s.histRoom ∧ c.swOn swINFAULT = false ∧ (0x0B ≤ w.toNat / 2 ^ 26 ∧ w.toNat / 2 ^ 26 ≤ 0x0F ∨ 0x15 ≤ w.toNat / 2 ^ 26 ∧ w.toNat / 2 ^ 26 ≤ 0x17 ∨ 0x1D ≤ w.toNat / 2 ^ 26 ∧ w.toNat / 2 ^ 26 ≤ 0x1F ∨ w.toNat / 2 ^ 26 = 0x27 ∨ 0x29 ≤ w.toNat / 2 ^ 26 ∧ w.toNat / 2 ^ 26 ≤ 0x2F ∨ w.toNat / 2 ^ 26 = 0 ∧ (w.toNat % 2 ^ 11 = 0x00F ∨ w.toNat % 2 ^ 11 = 0x010 ∨ 0x014 ≤ w.toNat % 2 ^ 11 ∧ w.toNat % 2 ^ 11 ≤ 0x01F ∨ 0x024 ≤ w.toNat % 2 ^ 11)))) :=
  ⟨⟨(user (gUp [])), 3, 4, 5, 2, by decide +kernel⟩,
   ⟨(gUp []), 3, 4, 5, 2, by decide +kernel⟩,
   ⟨(gUp []), 3, 4, 5, 2, (.bfmac 3 1 2 3 0 1), 0xEC48C001, by decide +kernel⟩,
   ⟨(gUp []), 3, 4, 5, 2, 0x000007FF, by decide +kernel⟩,
   ⟨(gUp []), 3, 4, 5, 2, 0x0000001F, by decide +kernel⟩,
   ⟨(gUp []), 3, 4, 5, 2, 0xBFFFFFFF, by decide +kernel⟩,
   ⟨(gUp []), 3, 4, 5, 2, 0x9FFFFFFF, by decide +kernel⟩⟩

def onCoreN (i : Nat) (s : State) (f : Core → Core) : State := { s.p (F.TCE_CSTAT_STATE i) csRUN with cores := vmod s.cores i f }
def tlUp (l : List (BitVec 5 × Word)) : State := onCoreN 3 { up with claims := [(padRid (snsPad 0), ⟨3, 3⟩)] } (fun c => { l.foldl (fun c x => c.set x.1 x.2) c with pc := 0xE0000040 })
def withEdges (s : State) (k : Nat) (l : List Nat) : State := { s with edges := vmod s.edges k (fun _ => l) }
def ringUp (ext : List (FieldRef × Nat)) (f : Core → Core) : State := onCoreN 3 (put up ([(F.TCE_QCFG_EN 5, 1), (F.TCE_QCFG_PROD 5, 3), (F.TCE_QCFG_PCORE 5, 3), (F.TCE_QCFG_CONS 5, 3), (F.TCE_QCFG_CCORE 5, 3), (F.TCE_QCFG_ESIZE 5, 1), (F.TCE_QCFG_LOG2N 5, 2)] ++ ext)) (fun c => f { c.set 7 0xE0000100 with pc := 0xE0000040 })

theorem witness_TimelineInstructions_1 :
    (∃ (s : State) (i : Nat) (rt : (BitVec 5)) (rs : (BitVec 5)) (imm : (BitVec 16)), (let c := s.coreOf i; let x := (c.get rt).toNat + 2 ^ 32 * (c.get (rt + 1)).toNat; let id := imm.toNat; s.calm ∧ s.issues i ∧ s.on F.CORD_STAT_CORE_OK = true ∧ rt ≠ 0 ∧ rt.toNat % 4 = 0 ∧ (ridClass id = 1 ∨ ridClass id = 2) ∧ s.owns (.core i) id = true ∧ s.now + 16 ≤ x ∧ (∀ e ∈ s.actQueue id, e.t ≠ x) ∧ (s.actQueue id).length < 32))
    ∧ (∃ (s : State) (i : Nat) (rt : (BitVec 5)) (rs : (BitVec 5)) (imm : (BitVec 16)), (let id := imm.toNat; s.calm ∧ s.issues i ∧ s.on F.CORD_STAT_CORE_OK = true ∧ rt ≠ 0 ∧ rt.toNat % 4 = 0 ∧ ridClass id = 1 ∧ s.owns (.core i) id = true ∧ (s.padFunc (ridIndex id) = 1 ∨ s.padFunc (ridIndex id) = 2) ∧ s.fired = [] ∧ s.on F.FCL_STAT_KETTLE = false))
    ∧ (∃ (s : State) (i : Nat) (rt : (BitVec 5)) (rs : (BitVec 5)) (imm : (BitVec 16)), (let c := s.coreOf i; let v := (c.get rs).toNat; let id := imm.toNat; s.calm ∧ s.issues i ∧ s.on F.CORD_STAT_CORE_OK = true ∧ rt ≠ 0 ∧ rt.toNat % 4 = 0 ∧ actuatorOk id = true ∧ s.owns (.core i) id = true ∧ s.outdone id v = false ∧ (s.actuate id v).runsOn i))
    ∧ (∃ (s : State) (i : Nat) (rt : (BitVec 5)) (rs : (BitVec 5)) (imm : (BitVec 16)), (let c := s.coreOf i; let v := (c.get rs).toNat; let id := imm.toNat; s.calm ∧ s.issues i ∧ s.on F.CORD_STAT_CORE_OK = true ∧ rt ≠ 0 ∧ rt.toNat % 4 = 0 ∧ actuatorOk id = true ∧ s.owns (.core i) id = true ∧ s.outdone id v = true))
    ∧ (∃ (s : State) (i : Nat) (rt : (BitVec 5)) (rs : (BitVec 5)) (imm : (BitVec 16)), (let c := s.coreOf i; let x := (c.get rt).toNat + 2 ^ 32 * (c.get (rt + 1)).toNat; s.calm ∧ s.issues i ∧ s.on F.CORD_STAT_CORE_OK = true ∧ rt ≠ 0 ∧ rt.toNat % 4 = 0 ∧ x = s.now))
    ∧ (∃ (s : State) (i : Nat) (rt : (BitVec 5)) (rs : (BitVec 5)) (imm : (BitVec 16)) (q : State), s.calm ∧ s.issues i ∧ s.on F.CORD_STAT_CORE_OK = true ∧ rt ≠ 0 ∧ rt.toNat % 4 = 0 ∧ q.calm)
    ∧ (∃ (s : State) (i : Nat) (rt : (BitVec 5)) (rs : (BitVec 5)) (imm : (BitVec 16)), (let c := s.coreOf i; let x := (c.get rt).toNat + 2 ^ 32 * (c.get (rt + 1)).toNat; s.calm ∧ s.issues i ∧ s.on F.CORD_STAT_CORE_OK = true ∧ rt ≠ 0 ∧ rt.toNat % 4 = 0 ∧ x < s.now))
    ∧ (∃ (s : State) (i : Nat) (rt : (BitVec 5)) (rs : (BitVec 5)) (imm : (BitVec 16)), (let c := s.coreOf i; let x := (c.get rt).toNat + 2 ^ 32 * (c.get (rt + 1)).toNat; s.calm ∧ s.issues i ∧ s.on F.CORD_STAT_CORE_OK = true ∧ rt ≠ 0 ∧ rt.toNat % 4 = 0 ∧ s.now < x)) :=
  ⟨⟨(tlUp [(4, 0x90EDD010), (5, 0x2E), (9, 1)]), 3, 4, 9, (BitVec.ofNat 16 (padRid (snsPad 0))), by decide +kernel⟩,
   ⟨((tlUp [(9, 1)]).p (F.PMX_PADCFG_FUNC (snsPad 0)) 1), 3, 4, 9, (BitVec.ofNat 16 (padRid (snsPad 0))), by decide +kernel⟩,
   ⟨(tlUp [(9, 0x10000000)]), 3, 4, 9, (BitVec.ofNat 16 (padRid (snsPad 0))), by decide +kernel⟩,
   ⟨({ tlUp [(9, 1)] with fired := [(padRid (snsPad 0), up.now, 0)] }), 3, 4, 9, (BitVec.ofNat 16 (padRid (snsPad 0))), by decide +kernel⟩,
   ⟨(tlUp [(4, BitVec.ofNat 32 up.now), (5, BitVec.ofNat 32 (up.now / 2 ^ 32))]), 3, 4, 9, 0, by decide +kernel⟩,
   ⟨(tlUp []), 3, 4, 9, 0, (up.p F.CORD_STAT_CORE_OK 0), by decide +kernel⟩,
   ⟨(tlUp []), 3, 4, 9, 0, by decide +kernel⟩,
   ⟨(tlUp [(5, 0xFFFFFFFF)]), 3, 4, 9, 0, by decide +kernel⟩⟩

theorem witness_TimelineInstructions_2 :
    (∃ (s : State) (i : Nat) (rt : (BitVec 5)) (rs : (BitVec 5)) (imm : (BitVec 16)) (z : Nat), (let c := s.coreOf i; let x := (c.get rt).toNat + 2 ^ 32 * (c.get (rt + 1)).toNat; let y := (c.get (rt + 2)).toNat + 2 ^ 32 * (c.get (rt + 3)).toNat; s.calm ∧ s.issues i ∧ s.on F.CORD_STAT_CORE_OK = true ∧ rt ≠ 0 ∧ rt.toNat % 4 = 0 ∧ rs ≠ 0 ∧ rs.toNat % 2 = 0 ∧ s.edgeExists (imm.toNat / 1024) = true ∧ z ∈ vget s.edges (2 * (imm.toNat / 1024) + imm.toNat / 512 % 2) ∧ x ≤ z ∧ z ≤ y ∧ (∀ u ∈ vget s.edges (2 * (imm.toNat / 1024) + imm.toNat / 512 % 2), x ≤ u → u ≤ y → z ≤ u)))
    ∧ (∃ (s : State) (i : Nat) (rt : (BitVec 5)) (rs : (BitVec 5)) (imm : (BitVec 16)), (let c := s.coreOf i; let x := (c.get rt).toNat + 2 ^ 32 * (c.get (rt + 1)).toNat; let y := (c.get (rt + 2)).toNat + 2 ^ 32 * (c.get (rt + 3)).toNat; s.calm ∧ s.issues i ∧ s.on F.CORD_STAT_CORE_OK = true ∧ rt ≠ 0 ∧ rt.toNat % 4 = 0 ∧ rs ≠ 0 ∧ rs.toNat % 2 = 0 ∧ (s.edgeExists (imm.toNat / 1024) = false ∨ y < x) ∧ pcOk (BitVec.ofInt 32 (c.pc.toNat + 4 * toSigned 9 imm.toNat)).toNat = true))
    ∧ (∃ (s : State) (i : Nat) (rt : (BitVec 5)) (rs : (BitVec 5)) (imm : (BitVec 16)), (let c := s.coreOf i; let x := (c.get rt).toNat + 2 ^ 32 * (c.get (rt + 1)).toNat; let y := (c.get (rt + 2)).toNat + 2 ^ 32 * (c.get (rt + 3)).toNat; s.calm ∧ s.issues i ∧ s.on F.CORD_STAT_CORE_OK = true ∧ rt ≠ 0 ∧ rt.toNat % 4 = 0 ∧ rs ≠ 0 ∧ rs.toNat % 2 = 0 ∧ s.edgeExists (imm.toNat / 1024) = true ∧ x ≤ y ∧ (∀ u ∈ vget s.edges (2 * (imm.toNat / 1024) + imm.toNat / 512 % 2), u < x ∨ y < u) ∧ s.now ≤ y + 4))
    ∧ (∃ (s : State) (i : Nat) (rt : (BitVec 5)) (rs : (BitVec 5)) (imm : (BitVec 16)), (let c := s.coreOf i; let x := (c.get rt).toNat + 2 ^ 32 * (c.get (rt + 1)).toNat; let y := (c.get (rt + 2)).toNat + 2 ^ 32 * (c.get (rt + 3)).toNat; s.calm ∧ s.issues i ∧ s.on F.CORD_STAT_CORE_OK = true ∧ rt ≠ 0 ∧ rt.toNat % 4 = 0 ∧ rs ≠ 0 ∧ rs.toNat % 2 = 0 ∧ s.edgeExists (imm.toNat / 1024) = true ∧ x ≤ y ∧ (∀ u ∈ vget s.edges (2 * (imm.toNat / 1024) + imm.toNat / 512 % 2), u < x ∨ y < u) ∧ y + 5 < s.now ∧ pcOk (BitVec.ofInt 32 (c.pc.toNat + 4 * toSigned 9 imm.toNat)).toNat = true))
    ∧ (∃ (s : State) (i : Nat) (x : Nat), (let c := s.coreOf i; s.calm ∧ s.coreLive i = true ∧ s.on F.CORD_STAT_CORE_OK = true ∧ pcOk (s.coreOf i).seq = true ∧ c.wait = some (.cord x) ∧ x < s.now))
    ∧ (∃ (s : State) (i : Nat) (x : Nat) (y : Nat) (src : Nat) (falling : Bool) (rs : Nat) (disp : Int), (let c := s.coreOf i; s.calm ∧ s.coreLive i = true ∧ s.on F.CORD_STAT_CORE_OK = true ∧ pcOk (s.coreOf i).seq = true ∧ c.wait = some (.edge x y src falling rs disp) ∧ y + 5 < s.now ∧ pcOk (c.target disp) = true))
    ∧ (∃ (s : State) (i : Nat) (x : Nat) (y : Nat) (src : Nat) (falling : Bool) (rs : Nat) (disp : Int), (let c := s.coreOf i; s.calm ∧ s.coreLive i = true ∧ s.on F.CORD_STAT_CORE_OK = true ∧ pcOk (s.coreOf i).seq = true ∧ c.wait = some (.edge x y src falling rs disp) ∧ src < 64 ∧ s.edgeExists src = true ∧ (∀ k < 6, ¬(s.on (F.STR_CTRL_LDFLTEN k) = true ∧ s.g (F.STR_CTRL_LDFLT k) = src)) ∧ x ≤ s.now ∧ s.now ≤ y ∧ (∀ j < 24, j ≠ i → (s.coreOf j).wait = none))) :=
  ⟨⟨(withEdges (tlUp [(4, 100), (6, 200)]) 3 [250, 200, 100]), 3, 4, 8, (1024 + 512 + 2), 100, by decide +kernel⟩,
   ⟨(tlUp [(4, 100), (6, 99)]), 3, 4, 8, (1024 + 512 + 0x1F0), by decide +kernel⟩,
   ⟨(tlUp [(4, 100), (5, 0x2E), (6, 99), (7, 0x2F)]), 3, 4, 8, (1024 + 0x1F0), by decide +kernel⟩,
   ⟨(withEdges (tlUp [(4, 100), (6, 101)]) 2 [102, 99]), 3, 4, 8, (1024 + 0x1F0), by decide +kernel⟩,
   ⟨((tlUp []).modCore 3 (fun c => { c with wait := some (.cord 7) })), 3, 7, by decide +kernel⟩,
   ⟨((tlUp []).modCore 3 (fun c => { c with wait := some (.edge 1 7 1 true 8 (-4)) })), 3, 1, 7, 1, true, 8, (-4), by decide +kernel⟩,
   ⟨((tlUp []).modCore 3 (fun c => { c with wait := some (.edge 1 200000000000 31 true 8 (-4)) })), 3, 1, 200000000000, 31, true, 8, (-4), by decide +kernel⟩⟩

theorem witness_CoreRingsAndClaims_1 :
    (∃ (s : State) (i : Nat) (r : Nat) (ea : Nat) (a : Nat) (rt : (BitVec 5)) (rs : (BitVec 5)) (w : Bool), (let c := s.coreOf i; let n := s.ringEsize r; let fits := ownLocal i ea n = some a ∧ ea % 16 = 0; s.calm ∧ i < 24 ∧ r < 128 ∧ s.issues i ∧ (c.get rs).toNat = ea ∧ fits ∧ s.ringLen r ≤ 4096 ∧ s.ringEn r = true ∧ s.ringProd r = ⟨3, i⟩ ∧ s.ringFull r = false ∧ s.poisoned a n = false))
    ∧ (∃ (s : State) (i : Nat) (r : Nat) (ea : Nat) (a : Nat) (rt : (BitVec 5)) (rs : (BitVec 5)) (w : Bool), (let c := s.coreOf i; let n := s.ringEsize r; let fits := ownLocal i ea n = some a ∧ ea % 16 = 0; s.calm ∧ i < 24 ∧ r < 128 ∧ s.issues i ∧ (c.get rs).toNat = ea ∧ fits ∧ s.ringLen r ≤ 4096 ∧ s.ringEn r = true ∧ s.ringProd r = ⟨3, i⟩ ∧ s.ringFull r = true ∧ w = false))
    ∧ (∃ (s : State) (i : Nat) (r : Nat) (ea : Nat) (a : Nat) (rt : (BitVec 5)) (rs : (BitVec 5)) (w : Bool), (let c := s.coreOf i; let n := s.ringEsize r; let fits := ownLocal i ea n = some a ∧ ea % 16 = 0; s.calm ∧ i < 24 ∧ r < 128 ∧ s.issues i ∧ (c.get rs).toNat = ea ∧ fits ∧ s.ringLen r ≤ 4096 ∧ s.ringEn r = true ∧ s.ringProd r = ⟨3, i⟩ ∧ s.ringFull r = true ∧ w = true))
    ∧ (∃ (s : State) (i : Nat) (r : Nat) (ea : Nat) (a : Nat) (rt : (BitVec 5)) (rs : (BitVec 5)) (w : Bool), (let c := s.coreOf i; let n := s.ringEsize r; let fits := ownLocal i ea n = some a ∧ ea % 16 = 0; s.calm ∧ i < 24 ∧ r < 128 ∧ s.issues i ∧ (c.get rs).toNat = ea ∧ fits ∧ s.ringLen r ≤ 4096 ∧ s.ringEn r = true ∧ s.ringCons r = ⟨3, i⟩ ∧ s.ringEmpty r = false ∧ s.poisoned (s.ringAddr r (s.qhead r)) n = false))
    ∧ (∃ (s : State) (i : Nat) (r : Nat) (ea : Nat) (a : Nat) (rt : (BitVec 5)) (rs : (BitVec 5)) (w : Bool), (let c := s.coreOf i; let n := s.ringEsize r; let fits := ownLocal i ea n = some a ∧ ea % 16 = 0; s.calm ∧ i < 24 ∧ r < 128 ∧ s.issues i ∧ (c.get rs).toNat = ea ∧ fits ∧ s.ringLen r ≤ 4096 ∧ s.ringEn r = true ∧ s.ringCons r = ⟨3, i⟩ ∧ s.ringEmpty r = true ∧ w = false))
    ∧ (∃ (s : State) (i : Nat) (r : Nat) (ea : Nat) (a : Nat) (rt : (BitVec 5)) (rs : (BitVec 5)) (w : Bool), (let c := s.coreOf i; let n := s.ringEsize r; let fits := ownLocal i ea n = some a ∧ ea % 16 = 0; s.calm ∧ i < 24 ∧ r < 128 ∧ s.issues i ∧ (c.get rs).toNat = ea ∧ fits ∧ s.ringLen r ≤ 4096 ∧ s.ringEn r = true ∧ s.ringCons r = ⟨3, i⟩ ∧ s.ringEmpty r = true ∧ w = true))
    ∧ (∃ (s : State) (i : Nat) (r : Nat) (ea : Nat) (a : Nat) (rt : (BitVec 5)) (rs : (BitVec 5)) (w : Bool), (let c := s.coreOf i; let n := s.ringEsize r; let fits := ownLocal i ea n = some a ∧ ea % 16 = 0; s.calm ∧ i < 24 ∧ r < 128 ∧ s.issues i ∧ (c.get rs).toNat = ea ∧ fits ∧ s.ringLen r ≤ 4096 ∧ s.histRoom ∧ (s.ringEn r = false ∨ s.ringProd r ≠ ⟨3, i⟩)))
    ∧ (∃ (s : State) (i : Nat) (r : Nat) (ea : Nat) (a : Nat) (rt : (BitVec 5)) (rs : (BitVec 5)) (w : Bool), (let c := s.coreOf i; let n := s.ringEsize r; let fits := ownLocal i ea n = some a ∧ ea % 16 = 0; s.calm ∧ i < 24 ∧ r < 128 ∧ s.coreLive i = true ∧ pcOk c.seq = true ∧ s.ringEn r = true ∧ fits ∧ s.ringLen r ≤ 4096 ∧ c.wait = some (.push rt.toNat ea r) ∧ s.ringProd r = ⟨3, i⟩ ∧ s.ringFull r = false ∧ s.poisoned a n = false)) :=
  ⟨⟨(ringUp [] id), 3, 5, 0xE0000100, (0x100000000 + 0x100000 * 3 + 0x100), 9, 7, false, by decide +kernel⟩,
   ⟨(ringUp [(F.TCE_QTAIL_INDEX 5, 3)] id), 3, 5, 0xE0000100, (0x100000000 + 0x100000 * 3 + 0x100), 9, 7, false, by decide +kernel⟩,
   ⟨(ringUp [(F.TCE_QTAIL_INDEX 5, 3)] id), 3, 5, 0xE0000100, (0x100000000 + 0x100000 * 3 + 0x100), 9, 7, true, by decide +kernel⟩,
   ⟨(ringUp [(F.TCE_QTAIL_INDEX 5, 0), (F.TCE_QHEAD_INDEX 5, 3)] id), 3, 5, 0xE0000100, (0x100000000 + 0x100000 * 3 + 0x100), 9, 7, true, by decide +kernel⟩,
   ⟨(ringUp [] id), 3, 5, 0xE0000100, (0x100000000 + 0x100000 * 3 + 0x100), 9, 7, false, by decide +kernel⟩,
   ⟨(ringUp [] id), 3, 5, 0xE0000100, (0x100000000 + 0x100000 * 3 + 0x100), 9, 7, true, by decide +kernel⟩,
   ⟨(ringUp [(F.TCE_QCFG_PCORE 5, 4)] id), 3, 5, 0xE0000100, (0x100000000 + 0x100000 * 3 + 0x100), 9, 7, true, by decide +kernel⟩,
   ⟨(ringUp [] (fun c => { c with wait := some (.push 9 0xE0000100 5) })), 3, 5, 0xE0000100, (0x100000000 + 0x100000 * 3 + 0x100), 9, 7, false, by decide +kernel⟩⟩

theorem witness_CoreRingsAndClaims_2 :
    (∃ (s : State) (i : Nat) (r : Nat) (ea : Nat) (a : Nat) (rt : (BitVec 5)) (rs : (BitVec 5)) (w : Bool), (let c := s.coreOf i; let n := s.ringEsize r; let fits := ownLocal i ea n = some a ∧ ea % 16 = 0; s.calm ∧ i < 24 ∧ r < 128 ∧ s.coreLive i = true ∧ pcOk c.seq = true ∧ s.ringEn r = true ∧ fits ∧ s.ringLen r ≤ 4096 ∧ c.wait = some (.pop rt.toNat ea r) ∧ s.ringCons r = ⟨3, i⟩ ∧ s.ringEmpty r = false ∧ s.poisoned (s.ringAddr r (s.qhead r)) n = false))
    ∧ (∃ (s : State) (i : Nat) (r : Nat) (ea : Nat) (a : Nat) (rt : (BitVec 5)) (rs : (BitVec 5)) (w : Bool) (id : (BitVec 16)) (x : (BitVec 5)), (let c := s.coreOf i; s.calm ∧ i < 24 ∧ r < 128 ∧ (id = 0 ∨ x = 0) ∧ s.issues i ∧ c.swOn swSYS = true ∧ s.ridExists (if id = 0 then (c.get x).toNat % 65536 else id.toNat) = true ∧ s.owned (if id = 0 then (c.get x).toNat % 65536 else id.toNat) = false))
    ∧ (∃ (s : State) (i : Nat) (r : Nat) (ea : Nat) (a : Nat) (rt : (BitVec 5)) (rs : (BitVec 5)) (w : Bool) (id : (BitVec 16)) (x : (BitVec 5)), (let c := s.coreOf i; s.calm ∧ i < 24 ∧ r < 128 ∧ (id = 0 ∨ x = 0) ∧ s.issues i ∧ c.swOn swSYS = true ∧ s.owned (if id = 0 then (c.get x).toNat % 65536 else id.toNat) = true ∧ s.histRoom))
    ∧ (∃ (s : State) (i : Nat) (r : Nat) (ea : Nat) (a : Nat) (rt : (BitVec 5)) (rs : (BitVec 5)) (w : Bool) (id : (BitVec 16)) (x : (BitVec 5)), (let c := s.coreOf i; s.calm ∧ i < 24 ∧ r < 128 ∧ (id = 0 ∨ x = 0) ∧ s.issues i ∧ c.swOn swSYS = true ∧ s.ridExists (if id = 0 then (c.get x).toNat % 65536 else id.toNat) = true ∧ s.owns (.core i) (if id = 0 then (c.get x).toNat % 65536 else id.toNat) = true ∧ ridClass (if id = 0 then (c.get x).toNat % 65536 else id.toNat) = 3))
    ∧ (∃ (s : State) (i : Nat) (r : Nat) (ea : Nat) (a : Nat) (rt : (BitVec 5)) (rs : (BitVec 5)) (w : Bool), (let c := s.coreOf i; let n := s.ringEsize r; let fits := ownLocal i ea n = some a ∧ ea % 16 = 0; s.calm ∧ i < 24 ∧ r < 128 ∧ s.issues i ∧ (c.get rs).toNat = ea ∧ fits ∧ s.ringLen r ≤ 4096 ∧ s.histRoom ∧ (s.ringEn r = false ∨ s.ringCons r ≠ ⟨3, i⟩)))
    ∧ (∃ (s : State) (i : Nat) (r : Nat) (ea : Nat) (a : Nat) (rt : (BitVec 5)) (rs : (BitVec 5)) (w : Bool) (id : (BitVec 16)) (x : (BitVec 5)), (let c := s.coreOf i; s.calm ∧ i < 24 ∧ r < 128 ∧ (id = 0 ∨ x = 0) ∧ s.issues i ∧ c.swOn swSYS = true ∧ s.ridExists (if id = 0 then (c.get x).toNat % 65536 else id.toNat) = true ∧ s.owns (.core i) (if id = 0 then (c.get x).toNat % 65536 else id.toNat) = true ∧ (s.release (if id = 0 then (c.get x).toNat % 65536 else id.toNat)).runsOn i))
    ∧ (∃ (s : State) (i : Nat) (r : Nat) (ea : Nat) (a : Nat) (rt : (BitVec 5)) (rs : (BitVec 5)) (w : Bool) (id : (BitVec 16)) (x : (BitVec 5)), (let c := s.coreOf i; s.calm ∧ i < 24 ∧ r < 128 ∧ (id = 0 ∨ x = 0) ∧ s.issues i ∧ c.swOn swSYS = true ∧ s.ridExists (if id = 0 then (c.get x).toNat % 65536 else id.toNat) = true ∧ s.owns (.core i) (if id = 0 then (c.get x).toNat % 65536 else id.toNat) = false ∧ s.histRoom)) :=
  ⟨⟨(ringUp [(F.TCE_QTAIL_INDEX 5, 1)] (fun c => { c with wait := some (.pop 9 0xE0000100 5) })), 3, 5, 0xE0000100, (0x100000000 + 0x100000 * 3 + 0x100), 9, 7, false, by decide +kernel⟩,
   ⟨(ringUp [] id), 3, 5, 0xE0000100, (0x100000000 + 0x100000 * 3 + 0x100), 9, 7, false, 0x3004, 0, by decide +kernel⟩,
   ⟨({ ringUp [] id with claims := [(0x3004, ⟨3, 4⟩)] }), 3, 5, 0xE0000100, (0x100000000 + 0x100000 * 3 + 0x100), 9, 7, false, 0x3004, 0, by decide +kernel⟩,
   ⟨({ ringUp [] id with claims := [(0x3004, ⟨3, 3⟩)] }), 3, 5, 0xE0000100, (0x100000000 + 0x100000 * 3 + 0x100), 9, 7, false, 0x3004, 0, by decide +kernel⟩,
   ⟨(ringUp [(F.TCE_QCFG_CCORE 5, 4)] id), 3, 5, 0xE0000100, (0x100000000 + 0x100000 * 3 + 0x100), 9, 7, true, by decide +kernel⟩,
   ⟨({ ringUp [] (fun c => { c with wait := none }.set 4 0x10020) with claims := [(padRid (snsPad 0), ⟨3, 3⟩)] }), 3, 5, 0xE0000100, (0x100000000 + 0x100000 * 3 + 0x100), 9, 7, false, (BitVec.ofNat 16 (padRid (snsPad 0))), 0, by decide +kernel⟩,
   ⟨({ ringUp [] (fun c => c.set 4 0x13004) with claims := [(0x3004, ⟨3, 4⟩)] }), 3, 5, 0xE0000100, (0x100000000 + 0x100000 * 3 + 0x100), 9, 7, false, 0, 4, by decide +kernel⟩⟩

def vUp (i : Nat) (f : Core → Core) : State := { put up [(F.TCE_CSTAT_STATE i, csRUN)] with cores := vmod up.cores i (fun c => f { c with pc := 0xE0000040 }) }
def vv (l : List Int) (e : BitVec 6) : VReg := { m := lanes (fun k => BitVec.ofInt 16 (l.getD k 0)), e := e }
def setv (r : Nat) (v : VReg) (c : Core) : Core := { c with v := vmod c.v r (fun _ => v) }
def seta (r : Nat) (l : List Int) (e : BitVec 6) (c : Core) : Core := { c with a := vmod c.a r (fun _ => { l := lanes (fun k => BitVec.ofInt 40 (l.getD k 0)), e := e }) }
def macUp : State := vUp 20 (fun c => seta 3 [2 ^ 39 - 1, -5, 7] 10 (setv 1 (vv [32767, -32767, 100, 5] 63) (setv 2 (vv [32767, 32767, -1, 9] 12) c)))
def tblUp : State :=
  let s := vUp 16 (fun c => setv 1 (vv [32767, -32768, 0, -1] 63) (c.set 5 0xE0000200))
  s.wrBytes (0x100000000 + 0x100000 * 16 + 0x200) ([2, 0, 0x45, 0, 0, 0, 0, 0] ++ leBytes 2 32767 ++ leBytes 2 (ofSigned 16 (-32767)))
def tblUpT : State :=
  let s := vUp 16 (fun c => setv 1 (vv [32767, -32768, 0, -1] 63) (c.set 5 0xC0000200))
  s.wrBytes 0xC0000200 ([2, 0, 0x45, 0, 0, 0, 0, 0] ++ leBytes 2 32767 ++ leBytes 2 (ofSigned 16 (-32767)))

theorem witness_VectorArithmetic :
    (∃ (s : State) (i : Nat) (vd : (BitVec 4)) (va : (BitVec 4)) (vb : (BitVec 4)) (g : (BitVec 5)) (func : (BitVec 9)), (let f := func.toNat; s.calm ∧ s.issues i ∧ 16 ≤ i ∧ vd.toNat < 4 ∧ f < 64))
    ∧ (∃ (s : State) (i : Nat) (vd : (BitVec 4)) (va : (BitVec 4)) (vb : (BitVec 4)) (g : (BitVec 5)) (func : (BitVec 9)), (let f := func.toNat; s.calm ∧ s.issues i ∧ 16 ≤ i ∧ vd.toNat < 4 ∧ f / 8 % 2 = 0 ∧ (f / 128 % 2 = 1 ∨ f / 16 % 8 = 0)))
    ∧ (∃ (s : State) (i : Nat) (vd : (BitVec 4)) (va : (BitVec 4)) (vb : (BitVec 4)) (g : (BitVec 5)) (func : (BitVec 9)), (let f := func.toNat; s.calm ∧ s.issues i ∧ 16 ≤ i ∧ vd.toNat < 4 ∧ f / 8 % 2 = 0 ∧ (f / 128 % 2 = 1 ∨ f / 16 % 8 = 0)))
    ∧ (∃ (s : State) (i : Nat) (vd : (BitVec 4)) (va : (BitVec 4)) (vb : (BitVec 4)) (g : (BitVec 5)) (func : (BitVec 9)), (let f := func.toNat; s.calm ∧ s.issues i ∧ 16 ≤ i ∧ va.toNat < 4 ∧ f / 64 % 4 = 0))
    ∧ (∃ (s : State) (i : Nat) (vd : (BitVec 4)) (va : (BitVec 4)) (vb : (BitVec 4)) (g : (BitVec 5)) (func : (BitVec 9)), (let f := func.toNat; s.calm ∧ s.issues i ∧ 16 ≤ i ∧ f < 8))
    ∧ (∃ (s : State) (i : Nat) (vd : (BitVec 4)) (va : (BitVec 4)) (vb : (BitVec 4)) (g : (BitVec 5)) (func : (BitVec 9)), (let f := func.toNat; s.calm ∧ s.issues i ∧ 16 ≤ i ∧ f < 3)) :=
  ⟨⟨macUp, 20, 3, 1, 2, 9, 63, by decide +kernel⟩,
   ⟨macUp, 20, 3, 1, 2, 9, 2, by decide +kernel⟩,
   ⟨macUp, 20, 3, 1, 2, 9, (256 + 128 + 16 + 7), by decide +kernel⟩,
   ⟨macUp, 20, 4, 3, 2, 9, (256 + 7), by decide +kernel⟩,
   ⟨(vUp 23 (fun c => setv 4 (vv [5, -9, 100] 2) (setv 1 (vv [32767, -32767, 100, 5] 3) (setv 2 (vv [40, 3, -1, 9] 5) c)))), 23, 4, 1, 2, 9, 7, by decide +kernel⟩,
   ⟨(vUp 23 (fun c => setv 1 (vv [40, -3, 9, -3] 5) c)), 23, 4, 1, 2, 9, 2, by decide +kernel⟩⟩

theorem witness_VectorMemory :
    (∃ (s : State) (i : Nat) (vd : (BitVec 4)) (va : (BitVec 4)) (ga : (BitVec 5)) (n1 : (BitVec 3)) (off : (BitVec 14)) (func : (BitVec 9)) (bad : Bool), (let c := s.coreOf i; let ea := (c.get ga + off.signExtend 32 * 4).toNat; s.calm ∧ s.issues i ∧ ∃ r ∈ s.coreReads i ((0x39 : BitVec 6) ++ vd ++ ga ++ n1 ++ off) ea 20 4 bad, 16 ≤ i ∧ r.1 / 2 ^ 134 % 4 = 0 ∧ r.2.runsOn i))
    ∧ (∃ (s : State) (i : Nat) (vd : (BitVec 4)) (va : (BitVec 4)) (ga : (BitVec 5)) (n1 : (BitVec 3)) (off : (BitVec 14)) (func : (BitVec 9)), (let c := s.coreOf i; let ea := (c.get ga + off.signExtend 32 * 4).toNat; s.calm ∧ s.issues i ∧ ∃ d ∈ s.coreReaches i ((0x3A : BitVec 6) ++ vd ++ ga ++ n1 ++ off) ea 20 4, 16 ≤ i ∧ (d.2 = true ∨ s.takesVector i d.1 20 = true)))
    ∧ (∃ (s : State) (i : Nat) (vd : (BitVec 4)) (va : (BitVec 4)) (ga : (BitVec 5)) (n1 : (BitVec 3)) (off : (BitVec 14)) (func : (BitVec 9)), (let c := s.coreOf i; let ea := (c.get ga + off.signExtend 32 * 4).toNat; s.calm ∧ s.issues i ∧ 16 ≤ i ∧ 0xE0000000 ≤ ea ∧ ea + 20 ≤ 0xE0040000 ∧ ea % 4 = 0 ∧ s.poisoned (0x100000000 + 0x100000 * i + (ea - 0xE0000000)) 20 = false ∧ s.rd (0x100000000 + 0x100000 * i + (ea - 0xE0000000) + 16) 1 < 64))
    ∧ (∃ (s : State) (i : Nat) (vd : (BitVec 4)) (va : (BitVec 4)) (ga : (BitVec 5)) (n1 : (BitVec 3)) (off : (BitVec 14)) (func : (BitVec 9)), (let c := s.coreOf i; let ea := (c.get ga + off.signExtend 32 * 4).toNat; s.calm ∧ s.issues i ∧ 16 ≤ i ∧ 0xE0000000 ≤ ea ∧ ea + 20 ≤ 0xE0040000 ∧ ea % 4 = 0))
    ∧ (∃ (s : State) (i : Nat) (vd : (BitVec 4)) (va : (BitVec 4)) (ga : (BitVec 5)) (n1 : (BitVec 3)) (off : (BitVec 14)) (func : (BitVec 9)) (N : Nat) (wrap : Bool) (b : Nat), (let c := s.coreOf i; s.calm ∧ s.issues i ∧ 16 ≤ i ∧ func.toNat < 8 ∧ 2 ≤ N ∧ N ≤ 1024 ∧ ((b = 0x100000000 + 0x100000 * i + ((c.get ga).toNat - 0xE0000000) ∧ (0xE0000000 ≤ (c.get ga).toNat ∧ (c.get ga).toNat + (8 + 2 * N) ≤ 0xE0040000 ∧ (c.get ga).toNat % 4 = 0)) ∨ (b = (c.get ga).toNat ∧ 0xC0000000 ≤ b ∧ b + 8 + 2 * N ≤ 0xC0100000 ∧ b % 4 = 0 ∧ c.swOn swSYS = true)) ∧ s.poisoned b (8 + 2 * N) = false ∧ s.rd b 2 = N ∧ s.rd (b + 2) 1 / 64 = wrap.toNat ∧ s.rd (b + 3) 4 = 0 ∧ s.rd (b + 7) 1 = 0))
    ∧ (∃ (s : State) (i : Nat) (vd : (BitVec 4)) (va : (BitVec 4)) (ga : (BitVec 5)) (n1 : (BitVec 3)) (off : (BitVec 14)) (func : (BitVec 9)) (N : Nat) (wrap : Bool) (b : Nat), (let c := s.coreOf i; s.calm ∧ s.issues i ∧ 16 ≤ i ∧ func.toNat < 8 ∧ 2 ≤ N ∧ N ≤ 1024 ∧ ((b = 0x100000000 + 0x100000 * i + ((c.get ga).toNat - 0xE0000000) ∧ (0xE0000000 ≤ (c.get ga).toNat ∧ (c.get ga).toNat + (8 + 2 * N) ≤ 0xE0040000 ∧ (c.get ga).toNat % 4 = 0)) ∨ (b = (c.get ga).toNat ∧ 0xC0000000 ≤ b ∧ b + 8 + 2 * N ≤ 0xC0100000 ∧ b % 4 = 0 ∧ c.swOn swSYS = true)) ∧ s.poisoned b (8 + 2 * N) = false ∧ s.rd b 2 = N ∧ s.rd (b + 2) 1 / 64 = wrap.toNat ∧ s.rd (b + 3) 4 = 0 ∧ s.rd (b + 7) 1 = 0))
    ∧ (∃ (s : State) (i : Nat) (vd : (BitVec 4)) (va : (BitVec 4)) (ga : (BitVec 5)) (n1 : (BitVec 3)) (off : (BitVec 14)) (func : (BitVec 9)), (let c := s.coreOf i; s.calm ∧ s.issues i ∧ i < 16 ∧ s.histRoom ∧ c.swOn swINFAULT = false)) :=
  ⟨⟨(vUp 16 (fun c => c.set 5 0xC0000200)), 16, 3, 1, 5, 2, 0x3FFF, 0, false, by decide +kernel⟩,
   ⟨(vUp 16 (fun c => setv 3 (vv [1, -2, 3, 4] 63) (c.set 5 0xC0000200))), 16, 3, 1, 5, 2, 0, 0, by decide +kernel⟩,
   ⟨((vUp 16 (fun c => c.set 5 0xE0000200)).wr (0x100000000 + 0x100000 * 16 + 0x1FC) 8 0x8765432189ABCDEF), 16, 3, 1, 5, 2, 0x3FFF, 0, by decide +kernel⟩,
   ⟨(vUp 16 (fun c => setv 3 (vv [1, -2, 3, 4] 63) (c.set 5 0xE003FFEC))), 16, 3, 1, 5, 7, 0, 0, by decide +kernel⟩,
   ⟨tblUp, 16, 3, 1, 5, 7, 0, 3, 2, true, (0x100000000 + 0x100000 * 16 + 0x200), by decide +kernel⟩,
   ⟨tblUpT, 16, 3, 1, 5, 7, 0, 3, 2, true, 0xC0000200, by decide +kernel⟩,
   ⟨(vUp 15 id), 15, 3, 1, 5, 7, 0, 3, by decide +kernel⟩⟩

end Sys2Proof.Tests
end

