-- ==== Sys2Proof/Tests/WitHeat.lean ====
section
/-! SUPPORT. Witnesses: states and operands that meet the hypotheses of each clause of the statements, clause by clause. -/

namespace Sys2Proof.Tests

open Sys2Proof Sys2Proof.Machine

set_option maxRecDepth 100000
set_option linter.unusedVariables false
set_option Elab.async false

def motAt (st : Nat) (l : List (FieldRef × Nat)) (f : Mot → Mot) : State := let s := put up ([(F.MOT_CTRL_EN 7, 1), (F.MOT_STAT_STATE 7, st)] ++ l); { s with mot := vmod s.mot 7 f }
def ms0 : MotSample := { ia := -3, ib := 4, angle := 65535, speed := -8388608, pos := -7, bemf := 9, counts := -2 }
def vs0 : List (Int × Int × Int) := [(5, 0, 0), (5, 9, 0), (0, 9, 0), (0, 9, 9), (0, 0, 9), (5, 0, 9)]
def winAt0 (m : Mot) : Mot := { m with winAt := some 0 }
theorem angle_moved (a d : Nat) (h : a < 65536) (hd : d ≤ 32768) : toSigned 16 (a + 65536 - (a + d) % 65536 % 65536) = -(d : Int) := by
  unfold toSigned
  split <;> omega
def hallBase : State := motAt 3 [(F.MOT_CTRL_SENSOR 7, 1)] (fun m => { m with dwell := 2 })
def hallAt (d : Nat) : State := { hallBase with mot := vmod hallBase.mot 7 (fun m => { m with align1 := (hallBase.sensorAngle 7 + d) % 65536 }) }
theorem hall_same (s : State) (a : Nat) :
    ({ s with mot := vmod s.mot 7 (fun m => { m with align1 := a }) } : State).sensorAngle 7 = s.sensorAngle 7
      ∧ (({ s with mot := vmod s.mot 7 (fun m => { m with align1 := a }) } : State).motOf 7).align1 = a := by
  have h : ({ s with mot := vmod s.mot 7 (fun m => { m with align1 := a }) } : State).motOf 7 = { s.motOf 7 with align1 := a } := by
    simp [State.motOf, vget, vmod]
  refine ⟨?_, by rw [h]⟩
  unfold State.sensorAngle
  rw [h]
  rfl
theorem hall_lt (s : State) (h : s.g (F.MOT_CTRL_SENSOR 7) = 1) : s.sensorAngle 7 < 65536 := by
  unfold State.sensorAngle
  rw [h]
  exact (Int.toNat_lt (Int.emod_nonneg _ (by decide))).mpr (Int.emod_lt_of_pos _ (by decide))
theorem hall_moved (d : Nat) (hd : d ≤ 32768) :
    toSigned 16 ((hallAt d).sensorAngle 7 + 65536 - ((hallAt d).motOf 7).align1 % 65536) = -(d : Int) := by
  have h := hall_same hallBase ((hallBase.sensorAngle 7 + d) % 65536)
  have h3 : hallBase.g (F.MOT_CTRL_SENSOR 7) = 1 := by decide +kernel
  unfold hallAt
  rw [h.1, h.2]
  exact angle_moved _ _ (hall_lt _ h3) hd
def busAt (l : List (FieldRef × Nat)) (f : Stp → Stp) : State := let s := motAt 5 ([(F.STP_CTRL_EN 11, 1), (F.STP_CTRL_MODE 11, 1), (F.STP_BUS0_VBRAKE 11, 300), (F.STP_BUS0_HYST 11, 10), (F.STP_BUS1_VOV1 11, 400), (F.STP_BUS1_VOV2 11, 500), (F.STP_BUS2_SCALE 11, 65535), (F.MOT_CTRL_BUSSTP 7, 11)] ++ l) id; { s with stp := vmod s.stp 11 f }
def stpAt (st : Nat) (pos target : Int) (l : List (FieldRef × Nat)) (f : Stp → Stp) : State :=
  let s := putA (put up ([(F.STP_CTRL_EN 11, 1), (F.STP_STAT_STATE 11, st), (F.STP_POS_POS 11, ofSigned 32 pos)] ++ l)) [(F.STP_TARGET_POS 11, ofSigned 32 target), (F.STP_VSTART_V 11, 50)]
  { s with stp := vmod s.stp 11 f }

theorem witness_MotorEvents_1 :
    (∃ (s : State) (n : Nat) (dir : Bool), (let st := s.motState n; s.plain ∧ s.motEn n = true ∧ st = 0 ∧ s.on F.FCL_STAT_KETTLE = false))
    ∧ (∃ (s : State) (n : Nat) (dir : Bool), (let st := s.motState n; s.plain ∧ s.motEn n = true ∧ st = 0 ∧ s.on F.FCL_STAT_KETTLE = true))
    ∧ (∃ (s : State) (n : Nat) (dir : Bool), (let st := s.motState n; s.plain ∧ s.motEn n = true ∧ st ≠ 0))
    ∧ (∃ (s : State) (n : Nat) (v : Nat), (let rev := s.on (F.MOT_CFG_REV n); s.plain ∧ s.motEn n = true ∧ v < 2 ^ 24 ∧ (v ≠ 0x800000 ∨ rev = false)))
    ∧ (∃ (s : State) (n : Nat) (v : Nat), (let rev := s.on (F.MOT_CFG_REV n); s.plain ∧ s.motEn n = true ∧ v < 2 ^ 24 ∧ (v ≠ 0x800000 ∨ rev = false)))
    ∧ (∃ (s : State) (n : Nat), s.plain ∧ s.motEn n = true ∧ s.g (F.MOT_CTRL_MODE n) = 1)
    ∧ (∃ (s : State) (n : Nat), s.plain ∧ s.motEn n = true ∧ s.g (F.MOT_CTRL_MODE n) ≠ 1)
    ∧ (∃ (s : State) (n : Nat), s.plain ∧ s.motEn n = true ∧ n = 7) :=
  ⟨⟨(motAt 0 [(F.MOT_CFG_REV 7, 1)] id), 7, true, by decide +kernel⟩,
   ⟨(motAt 0 [(F.FCL_STAT_KETTLE, 1)] id), 7, true, by decide +kernel⟩,
   ⟨(motAt 5 [] id), 7, true, by decide +kernel⟩,
   ⟨(motAt 5 [(F.MOT_CFG_REV 7, 1)] id), 7, 0x800001, by decide +kernel⟩,
   ⟨(motAt 5 [] id), 7, 0x800000, by decide +kernel⟩,
   ⟨(motAt 5 [(F.MOT_CTRL_MODE 7, 1), (F.MOT_SREF_SPEED 7, 77)] id), 7, by decide +kernel⟩,
   ⟨(motAt 5 [(F.MOT_CTRL_MODE 7, 0)] id), 7, by decide +kernel⟩,
   ⟨(motAt 5 [] (fun m => { m with gear := true })), 7, by decide +kernel⟩⟩

theorem witness_MotorEvents_2 :
    (∃ (s : State) (n : Nat), (let st := s.motState n; s.plain ∧ s.motEn n = true ∧ 1 ≤ st ∧ st ≤ 5))
    ∧ (∃ (s : State) (n : Nat), (let st := s.motState n; s.plain ∧ s.motEn n = true ∧ (st = 0 ∨ 6 ≤ st ∧ st ≤ 8)))
    ∧ (∃ (s : State) (n : Nat) (v : Nat), (let st := s.motState n; s.plain ∧ s.motEn n = true ∧ st = 5))
    ∧ (∃ (s : State) (n : Nat) (v : Nat), (let st := s.motState n; s.plain ∧ s.motEn n = true ∧ st ≠ 5))
    ∧ (∃ (s : State) (n : Nat) (x : MotSample), (let st := s.motState n; s.plain ∧ s.motEn n = true ∧ s.atPeriod n = true ∧ s.reached (.motPwm n) = false ∧ s.reached (.motAdv n) = false ∧ st ≠ 5 ∧ st ≤ 8))
    ∧ (∃ (s : State) (n : Nat) (x : MotSample), (let st := s.motState n; s.plain ∧ s.motEn n = true ∧ s.atPeriod n = true ∧ s.reached (.motPwm n) = false ∧ s.reached (.motAdv n) = false ∧ st ≠ 5 ∧ st ≤ 8))
    ∧ (∃ (s : State) (n : Nat) (x : MotSample), (let st := s.motState n; s.plain ∧ s.motEn n = true ∧ s.atPeriod n = true ∧ s.reached (.motPwm n) = false ∧ s.reached (.motAdv n) = false ∧ st ≠ 5 ∧ st ≤ 8))
    ∧ (∃ (s : State) (n : Nat) (x : MotSample), (let st := s.motState n; s.plain ∧ s.motEn n = true ∧ s.atPeriod n = true ∧ s.reached (.motPwm n) = false ∧ s.reached (.motAdv n) = false ∧ st ≠ 5 ∧ st ≤ 8)) :=
  ⟨⟨(motAt 5 [] id), 7, by decide +kernel⟩,
   ⟨(motAt 6 [] id), 7, by decide +kernel⟩,
   ⟨(motAt 5 [] id), 7, 0x80007FFF, by decide +kernel⟩,
   ⟨(motAt 4 [] id), 7, 0x80007FFF, by decide +kernel⟩,
   ⟨(putA (motAt 0 [] id) [(F.MOT_PWM_SPOS 7, 2)]), 7, ms0, by decide +kernel⟩,
   ⟨(putA (motAt 1 [] id) [(F.MOT_PWM_SPOS 7, 2)]), 7, ms0, by decide +kernel⟩,
   ⟨(putA (motAt 2 [] id) [(F.MOT_PWM_SPOS 7, 2)]), 7, ms0, by decide +kernel⟩,
   ⟨(motAt 3 [] id), 7, ms0, by decide +kernel⟩⟩

theorem witness_MotorEvents_3 :
    (∃ (s : State) (n : Nat) (x : MotSample), (let st := s.motState n; s.plain ∧ s.motEn n = true ∧ s.atPeriod n = true ∧ s.reached (.motPwm n) = false ∧ s.reached (.motAdv n) = false ∧ st ≠ 5 ∧ st ≤ 8))
    ∧ (∃ (s : State) (n : Nat) (x : MotSample), (let st := s.motState n; s.plain ∧ s.motEn n = true ∧ s.atPeriod n = true ∧ s.reached (.motPwm n) = false ∧ s.reached (.motAdv n) = false ∧ st ≠ 5 ∧ st ≤ 8))
    ∧ (∃ (s : State) (n : Nat) (x : MotSample), (let st := s.motState n; s.plain ∧ s.motEn n = true ∧ s.atPeriod n = true ∧ s.reached (.motPwm n) = false ∧ s.reached (.motAdv n) = false ∧ st ≠ 5 ∧ st ≤ 8))
    ∧ (∃ (s : State) (n : Nat) (x : MotSample), (let st := s.motState n; s.plain ∧ s.motEn n = true ∧ s.atPeriod n = true ∧ s.reached (.motPwm n) = false ∧ s.reached (.motAdv n) = false ∧ st ≠ 5 ∧ st ≤ 8))
    ∧ (∃ (s : State) (n : Nat) (x : MotSample), s.plain ∧ s.motEn n = true ∧ s.atPeriod n = false ∧ s.atCentre n = true ∧ s.ga (F.MOT_PWM_SPOS n) ≠ 0 ∧ s.adcLive (motSlots n) = true)
    ∧ (∃ (s : State) (n : Nat) (x : MotSample) (vq : Int) (vd : Int), (let st := s.motState n; s.plain ∧ s.motEn n = true ∧ s.atPeriod n = true ∧ s.reached (.motPwm n) = false ∧ s.reached (.motAdv n) = false ∧ st = 5 ∧ (s.motOf n).vNext = some (vq, vd) ∧ -32768 ≤ vd ∧ vd < 32768 ∧ -32768 ≤ vq ∧ vq < 32768 ∧ (s.sensorless n = false ∨ (s.motOf n).lost < 31) ∧ 0 < s.g (F.MOT_LIM_RUNWD n)))
    ∧ (∃ (s : State) (n : Nat) (x : MotSample), (let st := s.motState n; s.plain ∧ s.motEn n = true ∧ s.atPeriod n = true ∧ s.reached (.motPwm n) = false ∧ s.reached (.motAdv n) = false ∧ st = 5 ∧ (s.motOf n).vNext = none ∧ s.g (F.MOT_LIM_RUNWD n) ≤ (s.motOf n).age + 1))
    ∧ (∃ (s : State) (n : Nat) (a : Int) (b : Int), s.plain ∧ s.motEn n = true ∧ (s.motOf n).ofsDone = false ∧ 20 * a.natAbs ≤ 32768 ∧ 20 * b.natAbs ≤ 32768) :=
  ⟨⟨(motAt 4 [] id), 7, ms0, by decide +kernel⟩,
   ⟨(motAt 6 [] id), 7, ms0, by decide +kernel⟩,
   ⟨(motAt 7 [] id), 7, ms0, by decide +kernel⟩,
   ⟨(motAt 8 [] id), 7, ms0, by decide +kernel⟩,
   ⟨({ putA (motAt 5 [] id) [(F.MOT_PWM_SPOS 7, 2)] with cord := 200000003125 }), 7, ms0, by decide +kernel⟩,
   ⟨(motAt 5 [(F.MOT_CTRL_SENSOR 7, 0), (F.MOT_LIM_RUNWD 7, 3)] (fun m => { m with vNext := some (-32768, 1), lost := 30 })), 7, ms0, (-32768), 1, by decide +kernel⟩,
   ⟨(motAt 5 [(F.MOT_CTRL_SENSOR 7, 1), (F.MOT_LIM_RUNWD 7, 3)] (fun m => { m with age := 2 })), 7, ms0, by decide +kernel⟩,
   ⟨(motAt 0 [] id), 7, 1638, (-1638), by decide +kernel⟩⟩

theorem witness_MotorEvents_4 :
    (∃ (s : State) (n : Nat) (a : Int) (b : Int), s.plain ∧ s.motEn n = true ∧ (s.motOf n).ofsDone = false ∧ (32768 < 20 * a.natAbs ∨ 32768 < 20 * b.natAbs)) :=
  ⟨(motAt 0 [] id), 7, 1638, (-1639), by decide +kernel⟩

theorem witness_MotorStart_1 :
    (∃ (s : State) (n : Nat) (vs : (List (Int × Int × Int))) (speed : Int) (angle : Nat) (w : Int), (let st := s.motState n; s.plain ∧ s.motEn n = true ∧ st = 1 ∧ s.windowFor n (20 * msTicks) = true ∧ w = (match consistent (s.windowCrossings n vs) with | none => 0 | some neg => if s.sensorless n = true then (if neg then -(s.crossSpeed n (s.windowCrossings n vs) : Int) else (s.crossSpeed n (s.windowCrossings n vs) : Int)) else speed) ∧ s.windowHigh n vs = true))
    ∧ (∃ (s : State) (n : Nat) (vs : (List (Int × Int × Int))) (speed : Int) (angle : Nat) (w : Int), (let st := s.motState n; s.plain ∧ s.motEn n = true ∧ st = 1 ∧ s.windowFor n (20 * msTicks) = true ∧ w = (match consistent (s.windowCrossings n vs) with | none => 0 | some neg => if s.sensorless n = true then (if neg then -(s.crossSpeed n (s.windowCrossings n vs) : Int) else (s.crossSpeed n (s.windowCrossings n vs) : Int)) else speed) ∧ s.windowHigh n vs = false ∧ ¬(consistent (s.windowCrossings n vs) ≠ none ∧ s.atCatch n w = true)))
    ∧ (∃ (s : State) (n : Nat) (vs : (List (Int × Int × Int))) (speed : Int) (angle : Nat) (w : Int), (let st := s.motState n; let m := s.motOf n; s.plain ∧ s.motEn n = true ∧ st = 1 ∧ s.windowFor n (20 * msTicks) = true ∧ w = (match consistent (s.windowCrossings n vs) with | none => 0 | some neg => if s.sensorless n = true then (if neg then -(s.crossSpeed n (s.windowCrossings n vs) : Int) else (s.crossSpeed n (s.windowCrossings n vs) : Int)) else speed) ∧ s.windowHigh n vs = false ∧ (consistent (s.windowCrossings n vs) ≠ none ∧ s.atCatch n w = true) ∧ (w < 0 ↔ m.dirCmd = true) ∧ (s.sensorless n = false ∨ s.atHop n w = true)))
    ∧ (∃ (s : State) (n : Nat) (vs : (List (Int × Int × Int))) (speed : Int) (angle : Nat) (w : Int), (let st := s.motState n; let m := s.motOf n; s.plain ∧ s.motEn n = true ∧ st = 1 ∧ s.windowFor n (20 * msTicks) = true ∧ w = (match consistent (s.windowCrossings n vs) with | none => 0 | some neg => if s.sensorless n = true then (if neg then -(s.crossSpeed n (s.windowCrossings n vs) : Int) else (s.crossSpeed n (s.windowCrossings n vs) : Int)) else speed) ∧ s.windowHigh n vs = false ∧ (consistent (s.windowCrossings n vs) ≠ none ∧ s.atCatch n w = true) ∧ (w < 0 ↔ m.dirCmd = true) ∧ s.sensorless n = true ∧ s.atHop n w = false))
    ∧ (∃ (s : State) (n : Nat) (vs : (List (Int × Int × Int))) (speed : Int) (angle : Nat) (w : Int), (let st := s.motState n; let m := s.motOf n; s.plain ∧ s.motEn n = true ∧ st = 1 ∧ s.windowFor n (20 * msTicks) = true ∧ w = (match consistent (s.windowCrossings n vs) with | none => 0 | some neg => if s.sensorless n = true then (if neg then -(s.crossSpeed n (s.windowCrossings n vs) : Int) else (s.crossSpeed n (s.windowCrossings n vs) : Int)) else speed) ∧ s.windowHigh n vs = false ∧ (consistent (s.windowCrossings n vs) ≠ none ∧ s.atCatch n w = true) ∧ ¬(w < 0 ↔ m.dirCmd = true)))
    ∧ (∃ (s : State) (n : Nat) (peak : Nat), (let st := s.motState n; s.plain ∧ s.motEn n = true ∧ st = 1 ∧ s.windowFor n 0 = true ∧ 100 * s.vbusOf n ≤ peak))
    ∧ (∃ (s : State) (n : Nat) (peak : Nat), (let st := s.motState n; s.plain ∧ s.motEn n = true ∧ st = 1 ∧ s.windowFor n 0 = true ∧ peak < 100 * s.vbusOf n))
    ∧ (∃ (s : State) (n : Nat) (w : Int), (let st := s.motState n; let m := s.motOf n; s.plain ∧ s.motEn n = true ∧ st = 2 ∧ s.atCatch n w = false ∧ m.offAt = none)) :=
  ⟨⟨(motAt 1 [(F.STP_BUSSTAT_VBUS 0, 0), (F.MOT_CTRL_SENSOR 7, 1)] winAt0), 7, vs0, (-8000000), 5, (-8000000), by decide +kernel⟩,
   ⟨(motAt 1 [(F.MOT_RATED_CATCHPCT 7, 10), (F.MOT_RATED_SPEED 7, 1000), (F.STP_BUSSTAT_VBUS 0, 1), (F.MOT_CTRL_SENSOR 7, 1)] winAt0), 7, vs0, 1, 5, 1, by decide +kernel⟩,
   ⟨(motAt 1 [(F.MOT_RATED_CATCHPCT 7, 10), (F.MOT_RATED_SPEED 7, 1000), (F.STP_BUSSTAT_VBUS 0, 1), (F.MOT_CTRL_SENSOR 7, 1)] (fun m => { m with winAt := some 0, dirCmd := true })), 7, vs0, (-8000000), 5, (-8000000), by decide +kernel⟩,
   ⟨(motAt 1 [(F.MOT_RATED_CATCHPCT 7, 1), (F.MOT_RATED_HOPCT 7, 100), (F.MOT_RATED_SPEED 7, 16960), (F.MOT_CFG_POLES 7, 50), (F.STP_BUSSTAT_VBUS 0, 1), (F.MOT_CTRL_SENSOR 7, 0)] (fun m => { m with winAt := some 0, dirCmd := false })), 7, vs0, 0, 5, 128000, by decide +kernel⟩,
   ⟨(motAt 1 [(F.MOT_RATED_CATCHPCT 7, 10), (F.MOT_RATED_SPEED 7, 1000), (F.STP_BUSSTAT_VBUS 0, 1), (F.MOT_CTRL_SENSOR 7, 1)] winAt0), 7, vs0, (-8000000), 5, (-8000000), by decide +kernel⟩,
   ⟨(motAt 1 [(F.STP_BUSSTAT_VBUS 0, 3)] winAt0), 7, 300, by decide +kernel⟩,
   ⟨(motAt 1 [(F.STP_BUSSTAT_VBUS 0, 3)] winAt0), 7, 299, by decide +kernel⟩,
   ⟨(motAt 2 [(F.MOT_RATED_CATCHPCT 7, 10), (F.MOT_RATED_SPEED 7, 1000)] id), 7, (-1), by decide +kernel⟩⟩

theorem witness_MotorStart_2 :
    (∃ (s : State) (n : Nat) (x : MotSample) (since : Nat), (let st := s.motState n; let m := s.motOf n; s.plain ∧ s.motEn n = true ∧ st = 2 ∧ m.offAt = some since ∧ since + s.ga (F.MOT_PWM_PERIOD n) ≤ s.now ∧ s.atPeriod n = true ∧ s.reached (.motPwm n) = false ∧ s.reached (.motAdv n) = false))
    ∧ (∃ (s : State) (n : Nat), (let st := s.motState n; let m := s.motOf n; s.plain ∧ s.motEn n = true ∧ st = 2 ∧ m.offAt = none ∧ m.entered + 2000 * msTicks ≤ s.now))
    ∧ (∃ (s : State) (n : Nat), (let st := s.motState n; let m := s.motOf n; s.plain ∧ s.motEn n = true ∧ st = 3 ∧ m.dwell = 1 ∧ m.entered + s.g (F.MOT_ALIGN_ALIGNT n) * 5 * msTicks ≤ s.now))
    ∧ (∃ (s : State) (n : Nat), (let st := s.motState n; let m := s.motOf n; s.plain ∧ s.motEn n = true ∧ st = 3 ∧ m.dwell = 2 ∧ m.entered + s.g (F.MOT_ALIGN_ALIGNT n) * 5 * msTicks / 2 ≤ s.now ∧ s.sensorless n = true))
    ∧ (∃ (s : State) (n : Nat), (let st := s.motState n; let m := s.motOf n; s.plain ∧ s.motEn n = true ∧ st = 3 ∧ m.dwell = 2 ∧ m.entered + s.g (F.MOT_ALIGN_ALIGNT n) * 5 * msTicks / 2 ≤ s.now ∧ s.sensorless n = false ∧ 8192 ≤ toSigned 16 (s.sensorAngle n + 65536 - m.align1 % 65536) ∧ toSigned 16 (s.sensorAngle n + 65536 - m.align1 % 65536) ≤ 24576))
    ∧ (∃ (s : State) (n : Nat), (let st := s.motState n; let m := s.motOf n; s.plain ∧ s.motEn n = true ∧ st = 3 ∧ m.dwell = 2 ∧ m.entered + s.g (F.MOT_ALIGN_ALIGNT n) * 5 * msTicks / 2 ≤ s.now ∧ s.g (F.MOT_CTRL_SENSOR n) = 2 ∧ -24576 ≤ toSigned 16 (s.sensorAngle n + 65536 - m.align1 % 65536) ∧ toSigned 16 (s.sensorAngle n + 65536 - m.align1 % 65536) ≤ -8192 ∧ m.again = false))
    ∧ (∃ (s : State) (n : Nat), (let st := s.motState n; let m := s.motOf n; s.plain ∧ s.motEn n = true ∧ st = 3 ∧ m.dwell = 2 ∧ m.entered + s.g (F.MOT_ALIGN_ALIGNT n) * 5 * msTicks / 2 ≤ s.now ∧ s.g (F.MOT_CTRL_SENSOR n) = 1 ∧ -24576 ≤ toSigned 16 (s.sensorAngle n + 65536 - m.align1 % 65536) ∧ toSigned 16 (s.sensorAngle n + 65536 - m.align1 % 65536) ≤ -8192 ∧ m.again = false))
    ∧ (∃ (s : State) (n : Nat), (let st := s.motState n; let m := s.motOf n; s.plain ∧ s.motEn n = true ∧ st = 3 ∧ m.dwell = 2 ∧ m.entered + s.g (F.MOT_ALIGN_ALIGNT n) * 5 * msTicks / 2 ≤ s.now ∧ s.sensorless n = false ∧ (-8192 < toSigned 16 (s.sensorAngle n + 65536 - m.align1 % 65536) ∧ toSigned 16 (s.sensorAngle n + 65536 - m.align1 % 65536) < 8192 ∨ toSigned 16 (s.sensorAngle n + 65536 - m.align1 % 65536) < -24576 ∨ 24576 < toSigned 16 (s.sensorAngle n + 65536 - m.align1 % 65536) ∨ toSigned 16 (s.sensorAngle n + 65536 - m.align1 % 65536) ≤ -8192 ∧ m.again = true))) :=
  ⟨⟨(motAt 2 [] (fun m => { m with offAt := some 0 })), 7, ms0, 0, by decide +kernel⟩,
   ⟨(motAt 2 [] id), 7, by decide +kernel⟩,
   ⟨(motAt 3 [(F.MOT_CTRL_SENSOR 7, 2)] (fun m => { m with dwell := 1 })), 7, by decide +kernel⟩,
   ⟨(motAt 3 [] (fun m => { m with dwell := 2 })), 7, by decide +kernel⟩,
   ⟨(motAt 3 [(F.MOT_CTRL_SENSOR 7, 2)] (fun m => { m with dwell := 2, align1 := 57344 })), 7, by decide +kernel⟩,
   ⟨(motAt 3 [(F.MOT_CTRL_SENSOR 7, 2), (F.MOT_CFG_ENCINV 7, 1)] (fun m => { m with dwell := 2, align1 := 8192 })), 7, by decide +kernel⟩,
   ⟨(hallAt 24576), 7, by decide +kernel, by decide +kernel, by decide +kernel, by decide +kernel, by decide +kernel, by decide +kernel, by rw [hall_moved _ (by decide)]; decide, by rw [hall_moved _ (by decide)]; decide, by decide +kernel⟩,
   ⟨(motAt 3 [(F.MOT_CTRL_SENSOR 7, 2)] (fun m => { m with dwell := 2, align1 := 8191 })), 7, by decide +kernel⟩⟩

theorem witness_MotorStart_3 :
    (∃ (s : State) (n : Nat) (phase : Nat) (cur : Nat), (let st := s.motState n; let m := s.motOf n; s.plain ∧ s.motEn n = true ∧ phase < 3 ∧ st = 3 ∧ m.entered + 5 * msTicks ≤ s.now ∧ 2 * cur * 2 ^ 48 < 8 * s.g (F.MOT_ALIGN_IALIGN n) * (cos48 (3 * s.forcedAngle n + 196608 - s.axisOf n phase)).natAbs))
    ∧ (∃ (s : State) (n : Nat), (let st := s.motState n; let m := s.motOf n; s.plain ∧ s.motEn n = true ∧ st = 4 ∧ m.entered + s.g (F.MOT_RAMP_RAMPT n) * 20 * msTicks ≤ s.now))
    ∧ (∃ (s : State) (n : Nat) (code : Nat), (let st := s.motState n; let m := s.motOf n; s.plain ∧ s.motEn n = true ∧ s.g (F.MOT_CTRL_SENSOR n) = 1 ∧ code < 8 ∧ (code = 0 ∨ code = 7) ∧ st = 5 ∧ 2 ≤ m.hallBad))
    ∧ (∃ (s : State) (n : Nat) (code : Nat), (let st := s.motState n; let m := s.motOf n; s.plain ∧ s.motEn n = true ∧ s.g (F.MOT_CTRL_SENSOR n) = 1 ∧ code < 8 ∧ (code = 0 ∨ code = 7) ∧ (st ≠ 5 ∨ m.hallBad < 2)))
    ∧ (∃ (s : State) (n : Nat) (code : Nat), (let st := s.motState n; let m := s.motOf n; s.plain ∧ s.motEn n = true ∧ s.g (F.MOT_CTRL_SENSOR n) = 1 ∧ code < 8 ∧ ¬(code = 0 ∨ code = 7) ∧ st = 5 ∧ (∃ c ∈ m.hallLast, 2 ≤ (hallPlace code + 6 - hallPlace c) % 6 ∧ (hallPlace code + 6 - hallPlace c) % 6 ≤ 4)))
    ∧ (∃ (s : State) (n : Nat) (code : Nat), (let st := s.motState n; let m := s.motOf n; s.plain ∧ s.motEn n = true ∧ s.g (F.MOT_CTRL_SENSOR n) = 1 ∧ code < 8 ∧ ¬(code = 0 ∨ code = 7) ∧ (st ≠ 5 ∨ ¬(∃ c ∈ m.hallLast, 2 ≤ (hallPlace code + 6 - hallPlace c) % 6 ∧ (hallPlace code + 6 - hallPlace c) % 6 ≤ 4))))
    ∧ (∃ (s : State) (n : Nat) (count : Nat), (let st := s.motState n; let m := s.motOf n; s.plain ∧ s.motEn n = true ∧ s.g (F.MOT_CTRL_SENSOR n) = 2 ∧ st = 5 ∧ m.indexed = true ∧ (count + 4 < s.g (F.MOT_CFG_CPR n) ∨ s.g (F.MOT_CFG_CPR n) + 4 < count)))
    ∧ (∃ (s : State) (n : Nat) (count : Nat), (let st := s.motState n; let m := s.motOf n; s.plain ∧ s.motEn n = true ∧ s.g (F.MOT_CTRL_SENSOR n) = 2 ∧ (st ≠ 5 ∨ m.indexed = false ∨ ¬(count + 4 < s.g (F.MOT_CFG_CPR n) ∨ s.g (F.MOT_CFG_CPR n) + 4 < count)))) :=
  ⟨⟨(motAt 3 [(F.MOT_ALIGN_IALIGN 7, 100)] id), 7, 2, 199, by decide +kernel⟩,
   ⟨(motAt 4 [] id), 7, by decide +kernel⟩,
   ⟨(motAt 5 [(F.MOT_CTRL_SENSOR 7, 1)] (fun m => { m with hallBad := 2 })), 7, 7, by decide +kernel⟩,
   ⟨(motAt 5 [(F.MOT_CTRL_SENSOR 7, 1)] (fun m => { m with hallBad := 1 })), 7, 0, by decide +kernel⟩,
   ⟨(motAt 5 [(F.MOT_CTRL_SENSOR 7, 1)] (fun m => { m with hallLast := some 1 })), 7, 2, by decide +kernel⟩,
   ⟨(motAt 5 [(F.MOT_CTRL_SENSOR 7, 1)] (fun m => { m with hallLast := some 1, hallBad := 5 })), 7, 5, by decide +kernel⟩,
   ⟨(motAt 5 [(F.MOT_CTRL_SENSOR 7, 2), (F.MOT_CFG_CPR 7, 1000)] (fun m => { m with indexed := true })), 7, 1005, by decide +kernel⟩,
   ⟨(motAt 5 [(F.MOT_CTRL_SENSOR 7, 2), (F.MOT_CFG_CPR 7, 1000)] (fun m => { m with indexed := true })), 7, 1004, by decide +kernel⟩⟩

theorem witness_MotorStart_4 :
    (∃ (s : State) (n : Nat), s.plain ∧ s.motEn n = true ∧ n = 7) :=
  ⟨(motAt 7 [] id), 7, by decide +kernel⟩

theorem witness_DcBus_1 :
    (∃ (s : State) (k : Nat) (adc : Nat) (cur : Nat) (v : Nat), (let o1 := s.g (F.STP_BUS1_VOV1 k); s.plain ∧ s.isBusmon k = true ∧ v = min 65535 (adc * s.g (F.STP_BUS2_SCALE k) * 10 / 65536) ∧ s.adcLive (stpSlots k) = true ∧ (v < o1 ∨ s.on (F.STP_BUSSTAT_OV1 k) = true) ∧ (¬(100 * v < s.g (F.STP_BUS1_VOV2 k) ∧ (∃ n < 8, n < 8 ∧ s.motEn n = true ∧ s.g (F.MOT_CTRL_BUSSTP n) = k ∧ (s.motOf n).desat = false ∧ 2 ≤ s.motState n ∧ s.motState n ≤ 7)) ∨ (s.stpOf k).divOpen = true)))
    ∧ (∃ (s : State) (k : Nat) (adc : Nat) (cur : Nat) (v : Nat), (let o1 := s.g (F.STP_BUS1_VOV1 k); s.plain ∧ s.isBusmon k = true ∧ v = min 65535 (adc * s.g (F.STP_BUS2_SCALE k) * 10 / 65536) ∧ s.adcLive (stpSlots k) = true ∧ (v < o1 ∨ s.on (F.STP_BUSSTAT_OV1 k) = true) ∧ (¬(100 * v < s.g (F.STP_BUS1_VOV2 k) ∧ (∃ n < 8, n < 8 ∧ s.motEn n = true ∧ s.g (F.MOT_CTRL_BUSSTP n) = k ∧ (s.motOf n).desat = false ∧ 2 ≤ s.motState n ∧ s.motState n ≤ 7)) ∨ (s.stpOf k).divOpen = true)))
    ∧ (∃ (s : State) (k : Nat) (adc : Nat) (cur : Nat) (v : Nat), (let o1 := s.g (F.STP_BUS1_VOV1 k); s.plain ∧ s.isBusmon k = true ∧ v = min 65535 (adc * s.g (F.STP_BUS2_SCALE k) * 10 / 65536) ∧ s.adcLive (stpSlots k) = true ∧ (v < o1 ∨ s.on (F.STP_BUSSTAT_OV1 k) = true) ∧ (100 * v < s.g (F.STP_BUS1_VOV2 k) ∧ (∃ n < 8, n < 8 ∧ s.motEn n = true ∧ s.g (F.MOT_CTRL_BUSSTP n) = k ∧ (s.motOf n).desat = false ∧ 2 ≤ s.motState n ∧ s.motState n ≤ 7)) ∧ (s.stpOf k).divOpen = false))
    ∧ (∃ (s : State) (k : Nat) (adc : Nat) (cur : Nat) (v : Nat), (let o1 := s.g (F.STP_BUS1_VOV1 k); s.plain ∧ s.isBusmon k = true ∧ v = min 65535 (adc * s.g (F.STP_BUS2_SCALE k) * 10 / 65536) ∧ s.adcLive (stpSlots k) = true ∧ o1 ≤ v ∧ s.on (F.STP_BUSSTAT_OV1 k) = false ∧ ¬(100 * v < s.g (F.STP_BUS1_VOV2 k) ∧ (∃ n < 8, n < 8 ∧ s.motEn n = true ∧ s.g (F.MOT_CTRL_BUSSTP n) = k ∧ (s.motOf n).desat = false ∧ 2 ≤ s.motState n ∧ s.motState n ≤ 7)) ∧ s.on (F.STP_BUSSTAT_CHOP_BAD k) = false))
    ∧ (∃ (s : State) (k : Nat) (adc : Nat) (cur : Nat) (v : Nat), (let o1 := s.g (F.STP_BUS1_VOV1 k); s.plain ∧ s.isBusmon k = true ∧ v = min 65535 (adc * s.g (F.STP_BUS2_SCALE k) * 10 / 65536) ∧ s.adcLive (stpSlots k) = true ∧ o1 ≤ v ∧ s.on (F.STP_BUSSTAT_OV1 k) = false ∧ ¬100 * v < s.g (F.STP_BUS1_VOV2 k) ∧ s.on (F.STP_BUSSTAT_CHOP_BAD k) = true))
    ∧ (∃ (s : State) (k : Nat) (x : Nat), s.plain ∧ s.isBusmon k = true ∧ (s.stpOf k).wrongSince = some x ∧ x + 20 * usTicks ≤ s.now ∧ (s.stpOf k).wrongDone = false)
    ∧ (∃ (s : State) (k : Nat), s.plain ∧ s.isBusmon k = true ∧ s.on (F.STP_BUSSTAT_OV2 k) = true ∧ (s.stpOf k).ov2Done = false)
    ∧ (∃ (s : State) (k : Nat) (n : Nat) (x : Nat), s.plain ∧ s.isBusmon k = true ∧ s.motEn n = true ∧ s.g (F.MOT_CTRL_BUSSTP n) = k ∧ (s.stpOf k).lowSince = some x ∧ s.motState n = 6 ∧ x + 10 * msTicks ≤ s.now) :=
  ⟨⟨(busAt [(F.STP_BUSSTAT_OV1 11, 1)] id), 11, 45, 0, 449, by decide +kernel⟩,
   ⟨(busAt [] id), 11, 40, 0, 399, by decide +kernel⟩,
   ⟨(busAt [] id), 11, 0, 0, 0, by decide +kernel⟩,
   ⟨(busAt [] id), 11, 45, 0, 449, by decide +kernel⟩,
   ⟨(busAt [(F.STP_BUSSTAT_CHOP_BAD 11, 1)] id), 11, 45, 0, 449, by decide +kernel⟩,
   ⟨(busAt [] (fun x => { x with wrongSince := some 5 })), 11, 5, by decide +kernel⟩,
   ⟨(busAt [(F.STP_BUSSTAT_OV2 11, 1)] id), 11, by decide +kernel⟩,
   ⟨(busAt [(F.MOT_STAT_STATE 7, 6)] (fun x => { x with lowSince := some 5 })), 11, 7, 5, by decide +kernel⟩⟩

theorem witness_DcBus_2 :
    (∃ (s : State) (k : Nat) (n : Nat) (x : Nat) (w : Int), s.plain ∧ s.isBusmon k = true ∧ s.motEn n = true ∧ s.g (F.MOT_CTRL_BUSSTP n) = k ∧ (s.stpOf k).lowSince = some x ∧ s.motState n = 7 ∧ s.atCatch n w = false) :=
  ⟨(busAt [(F.MOT_STAT_STATE 7, 7), (F.MOT_RATED_CATCHPCT 7, 10), (F.MOT_RATED_SPEED 7, 1000)] (fun x => { x with lowSince := some 5 })), 11, 7, 5, 0, by decide +kernel⟩

theorem witness_StepperPorts_1 :
    (∃ (s : State) (k : Nat), (let st := s.stpState k; let pos := s.stpPos k; let target := s.gai (F.STP_TARGET_POS k); s.plain ∧ s.stpEn k = true ∧ s.g (F.STP_CTRL_MODE k) = 0 ∧ (st = 0 ∨ st = 6) ∧ s.on F.FCL_STAT_KETTLE = false ∧ s.on (ShadowSet.stpProfile k).pend = false ∧ target ≠ pos))
    ∧ (∃ (s : State) (k : Nat), (let st := s.stpState k; s.plain ∧ s.stpEn k = true ∧ s.g (F.STP_CTRL_MODE k) = 0 ∧ (st = 0 ∨ st = 6) ∧ s.on F.FCL_STAT_KETTLE = true))
    ∧ (∃ (s : State) (k : Nat), (let st := s.stpState k; let pos := s.stpPos k; let target := s.gai (F.STP_TARGET_POS k); s.plain ∧ s.stpEn k = true ∧ s.g (F.STP_CTRL_MODE k) = 0 ∧ (st = 0 ∨ st = 6) ∧ s.on F.FCL_STAT_KETTLE = false ∧ s.on (ShadowSet.stpProfile k).pend = false ∧ target = pos))
    ∧ (∃ (s : State) (k : Nat), (let st := s.stpState k; s.plain ∧ s.stpEn k = true ∧ s.g (F.STP_CTRL_MODE k) = 0 ∧ st ≠ 0 ∧ st ≠ 6))
    ∧ (∃ (s : State) (k : Nat), (let st := s.stpState k; s.plain ∧ s.stpEn k = true ∧ s.g (F.STP_CTRL_MODE k) = 0 ∧ 1 ≤ st ∧ st ≤ 5))
    ∧ (∃ (s : State) (k : Nat), (let st := s.stpState k; s.plain ∧ s.stpEn k = true ∧ s.g (F.STP_CTRL_MODE k) = 0 ∧ 1 ≤ st ∧ st ≤ 5))
    ∧ (∃ (s : State) (k : Nat), (let st := s.stpState k; s.plain ∧ s.stpEn k = true ∧ s.g (F.STP_CTRL_MODE k) = 0 ∧ (st = 0 ∨ 6 ≤ st)))
    ∧ (∃ (s : State) (k : Nat), (let st := s.stpState k; let x := s.stpOf k; let pos := s.stpPos k; let target := s.gai (F.STP_TARGET_POS k); s.plain ∧ s.stpEn k = true ∧ s.g (F.STP_CTRL_MODE k) = 0 ∧ 1 ≤ st ∧ st ≤ 5 ∧ x.updatedAt + usTicks ≤ s.now ∧ s.reached (.stpProfile k) = false ∧ x.neg = decide (target < pos) ∧ x.frac < 10 ^ 12)) :=
  ⟨⟨(stpAt 6 5 (-2147483648) [] id), 11, by decide +kernel⟩,
   ⟨(stpAt 0 (-5) 5 [(F.FCL_STAT_KETTLE, 1)] id), 11, by decide +kernel⟩,
   ⟨(stpAt 0 (-5) (-5) [] id), 11, by decide +kernel⟩,
   ⟨(stpAt 15 (-5) (-5) [] id), 11, by decide +kernel⟩,
   ⟨(stpAt 5 (-5) (-5) [] id), 11, by decide +kernel⟩,
   ⟨(stpAt 5 (-5) (-5) [] id), 11, by decide +kernel⟩,
   ⟨(stpAt 6 (-5) (-5) [] id), 11, by decide +kernel⟩,
   ⟨(stpAt 2 (-2147483640) (-2147483648) [] (fun x => { x with neg := true, vel := 3 * 10 ^ 12, frac := 10 ^ 12 - 1, flat := true })), 11, by decide +kernel⟩⟩

theorem witness_StepperPorts_2 :
    (∃ (s : State) (k : Nat), (let st := s.stpState k; let x := s.stpOf k; let pos := s.stpPos k; let target := s.gai (F.STP_TARGET_POS k); s.plain ∧ s.stpEn k = true ∧ s.g (F.STP_CTRL_MODE k) = 0 ∧ 1 ≤ st ∧ st ≤ 5 ∧ x.updatedAt + usTicks ≤ s.now ∧ s.reached (.stpProfile k) = false ∧ x.neg = decide (target < pos) ∧ x.frac < 10 ^ 12))
    ∧ (∃ (s : State) (k : Nat), (let st := s.stpState k; let x := s.stpOf k; s.plain ∧ s.stpEn k = true ∧ s.g (F.STP_CTRL_MODE k) = 0 ∧ s.reached (.stpProfile k) = false ∧ (st = 0 ∨ 6 ≤ st) ∧ x.updatedAt + usTicks ≤ s.now))
    ∧ (∃ (s : State) (k : Nat), (let x := s.stpOf k; s.plain ∧ s.stpEn k = true ∧ s.g (F.STP_CTRL_MODE k) = 0 ∧ s.now < x.updatedAt + usTicks))
    ∧ (∃ (s : State) (k : Nat), (let st := s.stpState k; let x := s.stpOf k; s.plain ∧ s.stpEn k = true ∧ s.g (F.STP_CTRL_MODE k) = 0 ∧ st = 6 ∧ x.coils = .run ∧ x.stoodAt + s.g (F.STP_CURR_HOLDT k) * 10 * msTicks ≤ s.now))
    ∧ (∃ (s : State) (k : Nat) (q : Requester) (v : Nat), (let st := s.stpState k; s.plain ∧ s.stpEn k = true ∧ s.g (F.STP_CTRL_MODE k) = 0 ∧ s.present q ∧ v < 2 ^ 32 ∧ s.ownsPort q (24 + 2 * k) = true ∧ (st = 0 ∨ st = 6)))
    ∧ (∃ (s : State) (k : Nat) (q : Requester) (v : Nat), (let st := s.stpState k; s.plain ∧ s.stpEn k = true ∧ s.g (F.STP_CTRL_MODE k) = 0 ∧ s.present q ∧ v < 2 ^ 32 ∧ s.ownsPort q (24 + 2 * k) = true ∧ st ≠ 0 ∧ st ≠ 6))
    ∧ (∃ (s : State) (k : Nat) (q : Requester) (v : Nat), s.plain ∧ s.stpEn k = true ∧ s.g (F.STP_CTRL_MODE k) = 0 ∧ s.present q ∧ v < 2 ^ 32 ∧ s.ownsPort q (24 + 2 * k) = false)
    ∧ (∃ (s : State) (k : Nat) (falling : Bool) (stamp : Nat), (let x := s.stpOf k; let pos := s.stpPos k; s.plain ∧ s.stpEn k = true ∧ s.g (F.STP_CTRL_MODE k) = 0 ∧ stamp < 2 ^ 64 ∧ s.on (F.STP_LATCH_ARM k) = true ∧ s.on (F.STP_LATCH_EDGE k) = falling ∧ s.g (F.STP_STAT_DIRST k) = s.g (F.STP_LATCH_LDIR k) ∧ pos = x.ext)) :=
  ⟨⟨(stpAt 2 (-2147483646) (-2147483648) [] (fun x => { x with neg := true, vel := 3 * 10 ^ 12 })), 11, by decide +kernel⟩,
   ⟨(stpAt 6 0 9 [] id), 11, by decide +kernel⟩,
   ⟨(stpAt 2 0 9 [] (fun x => { x with updatedAt := 10 ^ 15 })), 11, by decide +kernel⟩,
   ⟨(stpAt 6 0 9 [(F.STP_CTRL_STAND 11, 2)] (fun x => { x with coils := .run })), 11, by decide +kernel⟩,
   ⟨({ stpAt 6 0 9 [] id with claims := [(sliceRid 46, ⟨3, 2⟩)] }), 11, (.core 2), 0x80000000, by decide +kernel⟩,
   ⟨({ stpAt 15 0 9 [] id with claims := [(sliceRid 46, ⟨3, 2⟩)] }), 11, (.core 2), 0x80000000, by decide +kernel⟩,
   ⟨(stpAt 1 0 9 [] id), 11, (.core 2), 0x80000000, by decide +kernel⟩,
   ⟨(stpAt 3 (-4) 9 [(F.STP_LATCH_ARM 11, 1), (F.STP_LATCH_EDGE 11, 1), (F.STP_LATCH_LACT 11, 2)] (fun x => { x with ext := -4 })), 11, true, (2 ^ 64 - 1), by decide +kernel⟩⟩

theorem witness_StepperPorts_3 :
    (∃ (s : State) (k : Nat) (falling : Bool) (stamp : Nat), (let x := s.stpOf k; let pos := s.stpPos k; s.plain ∧ s.stpEn k = true ∧ s.g (F.STP_CTRL_MODE k) = 0 ∧ stamp < 2 ^ 64 ∧ s.on (F.STP_LATCH_ARM k) = true ∧ s.on (F.STP_LATCH_EDGE k) = falling ∧ s.g (F.STP_STAT_DIRST k) = s.g (F.STP_LATCH_LDIR k) ∧ pos = x.ext ∧ s.g (F.STP_LATCH_LACT k) = 0))
    ∧ (∃ (s : State) (k : Nat) (falling : Bool) (stamp : Nat), (let x := s.stpOf k; let pos := s.stpPos k; s.plain ∧ s.stpEn k = true ∧ s.g (F.STP_CTRL_MODE k) = 0 ∧ stamp < 2 ^ 64 ∧ s.on (F.STP_LATCH_ARM k) = true ∧ s.on (F.STP_LATCH_EDGE k) = falling ∧ s.g (F.STP_STAT_DIRST k) = s.g (F.STP_LATCH_LDIR k) ∧ pos = x.ext ∧ s.g (F.STP_LATCH_LACT k) = 1))
    ∧ (∃ (s : State) (k : Nat) (falling : Bool) (stamp : Nat), (let x := s.stpOf k; let pos := s.stpPos k; s.plain ∧ s.stpEn k = true ∧ s.g (F.STP_CTRL_MODE k) = 0 ∧ stamp < 2 ^ 64 ∧ ¬(s.on (F.STP_LATCH_ARM k) = true ∧ s.on (F.STP_LATCH_EDGE k) = falling ∧ s.g (F.STP_STAT_DIRST k) = s.g (F.STP_LATCH_LDIR k) ∧ pos = x.ext)))
    ∧ (∃ (s : State) (k : Nat) (coil : Nat) (cur : Nat), s.plain ∧ s.stpEn k = true ∧ s.g (F.STP_CTRL_MODE k) = 0 ∧ s.chopLive k coil = true ∧ s.coilDrive k coil = .forward ∧ ((s.chopOf k coil).1 + s.blankTicks k ≤ s.now ∧ (s.coilTarget k coil).natAbs ≤ cur))
    ∧ (∃ (s : State) (k : Nat) (coil : Nat) (cur : Nat), s.plain ∧ s.stpEn k = true ∧ s.g (F.STP_CTRL_MODE k) = 0 ∧ s.chopLive k coil = true ∧ s.coilDrive k coil = .forward ∧ ¬((s.chopOf k coil).1 + s.blankTicks k ≤ s.now ∧ (s.coilTarget k coil).natAbs ≤ cur) ∧ (s.chopOf k coil).1 + s.g (F.STP_CHOP_TONMAX k) * usTicks ≤ s.now ∧ (s.chopOf k coil).2 < 15)
    ∧ (∃ (s : State) (k : Nat) (coil : Nat) (cur : Nat), s.plain ∧ s.stpEn k = true ∧ s.g (F.STP_CTRL_MODE k) = 0 ∧ s.chopLive k coil = true ∧ s.coilDrive k coil = .forward ∧ ¬((s.chopOf k coil).1 + s.blankTicks k ≤ s.now ∧ (s.coilTarget k coil).natAbs ≤ cur) ∧ (s.chopOf k coil).1 + s.g (F.STP_CHOP_TONMAX k) * usTicks ≤ s.now ∧ 15 ≤ (s.chopOf k coil).2)
    ∧ (∃ (s : State) (k : Nat) (coil : Nat) (cur : Nat), s.plain ∧ s.stpEn k = true ∧ s.g (F.STP_CTRL_MODE k) = 0 ∧ s.chopLive k coil = true ∧ (3 * 4095 < 2 * cur ∨ s.coilDrive k coil = .forward ∧ s.now < (s.chopOf k coil).1 + s.blankTicks k ∧ 2 * (s.coilTarget k coil).natAbs < cur))
    ∧ (∃ (s : State) (k : Nat) (coil : Nat) (cur : Nat), s.plain ∧ s.stpEn k = true ∧ s.g (F.STP_CTRL_MODE k) = 0 ∧ s.chopLive k coil = true ∧ (3 * 4095 < 2 * cur ∨ s.coilDrive k coil = .forward ∧ s.now < (s.chopOf k coil).1 + s.blankTicks k ∧ 2 * (s.coilTarget k coil).natAbs < cur)) :=
  ⟨⟨(stpAt 3 (-4) 9 [(F.STP_LATCH_ARM 11, 1), (F.STP_LATCH_EDGE 11, 1), (F.STP_LATCH_LACT 11, 0)] (fun x => { x with ext := -4 })), 11, true, 5, by decide +kernel⟩,
   ⟨(stpAt 3 (-4) 9 [(F.STP_LATCH_ARM 11, 1), (F.STP_LATCH_EDGE 11, 1), (F.STP_LATCH_LACT 11, 1)] (fun x => { x with ext := -4 })), 11, true, 5, by decide +kernel⟩,
   ⟨(stpAt 3 (-4) 9 [(F.STP_LATCH_ARM 11, 1), (F.STP_LATCH_LACT 11, 2)] (fun x => { x with ext := -4 })), 11, true, 5, by decide +kernel⟩,
   ⟨(stpAt 3 0 9 [(F.STP_CURR_IRUN 11, 50)] (fun x => { x with coils := .run })), 11, 0, 50, by decide +kernel⟩,
   ⟨(stpAt 3 0 9 [(F.STP_CURR_IRUN 11, 50)] (fun x => { x with coils := .run, chopA := (0, 14) })), 11, 0, 49, by decide +kernel⟩,
   ⟨(stpAt 3 0 9 [(F.STP_CURR_IRUN 11, 50)] (fun x => { x with coils := .run, chopA := (0, 15) })), 11, 0, 49, by decide +kernel⟩,
   ⟨(stpAt 6 0 9 [] id), 11, 1, 6143, by decide +kernel⟩,
   ⟨(stpAt 3 0 9 [(F.STP_CURR_IRUN 11, 50), (F.STP_CHOP_BLANK 11, 63)] (fun x => { x with coils := .run, chopA := (200000000000, 0) })), 11, 0, 101, by decide +kernel⟩⟩

def hvAt (st bank : Nat) (l : List (FieldRef × Nat)) : State := put up ([(F.HV_CTRL_EN 0, 1), (F.HV_STAT_STATE 0, st), (F.HV_STAT_BANK 0, bank), (F.HV_APPLIED_DC 0, 77)] ++ l)
def hvWith (s : State) (f : Hv → Hv) : State := { s with hv := vmod s.hv 0 f }
def fusAt (st : Nat) (l : List (FieldRef × Nat)) (f : Fus → Fus) : State := let s := put up ([(F.FUS_CTRL_EN 1, 1), (F.FUS_STAT_STATE 1, st), (F.FUS_CFG_FMAX 1, 800), (F.FUS_CFG_FMIN 1, 200)] ++ l); { s with fus := vmod s.fus 1 f }
def fusFolio : Folio := { desc := { fsn := 7, stream := 7, stations := 1, length := 2970 }, st := .sewn, sewing := some ⟨199990000000, 1000200, 0, true⟩ }

theorem witness_HighVoltagePorts_1 :
    (∃ (s : State) (k : Nat) (b : Nat), s.plain ∧ s.hvEn k = true ∧ b < 3 ∧ s.on F.FCL_STAT_KETTLE = false)
    ∧ (∃ (s : State) (k : Nat) (b : Nat), (let st := s.hvState k; let bank := s.hvBank k; let h := s.hvOf k; s.plain ∧ s.hvEn k = true ∧ b < 3 ∧ s.on F.FCL_STAT_KETTLE = false ∧ h.driven = some (s.now, 7, 9) ∧ st = 1 ∧ b ≠ 0 ∧ bank ≠ 0))
    ∧ (∃ (s : State) (k : Nat) (b : Nat), s.plain ∧ s.hvEn k = true ∧ b < 3 ∧ s.on F.FCL_STAT_KETTLE = true)
    ∧ (∃ (s : State) (k : Nat) (b : Nat), s.plain ∧ s.hvEn k = true ∧ b < 3 ∧ s.on F.FCL_STAT_KETTLE = false)
    ∧ (∃ (s : State) (k : Nat) (v : Nat), s.plain ∧ s.hvEn k = true ∧ 3 ≤ v ∧ v < 2 ^ 28)
    ∧ (∃ (s : State) (k : Nat) (dc : Nat) (ac : Nat), (let st := s.hvState k; let bank := s.hvBank k; s.plain ∧ s.hvEn k = true ∧ dc < 2 ^ 14 ∧ ac < 2 ^ 14 ∧ st = 1 ∧ bank ≠ 0 ∧ s.on F.FCL_STAT_KETTLE = false))
    ∧ (∃ (s : State) (k : Nat) (dc : Nat) (ac : Nat), (let st := s.hvState k; let bank := s.hvBank k; s.plain ∧ s.hvEn k = true ∧ dc < 2 ^ 14 ∧ ac < 2 ^ 14 ∧ (st ≠ 1 ∨ bank = 0 ∨ s.on F.FCL_STAT_KETTLE = true)))
    ∧ (∃ (s : State) (k : Nat) (dc : Nat) (ac : Nat), (let h := s.hvOf k; s.plain ∧ s.hvEn k = true ∧ dc < 2 ^ 14 ∧ ac < 2 ^ 14 ∧ h.next = some (dc, ac) ∧ s.carrier k < s.g (F.HV_CFG_FCAR k))) :=
  ⟨⟨(hvAt 1 0 []), 0, 1, by decide +kernel⟩,
   ⟨(hvWith (hvAt 1 1 []) (fun h => { h with age := 3, shortSince := some 2, driven := some (200000000000, 7, 9) })), 0, 2, by decide +kernel⟩,
   ⟨(hvAt 1 1 [(F.FCL_STAT_KETTLE, 1)]), 0, 1, by decide +kernel⟩,
   ⟨(hvAt 1 2 []), 0, 0, by decide +kernel⟩,
   ⟨(hvAt 1 1 []), 0, 3, by decide +kernel⟩,
   ⟨(hvAt 1 1 []), 0, 16383, 5, by decide +kernel⟩,
   ⟨(hvAt 3 1 []), 0, 16383, 5, by decide +kernel⟩,
   ⟨(hvWith (hvAt 1 1 [(F.HV_CFG_FCAR 0, 50)]) (fun h => { h with next := some (7, 9) })), 0, 7, 9, by decide +kernel⟩⟩

theorem witness_HighVoltagePorts_2 :
    (∃ (s : State) (k : Nat) (dc : Nat) (ac : Nat), (let h := s.hvOf k; s.plain ∧ s.hvEn k = true ∧ dc < 2 ^ 14 ∧ ac < 2 ^ 14 ∧ h.next = some (dc, ac) ∧ s.g (F.HV_CFG_FCAR k) ≤ s.carrier k))
    ∧ (∃ (s : State) (k : Nat) (x : Nat), (let bank := s.hvBank k; let h := s.hvOf k; s.plain ∧ s.hvEn k = true ∧ h.outSince = some x ∧ bank ≠ 0 ∧ s.on (F.HV_STAT_INBAND k) = false ∧ x + s.ga (F.HV_LIMIT_BANDT k) * 25000 ≤ s.now))
    ∧ (∃ (s : State) (k : Nat) (i : Int), (let st := s.hvState k; s.plain ∧ s.hvEn k = true ∧ st = 1 ∧ s.ga (F.HV_ARC_IARC k) ≤ i.natAbs))
    ∧ (∃ (s : State) (k : Nat), (let st := s.hvState k; let h := s.hvOf k; s.plain ∧ s.hvEn k = true ∧ st = 2 ∧ h.holdAt + msTicks ≤ s.now))
    ∧ (∃ (s : State) (k : Nat) (x : Nat), (let st := s.hvState k; let h := s.hvOf k; s.plain ∧ s.hvEn k = true ∧ st = 1 ∧ h.shortSince = some x ∧ x + 10 * msTicks ≤ s.now))
    ∧ (∃ (s : State) (k : Nat) (x : Nat), (let st := s.hvState k; let h := s.hvOf k; s.plain ∧ s.hvEn k = true ∧ st = 1 ∧ h.openSince = some x ∧ x + msTicks ≤ s.now))
    ∧ (∃ (s : State) (k : Nat) (hv : (Vector HvSample 12)) (fus : (Vector FusSample 2)), (let bank := s.hvBank k; s.plain ∧ s.hvEn k = true ∧ s.now % 25000 = 0 ∧ (∀ j, j < 12 → j ≠ k → s.hvEn j = false) ∧ (∀ f, f < 2 → s.fusEn f = false) ∧ s.adcLive (hvSlots k) = true ∧ bank = 0))
    ∧ (∃ (s : State) (k : Nat) (hv : (Vector HvSample 12)) (fus : (Vector FusSample 2)), (let st := s.hvState k; let bank := s.hvBank k; let h := s.hvOf k; s.plain ∧ s.hvEn k = true ∧ s.now % 25000 = 0 ∧ (∀ j, j < 12 → j ≠ k → s.hvEn j = false) ∧ (∀ f, f < 2 → s.fusEn f = false) ∧ s.adcLive (hvSlots k) = true ∧ bank ≠ 0 ∧ st ≠ 3 ∧ h.age + 1 < s.g (F.HV_CFG_CMDWD k) ∧ bank = 1 ∧ (vget hv k).vdc = s.gi (F.HV_SETA_DC k) ∧ s.g (F.HV_CTRL_KIND k) = 0)) :=
  ⟨⟨(hvWith (hvAt 1 1 [(F.HV_CFG_FCAR 0, 0)]) (fun h => { h with next := some (7, 9) })), 0, 7, 9, by decide +kernel⟩,
   ⟨(hvWith (putA (hvAt 1 1 []) [(F.HV_LIMIT_BANDT 0, 4)]) (fun h => { h with outSince := some 5 })), 0, 5, by decide +kernel⟩,
   ⟨(putA (hvAt 1 1 []) [(F.HV_ARC_IARC 0, 100)]), 0, (-100), by decide +kernel⟩,
   ⟨(hvAt 2 1 []), 0, by decide +kernel⟩,
   ⟨(hvWith (hvAt 1 1 []) (fun h => { h with shortSince := some 5 })), 0, 5, by decide +kernel⟩,
   ⟨(hvWith (hvAt 1 1 []) (fun h => { h with openSince := some 5 })), 0, 5, by decide +kernel⟩,
   ⟨(hvAt 1 0 []), 0, (Vector.replicate 12 { vdc := -32768, idc := 0, vpp := 0 }), (Vector.replicate 2 default), by decide +kernel⟩,
   ⟨(putA (hvWith (hvAt 1 1 [(F.HV_CFG_CMDWD 0, 5)]) (fun h => { h with age := 3 })) [(F.HV_SETA_DC 0, 100)]), 0, (Vector.replicate 12 { vdc := 100, idc := 0, vpp := 0 }), (Vector.replicate 2 default), by decide +kernel⟩⟩

theorem witness_HighVoltagePorts_3 :
    (∃ (s : State) (k : Nat) (hv : (Vector HvSample 12)) (fus : (Vector FusSample 2)), (let st := s.hvState k; let bank := s.hvBank k; let h := s.hvOf k; s.plain ∧ s.hvEn k = true ∧ s.now % 25000 = 0 ∧ (∀ j, j < 12 → j ≠ k → s.hvEn j = false) ∧ (∀ f, f < 2 → s.fusEn f = false) ∧ s.adcLive (hvSlots k) = true ∧ bank ≠ 0 ∧ st ≠ 3 ∧ s.g (F.HV_CFG_CMDWD k) ≤ h.age + 1))
    ∧ (∃ (s : State) (k : Nat) (v : Int), s.plain ∧ s.hvEn k = true ∧ s.results = [(102 + k, F.HV_MEAS_VDC k, v)] ∧ -32768 ≤ v ∧ v < 32768 ∧ s.resultsAt ≤ s.now)
    ∧ (∃ (s : State) (k : Nat) (v : Int), s.plain ∧ s.hvEn k = true ∧ s.results = [(102 + k, F.HV_MEAS_VDC k, v)] ∧ -32768 ≤ v ∧ v < 32768 ∧ s.now < s.resultsAt) :=
  ⟨⟨(putA (hvWith (hvAt 1 1 [(F.HV_CFG_CMDWD 0, 5)]) (fun h => { h with age := 4 })) [(F.HV_SETA_DC 0, 100)]), 0, (Vector.replicate 12 { vdc := 100, idc := 0, vpp := 0 }), (Vector.replicate 2 default), by decide +kernel⟩,
   ⟨(let s := hvAt 1 1 []; { s with results := [(102, F.HV_MEAS_VDC 0, -32768)], resultsAt := s.now }), 0, (-32768), by decide +kernel⟩,
   ⟨(let s := hvAt 1 1 []; { s with results := [(102, F.HV_MEAS_VDC 0, -32768)], resultsAt := s.now + 1 }), 0, (-32768), by decide +kernel⟩⟩

theorem witness_FuserPorts_1 :
    (∃ (s : State) (f : Nat) (v : Nat), (let st := s.fusState f; s.calm ∧ s.histRoom ∧ s.fusEn f = true ∧ v < 2 ^ 32 ∧ s.on F.FCL_STAT_KETTLE = false ∧ (st = 1 ∨ st = 2) ∧ 0 < (if bit v 15 then 0 else bits v 14 0)))
    ∧ (∃ (s : State) (f : Nat) (v : Nat), (let st := s.fusState f; s.calm ∧ s.histRoom ∧ s.fusEn f = true ∧ v < 2 ^ 32 ∧ s.on F.FCL_STAT_KETTLE = false ∧ st = 2 ∧ (if bit v 15 then 0 else bits v 14 0) = 0))
    ∧ (∃ (s : State) (f : Nat) (v : Nat), (let st := s.fusState f; s.calm ∧ s.histRoom ∧ s.fusEn f = true ∧ v < 2 ^ 32 ∧ s.on F.FCL_STAT_KETTLE = false ∧ st = 1 ∧ (if bit v 15 then 0 else bits v 14 0) = 0))
    ∧ (∃ (s : State) (f : Nat) (v : Nat), (let st := s.fusState f; s.calm ∧ s.histRoom ∧ s.fusEn f = true ∧ v < 2 ^ 32 ∧ (s.on F.FCL_STAT_KETTLE = true ∨ st = 3 ∨ st = 4)))
    ∧ (∃ (s : State) (f : Nat) (next : Bool), (let x := s.fusOf f; let hi := s.g (F.FUS_CFG_FMAX f); let lo := s.g (F.FUS_CFG_FMIN f); s.calm ∧ s.histRoom ∧ s.fusEn f = true ∧ s.g (F.FUS_STAT_FREQ f) ≠ 0 ∧ s.pathClear ∧ s.g (F.FUS_FLT_ZVS f) = 0 ∧ x.floor + 5 ≤ hi - lo))
    ∧ (∃ (s : State) (f : Nat) (next : Bool), (let x := s.fusOf f; let hi := s.g (F.FUS_CFG_FMAX f); let lo := s.g (F.FUS_CFG_FMIN f); s.calm ∧ s.histRoom ∧ s.fusEn f = true ∧ s.g (F.FUS_STAT_FREQ f) ≠ 0 ∧ s.pathClear ∧ s.g (F.FUS_FLT_ZVS f) ≠ 0 ∧ hi - lo ≤ x.floor ∧ next = true ∧ 15 ≤ x.atMax))
    ∧ (∃ (s : State) (f : Nat) (next : Bool), (let x := s.fusOf f; let hi := s.g (F.FUS_CFG_FMAX f); let lo := s.g (F.FUS_CFG_FMIN f); s.calm ∧ s.histRoom ∧ s.fusEn f = true ∧ s.g (F.FUS_STAT_FREQ f) ≠ 0 ∧ s.pathClear ∧ s.g (F.FUS_FLT_ZVS f) ≠ 0 ∧ ¬(hi - lo ≤ x.floor ∧ next = true ∧ 15 ≤ x.atMax)))
    ∧ (∃ (s : State) (f : Nat), (let x := s.fusOf f; s.calm ∧ s.histRoom ∧ s.fusEn f = true ∧ 0 < x.floor ∧ x.decayAt + 1000 * msTicks ≤ s.now)) :=
  ⟨⟨(fusAt 1 [] id), 1, 32767, by decide +kernel⟩,
   ⟨(fusAt 2 [(F.FUS_STAT_FREQ 1, 300), (F.FUS_STAT_DRIVE 1, 5)] id), 1, 65535, by decide +kernel⟩,
   ⟨(fusAt 1 [] id), 1, 65535, by decide +kernel⟩,
   ⟨(fusAt 4 [] id), 1, 5, by decide +kernel⟩,
   ⟨(fusAt 2 [(F.FUS_STAT_FREQ 1, 300)] id), 1, false, by decide +kernel⟩,
   ⟨(fusAt 2 [(F.FUS_STAT_FREQ 1, 300), (F.FUS_FLT_ZVS 1, 15)] (fun x => { x with floor := 600, atMax := 15 })), 1, true, by decide +kernel⟩,
   ⟨(fusAt 2 [(F.FUS_STAT_FREQ 1, 300), (F.FUS_FLT_ZVS 1, 15)] (fun x => { x with floor := 599, atMax := 15 })), 1, true, by decide +kernel⟩,
   ⟨(fusAt 2 [(F.FUS_STAT_FREQ 1, 300)] (fun x => { x with floor := 1 })), 1, by decide +kernel⟩⟩

theorem witness_FuserPorts_2 :
    (∃ (s : State) (f : Nat) (ma : Nat), (let st := s.fusState f; s.calm ∧ s.histRoom ∧ s.fusEn f = true ∧ s.pathClear ∧ (st = 1 ∨ st = 2) ∧ s.g (F.FUS_LIM_IPKMAX f) < ma))
    ∧ (∃ (s : State) (f : Nat), (let st := s.fusState f; let x := s.fusOf f; s.calm ∧ s.histRoom ∧ s.fusEn f = true ∧ s.pathClear ∧ st = 2 ∧ x.lastCmd + s.g (F.FUS_CFG_CMDWD f) * 25000 ≤ s.now))
    ∧ (∃ (s : State) (f : Nat) (hv : (Vector HvSample 12)) (fus : (Vector FusSample 2)), (let st := s.fusState f; s.calm ∧ s.histRoom ∧ s.fusEn f = true ∧ s.now % 25000 = 0 ∧ (∀ j, j < 12 → s.hvEn j = false) ∧ (∀ g, g < 2 → g ≠ f → s.fusEn g = false) ∧ s.adcLive (fusSlots f) = true ∧ s.pathClear ∧ (st = 0 ∨ st = 3 ∨ st = 4)))
    ∧ (∃ (s : State) (f : Nat) (hv : (Vector HvSample 12)) (fus : (Vector FusSample 2)), (let st := s.fusState f; s.calm ∧ s.histRoom ∧ s.fusEn f = true ∧ s.now % 25000 = 0 ∧ (∀ j, j < 12 → s.hvEn j = false) ∧ (∀ g, g < 2 → g ≠ f → s.fusEn g = false) ∧ s.adcLive (fusSlots f) = true ∧ s.pathClear ∧ (st = 1 ∨ st = 2) ∧ thermBad (vget fus f).th0 = true ∧ thermBad (vget fus f).th1 = true ∧ thermBad (vget fus f).th2 = true))
    ∧ (∃ (s : State) (f : Nat) (fo : Folio) (y : Nat), (let x := s.fusOf f; s.calm ∧ s.histRoom ∧ s.fusEn f = true ∧ s.gath.folios = [fo] ∧ fo.inPath = true ∧ fo.exitOk = false ∧ s.now < s.divPass fo ∧ fo.desc.stream < 8 ∧ s.jrnRoom ∧ x.outSince = some y ∧ s.on (F.FUS_CTRL_GATE f) = true ∧ s.on (F.FUS_STAT_INBAND f) = false ∧ y + s.g (F.FUS_BAND_BANDT f) * msTicks ≤ s.now)) :=
  ⟨⟨(fusAt 1 [(F.FUS_LIM_IPKMAX 1, 300)] id), 1, 301, by decide +kernel⟩,
   ⟨(fusAt 2 [] id), 1, by decide +kernel⟩,
   ⟨(fusAt 4 [] id), 1, (Vector.replicate 12 default), (Vector.replicate 2 { icur := 3, ipk := 4, th0 := 63570, th1 := 1966, th2 := 65535 }), by decide +kernel⟩,
   ⟨(fusAt 2 [(F.FUS_STAT_FREQ 1, 300)] id), 1, (Vector.replicate 12 default), (Vector.replicate 2 { icur := 3, ipk := 4, th0 := 63570, th1 := 1966, th2 := 65535 }), by decide +kernel⟩,
   ⟨(let s := putA (fusAt 2 [(F.FUS_CTRL_GATE 1, 1)] (fun x => { x with outSince := some 5 })) [(F.GATH_GEOM3_D_DIV, 9000)]; { s with gath := { s.gath with folios := [fusFolio] } }), 1, fusFolio, 5, by decide +kernel⟩⟩

def warm (f : Nat → Int) : Vector Int 32 := Vector.ofFn (fun k => f k.val)
def thmAt (l : List (FieldRef × Nat)) (f : Thm → Thm) : State := let s := put up ([(F.THM_LEVELS_WARN, 90), (F.THM_LEVELS_CRIT, 100), (F.THM_LEVELS_SHUT, 110)] ++ l); { s with thm := f s.thm }
def txAt (l : List (FieldRef × Nat)) : State := put up ([(F.THM_TXLIM_EN 7, 1)] ++ l)

theorem witness_Temperature_1 :
    (∃ (s : State) (v : (Vector Int 32)), s.plain ∧ dueSince s.thm.dieAt 25000 s.aon = true ∧ (∀ k, k < 32 → -32768 ≤ vget v k ∧ vget v k < 32768))
    ∧ (∃ (s : State) (v : (Vector Int 32)), s.plain ∧ dueSince s.thm.dieAt 25000 s.aon = true ∧ s.g F.THM_BROKEN_TS = 0 ∧ (∀ j < 32, ∀ k < 32, vget v j - vget v k ≤ 300) ∧ (∀ k, k < 32 → -32768 ≤ vget v k ∧ vget v k < 32768) ∧ (∀ k, k < 32 → vget v k < 100 * s.g F.THM_LEVELS_WARN - 200 ∧ vget v k < 100 * s.g F.THM_LEVELS_CRIT - 500 ∧ vget v k < 100 * s.g F.THM_LEVELS_SHUT))
    ∧ (∃ (s : State) (v : (Vector Int 32)), s.plain ∧ dueSince s.thm.dieAt 25000 s.aon = true ∧ s.g F.THM_BROKEN_TS = 0 ∧ (∀ j < 32, ∀ k < 32, vget v j - vget v k ≤ 300) ∧ (∀ k, k < 32 → -32768 ≤ vget v k ∧ vget v k < 32768) ∧ (∃ k, k < 32 ∧ (100 * s.g F.THM_LEVELS_CRIT : Nat) ≤ vget v k) ∧ (∀ k, k < 32 → vget v k < 100 * s.g F.THM_LEVELS_SHUT) ∧ s.on F.THM_STAT_WARN = true ∧ s.thm.dieCrit = false)
    ∧ (∃ (s : State) (v : (Vector Int 32)), s.plain ∧ dueSince s.thm.dieAt 25000 s.aon = true ∧ s.g F.THM_BROKEN_TS = 0 ∧ (∀ j < 32, ∀ k < 32, vget v j - vget v k ≤ 300) ∧ (∀ k, k < 32 → -32768 ≤ vget v k ∧ vget v k < 32768) ∧ (∃ k, k < 32 ∧ (100 * s.g F.THM_LEVELS_SHUT : Nat) ≤ vget v k) ∧ s.thm.hotRun = 3 ∧ s.thm.shutAt = none)
    ∧ (∃ (s : State) (x : Nat), s.plain ∧ s.thm.shutAt = some x ∧ s.on F.THM_STAT_SHUT = false ∧ (s.on F.JRN_STAT_FLUSHED = true ∨ x + 2 * msTicks ≤ s.aon))
    ∧ (∃ (s : State) (v : (Vector Nat 8)), s.plain ∧ dueSince s.thm.txAt msTicks s.aon = true ∧ s.on (F.THM_TXLIM_EN 7) = true ∧ s.on (F.THM_TXLIM_EN 6) = false)
    ∧ (∃ (s : State) (v : (Vector Nat 8)) (c : Nat), s.plain ∧ dueSince s.thm.txAt msTicks s.aon = true ∧ c < 8 ∧ s.on (F.THM_TXLIM_EN c) = true ∧ (∀ k, k < 8 → k ≠ c → s.on (F.THM_TXLIM_EN k) = false) ∧ (∀ n, n < 4 → s.on (F.STR_CTRL_LDTXEN n) = false) ∧ s.txFlag c 1 = false ∧ thermBad (vget v c) = false ∧ s.txFlag c 2 = true ∧ s.txFlag c 3 = true)
    ∧ (∃ (s : State) (v : (Vector Nat 8)) (c : Nat), s.plain ∧ dueSince s.thm.txAt msTicks s.aon = true ∧ c < 8 ∧ s.on (F.THM_TXLIM_EN c) = true ∧ (∀ k, k < 8 → k ≠ c → s.on (F.THM_TXLIM_EN k) = false) ∧ (∀ n, n < 4 → s.on (F.STR_CTRL_LDTXEN n) = false) ∧ s.txFlag c 1 = false ∧ thermBad (vget v c) = true ∧ s.txFlag c 3 = false) :=
  ⟨⟨(thmAt [] id), (warm (fun k => if k % 8 = 7 then 32767 else -32768)), by decide +kernel⟩,
   ⟨(thmAt [] id), (warm (fun k => if k = 31 then 300 else 0)), by decide +kernel⟩,
   ⟨(thmAt [(F.THM_STAT_WARN, 1)] id), (warm (fun k => if k = 31 then 10000 else 9999)), by decide +kernel⟩,
   ⟨(thmAt [] (fun t => { t with hotRun := 3 })), (warm (fun k => if k = 31 then 11000 else 10999)), by decide +kernel⟩,
   ⟨(thmAt [] (fun t => { t with shutAt := some (300000000000 - 500000) })), (300000000000 - 500000), by decide +kernel⟩,
   ⟨(txAt []), (Vector.replicate 8 30000), by decide +kernel⟩,
   ⟨((txAt []).setWord .THM_TXSTAT 0 0 0xC0000000), (Vector.replicate 8 30000), 7, by decide +kernel⟩,
   ⟨(txAt []), (Vector.replicate 8 63570), 7, by decide +kernel⟩⟩

theorem witness_Temperature_2 :
    (∃ (s : State) (p : Nat) (a : Int) (b : Int) (x : Nat) (c : Nat), s.plain ∧ s.pairOf p = some (a, b) ∧ s.pairOff p = true ∧ vget s.thm.pairSince p = some x ∧ x + 1000 * msTicks ≤ s.aon ∧ p < 8 ∧ c = (if a < b then p else s.g (F.THM_TXLIM_PAIR p)))
    ∧ (∃ (s : State) (p : Nat) (a : Int) (b : Int) (x : Nat), s.plain ∧ s.pairOf p = some (a, b) ∧ s.pairOff p = true ∧ vget s.thm.pairSince p = some x ∧ x + 1000 * msTicks ≤ s.aon ∧ 8 ≤ p) :=
  ⟨⟨(let s := put up [(F.THM_TXLIM_EN 6, 1), (F.THM_TXLIM_EN 7, 1), (F.THM_TXLIM_PAIREN 6, 1), (F.THM_TXLIM_PAIREN 7, 1), (F.THM_TXLIM_PAIR 6, 7), (F.THM_TXLIM_PAIR 7, 6), (F.THM_TX_TEMP 6, 100), (F.THM_TX_TEMP 7, 2000)]; { s with thm := { s.thm with pairSince := vmod s.thm.pairSince 6 (fun _ => some 5) } }), 6, 100, 2000, 5, 6, by decide +kernel⟩,
   ⟨(let s := put up [(F.FUS_CTRL_EN 1, 1), (F.FUS_TH01_TH0 1, 2000), (F.FUS_TH01_TH1 1, 100)]; { s with thm := { s.thm with pairSince := vmod s.thm.pairSince 9 (fun _ => some 5) }, fus := vmod s.fus 1 (fun x => { x with pairOk := true }) }), 9, 2000, 100, 5, by decide +kernel⟩⟩

def psqAt (st prog pc word : Nat) (l : List (FieldRef × Nat)) (f : Psq → Psq) : State :=
  let s := put up ([(F.PSQ_STAT_STATE, st), (F.PSQ_STAT_PROG, prog), (F.PSQ_STAT_PC, pc), (F.PSQ_CTRL_COOP, 0)] ++ l)
  { s.setWord .PSQ_PROG 0 pc word with psq := f s.psq }

theorem witness_SupplySteps_1 :
    (∃ (s : State), (let pc := s.psqPc; let w := s.word .PSQ_PROG 0 pc; s.plain ∧ s.psqState = 1 ∧ s.psq.vinAt = none ∧ s.g F.PSQ_STAT_PEND ≠ 2 ∧ s.psq.noWait + 1 < 1024 ∧ s.psq.wait = none ∧ 10 * 2 ^ 28 ≤ w ∧ s.g F.PSQ_STAT_PEND = 0 ∧ s.psqProg ≠ 3))
    ∧ (∃ (s : State), (let pc := s.psqPc; let w := s.word .PSQ_PROG 0 pc; s.plain ∧ s.psqState = 1 ∧ s.psq.vinAt = none ∧ s.g F.PSQ_STAT_PEND ≠ 2 ∧ s.psq.noWait + 1 < 1024 ∧ s.psq.wait = none ∧ w = 0 ∧ s.g F.PSQ_STAT_PEND = 0 ∧ (s.psqProg = 1 ∨ s.psqProg = 4 ∨ s.psqProg = 5)))
    ∧ (∃ (s : State), (let pc := s.psqPc; let w := s.word .PSQ_PROG 0 pc; s.plain ∧ s.psqState = 1 ∧ s.psq.vinAt = none ∧ s.g F.PSQ_STAT_PEND ≠ 2 ∧ s.psq.noWait + 1 < 1024 ∧ s.psq.wait = none ∧ w = 0 ∧ s.g F.PSQ_STAT_PEND = 0 ∧ s.psqProg = 2))
    ∧ (∃ (s : State), (let pc := s.psqPc; let w := s.word .PSQ_PROG 0 pc; s.plain ∧ s.psqState = 1 ∧ s.psq.vinAt = none ∧ s.g F.PSQ_STAT_PEND ≠ 2 ∧ s.psq.noWait + 1 < 1024 ∧ s.psq.wait = none ∧ w = 0 ∧ s.g F.PSQ_STAT_PEND = 0 ∧ s.psqProg = 3 ∧ (s.psq.sleepReq = 1 ∨ s.psq.sleepReq = 2)))
    ∧ (∃ (s : State), (let pc := s.psqPc; let w := s.word .PSQ_PROG 0 pc; s.plain ∧ s.psqState = 1 ∧ s.psq.vinAt = none ∧ s.g F.PSQ_STAT_PEND ≠ 2 ∧ s.psq.noWait + 1 < 1024 ∧ s.psq.wait = none ∧ w = 0 ∧ s.g F.PSQ_STAT_PEND = 0 ∧ s.psqProg = 3 ∧ (s.psq.sleepReq = 1 ∨ s.psq.sleepReq = 2)))
    ∧ (∃ (s : State), (let pc := s.psqPc; let w := s.word .PSQ_PROG 0 pc; s.plain ∧ s.psqState = 1 ∧ s.psq.vinAt = none ∧ s.g F.PSQ_STAT_PEND ≠ 2 ∧ s.psq.noWait + 1 < 1024 ∧ s.psq.wait = none ∧ w = 0 ∧ s.g F.PSQ_STAT_PEND = 1 ∧ (s.psqProg = 2 ∨ s.psqProg = 3) ∧ (∀ x ∈ s.psq.offAt, x + 50 * msTicks ≤ s.aon)))
    ∧ (∃ (s : State) (r : Nat) (ack : Bool), (let pc := s.psqPc; let w := s.word .PSQ_PROG 0 pc; s.plain ∧ s.psqState = 1 ∧ s.psq.vinAt = none ∧ s.g F.PSQ_STAT_PEND ≠ 2 ∧ s.psq.noWait + 1 < 1024 ∧ s.psq.wait = none ∧ w = 0x10000000 + r ∧ r < 24 ∧ ¬(s.railGood r = true ∧ s.railOn r = false) ∧ (s.on (F.PSQ_RAILCFG_PMEN r) = false ∨ ack = true)))
    ∧ (∃ (s : State) (r : Nat) (ack : Bool), (let pc := s.psqPc; let w := s.word .PSQ_PROG 0 pc; s.plain ∧ s.psqState = 1 ∧ s.psq.vinAt = none ∧ s.g F.PSQ_STAT_PEND ≠ 2 ∧ s.psq.noWait + 1 < 1024 ∧ s.psq.wait = none ∧ w = 0x10000000 + r ∧ r < 24 ∧ (s.railGood r = true ∧ s.railOn r = false) ∧ (s.on (F.PSQ_RAILCFG_PMEN r) = false ∨ ack = true))) :=
  ⟨⟨(psqAt 1 5 255 0xA0000000 [] id), by decide +kernel⟩,
   ⟨(psqAt 1 5 255 0 [] id), by decide +kernel⟩,
   ⟨(psqAt 1 2 255 0 [] id), by decide +kernel⟩,
   ⟨(psqAt 1 3 255 0 [] (fun p => { p with sleepReq := 1 })), by decide +kernel⟩,
   ⟨(psqAt 1 3 255 0 [] (fun p => { p with sleepReq := 2 })), by decide +kernel⟩,
   ⟨(psqAt 1 3 255 0 [(F.PSQ_STAT_PEND, 1)] (fun p => { p with sleepReq := 1, offAt := some 5 })), by decide +kernel⟩,
   ⟨(psqAt 1 1 255 0x10000017 [(F.PSQ_RAILCFG_PMEN 23, 1)] id), 23, true, by decide +kernel⟩,
   ⟨(psqAt 1 1 255 0x10000017 [(F.PSQ_PGSTAT_RAILS, 0x800000)] id), 23, true, by decide +kernel⟩⟩

theorem witness_SupplySteps_2 :
    (∃ (s : State) (r : Nat) (ack : Bool), (let pc := s.psqPc; let w := s.word .PSQ_PROG 0 pc; s.plain ∧ s.psqState = 1 ∧ s.psq.vinAt = none ∧ s.g F.PSQ_STAT_PEND ≠ 2 ∧ s.psq.noWait + 1 < 1024 ∧ s.psq.wait = none ∧ w = 0x10000000 + r ∧ r < 24 ∧ ¬(s.railGood r = true ∧ s.railOn r = false) ∧ ¬(s.on (F.PSQ_RAILCFG_PMEN r) = false ∨ ack = true)))
    ∧ (∃ (s : State) (r : Nat) (ack : Bool), (let pc := s.psqPc; let w := s.word .PSQ_PROG 0 pc; s.plain ∧ s.psqState = 1 ∧ s.psq.vinAt = none ∧ s.g F.PSQ_STAT_PEND ≠ 2 ∧ s.psq.noWait + 1 < 1024 ∧ s.psq.wait = none ∧ w = 0x20000000 + r ∧ r < 24 ∧ (s.on (F.PSQ_RAILCFG_DEV r) = false ∨ s.psq.flushed = true) ∧ (s.on (F.PSQ_RAILCFG_PMEN r) = false ∨ s.railOn r = false ∨ ack = true)))
    ∧ (∃ (s : State) (r : Nat) (ack : Bool), (let pc := s.psqPc; let w := s.word .PSQ_PROG 0 pc; s.plain ∧ s.psqState = 1 ∧ s.psq.vinAt = none ∧ s.g F.PSQ_STAT_PEND ≠ 2 ∧ s.psq.noWait + 1 < 1024 ∧ s.psq.wait = none ∧ w = 0x20000000 + r ∧ r < 24 ∧ (s.on (F.PSQ_RAILCFG_DEV r) = false ∨ s.psq.flushed = true) ∧ ¬(s.on (F.PSQ_RAILCFG_PMEN r) = false ∨ s.railOn r = false ∨ ack = true)))
    ∧ (∃ (s : State) (r : Nat) (ack : Bool), (let pc := s.psqPc; let w := s.word .PSQ_PROG 0 pc; s.plain ∧ s.psqState = 1 ∧ s.psq.vinAt = none ∧ s.g F.PSQ_STAT_PEND ≠ 2 ∧ s.psq.noWait + 1 < 1024 ∧ s.psq.wait = none ∧ w = 0x20000000 + r ∧ r < 24 ∧ ¬(s.on (F.PSQ_RAILCFG_DEV r) = false ∨ s.psq.flushed = true) ∧ s.g F.JRN_STAT_STATE = 1 ∧ 0 < s.jrn.queue.length))
    ∧ (∃ (s : State) (r : Nat) (ack : Bool), (let pc := s.psqPc; let w := s.word .PSQ_PROG 0 pc; s.plain ∧ s.psqState = 1 ∧ s.psq.vinAt = none ∧ s.g F.PSQ_STAT_PEND ≠ 2 ∧ s.psq.noWait + 1 < 1024 ∧ s.psq.wait = none ∧ w = 0x20000000 + r ∧ r < 24 ∧ ¬(s.on (F.PSQ_RAILCFG_DEV r) = false ∨ s.psq.flushed = true) ∧ s.g F.JRN_STAT_STATE ≠ 1 ∧ (s.on (F.PSQ_RAILCFG_PMEN r) = false ∨ s.railOn r = false ∨ ack = true)))
    ∧ (∃ (s : State) (n : Nat) (r : Nat), (let pc := s.psqPc; let w := s.word .PSQ_PROG 0 pc; s.plain ∧ s.psqState = 1 ∧ s.psq.vinAt = none ∧ s.g F.PSQ_STAT_PEND ≠ 2 ∧ s.psq.noWait + 1 < 1024 ∧ s.psq.wait = none ∧ w = 0x30000000 + 256 * n + r ∧ n < 2 ^ 20 ∧ (r = 31 ∨ r < 24) ∧ (r = 31 ∨ bit s.psq.starting r = true)))
    ∧ (∃ (s : State) (n : Nat) (r : Nat), (let pc := s.psqPc; let w := s.word .PSQ_PROG 0 pc; s.plain ∧ s.psqState = 1 ∧ s.psq.vinAt = none ∧ s.g F.PSQ_STAT_PEND ≠ 2 ∧ s.psq.noWait + 1 < 1024 ∧ s.psq.wait = none ∧ w = 0x30000000 + 256 * n + r ∧ n < 2 ^ 20 ∧ r < 24 ∧ bit s.psq.starting r = false))
    ∧ (∃ (s : State) (good : Bool) (dwell : Nat) (limit : Nat) (r : Nat), (let pc := s.psqPc; let w := s.word .PSQ_PROG 0 pc; s.plain ∧ s.psqState = 1 ∧ s.psq.vinAt = none ∧ s.g F.PSQ_STAT_PEND ≠ 2 ∧ s.psq.noWait + 1 < 1024 ∧ s.psq.wait = none ∧ w = 0x40000000 + 2 ^ 27 * good.toNat + 2 ^ 16 * dwell + 256 * limit + r ∧ dwell < 256 ∧ 1 ≤ limit ∧ limit < 256 ∧ r < 24 ∧ (good = true ∨ bit s.psq.starting r = true))) :=
  ⟨⟨(psqAt 1 1 255 0x10000017 [(F.PSQ_RAILCFG_PMEN 23, 1)] id), 23, false, by decide +kernel⟩,
   ⟨(psqAt 1 2 7 0x20000017 [(F.PSQ_ENSTAT_RAILS, 0x800001)] id), 23, false, by decide +kernel⟩,
   ⟨(psqAt 1 2 7 0x20000017 [(F.PSQ_ENSTAT_RAILS, 0x800001), (F.PSQ_RAILCFG_PMEN 23, 1), (F.PSQ_RAILCFG_DEV 23, 1)] (fun p => { p with flushed := true })), 23, false, by decide +kernel⟩,
   ⟨(let s := psqAt 1 2 7 0x20000017 [(F.PSQ_ENSTAT_RAILS, 0x800001), (F.PSQ_RAILCFG_DEV 23, 1)] id; { s with jrn := { s.jrn with queue := [{ seq := 1, type := 5, stream := 7, fsn := 9, epoch := 3, stamp := 12, aux := 2 }] } }), 23, true, by decide +kernel⟩,
   ⟨(psqAt 1 2 7 0x20000017 [(F.PSQ_ENSTAT_RAILS, 0x800001), (F.PSQ_RAILCFG_DEV 23, 1), (F.JRN_STAT_STATE, 3)] id), 23, true, by decide +kernel⟩,
   ⟨(psqAt 1 2 7 (0x30000000 + 31 + 256 * (2 ^ 20 - 1)) [] id), (2 ^ 20 - 1), 31, by decide +kernel⟩,
   ⟨(psqAt 1 2 7 (0x30000000 + 23) [] id), 0, 23, by decide +kernel⟩,
   ⟨(psqAt 1 2 7 (0x40000000 + 2 ^ 27 + 2 ^ 16 * 255 + 256 * 255 + 23) [] id), true, 255, 255, 23, by decide +kernel⟩⟩

theorem witness_SupplySteps_3 :
    (∃ (s : State) (good : Bool) (dwell : Nat) (limit : Nat) (r : Nat), (let pc := s.psqPc; let w := s.word .PSQ_PROG 0 pc; s.plain ∧ s.psqState = 1 ∧ s.psq.vinAt = none ∧ s.g F.PSQ_STAT_PEND ≠ 2 ∧ s.psq.noWait + 1 < 1024 ∧ s.psq.wait = none ∧ w = 0x40000000 + 2 ^ 27 * good.toNat + 2 ^ 16 * dwell + 256 * limit + r ∧ dwell < 256 ∧ 1 ≤ limit ∧ limit < 256 ∧ r < 24 ∧ good = false ∧ bit s.psq.starting r = false))
    ∧ (∃ (s : State) (r : Nat), (let pc := s.psqPc; let w := s.word .PSQ_PROG 0 pc; s.plain ∧ s.psqState = 1 ∧ s.psq.vinAt = none ∧ s.g F.PSQ_STAT_PEND ≠ 2 ∧ s.psq.noWait + 1 < 1024 ∧ s.psq.wait = none ∧ w = 0x50000000 + r ∧ r < 24))
    ∧ (∃ (s : State) (r : Nat), (let pc := s.psqPc; let w := s.word .PSQ_PROG 0 pc; s.plain ∧ s.psqState = 1 ∧ s.psq.vinAt = none ∧ s.g F.PSQ_STAT_PEND ≠ 2 ∧ s.psq.noWait + 1 < 1024 ∧ s.psq.wait = none ∧ w = 0x51000000 + r ∧ r < 32))
    ∧ (∃ (s : State) (r : Nat), (let pc := s.psqPc; let w := s.word .PSQ_PROG 0 pc; s.plain ∧ s.psqState = 1 ∧ s.psq.vinAt = none ∧ s.g F.PSQ_STAT_PEND ≠ 2 ∧ s.psq.noWait + 1 < 1024 ∧ s.psq.wait = none ∧ w = 0x52000000 + r ∧ r < 32))
    ∧ (∃ (s : State) (r : Nat), (let pc := s.psqPc; let w := s.word .PSQ_PROG 0 pc; s.plain ∧ s.psqState = 1 ∧ s.psq.vinAt = none ∧ s.g F.PSQ_STAT_PEND ≠ 2 ∧ s.psq.noWait + 1 < 1024 ∧ s.psq.wait = none ∧ w = 0x53000000 + r ∧ r < 8))
    ∧ (∃ (s : State) (target : Nat), (let pc := s.psqPc; let w := s.word .PSQ_PROG 0 pc; s.plain ∧ s.psqState = 1 ∧ s.psq.vinAt = none ∧ s.g F.PSQ_STAT_PEND ≠ 2 ∧ s.psq.noWait + 1 < 1024 ∧ s.psq.wait = none ∧ target < 256 ∧ w = 0x60000000 + target))
    ∧ (∃ (s : State) (target : Nat) (sense : Bool), (let pc := s.psqPc; let w := s.word .PSQ_PROG 0 pc; s.plain ∧ s.psqState = 1 ∧ s.psq.vinAt = none ∧ s.g F.PSQ_STAT_PEND ≠ 2 ∧ s.psq.noWait + 1 < 1024 ∧ s.psq.wait = none ∧ target < 256 ∧ w = 0x70000000 + 256 * sense.toNat + target))
    ∧ (∃ (s : State) (n : Nat), (let pc := s.psqPc; let w := s.word .PSQ_PROG 0 pc; s.plain ∧ s.psqState = 1 ∧ s.psq.vinAt = none ∧ s.g F.PSQ_STAT_PEND ≠ 2 ∧ s.psq.noWait + 1 < 1024 ∧ s.psq.wait = none ∧ w = 0x80000000 + n ∧ 1 ≤ n ∧ n < 256 ∧ s.coop = 0)) :=
  ⟨⟨(psqAt 1 2 7 (0x40000000 + 256 * 1 + 23) [] id), false, 0, 1, 23, by decide +kernel⟩,
   ⟨(psqAt 1 2 7 0x50000017 [(F.PSQ_PGSTAT_RAILS, 0x800000)] id), 23, by decide +kernel⟩,
   ⟨(psqAt 1 2 7 0x5100001F [] id), 31, by decide +kernel⟩,
   ⟨(psqAt 1 2 7 0x5200001F [(F.THM_LEVELS_WARN, 90)] id), 31, by decide +kernel⟩,
   ⟨(psqAt 1 2 7 0x53000007 [(F.PSQ_CTRL_USER, 0x80)] id), 7, by decide +kernel⟩,
   ⟨(psqAt 1 2 7 0x600000FF [] id), 255, by decide +kernel⟩,
   ⟨(psqAt 1 2 7 0x700001FF [(F.PSQ_STAT_FLAG, 1)] id), 255, true, by decide +kernel⟩,
   ⟨(psqAt 1 2 7 0x800000FF [] id), 255, by decide +kernel⟩⟩

theorem witness_SupplySteps_4 :
    (∃ (s : State) (n : Nat), (let pc := s.psqPc; let w := s.word .PSQ_PROG 0 pc; s.plain ∧ s.psqState = 1 ∧ s.psq.vinAt = none ∧ s.g F.PSQ_STAT_PEND ≠ 2 ∧ s.psq.noWait + 1 < 1024 ∧ s.psq.wait = none ∧ w = 0x80000000 + n ∧ 1 ≤ n ∧ n < 256 ∧ s.coop ≠ 0 ∧ n = s.g F.PSQ_STAT_SYNCST + 1))
    ∧ (∃ (s : State) (n : Nat), (let pc := s.psqPc; let w := s.word .PSQ_PROG 0 pc; s.plain ∧ s.psqState = 1 ∧ s.psq.vinAt = none ∧ s.g F.PSQ_STAT_PEND ≠ 2 ∧ s.psq.noWait + 1 < 1024 ∧ s.psq.wait = none ∧ w = 0x80000000 + n ∧ 1 ≤ n ∧ n < 256 ∧ s.coop ≠ 0 ∧ n ≠ s.g F.PSQ_STAT_SYNCST + 1))
    ∧ (∃ (s : State) (r : Nat) (dir : Bool) (path : Bool) (pct : Nat) (linear : Bool) (ack : Bool), (let pc := s.psqPc; let w := s.word .PSQ_PROG 0 pc; s.plain ∧ s.psqState = 1 ∧ s.psq.vinAt = none ∧ s.g F.PSQ_STAT_PEND ≠ 2 ∧ s.psq.noWait + 1 < 1024 ∧ s.psq.wait = none ∧ w = 0x90000000 + 2 ^ 13 * path.toNat + 2 ^ 12 * dir.toNat + 2 ^ 8 * pct + r ∧ r < 24 ∧ pct ≤ 10 ∧ s.marginBad r path pct = false ∧ ¬(pct ≠ 0 ∧ s.on (F.PSQ_RAILCFG_DEV r) = true ∧ s.lifecycle ≠ lcMAKER ∧ s.lifecycle ≠ lcRETURNED) ∧ ¬(path = true ∧ ¬(linear = true ∧ ack = true))))
    ∧ (∃ (s : State) (r : Nat) (dir : Bool) (path : Bool) (pct : Nat) (linear : Bool) (ack : Bool), (let pc := s.psqPc; let w := s.word .PSQ_PROG 0 pc; s.plain ∧ s.psqState = 1 ∧ s.psq.vinAt = none ∧ s.g F.PSQ_STAT_PEND ≠ 2 ∧ s.psq.noWait + 1 < 1024 ∧ s.psq.wait = none ∧ w = 0x90000000 + 2 ^ 13 * path.toNat + 2 ^ 12 * dir.toNat + 2 ^ 8 * pct + r ∧ r < 24 ∧ pct ≤ 10 ∧ s.marginBad r path pct = false ∧ ¬(pct ≠ 0 ∧ s.on (F.PSQ_RAILCFG_DEV r) = true ∧ s.lifecycle ≠ lcMAKER ∧ s.lifecycle ≠ lcRETURNED) ∧ ¬(path = true ∧ ¬(linear = true ∧ ack = true))))
    ∧ (∃ (s : State) (r : Nat) (dir : Bool) (path : Bool) (pct : Nat) (linear : Bool) (ack : Bool), (let pc := s.psqPc; let w := s.word .PSQ_PROG 0 pc; s.plain ∧ s.psqState = 1 ∧ s.psq.vinAt = none ∧ s.g F.PSQ_STAT_PEND ≠ 2 ∧ s.psq.noWait + 1 < 1024 ∧ s.psq.wait = none ∧ w = 0x90000000 + 2 ^ 13 * path.toNat + 2 ^ 12 * dir.toNat + 2 ^ 8 * pct + r ∧ r < 24 ∧ pct ≤ 10 ∧ s.marginBad r path pct = false ∧ (pct ≠ 0 ∧ s.on (F.PSQ_RAILCFG_DEV r) = true ∧ s.lifecycle ≠ lcMAKER ∧ s.lifecycle ≠ lcRETURNED)))
    ∧ (∃ (s : State) (r : Nat) (dir : Bool) (path : Bool) (pct : Nat) (linear : Bool) (ack : Bool), (let pc := s.psqPc; let w := s.word .PSQ_PROG 0 pc; s.plain ∧ s.psqState = 1 ∧ s.psq.vinAt = none ∧ s.g F.PSQ_STAT_PEND ≠ 2 ∧ s.psq.noWait + 1 < 1024 ∧ s.psq.wait = none ∧ w = 0x90000000 + 2 ^ 13 * path.toNat + 2 ^ 12 * dir.toNat + 2 ^ 8 * pct + r ∧ r < 24 ∧ pct ≤ 10 ∧ s.marginBad r path pct = false ∧ ¬(pct ≠ 0 ∧ s.on (F.PSQ_RAILCFG_DEV r) = true ∧ s.lifecycle ≠ lcMAKER ∧ s.lifecycle ≠ lcRETURNED) ∧ (path = true ∧ ¬(linear = true ∧ ack = true))))
    ∧ (∃ (s : State) (x : Nat), s.plain ∧ s.psqState = 1 ∧ s.psq.vinAt = none ∧ s.g F.PSQ_STAT_PEND ≠ 2 ∧ s.psq.noWait + 1 < 1024 ∧ s.psq.wait = some (.until x) ∧ x ≤ s.aon)
    ∧ (∃ (s : State) (r : Nat) (good : Bool) (dwell : Nat) (limit : Nat), s.plain ∧ s.psqState = 1 ∧ s.psq.vinAt = none ∧ s.g F.PSQ_STAT_PEND ≠ 2 ∧ s.psq.noWait + 1 < 1024 ∧ s.psq.wait = some (.pg r good dwell limit) ∧ r < 24 ∧ s.railGood r = good ∧ vget s.psq.pgAt r + dwell ≤ s.aon) :=
  ⟨⟨(psqAt 1 2 7 0x800000FF [(F.PSQ_CTRL_COOP, 1), (F.PSQ_STAT_SYNCST, 254)] id), 255, by decide +kernel⟩,
   ⟨(psqAt 1 2 7 0x800000FF [(F.PSQ_CTRL_COOP, 1), (F.PSQ_STAT_SYNCST, 255)] id), 255, by decide +kernel⟩,
   ⟨(psqAt 1 2 7 (0x90000000 + 2 ^ 12 + 2 ^ 8 * 10 + 23) [(F.PSQ_RAILCFG_MRGOK 23, 1), (F.PSQ_RAILCFG_MSTEP 23, 1)] id), 23, true, false, 10, false, false, by decide +kernel⟩,
   ⟨(psqAt 1 2 7 (0x90000000 + 2 ^ 13 + 2 ^ 8 * 10 + 23) [] id), 23, false, true, 10, true, true, by decide +kernel⟩,
   ⟨(psqAt 1 2 7 (0x90000000 + 2 ^ 12 + 2 ^ 8 * 10 + 23) [(F.PSQ_RAILCFG_MRGOK 23, 1), (F.PSQ_RAILCFG_MSTEP 23, 1), (F.PSQ_RAILCFG_DEV 23, 1)] id), 23, true, false, 10, true, true, by decide +kernel⟩,
   ⟨(psqAt 1 2 7 (0x90000000 + 2 ^ 13 + 2 ^ 8 * 10 + 23) [] id), 23, false, true, 10, true, false, by decide +kernel⟩,
   ⟨(psqAt 1 2 7 0 [] (fun p => { p with wait := some (.until 5) })), 5, by decide +kernel⟩,
   ⟨(psqAt 1 2 7 0 [] (fun p => { p with wait := some (.pg 23 false 7 (10 ^ 18)) })), 23, false, 7, (10 ^ 18), by decide +kernel⟩⟩

theorem witness_SupplySteps_5 :
    (∃ (s : State) (r : Nat) (good : Bool) (dwell : Nat) (limit : Nat), s.plain ∧ s.psqState = 1 ∧ s.psq.vinAt = none ∧ s.g F.PSQ_STAT_PEND ≠ 2 ∧ s.psq.noWait + 1 < 1024 ∧ s.psq.wait = some (.pg r good dwell limit) ∧ r < 24 ∧ (s.g F.PSQ_PGCFG_CHATMAX < s.psq.trans ∨ limit ≤ s.aon) ∧ (good = true ∨ s.psqProg ≠ 2 ∧ s.psqProg ≠ 3))
    ∧ (∃ (s : State) (r : Nat) (good : Bool) (dwell : Nat) (limit : Nat), s.plain ∧ s.psqState = 1 ∧ s.psq.vinAt = none ∧ s.g F.PSQ_STAT_PEND ≠ 2 ∧ s.psq.noWait + 1 < 1024 ∧ s.psq.wait = some (.pg r good dwell limit) ∧ r < 24 ∧ (s.g F.PSQ_PGCFG_CHATMAX < s.psq.trans ∨ limit ≤ s.aon) ∧ good = false ∧ (s.psqProg = 2 ∨ s.psqProg = 3))
    ∧ (∃ (s : State) (n : Nat) (limit : Nat) (line : Bool), s.plain ∧ s.psqState = 1 ∧ s.psq.vinAt = none ∧ s.g F.PSQ_STAT_PEND ≠ 2 ∧ s.psq.noWait + 1 < 1024 ∧ s.psq.wait = some (.sync n limit) ∧ n < 256 ∧ (s.coop = 3 ∧ line = true ∨ s.coop = 1 ∧ s.slavesAt n = true ∨ s.coop = 2 ∧ s.psq.passed = some n))
    ∧ (∃ (s : State) (n : Nat) (limit : Nat) (line : Bool), s.plain ∧ s.psqState = 1 ∧ s.psq.vinAt = none ∧ s.g F.PSQ_STAT_PEND ≠ 2 ∧ s.psq.noWait + 1 < 1024 ∧ s.psq.wait = some (.sync n limit) ∧ n < 256 ∧ (s.coop = 3 ∧ line = true ∨ s.coop = 1 ∧ s.slavesAt n = true ∨ s.coop = 2 ∧ s.psq.passed = some n))
    ∧ (∃ (s : State) (n : Nat) (limit : Nat), s.plain ∧ s.psqState = 1 ∧ s.psq.vinAt = none ∧ s.g F.PSQ_STAT_PEND ≠ 2 ∧ s.psq.noWait + 1 < 1024 ∧ s.psq.wait = some (.sync n limit) ∧ n < 256 ∧ limit ≤ s.aon) :=
  ⟨⟨(psqAt 1 1 7 0 [] (fun p => { p with wait := some (.pg 23 true 7 5) })), 23, true, 7, 5, by decide +kernel⟩,
   ⟨(psqAt 1 2 7 0 [] (fun p => { p with wait := some (.pg 23 false 7 5) })), 23, false, 7, 5, by decide +kernel⟩,
   ⟨(psqAt 1 2 7 0 [(F.PSQ_CTRL_COOP, 3)] (fun p => { p with wait := some (.sync 255 5) })), 255, 5, true, by decide +kernel⟩,
   ⟨(psqAt 1 2 7 0 [(F.PSQ_CTRL_COOP, 2)] (fun p => { p with passed := some 255, wait := some (.sync 255 5) })), 255, 5, false, by decide +kernel⟩,
   ⟨(psqAt 1 2 7 0 [(F.PSQ_CTRL_COOP, 3)] (fun p => { p with wait := some (.sync 255 5) })), 255, 5, by decide +kernel⟩⟩

theorem witness_SupplyFailures_1 :
    (∃ (s : State) (r : Nat) (good : Bool), s.plain ∧ r < 24 ∧ s.railGood r ≠ good ∧ (good = true ∨ s.railOn r = false))
    ∧ (∃ (s : State) (r : Nat) (good : Bool) (lv : Bool) (d : Nat) (l : Nat), s.plain ∧ r < 24 ∧ s.railGood r ≠ good ∧ s.psq.wait = some (.pg r lv d l))
    ∧ (∃ (s : State) (r : Nat) (good : Bool), (let st := s.psqState; s.plain ∧ r < 24 ∧ s.railGood r ≠ good ∧ good = false ∧ s.railOn r = true ∧ (∀ lv d l, s.psq.wait ≠ some (.pg r lv d l)) ∧ s.psq.vinAt = none ∧ st ≠ 3 ∧ st ≠ 4 ∧ st ≠ 6))
    ∧ (∃ (s : State) (l : (List Nat)) (r : Nat) (x : Nat) (acks : Nat), (let st := s.psqState; s.plain ∧ st = 3 ∧ s.coop = 0 ∧ s.psq.order = l ++ [r] ∧ l.contains r = false ∧ r < 24 ∧ s.railOn r = true ∧ s.psq.failHold = some x ∧ s.psq.lastRel = none ∧ (s.flushing = false ∨ x ≤ s.aon)))
    ∧ (∃ (s : State) (l : (List Nat)) (r : Nat) (x : Nat), (let st := s.psqState; s.plain ∧ st = 3 ∧ s.coop = 0 ∧ s.psq.order = l ++ [r] ∧ l.contains r = false ∧ r < 24 ∧ s.railOn r = true ∧ s.psq.lastRel = some x ∧ x + s.g F.PSQ_PGCFG_FAILGAP * msTicks ≤ s.aon))
    ∧ (∃ (s : State) (x : Nat) (acks : Nat), (let st := s.psqState; s.plain ∧ st = 3 ∧ s.coop = 0 ∧ s.psq.order = [] ∧ s.psq.failHold = some x ∧ s.psq.lastRel = none ∧ x ≤ s.aon))
    ∧ (∃ (s : State) (mv : Nat), (let st := s.psqState; s.plain ∧ s.psq.vinAt = none ∧ st < 6 ∧ s.psq.upWaits = false ∧ mv < s.g F.PSQ_VIN_THRESH ∧ s.psq.asleep = 1))
    ∧ (∃ (s : State) (mv : Nat), (let st := s.psqState; s.plain ∧ s.psq.vinAt = none ∧ st < 6 ∧ s.psq.upWaits = false ∧ mv < s.g F.PSQ_VIN_THRESH ∧ s.psq.asleep = 2)) :=
  ⟨⟨(psqAt 2 0 0 0 [] id), 23, true, by decide +kernel⟩,
   ⟨(psqAt 1 0 0 0 [(F.PSQ_PGSTAT_RAILS, 0x800000), (F.PSQ_ENSTAT_RAILS, 0x800000)] (fun p => { p with wait := some (.pg 23 true 4 5) })), 23, false, true, 4, 5, by decide +kernel⟩,
   ⟨(psqAt 2 0 0 0 [(F.PSQ_PGSTAT_RAILS, 0x800000), (F.PSQ_ENSTAT_RAILS, 0x800000)] id), 23, false, by decide +kernel, by decide +kernel, by decide +kernel, by decide +kernel, by decide +kernel, (fun lv d l => by show (none : Option PsqWait) ≠ _; exact nofun), by decide +kernel, by decide +kernel, by decide +kernel, by decide +kernel⟩,
   ⟨(psqAt 3 0 0 0 [(F.PSQ_ENSTAT_RAILS, 0x800003), (F.JRN_STAT_FLUSHED, 1)] (fun p => { p with order := [1, 0, 23], failHold := some (10 ^ 18) })), ([1, 0]), 23, (10 ^ 18), 0, by decide +kernel⟩,
   ⟨(psqAt 3 0 0 0 [(F.PSQ_ENSTAT_RAILS, 0x800000)] (fun p => { p with order := [23], lastRel := some 5 })), ([]), 23, 5, by decide +kernel⟩,
   ⟨(psqAt 3 0 0 0 [] (fun p => { p with failHold := some 5 })), 5, 0, by decide +kernel⟩,
   ⟨(psqAt 0 0 0 0 [] (fun p => { p with asleep := 1 })), 2, by decide +kernel⟩,
   ⟨(psqAt 0 0 0 0 [] (fun p => { p with asleep := 2 })), 2, by decide +kernel⟩⟩

theorem witness_SupplyFailures_2 :
    (∃ (s : State) (mv : Nat), (let st := s.psqState; s.plain ∧ s.psq.vinAt = none ∧ st < 6 ∧ s.psq.asleep = 0 ∧ s.psq.upWaits = false ∧ mv < s.g F.PSQ_VIN_THRESH))
    ∧ (∃ (s : State) (mv : Nat), (let st := s.psqState; s.plain ∧ s.psq.vinAt = none ∧ st < 6 ∧ s.psq.upWaits = false ∧ s.g F.PSQ_VIN_THRESH ≤ mv))
    ∧ (∃ (s : State) (x : Nat), s.plain ∧ s.psq.vinAt = some x ∧ (s.flushing = false ∨ x + s.g F.PSQ_VIN_VINHOLD * 10 * usTicks ≤ s.aon))
    ∧ (∃ (s : State) (mv : Nat), (let st := s.psqState; s.plain ∧ s.g F.PSQ_VIN_THRESH + s.g F.PSQ_VIN_HYST < mv ∧ st = 6 ∧ s.psq.upWaits = false ∧ (s.on F.PSQ_CTRL_AUTORESTART = true ∨ s.psq.asleep = 1) ∧ (∀ x ∈ s.psq.offAt, x + 50 * msTicks ≤ s.aon)))
    ∧ (∃ (s : State) (mv : Nat), (let st := s.psqState; s.plain ∧ s.g F.PSQ_VIN_THRESH + s.g F.PSQ_VIN_HYST < mv ∧ st = 6 ∧ s.psq.upWaits = false ∧ (s.on F.PSQ_CTRL_AUTORESTART = true ∨ s.psq.asleep = 1) ∧ (∀ x ∈ s.psq.offAt, x + 50 * msTicks ≤ s.aon)))
    ∧ (∃ (s : State) (mv : Nat), (let st := s.psqState; s.plain ∧ s.g F.PSQ_VIN_THRESH + s.g F.PSQ_VIN_HYST < mv ∧ st = 6 ∧ s.psq.upWaits = false ∧ (s.on F.PSQ_CTRL_AUTORESTART = true ∨ s.psq.asleep = 1) ∧ (∃ x ∈ s.psq.offAt, s.aon < x + 50 * msTicks)))
    ∧ (∃ (s : State) (mv : Nat), (let st := s.psqState; s.plain ∧ s.g F.PSQ_VIN_THRESH + s.g F.PSQ_VIN_HYST < mv ∧ st = 6 ∧ s.psq.upWaits = false ∧ ¬(s.on F.PSQ_CTRL_AUTORESTART = true ∨ s.psq.asleep = 1)))
    ∧ (∃ (s : State) (mv : Nat), s.plain ∧ s.g F.PSQ_VIN_THRESH + s.g F.PSQ_VIN_HYST < mv ∧ s.psq.upWaits = true ∧ (∀ x ∈ s.psq.offAt, x + 50 * msTicks ≤ s.aon)) :=
  ⟨⟨(psqAt 2 0 0 0 [] id), 2, by decide +kernel⟩,
   ⟨(psqAt 2 0 0 0 [] id), 60000, by decide +kernel⟩,
   ⟨(psqAt 2 0 0 0 [(F.PSQ_ENSTAT_RAILS, 0x800003), (F.JRN_STAT_FLUSHED, 1)] (fun p => { p with vinAt := some (10 ^ 18), order := [1, 0, 23] })), (10 ^ 18), by decide +kernel⟩,
   ⟨(psqAt 6 0 0 0 [(F.PSQ_CTRL_AUTORESTART, 1)] (fun p => { p with offAt := some 5 })), 65000, by decide +kernel⟩,
   ⟨(psqAt 6 0 0 0 [(F.PSQ_CTRL_AUTORESTART, 0)] (fun p => { p with asleep := 1, offAt := some 5 })), 65000, by decide +kernel⟩,
   ⟨(psqAt 6 0 0 0 [(F.PSQ_CTRL_AUTORESTART, 1)] (fun p => { p with offAt := some 299999000000 })), 65000, by decide +kernel⟩,
   ⟨(psqAt 6 0 0 0 [(F.PSQ_CTRL_AUTORESTART, 0)] (fun p => { p with offAt := some 299999000000 })), 65000, by decide +kernel⟩,
   ⟨(psqAt 0 0 0 0 [] (fun p => { p with upWaits := true })), 65000, by decide +kernel⟩⟩

theorem witness_SupplyFailures_3 :
    (∃ (s : State) (mv : Nat), (let st := s.psqState; s.plain ∧ s.g F.PSQ_VIN_THRESH + s.g F.PSQ_VIN_HYST < mv ∧ s.psq.upWaits = false ∧ st ≠ 6))
    ∧ (∃ (s : State), (let st := s.psqState; s.plain ∧ st = 5 ∧ (∀ x ∈ s.psq.offAt, x + 50 * msTicks ≤ s.aon) ∧ s.psq.next = 0))
    ∧ (∃ (s : State), (let st := s.psqState; s.plain ∧ st = 5 ∧ (∀ x ∈ s.psq.offAt, x + 50 * msTicks ≤ s.aon) ∧ s.psq.next = 1))
    ∧ (∃ (s : State), (let st := s.psqState; s.plain ∧ st = 5 ∧ (∀ x ∈ s.psq.offAt, x + 50 * msTicks ≤ s.aon) ∧ s.psq.next = 4))
    ∧ (∃ (s : State), (let st := s.psqState; s.plain ∧ st = 5 ∧ ∃ x ∈ s.psq.offAt, s.aon < x + 50 * msTicks))
    ∧ (∃ (s : State), (let st := s.psqState; s.plain ∧ s.psq.asleep < 2 ∧ (st = 4 ∨ st = 0) ∧ (∀ x ∈ s.psq.offAt, x + 50 * msTicks ≤ s.aon)))
    ∧ (∃ (s : State), (let st := s.psqState; s.plain ∧ s.psq.asleep < 2 ∧ (st = 4 ∨ st = 0) ∧ ∃ x ∈ s.psq.offAt, s.aon < x + 50 * msTicks))
    ∧ (∃ (s : State), (let st := s.psqState; s.plain ∧ s.psq.asleep = 1 ∧ st = 0 ∧ s.on F.PSQ_WAKE_ALARMEN = true ∧ s.psq.sleepAt + s.g F.PSQ_WAKE_ALARM * 1000 * msTicks ≤ s.aon ∧ (∀ x ∈ s.psq.offAt, x + 50 * msTicks ≤ s.aon))) :=
  ⟨⟨(psqAt 2 0 0 0 [] id), 65000, by decide +kernel⟩,
   ⟨(psqAt 5 0 0 0 [] id), by decide +kernel⟩,
   ⟨(psqAt 5 0 0 0 [] (fun p => { p with next := 1 })), by decide +kernel⟩,
   ⟨(psqAt 5 0 0 0 [] (fun p => { p with next := 4 })), by decide +kernel⟩,
   ⟨(psqAt 5 0 0 0 [] (fun p => { p with offAt := some 299999000000 })), by decide +kernel⟩,
   ⟨(psqAt 4 0 0 0 [] (fun p => { p with asleep := 1 })), by decide +kernel⟩,
   ⟨(psqAt 0 0 0 0 [] (fun p => { p with asleep := 1, offAt := some 299999000000 })), by decide +kernel⟩,
   ⟨(psqAt 0 0 0 0 [(F.PSQ_WAKE_ALARMEN, 1), (F.PSQ_WAKE_ALARM, 1000)] (fun p => { p with asleep := 1, sleepAt := 5 })), by decide +kernel⟩⟩

theorem witness_SupplyCommands_1 :
    (∃ (s : State) (q : Requester) (v : Nat) (c : Instr), s.plain ∧ s.present q ∧ bits v 27 20 ≠ 0xA6 ∧ c ∈ [Instr.on q v, .off q v, .runat q v, .clear q v, .idle q v, .run q v, .sleep q v, .shelf q v])
    ∧ (∃ (s : State) (q : Requester) (v : Nat), (let st := s.psqState; s.plain ∧ s.present q ∧ bits v 27 20 = 0xA6 ∧ s.coop ≠ 2 ∧ s.psq.vinAt = none ∧ st = 0 ∧ (∀ x ∈ s.psq.offAt, x + 50 * msTicks ≤ s.aon)))
    ∧ (∃ (s : State) (q : Requester) (v : Nat), (let st := s.psqState; s.plain ∧ s.present q ∧ bits v 27 20 = 0xA6 ∧ s.coop ≠ 2 ∧ s.psq.vinAt = none ∧ st = 1 ∧ (s.psqProg = 2 ∨ s.psqProg = 3)))
    ∧ (∃ (s : State) (q : Requester) (v : Nat), (let st := s.psqState; s.plain ∧ s.present q ∧ bits v 27 20 = 0xA6 ∧ s.coop ≠ 2 ∧ s.psq.vinAt = none ∧ st = 2))
    ∧ (∃ (s : State) (q : Requester) (v : Nat), (let st := s.psqState; s.plain ∧ s.present q ∧ bits v 27 20 = 0xA6 ∧ s.coop ≠ 2 ∧ s.psq.vinAt = none ∧ st = 1 ∧ (s.psqProg = 1 ∨ s.psqProg = 4 ∨ s.psqProg = 5) ∧ s.psq.wait ≠ none))
    ∧ (∃ (s : State) (q : Requester) (v : Nat), (let st := s.psqState; s.plain ∧ s.present q ∧ bits v 27 20 = 0xA6 ∧ s.coop ≠ 2 ∧ s.psq.vinAt = none ∧ (st = 4 ∨ st = 6)))
    ∧ (∃ (s : State) (q : Requester) (v : Nat), s.plain ∧ s.present q ∧ bits v 27 20 = 0xA6 ∧ s.coop = 2)
    ∧ (∃ (s : State) (q : Requester) (v : Nat), (let st := s.psqState; s.plain ∧ s.present q ∧ bits v 27 20 = 0xA6 ∧ st = 2)) :=
  ⟨⟨(psqAt 2 0 0 0 [] id), (.host 0), 0x0A700000, (.sleep (.host 0) 0x0A700000), by decide +kernel⟩,
   ⟨(psqAt 0 0 0 0 [] id), (.host 0), 0x0A600000, by decide +kernel⟩,
   ⟨(psqAt 1 3 9 0 [] (fun p => { p with wait := some (.until 7) })), (.host 0), 0x0A600000, by decide +kernel⟩,
   ⟨(psqAt 2 0 0 0 [] id), (.host 0), 0x0A600000, by decide +kernel⟩,
   ⟨(psqAt 1 5 9 0 [] (fun p => { p with wait := some (.until 7) })), (.host 0), 0x0A600000, by decide +kernel⟩,
   ⟨(psqAt 6 0 0 0 [] id), (.host 0), 0x0A600000, by decide +kernel⟩,
   ⟨(psqAt 0 0 0 0 [(F.PSQ_CTRL_COOP, 2)] id), (.host 0), 0x0A600000, by decide +kernel⟩,
   ⟨(psqAt 2 0 0 0 [] id), (.host 0), 0x0A6000FF, by decide +kernel⟩⟩

theorem witness_SupplyCommands_2 :
    (∃ (s : State) (q : Requester) (v : Nat), (let st := s.psqState; s.plain ∧ s.present q ∧ bits v 27 20 = 0xA6 ∧ st ≠ 2 ∧ st ≠ 4))
    ∧ (∃ (s : State) (q : Requester) (v : Nat), (let st := s.psqState; s.plain ∧ s.present q ∧ bits v 27 20 = 0xA6 ∧ st = 4))
    ∧ (∃ (s : State) (q : Requester) (v : Nat), s.plain ∧ s.present q ∧ bits v 27 20 = 0xA6 ∧ s.mayIdle = true ∧ s.g F.PSQ_STAT_PSTATE = 0)
    ∧ (∃ (s : State) (q : Requester) (v : Nat), s.plain ∧ s.present q ∧ bits v 27 20 = 0xA6 ∧ s.mayIdle = false)
    ∧ (∃ (s : State) (q : Requester) (v : Nat), s.plain ∧ s.present q ∧ bits v 27 20 = 0xA6 ∧ s.g F.PSQ_STAT_PSTATE = 1 ∧ s.psq.idleDiv < 4)
    ∧ (∃ (s : State) (q : Requester) (v : Nat), s.plain ∧ s.present q ∧ bits v 27 20 = 0xA6 ∧ s.mayIdle = true ∧ s.g F.PSQ_STAT_PSTATE = 1)
    ∧ (∃ (s : State) (q : Requester) (v : Nat), s.plain ∧ s.present q ∧ bits v 27 20 = 0xA6 ∧ s.g F.PSQ_STAT_PSTATE ≠ 1)
    ∧ (∃ (s : State) (q : Requester) (v : Nat), (let st := s.psqState; s.plain ∧ s.present q ∧ bits v 27 20 = 0xA6 ∧ s.mayIdle = true ∧ s.anyLive = false ∧ st = 2)) :=
  ⟨⟨(psqAt 1 0 0 0 [] id), (.host 0), 0x0A6000FF, by decide +kernel⟩,
   ⟨(psqAt 4 0 0 0 [] id), (.host 0), 0x0A6000FF, by decide +kernel⟩,
   ⟨(psqAt 2 0 0 0 [] id), (.host 0), 0x0A6000FF, by decide +kernel⟩,
   ⟨(put (psqAt 2 0 0 0 [] id) [(F.STR_CTRL_EN 3, 1)]), (.host 0), 0x0A6000FF, by decide +kernel⟩,
   ⟨(psqAt 2 0 0 0 [(F.PSQ_STAT_PSTATE, 1)] (fun p => { p with idleDiv := 3 })), (.host 0), 0x0A6000FF, by decide +kernel⟩,
   ⟨(psqAt 2 0 0 0 [(F.PSQ_STAT_PSTATE, 1)] id), (.host 0), 0x0A6000FF, by decide +kernel⟩,
   ⟨(psqAt 2 0 0 0 [(F.PSQ_STAT_PSTATE, 0)] id), (.host 0), 0x0A6000FF, by decide +kernel⟩,
   ⟨(psqAt 2 0 0 0 [] id), (.host 0), 0x0A6000FF, by decide +kernel⟩⟩

theorem witness_SupplyCommands_3 :
    (∃ (s : State) (q : Requester) (v : Nat) (r : Nat) (linear : Bool) (ack : Bool), s.plain ∧ s.present q ∧ bits v 27 20 = 0xA6 ∧ r = bits v 19 15 ∧ r < 24 ∧ bit v 14 = false ∧ s.marginBad r false (bits v 12 9) = false ∧ s.on (F.PSQ_RAILCFG_DEV r) = false)
    ∧ (∃ (s : State) (q : Requester) (v : Nat) (n : Nat), s.plain ∧ s.present q ∧ s.coop = 2 ∧ n < 256)
    ∧ (∃ (s : State) (q : Requester) (v : Nat) (k : Nat) (w : (Option Nat)), s.plain ∧ s.present q ∧ s.coop = 2)
    ∧ (∃ (s : State) (q : Requester) (v : Nat), (let st := s.psqState; s.plain ∧ s.present q ∧ s.coop = 2 ∧ st = 0 ∧ (∀ x ∈ s.psq.offAt, x + 50 * msTicks ≤ s.aon) ∧ s.psq.vinAt = none))
    ∧ (∃ (s : State) (q : Requester) (v : Nat), (let st := s.psqState; s.plain ∧ s.present q ∧ s.coop = 2 ∧ st = 2 ∧ s.psq.vinAt = none))
    ∧ (∃ (s : State) (q : Requester) (v : Nat) (n : Nat), s.plain ∧ s.present q ∧ s.coop = 1)
    ∧ (∃ (s : State) (q : Requester) (v : Nat) (k : Nat) (w : Nat), s.plain ∧ s.present q ∧ s.coop = 1 ∧ k < 8 ∧ s.on (F.PSQ_SLAVE_EN k) = true ∧ w < 2 ^ 16 ∧ bit w 8 = false)
    ∧ (∃ (s : State) (q : Requester) (v : Nat) (k : Nat) (w : Nat), (let st := s.psqState; s.plain ∧ s.present q ∧ s.coop = 1 ∧ k < 8 ∧ s.on (F.PSQ_SLAVE_EN k) = true ∧ w < 2 ^ 16 ∧ bit w 8 = true ∧ st = 2 ∧ s.psq.vinAt = none)) :=
  ⟨⟨(psqAt 2 0 0 0 [(F.PSQ_RAILCFG_MRGOK 23, 1), (F.PSQ_RAILCFG_MSTEP 23, 1)] id), (.host 0), (0x0A600000 + 23 * 32768 + 10 * 512 + 8192), 23, true, true, by decide +kernel⟩,
   ⟨(psqAt 2 0 0 0 [(F.PSQ_CTRL_COOP, 2)] id), (.host 0), 0, 255, by decide +kernel⟩,
   ⟨(psqAt 2 0 0 0 [(F.PSQ_CTRL_COOP, 2)] id), (.host 0), 0, 7, none, by decide +kernel⟩,
   ⟨(psqAt 0 0 0 0 [(F.PSQ_CTRL_COOP, 2)] id), (.host 0), 0, by decide +kernel⟩,
   ⟨(psqAt 2 0 0 0 [(F.PSQ_CTRL_COOP, 2)] id), (.host 0), 0, by decide +kernel⟩,
   ⟨(psqAt 2 0 0 0 [(F.PSQ_CTRL_COOP, 1)] id), (.host 0), 0, 9, by decide +kernel⟩,
   ⟨(psqAt 2 0 0 0 [(F.PSQ_CTRL_COOP, 1), (F.PSQ_SLAVE_EN 7, 1)] id), (.host 0), 0, 7, 0xFEFF, by decide +kernel⟩,
   ⟨(psqAt 2 0 0 0 [(F.PSQ_CTRL_COOP, 1), (F.PSQ_SLAVE_EN 7, 1)] id), (.host 0), 0, 7, 0x100, by decide +kernel⟩⟩

theorem witness_SupplyCommands_4 :
    (∃ (s : State) (q : Requester) (v : Nat) (ws : (Vector (Option Nat) 8)), (let st := s.psqState; s.plain ∧ s.present q ∧ s.coop = 1 ∧ st = 2 ∧ s.psq.wait = none ∧ s.psq.polledAt + msTicks ≤ s.aon ∧ (∀ k, k < 8 → ∃ w ∈ vget ws k, w < 2 ^ 16 ∧ bit w 8 = false))) :=
  ⟨(psqAt 2 0 0 0 [(F.PSQ_CTRL_COOP, 1), (F.PSQ_SLAVE_EN 7, 1)] id), (.host 0), 0, (Vector.replicate 8 (some 9)), by decide +kernel⟩

end Sys2Proof.Tests
end

