-- ==== Sys2Proof/Tests/WitMotion.lean ====
section
/-! SUPPORT. Witnesses: states and operands that meet the hypotheses of each clause of the statements, clause by clause. -/

namespace Sys2Proof.Tests

open Sys2Proof Sys2Proof.Machine

set_option maxRecDepth 100000
set_option linter.unusedVariables false
set_option Elab.async false

def descOf (own : Bool) (space len : Nat) (src dst crcAdd : Nat) (mode : Nat := 0) : List Nat :=
  let ctrl := (if own then 2 ^ 31 else 0) + 2 ^ 30 + mode * 2 ^ 27 + space * 2 ^ 25 + space * 2 ^ 23 + 0xBEEF
  let b := leBytes 4 ctrl ++ leBytes 4 len ++ leBytes 8 src ++ leBytes 8 dst ++ [0, 0, 1, 0]
  b ++ leBytes 4 (dmaCrc b + crcAdd)
def dmaRegs : List (FieldRef × Nat) := [(F.DMA_CHCFG_EN 15, 1), (F.TCE_QCFG_EN 47, 1), (F.TCE_QCFG_CONS 47, 4), (F.TCE_QCFG_PROD 47, 1), (F.TCE_QCFG_ESIZE 47, 1), (F.TCE_QCFG_LOG2N 47, 2), (F.TCE_QTAIL_INDEX 47, 1), (F.TCE_QCFG_EN 63, 1), (F.TCE_QCFG_PROD 63, 4), (F.TCE_QCFG_LOG2N 63, 2), (F.TCE_QBASE_OFFSET 63, 8), (F.FCL_RINGCFG_RING, 96)]
def dmaAt (l : List (FieldRef × Nat)) (b : List Nat) : State := (put up (dmaRegs ++ l)).wrBytes 0x02000000 b
def chAt (c : Dma) (s : State) : State := { s with dma := vmod s.dma 15 (fun _ => c) }
def xf : Xfer := { tag := 7, cmpl := true, ctx := none, sspace := 1, dspace := 2, src := 2 ^ 64 - 5, len := 5, pitch := 0, rows := 1, dst := 100 }
def xf1 : Xfer := { xf with dspace := 1 }
def xfIn : Xfer := { tag := 7, cmpl := true, ctx := some 5, sspace := 1, dspace := 0, src := 100, len := 2, pitch := 0, rows := 1, dst := 0 }
def inAt (st : Nat) : State := { chAt { xfer := some xfIn } (dmaAt [(F.DMA_CHSTAT_STATE 15, dACTIVE), (F.ING_CTX_STAT_STATE 5, st), (F.ING_CTX_JOB_STATIONS 5, 1), (F.ING_CTX_JOB_NPIX 5, 3), (F.ING_CTX_NB_NB 5, 1)] []) with hostMem := [(100, 0x12), (101, 3)] }

theorem witness_DmaTransfers_1 :
    (∃ (s : State) (c : Nat), (let d := s.dmaEntry c; s.calm ∧ c < 16 ∧ s.on (F.DMA_CHCFG_EN c) = true ∧ s.g (F.DMA_CHSTAT_STATE c) = dIDLE ∧ s.dmaHas c = true ∧ d.own = true ∧ d.crcOk = true ∧ s.dmaFieldBad d = false ∧ ((s.g (F.TCE_QCFG_PROD (32 + c)) != 3) = true → d.mode ≠ 1) ∧ s.dmaFits (s.g (F.TCE_QCFG_PROD (32 + c)) != 3) true d.sspace d.src (4 * d.pitch * (d.rows - 1) + d.len) = true ∧ (d.mode ≠ 0 ∨ s.dmaFits (s.g (F.TCE_QCFG_PROD (32 + c)) != 3) false d.dspace d.dst (s.dmaOut c (d.len * d.rows)) = true)))
    ∧ (∃ (s : State) (c : Nat), (let d := s.dmaEntry c; s.calm ∧ c < 16 ∧ s.on (F.DMA_CHCFG_EN c) = true ∧ s.g (F.DMA_CHSTAT_STATE c) = dIDLE ∧ s.dmaHas c = true ∧ d.own = true ∧ s.histRoom ∧ s.canPost (48 + c) 4 = true ∧ s.ringLen (32 + c) ≤ 4096 ∧ s.ringLen (48 + c) ≤ 4096 ∧ 96 ≤ s.g F.FCL_RINGCFG_RING ∧ d.crcOk = false))
    ∧ (∃ (s : State) (c : Nat), (let d := s.dmaEntry c; s.calm ∧ c < 16 ∧ s.on (F.DMA_CHCFG_EN c) = true ∧ s.g (F.DMA_CHSTAT_STATE c) = dIDLE ∧ s.dmaHas c = true ∧ d.own = true ∧ s.histRoom ∧ s.canPost (48 + c) 4 = true ∧ s.ringLen (32 + c) ≤ 4096 ∧ s.ringLen (48 + c) ≤ 4096 ∧ 96 ≤ s.g F.FCL_RINGCFG_RING ∧ d.crcOk = true ∧ s.dmaFieldBad d = true))
    ∧ (∃ (s : State) (c : Nat), (let d := s.dmaEntry c; s.calm ∧ c < 16 ∧ s.on (F.DMA_CHCFG_EN c) = true ∧ s.g (F.DMA_CHSTAT_STATE c) = dIDLE ∧ s.dmaHas c = true ∧ d.own = true ∧ s.histRoom ∧ s.canPost (48 + c) 4 = true ∧ s.ringLen (32 + c) ≤ 4096 ∧ s.ringLen (48 + c) ≤ 4096 ∧ 96 ≤ s.g F.FCL_RINGCFG_RING ∧ d.crcOk = true ∧ s.dmaFieldBad d = false ∧ (((s.g (F.TCE_QCFG_PROD (32 + c)) != 3) = true ∧ d.mode = 1) ∨ ¬s.dmaFits (s.g (F.TCE_QCFG_PROD (32 + c)) != 3) true d.sspace d.src (4 * d.pitch * (d.rows - 1) + d.len) = true ∨ ¬(d.mode ≠ 0 ∨ s.dmaFits (s.g (F.TCE_QCFG_PROD (32 + c)) != 3) false d.dspace d.dst (s.dmaOut c (d.len * d.rows)) = true))))
    ∧ (∃ (s : State) (c : Nat) (x : Nat), (let d := s.dmaEntry c; s.calm ∧ c < 16 ∧ (s.chan c).waitSince = some x ∧ s.dmaHas c = true ∧ d.own = true ∧ d.crcOk = true ∧ s.dmaFieldBad d = false ∧ ((s.g (F.TCE_QCFG_PROD (32 + c)) != 3) = true → d.mode ≠ 1) ∧ s.dmaFits (s.g (F.TCE_QCFG_PROD (32 + c)) != 3) true d.sspace d.src (4 * d.pitch * (d.rows - 1) + d.len) = true ∧ (d.mode ≠ 0 ∨ s.dmaFits (s.g (F.TCE_QCFG_PROD (32 + c)) != 3) false d.dspace d.dst (s.dmaOut c (d.len * d.rows)) = true)))
    ∧ (∃ (s : State) (c : Nat) (x : Nat), (let d := s.dmaEntry c; s.calm ∧ c < 16 ∧ (s.chan c).waitSince = some x ∧ s.dmaHas c = true ∧ d.own = true ∧ s.histRoom ∧ s.canPost (48 + c) 4 = true ∧ s.ringLen (32 + c) ≤ 4096 ∧ s.ringLen (48 + c) ≤ 4096 ∧ 96 ≤ s.g F.FCL_RINGCFG_RING ∧ d.crcOk = false))
    ∧ (∃ (s : State) (c : Nat) (x : Nat), (let d := s.dmaEntry c; s.calm ∧ c < 16 ∧ (s.chan c).waitSince = some x ∧ s.dmaHas c = true ∧ d.own = true ∧ s.histRoom ∧ s.canPost (48 + c) 4 = true ∧ s.ringLen (32 + c) ≤ 4096 ∧ s.ringLen (48 + c) ≤ 4096 ∧ 96 ≤ s.g F.FCL_RINGCFG_RING ∧ d.crcOk = true ∧ s.dmaFieldBad d = true))
    ∧ (∃ (s : State) (c : Nat) (x : Nat), (let d := s.dmaEntry c; s.calm ∧ c < 16 ∧ (s.chan c).waitSince = some x ∧ s.dmaHas c = true ∧ d.own = true ∧ s.histRoom ∧ s.canPost (48 + c) 4 = true ∧ s.ringLen (32 + c) ≤ 4096 ∧ s.ringLen (48 + c) ≤ 4096 ∧ 96 ≤ s.g F.FCL_RINGCFG_RING ∧ d.crcOk = true ∧ s.dmaFieldBad d = false ∧ (((s.g (F.TCE_QCFG_PROD (32 + c)) != 3) = true ∧ d.mode = 1) ∨ ¬s.dmaFits (s.g (F.TCE_QCFG_PROD (32 + c)) != 3) true d.sspace d.src (4 * d.pitch * (d.rows - 1) + d.len) = true ∨ ¬(d.mode ≠ 0 ∨ s.dmaFits (s.g (F.TCE_QCFG_PROD (32 + c)) != 3) false d.dspace d.dst (s.dmaOut c (d.len * d.rows)) = true)))) :=
  ⟨⟨(dmaAt [] (descOf true 1 5 200 300 0)), 15, by decide +kernel⟩,
   ⟨(dmaAt [] (descOf true 1 5 200 300 1)), 15, by decide +kernel⟩,
   ⟨(dmaAt [] (descOf true 1 5 200 300 0 2)), 15, by decide +kernel⟩,
   ⟨(dmaAt [] (descOf true 1 5 (2 ^ 64 - 4) 300 0)), 15, by decide +kernel⟩,
   ⟨(chAt { waitSince := some 5 } (dmaAt [(F.DMA_CHSTAT_STATE 15, dACTIVE)] (descOf true 1 5 200 300 0))), 15, 5, by decide +kernel⟩,
   ⟨(chAt { waitSince := some 5 } (dmaAt [(F.DMA_CHSTAT_STATE 15, dACTIVE)] (descOf true 1 5 200 300 1))), 15, 5, by decide +kernel⟩,
   ⟨(chAt { waitSince := some 5 } (dmaAt [(F.DMA_CHSTAT_STATE 15, dACTIVE)] (descOf true 1 5 200 300 0 2))), 15, 5, by decide +kernel⟩,
   ⟨(chAt { waitSince := some 5 } (dmaAt [(F.DMA_CHSTAT_STATE 15, dACTIVE)] (descOf true 1 5 (2 ^ 64 - 4) 300 0))), 15, 5, by decide +kernel⟩⟩

theorem witness_DmaTransfers_2 :
    (∃ (s : State) (c : Nat), (let d := s.dmaEntry c; s.calm ∧ c < 16 ∧ s.on (F.DMA_CHCFG_EN c) = true ∧ s.g (F.DMA_CHSTAT_STATE c) = dIDLE ∧ s.dmaHas c = true ∧ d.own = false))
    ∧ (∃ (s : State) (c : Nat) (x : Nat), (let d := s.dmaEntry c; s.calm ∧ c < 16 ∧ (s.chan c).waitSince = some x ∧ s.dmaHas c = true ∧ d.own = false))
    ∧ (∃ (s : State) (c : Nat) (x : Nat), s.calm ∧ c < 16 ∧ (s.chan c).waitSince = some x ∧ s.dmaHas c = false ∧ (s.ringEn (32 + c) = false ∨ s.ringEmpty (32 + c) = true))
    ∧ (∃ (s : State) (c : Nat) (x : Nat), (let d := s.dmaEntry c; s.calm ∧ c < 16 ∧ (s.chan c).waitSince = some x ∧ s.dmaHas c = true ∧ d.own = false ∧ x + 250 * s.g (F.DMA_CHCFG_OWNWAIT c) ≤ s.now ∧ s.histRoom ∧ s.canPost (48 + c) 4 = true ∧ s.ringLen (32 + c) ≤ 4096 ∧ s.ringLen (48 + c) ≤ 4096 ∧ 96 ≤ s.g F.FCL_RINGCFG_RING))
    ∧ (∃ (s : State) (c : Nat) (q : Requester), s.calm ∧ c < 16 ∧ s.present q ∧ (∀ h < 4, q = .host h → s.g (F.TCE_QCFG_PROD (32 + c)) = 1 + h) ∧ s.g (F.DMA_CHSTAT_STATE c) = dHALTED)
    ∧ (∃ (s : State) (c : Nat) (q : Requester), s.calm ∧ c < 16 ∧ s.present q ∧ (∀ h < 4, q = .host h → s.g (F.TCE_QCFG_PROD (32 + c)) = 1 + h) ∧ s.g (F.DMA_CHSTAT_STATE c) ≠ dHALTED)
    ∧ (∃ (s : State) (c : Nat) (q : Requester), s.calm ∧ c < 16 ∧ s.present q ∧ (∀ h < 4, q = .host h → s.g (F.TCE_QCFG_PROD (32 + c)) = 1 + h) ∧ s.chan c = {})
    ∧ (∃ (s : State) (c : Nat) (q : Requester) (x : Xfer), s.calm ∧ c < 16 ∧ s.present q ∧ (∀ h < 4, q = .host h → s.g (F.TCE_QCFG_PROD (32 + c)) = 1 + h) ∧ s.chan c = { xfer := some x }) :=
  ⟨⟨(dmaAt [] (descOf false 1 5 200 300 0)), 15, by decide +kernel⟩,
   ⟨(chAt { waitSince := some 5 } (dmaAt [(F.DMA_CHSTAT_STATE 15, dACTIVE)] (descOf false 1 5 200 300 0))), 15, 5, by decide +kernel⟩,
   ⟨(chAt { waitSince := some 5 } (put up dmaRegs |>.p (F.TCE_QCFG_EN 47) 0)), 15, 5, by decide +kernel⟩,
   ⟨(chAt { waitSince := some 5 } (dmaAt [(F.DMA_CHSTAT_STATE 15, dACTIVE)] (descOf false 1 5 200 300 0))), 15, 5, by decide +kernel⟩,
   ⟨(put up [(F.DMA_CHSTAT_STATE 15, dHALTED)]), 15, (.core 23), by decide +kernel⟩,
   ⟨(put up dmaRegs), 15, (.host 0), by decide +kernel⟩,
   ⟨up, 15, (.core 23), by decide +kernel⟩,
   ⟨(chAt { xfer := some xf } (dmaAt [(F.DMA_CHSTAT_STATE 15, dACTIVE)] [])), 15, (.core 23), xf, by decide +kernel⟩⟩

theorem witness_DmaTransfers_3 :
    (∃ (s : State) (c : Nat) (q : Requester) (x : Nat), s.calm ∧ c < 16 ∧ s.present q ∧ (∀ h < 4, q = .host h → s.g (F.TCE_QCFG_PROD (32 + c)) = 1 + h) ∧ s.chan c = { waitSince := some x } ∧ s.canPost (48 + c) 4 = true)
    ∧ (∃ (s : State) (c : Nat) (q : Requester) (r : (List Nat)), s.calm ∧ c < 16 ∧ s.present q ∧ (∀ h < 4, q = .host h → s.g (F.TCE_QCFG_PROD (32 + c)) = 1 + h) ∧ s.chan c = { ready := some r })
    ∧ (∃ (s : State) (c : Nat) (q : Requester), s.calm ∧ c < 16 ∧ s.present q ∧ ¬(∀ h < 4, q = .host h → s.g (F.TCE_QCFG_PROD (32 + c)) = 1 + h) ∧ s.histRoom)
    ∧ (∃ (s : State) (c : Nat), s.calm ∧ c < 16 ∧ (∀ k, k < 16 → s.chan k = {}) ∧ (∀ k, k < 8 → s.ctxState k ≠ ctxRUNNING ∧ s.ingesting k = none))
    ∧ (∃ (s : State) (c : Nat), s.calm ∧ c < 16 ∧ c = 15)
    ∧ (∃ (s : State) (c : Nat) (n : Nat), s.calm ∧ c < 16 ∧ n < s.hosts ∧ (∀ k, k < 16 → ∀ y ∈ (s.chan k).xfer, y.sspace ≠ n + 1 ∧ (y.dspace ≠ n + 1 ∨ y.ctx.isSome)))
    ∧ (∃ (s : State) (c : Nat) (q : Requester) (n : Nat), s.calm ∧ c < 16 ∧ s.present q ∧ n < 8)
    ∧ (∃ (s : State) (c : Nat) (x : Xfer), (let from_ := 2 ^ 64 * (x.sspace - 1) + x.src; let to_ := 2 ^ 64 * (x.dspace - 1) + x.dst; let plain := x.stop = false ∧ x.ctx = none ∧ x.rows = 1 ∧ 1 ≤ x.len ∧ x.len < 2 ^ 24 ∧ s.boundCku c = none ∧ 1 ≤ x.sspace ∧ 1 ≤ x.dspace ∧ x.src + x.len ≤ 2 ^ 64 ∧ x.dst + x.len ≤ 2 ^ 64; s.calm ∧ c < 16 ∧ (s.chan c).xfer = some x ∧ s.dmaHas c = true ∧ s.ringLen (32 + c) ≤ 4096 ∧ s.ringLen (48 + c) ≤ 4096 ∧ s.canPost (48 + c) 4 = true ∧ plain ∧ (from_ + x.len ≤ to_ ∨ to_ + x.len ≤ from_))) :=
  ⟨⟨(chAt { waitSince := some 7 } (dmaAt [(F.DMA_CHSTAT_STATE 15, dACTIVE)] [])), 15, (.host 0), 7, by decide +kernel⟩,
   ⟨(chAt { ready := some [1, 2, 3, 4, 5] } (dmaAt [(F.DMA_CHSTAT_STATE 15, dACTIVE)] [])), 15, (.host 0), ([1, 2, 3, 4, 5]), by decide +kernel⟩,
   ⟨(put up dmaRegs), 15, (.host 1), by decide +kernel⟩,
   ⟨(dmaAt [(F.DMA_CHSTAT_STATE 15, dHALTED)] []), 15, by decide +kernel⟩,
   ⟨(chAt { waitSince := some 7 } (dmaAt [(F.ING_CTX_STAT_STATE 5, 1)] [])), 15, by decide +kernel⟩,
   ⟨(chAt { xfer := some xf1 } (dmaAt [(F.DMA_CHSTAT_STATE 15, dACTIVE)] [])), 15, 1, by decide +kernel⟩,
   ⟨up, 15, (.core 23), 7, by decide +kernel⟩,
   ⟨({ chAt { xfer := some xf } (dmaAt [(F.DMA_CHSTAT_STATE 15, dACTIVE)] []) with hostMem := [(2 ^ 64 - 5, 9), (2 ^ 64 - 2, 8), (2 ^ 64 + 101, 7)] }), 15, xf, by decide +kernel⟩⟩

theorem witness_DmaTransfers_4 :
    (∃ (s : State) (c : Nat) (x : Xfer) (n : Nat), s.calm ∧ c < 16 ∧ (s.chan c).xfer = some x ∧ s.dmaHas c = true ∧ s.ringLen (32 + c) ≤ 4096 ∧ s.ringLen (48 + c) ≤ 4096 ∧ s.canPost (48 + c) 4 = true ∧ x.stop = false ∧ x.ctx = some n ∧ n < 8 ∧ s.ctxState n = ctxRUNNING ∧ s.ctxFormat n ≠ 3 ∧ x.len = s.lineSize n ∧ x.rows = 1 ∧ 1 ≤ x.len ∧ x.len < 2 ^ 24 ∧ 1 ≤ x.sspace ∧ (s.ctxOf n).plane < s.ctxPlanes n)
    ∧ (∃ (s : State) (c : Nat) (x : Xfer) (n : Nat), s.calm ∧ c < 16 ∧ (s.chan c).xfer = some x ∧ s.dmaHas c = true ∧ s.ringLen (32 + c) ≤ 4096 ∧ s.ringLen (48 + c) ≤ 4096 ∧ s.canPost (48 + c) 4 = true ∧ x.stop = false ∧ x.ctx = some n ∧ s.ctxState n = 0 ∧ s.histRoom ∧ 96 ≤ s.g F.FCL_RINGCFG_RING)
    ∧ (∃ (s : State) (c : Nat) (x : Xfer), s.calm ∧ c < 16 ∧ (s.chan c).xfer = some x ∧ s.dmaHas c = true ∧ s.ringLen (32 + c) ≤ 4096 ∧ s.ringLen (48 + c) ≤ 4096 ∧ s.canPost (48 + c) 4 = true ∧ x.stop = true ∧ x.ctx = none ∧ s.boundCku c = none ∧ 1 ≤ x.sspace ∧ 1 ≤ x.dspace)
    ∧ (∃ (s : State) (c : Nat) (x : Xfer) (off : Nat), (let plain := x.stop = false ∧ x.ctx = none ∧ x.rows = 1 ∧ 1 ≤ x.len ∧ x.len < 2 ^ 24 ∧ s.boundCku c = none ∧ 1 ≤ x.sspace ∧ 1 ≤ x.dspace ∧ x.src + x.len ≤ 2 ^ 64 ∧ x.dst + x.len ≤ 2 ^ 64; s.calm ∧ c < 16 ∧ (s.chan c).xfer = some x ∧ s.dmaHas c = true ∧ s.ringLen (32 + c) ≤ 4096 ∧ s.ringLen (48 + c) ≤ 4096 ∧ s.canPost (48 + c) 4 = true ∧ plain ∧ off < min (64 - x.src % 64) x.len ∧ s.histRoom ∧ 96 ≤ s.g F.FCL_RINGCFG_RING))
    ∧ (∃ (s : State) (c : Nat) (x : Xfer) (off : Nat), (let plain := x.stop = false ∧ x.ctx = none ∧ x.rows = 1 ∧ 1 ≤ x.len ∧ x.len < 2 ^ 24 ∧ s.boundCku c = none ∧ 1 ≤ x.sspace ∧ 1 ≤ x.dspace ∧ x.src + x.len ≤ 2 ^ 64 ∧ x.dst + x.len ≤ 2 ^ 64; s.calm ∧ c < 16 ∧ (s.chan c).xfer = some x ∧ s.dmaHas c = true ∧ s.ringLen (32 + c) ≤ 4096 ∧ s.ringLen (48 + c) ≤ 4096 ∧ s.canPost (48 + c) 4 = true ∧ plain ∧ off < x.len ∧ s.histRoom ∧ 96 ≤ s.g F.FCL_RINGCFG_RING))
    ∧ (∃ (s : State) (c : Nat) (x : Xfer) (n : Nat), (let plain := x.stop = false ∧ x.ctx = none ∧ x.rows = 1 ∧ 1 ≤ x.len ∧ x.len < 2 ^ 24 ∧ s.boundCku c = none ∧ 1 ≤ x.sspace ∧ 1 ≤ x.dspace ∧ x.src + x.len ≤ 2 ^ 64 ∧ x.dst + x.len ≤ 2 ^ 64; s.calm ∧ c < 16 ∧ (s.chan c).xfer = some x ∧ s.dmaHas c = true ∧ s.ringLen (32 + c) ≤ 4096 ∧ s.ringLen (48 + c) ≤ 4096 ∧ s.canPost (48 + c) 4 = true ∧ n < s.hosts ∧ plain ∧ x.sspace = n + 1 ∧ (∀ k < 16, k ≠ c → ∀ y ∈ (s.chan k).xfer, y.sspace ≠ n + 1 ∧ y.dspace ≠ n + 1) ∧ s.histRoom ∧ 96 ≤ s.g F.FCL_RINGCFG_RING)) :=
  ⟨⟨(inAt 1), 15, xfIn, 5, by decide +kernel⟩,
   ⟨(inAt 0), 15, xfIn, 5, by decide +kernel⟩,
   ⟨(chAt { xfer := some { xf with stop := true } } (dmaAt [(F.DMA_CHSTAT_STATE 15, dACTIVE)] [])), 15, ({ xf with stop := true }), by decide +kernel⟩,
   ⟨(chAt { xfer := some xf } (dmaAt [(F.DMA_CHSTAT_STATE 15, dACTIVE)] [])), 15, xf, 4, by decide +kernel⟩,
   ⟨(chAt { xfer := some xf } (dmaAt [(F.DMA_CHSTAT_STATE 15, dACTIVE)] [])), 15, xf, 4, by decide +kernel⟩,
   ⟨(chAt { xfer := some xf } (dmaAt [(F.DMA_CHSTAT_STATE 15, dACTIVE)] [])), 15, xf, 0, by decide +kernel⟩⟩

def histAt (i : Nat) (r : HistRec) (s : State) : State := { s with fcl := { s.fcl with hist := vmod s.fcl.hist i (fun _ => r) } }
def outB : HistRec := { valid := true, outstanding := true, cls := .b, source := 68, code := 9, detail := 3, seq := 77, deadline := 200000000000, reason := 2, repeats := 255 }

theorem witness_CheckValueUnits :
    (∃ (s : State) (q : Requester) (n : Nat) (v : Nat), s.calm ∧ s.present q ∧ n < 8 ∧ 3 ≤ s.ckuW n ∧ s.ckuW n ≤ 64 ∧ s.ckuPoly n < 2 ^ s.ckuW n ∧ s.on (F.CKU_BIND_EN n) = false)
    ∧ (∃ (s : State) (q : Requester) (n : Nat) (v : Nat), s.calm ∧ s.present q ∧ n < 8 ∧ 3 ≤ s.ckuW n ∧ s.ckuW n ≤ 64 ∧ s.ckuPoly n < 2 ^ s.ckuW n ∧ s.on (F.CKU_BIND_EN n) = false)
    ∧ (∃ (s : State) (q : Requester) (n : Nat) (v : Nat), s.calm ∧ s.present q ∧ n < 8 ∧ 3 ≤ s.ckuW n ∧ s.ckuW n ≤ 64 ∧ s.ckuPoly n < 2 ^ s.ckuW n ∧ s.on (F.CKU_BIND_EN n) = false ∧ bits v 31 28 = 0 ∧ 3 ≤ bits v 22 16 ∧ bits v 22 16 ≤ 64)
    ∧ (∃ (s : State) (q : Requester) (n : Nat) (v : Nat), s.calm ∧ s.present q ∧ n < 8 ∧ 3 ≤ s.ckuW n ∧ s.ckuW n ≤ 64 ∧ s.ckuPoly n < 2 ^ s.ckuW n ∧ s.on (F.CKU_BIND_EN n) = false ∧ bits v 31 28 = 3)
    ∧ (∃ (s : State) (q : Requester) (n : Nat) (v : Nat), s.calm ∧ s.present q ∧ n < 8 ∧ 3 ≤ s.ckuW n ∧ s.ckuW n ≤ 64 ∧ s.ckuPoly n < 2 ^ s.ckuW n ∧ s.on (F.CKU_BIND_EN n) = true ∧ s.histRoom)
    ∧ (∃ (s : State) (q : Requester) (n : Nat) (v : Nat), s.calm ∧ s.present q ∧ n < 8 ∧ 3 ≤ s.ckuW n ∧ s.ckuW n ≤ 64 ∧ s.ckuPoly n < 2 ^ s.ckuW n ∧ s.on (F.CKU_BIND_EN n) = false ∧ ((bits v 31 28 = 0 ∧ (bits v 22 16 < 3 ∨ 64 < bits v 22 16)) ∨ 4 < bits v 31 28) ∧ s.histRoom) :=
  ⟨⟨(put up [(F.CKU_CFG_WIDTH 7, 32), (F.CKU_CFG_REFIN 7, 1)]), (.core 0), 7, 0xFFFFFF81, by decide +kernel⟩,
   ⟨(put up [(F.CKU_CFG_WIDTH 7, 32), (F.CKU_CFG_REFIN 7, 1)]), (.core 0), 7, 0xFFFFFF81, by decide +kernel⟩,
   ⟨(put up [(F.CKU_CFG_WIDTH 7, 32), (F.CKU_CFG_REFIN 7, 1)]), (.core 0), 7, 0x00400001, by decide +kernel⟩,
   ⟨(put up [(F.CKU_CFG_WIDTH 7, 3), (F.CKU_POLY_LO_P 7, 5), (F.CKU_CFG_REFIN 7, 1)]), (.core 0), 7, 0x30000000, by decide +kernel⟩,
   ⟨(put up [(F.CKU_CFG_WIDTH 7, 8), (F.CKU_POLY_LO_P 7, 5), (F.CKU_BIND_EN 7, 1)]), (.core 0), 7, 0x30000000, by decide +kernel⟩,
   ⟨(put up [(F.CKU_CFG_WIDTH 7, 8), (F.CKU_POLY_LO_P 7, 5)]), (.core 0), 7, 0x00410000, by decide +kernel⟩⟩

theorem witness_FaultCollector_1 :
    (∃ (s : State) (source : Nat) (code : Nat) (detail : Nat) (cls : Cls) (reason : Nat) (i : Nat) (folios : (List (Nat × Nat))), s.plain ∧ s.sourceExists source = true ∧ code < 256 ∧ detail < 256 ∧ 1 ≤ reason ∧ reason ≤ 0x0C ∧ cls ≠ .c ∧ s.freeHist = some i ∧ (∀ k, k < 16 → (vget s.fcl.hist k).outstanding = true → (vget s.fcl.hist k).same ⟨source, code, detail, cls, reason, none, false⟩ = false) ∧ (cls = .a → (vget s.fcl.hist (s.g F.FCL_HEAD_NEWEST)).same ⟨source, code, detail, cls, reason, none, false⟩ = false))
    ∧ (∃ (s : State) (source : Nat) (code : Nat) (detail : Nat) (cls : Cls) (reason : Nat) (i : Nat) (folios : (List (Nat × Nat))), s.plain ∧ s.sourceExists source = true ∧ code < 256 ∧ detail < 256 ∧ 1 ≤ reason ∧ reason ≤ 0x0C ∧ cls ≠ .c ∧ i < 16 ∧ (vget s.fcl.hist i).outstanding = true ∧ (vget s.fcl.hist i).same ⟨source, code, detail, cls, reason, none, false⟩ = true ∧ (∀ k < 16, k ≠ i → (vget s.fcl.hist k).outstanding = false))
    ∧ (∃ (s : State) (source : Nat) (code : Nat) (detail : Nat) (cls : Cls) (reason : Nat) (i : Nat) (folios : (List (Nat × Nat))), s.plain ∧ s.sourceExists source = true ∧ code < 256 ∧ detail < 256 ∧ 1 ≤ reason ∧ reason ≤ 0x0C ∧ s.on F.FCL_STAT_KETTLE = false)
    ∧ (∃ (s : State) (k : Nat) (r : HistRec), s.plain ∧ k < 16 ∧ (vget s.fcl.hist k).outstanding = true ∧ r = vget s.fcl.hist k ∧ r.cls = .b ∧ r.escalated = false ∧ r.deadline ≤ s.now ∧ r.source < 256 ∧ r.code < 256 ∧ s.on F.FCL_STAT_KETTLE = false)
    ∧ (∃ (s : State) (k : Nat) (seq : Nat), s.plain ∧ k < 16 ∧ (vget s.fcl.hist k).outstanding = true ∧ (vget s.fcl.hist k).seq % 256 = seq % 256 ∧ ((vget s.fcl.hist k).cls ≠ .b ∨ (vget s.fcl.hist k).escalated = true ∨ s.now < (vget s.fcl.hist k).deadline))
    ∧ (∃ (s : State) (k : Nat) (r : HistRec) (seq : Nat), s.plain ∧ k < 16 ∧ (vget s.fcl.hist k).outstanding = true ∧ r = vget s.fcl.hist k ∧ r.seq % 256 = seq % 256 ∧ r.cls = .b ∧ r.escalated = false ∧ r.deadline ≤ s.now ∧ r.source < 256 ∧ r.code < 256 ∧ s.on F.FCL_STAT_KETTLE = false)
    ∧ (∃ (s : State) (k : Nat) (seq : Nat), s.plain ∧ k < 16 ∧ (vget s.fcl.hist k).outstanding = true ∧ (vget s.fcl.hist k).seq % 256 ≠ seq % 256)
    ∧ (∃ (s : State) (k : Nat) (seq : Nat), s.plain ∧ k < 16 ∧ (vget s.fcl.hist k).outstanding = false) :=
  ⟨⟨up, 68, 1, 255, (.a), 3, 0, ([(2, 3)]), by decide +kernel⟩,
   ⟨(histAt 5 outB up), 68, 9, 3, (.b), 12, 5, ([(2, 3)]), by decide +kernel⟩,
   ⟨up, 68, 1, 255, (.c), 1, 1, ([(2, 3)]), by decide +kernel⟩,
   ⟨(histAt 15 outB up), 15, outB, by decide +kernel⟩,
   ⟨(histAt 15 { outB with deadline := 2 ^ 40 } up), 15, (77 + 256), by decide +kernel⟩,
   ⟨(histAt 15 outB up), 15, outB, (77 + 256), by decide +kernel⟩,
   ⟨(histAt 15 outB up), 15, 78, by decide +kernel⟩,
   ⟨(histAt 15 outB up), 14, 0, by decide +kernel⟩⟩

theorem witness_FaultCollector_2 :
    (∃ (s : State) (q : Requester) (x : Nat) (i : Nat) (code : Nat) (cls : Cls) (reason : Nat), s.plain ∧ s.present q ∧ x < 192 ∧ s.sourceExists x = true ∧ cls ≠ .c ∧ ((128 ≤ x ∧ code = s.g (F.FCL_SRCCFG_CODE (x - 128)) ∧ cls = Cls.ofCode (s.g (F.FCL_SRCCFG_CLASS (x - 128))) ∧ reason = s.g (F.FCL_SRCCFG_REASON (x - 128))) ∨ (x < 128 ∧ code = 0xFF ∧ cls = Cls.ofCode (s.g F.FCL_CTRL_FCLASS) ∧ reason = s.g F.FCL_CTRL_FREASON)) ∧ s.freeHist = some i ∧ (∀ k, k < 16 → (vget s.fcl.hist k).outstanding = true → (vget s.fcl.hist k).same ⟨x, code, q.detail, cls, reason, none, false⟩ = false) ∧ (cls = .a → (vget s.fcl.hist (s.g F.FCL_HEAD_NEWEST)).same ⟨x, code, q.detail, cls, reason, none, false⟩ = false))
    ∧ (∃ (s : State) (q : Requester) (x : Nat) (i : Nat) (code : Nat) (cls : Cls) (reason : Nat), s.plain ∧ s.present q ∧ x < 192 ∧ s.sourceExists x = true ∧ cls ≠ .c ∧ ((128 ≤ x ∧ code = s.g (F.FCL_SRCCFG_CODE (x - 128)) ∧ cls = Cls.ofCode (s.g (F.FCL_SRCCFG_CLASS (x - 128))) ∧ reason = s.g (F.FCL_SRCCFG_REASON (x - 128))) ∨ (x < 128 ∧ code = 0xFF ∧ cls = Cls.ofCode (s.g F.FCL_CTRL_FCLASS) ∧ reason = s.g F.FCL_CTRL_FREASON)) ∧ s.freeHist = some i ∧ (∀ k, k < 16 → (vget s.fcl.hist k).outstanding = true → (vget s.fcl.hist k).same ⟨x, code, q.detail, cls, reason, none, false⟩ = false) ∧ (cls = .a → (vget s.fcl.hist (s.g F.FCL_HEAD_NEWEST)).same ⟨x, code, q.detail, cls, reason, none, false⟩ = false))
    ∧ (∃ (s : State) (q : Requester) (x : Nat), s.plain ∧ s.present q ∧ 128 ≤ x ∧ x < 192 ∧ s.g (F.FCL_SRCCFG_CLASS (x - 128)) = 2 ∧ s.on F.FCL_STAT_KETTLE = false)
    ∧ (∃ (s : State) (q : Requester) (v : Nat), s.plain ∧ s.present q ∧ 96 ≤ bits v 22 16 ∧ bits v 22 16 ≤ 111 ∧ (bit v 31 = false ∨ ¬(s.on F.FCL_RINGCFG_EN = false ∨ bits v 22 16 ≠ s.g F.FCL_RINGCFG_RING) ∨ (s.ringEn (bits v 22 16) = true ∧ s.g (F.TCE_QCFG_PROD (bits v 22 16)) = 6)) ∧ s.fcl.markDue = false)
    ∧ (∃ (s : State) (q : Requester) (v : Nat), s.plain ∧ s.present q ∧ 96 ≤ bits v 22 16 ∧ bits v 22 16 ≤ 111 ∧ bit v 31 = true ∧ (s.ringEn (bits v 22 16) = true ∧ s.g (F.TCE_QCFG_PROD (bits v 22 16)) = 6) ∧ s.fcl.markDue = true ∧ s.canPost (bits v 22 16) 6 = true)
    ∧ (∃ (s : State) (q : Requester) (v : Nat), s.plain ∧ s.present q ∧ 96 ≤ bits v 22 16 ∧ bits v 22 16 ≤ 111 ∧ bit v 31 = true ∧ (s.on F.FCL_RINGCFG_EN = false ∨ bits v 22 16 ≠ s.g F.FCL_RINGCFG_RING) ∧ ¬(s.ringEn (bits v 22 16) = true ∧ s.g (F.TCE_QCFG_PROD (bits v 22 16)) = 6))
    ∧ (∃ (s : State) (q : Requester) (v : Nat), s.plain ∧ s.present q ∧ (bits v 22 16 < 96 ∨ 111 < bits v 22 16))
    ∧ (∃ (s : State) (k : Nat), s.plain ∧ s.copyA = true ∧ s.copyB = true ∧ (k = 1 ∨ k = 2) ∧ s.oldestOutstanding = none) :=
  ⟨⟨(put up [(F.FCL_SRCCFG_CLASS 63, 1), (F.FCL_SRCCFG_CODE 63, 200), (F.FCL_SRCCFG_REASON 63, 4)]), (.core 17), 191, 0, 200, (.b), 4, by decide +kernel⟩,
   ⟨(put up [(F.FCL_CTRL_FCLASS, 0), (F.FCL_CTRL_FREASON, 4)]), (.core 17), 101, 0, 255, (.a), 4, by decide +kernel⟩,
   ⟨(put up [(F.FCL_SRCCFG_CLASS 0, 2)]), (.core 17), 128, by decide +kernel⟩,
   ⟨(put up [(F.TCE_QCFG_EN 111, 1), (F.TCE_QCFG_PROD 111, 6)]), (.host 1), 0x806F0000, by decide +kernel⟩,
   ⟨(let s := put up [(F.TCE_QCFG_EN 111, 1), (F.TCE_QCFG_PROD 111, 6), (F.TCE_QCFG_LOG2N 111, 2)]; { s with fcl := { s.fcl with markDue := true } }), (.host 1), 0x806F0000, by decide +kernel⟩,
   ⟨(put up [(F.TCE_QCFG_EN 111, 1), (F.TCE_QCFG_PROD 111, 5)]), (.host 1), 0x806F0000, by decide +kernel⟩,
   ⟨(put up [(F.TCE_QCFG_EN 111, 1), (F.TCE_QCFG_PROD 111, 5)]), (.host 1), 0x80700000, by decide +kernel⟩,
   ⟨up, 2, by decide +kernel⟩⟩

theorem witness_FaultCollector_3 :
    (∃ (s : State) (k : Nat) (i : Nat), s.plain ∧ s.copyA = true ∧ s.copyB = true ∧ (k = 1 ∨ k = 2) ∧ s.oldestOutstanding = some i)
    ∧ (∃ (s : State) (k : Nat), s.plain ∧ ((k = 1 ∧ s.copyA = true ∧ s.copyB = false) ∨ (k = 2 ∧ s.copyA = false ∧ s.copyB = true)) ∧ s.on F.FCL_STAT_KETTLE = false)
    ∧ (∃ (s : State), s.plain ∧ s.copyA = true ∧ s.copyB = true ∧ s.on F.FCL_STAT_KETTLE = false)
    ∧ (∃ (s : State), s.plain ∧ s.on F.FCL_STAT_KETTLE = true ∧ ((∀ k, k < 16 → (vget s.fcl.hist k).outstanding = false) ∧ s.on F.THM_STAT_SHUT = false ∧ (s.g F.PSQ_STAT_STATE = 1 ∨ s.g F.PSQ_STAT_STATE = 2) ∧ s.synState 0 = syLOCKED ∧ s.on F.CORD_STAT_RUN = true ∧ s.on F.JRN_STAT_FLUSHED = true ∧ ∀ n, n < 8 → s.g (F.MOT_STAT_STATE n) ≠ mZT ∧ s.g (F.MOT_STAT_STATE n) ≠ mASC))
    ∧ (∃ (s : State), s.plain ∧ s.on F.FCL_STAT_KETTLE = true ∧ ¬((∀ k, k < 16 → (vget s.fcl.hist k).outstanding = false) ∧ s.on F.THM_STAT_SHUT = false ∧ (s.g F.PSQ_STAT_STATE = 1 ∨ s.g F.PSQ_STAT_STATE = 2) ∧ s.synState 0 = syLOCKED ∧ s.on F.CORD_STAT_RUN = true ∧ s.on F.JRN_STAT_FLUSHED = true ∧ ∀ n, n < 8 → s.g (F.MOT_STAT_STATE n) ≠ mZT ∧ s.g (F.MOT_STAT_STATE n) ≠ mASC))
    ∧ (∃ (s : State) (key : Nat), s.plain ∧ (key % 256 ≠ 0x4B ∨ s.on F.FCL_STAT_KETTLE = false))
    ∧ (∃ (s : State) (key : Nat), s.plain ∧ (key % 256 ≠ 0x4B ∨ s.on F.FCL_STAT_KETTLE = false)) :=
  ⟨⟨(histAt 5 outB up), 1, 5, by decide +kernel⟩,
   ⟨({ up with fcl := { up.fcl with retiredA := true } }), 2, by decide +kernel⟩,
   ⟨up, by decide +kernel⟩,
   ⟨(put up [(F.FCL_STAT_KETTLE, 1), (F.PSQ_STAT_STATE, 2), (F.JRN_STAT_FLUSHED, 1), (F.HV_STAT_KETTLE 11, 1), (F.FUS_STAT_KETTLE 1, 1)]), by decide +kernel⟩,
   ⟨(put up [(F.FCL_STAT_KETTLE, 1)]), by decide +kernel⟩,
   ⟨(put up [(F.FCL_STAT_KETTLE, 1)]), 255, by decide +kernel⟩,
   ⟨up, 0x14B, by decide +kernel⟩⟩

def jUp (l : List (FieldRef × Nat)) (f : Jrn → Jrn) : State := let s := put up ([(F.JRN_STAT_FRAMOK, 1), (F.JRN_STAT_MIRROK, 1)] ++ l); { s with jrn := f s.jrn }
def rec5 : JRec := { seq := 4095, type := 5, stream := 7, fsn := 99, epoch := 3, stamp := 12, aux := 2 }
def rec1 : JRec := { seq := 4095, type := 1, stream := 7, fsn := 99, epoch := 3, stamp := 12, aux := 2 }
def hdr : Header := { gen := 2 ^ 32 - 1, epoch := 3, tail := 4095, sealed := false, sealEpoch := 0, sdel := [1, 2, 3, 4, 5, 6, 7, 8], valid := [1, 0, 1, 1, 1, 1, 1, 1] }
def found0 : Found := { epoch := 2 ^ 32 - 2, sealed := true, sealEpoch := 1, sdel := [1, 2, 3, 4, 5, 6, 7, 8], valid := [1, 1, 1, 1, 1, 1, 1, 1], framUsed := true, blank := false, fresh := false }
def replayAt : State := jUp [(F.LCS_BOOTSTAT_STAGE, 5), (F.JRN_STAT_STATE, 0)] id
def repAt (posted : Nat) : State := { put (jUp [] (fun j => { j with report := [⟨4, 3, 1, 0, 0⟩, ⟨2, 0, 7, 0, 0⟩], posted24 := posted })) [(F.TCE_QCFG_EN 24, 1), (F.TCE_QCFG_LOG2N 24, 2), (F.TCE_QCFG_EN 25, 0), (F.LCS_BOOTSTAT_STAGE, 5)] with mem := [] }
def repAt25 (posted : Nat) : State := { put (jUp [] (fun j => { j with report := [⟨4, 3, 1, 0, 0⟩, ⟨2, 0, 7, 0, 0⟩], posted25 := posted })) [(F.TCE_QCFG_EN 25, 1), (F.TCE_QCFG_LOG2N 25, 2), (F.TCE_QCFG_EN 24, 0), (F.LCS_BOOTSTAT_STAGE, 5)] with mem := [] }

theorem witness_JournalRecords_1 :
    (∃ (s : State) (type : Nat) (stream : Nat) (try_ : Nat) (strd : Bool) (op : Bool) (fsn : Nat) (stamp : Nat) (aux : Nat), s.plain ∧ s.on F.FCL_RINGCFG_EN = false ∧ 1 ≤ type ∧ type ≤ 6 ∧ stream < 8 ∧ fsn < 2 ^ 32 ∧ stamp < 2 ^ 64 ∧ aux < 2 ^ 32 ∧ s.jrnRoom)
    ∧ (∃ (s : State) (type : Nat) (stream : Nat) (try_ : Nat) (strd : Bool) (op : Bool) (fsn : Nat) (stamp : Nat) (aux : Nat), s.plain ∧ s.on F.FCL_RINGCFG_EN = false ∧ 1 ≤ type ∧ type ≤ 6 ∧ stream < 8 ∧ fsn < 2 ^ 32 ∧ stamp < 2 ^ 64 ∧ aux < 2 ^ 32 ∧ s.g F.JRN_STAT_STATE = 1 ∧ (16 ≤ s.jrn.queue.length ∨ s.jrn.waiting ≠ []))
    ∧ (∃ (s : State) (type : Nat) (stream : Nat) (try_ : Nat) (strd : Bool) (op : Bool) (fsn : Nat) (stamp : Nat) (aux : Nat), s.plain ∧ s.on F.FCL_RINGCFG_EN = false ∧ 1 ≤ type ∧ type ≤ 6 ∧ stream < 8 ∧ fsn < 2 ^ 32 ∧ stamp < 2 ^ 64 ∧ aux < 2 ^ 32 ∧ s.g F.JRN_STAT_STATE = 1 ∧ s.jrn.queue.length < 16 ∧ s.jrn.waiting = [] ∧ 2040 ≤ s.span + 1)
    ∧ (∃ (s : State) (type : Nat) (stream : Nat) (try_ : Nat) (strd : Bool) (op : Bool) (fsn : Nat) (stamp : Nat) (aux : Nat), s.plain ∧ s.on F.FCL_RINGCFG_EN = false ∧ 1 ≤ type ∧ type ≤ 6 ∧ stream < 8 ∧ fsn < 2 ^ 32 ∧ stamp < 2 ^ 64 ∧ aux < 2 ^ 32 ∧ s.g F.JRN_STAT_STATE ≠ 1 ∧ (s.g F.JRN_STAT_STATE = 5 ∧ type ≠ 1 ∧ ¬(type = 6 ∧ s.on F.FCL_STAT_KETTLE = true)))
    ∧ (∃ (s : State) (type : Nat) (stream : Nat) (try_ : Nat) (strd : Bool) (op : Bool) (fsn : Nat) (stamp : Nat) (aux : Nat), s.plain ∧ s.on F.FCL_RINGCFG_EN = false ∧ 1 ≤ type ∧ type ≤ 6 ∧ stream < 8 ∧ fsn < 2 ^ 32 ∧ stamp < 2 ^ 64 ∧ aux < 2 ^ 32 ∧ s.g F.JRN_STAT_STATE ≠ 1 ∧ ¬(s.g F.JRN_STAT_STATE = 5 ∧ type ≠ 1 ∧ ¬(type = 6 ∧ s.on F.FCL_STAT_KETTLE = true)))
    ∧ (∃ (s : State) (r : JRec) (rest : (List JRec)), s.plain ∧ s.on F.FCL_RINGCFG_EN = false ∧ s.jrn.queue = r :: rest ∧ s.jrn.waiting = [] ∧ 1 ≤ r.type ∧ r.type ≤ 6 ∧ r.stream < 8 ∧ s.on F.JRN_STAT_MIRROK = true ∧ s.on F.JRN_STAT_FRAMOK = true)
    ∧ (∃ (s : State) (r : JRec) (rest : (List JRec)), s.plain ∧ s.on F.FCL_RINGCFG_EN = false ∧ s.jrn.queue = r :: rest ∧ s.jrn.waiting = [] ∧ 1 ≤ r.type ∧ r.type ≤ 6 ∧ r.stream < 8 ∧ s.on F.JRN_STAT_MIRROK = true ∧ s.on F.JRN_STAT_FRAMOK = true ∧ r.type = 1 ∧ s.folio? r.stream r.fsn ≠ none)
    ∧ (∃ (s : State) (r : JRec) (rest : (List JRec)) (b : ReadBack), s.plain ∧ s.on F.FCL_RINGCFG_EN = false ∧ s.jrn.queue = r :: rest ∧ s.jrn.waiting = [] ∧ 1 ≤ r.type ∧ r.type ≤ 6 ∧ r.stream < 8 ∧ s.on F.JRN_STAT_MIRROK = true ∧ s.on F.JRN_STAT_FRAMOK = false) :=
  ⟨⟨(jUp [] id), 6, 7, 17, true, true, (2 ^ 32 - 1), 5, 3, by decide +kernel⟩,
   ⟨(jUp [] (fun j => { j with queue := List.replicate 16 rec5 })), 6, 7, 17, true, true, (2 ^ 32 - 1), 5, 3, by decide +kernel⟩,
   ⟨(jUp [(F.JRN_SEQ_SEQ, 2039)] id), 6, 7, 17, true, true, (2 ^ 32 - 1), 5, 3, by decide +kernel⟩,
   ⟨(jUp [(F.JRN_STAT_STATE, 5)] id), 6, 7, 17, true, true, (2 ^ 32 - 1), 5, 3, by decide +kernel⟩,
   ⟨(jUp [(F.JRN_STAT_STATE, 3)] id), 6, 7, 17, true, true, (2 ^ 32 - 1), 5, 3, by decide +kernel⟩,
   ⟨(jUp [] (fun j => { j with queue := [rec5] })), rec5, ([]), by decide +kernel⟩,
   ⟨({ jUp [] (fun j => { j with queue := [rec1] }) with gath := { up.gath with folios := [{ desc := { stream := 7, fsn := 99 }, st := .ingest }] } }), rec1, ([]), by decide +kernel⟩,
   ⟨(jUp [(F.JRN_STAT_FRAMOK, 0)] (fun j => { j with queue := [rec5] })), rec5, ([]), (.mismatch), by decide +kernel⟩⟩

theorem witness_JournalRecords_2 :
    (∃ (s : State) (r : JRec) (rest : (List JRec)) (b : ReadBack), s.plain ∧ s.on F.FCL_RINGCFG_EN = false ∧ s.jrn.queue = r :: rest ∧ s.jrn.waiting = [] ∧ 1 ≤ r.type ∧ r.type ≤ 6 ∧ r.stream < 8 ∧ s.on F.JRN_STAT_FRAMOK = true ∧ s.jrn.retried = false ∧ b ≠ ReadBack.ok)
    ∧ (∃ (s : State) (r : JRec) (rest : (List JRec)) (b : ReadBack), s.plain ∧ s.on F.FCL_RINGCFG_EN = false ∧ s.jrn.queue = r :: rest ∧ s.jrn.waiting = [] ∧ 1 ≤ r.type ∧ r.type ≤ 6 ∧ r.stream < 8 ∧ s.on F.JRN_STAT_FRAMOK = true ∧ s.jrn.retried = true ∧ b ≠ ReadBack.ok ∧ s.on F.JRN_STAT_MIRROK = true)
    ∧ (∃ (s : State) (r : JRec) (rest : (List JRec)) (b : ReadBack), s.plain ∧ s.on F.FCL_RINGCFG_EN = false ∧ s.jrn.queue = r :: rest ∧ s.jrn.waiting = [] ∧ 1 ≤ r.type ∧ r.type ≤ 6 ∧ r.stream < 8 ∧ s.on F.JRN_STAT_FRAMOK = true ∧ s.jrn.retried = true ∧ b ≠ ReadBack.ok ∧ s.on F.JRN_STAT_MIRROK = false)
    ∧ (∃ (s : State), s.plain ∧ s.on F.FCL_RINGCFG_EN = false ∧ s.on F.JRN_STAT_MIRROK = true ∧ s.on F.JRN_STAT_FRAMOK = true)
    ∧ (∃ (s : State), s.plain ∧ s.on F.FCL_RINGCFG_EN = false ∧ s.on F.JRN_STAT_MIRROK = true ∧ s.on F.JRN_STAT_FRAMOK = false ∧ s.g F.JRN_STAT_STATE = 1 ∧ s.jrn.queue = [] ∧ s.jrn.waiting = [])
    ∧ (∃ (s : State), s.plain ∧ s.on F.FCL_RINGCFG_EN = false ∧ s.jrn.flushLeft = some 0)
    ∧ (∃ (s : State) (q : Requester), s.plain ∧ s.on F.FCL_RINGCFG_EN = false ∧ s.present q ∧ s.g F.JRN_STAT_STATE = 1)
    ∧ (∃ (s : State) (q : Requester), s.plain ∧ s.on F.FCL_RINGCFG_EN = false ∧ s.present q ∧ s.g F.JRN_STAT_STATE ≠ 1) :=
  ⟨⟨(jUp [] (fun j => { j with queue := [rec5] })), rec5, ([]), (.noResponse), by decide +kernel⟩,
   ⟨(jUp [] (fun j => { j with queue := [rec5], retried := true })), rec5, ([]), (.noResponse), by decide +kernel⟩,
   ⟨(jUp [(F.JRN_STAT_MIRROK, 0)] (fun j => { j with queue := [rec5], retried := true })), rec5, ([]), (.noResponse), by decide +kernel⟩,
   ⟨(jUp [] id), by decide +kernel⟩,
   ⟨(jUp [(F.JRN_STAT_FRAMOK, 0)] id), by decide +kernel⟩,
   ⟨(jUp [] (fun j => { j with flushLeft := some 0 })), by decide +kernel⟩,
   ⟨((jUp [] id).framWr 0x100 hdr.bytes), (.core 0), by decide +kernel⟩,
   ⟨(jUp [(F.JRN_STAT_STATE, 4)] id), (.core 0), by decide +kernel⟩⟩

theorem witness_JournalReplay_1 :
    (∃ (s : State) (h : Header) (k : Nat), s.calm ∧ s.histRoom ∧ s.on F.FCL_RINGCFG_EN = false ∧ s.g F.LCS_BOOTSTAT_STAGE = 5 ∧ s.g F.JRN_STAT_STATE = 0 ∧ s.jrn.found = none ∧ s.jrn.endAt = none ∧ laterHead (s.framHead 0) (s.framHead 1) = some h ∧ s.mirrorHead = none ∧ h.tail < 2 ^ 32 ∧ k < 2048 ∧ (∀ i, i < k → recOk (s.framRd (framSlot ((h.tail + i) % 2 ^ 32)) 32) = true ∧ recSeq (s.framRd (framSlot ((h.tail + i) % 2 ^ 32)) 32) = (h.tail + i) % 2 ^ 32) ∧ (∀ i, i < 17 → recOk (s.framRd (framSlot ((h.tail + k + i) % 2 ^ 32)) 32) = false))
    ∧ (∃ (s : State), s.calm ∧ s.histRoom ∧ s.on F.FCL_RINGCFG_EN = false ∧ s.g F.LCS_BOOTSTAT_STAGE = 5 ∧ s.g F.JRN_STAT_STATE = 0 ∧ s.jrn.found = none ∧ s.jrn.endAt = none ∧ s.framHead 0 = none ∧ s.framHead 1 = none ∧ (∀ i, i < 4096 → recOk (s.framRd (0x1000 + 32 * i) 32) = false))
    ∧ (∃ (s : State) (h : Header) (k : Nat), s.calm ∧ s.histRoom ∧ s.on F.FCL_RINGCFG_EN = false ∧ s.g F.LCS_BOOTSTAT_STAGE = 5 ∧ s.g F.JRN_STAT_STATE = 0 ∧ s.jrn.found = none ∧ s.jrn.endAt = none ∧ s.pathClear ∧ s.mirrorHead = some h ∧ h.tail < 2 ^ 32 ∧ k < 2000 ∧ (∀ i, i < k → recOk (s.rdBytes (mirrorSlot ((h.tail + i) % 2 ^ 32)) 32) = true ∧ recSeq (s.rdBytes (mirrorSlot ((h.tail + i) % 2 ^ 32)) 32) = (h.tail + i) % 2 ^ 32) ∧ (∀ i, i < 17 → recOk (s.rdBytes (mirrorSlot ((h.tail + k + i) % 2 ^ 32)) 32) = false))
    ∧ (∃ (s : State), s.calm ∧ s.histRoom ∧ s.on F.FCL_RINGCFG_EN = false ∧ s.g F.LCS_BOOTSTAT_STAGE = 5 ∧ s.g F.JRN_STAT_STATE = 0 ∧ s.jrn.found = none ∧ s.jrn.endAt = none ∧ s.mirrorHead = none)
    ∧ (∃ (s : State) (f : Found), s.calm ∧ s.histRoom ∧ s.on F.FCL_RINGCFG_EN = false ∧ s.jrn.found = some f ∧ f.epoch < 2 ^ 32 ∧ (f.blank = false ∨ f.fresh = true))
    ∧ (∃ (s : State) (f : Found), s.calm ∧ s.histRoom ∧ s.on F.FCL_RINGCFG_EN = false ∧ s.jrn.found = some f ∧ f.epoch < 2 ^ 32 ∧ (f.blank = false ∨ f.fresh = true) ∧ f.fresh = true ∧ s.on F.JRN_STAT_FRAMOK = true ∧ s.framHead 0 = none ∧ s.framHead 1 = none)
    ∧ (∃ (s : State) (f : Found), s.calm ∧ s.histRoom ∧ s.on F.FCL_RINGCFG_EN = false ∧ s.jrn.found = some f ∧ f.epoch < 2 ^ 32 ∧ f.blank = true ∧ f.fresh = false)
    ∧ (∃ (s : State) (n : Nat) (m : Nat) (i : Nat) (e : RepEntry), s.calm ∧ s.histRoom ∧ s.on F.FCL_RINGCFG_EN = false ∧ (n = 24 ∧ m = 25 ∨ n = 25 ∧ m = 24) ∧ s.jrn.endPosted = false ∧ (if n = 24 then s.jrn.posted24 else s.jrn.posted25) = i ∧ s.jrn.report[i]? = some e ∧ s.ringEn n = true ∧ s.ringEn m = false ∧ s.ringFull n = false ∧ s.ringLen n ≤ 4096 ∧ s.g (F.TCE_QCFG_ESIZE n) = 0 ∧ i + 1 < s.jrn.report.length) :=
  ⟨⟨((replayAt.framWr 0x100 hdr.bytes).framWr (framSlot 4095) (rec5.bytes 0xC3)), hdr, 1, by decide +kernel⟩,
   ⟨replayAt, by decide +kernel, by decide +kernel, by decide +kernel, by decide +kernel, by decide +kernel, by decide +kernel, by decide +kernel, by decide +kernel, by decide +kernel, fun i _ => blank_fram _ (by decide +kernel) _⟩,
   ⟨({ replayAt with mem := [] }.wrBytes mirrorBase hdr.bytes), hdr, 0, by decide +kernel⟩,
   ⟨replayAt, by decide +kernel⟩,
   ⟨(jUp [(F.JRN_STAT_STATE, 0)] (fun j => { j with found := some found0 })), found0, by decide +kernel⟩,
   ⟨(jUp [(F.JRN_STAT_STATE, 0)] (fun j => { j with found := some { found0 with blank := true, fresh := true, epoch := 0 } })), ({ found0 with blank := true, fresh := true, epoch := 0 }), by decide +kernel⟩,
   ⟨(jUp [(F.JRN_STAT_STATE, 0)] (fun j => { j with found := some { found0 with blank := true } })), ({ found0 with blank := true }), by decide +kernel⟩,
   ⟨(repAt 0), 24, 25, 0, (⟨4, 3, 1, 0, 0⟩), by decide +kernel⟩⟩

theorem witness_JournalReplay_2 :
    (∃ (s : State) (n : Nat) (m : Nat) (i : Nat) (e : RepEntry), s.calm ∧ s.histRoom ∧ s.on F.FCL_RINGCFG_EN = false ∧ (n = 24 ∧ m = 25 ∨ n = 25 ∧ m = 24) ∧ s.jrn.endPosted = false ∧ (if n = 24 then s.jrn.posted24 else s.jrn.posted25) = i ∧ s.jrn.report[i]? = some e ∧ s.ringEn n = true ∧ s.ringEn m = false ∧ s.ringFull n = false ∧ s.ringLen n ≤ 4096 ∧ s.g (F.TCE_QCFG_ESIZE n) = 0 ∧ i + 1 < s.jrn.report.length)
    ∧ (∃ (s : State) (n : Nat) (m : Nat) (i : Nat) (e : RepEntry), s.calm ∧ s.histRoom ∧ s.on F.FCL_RINGCFG_EN = false ∧ (n = 24 ∧ m = 25 ∨ n = 25 ∧ m = 24) ∧ s.jrn.endPosted = false ∧ (if n = 24 then s.jrn.posted24 else s.jrn.posted25) = i ∧ s.jrn.report[i]? = some e ∧ s.ringEn n = true ∧ s.ringEn m = false ∧ s.ringFull n = false ∧ s.ringLen n ≤ 4096 ∧ s.g (F.TCE_QCFG_ESIZE n) = 0 ∧ i + 1 = s.jrn.report.length)
    ∧ (∃ (s : State) (n : Nat) (m : Nat) (i : Nat) (e : RepEntry), s.calm ∧ s.histRoom ∧ s.on F.FCL_RINGCFG_EN = false ∧ (n = 24 ∧ m = 25 ∨ n = 25 ∧ m = 24) ∧ s.jrn.endPosted = false ∧ (if n = 24 then s.jrn.posted24 else s.jrn.posted25) = i ∧ s.jrn.report[i]? = some e ∧ s.ringEn n = true ∧ s.ringEn m = false ∧ s.ringFull n = false ∧ s.ringLen n ≤ 4096 ∧ s.g (F.TCE_QCFG_ESIZE n) = 0 ∧ i + 1 = s.jrn.report.length)
    ∧ (∃ (s : State) (q : Requester), s.calm ∧ s.histRoom ∧ s.on F.FCL_RINGCFG_EN = false ∧ s.present q ∧ s.g F.JRN_STAT_STATE = 2)
    ∧ (∃ (s : State) (q : Requester), s.calm ∧ s.histRoom ∧ s.on F.FCL_RINGCFG_EN = false ∧ s.present q ∧ s.g F.JRN_STAT_STATE = 4)
    ∧ (∃ (s : State) (q : Requester), s.calm ∧ s.histRoom ∧ s.on F.FCL_RINGCFG_EN = false ∧ s.present q ∧ s.g F.JRN_STAT_STATE = 1)
    ∧ (∃ (s : State) (q : Requester) (v : Nat), s.calm ∧ s.histRoom ∧ s.on F.FCL_RINGCFG_EN = false ∧ s.present q ∧ (bit v 31 = true ∧ bits v 11 0 < 2040 ∨ bit v 31 = false ∧ s.on F.JRN_STAT_FRAMOK = true))
    ∧ (∃ (s : State) (q : Requester) (v : Nat), s.calm ∧ s.histRoom ∧ s.on F.FCL_RINGCFG_EN = false ∧ s.present q ∧ (bit v 31 = true ∧ bits v 11 0 < 2040 ∨ bit v 31 = false ∧ s.on F.JRN_STAT_FRAMOK = true)) :=
  ⟨⟨(repAt25 0), 25, 24, 0, (⟨4, 3, 1, 0, 0⟩), by decide +kernel⟩,
   ⟨(repAt 1), 24, 25, 1, (⟨2, 0, 7, 0, 0⟩), by decide +kernel⟩,
   ⟨(repAt25 1), 25, 24, 1, (⟨2, 0, 7, 0, 0⟩), by decide +kernel⟩,
   ⟨(jUp [(F.JRN_STAT_STATE, 2)] id), (.core 0), by decide +kernel⟩,
   ⟨(jUp [(F.JRN_STAT_STATE, 4)] id), (.core 0), by decide +kernel⟩,
   ⟨(jUp [(F.JRN_STAT_STATE, 1)] id), (.core 0), by decide +kernel⟩,
   ⟨(jUp [(F.JRN_STAT_STATE, 1)] id), (.core 0), 2040, by decide +kernel⟩,
   ⟨(jUp [(F.JRN_STAT_STATE, 1)] id), (.core 0), (2 ^ 31 + 2039), by decide +kernel⟩⟩

theorem witness_JournalReplay_3 :
    (∃ (s : State) (q : Requester) (v : Nat), s.calm ∧ s.histRoom ∧ s.on F.FCL_RINGCFG_EN = false ∧ s.present q ∧ bit v 31 = false ∧ s.on F.JRN_STAT_FRAMOK = false)
    ∧ (∃ (s : State) (q : Requester) (v : Nat), s.calm ∧ s.histRoom ∧ s.on F.FCL_RINGCFG_EN = false ∧ s.present q ∧ bit v 31 = true ∧ 2040 ≤ bits v 11 0)
    ∧ (∃ (s : State) (q : Requester) (v : Nat), s.calm ∧ s.histRoom ∧ s.on F.FCL_RINGCFG_EN = false ∧ s.present q ∧ s.jrn.fetching = some v) :=
  ⟨⟨(jUp [(F.JRN_STAT_FRAMOK, 0)] id), (.core 0), 4095, by decide +kernel⟩,
   ⟨(jUp [(F.JRN_STAT_STATE, 1)] id), (.core 0), (2 ^ 31 + 2040), by decide +kernel⟩,
   ⟨((jUp [] (fun j => { j with fetching := some 4095 })).framWr (0x1000 + 32 * 4095) (rec5.bytes 0xC3)), (.core 0), 4095, by decide +kernel⟩⟩

end Sys2Proof.Tests
end

