-- ==== Sys2Proof/Tests/WitRaster.lean ====
section
/-! SUPPORT. Witnesses: states and operands that meet the hypotheses of each clause of the statements, clause by clause. -/

namespace Sys2Proof.Tests

open Sys2Proof Sys2Proof.Machine

set_option maxRecDepth 100000
set_option linter.unusedVariables false
set_option Elab.async false

def ctxUp (l : List (FieldRef × Nat)) (c : Ctx) : State := let s := put up ([(F.ING_CTX_STAT_STATE 7, ctxRUNNING), (F.ING_CTX_CFG_RING 7, 9), (F.TCE_QCFG_EN 9, 1), (F.TCE_QCFG_CONS 9, 5), (F.ING_CTX_JOB_STATIONS 7, 5), (F.ING_CTX_NB_NB 7, 2)] ++ l); { s with memChans := 3, ctx := vmod s.ctx 7 (fun _ => c) }
def ingFolio (duplex : Bool) (crc : Nat) : Folio := { desc := { fsn := 9, stream := 7, duplex := duplex, stations := 5, length := 2970, rectoCrc := crc, versoCrc := crc, sig := 3 }, st := .ingest }
def fullCtx : Ctx := { fsn := some 9, plane := 2, stored := 4, bands := [(3, 7, 8), (0, 1, 8), (1, 2, 8), (2, 3, 4)] }
def sideUp (l : List (FieldRef × Nat)) (duplex : Bool) (crc : Nat) : State := let s := ctxUp l fullCtx; { s with gath := { s.gath with folios := [ingFolio duplex crc] } }
def sideUpF (l : List (FieldRef × Nat)) (f : Folio) : State := let s := ctxUp l fullCtx; { s with gath := { s.gath with folios := [f] } }
def planeDesc : Desc := { fsn := 9, stream := 7, src := 1, stations := 5, length := 2970, format := 0, rectoRef := sharedBase + 8 }
def planeUp (bad : Nat) : State := let s := putA (put (ctxUp [(F.ING_CTX_STAT_STATE 7, 2)] {}) [(F.SHW_PAGE_OWNER 0, 1)]) [(F.STR_WINDOW_NPIX 0, 2), (F.STR_WINDOW_NPIX 2, 2)]; { s with gath := { s.gath with folios := [{ desc := planeDesc, st := .ingest }] } }.wrBytes (sharedBase + 8) (leBytes 2 2 ++ leBytes 2 bad ++ leBytes 4 planeDesc.blocks ++ leBytes 8 0 ++ leBytes 8 sharedBase ++ leBytes 4 4 ++ leBytes 4 0 ++ leBytes 16 0 ++ leBytes 8 sharedBase ++ leBytes 4 4 ++ leBytes 4 0 ++ leBytes 16 0)
def crc4 : Nat := sideCrc (bandOrder fullCtx.bands 4)
def pix : List Nat := [1, 2, 3, 4, 5, 6, 7, 8]
def blk : List Nat := (storeBlock pix).2
def dcpJob : Job := { loc := 4, nb := 3, strokes := 9, side := (2, 5, false) }
def dcpUp (b : List Nat) : State :=
  let s := putA (put { up with memChans := 3, jobs := vmod up.jobs 3 (fun _ => [dcpJob]) } [(F.DCP_CTRL_EN 3, 1), (F.QST_QRING_EN 3, 1), (F.QST_QRING_COUNT 3, 1)]) [(F.STR_GLOBAL_B 0, 8), (F.STR_WINDOW_NPIX 3, 2)]
  (s.wrBytes (pageBase + 8 * 4) (leBytes 8 (16 + b.length * 2 ^ 32))).wrBytes (pageBase + 64 * 16) b

theorem witness_RasterIngest_1 :
    (∃ (s : State) (n : Nat) (q : Requester) (v : Nat), s.calm ∧ n < 8 ∧ s.present q ∧ 1 ≤ bits v 27 24 ∧ bits v 27 24 < 2 ^ s.blockCount .STR ∧ 1 ≤ bits v 23 10 ∧ bits v 23 10 ≤ 15591 ∧ s.ctxState n ≠ ctxRUNNING ∧ s.ingestDesc n = none)
    ∧ (∃ (s : State) (n : Nat) (q : Requester) (v : Nat), s.calm ∧ n < 8 ∧ s.present q ∧ 1 ≤ bits v 27 24 ∧ bits v 27 24 < 2 ^ s.blockCount .STR ∧ 1 ≤ bits v 23 10 ∧ bits v 23 10 ≤ 15591 ∧ s.ctxState n = ctxRUNNING ∧ s.histRoom)
    ∧ (∃ (s : State) (n : Nat) (q : Requester) (v : Nat), s.calm ∧ n < 8 ∧ s.present q ∧ ¬(1 ≤ bits v 27 24 ∧ bits v 27 24 < 2 ^ s.blockCount .STR ∧ 1 ≤ bits v 23 10 ∧ bits v 23 10 ≤ 15591) ∧ s.ctxState n ≠ ctxRUNNING ∧ s.histRoom)
    ∧ (∃ (s : State) (n : Nat) (q : Requester) (v : Nat) (d : Desc) (p : (List Nat)), s.calm ∧ n < 8 ∧ s.present q ∧ 1 ≤ bits v 27 24 ∧ bits v 27 24 < 2 ^ s.blockCount .STR ∧ 1 ≤ bits v 23 10 ∧ bits v 23 10 ≤ 15591 ∧ s.ctxState n ≠ ctxRUNNING ∧ s.ingestDesc n = some d ∧ s.planePitches n d (bit v 30) = some p)
    ∧ (∃ (s : State) (n : Nat) (q : Requester) (v : Nat) (d : Desc), s.calm ∧ n < 8 ∧ s.present q ∧ 1 ≤ bits v 27 24 ∧ bits v 27 24 < 2 ^ s.blockCount .STR ∧ 1 ≤ bits v 23 10 ∧ bits v 23 10 ≤ 15591 ∧ s.ctxState n ≠ ctxRUNNING ∧ s.ingestDesc n = some d ∧ s.planePitches n d (bit v 30) = none ∧ (∃ f ∈ s.folio? n d.fsn, f.st = .ingest))
    ∧ (∃ (s : State) (n : Nat) (m : Nat) (p : Nat) (k : Nat) (bs : (List Nat)) (rest : (List (Nat × Nat × List Nat))), (let c := s.ctxOf n; s.calm ∧ n < 8 ∧ m < 2 ∧ (vget s.cmp m).out.length < 2 ∧ s.ctxState n = ctxRUNNING ∧ c.staged = (p, k, bs) :: rest ∧ s.lastHanded < 8 ∧ (∀ d, d < (n + 7 - s.lastHanded) % 8 → s.ctxState ((s.lastHanded + 1 + d) % 8) ≠ ctxRUNNING ∨ (s.ctxOf ((s.lastHanded + 1 + d) % 8)).staged = [])))
    ∧ (∃ (s : State) (n : Nat) (m : Nat) (p : Nat) (k : Nat) (bs : (List Nat)) (rest : (List (Nat × Nat × List Nat))), (let c := s.ctxOf n; s.calm ∧ n < 8 ∧ m < 2 ∧ (vget s.cmp m).out.length < 2 ∧ s.ctxState n = ctxRUNNING ∧ c.staged = (p, k, bs) :: rest ∧ s.lastHanded < 8 ∧ (∀ d, d < (n + 7 - s.lastHanded) % 8 → s.ctxState ((s.lastHanded + 1 + d) % 8) ≠ ctxRUNNING ∨ (s.ctxOf ((s.lastHanded + 1 + d) % 8)).staged = []) ∧ s.histRoom))
    ∧ (∃ (s : State) (n : Nat), (let c := s.ctxOf n; let r := s.g (F.ING_CTX_CFG_RING n); let entry := s.ringAddr r (s.qhead r); s.calm ∧ n < 8 ∧ s.ctxState n = ctxRUNNING ∧ c.run = none ∧ s.ringEn r = true ∧ s.ringEmpty r = false ∧ s.g (F.TCE_QCFG_CONS r) = 5 ∧ 16 ≤ s.rd (entry + 4) 4 ∧ s.rd (entry + 8) 8 = 0 ∧ 4096 * (s.rd entry 4 + s.rd (entry + 4) 4) ≤ s.pageSize)) :=
  ⟨⟨(ctxUp [(F.ING_CTX_STAT_STATE 7, 2)] {}), 7, (.core 2), (2 ^ 24 + 15591 * 1024), by decide +kernel⟩,
   ⟨(ctxUp [] {}), 7, (.core 2), (2 ^ 24 + 1024), by decide +kernel⟩,
   ⟨(ctxUp [(F.ING_CTX_STAT_STATE 7, 2)] {}), 7, (.core 2), 0, by decide +kernel⟩,
   ⟨(planeUp 0), 7, (.core 2), (2 ^ 24 + 2 ^ 26 + 2 * 1024), planeDesc, ([4, 4]), by decide +kernel⟩,
   ⟨(planeUp 1), 7, (.core 2), (2 ^ 24 + 2 ^ 26 + 2 * 1024), planeDesc, by decide +kernel⟩,
   ⟨(ctxUp [] { staged := [(1, 0, [1, 2, 3, 4, 1, 2, 3, 4])] }), 7, 1, 1, 0, ([1, 2, 3, 4, 1, 2, 3, 4]), ([]), by decide +kernel⟩,
   ⟨(ctxUp [] { staged := [(1, 0, [1, 2, 3, 4, 1, 2, 3, 4])] }), 7, 1, 1, 0, ([1, 2, 3, 4, 1, 2, 3, 4]), ([]), by decide +kernel⟩,
   ⟨((ctxUp [(F.TCE_QTAIL_INDEX 9, 1), (F.TCE_QCFG_LOG2N 9, 2)] { waitSince := some 4 }).wrBytes 0x02000000 [2, 0, 0, 0, 16, 0, 0, 0]), 7, by decide +kernel⟩⟩

theorem witness_RasterIngest_2 :
    (∃ (s : State) (n : Nat), (let c := s.ctxOf n; let r := s.g (F.ING_CTX_CFG_RING n); let entry := s.ringAddr r (s.qhead r); s.calm ∧ n < 8 ∧ s.ctxState n = ctxRUNNING ∧ c.run = none ∧ s.ringEn r = true ∧ s.ringEmpty r = false ∧ s.g (F.TCE_QCFG_CONS r) = 5 ∧ (s.rd (entry + 4) 4 < 16 ∨ s.rd (entry + 8) 8 ≠ 0 ∨ s.pageSize < 4096 * (s.rd entry 4 + s.rd (entry + 4) 4)) ∧ s.histRoom))
    ∧ (∃ (s : State) (n : Nat) (m : (Option Nat)) (p : Nat) (k : Nat) (raw : Bool) (b : (List Nat)) (start : Nat) (count : Nat) (used : Nat), (let c := s.ctxOf n; s.calm ∧ n < 8 ∧ s.ctxState n = ctxRUNNING ∧ s.pageUp = true ∧ s.nextFinished n = some (m, p, k, raw, b) ∧ c.run = some (start, count, used) ∧ (∀ x ∈ m, x < 2) ∧ b.length ≤ 62380 ∧ (∀ x ∈ b, x < 256) ∧ used + (b.length + 63) / 64 ≤ 64 * count ∧ 4096 * start + 64 * used < 2 ^ 35 ∧ (s.ctxLoc n + 8 * (p * s.ctxNb n + k) + 8 ≤ 4096 * start + 64 * used ∨ 4096 * start + 64 * used + b.length ≤ s.ctxLoc n + 8 * (p * s.ctxNb n + k))))
    ∧ (∃ (s : State) (n : Nat) (m : (Option Nat)) (p : Nat) (k : Nat) (raw : Bool) (b : (List Nat)) (start : Nat) (count : Nat) (used : Nat), (let c := s.ctxOf n; s.calm ∧ n < 8 ∧ s.ctxState n = ctxRUNNING ∧ s.pageUp = true ∧ s.nextFinished n = some (m, p, k, raw, b) ∧ c.run = some (start, count, used) ∧ 64 * count < used + (b.length + 63) / 64 ∧ (∀ x ∈ m, x < 2) ∧ b.length ≤ 62380 ∧ (∀ x ∈ b, x < 256)))
    ∧ (∃ (s : State) (n : Nat) (x : Nat), (let c := s.ctxOf n; let r := s.g (F.ING_CTX_CFG_RING n); s.calm ∧ n < 8 ∧ s.ctxState n = ctxRUNNING ∧ c.run = none ∧ c.fsn = none ∧ (s.ringEn r = false ∨ s.ringEmpty r = true) ∧ c.waitSince = some x ∧ x + s.g (F.ING_CTX_CFG_RUNWAIT n) * 2500 ≤ s.now))
    ∧ (∃ (s : State) (n : Nat) (x : Nat), (let c := s.ctxOf n; let r := s.g (F.ING_CTX_CFG_RING n); s.calm ∧ n < 8 ∧ s.ctxState n = ctxRUNNING ∧ c.run = none ∧ (s.ringEn r = false ∨ s.ringEmpty r = true) ∧ c.waitSince = some x ∧ x + s.g (F.ING_CTX_CFG_RUNWAIT n) * 2500 ≤ s.now))
    ∧ (∃ (s : State) (n : Nat) (fsn : Nat) (f : Folio) (crc : Nat), (let c := s.ctxOf n; s.calm ∧ n < 8 ∧ s.ctxState n = ctxRUNNING ∧ s.ctxPlanes n ≤ c.plane ∧ c.stored = s.ctxNb n * (s.ctxStations n).length ∧ c.fsn = some fsn ∧ s.folio? n fsn = some f ∧ f.st = .ingest ∧ f.stored = false ∧ crc = sideCrc (bandOrder c.bands c.stored) ∧ crc = (if s.on (F.ING_CTX_JOB_SIDE n) then f.desc.versoCrc else f.desc.rectoCrc) ∧ setBit f.sideOk (s.on (F.ING_CTX_JOB_SIDE n)).toNat true ≠ (if f.desc.duplex then 3 else 1)))
    ∧ (∃ (s : State) (n : Nat) (fsn : Nat) (f : Folio) (crc : Nat), (let c := s.ctxOf n; s.calm ∧ n < 8 ∧ s.ctxState n = ctxRUNNING ∧ s.ctxPlanes n ≤ c.plane ∧ c.stored = s.ctxNb n * (s.ctxStations n).length ∧ c.fsn = some fsn ∧ s.folio? n fsn = some f ∧ f.st = .ingest ∧ f.stored = false ∧ crc = sideCrc (bandOrder c.bands c.stored) ∧ crc = (if s.on (F.ING_CTX_JOB_SIDE n) then f.desc.versoCrc else f.desc.rectoCrc) ∧ setBit f.sideOk (s.on (F.ING_CTX_JOB_SIDE n)).toNat true = (if f.desc.duplex then 3 else 1) ∧ s.jrnRoom))
    ∧ (∃ (s : State) (n : Nat) (fsn : Nat) (f : Folio) (crc : Nat), (let c := s.ctxOf n; s.calm ∧ n < 8 ∧ s.ctxState n = ctxRUNNING ∧ s.ctxPlanes n ≤ c.plane ∧ c.stored = s.ctxNb n * (s.ctxStations n).length ∧ c.fsn = some fsn ∧ s.folio? n fsn = some f ∧ f.st = .ingest ∧ f.stored = false ∧ crc = sideCrc (bandOrder c.bands c.stored) ∧ crc = (if s.on (F.ING_CTX_JOB_SIDE n) then f.desc.versoCrc else f.desc.rectoCrc) ∧ setBit f.sideOk (s.on (F.ING_CTX_JOB_SIDE n)).toNat true = (if f.desc.duplex then 3 else 1) ∧ s.g F.JRN_STAT_STATE ≠ 1)) :=
  ⟨⟨((ctxUp [(F.TCE_QTAIL_INDEX 9, 1), (F.TCE_QCFG_LOG2N 9, 2)] { waitSince := some 4 }).wrBytes 0x02000000 [2, 0, 0, 0, 15, 0, 0, 0]), 7, by decide +kernel⟩,
   ⟨(ctxUp [] { finished := [(1, 1, [7, 8, 9])], run := some (4, 16, 1023) }), 7, none, 1, 1, false, ([7, 8, 9]), 4, 16, 1023, by decide +kernel⟩,
   ⟨(ctxUp [] { finished := [(1, 1, [7, 8, 9])], run := some (4, 16, 1024) }), 7, none, 1, 1, false, ([7, 8, 9]), 4, 16, 1024, by decide +kernel⟩,
   ⟨(ctxUp [] { waitSince := some 5 }), 7, 5, by decide +kernel⟩,
   ⟨(ctxUp [] { waitSince := some 5, fsn := some 9 }), 7, 5, by decide +kernel⟩,
   ⟨(sideUp [(F.ING_CTX_JOB_SIDE 7, 1)] true crc4), 7, 9, (ingFolio true crc4), crc4, by decide +kernel⟩,
   ⟨(sideUp [] false crc4), 7, 9, (ingFolio false crc4), crc4, by decide +kernel⟩,
   ⟨(sideUp [(F.JRN_STAT_STATE, 3)] false crc4), 7, 9, (ingFolio false crc4), crc4, by decide +kernel⟩⟩

theorem witness_RasterIngest_3 :
    (∃ (s : State) (n : Nat) (fsn : Nat) (f : Folio) (crc : Nat), (let c := s.ctxOf n; s.calm ∧ n < 8 ∧ s.ctxState n = ctxRUNNING ∧ s.ctxPlanes n ≤ c.plane ∧ c.stored = s.ctxNb n * (s.ctxStations n).length ∧ c.fsn = some fsn ∧ s.folio? n fsn = some f ∧ f.st = .ingest ∧ f.stored = false ∧ crc = sideCrc (bandOrder c.bands c.stored) ∧ crc = (if s.on (F.ING_CTX_JOB_SIDE n) then f.desc.versoCrc else f.desc.rectoCrc) ∧ setBit f.sideOk (s.on (F.ING_CTX_JOB_SIDE n)).toNat true = (if f.desc.duplex then 3 else 1) ∧ s.jrnRoom))
    ∧ (∃ (s : State) (n : Nat) (crc : Nat), (let c := s.ctxOf n; s.calm ∧ n < 8 ∧ s.ctxState n = ctxRUNNING ∧ s.ctxPlanes n ≤ c.plane ∧ c.stored = s.ctxNb n * (s.ctxStations n).length ∧ c.fsn = none))
    ∧ (∃ (s : State) (n : Nat) (fsn : Nat) (f : Folio) (crc : Nat), (let c := s.ctxOf n; s.calm ∧ n < 8 ∧ s.ctxState n = ctxRUNNING ∧ s.ctxPlanes n ≤ c.plane ∧ c.stored = s.ctxNb n * (s.ctxStations n).length ∧ c.fsn = some fsn ∧ s.folio? n fsn = some f ∧ f.st = .ingest ∧ f.stored = false ∧ crc = sideCrc (bandOrder c.bands c.stored) ∧ crc ≠ (if s.on (F.ING_CTX_JOB_SIDE n) then f.desc.versoCrc else f.desc.rectoCrc))) :=
  ⟨⟨(sideUpF [(F.ING_CTX_JOB_SIDE 7, 1)] { ingFolio true crc4 with sideOk := 1 }), 7, 9, ({ ingFolio true crc4 with sideOk := 1 }), crc4, by decide +kernel⟩,
   ⟨(ctxUp [] { fullCtx with fsn := none }), 7, crc4, by decide +kernel⟩,
   ⟨(sideUp [] false (crc4 + 1)), 7, 9, (ingFolio false (crc4 + 1)), crc4, by decide +kernel⟩⟩

theorem witness_QuireStoreAndWindow_1 :
    (∃ (s : State) (n : Nat) (q : Requester) (v : Nat), s.plain ∧ n < s.blockCount .STR ∧ n < s.blockCount .DCP ∧ s.present q ∧ bits v 15 8 ≤ 128 ∧ (bit v 31 = true → 1 ≤ bits v 15 8) ∧ bits v 7 0 + bits v 15 8 ≤ s.granules ∧ (∀ i, i < bits v 15 8 → s.owns q (granRid (bits v 7 0 + i)) = true) ∧ s.on (F.STR_CTRL_EN n) = false ∧ ¬(bit v 31 = false ∧ bits v 15 8 = s.g (F.QST_QRING_COUNT n) ∧ bits v 7 0 = s.g (F.QST_QRING_BASE n)))
    ∧ (∃ (s : State) (n : Nat) (q : Requester) (v : Nat), s.plain ∧ n < s.blockCount .STR ∧ n < s.blockCount .DCP ∧ s.present q ∧ bits v 15 8 ≤ 128 ∧ (bit v 31 = true → 1 ≤ bits v 15 8) ∧ bits v 7 0 + bits v 15 8 ≤ s.granules ∧ (∀ i, i < bits v 15 8 → s.owns q (granRid (bits v 7 0 + i)) = true) ∧ (bit v 31 = false ∧ bits v 15 8 = s.g (F.QST_QRING_COUNT n) ∧ bits v 7 0 = s.g (F.QST_QRING_BASE n)))
    ∧ (∃ (s : State) (n : Nat) (q : Requester) (v : Nat), s.plain ∧ n < s.blockCount .STR ∧ n < s.blockCount .DCP ∧ s.present q ∧ bits v 15 8 ≤ 128 ∧ (bit v 31 = true → 1 ≤ bits v 15 8) ∧ bits v 7 0 + bits v 15 8 ≤ s.granules ∧ (¬(∀ i, i < bits v 15 8 → s.owns q (granRid (bits v 7 0 + i)) = true) ∨ (s.on (F.STR_CTRL_EN n) = true ∧ ¬(bit v 31 = false ∧ bits v 15 8 = s.g (F.QST_QRING_COUNT n) ∧ bits v 7 0 = s.g (F.QST_QRING_BASE n)))))
    ∧ (∃ (s : State) (n : Nat) (q : Requester) (v : Nat), s.plain ∧ n < s.blockCount .STR ∧ n < s.blockCount .DCP ∧ s.present q ∧ ¬(bits v 15 8 ≤ 128 ∧ (bit v 31 = true → 1 ≤ bits v 15 8) ∧ bits v 7 0 + bits v 15 8 ≤ s.granules))
    ∧ (∃ (s : State) (n : Nat) (q : Requester) (lo : Nat) (hi : Nat) (st : Nat) (fsn : Nat) (verso : Bool), s.plain ∧ n < s.blockCount .STR ∧ n < s.blockCount .DCP ∧ s.present q ∧ 1 ≤ bits hi 31 16 ∧ 1 ≤ bits hi 12 0 ∧ bits hi 12 0 ≤ 7676 ∧ (vget s.jobs n).length < 8)
    ∧ (∃ (s : State) (n : Nat) (q : Requester) (lo : Nat) (hi : Nat) (st : Nat) (fsn : Nat) (verso : Bool), s.plain ∧ n < s.blockCount .STR ∧ n < s.blockCount .DCP ∧ s.present q ∧ 1 ≤ bits hi 31 16 ∧ 1 ≤ bits hi 12 0 ∧ bits hi 12 0 ≤ 7676 ∧ 8 ≤ (vget s.jobs n).length)
    ∧ (∃ (s : State) (n : Nat) (q : Requester) (lo : Nat) (hi : Nat) (st : Nat) (fsn : Nat) (verso : Bool), s.plain ∧ n < s.blockCount .STR ∧ n < s.blockCount .DCP ∧ s.present q ∧ (bits hi 31 16 = 0 ∨ bits hi 12 0 = 0 ∨ 7676 < bits hi 12 0))
    ∧ (∃ (s : State) (n : Nat) (j : Job) (rest : (List Job)) (o : (List Nat)), (let qu := vget s.quire n; s.plain ∧ n < s.blockCount .STR ∧ n < s.blockCount .DCP ∧ s.on (F.DCP_CTRL_EN n) = true ∧ s.on (F.QST_QRING_EN n) = true ∧ vget s.jobs n = j :: rest ∧ j.dead = false ∧ j.lines = [] ∧ j.block + 1 < j.nb ∧ j.stroke + 1 < j.strokes ∧ s.ga (F.STR_GLOBAL_B 0) = 8 ∧ qu.slots.length < s.slotCount n ∧ s.slotFilling n = false ∧ (s.dcpFetch n j false).toOption = some o)) :=
  ⟨⟨({ up with claims := [(granRid 255, ⟨3, 2⟩)] }), 3, (.core 2), 0x800001FF, by decide +kernel⟩,
   ⟨(put { up with claims := [(granRid 255, ⟨3, 2⟩)] } [(F.STR_CTRL_EN 3, 1), (F.QST_QRING_EN 3, 1), (F.QST_QRING_COUNT 3, 1), (F.QST_QRING_BASE 3, 255)]), 3, (.core 2), 0x1FF, by decide +kernel⟩,
   ⟨({ up with claims := [(granRid 255, ⟨3, 2⟩)] }), 3, (.core 3), 0x800001FF, by decide +kernel⟩,
   ⟨({ up with claims := [(granRid 255, ⟨3, 2⟩)] }), 3, (.core 3), 0x80000000, by decide +kernel⟩,
   ⟨up, 3, (.core 3), 77, (65536 + 7676), 2, 5, true, by decide +kernel⟩,
   ⟨({ up with jobs := vmod up.jobs 3 (fun _ => List.replicate 8 ⟨0, 1, 1, (0, 0, false), 0, 0, [], false⟩) }), 3, (.core 3), 77, (65536 + 7676), 2, 5, true, by decide +kernel⟩,
   ⟨up, 3, (.core 3), 77, (65536 + 7677), 2, 5, true, by decide +kernel⟩,
   ⟨(dcpUp blk), 3, dcpJob, ([]), pix, by decide +kernel⟩⟩

theorem witness_QuireStoreAndWindow_2 :
    (∃ (s : State) (n : Nat) (j : Job) (rest : (List Job)) (ecc : Bool) (e : Nat), (let qu := vget s.quire n; s.plain ∧ n < s.blockCount .STR ∧ n < s.blockCount .DCP ∧ s.on (F.DCP_CTRL_EN n) = true ∧ s.on (F.QST_QRING_EN n) = true ∧ vget s.jobs n = j :: rest ∧ j.dead = false ∧ j.lines = [] ∧ j.block + 1 < j.nb ∧ j.stroke + 1 < j.strokes ∧ s.ga (F.STR_GLOBAL_B 0) = 8 ∧ qu.slots.length < s.slotCount n ∧ s.slotFilling n = false ∧ (match s.dcpFetch n j ecc with | .error x => x == e | .ok _ => false) = true))
    ∧ (∃ (s : State) (n : Nat) (j : Job) (rest : (List Job)) (ecc : Bool) (e : Nat), (let qu := vget s.quire n; s.plain ∧ n < s.blockCount .STR ∧ n < s.blockCount .DCP ∧ s.on (F.DCP_CTRL_EN n) = true ∧ s.on (F.QST_QRING_EN n) = true ∧ vget s.jobs n = j :: rest ∧ j.dead = false ∧ j.lines = [] ∧ j.block + 1 < j.nb ∧ j.stroke + 1 < j.strokes ∧ s.ga (F.STR_GLOBAL_B 0) = 8 ∧ qu.slots.length < s.slotCount n ∧ s.slotFilling n = false ∧ (match s.dcpFetch n j ecc with | .error x => x == e | .ok _ => false) = true))
    ∧ (∃ (s : State) (n : Nat) (j : Job) (rest : (List Job)) (ecc : Bool) (o : (List Nat)), (let qu := vget s.quire n; s.plain ∧ n < s.blockCount .STR ∧ n < s.blockCount .DCP ∧ s.on (F.DCP_CTRL_EN n) = true ∧ s.on (F.QST_QRING_EN n) = true ∧ vget s.jobs n = j :: rest ∧ j.dead = false ∧ j.block < j.nb ∧ j.stroke < j.strokes ∧ j.lines.length < s.ga (F.STR_GLOBAL_B 0) ∧ qu.slots.length < s.slotCount n ∧ s.slotFilling n = false ∧ (s.dcpFetch n j ecc).toOption = some o))
    ∧ (∃ (s : State) (n : Nat), s.plain ∧ n < s.blockCount .STR ∧ n < s.blockCount .DCP ∧ n = 3)
    ∧ (∃ (s : State) (n : Nat), s.plain ∧ n < s.blockCount .STR ∧ n < s.blockCount .DCP ∧ n = 3)
    ∧ (∃ (s : State) (n : Nat), s.plain ∧ n < s.blockCount .STR ∧ n < s.blockCount .DCP ∧ n = 3)
    ∧ (∃ (s : State) (n : Nat), s.plain ∧ n < s.blockCount .STR ∧ n < s.blockCount .DCP ∧ n = 3)
    ∧ (∃ (s : State) (n : Nat) (q : Requester) (k : Nat) (v : Nat), s.plain ∧ n < s.blockCount .STR ∧ n < s.blockCount .DCP ∧ s.present q ∧ k < 256 ∧ bits v 31 24 = 0xC5 ∧ bits v 0 0 ≠ s.g (F.SHW_PAGE_OWNER k) ∧ (q = .host 0 ↔ s.g (F.SHW_PAGE_OWNER k) = 0)) :=
  ⟨⟨(dcpUp ((blk.take 12) ++ [1, 2, 3, 4] ++ (blk.drop 16))), 3, dcpJob, ([]), false, 4, by decide +kernel⟩,
   ⟨(dcpUp blk), 3, dcpJob, ([]), true, 6, by decide +kernel⟩,
   ⟨(putA (dcpUp blk) [(F.STR_GLOBAL_B 0, 3)]), 3, dcpJob, ([]), false, pix, by decide +kernel⟩,
   ⟨(put up [(F.QST_QSTAT_ECCERR 3, 0xFFFF)]), 3, by decide +kernel⟩,
   ⟨(put up [(F.QST_QSTAT_ECCERR 3, 0xFFFE)]), 3, by decide +kernel⟩,
   ⟨(put up [(F.QST_QSTAT_ECCERR 3, 0xFFFE)]), 3, by decide +kernel⟩,
   ⟨(put up [(F.QST_QSTAT_ECCERR 3, 0xFFFE)]), 3, by decide +kernel⟩,
   ⟨(put up [(F.SHW_PAGE_OWNER 255, 1), (F.SHW_PAGE_SEQ 255, 255)]), 3, (.core 1), 255, 0xC5000000, by decide +kernel⟩⟩

theorem witness_QuireStoreAndWindow_3 :
    (∃ (s : State) (n : Nat) (q : Requester) (k : Nat) (v : Nat), s.plain ∧ n < s.blockCount .STR ∧ n < s.blockCount .DCP ∧ s.present q ∧ k < 256 ∧ (bits v 31 24 ≠ 0xC5 ∨ bits v 0 0 = s.g (F.SHW_PAGE_OWNER k) ∨ ¬(q = .host 0 ↔ s.g (F.SHW_PAGE_OWNER k) = 0))) :=
  ⟨(put up [(F.SHW_PAGE_OWNER 255, 1), (F.SHW_PAGE_SEQ 255, 255)]), 3, (.core 1), 255, 0xC5000001, by decide +kernel⟩

end Sys2Proof.Tests
end

section
/-! The status word of a core (R177): what setting one bit of it leaves, and the bits of SW that MTS writes. -/

namespace Sys2Proof.Machine

theorem bit_eq_testBit (v i : Nat) : bit v i = v.testBit i := by
  rw [bit, Nat.testBit_eq_decide_div_mod_eq, Nat.shiftRight_eq_div_pow]
  rfl

theorem Core.swOn_eq_getLsbD (c : Core) (j : Nat) : c.swOn j = c.sw.getLsbD j := bit_eq_testBit _ _

/-- A bit of SW reads what was set, every other bit as before. -/
theorem Core.swOn_setSw (c : Core) {b : Nat} (x : Bool) (j : Nat) (hb : b < 32) : (c.setSw b x).swOn j = if j = b then x else c.swOn j := by
  have hlt : setBit c.sw.toNat b x < 2 ^ 32 := setBits_lt _ _ _ _ _ c.sw.isLt (by omega) hb
  simp only [Core.swOn, Core.setSw, bit_eq_testBit]
  rw [BitVec.toNat_ofNat, Nat.mod_eq_of_lt hlt, setBit, setBits_testBit _ _ _ _ _ (by omega)]
  by_cases h : j = b
  · subst h
    cases x <;> simp
  · rw [if_neg (by omega), if_neg h]

/-- MTS of SW writes the bits that are RW, VOV on loop cores alone, and keeps the others (R177). -/
theorem swOn_sysWrite_sw (c : Core) (i : Nat) (v : Word) (b : Nat) :
    Core.swOn { c with sw := (c.sw &&& ~~~(swMask i)) ||| (v &&& swMask i) } b
      = if b = 31 ∨ b = 30 ∨ b = 29 ∨ b = 28 ∨ b = 27 ∨ (b = 23 ∧ 16 ≤ i) ∨ b = 22 ∨ b = 20 then bit v.toNat b else c.swOn b := by
  have hmask : (swMask i).getLsbD b
      = decide (b = 31 ∨ b = 30 ∨ b = 29 ∨ b = 28 ∨ b = 27 ∨ (b = 23 ∧ 16 ≤ i) ∨ b = 22 ∨ b = 20) := by
    by_cases hb : b < 32
    · by_cases hi : 16 ≤ i
      · have hloop : swMask i = 0xF8D00000 := if_pos (decide_eq_true hi)
        simp only [hloop, hi, and_true]
        revert b; decide
      · have htimeline : swMask i = 0xF8500000 := if_neg (by simpa [isLoop] using hi)
        simp only [htimeline, hi, and_false, false_or]
        revert b; decide
    · rw [BitVec.getLsbD_of_ge _ _ (by omega)]
      exact (decide_eq_false (by omega)).symm
  have hv : bit v.toNat b = v.getLsbD b := bit_eq_testBit _ _
  rw [hv, Core.swOn_eq_getLsbD, Core.swOn_eq_getLsbD]
  simp only [BitVec.getLsbD_or, BitVec.getLsbD_and, BitVec.getLsbD_not, hmask]
  by_cases hb : b < 32
  · split <;> rename_i h <;> simp [h, hb]
  · simp [BitVec.getLsbD_of_ge _ _ (show 32 ≤ b by omega)]

end Sys2Proof.Machine
end

section
/-! Words of core instructions (R184 to R186): the fields of a format read back, each instruction's word read as that instruction, and the
words that no instruction has. -/

namespace Sys2Proof

open Machine

/-! ### The fields of the formats (R184) -/

theorem toNat_append_eq_add {n m : Nat} (x : BitVec n) (y : BitVec m) : (x ++ y).toNat = x.toNat * 2 ^ m + y.toNat := by
  rw [BitVec.toNat_append, ← Nat.shiftLeft_add_eq_or_of_lt y.isLt, Nat.shiftLeft_eq]

/-- A field taken from a word, as a number. -/
theorem eq_extractLsb'_of_toNat {n : Nat} (w : Word) (lo : Nat) (x : BitVec n) (h : w.toNat / 2 ^ lo % 2 ^ n = x.toNat) :
    w.extractLsb' lo n = x :=
  BitVec.eq_of_toNat_eq (by rw [BitVec.extractLsb'_toNat, Nat.shiftRight_eq_div_pow, h])

theorem encA_toNat (op : BitVec 6) (rd ra rb : BitVec 5) (func : BitVec 11) :
    (encA op rd ra rb func).toNat = op.toNat * 2 ^ 26 + rd.toNat * 2 ^ 21 + ra.toNat * 2 ^ 16 + rb.toNat * 2 ^ 11 + func.toNat := by
  simp only [encA, toNat_append_eq_add]; omega

theorem encB_toNat (op : BitVec 6) (rd ra : BitVec 5) (imm : BitVec 16) :
    (encB op rd ra imm).toNat = op.toNat * 2 ^ 26 + rd.toNat * 2 ^ 21 + ra.toNat * 2 ^ 16 + imm.toNat := by
  simp only [encB, toNat_append_eq_add]; omega

theorem encL_toNat (op : BitVec 6) (rd : BitVec 5) (disp : BitVec 21) :
    (encL op rd disp).toNat = op.toNat * 2 ^ 26 + rd.toNat * 2 ^ 21 + disp.toNat := by
  simp only [encL, toNat_append_eq_add]; omega

theorem encV_toNat (op : BitVec 6) (vd va vb : BitVec 4) (g : BitVec 5) (func : BitVec 9) :
    (encV op vd va vb g func).toNat = op.toNat * 2 ^ 26 + vd.toNat * 2 ^ 22 + va.toNat * 2 ^ 18 + vb.toNat * 2 ^ 14 + g.toNat * 2 ^ 9 + func.toNat := by
  simp only [encV, toNat_append_eq_add]; omega

theorem encM_toNat (op : BitVec 6) (vd : BitVec 4) (ga : BitVec 5) (n1 : BitVec 3) (off : BitVec 14) :
    (encM op vd ga n1 off).toNat = op.toNat * 2 ^ 26 + vd.toNat * 2 ^ 22 + ga.toNat * 2 ^ 17 + n1.toNat * 2 ^ 14 + off.toNat := by
  simp only [encM, toNat_append_eq_add]; omega

/-! The lemmas on the opcode write 2^26 as simp does. -/

section formatA
variable (op : BitVec 6) (rd ra rb : BitVec 5) (func : BitVec 11)

@[simp] theorem opcode_encA : (encA op rd ra rb func).toNat / 67108864 = op.toNat := by rw [encA_toNat]; omega
@[simp] theorem gF1_encA : gF1 (encA op rd ra rb func) = rd := eq_extractLsb'_of_toNat _ _ _ (by rw [encA_toNat]; omega)
@[simp] theorem gF2_encA : gF2 (encA op rd ra rb func) = ra := eq_extractLsb'_of_toNat _ _ _ (by rw [encA_toNat]; omega)
@[simp] theorem gF3_encA : gF3 (encA op rd ra rb func) = rb := eq_extractLsb'_of_toNat _ _ _ (by rw [encA_toNat]; omega)
@[simp] theorem gFunc_encA : gFunc (encA op rd ra rb func) = func := eq_extractLsb'_of_toNat _ _ _ (by rw [encA_toNat]; omega)

end formatA

section formatB
variable (op : BitVec 6) (rd ra : BitVec 5) (imm : BitVec 16)

@[simp] theorem opcode_encB : (encB op rd ra imm).toNat / 67108864 = op.toNat := by rw [encB_toNat]; omega
@[simp] theorem gF1_encB : gF1 (encB op rd ra imm) = rd := eq_extractLsb'_of_toNat _ _ _ (by rw [encB_toNat]; omega)
@[simp] theorem gF2_encB : gF2 (encB op rd ra imm) = ra := eq_extractLsb'_of_toNat _ _ _ (by rw [encB_toNat]; omega)
@[simp] theorem gImm_encB : gImm (encB op rd ra imm) = imm := eq_extractLsb'_of_toNat _ _ _ (by rw [encB_toNat]; omega)

end formatB

section formatL
variable (op : BitVec 6) (rd : BitVec 5) (disp : BitVec 21)

@[simp] theorem opcode_encL : (encL op rd disp).toNat / 67108864 = op.toNat := by rw [encL_toNat]; omega
@[simp] theorem gF1_encL : gF1 (encL op rd disp) = rd := eq_extractLsb'_of_toNat _ _ _ (by rw [encL_toNat]; omega)
@[simp] theorem gDisp_encL : gDisp (encL op rd disp) = disp := eq_extractLsb'_of_toNat _ _ _ (by rw [encL_toNat]; omega)

end formatL

section formatV
variable (op : BitVec 6) (vd va vb : BitVec 4) (g : BitVec 5) (func : BitVec 9)

@[simp] theorem opcode_encV : (encV op vd va vb g func).toNat / 67108864 = op.toNat := by rw [encV_toNat]; omega
@[simp] theorem gVd_encV : gVd (encV op vd va vb g func) = vd := eq_extractLsb'_of_toNat _ _ _ (by rw [encV_toNat]; omega)
@[simp] theorem gVa_encV : gVa (encV op vd va vb g func) = va := eq_extractLsb'_of_toNat _ _ _ (by rw [encV_toNat]; omega)
@[simp] theorem gVb_encV : gVb (encV op vd va vb g func) = vb := eq_extractLsb'_of_toNat _ _ _ (by rw [encV_toNat]; omega)
@[simp] theorem gG_encV : gG (encV op vd va vb g func) = g := eq_extractLsb'_of_toNat _ _ _ (by rw [encV_toNat]; omega)
@[simp] theorem gVfunc_encV : gVfunc (encV op vd va vb g func) = func := eq_extractLsb'_of_toNat _ _ _ (by rw [encV_toNat]; omega)

end formatV

section formatM
variable (op : BitVec 6) (vd : BitVec 4) (ga : BitVec 5) (n1 : BitVec 3) (off : BitVec 14)

@[simp] theorem opcode_encM : (encM op vd ga n1 off).toNat / 67108864 = op.toNat := by rw [encM_toNat]; omega
@[simp] theorem gVd_encM : gVd (encM op vd ga n1 off) = vd := eq_extractLsb'_of_toNat _ _ _ (by rw [encM_toNat]; omega)
@[simp] theorem gGa_encM : gGa (encM op vd ga n1 off) = ga := eq_extractLsb'_of_toNat _ _ _ (by rw [encM_toNat]; omega)
@[simp] theorem gN1_encM : gN1 (encM op vd ga n1 off) = n1 := eq_extractLsb'_of_toNat _ _ _ (by rw [encM_toNat]; omega)
@[simp] theorem gOff_encM : gOff (encM op vd ga n1 off) = off := eq_extractLsb'_of_toNat _ _ _ (by rw [encM_toNat]; omega)

end formatM

/-! ### An instruction's word is read as that instruction (R184, R186) -/

/-- The operand of a load that tells whether its data is uncorrectable, which no word carries; false for any other command. -/
def Instr.dataBad : Instr → Bool
  | .lw _ _ _ _ bad => bad
  | .lh _ _ _ _ bad => bad
  | .lhu _ _ _ _ bad => bad
  | .lb _ _ _ _ bad => bad
  | .lbu _ _ _ _ bad => bad
  | .ld _ _ _ _ bad => bad
  | .tbl _ _ _ _ _ _ bad => bad
  | .bfld _ _ _ _ _ bad => bad
  | _ => false

/-- The word of a core instruction is read back as it, whatever its operands. -/
theorem decodeGotum_gotumWord {x : Instr} {i : Nat} {w : Word} (h : gotumWord x = some (i, w)) (hb : x.dataBad = false) :
    decodeGotum i w = some x := by
  cases x <;> cases h <;> simp [decodeGotum, decodeA]
  -- what is left are the loads, whose data operand no word carries
  all_goals exact hb

theorem runWord_gotumWord {x : Instr} {i : Nat} {w : Word} (s : State) (h : gotumWord x = some (i, w)) (hb : x.dataBad = false) :
    s.runWord i w = exec x s := by
  simp only [State.runWord, decodeGotum_gotumWord h hb]

/-! ### Reserved words (R185) -/

theorem decodeA_reserved (i : Nat) (w : Word) (hf : (gFunc w).toNat = 0x00F ∨ (gFunc w).toNat = 0x010
    ∨ 0x014 ≤ (gFunc w).toNat ∧ (gFunc w).toNat ≤ 0x01F ∨ 0x024 ≤ (gFunc w).toNat) : decodeA i w = none := by
  unfold decodeA
  simp only []
  split
  case h_23 => rfl
  all_goals omega

theorem decodeGotum_reserved_opcode (i : Nat) (w : Word) (op : Nat) (hop : w.toNat / 2 ^ 26 = op)
    (h : 0x0B ≤ op ∧ op ≤ 0x0F ∨ 0x15 ≤ op ∧ op ≤ 0x17 ∨ 0x1D ≤ op ∧ op ≤ 0x1F ∨ op = 0x27 ∨ 0x29 ≤ op ∧ op ≤ 0x2F) :
    decodeGotum i w = none := by
  unfold decodeGotum
  rw [hop]
  split
  case h_46 => rfl
  all_goals omega

theorem decodeGotum_opcode_zero (i : Nat) (w : Word) (hop : w.toNat / 2 ^ 26 = 0) : decodeGotum i w = decodeA i w := by
  unfold decodeGotum
  rw [hop]
  rfl

/-- A word of a reserved opcode, or of opcode 0 and a reserved func, is no instruction's (R185, R186). -/
theorem decodeGotum_reserved (i : Nat) (w : Word) (op func : Nat) (hop : w.toNat / 2 ^ 26 = op) (hfunc : w.toNat % 2 ^ 11 = func)
    (h : 0x0B ≤ op ∧ op ≤ 0x0F ∨ 0x15 ≤ op ∧ op ≤ 0x17 ∨ 0x1D ≤ op ∧ op ≤ 0x1F ∨ op = 0x27 ∨ 0x29 ≤ op ∧ op ≤ 0x2F
      ∨ op = 0 ∧ (func = 0x00F ∨ func = 0x010 ∨ 0x014 ≤ func ∧ func ≤ 0x01F ∨ 0x024 ≤ func)) : decodeGotum i w = none := by
  by_cases h0 : op = 0
  · have hfield : (gFunc w).toNat = func := by simp [gFunc, ← hfunc]
    rw [decodeGotum_opcode_zero i w (hop.trans h0)]
    exact decodeA_reserved i w (by omega)
  · exact decodeGotum_reserved_opcode i w op hop (by omega)

end Sys2Proof
end

section
/-! What a fault event leaves of TCE (R332 to R339): it moves the tails of rings alone, so that CSTAT reads as before. -/

namespace Sys2Proof.Machine

/-- From s to t the words of TCE below those of the rings, CSTAT among them, read as before. -/
def BelowRingsKept (s t : State) : Prop := ∀ a, 0x80000 ≤ a → a < 0x81000 → ∀ d : Word, Cells.get d a t.regs = Cells.get d a s.regs

theorem BelowRingsKept.refl (s : State) : BelowRingsKept s s := fun _ _ _ _ => rfl

theorem BelowRingsKept.trans {s t u : State} (h1 : BelowRingsKept s t) (h2 : BelowRingsKept t u) : BelowRingsKept s u :=
  fun a ha hb d => (h2 a ha hb d).trans (h1 a ha hb d)

theorem BelowRingsKept.p {s t : State} (h : BelowRingsKept s t) (f : FieldRef) (x : Nat)
    (hr : f.reg.addr f.n f.k < 0x80000 ∨ 0x81000 ≤ f.reg.addr f.n f.k) : BelowRingsKept s (t.p f x) :=
  h.trans fun _ _ _ _ => Cells.get_put_ne _ _ _ _ (by omega)

theorem BelowRingsKept.g {s t : State} (h : BelowRingsKept s t) (f : FieldRef)
    (hl : 0x80000 ≤ f.reg.addr f.n f.k) (hu : f.reg.addr f.n f.k < 0x81000) : t.g f = s.g f := by
  simp only [State.g, State.word, h _ hl hu]

theorem ObsOnly.belowRings {s t : State} (h : ObsOnly s t) : BelowRingsKept s t := fun a _ hb d => h.words a (by omega) d

theorem State.ringPutC_belowRings (s : State) (q : Nat) (bs : List Nat) : BelowRingsKept s (s.ringPutC q bs) := by
  have hput : BelowRingsKept s (s.ringPut q bs) :=
    BelowRingsKept.p (t := s.wrBytes _ bs) (BelowRingsKept.refl s) _ _ (by simp [F.TCE_QTAIL_INDEX]; omega)
  exact hput.trans (State.count_obsOnly _ _ _ _).belowRings

theorem State.fclMark_belowRings (s : State) : BelowRingsKept s s.fclMark := by
  unfold State.fclMark
  split
  · exact State.ringPutC_belowRings { s with fcl := { s.fcl with markDue := false } } _ _
  · exact BelowRingsKept.refl s

theorem State.fclPost_belowRings (s : State) (r : HistRec) : BelowRingsKept s (s.fclPost r) := by
  unfold State.fclPost
  refine s.fclMark_belowRings.trans ?_
  simp only []
  split
  · split
    · exact State.ringPutC_belowRings _ _ _
    · exact (State.sawFull_obsOnly _ _).belowRings.p _ _ (by simp [F.FCL_RINGCFG_LOST])
  · exact BelowRingsKept.refl _

theorem State.noteDue_regs (s : State) (k : KettleCause) : (s.noteDue k).regs = s.regs := by
  unfold State.noteDue
  split
  · rfl
  · split
    · rfl
    · split <;> rfl

theorem State.takeHist_belowRings (s : State) (i : Nat) (e : FaultEv) : BelowRingsKept s (s.takeHist i e) := by
  have hhead : BelowRingsKept s (((s.modHist i (fun _ => s.newRec e)).p F.FCL_HEAD_NEWEST i).incWrap F.FCL_HEAD_NEXTSEQ) :=
    BelowRingsKept.p (BelowRingsKept.p (t := s.modHist i (fun _ => s.newRec e)) (BelowRingsKept.refl s) _ _ (by simp [F.FCL_HEAD_NEWEST])) _ _
      (by simp [F.FCL_HEAD_NEXTSEQ])
  exact ((hhead.trans (State.fclPost_belowRings _ _)).trans (State.count_obsOnly _ _ _ _).belowRings).trans (State.traceEv_obsOnly _ _ _ _ _).belowRings

/-- An event that finds room in the history, or a record to merge with, touches no word of TCE below the rings'. -/
theorem State.recordEvent_belowRings {s : State} (h : s.histRoom) (e : FaultEv) : BelowRingsKept s (s.recordEvent e) := by
  unfold State.recordEvent
  split
  · exact BelowRingsKept.refl s
  · split
    · exact BelowRingsKept.refl s
    · split
      · exact s.takeHist_belowRings _ e
      · rename_i hf
        simp [State.histRoom, hf] at h

theorem State.raise_belowRings {s : State} (h : s.histRoom) (source code detail : Nat) (cls : Cls) (reason : Nat) (folio : Option (Nat × Nat)) :
    BelowRingsKept s (s.raise source code detail cls reason folio) := by
  unfold State.raise State.raiseEv
  split
  · intro a ha hb d
    rw [State.noteDue_regs]
    exact State.recordEvent_belowRings h _ a ha hb d
  · exact State.recordEvent_belowRings h _

end Sys2Proof.Machine
end

section
/-! The entry into a handler and a fault of an instruction (R207), in a calm state. -/

namespace Sys2Proof.Machine

/-- R207 on the status word: system mode, interrupts off, INFAULT set, the mode before saved, and every other bit kept. -/
theorem Core.swOn_enter (c : Core) (epc cause val off j : Nat) :
    (c.enter epc cause val off).swOn j = if j = swINFAULT then true else if j = swIE then false else if j = swSYS then true
      else if j = swPIE then c.swOn swIE else if j = swPSYS then c.swOn swSYS else c.swOn j := by
  have hsw : (c.enter epc cause val off).sw
      = (((((c.setSw swPSYS (c.swOn swSYS)).setSw swPIE (c.swOn swIE)).setSw swSYS true).setSw swIE false).setSw swINFAULT true).sw := rfl
  rw [Core.swOn, hsw, ← Core.swOn, Core.swOn_setSw _ _ _ (by decide), Core.swOn_setSw _ _ _ (by decide), Core.swOn_setSw _ _ _ (by decide),
    Core.swOn_setSw _ _ _ (by decide), Core.swOn_setSw _ _ _ (by decide)]

/-- Of a core the entry writes SW, EPC, ECAUSE, EVAL and PC, and ends a wait. -/
theorem Core.enter_eq (c : Core) (epc cause val off : Nat) : c.enter epc cause val off
    = { c with sw := (c.enter epc cause val off).sw, epc := BitVec.ofNat 32 epc, ecause := BitVec.ofNat 32 cause, eval := BitVec.ofNat 32 val,
               pc := c.vbase + BitVec.ofNat 32 off, wait := none } := by
  -- on the constructor each field reduces by itself, and the words of SW are never compared
  cases c; rfl

/-- The address of CSTATi lies in TCE, below the registers of the rings. -/
theorem cstat_addr {i : Nat} (hi : i < 24) : 0x80000 ≤ Reg.addr .TCE_CSTAT 0 i ∧ Reg.addr .TCE_CSTAT 0 i < 0x81000 := by
  simp; omega

/-- At LEVEL 0 the entry leaves no trace record. -/
theorem State.enterHandler_off {s : State} (hl : s.obsLevel = 0) {i : Nat} (hi : i < 24) (epc cause val off : Nat) :
    s.enterHandler i epc cause val off
      = ((s.modCore i (fun c => c.enter epc cause val off)).showRun i).p (F.TCE_CSTAT_LASTCAUSE i) cause := by
  unfold State.enterHandler
  refine State.insTarget_off ?_ _ _ _ _
  rw [State.obsLevel_p _ _ (by simp [F.TCE_CSTAT_LASTCAUSE]; omega) (by simp [F.TCE_CSTAT_LASTCAUSE]; omega)]
  exact (State.obsLevel_setCoreState _ hi _).trans hl

theorem State.coresOnly_trans {s t u : State} (h1 : s.coresOnly t) (h2 : t.coresOnly u) : s.coresOnly u := by
  unfold State.coresOnly at *
  rw [h2, h1]

theorem State.coresOnly_modCore (s : State) (i : Nat) (f : Core → Core) : s.coresOnly (s.modCore i f) := rfl

theorem State.coresOnly_p (s : State) (f : FieldRef) (x : Nat) : s.coresOnly (s.p f x) := rfl

theorem State.coreOf_showRun (s : State) (i j : Nat) : (s.showRun i).coreOf j = s.coreOf j := rfl

theorem State.enterHandler_coresOnly {s : State} (hl : s.obsLevel = 0) {i : Nat} (hi : i < 24) (epc cause val off : Nat) :
    s.coresOnly (s.enterHandler i epc cause val off) := by
  rw [State.enterHandler_off hl hi]
  exact State.coresOnly_trans (State.coresOnly_trans (State.coresOnly_modCore s i _) (State.coresOnly_p _ _ _)) (State.coresOnly_p _ _ _)

theorem State.enterHandler_regsKept {s : State} (hl : s.obsLevel = 0) {i : Nat} (hi : i < 24) (epc cause val off : Nat) :
    s.regsKept (s.enterHandler i epc cause val off) [(.TCE, 0)] := by
  rw [State.enterHandler_off hl hi]
  refine State.regsKept_trans (t := (s.modCore i (fun c => c.enter epc cause val off)).showRun i) ?_ ?_
  · exact State.regsKept_setCoreState (s.modCore i (fun c => c.enter epc cause val off)) hi _
  · exact State.regsKept_p _ _ (b := .TCE) (m := 0) (by simp) (by simp [F.TCE_CSTAT_LASTCAUSE, Block.base]; omega)

theorem State.enterHandler_calm {s : State} (hs : s.calm) {i : Nat} (hi : i < 24) (epc cause val off : Nat) :
    (s.enterHandler i epc cause val off).calm := by
  have hcores := State.enterHandler_coresOnly hs.2 hi epc cause val off
  refine ⟨by rw [hcores]; exact hs.1, ?_⟩
  rw [State.enterHandler_off hs.2 hi,
    State.obsLevel_p _ _ (by simp [F.TCE_CSTAT_LASTCAUSE]; omega) (by simp [F.TCE_CSTAT_LASTCAUSE]; omega)]
  exact (State.obsLevel_setCoreState _ hi _).trans hs.2

/-- The entry of R207 into the handler at an offset from VBASE. -/
theorem State.enterHandler_entered {s : State} (hl : s.obsLevel = 0) {i : Nat} (hi : i < 24) (epc val off : Nat) {cause : Nat} (hc : cause < 256) :
    s.entered (s.enterHandler i epc cause val off) i epc cause val ((s.coreOf i).vbase + BitVec.ofNat 32 off).toNat := by
  have hmod : (s.modCore i (fun c => c.enter epc cause val off)).coreOf i = (s.coreOf i).enter epc cause val off := by
    rw [State.coreOf_modCore, if_pos ⟨rfl, hi⟩]
  rw [State.enterHandler_off hl hi]
  have hcore : (((s.modCore i (fun c => c.enter epc cause val off)).showRun i).p (F.TCE_CSTAT_LASTCAUSE i) cause).coreOf i
      = (s.coreOf i).enter epc cause val off := by
    rw [State.coreOf_p, State.coreOf_showRun, hmod]
  refine ⟨?_, ?_, ?_, ?_, ?_, ?_, ?_, ?_, ?_, ?_⟩
  · rw [hcore, BitVec.ofNat_toNat, BitVec.setWidth_eq]
    exact Core.enter_eq _ _ _ _ _
  · simp [hcore, Core.swOn_enter, swSYS, swINFAULT, swIE]
  · simp [hcore, Core.swOn_enter, swINFAULT, swIE]
  · simp [hcore, Core.swOn_enter]
  · simp [hcore, Core.swOn_enter, swSYS, swINFAULT, swIE, swPSYS, swPIE]
  · simp [hcore, Core.swOn_enter, swSYS, swINFAULT, swIE, swPIE]
  · intro b hb
    rw [hcore, Core.swOn_enter, if_neg (by unfold swINFAULT; omega), if_neg (by unfold swIE; omega), if_neg (by unfold swSYS; omega),
      if_neg (by unfold swPIE; omega), if_neg (by unfold swPSYS; omega)]
  · rw [State.g_p_same _ _ _ (by simp [F.TCE_CSTAT_LASTCAUSE]) (by simp [F.TCE_CSTAT_LASTCAUSE])]
    exact Nat.mod_eq_of_lt hc
  · rw [State.coreState, State.g_p_disj (f := F.TCE_CSTAT_LASTCAUSE i) (f' := F.TCE_CSTAT_STATE i) _ _ rfl rfl rfl
      (by simp [F.TCE_CSTAT_LASTCAUSE]) (by simp [F.TCE_CSTAT_STATE]) (Or.inr (by simp [F.TCE_CSTAT_LASTCAUSE, F.TCE_CSTAT_STATE])),
      State.showRun, hmod, Core.swOn_enter, if_pos rfl, if_pos rfl, State.setCoreState,
      State.g_p_same _ _ _ (by simp [F.TCE_CSTAT_STATE]) (by simp [F.TCE_CSTAT_STATE])]
    rfl
  · intro j hj
    rw [State.coreOf_p, State.coreOf_showRun, State.coreOf_modCore, if_neg fun h => hj h.1.symm]

/-- A field outside the blocks that a change was kept to reads as before. -/
theorem State.regsKept_g {s t : State} {l : List (Block × Nat)} (h : s.regsKept t l) (f : FieldRef)
    (hf : ∀ x, x ∈ l → f.reg.addr f.n f.k < x.1.base + 0x40000 * x.2 ∨ x.1.base + 0x40000 * (x.2 + 1) ≤ f.reg.addr f.n f.k) : t.g f = s.g f := by
  simp only [State.g, State.word, h _ _ hf]

/-- Having entered rests on the cores and TCE's words below the rings' alone: a later state that keeps them has entered too. -/
theorem State.entered_of_kept {s t u : State} {i epc cause val pc : Nat} (hi : i < 24) (h : s.entered t i epc cause val pc) (hcores : u.cores = t.cores)
    (hregs : BelowRingsKept t u) : s.entered u i epc cause val pc := by
  obtain ⟨hl, hu⟩ := cstat_addr hi
  have hcore : ∀ j, u.coreOf j = t.coreOf j := fun j => by rw [State.coreOf, hcores, ← State.coreOf]
  have hlast : u.g (F.TCE_CSTAT_LASTCAUSE i) = t.g (F.TCE_CSTAT_LASTCAUSE i) := hregs.g _ hl hu
  have hstate : u.coreState i = t.coreState i := hregs.g _ hl hu
  unfold State.entered at h ⊢
  simpa only [hcore, hlast, hstate] using h

/-- A fault at the PC (R207) in a calm state with room for its record, and not already in a handler: the state stays settled, and the core has trapped. -/
theorem State.coreFault_trapped {s : State} (hs : s.calm) (hroom : s.histRoom) {i : Nat} (hi : i < 24) (hin : (s.coreOf i).swOn swINFAULT = false)
    (val : Nat) {cause : Nat} (hc : cause < 256) (h6 : cause ≠ 6) :
    (s.coreFault i (s.coreOf i).pc.toNat cause val).settled
      ∧ s.trapped (s.coreFault i (s.coreOf i).pc.toNat cause val) i cause val := by
  have hcalm := State.enterHandler_calm hs hi (s.coreOf i).pc.toNat cause val 0
  have hcores := State.enterHandler_coresOnly hs.2 hi (s.coreOf i).pc.toNat cause val 0
  have hkept := State.enterHandler_regsKept hs.2 hi (s.coreOf i).pc.toNat cause val 0
  have hent := State.enterHandler_entered hs.2 hi (s.coreOf i).pc.toNat val 0 hc
  have hfault : s.coreFault i (s.coreOf i).pc.toNat cause val = (s.enterHandler i (s.coreOf i).pc.toNat cause val 0).raise (40 + i) 1 cause .a 4 := by
    unfold State.coreFault
    simp only [h6, if_false, decide_false, Bool.false_and, Bool.false_eq_true, hin, State.count_off hcalm.2]
  rw [hfault]
  generalize s.enterHandler i (s.coreOf i).pc.toNat cause val 0 = t at *
  have hhead : t.g F.FCL_HEAD_NEWEST = s.g F.FCL_HEAD_NEWEST := State.regsKept_g hkept _ (by simp [F.FCL_HEAD_NEWEST, Block.base])
  have hroom' : t.histRoom := State.histRoom_congr hroom (by rw [hcores]) hhead
  obtain ⟨hcalm', hrep, honly⟩ := State.raise_calm hcalm hroom' (40 + i) 1 cause .a (by decide) 4 none
  refine ⟨hcalm'.1, ?_, hrep, ?_, State.regsKept_trans (State.regsKept_mono hkept (by simp)) honly.regsKept⟩
  · rw [BitVec.add_zero] at hent
    exact State.entered_of_kept hi hent (by rw [honly.same]) (State.raise_belowRings hroom' _ _ _ _ _ _)
  · rw [honly.same, hcores]

end Sys2Proof.Machine
end

section
/-! Issue in a calm state, said once per ending (R179, R182, R207): an instruction that ends with a changed core and a next PC retires, and one that ends
with a fault traps. -/

namespace Sys2Proof.Machine

@[simp] theorem Core.setSw_pc (c : Core) (b : Nat) (x : Bool) : (c.setSw b x).pc = c.pc := by cases c; rfl
@[simp] theorem Core.setSw_instret (c : Core) (b : Nat) (x : Bool) : (c.setSw b x).instret = c.instret := by cases c; rfl
@[simp] theorem Core.setSw_g (c : Core) (b : Nat) (x : Bool) : (c.setSw b x).g = c.g := by cases c; rfl

@[simp] theorem Core.set_pc (c : Core) (r : BitVec 5) (v : Word) : (c.set r v).pc = c.pc := by
  unfold Core.set; split <;> rfl

@[simp] theorem Core.set_instret (c : Core) (r : BitVec 5) (v : Word) : (c.set r v).instret = c.instret := by
  unfold Core.set; split <;> rfl

/-- Putting a core back as it is changes nothing. -/
theorem State.modCore_coreOf (s : State) (i : Nat) : s.modCore i (fun _ => s.coreOf i) = s := by
  have hv : vmod s.cores i (fun _ => s.coreOf i) = s.cores := by
    unfold State.coreOf vmod vget
    split
    · simp
    · rfl
  unfold State.modCore
  rw [hv]

theorem State.coresOnly_retireState (u : State) (i pc : Nat) : u.coresOnly (retireState u i pc) :=
  State.coresOnly_trans (State.coresOnly_modCore u i _) (State.coresOnly_p _ _ _)

theorem State.coreLive_lt {s : State} {i : Nat} (h : s.coreLive i = true) : i < 24 := by
  simp only [State.coreLive, Bool.and_eq_true] at h
  obtain ⟨⟨hcore, -⟩, -⟩ := h
  exact State.hasCore_lt hcore

/-- A core that issues can go on to the next instruction. -/
theorem State.issues_seq {s : State} {i : Nat} (hi : s.issues i) : pcOk (s.coreOf i).seq = true := by
  obtain ⟨-, -, hseq⟩ := hi
  exact hseq

/-- A core that issues exists and is in service. -/
theorem State.issues_live {s : State} {i : Nat} (hi : s.issues i) : i < 24 ∧ s.inService i = true := by
  obtain ⟨hready, -, -⟩ := hi
  simp only [State.coreReady, Bool.and_eq_true] at hready
  obtain ⟨⟨⟨hcore, -⟩, hrun⟩, -⟩ := hready
  refine ⟨State.hasCore_lt hcore, ?_⟩
  simp only [Bool.or_eq_true] at hrun
  simp only [State.inService, Bool.or_eq_true]
  exact hrun.imp_left Or.inl

/-- An instruction whose effect is the core k and which goes on at pc retires, and touches nothing but the cores and TCE's registers. -/
theorem State.issue_core {s : State} {i pc : Nat} {k : Core} {f : State → Core → Ends} (hs : s.calm) (hi : s.issues i)
    (hf : f s (s.coreOf i) = .next (s.modCore i (fun _ => k)) pc) (hp : pcOk pc = true) (hpc : k.pc = (s.coreOf i).pc)
    (hins : k.instret = (s.coreOf i).instret) : ∃ t, s.issue i f = .next t ∧ s.retired t i k pc ∧ s.coresOnly t := by
  obtain ⟨hlt, hlive⟩ := State.issues_live hi
  have hset : (s.modCore i (fun _ => k)).settled := hs.1
  have hlevel : (s.modCore i (fun _ => k)).obsLevel = 0 := hs.2
  have hserves : (s.modCore i (fun _ => k)).inService i = true := hlive
  refine ⟨_, State.issue_next hi hset hlevel hserves hf hp, ?_, ?_⟩
  · refine retireState_retired hlt ?_ hpc hins ?_ (fun _ _ _ => rfl)
    · rw [State.coreOf_modCore, if_pos ⟨rfl, hlt⟩]
    · intro j hj
      rw [State.coreOf_modCore, if_neg fun h => hj h.1.symm]
  · exact State.coresOnly_trans (State.coresOnly_modCore s i _) (State.coresOnly_retireState _ i pc)

/-- An instruction that ends with a fault traps. -/
theorem State.issue_trap {s : State} {i cause val : Nat} {f : State → Core → Ends} (hs : s.calm) (hi : s.issues i) (hroom : s.histRoom)
    (hin : (s.coreOf i).swOn swINFAULT = false) (hf : f s (s.coreOf i) = .trap s cause val) (hc : cause < 256) (h6 : cause ≠ 6) :
    ∃ t, s.issue i f = .next t ∧ s.trapped t i cause val := by
  obtain ⟨hset, htrap⟩ := State.coreFault_trapped hs hroom (State.issues_live hi).1 hin val hc h6
  obtain ⟨hready, hgood, -⟩ := hi
  refine ⟨_, ?_, htrap⟩
  unfold State.issue
  rw [if_pos hready, if_neg (by simp [hgood]), hf]
  exact done_settled hset

/-- What a core shows after an instruction that left it as k: k but for its PC and counts. -/
theorem State.retired.shows {s t : State} {i pc : Nat} {k : Core} (h : s.retired t i k pc) :
    (t.coreOf i).g = k.g ∧ (t.coreOf i).pc = BitVec.ofNat 32 pc ∧ ∀ b, (t.coreOf i).swOn b = k.swOn b := by
  obtain ⟨-, -, hcore⟩ := h
  refine ⟨by rw [hcore], by rw [hcore], fun b => ?_⟩
  have hsw : (t.coreOf i).sw = k.sw := by rw [hcore]
  rw [Core.swOn, hsw, ← Core.swOn]

theorem Runs.imp {x : Instr} {s : State} {P Q : State → Prop} (h : Runs x s P) (hpq : ∀ t, P t → Q t) : Runs x s Q := by
  obtain ⟨t, ht, hp⟩ := h
  exact ⟨t, ht, hpq t hp⟩

end Sys2Proof.Machine
end

section
/-! System registers, ERET and FENCE, and what interrupts a core (R179, R180, R183, R189, R209, R210): one lemma an instruction. -/

namespace Sys2Proof.Machine

/-- The registers that any read of the system mode gives as they stand (R179). -/
theorem sysRead_plain (s : State) (i : Nat) (c : Core) (hsys : c.swOn swSYS = true) {x : BitVec 5} {v : Word}
    (hx : (x, v) ∈ [(0x00, c.sw), (0x01, c.epc), (0x02, c.ecause), (0x03, c.eval), (0x04, c.vbase),
      (0x05, BitVec.ofNat 32 (c.coreid i)), (0x06, c.pwin), (0x08, c.scratch0), (0x09, c.scratch1)]) :
    s.sysRead i c x.toNat = some (v, c) := by
  simp only [List.mem_cons, Prod.mk.injEq, List.not_mem_nil, or_false] at hx
  rcases hx with ⟨rfl, rfl⟩ | ⟨rfl, rfl⟩ | ⟨rfl, rfl⟩ | ⟨rfl, rfl⟩ | ⟨rfl, rfl⟩ | ⟨rfl, rfl⟩ | ⟨rfl, rfl⟩ | ⟨rfl, rfl⟩ | ⟨rfl, rfl⟩ <;>
    simp [State.sysRead, hsys]

theorem coreid_eq (c : Core) (i : Nat) : c.coreid i = i + (if 16 ≤ i then 32 else 0) + (if c.swOn swMAPPED then 64 else 0) := by
  unfold Core.coreid isLoop
  by_cases h : 16 ≤ i <;> cases c.swOn swMAPPED <;> simp [h]

/-- The registers that MTS writes in system mode, other than SW (R179). -/
theorem sysWrite_plain (s : State) (i : Nat) (c : Core) (a : Word) {x : BitVec 5} {k : Core}
    (hx : (x, k) ∈ [(0x01, { c with epc := a }), (0x02, { c with ecause := a }), (0x03, { c with eval := a }), (0x06, { c with pwin := a &&& 0x7F }),
      (0x07, { c with kick := s.now }), (0x08, { c with scratch0 := a }), (0x09, { c with scratch1 := a }),
      (0x04, { c with vbase := 0xE0000000 ||| (a &&& 0x3FF00) })]) :
    s.sysWrite i c x.toNat a = some k ∧ k.pc = c.pc ∧ k.instret = c.instret := by
  simp only [List.mem_cons, Prod.mk.injEq, List.not_mem_nil, or_false] at hx
  rcases hx with ⟨rfl, rfl⟩ | ⟨rfl, rfl⟩ | ⟨rfl, rfl⟩ | ⟨rfl, rfl⟩ | ⟨rfl, rfl⟩ | ⟨rfl, rfl⟩ | ⟨rfl, rfl⟩ | ⟨rfl, rfl⟩ <;>
    exact ⟨rfl, rfl, rfl⟩

/-- MFS of a counter's low word takes its high word into the snapshot, and of the high word reads the snapshot (R179). -/
theorem sysRead_counters (s : State) (i : Nat) (c : Core) (hsys : c.swOn swSYS = true) :
    s.sysRead i c 0x10 = some (BitVec.ofNat 32 (s.coreCyclesOf c), { c with cycHi := some (BitVec.ofNat 32 (s.coreCyclesOf c / 2 ^ 32)) })
    ∧ s.sysRead i c 0x11 = some (c.cycHi.getD (BitVec.ofNat 32 (s.coreCyclesOf c / 2 ^ 32)), { c with cycHi := none })
    ∧ s.sysRead i c 0x12 = some (BitVec.ofNat 32 c.instret, { c with insHi := some (BitVec.ofNat 32 (c.instret / 2 ^ 32)) })
    ∧ s.sysRead i c 0x13 = some (c.insHi.getD (BitVec.ofNat 32 (c.instret / 2 ^ 32)), { c with insHi := none }) := by
  refine ⟨?_, ?_, ?_, ?_⟩ <;> simp [State.sysRead, hsys]

/-- A core after ERET's change of mode (R210). -/
def eretCore (c : Core) : Core := ((c.setSw swSYS (c.swOn swPSYS)).setSw swIE (c.swOn swPIE)).setSw swINFAULT false

@[simp] theorem eretCore_pc (c : Core) : (eretCore c).pc = c.pc := by simp [eretCore]
@[simp] theorem eretCore_instret (c : Core) : (eretCore c).instret = c.instret := by simp [eretCore]
@[simp] theorem eretCore_g (c : Core) : (eretCore c).g = c.g := by simp [eretCore]

theorem swOn_eretCore (c : Core) (b : Nat) :
    (eretCore c).swOn b = if b = swINFAULT then false else if b = swIE then c.swOn swPIE else if b = swSYS then c.swOn swPSYS else c.swOn b := by
  rw [eretCore, Core.swOn_setSw _ _ _ (by decide), Core.swOn_setSw _ _ _ (by decide), Core.swOn_setSw _ _ _ (by decide)]

section issued
variable {s : State} {i : Nat} (rd ra n : BitVec 5) (hs : s.calm) (hi : s.issues i)
include hs hi

/-- MFS of a register that the mode may read: its value in rd, and the core as the read leaves it (R179). -/
theorem mfs_runs {v : Word} {k : Core} (hread : s.sysRead i (s.coreOf i) n.toNat = some (v, k)) (hpc : k.pc = (s.coreOf i).pc)
    (hins : k.instret = (s.coreOf i).instret) :
    Runs (.mfs i rd 0 n) s (fun t => s.retired t i (k.set rd v) (s.coreOf i).seq ∧ s.coresOnly t) := by
  show ∃ t, execMfs i rd 0 n s = _ ∧ _
  refine State.issue_core hs hi ?_ (State.issues_seq hi) (by simp [hpc]) (by simp [hins])
  simp [State.legal, hread, State.with, Core.seq, hpc]

/-- MTS in system mode of a register that may be written: the core as the write leaves it (R179). -/
theorem mts_runs (hsys : (s.coreOf i).swOn swSYS = true) {k : Core}
    (hwrite : s.sysWrite i (s.coreOf i) n.toNat ((s.coreOf i).get ra) = some k) (hpc : k.pc = (s.coreOf i).pc)
    (hins : k.instret = (s.coreOf i).instret) :
    Runs (.mts i 0 ra n) s (fun t => s.retired t i k (s.coreOf i).seq ∧ s.coresOnly t) := by
  show ∃ t, execMts i 0 ra n s = _ ∧ _
  refine State.issue_core hs hi ?_ (State.issues_seq hi) hpc hins
  simp [State.legal, State.priv, hsys, hwrite, State.with, Core.seq, hpc]

/-- ERET in system mode goes to EPC with the mode restored (R210). -/
theorem eret_runs (hsys : (s.coreOf i).swOn swSYS = true) (hepc : pcOk (s.coreOf i).epc.toNat = true) :
    Runs (.eret i 0 0 0) s (fun t => s.retired t i (eretCore (s.coreOf i)) (s.coreOf i).epc.toNat ∧ s.coresOnly t) := by
  show ∃ t, execEret i 0 0 0 s = _ ∧ _
  refine State.issue_core hs hi ?_ hepc (eretCore_pc _) (eretCore_instret _)
  have hlevel : (s.modCore i (fun _ => eretCore (s.coreOf i))).obsLevel = 0 := hs.2
  have htrace := State.insTarget_off hlevel i 1 0 (s.coreOf i).epc.toNat
  rw [eretCore] at htrace ⊢
  simp [State.legal, State.priv, hsys, State.goTo, hepc, htrace]

/-- FENCE with no failed store to report leaves the core as it is (R183). -/
theorem fence_runs (herr : (s.coreOf i).storeErr = none) :
    Runs (.fence i 0 0 0) s (fun t => s.retired t i (s.coreOf i) (s.coreOf i).seq ∧ s.coresOnly t) := by
  show ∃ t, execFence i 0 0 0 s = _ ∧ _
  refine State.issue_core hs hi ?_ (State.issues_seq hi) rfl rfl
  simp [State.legal, herr, State.modCore_coreOf]

section user
variable (huser : (s.coreOf i).swOn swSYS = false) (hroom : s.histRoom) (hin : (s.coreOf i).swOn swINFAULT = false)
include huser hroom hin

/-- MTS in user mode is a PRIV fault (R180). -/
theorem mts_user_trapped : Runs (.mts i 0 ra n) s (fun t => s.trapped t i 2 (encA 0 0 ra n 0x021).toNat) := by
  show ∃ t, execMts i 0 ra n s = _ ∧ _
  refine State.issue_trap hs hi hroom hin ?_ (by decide) (by decide)
  simp [State.legal, State.priv, huser]

/-- ERET in user mode is a PRIV fault (R180). -/
theorem eret_user_trapped : Runs (.eret i 0 0 0) s (fun t => s.trapped t i 2 (encA 0 0 0 0 0x022).toNat) := by
  show ∃ t, execEret i 0 0 0 s = _ ∧ _
  refine State.issue_trap hs hi hroom hin ?_ (by decide) (by decide)
  simp [State.legal, State.priv, huser]

end user

/-- A word that no instruction has is an ILLEGAL fault (R185). -/
theorem runWord_reserved (hroom : s.histRoom) (hin : (s.coreOf i).swOn swINFAULT = false) {w : Word} (hw : decodeGotum i w = none) :
    ∃ t, s.runWord i w = .next t ∧ s.trapped t i 1 w.toNat := by
  simp only [State.runWord, hw]
  exact State.issue_trap hs hi hroom hin rfl (by decide) (by decide)

end issued

/-- MTS of SW in system mode: the writable bits of SW from ra, the others kept (R177, R179). -/
theorem mts_sw_runs {s : State} {i : Nat} (ra : BitVec 5) (hs : s.calm) (hi : s.issues i) (hsys : (s.coreOf i).swOn swSYS = true) :
    Runs (.mts i 0 ra 0x00) s (fun t => s.coresOnly t ∧ (t.coreOf i).g = (s.coreOf i).g ∧ (t.coreOf i).pc = BitVec.ofNat 32 (s.coreOf i).seq
      ∧ ∀ b, (t.coreOf i).swOn b = (if b = 31 ∨ b = 30 ∨ b = 29 ∨ b = 28 ∨ b = 27 ∨ (b = 23 ∧ 16 ≤ i) ∨ b = 22 ∨ b = 20
          then bit ((s.coreOf i).get ra).toNat b else (s.coreOf i).swOn b)) := by
  refine (mts_runs ra 0x00 hs hi hsys rfl rfl rfl).imp fun t ⟨hret, hcores⟩ => ?_
  obtain ⟨hg, hpc, hsw⟩ := hret.shows
  exact ⟨hcores, hg, hpc, fun b => (hsw b).trans (swOn_sysWrite_sw _ _ _ _)⟩

/-- ERET in system mode, told by what it leaves (R210). -/
theorem eret_restores {s : State} {i : Nat} (hs : s.calm) (hi : s.issues i) (hsys : (s.coreOf i).swOn swSYS = true)
    (hepc : pcOk (s.coreOf i).epc.toNat = true) : Runs (.eret i 0 0 0) s (fun t => s.coresOnly t ∧ s.onlyCore t i ∧ t.coreState i = csRUN
      ∧ (t.coreOf i).g = (s.coreOf i).g ∧ (t.coreOf i).pc = (s.coreOf i).epc ∧ (t.coreOf i).swOn swSYS = (s.coreOf i).swOn swPSYS
      ∧ (t.coreOf i).swOn swIE = (s.coreOf i).swOn swPIE ∧ (t.coreOf i).swOn swINFAULT = false
      ∧ ∀ b, b < 29 → (t.coreOf i).swOn b = (s.coreOf i).swOn b) := by
  refine (eret_runs hs hi hsys hepc).imp fun t ⟨hret, hcores⟩ => ?_
  obtain ⟨hg, hpc, hsw⟩ := hret.shows
  obtain ⟨honly, hstate, -⟩ := hret
  rw [swOn_eretCore, if_pos rfl, if_neg (by decide)] at hstate
  refine ⟨hcores, honly, hstate, hg.trans (eretCore_g _), ?_, ?_, ?_, ?_, fun b hb => ?_⟩
  · rw [hpc, BitVec.ofNat_toNat, BitVec.setWidth_eq]
  · rw [hsw, swOn_eretCore]; simp [swSYS, swIE, swINFAULT]
  · rw [hsw, swOn_eretCore]; simp [swIE, swINFAULT]
  · rw [hsw, swOn_eretCore]; simp
  · rw [hsw, swOn_eretCore, if_neg (by unfold swINFAULT; omega), if_neg (by unfold swIE; omega), if_neg (by unfold swSYS; omega)]

/-- The answer to a failed store enters the handler with BUS_ERROR, the store's address in EVAL (R189). -/
theorem storeError_runs {s : State} {i : Nat} (hs : s.calm) (hlive : s.coreLive i = true) (herr : (s.coreOf i).storeErr = none) (hroom : s.histRoom)
    (hin : (s.coreOf i).swOn swINFAULT = false) {x : Nat} (hx : x < 2 ^ 32) : Runs (.storeError i x) s (fun t => s.trapped t i 5 x) := by
  have hi := State.coreLive_lt hlive
  have hclear : s.modCore i (fun c => { c with storeErr := none }) = s := by
    have hself : ({ s.coreOf i with storeErr := none } : Core) = s.coreOf i := by rw [← herr]
    have hmod : s.modCore i (fun c => { c with storeErr := none }) = s.modCore i (fun _ => { s.coreOf i with storeErr := none }) := by
      unfold State.modCore State.coreOf vmod vget
      split <;> rfl
    rw [hmod, hself, State.modCore_coreOf]
  obtain ⟨hset, htrap⟩ := State.coreFault_trapped hs hroom hi hin x (cause := 5) (by decide) (by decide)
  refine Runs.of (show execStoreError i x s = _ from ?_) htrap
  rw [execStoreError, if_pos hlive, herr, Option.getD_none, Nat.mod_eq_of_lt hx, State.storeFault, hclear]
  exact done_settled hset

/-- The sampling interrupt enters the handler at VBASE + 0x40, and its record is no longer pending (R209, R411). -/
theorem sampleInterrupt_runs {s : State} {i : Nat} (hs : s.calm) (hlive : s.coreLive i = true) (hpend : s.on (F.OBS_SAMP_INFO_PEND i) = true)
    (hie : (s.coreOf i).swOn swIE = true) (hin : (s.coreOf i).swOn swINFAULT = false) : Runs (.sampleInterrupt i) s (fun t =>
      s.entered t i (s.coreOf i).pc.toNat 0x10 0 ((s.coreOf i).vbase + 0x40).toNat ∧ t.on (F.OBS_SAMP_INFO_PEND i) = false ∧ s.coresOnly t
        ∧ s.regsKept t [(.OBS, 0), (.TCE, 0)]) := by
  have hi := State.coreLive_lt hlive
  have hcalm : (s.p (F.OBS_SAMP_INFO_PEND i) 0).calm :=
    State.calm_p hs 0 (by simp [F.OBS_SAMP_INFO_PEND]; omega) (by simp [F.OBS_SAMP_INFO_PEND]; omega)
  have hoff : (s.p (F.OBS_SAMP_INFO_PEND i) 0).g (F.OBS_SAMP_INFO_PEND i) = 0 :=
    State.g_p_same _ _ _ (by simp [F.OBS_SAMP_INFO_PEND]) (by simp [F.OBS_SAMP_INFO_PEND])
  have hkept : s.regsKept (s.p (F.OBS_SAMP_INFO_PEND i) 0) [(.OBS, 0), (.TCE, 0)] :=
    State.regsKept_p _ _ (b := .OBS) (m := 0) (by simp) (by simp [F.OBS_SAMP_INFO_PEND, Block.base]; omega)
  have htce := State.enterHandler_regsKept hcalm.2 hi (s.coreOf i).pc.toNat 0x10 0 0x40
  have hent := State.enterHandler_entered hcalm.2 hi (s.coreOf i).pc.toNat 0 0x40 (cause := 0x10) (by decide)
  refine Runs.of (show execSampleInterrupt i s = _ from ?_) ⟨hent, ?_, ?_, ?_⟩
  · unfold execSampleInterrupt
    simp only [hlive, hpend, hie, hin, Bool.and_self, Bool.not_false, if_true]
    exact done_settled (State.enterHandler_calm hcalm hi _ _ _ _).1
  · have hpend' := State.regsKept_g htce (F.OBS_SAMP_INFO_PEND i) (by simp [F.OBS_SAMP_INFO_PEND, Block.base]; omega)
    simp only [State.on, hpend', hoff, bne_self_eq_false]
  · exact State.coresOnly_trans (State.coresOnly_p _ _ _) (State.enterHandler_coresOnly hcalm.2 hi _ _ _ _)
  · exact State.regsKept_trans hkept (State.regsKept_mono htce (by simp))

end Sys2Proof.Machine
end

section
/-! System registers, ERET, FENCE, the entries into the handler, and the words of the instructions: the statement. -/

namespace Sys2Proof.Machine

/-- Settles O32: MFS, MTS, ERET and FENCE by how an issue ends, each handler entry by what R207 does to the core, and the words by their formats. -/
theorem systemInstructions : Obligations.SystemInstructions := by
  intro s i rd ra n hs hlt
  simp only []
  refine ⟨fun hi hsys => ?_, fun hi huser => ⟨?_, ?_⟩, fun hi huser hroom hin => ⟨?_, ?_⟩, fun hlive herr hroom hin x hx => ?_,
    fun hlive hpend hie hin => sampleInterrupt_runs hs hlive hpend hie hin, fun x w hw hb => ?_, fun w hi hroom hin hres => ?_⟩
  · obtain ⟨hcyc, hcycHi, hins, hinsHi⟩ := sysRead_counters s i (s.coreOf i) hsys
    refine ⟨fun x v hx => ?_, mfs_runs rd _ hs hi hcyc rfl rfl, mfs_runs rd _ hs hi hcycHi rfl rfl, mfs_runs rd _ hs hi hinsHi rfl rfl,
      mfs_runs rd _ hs hi hins rfl rfl, fun x k hx => ?_, mts_sw_runs ra hs hi hsys, eret_restores hs hi hsys, fence_runs hs hi⟩
    · rw [← coreid_eq] at hx
      exact mfs_runs rd x hs hi (sysRead_plain s i _ hsys hx) rfl rfl
    · obtain ⟨hwrite, hpc, hins⟩ := sysWrite_plain s i (s.coreOf i) _ hx
      exact mts_runs ra x hs hi hsys hwrite hpc hins
  · exact mfs_runs rd _ hs hi rfl rfl rfl
  · rw [← coreid_eq]
    exact mfs_runs rd _ hs hi rfl rfl rfl
  · exact mts_user_trapped ra n hs hi huser hroom hin
  · exact eret_user_trapped hs hi huser hroom hin
  · obtain ⟨t, ht, hent, hrep, -, hkept⟩ := storeError_runs hs hlive herr hroom hin hx
    exact ⟨t, ht, hent, hrep, hkept⟩
  · have hgood : x.dataBad = false := hb
    exact ⟨decodeGotum_gotumWord hw hgood, runWord_gotumWord s hw hgood⟩
  · exact runWord_reserved hs hi hroom hin (decodeGotum_reserved i w _ _ rfl rfl hres)

end Sys2Proof.Machine
end

section
/-! The fault history (R334, R336): where an event is found, what a new record holds, and what an event leaves of the records that stand. -/

namespace Sys2Proof.Machine

theorem mem_histOrder {n i : Nat} (hi : i < 16) : i ∈ histOrder n := by
  simp only [histOrder, List.mem_map, List.mem_range]
  exact ⟨(i + 15 - n % 16) % 16, Nat.mod_lt _ (by omega), by omega⟩

/-- The search for an outstanding record of the same event finds none, where every outstanding record is of another (R334). -/
theorem State.findRepeat_none {s : State} {e : FaultEv}
    (h : ∀ k, k < 16 → (vget s.fcl.hist k).outstanding = true → (vget s.fcl.hist k).same e = false) :
    (histOrder (s.g F.FCL_HEAD_NEWEST)).find? (fun i => (vget s.fcl.hist i).outstanding && (vget s.fcl.hist i).same e) = none := by
  refine List.find?_eq_none.2 fun k hk hfound => ?_
  obtain ⟨hout, hsame⟩ := (Bool.and_eq_true _ _).mp hfound
  rw [h k (histOrder_lt _ _ hk) hout] at hsame
  exact absurd hsame (by decide)

/-- It finds the only outstanding record, where that is of the same event. -/
theorem State.findRepeat_some {s : State} {e : FaultEv} {i : Nat} (hi : i < 16) (hout : (vget s.fcl.hist i).outstanding = true)
    (hsame : (vget s.fcl.hist i).same e = true) (hothers : ∀ k, k ≠ i → (vget s.fcl.hist k).outstanding = false) :
    (histOrder (s.g F.FCL_HEAD_NEWEST)).find? (fun i => (vget s.fcl.hist i).outstanding && (vget s.fcl.hist i).same e) = some i := by
  cases hfind : (histOrder (s.g F.FCL_HEAD_NEWEST)).find? (fun i => (vget s.fcl.hist i).outstanding && (vget s.fcl.hist i).same e) with
  | none =>
    refine absurd ?_ (List.find?_eq_none.1 hfind i (mem_histOrder hi))
    rw [hout, hsame]
    rfl
  | some k =>
    obtain ⟨hk, -⟩ := (Bool.and_eq_true _ _).mp (List.find?_some (p := fun i => (vget s.fcl.hist i).outstanding && (vget s.fcl.hist i).same e) hfind)
    refine congrArg some (Decidable.byContradiction fun hne => ?_)
    rw [hothers k hne] at hk
    exact absurd hk (by decide)

/-- The entry that a new record takes exists, and its record is not outstanding (R336). -/
theorem State.freeHist_spec {s : State} {i : Nat} (h : s.freeHist = some i) : i < 16 ∧ (vget s.fcl.hist i).outstanding = false := by
  refine ⟨histOrder_lt _ _ (List.mem_of_find?_eq_some h), ?_⟩
  simpa using List.find?_some h

theorem State.takeHist_hist (s : State) (i : Nat) (e : FaultEv) : (s.takeHist i e).fcl.hist = vmod s.fcl.hist i (fun _ => s.newRec e) := by
  unfold State.takeHist
  simp only []
  rw [State.traceEv_fcl, State.count_fcl, State.fclPost_hist]
  rfl

theorem State.takeHist_get_ne (s : State) {i k : Nat} (e : FaultEv) (hk : k ≠ i) : vget (s.takeHist i e).fcl.hist k = vget s.fcl.hist k := by
  rw [State.takeHist_hist, vget_vmod, if_neg fun h => hk h.1.symm]

theorem satAdd_one (a m : Nat) : satAdd a 1 m = min (a + 1) m := by
  unfold satAdd
  split <;> omega

/-- A record with one repeat more (R334). -/
def HistRec.again (r : HistRec) : HistRec := { r with repeats := min (r.repeats + 1) 255 }

/-- A record to which a further event has been joined as SECONDARY (R336). -/
def HistRec.joined (r : HistRec) : HistRec := { r with secondary := true }

theorem HistRec.again_eq (r : HistRec) : { r with repeats := satAdd r.repeats 1 255 } = r.again := by
  rw [HistRec.again, satAdd_one]

/-- What recording an event does: it merges with a record of the same event, takes a free entry, or finds the history full (R334, R336). -/
theorem State.recordEvent_cases (s : State) (e : FaultEv) :
    (∃ i, i < 16 ∧ (vget s.fcl.hist i).same e = true ∧ (e.cls = .a ∨ (vget s.fcl.hist i).outstanding = true)
        ∧ s.recordEvent e = s.modHist i HistRec.again)
    ∨ (∃ i, s.freeHist = some i ∧ s.recordEvent e = s.takeHist i e)
    ∨ (s.freeHist = none ∧ ∃ u, (u = s.inc F.FCL_STAT_DROPPED ∨ ∃ i, u = (s.inc F.FCL_STAT_DROPPED).modHist i HistRec.joined)
        ∧ (s.recordEvent e = u ∨ s.recordEvent e = u.noteDue ⟨0, 2, e.reason⟩)) := by
  unfold State.recordEvent
  simp only [HistRec.again_eq]
  split
  · rename_i i hfind
    obtain ⟨hout, hsame⟩ := (Bool.and_eq_true _ _).mp
      (List.find?_some (p := fun i => (vget s.fcl.hist i).outstanding && (vget s.fcl.hist i).same e) hfind)
    exact .inl ⟨i, histOrder_lt _ _ (List.mem_of_find?_eq_some hfind), hsame, .inr hout, rfl⟩
  · split
    · rename_i hnewest
      obtain ⟨hcls, hsame⟩ := (Bool.and_eq_true _ _).mp hnewest
      exact .inl ⟨_, s.g_lt F.FCL_HEAD_NEWEST, hsame, .inl (beq_iff_eq.mp hcls), rfl⟩
    · split
      · rename_i i hfree
        exact .inr (.inl ⟨i, hfree, rfl⟩)
      · rename_i hfull
        refine .inr (.inr ⟨hfull, ?_⟩)
        split
        · exact ⟨_, .inl rfl, .inl rfl⟩
        · have hend : ∀ u : State, (if e.cls == .b then u.noteDue ⟨0, 2, e.reason⟩ else u) = u
              ∨ (if e.cls == .b then u.noteDue ⟨0, 2, e.reason⟩ else u) = u.noteDue ⟨0, 2, e.reason⟩ := fun u => by
            split
            · exact .inr rfl
            · exact .inl rfl
          cases s.oldestOutstanding with
          | none => exact ⟨_, .inl rfl, hend _⟩
          | some i => exact ⟨_, .inr ⟨i, rfl⟩, hend _⟩

/-- An event that is new takes the entry free for it (R336). -/
theorem State.recordEvent_new {s : State} {e : FaultEv} {i : Nat} (hfree : s.freeHist = some i)
    (hnew : ∀ k, k < 16 → (vget s.fcl.hist k).outstanding = true → (vget s.fcl.hist k).same e = false)
    (hnewest : e.cls = .a → (vget s.fcl.hist (s.g F.FCL_HEAD_NEWEST)).same e = false) : s.recordEvent e = s.takeHist i e := by
  have hmerge : ¬(e.cls == .a && (vget s.fcl.hist (s.g F.FCL_HEAD_NEWEST)).same e) = true := fun h => by
    obtain ⟨hcls, hsame⟩ := (Bool.and_eq_true _ _).mp h
    rw [hnewest (beq_iff_eq.mp hcls)] at hsame
    exact absurd hsame (by decide)
  unfold State.recordEvent
  rw [State.findRepeat_none hnew]
  simp only [if_neg hmerge, hfree]

/-- An event identical to the only outstanding record counts as a repeat of it (R334). -/
theorem State.recordEvent_repeats {s : State} {e : FaultEv} {i : Nat} (hi : i < 16) (hout : (vget s.fcl.hist i).outstanding = true)
    (hsame : (vget s.fcl.hist i).same e = true) (hothers : ∀ k, k ≠ i → (vget s.fcl.hist k).outstanding = false) :
    s.recordEvent e = s.modHist i HistRec.again := by
  unfold State.recordEvent
  simp only [State.findRepeat_some hi hout hsame hothers, HistRec.again_eq]

/-- With room in the history, recording an event causes no kettle entry (R336). -/
theorem State.recordEvent_due {s : State} (hroom : s.histRoom) (e : FaultEv) : (s.recordEvent e).fcl.due = s.fcl.due := by
  rcases s.recordEvent_cases e with ⟨i, -, -, -, heq⟩ | ⟨i, -, heq⟩ | ⟨hfull, -⟩
  · rw [heq]; rfl
  · rw [heq, State.takeHist_due]
  · rw [State.histRoom, hfull] at hroom
    exact absurd hroom (by decide)

theorem State.raiseEv_ne_c (s : State) {e : FaultEv} (hc : e.cls ≠ .c) : s.raiseEv e = s.recordEvent e := by
  rw [State.raiseEv, if_neg (by simpa using hc)]

/-- Noting a cause of kettle entry touches nothing but that cause. -/
theorem State.noteDue_eq (s : State) (k : KettleCause) : s.noteDue k = { s with fcl := { s.fcl with due := (s.noteDue k).fcl.due } } := by
  unfold State.noteDue
  split
  · rfl
  · split
    · rfl
    · split <;> rfl

@[simp] theorem State.noteDue_hist (s : State) (k : KettleCause) : (s.noteDue k).fcl.hist = s.fcl.hist := by rw [s.noteDue_eq k]

/-- An event of class A leaves every record as outstanding as it was (R334 to R336). -/
theorem State.recordEvent_a_outstanding (s : State) {e : FaultEv} (ha : e.cls = .a) (k : Nat) :
    (vget (s.recordEvent e).fcl.hist k).outstanding = (vget s.fcl.hist k).outstanding := by
  have hmod : ∀ (t : State) (i : Nat) (f : HistRec → HistRec), (∀ r, (f r).outstanding = r.outstanding) →
      (vget (t.modHist i f).fcl.hist k).outstanding = (vget t.fcl.hist k).outstanding := fun t i f hf => by
    rw [State.modHist_get]
    split
    · exact hf _
    · rfl
  rcases s.recordEvent_cases e with ⟨i, -, -, -, heq⟩ | ⟨i, hfree, heq⟩ | ⟨-, u, hu, heq⟩
  · rw [heq]
    exact hmod _ _ _ fun _ => rfl
  · obtain ⟨hi, hout⟩ := State.freeHist_spec hfree
    rw [heq]
    by_cases hk : k = i
    · rw [hk, State.takeHist_get _ _ _ hi, hout, State.newRec, ha]
      rfl
    · rw [State.takeHist_get_ne _ _ hk]
  · have hmiss : (vget u.fcl.hist k).outstanding = (vget s.fcl.hist k).outstanding := by
      rcases hu with rfl | ⟨i, rfl⟩
      · rfl
      · exact hmod _ _ _ fun _ => rfl
    rcases heq with heq | heq <;> rw [heq]
    · exact hmiss
    · rw [State.noteDue_hist, hmiss]

/-- The history holds an event where one of its records is of that event. -/
theorem State.reported_of_same {s : State} {e : FaultEv} {i : Nat} (hi : i < 16) (h : (vget s.fcl.hist i).same e = true) :
    s.reported e.source e.code e.detail := by
  simp only [HistRec.same, Bool.and_eq_true, beq_iff_eq] at h
  obtain ⟨⟨⟨hvalid, hsource⟩, hcode⟩, hdetail⟩ := h
  exact ⟨i, hi, hvalid, hsource, hcode, hdetail⟩

theorem State.newRec_same (s : State) (e : FaultEv) : (s.newRec e).same e = true := by
  simp [State.newRec, HistRec.same]

/-- An event of class B or C that finds room stands as an outstanding record (R336). -/
theorem State.recordEvent_outstanding {s : State} (hroom : s.histRoom) {e : FaultEv} (ha : e.cls ≠ .a) :
    ∃ i, i < 16 ∧ (vget (s.recordEvent e).fcl.hist i).outstanding = true ∧ (vget (s.recordEvent e).fcl.hist i).same e = true := by
  rcases s.recordEvent_cases e with ⟨i, hi, hsame, hout, heq⟩ | ⟨i, hfree, heq⟩ | ⟨hfull, -⟩
  · refine ⟨i, hi, ?_⟩
    rw [heq, State.modHist_get, if_pos ⟨rfl, hi⟩]
    exact ⟨hout.resolve_left ha, hsame⟩
  · obtain ⟨hi, -⟩ := State.freeHist_spec hfree
    refine ⟨i, hi, ?_⟩
    rw [heq, State.takeHist_get _ _ _ hi]
    exact ⟨by simpa [State.newRec] using ha, s.newRec_same e⟩
  · rw [State.histRoom, hfull] at hroom
    exact absurd hroom (by decide)

end Sys2Proof.Machine
end

section
/-! What a fault event leaves of FCL's fields (R336, R339): it writes HEAD, and of the other words the counts LOST and DROPPED alone. -/

namespace Sys2Proof.Machine

/-- f stands in another register than f', or beside it in the same one. -/
def FieldRef.apart (f f' : FieldRef) : Prop :=
  f.reg.addr f.n f.k ≠ f'.reg.addr f'.n f'.k
    ∨ (f.reg = f'.reg ∧ f.n = f'.n ∧ f.k = f'.k ∧ f'.lo ≤ f'.hi + 1 ∧ f.hi < 32 ∧ (f.hi < f'.lo ∨ f'.hi < f.lo))

theorem State.g_p_apart (s : State) {f f' : FieldRef} (x : Nat) (h : f.apart f') : (s.p f' x).g f = s.g f := by
  rcases h with h | ⟨hreg, hn, hk, hlo, hhi, hdisj⟩
  · exact State.g_p_ne s x h
  · exact State.g_p_disj s x hreg hn hk hlo hhi hdisj

/-- The fields of FCL that say whether the kettle state holds, why, and which ring is FCL's. -/
def fclHeld : List FieldRef := [F.FCL_STAT_KETTLE, F.FCL_STAT_KSRC, F.FCL_STAT_KCODE, F.FCL_RINGCFG_EN, F.FCL_RINGCFG_RING]

/-- They are among FCL's registers, and apart from what an event writes there. -/
theorem fclHeld_spec {f : FieldRef} (hf : f ∈ fclHeld) : (0x100000 ≤ f.reg.addr f.n f.k ∧ f.reg.addr f.n f.k < 0x140000)
    ∧ f.apart F.FCL_RINGCFG_LOST ∧ f.apart F.FCL_STAT_DROPPED ∧ f.apart F.FCL_HEAD_NEWEST ∧ f.apart F.FCL_HEAD_NEXTSEQ := by
  simp only [fclHeld, List.mem_cons, List.not_mem_nil, or_false] at hf
  rcases hf with rfl | rfl | rfl | rfl | rfl <;>
    simp [FieldRef.apart, F.FCL_STAT_KETTLE, F.FCL_STAT_KSRC, F.FCL_STAT_KCODE, F.FCL_RINGCFG_EN, F.FCL_RINGCFG_RING, F.FCL_RINGCFG_LOST,
      F.FCL_STAT_DROPPED, F.FCL_HEAD_NEWEST, F.FCL_HEAD_NEXTSEQ]

section fields
variable (s : State) {f : FieldRef} (hf : 0x100000 ≤ f.reg.addr f.n f.k ∧ f.reg.addr f.n f.k < 0x140000)
include hf

/-- An entry on a ring leaves FCL's fields. -/
theorem State.ringPutC_g {q : Nat} (bs : List Nat) (hq : q < 128) : (s.ringPutC q bs).g f = s.g f := by
  rw [State.ringPutC, (State.count_obsOnly _ _ _ _).g f (by omega), State.ringPut, State.g_p_ne _ _ (by simp [F.TCE_QTAIL_INDEX]; omega)]
  rfl

theorem State.fclMark_g : s.fclMark.g f = s.g f := by
  unfold State.fclMark
  split
  · rw [State.ringPutC_g _ hf _ (s.g_lt F.FCL_RINGCFG_RING)]
    rfl
  · rfl

theorem State.fclPost_g (r : HistRec) (hlost : f.apart F.FCL_RINGCFG_LOST) : (s.fclPost r).g f = s.g f := by
  rw [← s.fclMark_g hf]
  unfold State.fclPost
  simp only []
  split
  · split
    · exact State.ringPutC_g _ hf _ (State.g_lt _ F.FCL_RINGCFG_RING)
    · rw [State.inc, State.g_p_apart _ _ hlost, (State.sawFull_obsOnly _ _).g f (by omega)]
  · rfl

/-- A new record leaves FCL's fields but HEAD and LOST. -/
theorem State.takeHist_g (i : Nat) (e : FaultEv) (hlost : f.apart F.FCL_RINGCFG_LOST) :
    (s.takeHist i e).g f = (((s.modHist i (fun _ => s.newRec e)).p F.FCL_HEAD_NEWEST i).incWrap F.FCL_HEAD_NEXTSEQ).g f := by
  unfold State.takeHist
  simp only []
  rw [(State.traceEv_obsOnly _ _ _ _ _).g f (by omega), (State.count_obsOnly _ _ _ _).g f (by omega), State.fclPost_g _ hf _ hlost]

end fields

/-- A new record is the newest, and the next one takes the next SEQ (R336). -/
theorem State.takeHist_head (s : State) {i : Nat} (e : FaultEv) (hi : i < 16) :
    (s.takeHist i e).g F.FCL_HEAD_NEWEST = i ∧ (s.takeHist i e).g F.FCL_HEAD_NEXTSEQ = (s.g F.FCL_HEAD_NEXTSEQ + 1) % 256 := by
  have hnewest : F.FCL_HEAD_NEWEST.apart F.FCL_HEAD_NEXTSEQ := by simp [FieldRef.apart, F.FCL_HEAD_NEWEST, F.FCL_HEAD_NEXTSEQ]
  have hnext : F.FCL_HEAD_NEXTSEQ.apart F.FCL_HEAD_NEWEST := by simp [FieldRef.apart, F.FCL_HEAD_NEWEST, F.FCL_HEAD_NEXTSEQ]
  constructor
  · rw [State.takeHist_g _ (by simp [F.FCL_HEAD_NEWEST]) _ _ (by simp [FieldRef.apart, F.FCL_HEAD_NEWEST, F.FCL_RINGCFG_LOST]), State.incWrap,
      State.g_p_apart _ _ hnewest, State.g_p_same _ _ _ (by decide) (by decide)]
    exact Nat.mod_eq_of_lt hi
  · rw [State.takeHist_g _ (by simp [F.FCL_HEAD_NEXTSEQ]) _ _ (by simp [FieldRef.apart, F.FCL_HEAD_NEXTSEQ, F.FCL_RINGCFG_LOST]), State.incWrap,
      State.g_p_same _ _ _ (by decide) (by decide), State.g_p_apart _ _ hnext]
    rfl

/-- No event changes whether the kettle state holds or which ring is FCL's: of kettle entry it notes the cause alone. -/
theorem State.recordEvent_g (s : State) (e : FaultEv) {f : FieldRef} (hf : f ∈ fclHeld) : (s.recordEvent e).g f = s.g f := by
  obtain ⟨hrange, hlost, hdropped, hnewest, hnext⟩ := fclHeld_spec hf
  rcases s.recordEvent_cases e with ⟨i, -, -, -, heq⟩ | ⟨i, -, heq⟩ | ⟨-, u, hu, heq⟩
  · rw [heq]; rfl
  · rw [heq, State.takeHist_g _ hrange _ _ hlost, State.incWrap, State.g_p_apart _ _ hnext, State.g_p_apart _ _ hnewest]
    rfl
  · have hmiss : u.g f = s.g f := by
      rw [← State.g_p_apart s _ hdropped]
      rcases hu with rfl | ⟨i, rfl⟩ <;> rfl
    rcases heq with heq | heq <;> rw [heq]
    · exact hmiss
    · rw [u.noteDue_eq]
      exact hmiss

theorem State.raiseEv_g (s : State) (e : FaultEv) {f : FieldRef} (hf : f ∈ fclHeld) : (s.raiseEv e).g f = s.g f := by
  rw [← s.recordEvent_g e hf, State.raiseEv]
  split
  · rw [State.noteDue_eq]
    rfl
  · rfl

end Sys2Proof.Machine
end

section
/-! What a kettle entry leaves (R343): with no folio in the path, the fault events that the gated units raise change neither the state just entered nor
the records that stand. -/

namespace Sys2Proof.Machine

/-- The record r stands as r', with more repeats or a further event joined to it. -/
def HistRec.stands (r r' : HistRec) : Prop := ∃ n b, r' = { r with repeats := n, secondary := b }

theorem HistRec.stands.refl (r : HistRec) : r.stands r := ⟨_, _, rfl⟩

theorem HistRec.stands.trans {r r' r'' : HistRec} (h : r.stands r') (h' : r'.stands r'') : r.stands r'' := by
  obtain ⟨n, b, rfl⟩ := h
  obtain ⟨n', b', rfl⟩ := h'
  exact ⟨n', b', rfl⟩

theorem HistRec.stands_again (r : HistRec) : r.stands r.again := ⟨_, _, rfl⟩

theorem HistRec.stands_joined (r : HistRec) : r.stands r.joined := ⟨_, _, rfl⟩

/-- A record that stands is still outstanding, still escalated, and still of the same events. -/
theorem HistRec.stands.spec {r r' : HistRec} (h : r.stands r') :
    r'.outstanding = r.outstanding ∧ r'.escalated = r.escalated ∧ ∀ e, r'.same e = r.same e := by
  obtain ⟨n, b, rfl⟩ := h
  exact ⟨rfl, rfl, fun _ => rfl⟩

/-- From s to t folios and time are the same, FCL's state is the same, and every outstanding record stands. -/
structure Undisturbed (s t : State) : Prop where
  folios : t.gath.folios = s.gath.folios
  now : t.now = s.now
  fields : ∀ f ∈ fclHeld, t.g f = s.g f
  records : ∀ k, (vget s.fcl.hist k).outstanding = true → (vget s.fcl.hist k).stands (vget t.fcl.hist k)

theorem Undisturbed.refl (s : State) : Undisturbed s s := ⟨rfl, rfl, fun _ _ => rfl, fun _ _ => HistRec.stands.refl _⟩

theorem Undisturbed.trans {s t u : State} (h : Undisturbed s t) (h' : Undisturbed t u) : Undisturbed s u := by
  refine ⟨h'.folios.trans h.folios, h'.now.trans h.now, fun f hf => (h'.fields f hf).trans (h.fields f hf), fun k hk => ?_⟩
  have hstands := h.records k hk
  exact hstands.trans (h'.records k (hstands.spec.1.trans hk))

theorem Undisturbed.pathClear {s t : State} (h : Undisturbed s t) (hp : s.pathClear) : t.pathClear := by
  intro f hf
  rw [h.now]
  exact hp f (h.folios ▸ hf)

/-- A state that differs in none of these. -/
theorem Undisturbed.same {s t u : State} (h : Undisturbed s t) (hfolios : u.gath.folios = t.gath.folios) (hcord : u.cord = t.cord)
    (hregs : u.regs = t.regs) (hhist : u.fcl.hist = t.fcl.hist) : Undisturbed s u := by
  refine h.trans ⟨hfolios, by rw [State.now, hcord]; rfl, fun f _ => ?_, fun k _ => ?_⟩
  · simp only [State.g, State.word, hregs]
  · rw [hhist]
    exact HistRec.stands.refl _

/-- A write of a register of a block above FCL. -/
theorem Undisturbed.setWord {s t : State} (h : Undisturbed s t) (r : Reg) (n k v : Nat) (hr : 0x140000 ≤ r.addr n k) :
    Undisturbed s (t.setWord r n k v) := by
  refine h.trans ⟨rfl, rfl, fun f hf => ?_, fun _ _ => HistRec.stands.refl _⟩
  obtain ⟨⟨-, hlt⟩, -⟩ := fclHeld_spec hf
  exact State.g_setWord_ne _ _ (by omega)

theorem Undisturbed.p {s t : State} (h : Undisturbed s t) (f : FieldRef) (x : Nat) (hf : 0x140000 ≤ f.reg.addr f.n f.k) :
    Undisturbed s (t.p f x) := h.setWord _ _ _ _ hf

/-- Observation. -/
theorem ObsOnly.undisturbed {s t : State} (h : ObsOnly s t) : Undisturbed s t := by
  refine ⟨by rw [h.same], by rw [h.same]; rfl, fun f hf => ?_, fun k _ => ?_⟩
  · obtain ⟨⟨-, hlt⟩, -⟩ := fclHeld_spec hf
    exact h.g f (by omega)
  · rw [h.due]
    exact HistRec.stands.refl _

theorem State.fixed_undisturbed (s : State) {i : Nat} (hi : i < 16) : Undisturbed s (s.fixed i) := (s.fixed_obsOnly i hi).undisturbed

theorem Undisturbed.traceEv {s t : State} (h : Undisturbed s t) (o c a d : Nat) : Undisturbed s (t.traceEv o c a d) :=
  h.trans (t.traceEv_obsOnly o c a d).undisturbed

theorem Undisturbed.modStr {s t : State} (h : Undisturbed s t) (k : Nat) (f : Str → Str) : Undisturbed s (t.modStr k f) := h.same rfl rfl rfl rfl

/-- A loop whose every turn leaves a clear path undisturbed. -/
theorem Undisturbed.forRange {s : State} (f : Nat → State → State) (hf : ∀ k t, t.pathClear → Undisturbed t (f k t)) (m c : Nat) (hp : s.pathClear) :
    Undisturbed s (forRange m c f s) := by
  induction c generalizing m s with
  | zero => exact Undisturbed.refl s
  | succ c ih => exact (hf m s hp).trans (ih (m + 1) ((hf m s hp).pathClear hp))

/-! ### Fault events -/

theorem HistRec.stands_modHist (s : State) (i k : Nat) {f : HistRec → HistRec} (hf : ∀ r : HistRec, r.stands (f r)) :
    (vget s.fcl.hist k).stands (vget (s.modHist i f).fcl.hist k) := by
  rw [State.modHist_get]
  split
  · exact hf _
  · exact HistRec.stands.refl _

/-- An event leaves every outstanding record standing (R334, R336). -/
theorem State.recordEvent_stands (s : State) (e : FaultEv) {k : Nat} (hk : (vget s.fcl.hist k).outstanding = true) :
    (vget s.fcl.hist k).stands (vget (s.recordEvent e).fcl.hist k) := by
  rcases s.recordEvent_cases e with ⟨i, -, -, -, heq⟩ | ⟨i, hfree, heq⟩ | ⟨-, u, hu, heq⟩
  · rw [heq]
    exact HistRec.stands_modHist s i k HistRec.stands_again
  · obtain ⟨-, hout⟩ := State.freeHist_spec hfree
    rw [heq, State.takeHist_get_ne _ _ fun hki => absurd (hki ▸ hk) (by simp [hout])]
    exact HistRec.stands.refl _
  · have hmiss : (vget s.fcl.hist k).stands (vget u.fcl.hist k) := by
      rcases hu with rfl | ⟨i, rfl⟩
      · exact HistRec.stands.refl _
      · exact HistRec.stands_modHist (s.inc F.FCL_STAT_DROPPED) i k HistRec.stands_joined
    rcases heq with heq | heq <;> rw [heq]
    · exact hmiss
    · rw [State.noteDue_hist]
      exact hmiss

theorem State.raiseEv_hist (s : State) (e : FaultEv) : (s.raiseEv e).fcl.hist = (s.recordEvent e).fcl.hist := by
  rw [State.raiseEv]
  split
  · rw [State.noteDue_hist]
  · rfl

theorem State.raiseEv_undisturbed (s : State) (e : FaultEv) : Undisturbed s (s.raiseEv e) := by
  have hsame : (s.raiseEv e).gath = s.gath ∧ (s.raiseEv e).cord = s.cord := by
    have hrec := (s.recordEvent_fclOnly e).same
    rw [State.raiseEv]
    split
    · rw [State.noteDue_eq, hrec]
      exact ⟨rfl, rfl⟩
    · rw [hrec]
      exact ⟨rfl, rfl⟩
  obtain ⟨hgath, hcord⟩ := hsame
  refine ⟨by rw [hgath], by rw [State.now, hcord]; rfl, fun f hf => s.raiseEv_g e hf, fun k hk => ?_⟩
  rw [State.raiseEv_hist]
  exact s.recordEvent_stands e hk

theorem State.raiseSpoil_undisturbed {s : State} (hp : s.pathClear) (source code detail : Nat) (cls : Cls) (p : Folio → Bool) (reason : Nat)
    (strands : Bool) : Undisturbed s (s.raiseSpoil source code detail cls p reason strands) := by
  have hraise := s.raiseEv_undisturbed ⟨source, code, detail, cls, reason, s.firstHit p strands, false⟩
  have hspoil : s.raiseSpoil source code detail cls p reason strands = s.raiseEv ⟨source, code, detail, cls, reason, s.firstHit p strands, false⟩ :=
    State.spoilWhere_clear (hraise.pathClear hp) p reason strands
  rw [hspoil]
  exact hraise

/-! ### The units that a kettle entry gates -/

theorem State.dark_undisturbed (s : State) (k : Nat) : Undisturbed s (s.dark k) := (Undisturbed.refl s).modStr _ _

theorem State.setScan_undisturbed (s : State) (k st : Nat) : Undisturbed s (s.setScan k st) := by
  have hstate := ((Undisturbed.refl s).p (F.STR_STAT_SCAN k) st (by simp [F.STR_STAT_SCAN]; omega)).traceEv (64 + k) 3 st 0
  have hdrive : ∀ (t : State) (x : Nat), Undisturbed s t → Undisturbed s (t.p (F.STR_DRIVE_LEVEL k) x) := fun t x h =>
    h.p _ _ (by simp [F.STR_DRIVE_LEVEL]; omega)
  have hdrawn : ∀ t : State, Undisturbed s t → Undisturbed s t.draw.2 := fun t h => h.same rfl rfl rfl rfl
  unfold State.setScan
  simp only []
  split
  · split
    · exact hdrive _ _ (hdrawn _ ((hstate.modStr _ _).modStr _ _))
    · exact hdrive _ _ ((hstate.modStr _ _).modStr _ _)
  · exact hstate.modStr _ _

theorem State.unlockOne_undisturbed {s : State} (hp : s.pathClear) (k st : Nat) : Undisturbed s (s.unlockOne k st) := by
  have hscan := s.setScan_undisturbed k st
  unfold State.unlockOne
  split
  · have hdark : Undisturbed s (if st = scCOAST then s.setScan k st else (s.setScan k st).dark k) := by
      split
      · exact hscan
      · exact hscan.trans (State.dark_undisturbed _ _)
    exact hdark.trans (State.raiseSpoil_undisturbed (hdark.pathClear hp) _ _ _ _ _ _ _)
  · exact hscan

theorem State.unlock_undisturbed {s : State} (hp : s.pathClear) (k st : Nat) : Undisturbed s (s.unlock k st) := by
  have hone := State.unlockOne_undisturbed hp k st
  unfold State.unlock
  simp only []
  split
  · have hspeed := hone.p (F.STR_SPEED_V 0) 0 (by simp [F.STR_SPEED_V])
    refine hspeed.trans (Undisturbed.forRange _ (fun n t ht => ?_) 0 4 (hspeed.pathClear hp))
    split
    · exact State.unlockOne_undisturbed ht _ _
    · exact Undisturbed.refl t
  · exact hone

theorem State.laserOff_undisturbed {s : State} (hp : s.pathClear) (k cause : Nat) : Undisturbed s (s.laserOff k cause) := by
  have hcause : Undisturbed s ((s.p (F.STR_STAT_LASER_DIS k) 1).p (F.STR_STAT_DISCAUSE k) cause) :=
    ((Undisturbed.refl s).p _ _ (by simp [F.STR_STAT_LASER_DIS]; omega)).p _ _ (by simp [F.STR_STAT_DISCAUSE]; omega)
  have hoff := (hcause.trans (State.dark_undisturbed _ k)).modStr k (fun x => { x with lanesOff := true, offDue := false })
  unfold State.laserOff
  simp only [Bool.false_and, Bool.false_eq_true, if_false]
  split
  · exact hoff
  · exact hoff.trans (State.unlock_undisturbed (hoff.pathClear hp) _ _)

theorem State.hvKettle_undisturbed (s : State) (k : Nat) : Undisturbed s (s.hvKettle k) := by
  have hnext : Undisturbed s { s with hv := vmod s.hv k (fun h => { h with next := none }) } := (Undisturbed.refl s).same rfl rfl rfl rfl
  unfold State.hvKettle
  refine ((((hnext.p _ _ ?_).p _ _ ?_).p _ _ ?_).setWord _ _ _ _ ?_).setWord _ _ _ _ ?_ <;>
    simp [F.HV_STAT_KETTLE, F.HV_STAT_BANK, F.HV_STAT_INBAND] <;> omega

theorem State.fusKettle_undisturbed (s : State) (f : Nat) : Undisturbed s (s.fusKettle f) := by
  unfold State.fusKettle
  refine (((Undisturbed.refl s).p _ _ ?_).p _ _ ?_).p _ _ ?_ <;> simp [F.FUS_STAT_KETTLE, F.FUS_STAT_DRIVE, F.FUS_STAT_FREQ] <;> omega

theorem State.setMotState_undisturbed (s : State) (n st : Nat) : Undisturbed s (s.setMotState n st) := by
  unfold State.setMotState
  refine ((((Undisturbed.refl s).p _ _ ?_).p _ _ ?_).traceEv _ _ _ _).same rfl rfl rfl rfl <;> simp [F.MOT_STAT_STATE, F.MOT_STAT_OVR] <;> omega

theorem State.motKettle_undisturbed (s : State) (n : Nat) : Undisturbed s (s.motKettle n) := by
  unfold State.motKettle
  simp only []
  split
  · exact Undisturbed.refl s
  · exact s.setMotState_undisturbed n mOFF

theorem State.stpKettle_undisturbed (s : State) (k : Nat) : Undisturbed s (s.stpKettle k) := by
  have hlost := (Undisturbed.refl s).p (F.STP_STAT_POSLOST k) 1 (by simp [F.STP_STAT_POSLOST]; omega)
  have hspeed : ∀ t : State, Undisturbed s t → Undisturbed s (t.p (F.STP_SPEED_V k) 0) := fun t h => h.p _ _ (by simp [F.STP_SPEED_V]; omega)
  unfold State.stpKettle
  split
  · exact Undisturbed.refl s
  · simp only []
    split
    · exact hspeed _ (hlost.same rfl rfl rfl rfl)
    · have hstate := (hlost.p (F.STP_STAT_STATE k) 0 (by simp [F.STP_STAT_STATE]; omega)).traceEv (90 + k) 5 0 0
      exact hspeed _ (hstate.same rfl rfl rfl rfl)

theorem State.flushStart_undisturbed (s : State) : Undisturbed s s.flushStart := by
  have hflushed : ∀ (t : State) (x : Nat), Undisturbed s t → Undisturbed s (t.p F.JRN_STAT_FLUSHED x) := fun t x h =>
    h.p _ _ (by simp [F.JRN_STAT_FLUSHED])
  have hbegun := hflushed s 0 (Undisturbed.refl s)
  unfold State.flushStart
  simp only []
  split
  · exact hbegun.same rfl rfl rfl rfl
  · exact hflushed _ 1 (hbegun.same rfl rfl rfl rfl)

/-- The kettle state holds for an event of this source and code (R343). -/
def State.kettledBy (t : State) (source code : Nat) : Prop :=
  t.on F.FCL_STAT_KETTLE = true ∧ t.g F.FCL_STAT_KSRC = source ∧ t.g F.FCL_STAT_KCODE = code

theorem Undisturbed.kettledBy {s t : State} (h : Undisturbed s t) {source code : Nat} (hs : s.kettledBy source code) : t.kettledBy source code := by
  obtain ⟨hon, hsrc, hcode⟩ := hs
  refine ⟨?_, (h.fields _ (by simp [fclHeld])).trans hsrc, (h.fields _ (by simp [fclHeld])).trans hcode⟩
  rw [State.on, h.fields _ (by simp [fclHeld])]
  exact hon

/-- The three fields of FCL.STAT that an entry writes. -/
theorem State.kettledBy_p (s : State) {source code : Nat} (hsrc : source < 256) (hcode : code < 256) :
    (((s.p F.FCL_STAT_KETTLE 1).p F.FCL_STAT_KSRC source).p F.FCL_STAT_KCODE code).kettledBy source code := by
  have h1 : F.FCL_STAT_KETTLE.apart F.FCL_STAT_KSRC := by simp [FieldRef.apart, F.FCL_STAT_KETTLE, F.FCL_STAT_KSRC]
  have h2 : F.FCL_STAT_KETTLE.apart F.FCL_STAT_KCODE := by simp [FieldRef.apart, F.FCL_STAT_KETTLE, F.FCL_STAT_KCODE]
  have h3 : F.FCL_STAT_KSRC.apart F.FCL_STAT_KCODE := by simp [FieldRef.apart, F.FCL_STAT_KSRC, F.FCL_STAT_KCODE]
  refine ⟨?_, ?_, ?_⟩
  · rw [State.on, State.g_p_apart _ _ h2, State.g_p_apart _ _ h1, State.g_p_same _ _ _ (by decide) (by decide)]
    rfl
  · rw [State.g_p_apart _ _ h3, State.g_p_same _ _ _ (by decide) (by decide)]
    exact Nat.mod_eq_of_lt hsrc
  · rw [State.g_p_same _ _ _ (by decide) (by decide)]
    exact Nat.mod_eq_of_lt hcode

/-- The first part of an entry: FCL shows its cause, and drives the pads (R343). -/
def State.kettleMarked (s : State) (c : KettleCause) : State :=
  let u := ((((s.p F.FCL_STAT_KETTLE 1).p F.FCL_STAT_KSRC c.source).p F.FCL_STAT_KCODE c.code).fixed 7).traceEv 0 0x0A 1
    (c.source % 256 * 256 + c.code % 256)
  { u with fcl := { u.fcl with kpadHeld := u.kpads, enteredAt := some u.now }, gath := { u.gath with runUntil := none } }

/-- The last part of an entry: every unit is gated, and the journal flush begins (R343). -/
def State.kettleGated (s : State) : State :=
  let s1 := forRange 0 (s.blockCount .STR) (fun k a => a.laserOff k 3) s
  let s2 := forRange 0 (s1.blockCount .HV) (fun k a => a.hvKettle k) s1
  let s3 := forRange 0 (s2.blockCount .FUS) (fun k a => a.fusKettle k) s2
  let s4 := forRange 0 (s3.blockCount .MOT) (fun k a => a.motKettle k) s3
  (forRange 0 (s4.blockCount .STP) (fun k a => a.stpKettle k) s4).flushStart

theorem State.kettleEnter_eq {s : State} (c : KettleCause) (hk : s.on F.FCL_STAT_KETTLE = false) :
    s.kettleEnter c = ((s.kettleMarked c).spoilWhere (fun _ => true) c.reason true).kettleGated := by
  unfold State.kettleEnter
  rw [if_neg (by simp [hk])]
  rfl

theorem State.kettleMarked_undisturbed (s : State) (c : KettleCause) :
    Undisturbed (((s.p F.FCL_STAT_KETTLE 1).p F.FCL_STAT_KSRC c.source).p F.FCL_STAT_KCODE c.code) (s.kettleMarked c) := by
  unfold State.kettleMarked
  exact ((State.fixed_undisturbed _ (by decide)).traceEv _ _ _ _).same rfl rfl rfl rfl

theorem State.kettleGated_undisturbed {s : State} (hp : s.pathClear) : Undisturbed s s.kettleGated := by
  have hloop : ∀ {t : State} {f : Nat → State → State} (c : Nat), (∀ k a, a.pathClear → Undisturbed a (f k a)) → Undisturbed s t →
      Undisturbed s (forRange 0 c f t) := fun c hf ht => ht.trans (Undisturbed.forRange _ hf 0 c (ht.pathClear hp))
  unfold State.kettleGated
  refine Undisturbed.trans (hloop _ (fun k a _ => a.stpKettle_undisturbed k) ?_) (State.flushStart_undisturbed _)
  refine hloop _ (fun k a _ => a.motKettle_undisturbed k) ?_
  refine hloop _ (fun k a _ => a.fusKettle_undisturbed k) ?_
  refine hloop _ (fun k a _ => a.hvKettle_undisturbed k) ?_
  exact hloop _ (fun k a ha => State.laserOff_undisturbed ha k 3) (Undisturbed.refl s)

/-- Entry into the kettle state with no folio in the path: FCL.STAT shows the cause, and every outstanding record stands (R343). -/
theorem State.kettleEnter_enters {s : State} {c : KettleCause} (hk : s.on F.FCL_STAT_KETTLE = false) (hp : s.pathClear) (hsrc : c.source < 256)
    (hcode : c.code < 256) : (s.kettleEnter c).kettledBy c.source c.code
      ∧ ∀ k, (vget s.fcl.hist k).outstanding = true → (vget s.fcl.hist k).stands (vget (s.kettleEnter c).fcl.hist k) := by
  have hmarked := s.kettleMarked_undisturbed c
  have hclear : (s.kettleMarked c).pathClear := hmarked.pathClear hp
  have hentered := hmarked.trans (State.kettleGated_undisturbed hclear)
  rw [State.kettleEnter_eq c hk, State.spoilWhere_clear hclear]
  exact ⟨hentered.kettledBy (s.kettledBy_p hsrc hcode), hentered.records⟩

theorem State.settleLost_undisturbed (s : State) : Undisturbed s s.settleLost := by
  unfold State.settleLost
  split
  · have hdone : Undisturbed s { s with obs := { s.obs with lostDue := false } } := (Undisturbed.refl s).same rfl rfl rfl rfl
    exact (hdone.trans (State.raiseEv_undisturbed _ _)).same rfl rfl rfl rfl
  · exact Undisturbed.refl s

/-- The end of a command that has caused a kettle entry (R335). -/
theorem State.settle_undisturbed {s : State} {c : KettleCause} (hdue : s.fcl.due = some c) :
    Undisturbed ({ s with fcl := { s.fcl with due := none } }.kettleEnter c) s.settle := by
  unfold State.settle State.settleDue
  simp only [hdue]
  generalize { s with fcl := { s.fcl with due := none } }.kettleEnter c = t
  have hdone : Undisturbed t { t with fcl := { t.fcl with due := none } } := (Undisturbed.refl t).same rfl rfl rfl rfl
  exact hdone.trans (State.settleLost_undisturbed _)

theorem State.settle_enters {s : State} {c : KettleCause} (hdue : s.fcl.due = some c) (hk : s.on F.FCL_STAT_KETTLE = false) (hp : s.pathClear)
    (hsrc : c.source < 256) (hcode : c.code < 256) : s.settle.kettledBy c.source c.code
      ∧ ∀ k, (vget s.fcl.hist k).outstanding = true → (vget s.fcl.hist k).stands (vget s.settle.fcl.hist k) := by
  obtain ⟨hby, hrec⟩ := State.kettleEnter_enters (s := { s with fcl := { s.fcl with due := none } }) hk hp hsrc hcode
  have hend := State.settle_undisturbed hdue
  exact ⟨hend.kettledBy hby, fun k hk => (hrec k hk).trans (hend.records k ((hrec k hk).spec.1.trans hk))⟩

end Sys2Proof.Machine
end

section
/-! The fault collector's commands in a plain state (R334 to R345): what each comes to, by way of the events that it raises. -/

namespace Sys2Proof.Machine

/-! ### No folio in the path -/

theorem oldestWhere_none {p : Folio → Bool} {l : List Folio} (h : ∀ f, f ∈ l → p f = false) : oldestWhere p l = none := by
  induction l with
  | nil => rfl
  | cons f l ih => simp [oldestWhere, ih fun g hg => h g (List.mem_cons_of_mem f hg), h f (List.mem_cons_self ..)]

theorem State.firstHit_clear {s : State} (hp : s.pathClear) (p : Folio → Bool) (strands : Bool) : s.firstHit p strands = none := by
  rw [State.firstHit, oldestWhere_none]
  · rfl
  · intro f hf
    obtain ⟨hin, harmed, -⟩ := hp f hf
    simp [State.spoilable, hin, harmed]

theorem State.oldestInPath_clear {s : State} (hp : s.pathClear) : s.oldestInPath = none := by
  rw [State.oldestInPath, oldestWhere_none fun f hf => (hp f hf).1]
  rfl

/-- The record that a new event makes when no folio is in the path (R334 to R338). -/
theorem State.newRec_clear {s : State} (hp : s.pathClear) {e : FaultEv} (hfolio : e.folio = none) :
    s.newRec e = { valid := true, outstanding := e.cls != .a, cls := e.cls, stamp := s.now, source := e.source, code := e.code, detail := e.detail,
                   epoch := s.g F.JRN_EPOCH_EPOCH, seq := s.g F.FCL_HEAD_NEXTSEQ, deadline := s.now + 250 * s.g F.FCL_CLASSB_TIMER,
                   reason := e.reason, forced := e.forced } := by
  simp [State.newRec, hfolio, State.oldestInPath_clear hp, usTicks, Nat.mul_comm]

/-- An event on a port's source spoils nothing. -/
theorem State.raisePort_clear {s : State} (hp : s.pathClear) {e : FaultEv} (hfolio : e.folio = none) : s.raisePort e = s.raiseEv e := by
  unfold State.raisePort
  split
  · rfl
  · have hself : ({ e with folio := none } : FaultEv) = e := by rw [← hfolio]
    simp only [hfolio, State.firstHit_clear hp, hself]
    exact State.spoilWhere_clear ((s.raiseEv_undisturbed e).pathClear hp) _ _ _

/-! ### How a command that raises an event ends -/

theorem FaultOnly.settled {s t : State} (h : FaultOnly s t) (hs : s.settled) (hdue : t.fcl.due = s.fcl.due) : t.settled := by
  obtain ⟨hnone, hlost⟩ := hs
  refine ⟨hdue.trans hnone, ?_⟩
  rw [h.same]
  exact hlost

/-- The command ends in t, which differs in what a fault event touches alone (R336, R339). -/
theorem FaultOnly.only {s t : State} (h : FaultOnly s t) : t = s.noted t ∧ s.regsKept t [(.FCL, 0), (.TCE, 0)] := ⟨h.noted, h.regsKept⟩

section plain
variable {s : State} (hs : s.plain)
include hs

/-- An event of class A or B is the command's whole effect. -/
theorem State.raiseEv_done {e : FaultEv} (hc : e.cls ≠ .c) : done (s.raiseEv e) = .next (s.recordEvent e) := by
  obtain ⟨⟨hset, hlevel⟩, hroom, -⟩ := hs
  rw [s.raiseEv_ne_c hc]
  exact done_settled ((State.recordEvent_faultOnly hlevel e).settled hset (State.recordEvent_due hroom e))

/-- An event that is new takes the entry free for it, with all that its record holds (R334 to R336). -/
theorem State.recordEvent_taken {e : FaultEv} {i : Nat} (hfree : s.freeHist = some i)
    (hnew : ∀ k, k < 16 → (vget s.fcl.hist k).outstanding = true → (vget s.fcl.hist k).same e = false)
    (hnewest : e.cls = .a → (vget s.fcl.hist (s.g F.FCL_HEAD_NEWEST)).same e = false) :
    (vget (s.recordEvent e).fcl.hist i = s.newRec e ∧ (∀ k, k ≠ i → vget (s.recordEvent e).fcl.hist k = vget s.fcl.hist k)
      ∧ (s.recordEvent e).g F.FCL_HEAD_NEWEST = i ∧ (s.recordEvent e).g F.FCL_HEAD_NEXTSEQ = (s.g F.FCL_HEAD_NEXTSEQ + 1) % 256)
    ∧ s.recordEvent e = s.noted (s.recordEvent e) ∧ s.regsKept (s.recordEvent e) [(.FCL, 0), (.TCE, 0)] := by
  obtain ⟨⟨-, hlevel⟩, -⟩ := hs
  obtain ⟨hi, -⟩ := State.freeHist_spec hfree
  refine ⟨?_, (State.recordEvent_faultOnly hlevel e).only⟩
  rw [State.recordEvent_new hfree hnew hnewest]
  exact ⟨s.takeHist_get i e hi, fun k hk => s.takeHist_get_ne e hk, s.takeHist_head e hi⟩

/-- An event of class A, which refuses a command: it is reported, FCL's state stays, and every record stays as outstanding as it was. -/
theorem State.raise_a_done (source code detail reason : Nat) :
    done (s.raise source code detail .a reason) = .next (s.raise source code detail .a reason)
    ∧ (s.raise source code detail .a reason).reported source code detail ∧ (∀ f ∈ fclHeld, (s.raise source code detail .a reason).g f = s.g f)
    ∧ (∀ k, (vget (s.raise source code detail .a reason).fcl.hist k).outstanding = (vget s.fcl.hist k).outstanding)
    ∧ s.raise source code detail .a reason = s.noted (s.raise source code detail .a reason)
    ∧ s.regsKept (s.raise source code detail .a reason) [(.FCL, 0), (.TCE, 0)] := by
  obtain ⟨hcalm, hroom, -⟩ := hs
  obtain ⟨hcalm', hrep, honly⟩ := State.raise_calm hcalm hroom source code detail .a (by decide) reason none
  refine ⟨done_settled hcalm'.1, hrep, fun f hf => s.raiseEv_g _ hf, fun k => ?_, honly.only⟩
  rw [State.raise, State.raiseEv_hist]
  exact s.recordEvent_a_outstanding rfl k

/-- An event of class C enters the kettle state, and is reported (R334, R335). -/
theorem State.raiseEv_c_enters (hk : s.on F.FCL_STAT_KETTLE = false) {e : FaultEv} (hc : e.cls = .c) (hsrc : e.source < 256) (hcode : e.code < 256) :
    (s.raiseEv e).settle.kettledBy e.source e.code ∧ (s.raiseEv e).settle.reported e.source e.code e.detail := by
  obtain ⟨⟨⟨hnone, -⟩, -⟩, hroom, hp⟩ := hs
  have hund := s.raiseEv_undisturbed e
  have hoff : ∀ t : State, (∀ f ∈ fclHeld, t.g f = s.g f) → t.on F.FCL_STAT_KETTLE = false := fun t ht => by
    rw [State.on, ht _ (by simp [fclHeld])]
    exact hk
  have hdue : (s.raiseEv e).fcl.due = some ⟨e.source, e.code, e.reason⟩ := by
    have hnodue : (s.recordEvent e).fcl.due = none := (State.recordEvent_due hroom e).trans hnone
    rw [State.raiseEv, if_pos (by simp [hc]), State.noteDue, if_neg (by simp [hoff _ fun f hf => s.recordEvent_g e hf])]
    simp only [hnodue]
  obtain ⟨hby, hrec⟩ := State.settle_enters hdue (hoff _ hund.fields) (hund.pathClear hp) hsrc hcode
  obtain ⟨i, hi, hout, hsame⟩ := State.recordEvent_outstanding hroom (e := e) (by simp [hc])
  rw [← s.raiseEv_hist e] at hout hsame
  obtain ⟨-, -, hsame'⟩ := (hrec i hout).spec
  exact ⟨hby, State.reported_of_same hi ((hsame' e).trans hsame)⟩

/-! ### FAULT_EVENT and FORCE (R334, R340) -/

theorem execFaultEvent_eq {source code detail reason : Nat} (cls : Cls) (folios : List (Nat × Nat)) (hex : s.sourceExists source = true)
    (hcode : code < 256) (hdetail : detail < 256) (hlo : 1 ≤ reason) (hhi : reason ≤ 0x0C) :
    exec (.faultEvent source code detail cls reason folios) s = done (s.raiseEv ⟨source, code, detail, cls, reason, none, false⟩) := by
  obtain ⟨-, -, hp⟩ := hs
  show execFaultEvent source code detail cls reason folios s = _
  unfold execFaultEvent
  rw [if_pos (by simp [hex, hcode, hdetail, hlo, hhi])]
  simp only [State.firstHit_clear hp]
  rw [State.raisePort_clear hp rfl, State.spoilWhere_clear ((s.raiseEv_undisturbed _).pathClear hp)]

end plain

/-- A requester that takes part reaches its register (R2, R26, R283). -/
theorem State.gate_present {s : State} {q : Requester} (hq : s.present q) (o : Host.Outcome State Fault Refusal) : s.gate q o = o := by
  have hopen : s.shut q = false := by
    cases q with
    | core i =>
      obtain ⟨hsyn, hcore⟩ := hq
      simp [State.shut, hcore, show s.g (F.SYN_STAT_STATE 0) ≠ 0 from hsyn]
    | host n =>
      obtain ⟨hsyn, hhost, hstage⟩ := hq
      simp [State.shut, hhost, show s.g (F.SYN_STAT_STATE 0) ≠ 0 from hsyn]
      exact hstage
    | dma => exact hq.2.elim
    | hw => exact hq.2.elim
  rw [State.gate, hopen]
  rfl

theorem bit_two_pow (m j : Nat) : bit (2 ^ m) j = decide (m = j) := by rw [bit_eq_testBit, Nat.testBit_two_pow]

/-- A loop of which a single turn does anything. -/
theorem forRange_single {f : Nat → State → State} {i : Nat} (hf : ∀ k s, k ≠ i → f k s = s) {m c : Nat} (hm : m ≤ i) (hc : i < m + c) (s : State) :
    forRange m c f s = f i s := by
  have hidle : ∀ c m t, i < m → forRange m c f t = t := fun c => by
    induction c with
    | zero => exact fun _ _ _ => rfl
    | succ c ih => exact fun m t h => by rw [forRange, hf m t (by omega), ih _ _ (by omega)]
  induction c generalizing m s with
  | zero => omega
  | succ c ih =>
    rw [forRange]
    by_cases h : m = i
    · rw [hidle _ _ _ (by omega), h]
    · rw [hf m s h, ih (by omega) (by omega)]

/-- A write of one bit of FCL.FORCE forces its source (R340). -/
theorem execFclForce_eq {s : State} {q : Requester} {x : Nat} (hq : s.present q) (hx : x < 192) :
    exec (.fclForce q (x / 32) (2 ^ (x % 32))) s = done (s.forceOne q x) := by
  show execFclForce q (x / 32) (2 ^ (x % 32)) s = _
  have hother : ∀ (k : Nat) (t : State), k ≠ x % 32 → (if bit (2 ^ (x % 32)) k then t.forceOne q (32 * (x / 32) + k) else t) = t := fun k t hk => by
    rw [bit_two_pow, if_neg (by simpa using fun h => hk h.symm)]
  rw [execFclForce, State.gate_present hq, if_pos (by omega), State.forceWrite, forRange_single hother (Nat.zero_le _) (by omega), bit_two_pow,
    if_pos (by simp), Nat.div_add_mod]

/-- The event that forcing a source raises (R340). -/
def State.forcedEvent (s : State) (q : Requester) (x : Nat) : FaultEv :=
  if 128 ≤ x then
    ⟨x, s.g (F.FCL_SRCCFG_CODE (x - 128)), q.detail, Cls.ofCode (s.g (F.FCL_SRCCFG_CLASS (x - 128))), s.g (F.FCL_SRCCFG_REASON (x - 128)), none,
      false⟩
  else ⟨x, cFORCED, q.detail, Cls.ofCode (s.g F.FCL_CTRL_FCLASS), s.g F.FCL_CTRL_FREASON, none, true⟩

theorem State.forceOne_clear {s : State} (hp : s.pathClear) (q : Requester) {x : Nat} (hex : s.sourceExists x = true) :
    s.forceOne q x = s.raiseEv (s.forcedEvent q x) := by
  unfold State.forceOne State.forcedEvent
  rw [if_neg (by simp [hex])]
  split <;> exact State.raisePort_clear hp rfl

/-- Its fields, as the source is firmware's or another. -/
theorem State.forcedEvent_eq (s : State) (q : Requester) {x code reason : Nat} {cls : Cls}
    (h : (128 ≤ x ∧ code = s.g (F.FCL_SRCCFG_CODE (x - 128)) ∧ cls = Cls.ofCode (s.g (F.FCL_SRCCFG_CLASS (x - 128)))
          ∧ reason = s.g (F.FCL_SRCCFG_REASON (x - 128)))
      ∨ (x < 128 ∧ code = 0xFF ∧ cls = Cls.ofCode (s.g F.FCL_CTRL_FCLASS) ∧ reason = s.g F.FCL_CTRL_FREASON)) :
    s.forcedEvent q x = ⟨x, code, q.detail, cls, reason, none, decide (x < 128)⟩ := by
  rcases h with ⟨hx, rfl, rfl, rfl⟩ | ⟨hx, rfl, rfl, rfl⟩
  · rw [State.forcedEvent, if_pos hx, decide_eq_false (by omega)]
  · rw [State.forcedEvent, if_neg (by omega), decide_eq_true hx]
    rfl

/-- Every firmware source exists (R331). -/
theorem State.sourceExists_firmware (s : State) {x : Nat} (hlo : 128 ≤ x) (hhi : x < 192) : s.sourceExists x = true := by
  unfold State.sourceExists
  repeat rw [if_neg (by omega)]
  simp [hlo, hhi]

/-- No other source is above them. -/
theorem State.sourceExists_lt {s : State} {x : Nat} (h : s.sourceExists x = true) : x < 192 := by
  refine Decidable.byContradiction fun hx => ?_
  unfold State.sourceExists at h
  repeat rw [if_neg (by omega)] at h
  simp only [Bool.and_eq_true, decide_eq_true_eq] at h
  omega

end Sys2Proof.Machine
end

section
/-! Deadlines, acknowledgements, the ring, the copies and LEAVE (R335, R337, R339, R341, R345), in a plain state. -/

namespace Sys2Proof.Machine

theorem State.modHist_get_same (s : State) {i : Nat} (f : HistRec → HistRec) (hi : i < 16) :
    vget (s.modHist i f).fcl.hist i = f (vget s.fcl.hist i) := by
  rw [State.modHist_get, if_pos ⟨rfl, hi⟩]

theorem State.modHist_get_ne (s : State) {i k : Nat} (f : HistRec → HistRec) (hk : k ≠ i) : vget (s.modHist i f).fcl.hist k = vget s.fcl.hist k := by
  rw [State.modHist_get, if_neg fun h => hk h.1.symm]

/-! ### The deadline and the acknowledgement of a class-B record (R335, R337) -/

section overdue
variable {s : State} {k : Nat} (hout : (vget s.fcl.hist k).outstanding = true) (hb : (vget s.fcl.hist k).cls = .b)
  (hesc : (vget s.fcl.hist k).escalated = false) (hdl : (vget s.fcl.hist k).deadline ≤ s.now)
include hout hb hesc hdl

/-- At its deadline a record becomes ESCALATED, and is a cause of kettle entry (R335). -/
theorem State.escalate_overdue : s.escalate k = (s.modHist k (fun x => { x with escalated := true })).noteDue
    ⟨(vget s.fcl.hist k).source, (vget s.fcl.hist k).code, (vget s.fcl.hist k).reason⟩ := by
  unfold State.escalate
  simp only []
  rw [if_pos (by simp [hout, hb, hesc, hdl])]

/-- The cause stands as the one that is due, FCL's state is as before, and the record is ESCALATED and outstanding. -/
theorem State.escalate_spec (hset : s.settled) (hk : s.on F.FCL_STAT_KETTLE = false) (hlt : k < 16) :
    s.escalate k = { s with fcl := (s.escalate k).fcl }
      ∧ (s.escalate k).fcl.due = some ⟨(vget s.fcl.hist k).source, (vget s.fcl.hist k).code, (vget s.fcl.hist k).reason⟩
      ∧ vget (s.escalate k).fcl.hist k = { vget s.fcl.hist k with escalated := true } := by
  obtain ⟨hnone, -⟩ := hset
  have hoff : (s.modHist k (fun x => { x with escalated := true })).on F.FCL_STAT_KETTLE = false := hk
  have hnodue : (s.modHist k (fun x => { x with escalated := true })).fcl.due = none := hnone
  rw [State.escalate_overdue hout hb hesc hdl]
  refine ⟨?_, ?_, ?_⟩
  · rw [State.noteDue_eq]
    rfl
  · rw [State.noteDue, if_neg (by simp [hoff])]
    simp only [hnodue]
  · rw [State.noteDue_hist, State.modHist_get_same _ _ hlt]

end overdue

/-- CLASSB_DEADLINE of a record that is due (R335). -/
theorem classbDeadline_enters {s : State} (hs : s.plain) {k : Nat} (hlt : k < 16) (hout : (vget s.fcl.hist k).outstanding = true)
    (hb : (vget s.fcl.hist k).cls = .b) (hesc : (vget s.fcl.hist k).escalated = false) (hdl : (vget s.fcl.hist k).deadline ≤ s.now)
    (hsrc : (vget s.fcl.hist k).source < 256) (hcode : (vget s.fcl.hist k).code < 256) (hk : s.on F.FCL_STAT_KETTLE = false) :
    Runs (.classbDeadline k) s (fun t => t.kettledBy (vget s.fcl.hist k).source (vget s.fcl.hist k).code
      ∧ (vget t.fcl.hist k).escalated = true ∧ (vget t.fcl.hist k).outstanding = true) := by
  obtain ⟨⟨hset, -⟩, -, hp⟩ := hs
  obtain ⟨hsame, hdue, hrec⟩ := State.escalate_spec hout hb hesc hdl hset hk hlt
  obtain ⟨hby, hstands⟩ := State.settle_enters hdue (by rw [hsame]; exact hk) (by rw [hsame]; exact hp) hsrc hcode
  refine Runs.of (show execClassbDeadline k s = .next (s.escalate k).settle from if_pos hlt) ⟨hby, ?_⟩
  obtain ⟨hout', hesc', -⟩ := (hstands k (by rw [hrec]; exact hout)).spec
  rw [hesc', hout', hrec]
  exact ⟨rfl, hout⟩

theorem execFclAck_eq (s : State) {k : Nat} (hlt : k < 16) (seq : Nat) : exec (.fclAck k seq) s = done (s.ack k (seq % 256)) := by
  show execFclAck k seq s = _
  rw [execFclAck, Nat.mod_eq_of_lt hlt]

section ack
variable {s : State} {k : Nat} (hs : s.plain) (hlt : k < 16)
include hs hlt

/-- An acknowledgement of a record that no deadline has overtaken ends its outstanding state (R337). -/
theorem fclAck_ends {seq : Nat} (hout : (vget s.fcl.hist k).outstanding = true) (hseq : (vget s.fcl.hist k).seq % 256 = seq % 256)
    (hearly : (vget s.fcl.hist k).cls ≠ .b ∨ (vget s.fcl.hist k).escalated = true ∨ s.now < (vget s.fcl.hist k).deadline) :
    exec (.fclAck k seq) s = .next (s.modHist k (fun x => { x with outstanding := false })) := by
  obtain ⟨⟨hset, -⟩, -⟩ := hs
  have hnot : s.escalate k = s := by
    unfold State.escalate
    refine if_neg fun h => ?_
    simp only [Bool.and_eq_true, decide_eq_true_eq, Bool.not_eq_true'] at h
    obtain ⟨⟨⟨-, hb⟩, hesc⟩, hdl⟩ := h
    rcases hearly with h | h | h
    · exact h hb
    · rw [hesc] at h
      exact absurd h (by decide)
    · omega
  rw [execFclAck_eq s hlt, State.ack, if_pos (by simp [hout, hseq]), hnot]
  exact done_settled hset

/-- One that comes at the deadline or after finds the record escalated: the kettle state is entered for it (R335, R337). -/
theorem fclAck_overdue {seq : Nat} (hout : (vget s.fcl.hist k).outstanding = true) (hseq : (vget s.fcl.hist k).seq % 256 = seq % 256)
    (hb : (vget s.fcl.hist k).cls = .b) (hesc : (vget s.fcl.hist k).escalated = false) (hdl : (vget s.fcl.hist k).deadline ≤ s.now)
    (hsrc : (vget s.fcl.hist k).source < 256) (hcode : (vget s.fcl.hist k).code < 256) (hk : s.on F.FCL_STAT_KETTLE = false) :
    Runs (.fclAck k seq) s (fun t => t.kettledBy (vget s.fcl.hist k).source (vget s.fcl.hist k).code) := by
  obtain ⟨⟨hset, -⟩, -, hp⟩ := hs
  obtain ⟨hsame, hdue, -⟩ := State.escalate_spec hout hb hesc hdl hset hk hlt
  have hoff : ((s.escalate k).modHist k (fun x => { x with outstanding := false })).on F.FCL_STAT_KETTLE = false := by rw [hsame]; exact hk
  have hclear : ((s.escalate k).modHist k (fun x => { x with outstanding := false })).pathClear := by rw [hsame]; exact hp
  obtain ⟨hby, -⟩ := State.settle_enters (s := (s.escalate k).modHist k (fun x => { x with outstanding := false })) hdue hoff hclear hsrc hcode
  refine ⟨_, ?_, hby⟩
  rw [execFclAck_eq s hlt, State.ack, if_pos (by simp [hout, hseq])]
  rfl

/-- One that names a record that is not outstanding, or carries another SEQ, is refused with FCL_REFUSED (R337). -/
theorem fclAck_refused {seq : Nat} (hbad : (vget s.fcl.hist k).outstanding = false ∨ (vget s.fcl.hist k).seq % 256 ≠ seq % 256) :
    Runs (.fclAck k seq) s (fun t => t.reported 0 3 1 ∧ (vget t.fcl.hist k).outstanding = (vget s.fcl.hist k).outstanding
      ∧ t = s.noted t ∧ s.regsKept t [(.FCL, 0), (.TCE, 0)]) := by
  obtain ⟨hdone, hrep, -, hout, honly⟩ := State.raise_a_done hs 0 3 1 1
  refine ⟨_, ?_, hrep, hout k, honly⟩
  rw [execFclAck_eq s hlt, State.ack, if_neg ?_, hdone]
  rcases hbad with h | h <;> simp [h]

end ack

/-! ### The ring (R339) -/

/-- RINGCFG with EN and RING written, before a mark that is due is posted. -/
def State.ringcfgSet (s : State) (v : Nat) : State := (s.p F.FCL_RINGCFG_EN (bits v 31 31)).p F.FCL_RINGCFG_RING (bits v 22 16)

theorem State.ringcfgSet_g (s : State) (v : Nat) : (s.ringcfgSet v).g F.FCL_RINGCFG_EN = bits v 31 31
    ∧ (s.ringcfgSet v).g F.FCL_RINGCFG_RING = bits v 22 16 ∧ (s.ringcfgSet v).g F.FCL_RINGCFG_LOST = s.g F.FCL_RINGCFG_LOST := by
  have hen : F.FCL_RINGCFG_EN.apart F.FCL_RINGCFG_RING := by simp [FieldRef.apart, F.FCL_RINGCFG_EN, F.FCL_RINGCFG_RING]
  have hlost : F.FCL_RINGCFG_LOST.apart F.FCL_RINGCFG_RING := by simp [FieldRef.apart, F.FCL_RINGCFG_LOST, F.FCL_RINGCFG_RING]
  have hlost' : F.FCL_RINGCFG_LOST.apart F.FCL_RINGCFG_EN := by simp [FieldRef.apart, F.FCL_RINGCFG_LOST, F.FCL_RINGCFG_EN]
  unfold State.ringcfgSet
  refine ⟨?_, ?_, ?_⟩
  · rw [State.g_p_apart _ _ hen, State.g_p_same _ _ _ (by decide) (by decide)]
    exact Nat.mod_eq_of_lt (bits_lt _ _ _)
  · rw [State.g_p_same _ _ _ (by decide) (by decide)]
    exact Nat.mod_eq_of_lt (bits_lt _ _ _)
  · rw [State.g_p_apart _ _ hlost, State.g_p_apart _ _ hlost']

theorem bit_eq_bits (v i : Nat) : bit v i = (bits v i i != 0) := by
  rw [bit, bits, Nat.add_sub_cancel_left, Nat.pow_one]
  rcases Nat.mod_two_eq_zero_or_one (v >>> i) with h | h <;> rw [h] <;> rfl

theorem State.ringcfgSet_on (s : State) (v : Nat) : (s.ringcfgSet v).on F.FCL_RINGCFG_EN = bit v 31 := by
  rw [State.on, (s.ringcfgSet_g v).1, bit_eq_bits]

theorem State.ringcfgSet_faultOnly (s : State) (v : Nat) : FaultOnly s (s.ringcfgSet v) := by
  refine ((FaultOnly.refl s).p _ _ ?_).p _ _ ?_ <;> simp [F.FCL_RINGCFG_EN, F.FCL_RINGCFG_RING]

theorem State.ringcfgSet_regsKept (s : State) (v : Nat) : s.regsKept (s.ringcfgSet v) [(.FCL, 0)] := by
  refine State.regsKept_trans (State.regsKept_p s _ (b := .FCL) (m := 0) (by simp) ?_) (State.regsKept_p _ _ (b := .FCL) (m := 0) (by simp) ?_) <;>
    simp [F.FCL_RINGCFG_EN, F.FCL_RINGCFG_RING, Block.base]

/-- A field of a ring's configuration is no field of RINGCFG. -/
theorem State.ringcfgSet_tce (s : State) (v : Nat) {f : FieldRef} (hf : f.reg.addr f.n f.k < 0x100000) : (s.ringcfgSet v).g f = s.g f := by
  unfold State.ringcfgSet
  rw [State.g_p_ne _ _ (by simp [F.FCL_RINGCFG_RING]; omega), State.g_p_ne _ _ (by simp [F.FCL_RINGCFG_EN]; omega)]

theorem State.fclMark_idle {s : State} (h : s.fcl.markDue = false ∨ s.on F.FCL_RINGCFG_EN = false) : s.fclMark = s := by
  unfold State.fclMark
  rcases h with h | h <;> simp [h]

/-- A mark that is due is posted where FCL's ring can take it (R339). -/
theorem State.fclMark_posts {s : State} {ring : Nat} (hl : s.obsLevel = 0) (hring : s.g F.FCL_RINGCFG_RING = ring) (hdue : s.fcl.markDue = true)
    (hen : s.on F.FCL_RINGCFG_EN = true) (hpost : s.canPost ring 6 = true) :
    s.fclMark.fcl.markDue = false ∧ s.fclMark.qtail ring = (s.qtail ring + 1) % s.ringLen ring % 4096 := by
  have hlevel : (({ s with fcl := { s.fcl with markDue := false } } : State).ringPut ring s.markBytes).obsLevel = 0 := by
    rw [(State.ringPut_faultOnly _ _ _ (hring ▸ s.g_lt F.FCL_RINGCFG_RING)).obsLevel]
    exact hl
  unfold State.fclMark
  rw [hring, if_pos (by simp [hdue, hen, hpost]), State.ringPutC_off _ _ hlevel]
  refine ⟨rfl, ?_⟩
  rw [State.ringPut, State.qtail, State.g_p_same _ _ _ (by simp [F.TCE_QTAIL_INDEX]) (by simp [F.TCE_QTAIL_INDEX])]
  rfl

theorem execRingcfgWrite_eq {s : State} {q : Requester} (hq : s.present q) (v : Nat) : exec (.ringcfgWrite q v) s = done (s.ringcfgWrite q v) :=
  State.gate_present hq _

section ringcfg
variable {s : State} (hs : s.plain)
include hs

/-- A write that RINGCFG takes: EN and RING, and the mark that is due (R339). -/
theorem ringcfgWrite_sets {q : Requester} (hq : s.present q) {v : Nat} (hlo : 96 ≤ bits v 22 16) (hhi : bits v 22 16 ≤ 111)
    (hok : bit v 31 = false ∨ ¬(s.on F.FCL_RINGCFG_EN = false ∨ bits v 22 16 ≠ s.g F.FCL_RINGCFG_RING)
      ∨ (s.ringEn (bits v 22 16) = true ∧ s.g (F.TCE_QCFG_PROD (bits v 22 16)) = 6)) :
    exec (.ringcfgWrite q v) s = .next (s.ringcfgSet v).fclMark := by
  obtain ⟨⟨hset, hlevel⟩, -⟩ := hs
  have hset' := s.ringcfgSet_faultOnly v
  have hmark := hset'.trans (State.fclMark_faultOnly (hset'.obsLevel.trans hlevel))
  have hwrite : s.ringcfgWrite q v = (s.ringcfgSet v).fclMark := by
    unfold State.ringcfgWrite
    simp only []
    rw [if_neg (by simp; omega), if_neg ?_]
    · rfl
    · simp only [Bool.and_eq_true, Bool.or_eq_true, Bool.not_eq_true', Bool.and_eq_false_iff, bne_iff_ne, beq_eq_false_iff_ne]
      rintro ⟨⟨hen, hchanges⟩, hits⟩
      rcases hok with h | h | ⟨h, h'⟩
      · rw [h] at hen
        exact absurd hen (by decide)
      · exact h hchanges
      · rcases hits with hits | hits
        · rw [h] at hits
          exact absurd hits (by decide)
        · exact hits h'
  rw [execRingcfgWrite_eq hq, hwrite]
  exact done_settled (hmark.settled hset (State.fclMark_due _))

/-- What RINGCFG then shows, and what else the write changes. -/
theorem State.ringcfgSet_marked (v : Nat) :
    ((s.ringcfgSet v).fclMark.g F.FCL_RINGCFG_EN = bits v 31 31 ∧ (s.ringcfgSet v).fclMark.g F.FCL_RINGCFG_RING = bits v 22 16
      ∧ (s.ringcfgSet v).fclMark.g F.FCL_RINGCFG_LOST = s.g F.FCL_RINGCFG_LOST)
    ∧ (s.ringcfgSet v).fclMark = s.noted (s.ringcfgSet v).fclMark ∧ s.regsKept (s.ringcfgSet v).fclMark [(.FCL, 0), (.TCE, 0)] := by
  obtain ⟨⟨-, hlevel⟩, -⟩ := hs
  have hset := s.ringcfgSet_faultOnly v
  obtain ⟨hen, hring, hlost⟩ := s.ringcfgSet_g v
  refine ⟨⟨?_, ?_, ?_⟩, (hset.trans (State.fclMark_faultOnly (hset.obsLevel.trans hlevel))).only⟩
  · rw [State.fclMark_g _ (by simp [F.FCL_RINGCFG_EN]), hen]
  · rw [State.fclMark_g _ (by simp [F.FCL_RINGCFG_RING]), hring]
  · rw [State.fclMark_g _ (by simp [F.FCL_RINGCFG_LOST]), hlost]

/-- The mark that is due is posted on the ring just set, where it can take it (R339). -/
theorem State.ringcfgSet_posts {v : Nat} (hdue : s.fcl.markDue = true) (hbit : bit v 31 = true) (hpost : s.canPost (bits v 22 16) 6 = true) :
    (s.ringcfgSet v).fclMark.fcl.markDue = false
      ∧ (s.ringcfgSet v).fclMark.qtail (bits v 22 16) = (s.qtail (bits v 22 16) + 1) % s.ringLen (bits v 22 16) % 4096 := by
  obtain ⟨⟨-, hlevel⟩, -⟩ := hs
  have hring : bits v 22 16 < 128 := bits_lt _ _ _
  have hsame : ∀ f ∈ [F.TCE_QCFG_EN (bits v 22 16), F.TCE_QCFG_PROD (bits v 22 16), F.TCE_QCFG_LOG2N (bits v 22 16), F.TCE_QHEAD_INDEX (bits v 22 16),
      F.TCE_QTAIL_INDEX (bits v 22 16)], (s.ringcfgSet v).g f = s.g f := fun f hf => s.ringcfgSet_tce v (by
    simp only [List.mem_cons, List.not_mem_nil, or_false] at hf
    rcases hf with rfl | rfl | rfl | rfl | rfl <;>
      simp [F.TCE_QCFG_EN, F.TCE_QCFG_PROD, F.TCE_QCFG_LOG2N, F.TCE_QHEAD_INDEX, F.TCE_QTAIL_INDEX] <;> omega)
  have hlen : (s.ringcfgSet v).ringLen (bits v 22 16) = s.ringLen (bits v 22 16) := by rw [State.ringLen, hsame _ (by simp), ← State.ringLen]
  have htail : (s.ringcfgSet v).qtail (bits v 22 16) = s.qtail (bits v 22 16) := hsame _ (by simp)
  have hhead : (s.ringcfgSet v).qhead (bits v 22 16) = s.qhead (bits v 22 16) := hsame _ (by simp)
  have hen : (s.ringcfgSet v).ringEn (bits v 22 16) = s.ringEn (bits v 22 16) := by
    rw [State.ringEn, State.on, hsame _ (by simp), ← State.on, ← State.ringEn]
  rw [← htail, ← hlen]
  obtain ⟨-, hshown, -⟩ := s.ringcfgSet_g v
  refine State.fclMark_posts ((s.ringcfgSet_faultOnly v).obsLevel.trans hlevel) hshown hdue ((s.ringcfgSet_on v).trans hbit) ?_
  rw [State.canPost, State.ringFull, hen, htail, hlen, hhead, hsame _ (by simp)]
  exact hpost

/-- A refused write leaves RINGCFG as it was (R339). -/
theorem ringcfgWrite_refused {q : Requester} (hq : s.present q) {v code : Nat} (h : s.ringcfgWrite q v = s.unitFault .FCL 0 q code) :
    Runs (.ringcfgWrite q v) s (fun t => t.reported 0 code q.detail ∧ t.on F.FCL_RINGCFG_EN = s.on F.FCL_RINGCFG_EN
      ∧ t = s.noted t ∧ s.regsKept t [(.FCL, 0), (.TCE, 0)]) := by
  obtain ⟨hdone, hrep, hheld, -, honly⟩ := State.raise_a_done hs 0 code q.detail 1
  refine ⟨_, ?_, hrep, ?_, honly⟩
  · rw [execRingcfgWrite_eq hq, h]
    exact hdone
  · rw [State.on, hheld _ (by simp [fclHeld]), ← State.on]

end ringcfg

/-- A ring that is none of FCL's 96 to 111 is a reserved encoding (R339). -/
theorem State.ringcfgWrite_reserved (s : State) (q : Requester) {v : Nat} (h : bits v 22 16 < 96 ∨ 111 < bits v 22 16) :
    s.ringcfgWrite q v = s.unitFault .FCL 0 q 0xF2 := by
  unfold State.ringcfgWrite
  exact if_pos (by simpa using h)

/-- One that is not enabled with FCL as its producer is refused, where it would become FCL's (R339). -/
theorem State.ringcfgWrite_notIts (s : State) (q : Requester) {v : Nat} (hlo : 96 ≤ bits v 22 16) (hhi : bits v 22 16 ≤ 111) (hbit : bit v 31 = true)
    (hchanges : s.on F.FCL_RINGCFG_EN = false ∨ bits v 22 16 ≠ s.g F.FCL_RINGCFG_RING)
    (hits : ¬(s.ringEn (bits v 22 16) = true ∧ s.g (F.TCE_QCFG_PROD (bits v 22 16)) = 6)) : s.ringcfgWrite q v = s.unitFault .FCL 0 q 0xF8 := by
  have hfree : (s.ringEn (bits v 22 16) && s.g (F.TCE_QCFG_PROD (bits v 22 16)) == 6) = false := by
    rw [Bool.eq_false_iff]
    simpa using hits
  unfold State.ringcfgWrite
  simp only []
  rw [if_neg (by simp; omega), hfree, if_pos (by simpa [hbit] using hchanges)]
  rfl

/-! ### The copies (R341, R342) -/

/-- The oldest outstanding record's entry exists. -/
theorem State.oldestOutstanding_lt {s : State} {i : Nat} (h : s.oldestOutstanding = some i) : i < 16 :=
  histOrder_lt _ _ (List.mem_of_find?_eq_some h)

/-- s with copy k, 1 for A and 2 for B, the only one out of service. -/
def State.withoutCopy (s : State) (k : Nat) : State := { s with fcl := { s.fcl with retiredA := decide (k = 1), retiredB := decide (k = 2) } }

theorem State.retired_none {s : State} (hA : s.copyA = true) (hB : s.copyB = true) : s.fcl.retiredA = false ∧ s.fcl.retiredB = false := by
  simp only [State.copyB, Bool.and_eq_true, Bool.not_eq_true'] at hB
  exact ⟨by simpa [State.copyA] using hA, hB.2⟩

/-- With both copies in service, one that retires joins its event to the oldest outstanding record, or is reported (R341). -/
theorem State.retireCopy_both {s : State} {k : Nat} (hk : k = 1 ∨ k = 2) (hA : s.copyA = true) (hB : s.copyB = true) :
    (∀ i, s.oldestOutstanding = some i → s.retireCopy k = (s.withoutCopy k).modHist i HistRec.joined)
    ∧ (s.oldestOutstanding = none → s.retireCopy k = (s.withoutCopy k).raise 0 1 k .a) := by
  have hfcl : { s with fcl := if k = 1 then { s.fcl with retiredA := true } else { s.fcl with retiredB := true } } = s.withoutCopy k := by
    obtain ⟨hA', hB'⟩ := State.retired_none hA hB
    rcases hk with rfl | rfl
    · simp [State.withoutCopy, ← hB']
    · simp [State.withoutCopy, ← hA']
  have hsame : (s.withoutCopy k).oldestOutstanding = s.oldestOutstanding := rfl
  unfold State.retireCopy
  simp only [hfcl, hsame]
  refine ⟨fun i hold => ?_, fun hold => ?_⟩ <;> rw [hold]
  rfl

theorem State.fclMark_fcl (s : State) : s.fclMark.fcl = { s.fcl with markDue := s.fclMark.fcl.markDue } := by
  unfold State.fclMark
  split
  · rw [State.ringPutC_fcl]
  · rfl

theorem State.fclPost_fcl (s : State) (r : HistRec) : (s.fclPost r).fcl = s.fclMark.fcl := by
  unfold State.fclPost
  simp only []
  split
  · split
    · rw [State.ringPutC_fcl]
    · rw [State.inc, State.p_fcl, State.sawFull_fcl]
  · rfl

/-- Of FCL's state beyond its registers a record changes the history, the cause that is due and the mark that is due alone. -/
theorem State.recordEvent_fcl (s : State) (e : FaultEv) : (s.recordEvent e).fcl =
    { s.fcl with hist := (s.recordEvent e).fcl.hist, due := (s.recordEvent e).fcl.due, markDue := (s.recordEvent e).fcl.markDue } := by
  rcases s.recordEvent_cases e with ⟨i, -, -, -, heq⟩ | ⟨i, -, heq⟩ | ⟨-, u, hu, heq⟩
  · rw [heq]; rfl
  · rw [heq, State.takeHist]
    simp only []
    rw [State.traceEv_fcl, State.count_fcl, State.fclPost_fcl, State.fclMark_fcl]
    rfl
  · have hmiss : u.fcl = { s.fcl with hist := u.fcl.hist } := by rcases hu with rfl | ⟨i, rfl⟩ <;> rfl
    rcases heq with heq | heq <;> rw [heq]
    · rw [hmiss]
    · rw [u.noteDue_eq, hmiss]

/-- No event retires a copy. -/
theorem State.raise_a_retired (s : State) (source code detail reason : Nat) : (s.raise source code detail .a reason).fcl.retiredA = s.fcl.retiredA
    ∧ (s.raise source code detail .a reason).fcl.retiredB = s.fcl.retiredB := by
  have hraise : s.raise source code detail .a reason = s.recordEvent ⟨source, code, detail, .a, reason, none, false⟩ :=
    s.raiseEv_ne_c fun h => Cls.noConfusion h
  rw [hraise, s.recordEvent_fcl]
  exact ⟨rfl, rfl⟩

/-- A copy that leaves service while the other stays is reported, where no record is outstanding for it to join (R341). -/
theorem fclSelf_reported {s : State} (hs : s.plain) {k : Nat} (hk : k = 1 ∨ k = 2) (hA : s.copyA = true) (hB : s.copyB = true)
    (hold : s.oldestOutstanding = none) : Runs (.fclSelf k) s (fun t => t.fcl.retiredA = decide (k = 1) ∧ t.fcl.retiredB = decide (k = 2)
      ∧ t.reported 0 1 k ∧ t = s.noted t ∧ s.regsKept t [(.FCL, 0), (.TCE, 0)]) := by
  have hplain : (s.withoutCopy k).plain := hs
  obtain ⟨hdone, hrep, -, -, hnoted, hkept⟩ := State.raise_a_done hplain 0 1 k 1
  obtain ⟨hA', hB'⟩ := (s.withoutCopy k).raise_a_retired 0 1 k 1
  refine ⟨_, ?_, hA', hB', hrep, hnoted, hkept⟩
  show execFclSelf k s = _
  rw [execFclSelf, if_pos (by simp [hA, hB]), if_pos (by simpa using hk), (State.retireCopy_both hk hA hB).2 hold]
  exact hdone

/-- Where one is, it becomes SECONDARY. -/
theorem fclSelf_joined {s : State} (hs : s.plain) {k : Nat} (hk : k = 1 ∨ k = 2) (hA : s.copyA = true) (hB : s.copyB = true) {i : Nat}
    (hold : s.oldestOutstanding = some i) : exec (.fclSelf k) s = .next ((s.withoutCopy k).modHist i HistRec.joined) := by
  obtain ⟨⟨hset, -⟩, -⟩ := hs
  show execFclSelf k s = _
  rw [execFclSelf, if_pos (by simp [hA, hB]), if_pos (by simpa using hk), (State.retireCopy_both hk hA hB).1 i hold]
  exact done_settled hset

/-- A disagreement with no ECC error, or the loss of the last copy, raises FCL's own class-C event (R341, R342). -/
theorem execFclSelf_c {s : State} {k : Nat} (h : (s.copyA = true ∧ s.copyB = true ∧ k = 3)
      ∨ (k = 1 ∧ s.copyA = true ∧ s.copyB = false) ∨ (k = 2 ∧ s.copyA = false ∧ s.copyB = true)) :
    exec (.fclSelf k) s = done (s.raise 0 1 k .c 1) := by
  show execFclSelf k s = _
  rcases h with ⟨hA, hB, rfl⟩ | ⟨rfl, hA, hB⟩ | ⟨rfl, hA, hB⟩ <;> simp [execFclSelf, hA, hB]

/-! ### LEAVE (R345) -/

theorem State.outstanding_eq_zero (s : State) : s.outstanding = 0 ↔ ∀ k, k < 16 → (vget s.fcl.hist k).outstanding = false := by
  simp only [State.outstanding, List.length_eq_zero_iff, List.filter_eq_nil_iff, Vector.mem_toList_iff, Bool.not_eq_true]
  refine ⟨fun h k hk => ?_, fun h r hr => ?_⟩
  · rw [vget, dif_pos hk]
    exact h _ (Vector.getElem_mem hk)
  · obtain ⟨k, hk, rfl⟩ := Vector.mem_iff_getElem.1 hr
    have hout := h k hk
    rwa [vget, dif_pos hk] at hout

/-- The conditions of R345. -/
theorem State.mayLeave_iff (s : State) : s.mayLeave = true ↔ (∀ k, k < 16 → (vget s.fcl.hist k).outstanding = false) ∧ s.on F.THM_STAT_SHUT = false
    ∧ (s.g F.PSQ_STAT_STATE = 1 ∨ s.g F.PSQ_STAT_STATE = 2) ∧ s.synState 0 = syLOCKED ∧ s.on F.CORD_STAT_RUN = true ∧ s.on F.JRN_STAT_FLUSHED = true
    ∧ ∀ n, n < 8 → s.g (F.MOT_STAT_STATE n) ≠ mZT ∧ s.g (F.MOT_STAT_STATE n) ≠ mASC := by
  simp only [State.mayLeave, State.psqUp, Bool.and_eq_true, Bool.or_eq_true, beq_iff_eq, bne_iff_ne, Bool.not_eq_true', List.all_eq_true, List.mem_range,
    State.outstanding_eq_zero, and_assoc]

theorem execLeave_eq (s : State) (key : Nat) : exec (.leave key) s = done
    (if key % 256 ≠ 0x4B ∨ s.on F.FCL_STAT_KETTLE = false then s else if s.mayLeave then s.kettleLeave else s.raise 0 3 2 .a) := by
  have hkey : bits (key % 256 * 2 ^ 24 + 1) 31 24 = key % 256 := by
    rw [bits, Nat.shiftRight_eq_div_pow]
    omega
  have hleave : bit (key % 256 * 2 ^ 24 + 1) 0 = true := by
    rw [bit, Nat.shiftRight_zero, beq_iff_eq]
    omega
  show execLeave key s = _
  rw [execLeave, State.kcmdWrite, hkey, hleave]
  simp

/-- A loop that writes one field of each of several registers. -/
theorem State.forRange_p_regs (f : Nat → FieldRef) (x c : Nat) (m : Nat) (s : State) :
    forRange m c (fun k a => a.p (f k) x) s = { s with regs := (forRange m c (fun k a => a.p (f k) x) s).regs } := by
  induction c generalizing m s with
  | zero => rfl
  | succ c ih =>
    rw [forRange, ih]
    rfl

/-- It leaves a field that stands in none of them. -/
theorem State.forRange_p_g_ne {f : Nat → FieldRef} {g : FieldRef} (hg : ∀ k, g.reg.addr g.n g.k ≠ (f k).reg.addr (f k).n (f k).k) (x c m : Nat)
    (s : State) : (forRange m c (fun k a => a.p (f k) x) s).g g = s.g g := by
  induction c generalizing m s with
  | zero => rfl
  | succ c ih => rw [forRange, ih, State.g_p_ne _ _ (hg m)]

/-- In each it clears the field, where no two share a register. -/
theorem State.forRange_p_clears {f : Nat → FieldRef} (hf : ∀ j k, j ≠ k → (f j).reg.addr (f j).n (f j).k ≠ (f k).reg.addr (f k).n (f k).k)
    (hwf : ∀ k, (f k).lo ≤ (f k).hi + 1 ∧ (f k).hi < 32) {c m k : Nat} (hm : m ≤ k) (hc : k < m + c) (s : State) :
    (forRange m c (fun k a => a.p (f k) 0) s).g (f k) = 0 := by
  have hlater : ∀ (c m : Nat) (s : State), k < m → (forRange m c (fun k a => a.p (f k) 0) s).g (f k) = s.g (f k) := fun c => by
    induction c with
    | zero => exact fun _ _ _ => rfl
    | succ c ih => exact fun m s h => by rw [forRange, ih _ _ (by omega), State.g_p_ne _ _ (hf k m (by omega))]
  induction c generalizing m s with
  | zero => omega
  | succ c ih =>
    rw [forRange]
    by_cases h : m = k
    · rw [h, hlater _ _ _ (by omega), State.g_p_same _ _ _ (hwf k).1 (hwf k).2, Nat.zero_mod]
    · exact ih (by omega) (by omega) _

/-- s with the kettle state over, and the gating of its ports released (R345). -/
def State.ungated (s : State) : State :=
  forRange 0 2 (fun f a => a.p (F.FUS_STAT_KETTLE f) 0) (forRange 0 12 (fun k a => a.p (F.HV_STAT_KETTLE k) 0) (s.p F.FCL_STAT_KETTLE 0))

theorem State.kettleLeave_eq {s : State} (hl : s.obsLevel = 0) :
    s.kettleLeave = { s.ungated with gath := { s.ungated.gath with runPending := true } } := by
  have hlevel : (s.p F.FCL_STAT_KETTLE 0).obsLevel = 0 := by
    rw [State.obsLevel_p _ _ (by simp [F.FCL_STAT_KETTLE]) (by simp [F.FCL_STAT_KETTLE]), hl]
  unfold State.kettleLeave
  simp only [State.traceEv_off hlevel]
  rfl

theorem State.ungated_regs (s : State) : s.ungated = { s with regs := s.ungated.regs } := by
  rw [State.ungated, State.forRange_p_regs, State.forRange_p_regs]
  rfl

theorem State.ungated_kettle (s : State) : s.ungated.on F.FCL_STAT_KETTLE = false := by
  rw [State.on, State.ungated, State.forRange_p_g_ne fun k => by simp [F.FCL_STAT_KETTLE, F.FUS_STAT_KETTLE]; omega,
    State.forRange_p_g_ne fun k => by simp [F.FCL_STAT_KETTLE, F.HV_STAT_KETTLE]; omega, State.g_p_same _ _ _ (by decide) (by decide)]
  rfl

theorem State.ungated_hv (s : State) {k : Nat} (hk : k < 12) : s.ungated.on (F.HV_STAT_KETTLE k) = false := by
  rw [State.on, State.ungated, State.forRange_p_g_ne fun j => by simp [F.HV_STAT_KETTLE, F.FUS_STAT_KETTLE]; omega,
    State.forRange_p_clears (f := F.HV_STAT_KETTLE) (fun i j _ => by simp [F.HV_STAT_KETTLE]; omega) (fun _ => by simp [F.HV_STAT_KETTLE])
      (Nat.zero_le k) (by omega)]
  rfl

theorem State.ungated_fus (s : State) {f : Nat} (hf : f < 2) : s.ungated.on (F.FUS_STAT_KETTLE f) = false := by
  rw [State.on, State.ungated, State.forRange_p_clears (f := F.FUS_STAT_KETTLE) (fun i j _ => by simp [F.FUS_STAT_KETTLE]; omega)
    (fun _ => by simp [F.FUS_STAT_KETTLE]) (Nat.zero_le f) (by omega)]
  rfl

/-- LEAVE where its conditions hold: the kettle state ends, the gating with it, and the path is to run; nothing else changes (R80, R345). -/
theorem leave_ends {s : State} (hs : s.plain) (hk : s.on F.FCL_STAT_KETTLE = true) (hmay : s.mayLeave = true) :
    Runs (.leave 0x4B) s (fun t => t.on F.FCL_STAT_KETTLE = false ∧ t.gath = { s.gath with runPending := true }
      ∧ (∀ k, k < 12 → t.on (F.HV_STAT_KETTLE k) = false) ∧ (∀ f, f < 2 → t.on (F.FUS_STAT_KETTLE f) = false)
      ∧ t = { s with regs := t.regs, gath := t.gath }) := by
  obtain ⟨⟨hset, hlevel⟩, -⟩ := hs
  have hrun : exec (.leave 0x4B) s = done { s.ungated with gath := { s.ungated.gath with runPending := true } } := by
    rw [execLeave_eq, if_neg (by simp [hk]), if_pos hmay, State.kettleLeave_eq hlevel]
  have hkettle := s.ungated_kettle
  have hhv := fun k (hk : k < 12) => s.ungated_hv hk
  have hfus := fun f (hf : f < 2) => s.ungated_fus hf
  obtain ⟨r, hr⟩ : ∃ r, s.ungated = { s with regs := r } := ⟨_, s.ungated_regs⟩
  rw [hr] at hrun hkettle hhv hfus
  exact ⟨_, hrun.trans (done_settled hset), hkettle, rfl, hhv, hfus, rfl⟩

/-- LEAVE where they do not is refused, and the kettle state stays (R345). -/
theorem leave_refused {s : State} (hs : s.plain) (hk : s.on F.FCL_STAT_KETTLE = true) (hmay : s.mayLeave = false) :
    Runs (.leave 0x4B) s (fun t => t.on F.FCL_STAT_KETTLE = true ∧ t.reported 0 3 2 ∧ t = s.noted t ∧ s.regsKept t [(.FCL, 0), (.TCE, 0)]) := by
  obtain ⟨hdone, hrep, hheld, -, honly⟩ := State.raise_a_done hs 0 3 2 1
  refine ⟨_, ?_, ?_, hrep, honly⟩
  · rw [execLeave_eq, if_neg (by simp [hk]), if_neg (by simp [hmay]), hdone]
  · rw [State.on, hheld _ (by simp [fclHeld]), ← State.on, hk]

/-- With another KEY, or outside the kettle state, it changes nothing (R345). -/
theorem leave_ignored {s : State} (hs : s.plain) {key : Nat} (h : key % 256 ≠ 0x4B ∨ s.on F.FCL_STAT_KETTLE = false) :
    exec (.leave key) s = .next s := by
  obtain ⟨⟨hset, -⟩, -⟩ := hs
  rw [execLeave_eq, if_pos h]
  exact done_settled hset

end Sys2Proof.Machine
end

section
/-! The fault collector: the statement. -/

namespace Sys2Proof.Machine

/-- Settles O41: an event of class A or B by what recording it does, each entry into the kettle state by what an entry leaves of FCL.STAT and of the records,
and the refusals by the class-A event that each raises. -/
theorem faultCollector : Obligations.FaultCollector := by
  intro s hs
  have ⟨_, _, hclear⟩ := hs
  simp only []
  refine ⟨fun source code detail cls reason folios i hex hcode hdetail hlo hhi =>
      ⟨fun hc hfresh => ?_, fun hc hi hout hsame hothers => ?_, fun hk => ?_⟩,
    fun k hlt hout => ⟨fun r hr hb hesc hdl hsrc hcode hk => ?_, fun seq hseq hearly => ?_, fun r seq hr hseq hb hesc hdl hsrc hcode hk => ?_,
      fun seq hseq => ?_⟩,
    fun k seq hlt hout => ?_, fun q x i code cls reason hq hx hex hc hevent hfresh => ?_, fun q x hq hlo hhi hcls hk => ?_,
    fun q v hq => ⟨fun hlo hhi => ⟨fun hok => ?_, fun hbit hchanges hits => ?_⟩, fun hring => ?_⟩,
    fun hA hB => ⟨fun k hk => ⟨fun hold => ?_, fun i hold => ?_⟩, fun hk => ?_⟩, fun k hcopy hk => ?_,
    fun hk hmay => ?_, fun hk hmay => ?_, fun key hkey => ?_⟩
  -- FAULT_EVENT: a new event, a repeat, and class C (R334 to R336)
  · obtain ⟨hfree, hnew, hnewest⟩ := hfresh
    obtain ⟨htaken, honly⟩ := State.recordEvent_taken hs (e := ⟨source, code, detail, cls, reason, none, false⟩) hfree hnew hnewest
    rw [State.newRec_clear hclear rfl] at htaken
    exact Runs.of ((execFaultEvent_eq hs cls folios hex hcode hdetail hlo hhi).trans (State.raiseEv_done hs hc)) ⟨htaken, honly⟩
  · refine Runs.of ((execFaultEvent_eq hs cls folios hex hcode hdetail hlo hhi).trans (State.raiseEv_done hs hc)) ?_
    rw [State.recordEvent_repeats hi hout hsame hothers]
    exact ⟨s.modHist_get_same _ hi, rfl, fun k hk => s.modHist_get_ne _ hk⟩
  · have hsrc := State.sourceExists_lt hex
    obtain ⟨⟨hon, hksrc, hkcode⟩, hrep⟩ :=
      State.raiseEv_c_enters hs hk (e := ⟨source, code, detail, .c, reason, none, false⟩) rfl (show source < 256 by omega) hcode
    exact Runs.of (execFaultEvent_eq hs .c folios hex hcode hdetail hlo hhi) ⟨hon, hksrc, hkcode, hrep⟩
  -- a record at its deadline, and its acknowledgement before and after (R335, R337)
  · subst hr
    exact (classbDeadline_enters hs hlt hout hb hesc hdl hsrc hcode hk).imp fun t ⟨⟨hon, hksrc, hkcode⟩, hrec⟩ => ⟨hon, hksrc, hkcode, hrec⟩
  · exact Runs.of (fclAck_ends hs hlt hout hseq hearly) ⟨s.modHist_get_same _ hlt, rfl, fun j hj => s.modHist_get_ne _ hj⟩
  · subst hr
    exact fclAck_overdue hs hlt hout hseq hb hesc hdl hsrc hcode hk
  -- a refused acknowledgement (R337)
  · exact hout ▸ fclAck_refused hs hlt (.inr hseq)
  · exact hout ▸ fclAck_refused hs hlt (.inl hout)
  -- FORCE (R340)
  · obtain ⟨hfree, hnew, hnewest⟩ := hfresh
    obtain ⟨htaken, honly⟩ := State.recordEvent_taken hs (e := ⟨x, code, q.detail, cls, reason, none, decide (x < 128)⟩) hfree hnew hnewest
    rw [State.newRec_clear hclear rfl] at htaken
    refine Runs.of ?_ ⟨htaken, honly⟩
    rw [execFclForce_eq hq hx, State.forceOne_clear hclear q hex, s.forcedEvent_eq q hevent]
    exact State.raiseEv_done hs hc
  · have hevent := s.forcedEvent_eq q (x := x) (.inl ⟨hlo, rfl, rfl, rfl⟩)
    rw [hcls] at hevent
    obtain ⟨⟨hon, hksrc, -⟩, hrep⟩ := State.raiseEv_c_enters hs hk (e := s.forcedEvent q x) (by rw [hevent]; rfl)
      (by rw [hevent]; exact (by omega : x < 256)) (by rw [hevent]; exact s.g_lt (F.FCL_SRCCFG_CODE (x - 128)))
    refine Runs.of ((execFclForce_eq hq hhi).trans ?_) ⟨hon, ?_, ?_⟩
    · rw [State.forceOne_clear hclear q (s.sourceExists_firmware hlo hhi)]
      rfl
    · rw [hksrc, hevent]
    · rwa [hevent] at hrep ⊢
  -- RINGCFG (R339)
  · obtain ⟨hset, honly⟩ := State.ringcfgSet_marked hs v
    refine Runs.of (ringcfgWrite_sets hs hq hlo hhi hok) ⟨hset, honly, fun hidle => ?_, fun hdue hbit hpost => ?_⟩
    · rw [State.fclMark_idle (hidle.imp id fun h => (s.ringcfgSet_on v).trans h)]
      exact ⟨rfl, s.ringcfgSet_regsKept v⟩
    · exact State.ringcfgSet_posts hs hdue hbit hpost
  · exact ringcfgWrite_refused hs hq (s.ringcfgWrite_notIts q hlo hhi hbit hchanges hits)
  · exact ringcfgWrite_refused hs hq (s.ringcfgWrite_reserved q hring)
  -- the copies (R341, R342)
  · exact fclSelf_reported hs hk hA hB hold
  · exact Runs.of (fclSelf_joined hs hk hA hB hold) ⟨rfl, rfl, (s.withoutCopy k).modHist_get_same _ (State.oldestOutstanding_lt hold), rfl⟩
  · obtain ⟨⟨hon, -, -⟩, hrep⟩ := State.raiseEv_c_enters hs hk (e := ⟨0, 1, 3, .c, 1, none, false⟩) rfl (by decide) (by decide)
    exact Runs.of (execFclSelf_c (.inl ⟨hA, hB, rfl⟩)) ⟨hon, hrep⟩
  · obtain ⟨⟨hon, hksrc, hkcode⟩, hrep⟩ :=
      State.raiseEv_c_enters hs hk (e := ⟨0, 1, k, .c, 1, none, false⟩) rfl (show 0 < 256 by decide) (show 1 < 256 by decide)
    exact Runs.of (execFclSelf_c (.inr hcopy)) ⟨hon, hksrc, hkcode, hrep⟩
  -- LEAVE (R345)
  · exact leave_ends hs hk (s.mayLeave_iff.2 hmay)
  · exact leave_refused hs hk (Bool.eq_false_iff.2 fun h => hmay (s.mayLeave_iff.1 h))
  · exact Runs.of (leave_ignored hs hkey) rfl

end Sys2Proof.Machine
end
